-- ==== Sys2Proof/Word.lean ====
section
/-!
DEFINITION. The word types of the module: registers are 32 bits wide (R11), memories are byte-wide and
little-endian (R10).
-/
namespace Sys2Proof

/-- One register word (R11). -/
abbrev Word := BitVec 32
/-- One byte of memory. -/
abbrev Byte := BitVec 8

end Sys2Proof
end

