-- ==== Sys2Proof/Machine/Num.lean ====
section
/-!
DEFINITION. Plain arithmetic the meanings share: truncation, saturation, two's complement, bit access,
little-endian bytes (R10) and the two checks the spec names (CRC-32 of IEEE 802.3, R453; CRC-64, R127).
-/
namespace Sys2Proof.Machine

/-- `v` in `w` bits. -/
def trunc (w v : Nat) : Nat := v % 2 ^ w
/-- A counter of `w` bits that stays at its maximum. -/
def satAdd (w a b : Nat) : Nat := min (a + b) (2 ^ w - 1)
/-- The value of a `w`-bit two's-complement pattern. -/
def toSigned (w v : Nat) : Int := if v % 2 ^ w < 2 ^ (w - 1) then (v % 2 ^ w : Nat) else ((v % 2 ^ w : Nat) : Int) - (2 ^ w : Nat)
/-- The `w`-bit two's-complement pattern of a number. -/
def ofSigned (w : Nat) (i : Int) : Nat := (i % (2 ^ w : Nat)).toNat
/-- `i` held within `lo` and `hi`. -/
def clampInt (lo hi i : Int) : Int := if i < lo then lo else if hi < i then hi else i
/-- 1 for true. -/
def b2n (b : Bool) : Nat := if b then 1 else 0
/-- Bit `i` of `v`. -/
def bitOf (v i : Nat) : Bool := v / 2 ^ i % 2 == 1
/-- `v` with bit `i` set. -/
def bitSet (v i : Nat) : Nat := if bitOf v i then v else v + 2 ^ i
/-- `v` with bit `i` clear. -/
def bitClr (v i : Nat) : Nat := if bitOf v i then v - 2 ^ i else v
/-- `v` with bit `i` as given. -/
def bitPut (v i : Nat) (b : Bool) : Nat := if b then bitSet v i else bitClr v i
/-- The bits of `v` below `n` that are set, lowest first. -/
def bitsOf (n v : Nat) : List Nat := (List.range n).filter (bitOf v)
/-- The mask whose set bits are those listed. -/
def maskOf (l : List Nat) : Nat := l.foldl bitSet 0
/-- Bits `hi` down to `lo` of `v`. -/
def bitField (v lo w : Nat) : Nat := v / 2 ^ lo % 2 ^ w
/-- `v` divided by `d`, rounded up. -/
def ceilDiv (v d : Nat) : Nat := (v + d - 1) / d

/-- The `n` little-endian bytes of `v` (R10). -/
def leBytes : Nat → Nat → List Byte
  | 0, _ => []
  | n + 1, v => BitVec.ofNat 8 v :: leBytes n (v / 256)
/-- The number that little-endian bytes spell (R10). -/
def ofBytes : List Byte → Nat
  | [] => 0
  | b :: r => b.toNat + 256 * ofBytes r

/-- One bit step of the reflected CRC-32 with polynomial 0xEDB88320. -/
def crc32Bit (c : Nat) : Nat := if c % 2 = 1 then (c / 2) ^^^ 0xEDB88320 else c / 2
/-- One byte of the CRC-32. -/
def crc32Byte (c : Nat) (b : Byte) : Nat := Nat.repeat crc32Bit 8 (c ^^^ b.toNat)
/-- CRC-32 of IEEE 802.3 (R453, R472). -/
def crc32 (l : List Byte) : Nat := (l.foldl crc32Byte 0xFFFFFFFF) ^^^ 0xFFFFFFFF

end Sys2Proof.Machine
end

