-- ==== Sys2Proof/Machine/Containers.lean ====
section
/-!
DEFINITION. The two containers of the state: a sparse table by number, kept sorted with no number twice, and one
item for each of three Piers or slices.
-/
namespace Sys2Proof

/-- The three execution lanes (R1). -/
inductive Pier where
  | A | B | C
deriving DecidableEq, Repr

/-- One item per Pier, or per field I/O slice. -/
structure Tri (α : Type) where
  a : α
  b : α
  c : α
deriving DecidableEq, Repr

end Sys2Proof

namespace Sys2Proof.Machine

/-- The number of a Pier: 0 A, 1 B, 2 C (R453). -/
def pierIdx : Pier → Nat
  | .A => 0
  | .B => 1
  | .C => 2
/-- The Piers in the order A, B, C. -/
def allPiers : List Pier := [.A, .B, .C]
/-- The Pier of a number; numbers above 2 name C. -/
def pierOf : Nat → Pier
  | 0 => .A
  | 1 => .B
  | _ => .C

/-- The item of one Pier. -/
def triGet {α : Type} (t : Tri α) : Pier → α
  | .A => t.a
  | .B => t.b
  | .C => t.c
/-- `t` with the item of one Pier replaced. -/
def triSet {α : Type} (t : Tri α) (p : Pier) (x : α) : Tri α :=
  match p with
  | .A => { t with a := x }
  | .B => { t with b := x }
  | .C => { t with c := x }
/-- The same item for every Pier. -/
def triAll {α : Type} (x : α) : Tri α := ⟨x, x, x⟩
/-- The items in the order A, B, C. -/
def triList {α : Type} (t : Tri α) : List α := [t.a, t.b, t.c]
/-- A function of every item. -/
def triMap {α β : Type} (f : α → β) (t : Tri α) : Tri β := ⟨f t.a, f t.b, f t.c⟩

/-- A table by number: strictly rising numbers. -/
abbrev NMap (α : Type) := List (Nat × α)

/-- The entry of a number. -/
def mget {α : Type} : NMap α → Nat → Option α
  | [], _ => none
  | (k, v) :: r, i => if k = i then some v else mget r i
/-- The entry of a number, or a default. -/
def mgetD {α : Type} (m : NMap α) (i : Nat) (dflt : α) : α := (mget m i).getD dflt
/-- `m` with the entry of `i` set to `v`. -/
def mput {α : Type} : NMap α → Nat → α → NMap α
  | [], i, v => [(i, v)]
  | (k, w) :: r, i, v =>
    if i < k then (i, v) :: (k, w) :: r else if i = k then (k, v) :: r else (k, w) :: mput r i v
/-- `m` without an entry of `i`. -/
def mdel {α : Type} (m : NMap α) (i : Nat) : NMap α := m.filter fun c => c.1 != i
/-- The numbers strictly rise, and all lie above `lo` when it is given. -/
def risesFrom {α : Type} : Option Nat → NMap α → Bool
  | _, [] => true
  | none, (k, _) :: r => risesFrom (some k) r
  | some l, (k, _) :: r => decide (l < k) && risesFrom (some k) r
/-- The table is in its canonical form. -/
def mwf {α : Type} (m : NMap α) : Bool := risesFrom none m

/-- The list with its element `i` replaced. -/
def listSet {α : Type} (l : List α) (i : Nat) (x : α) : List α := l.set i x
/-- The first element that meets a test. -/
def firstOf {α : Type} (f : α → Bool) (l : List α) : Option α := l.find? f
/-- Every element changed by a function where it meets a test. -/
def mapIf {α : Type} (f : α → Bool) (g : α → α) (l : List α) : List α := l.map fun x => if f x then g x else x

end Sys2Proof.Machine
end

