-- ==== Sys2Proof/Types.lean ====
section
/-!
DEFINITION. The types of the commands' operands.
-/
namespace Sys2Proof.Machine

/-- A data item of an event: 4 bytes, or 8 bytes at a multiple of 8. -/
inductive Item where
  | w (v : Nat)
  | q (v : Nat)
  /-- A byte run at its own place, for the codes whose rule gives byte positions. -/
  | raw (l : List Byte)
deriving DecidableEq, Repr

/-- The result of the best master clock algorithm: no change, a slave port, or the module itself (R236, R241). -/
inductive BmcResult where
  | same
  | slave (port passive : Nat)
  | self (passive : Nat)
deriving DecidableEq, Repr

/-- A setting of the Time unit that firmware may write (R251, R259). -/
inductive TuSetting where
  | slewLimit
  | jumpThresh
  | pdStep
  | asym (port : Nat)
  | launch (port : Nat)
deriving DecidableEq, Repr

/-- How a data phase of the backplane ends (R397, R412): ready with the data on the bus, error, or read data of wrong
parity. -/
inductive PhaseEnd where
  | ready (data : Nat)
  | error
  | parity
deriving DecidableEq, Repr

/-- What a safety copy carries for R300: whether its safety code and its user data version are right, and its safe
sequence counter. -/
structure Sdt where
  codeOk : Bool
  versionOk : Bool
  ssc : Nat
deriving DecidableEq, Repr

/-- A frame addressed to the module as the Trestle sees it. The Boolean flags say that the checks of the kinds HEADER
and UNSUPPORTED of R302 fail; `msg` is 0 Pd, 1 Pr, 2 Pp, 3 Mn, 4 Mr, 5 Mp, 6 Mq, 7 Mc, 8 Me, 9 any other type; `udpLen`
is the length that the frame's UDP length leaves for the data set; a fragment of MD has its key, offset and last flag. -/
structure TrFrame where
  badHeader : Bool
  unsupported : Bool
  ptpMgmt : Bool
  msg : Nat
  comId : Nat
  src : Nat
  dst : Nat
  seq : Nat
  etb : Nat
  opTrn : Nat
  dataLen : Nat
  udpLen : Nat
  payload : List Byte
  sdt : Option Sdt
  session : Nat
  listener : Bool
  frag : Option (Nat × Nat × Bool)
  port : Nat
  time : Nat
deriving DecidableEq, Repr

/-- Where a frame goes beyond the switch: nothing of the module's, the Time unit (a PTP message), the Trestle (process or message data), or another
protocol of the module (ARP, ICMP, IGMP). -/
inductive FrameFor where
  | transit
  | ptp
  | trestle (f : TrFrame)
  | control
deriving DecidableEq, Repr

/-- An Ethernet frame at a switch port (R281 to R286): addresses, VLAN tag (VID, PCP), length, FCS, R-TAG, IPv4
destination of a frame that is to be routed. -/
structure EthFrame where
  dst : Nat
  src : Nat
  tag : Option (Nat × Nat)
  len : Nat
  fcsOk : Bool
  rtag : Option Nat
  ipDst : Option Nat
  content : FrameFor
deriving DecidableEq, Repr

/-- What comes of a TTDP frame (R288, R289): nothing, an inauguration that begins, one that completes with the new
counts, consists, own position, orientation and R-NAT table, or one that inhibition stops. -/
inductive TtdpResult where
  | nothing
  | running
  | done (etb opTrn consists pos orient : Nat) (rnat : List (Nat × Nat))
  | inhibited
deriving DecidableEq, Repr

/-- A frame on an MVB line (R316 to R318): one with an error, a master frame, a slave frame, or the result of a transfer of
mastership. -/
inductive MvbFrame where
  | bad
  | master (fcode addr : Nat)
  | slave (addr : Nat) (payload : List Byte)
  | mastership (gained : Bool) (master : Nat)
deriving DecidableEq, Repr

/-- A frame on the WTB or what node management makes of it (R319 to R321): an error on line A (false) or B, another
node's frame, the poll for the own frame, a new coupler setting asked for, an inauguration that begins, and one that
completes. -/
inductive WtbFrame where
  | bad (line : Bool)
  | data (node : Nat) (payload : List Byte)
  | poll
  | setting (s : Nat)
  | inaugurating
  | inaugurated (topo nodes own : Nat) (master : Bool)
deriving DecidableEq, Repr

/-- A CAN frame received, the error counters after an error, a J1939 address claimed, or a claim lost to the NAME of the
winner (R322 to R326). -/
inductive CanFrame where
  | data (ident : Nat) (ext fd : Bool) (payload : List Byte)
  | errors (tec rec : Nat)
  | claimed (addr : Nat)
  | claimLost (winner : Nat)
deriving DecidableEq, Repr

/-- A submission descriptor (R340): its fields and the 28 argument bytes 36 to 63. -/
structure Desc where
  id : Nat
  op : Nat
  flags : Nat
  payLen : Nat
  payAddr : Nat
  resAddr : Nat
  resLen : Nat
  args : List Byte
deriving DecidableEq, Repr

/-- What the outside decides of a Pier's contribution to a mailbox slot (R106, R107): the cycle number its header names, the re-read flag,
its change state item where there is one (R207), and how it departs from what a sound Pier posts: a number XORed to generation, map
identifier, class and item count of the header and to the frame digest, and by item a captured flag turned over and a pattern XORed. -/
structure Contribution where
  cycle : Nat
  reread : Bool
  xGen : Nat
  xMap : Nat
  xCls : Nat
  xCount : Nat
  misread : Nat
  errs : NMap (Bool × Nat)
  change : Option Nat
deriving DecidableEq, Repr

/-- What a segment does in its execute phase, in program order (R99, R174): a store into and a load from an address, a trap under R99 of a
kind and at an address, an outbound request, and a setting of the Pier's own slice by the offset of its register. -/
inductive SegAct where
  | store (addr : Nat) (data : List Byte)
  | load (addr width : Nat)
  | trap (kind addr : Nat)
  | req (unit target attr : Nat) (payload : List Byte)
  | slice (off value : Nat)
deriving DecidableEq, Repr

/-- A carry-over run (R205, R210): how long it took in µs, and what its conversion routines have computed for each variable. -/
structure CarryRun where
  us : Nat
  conv : NMap (List Byte)
deriving DecidableEq, Repr

/-- The run of a segment in a class cycle. -/
structure SegRun where
  seg : Nat
  acts : List SegAct
deriving DecidableEq, Repr

/-- An outbound request: header and payload. -/
structure OutReq where
  cycle : Nat
  cls : Nat
  unit : Nat
  seq : Nat
  target : Nat
  attr : Nat
  payload : List Byte
deriving DecidableEq, Repr

/-- A journal entry (R349): kind 0 ACCEPT, 1 START, 2 FINAL; the opcode or status; the descriptor flags of an accept entry;
ring; PARTNER_ORIGIN; the accept entry it refers to (START, FINAL); the result length of a FINAL; the 52 bytes from byte
12 on. -/
structure JEntry where
  kind : Nat
  id : Nat
  code : Nat
  flags : Nat
  ring : Nat
  partner : Bool
  ref : Nat
  resLen : Nat
  body : List Byte
deriving DecidableEq, Repr

/-- The fields of a firmware slot header (R481): release version, security version, key index, Loenpa protocol number, image length,
image hash, component bits. -/
structure SlotHdr where
  release : Nat
  sec : Nat
  key : Nat
  proto : Nat
  len : Nat
  hash : Nat
  components : Nat
deriving DecidableEq, Repr

/-- A package manifest (R487, R488): whether its fixed fields hold and its SHA-256 is the identity it came with, identity as the number
its bytes spell, chunk count, data length, base release and hash, target hash, target slot header. -/
structure Manifest where
  fixedOk : Bool
  identity : Nat
  chunks : Nat
  dataLen : Nat
  baseRel : Nat
  baseHash : Nat
  targetHash : Nat
  hdr : SlotHdr
deriving DecidableEq, Repr

/-- What the self-tests of boot steps 4 and 5 find (R83): for each Pier the blocks of its failed tests (two entries where the repeat failed
too), failing Keystone halves as a bit mask, failing copies of lockstep pairs as (unit, bit mask), whether Deck SDRAM fails, and the
number of a failed case of the injection test (R82). -/
structure SelfTest where
  piers : Tri (List Nat)
  halves : Nat
  pairs : List (Nat × Nat)
  deckSdram : Bool
  injection : Option Nat
deriving DecidableEq, Repr

/-- What a boot step finds (R80): 3 the position and the recorder's corrupt and unreadable slots, 4 and 5 the self-tests, 7 for each slot the
refusal reason of checks 1 to 4 of R483 (0 none), 10 the result of the image's checks (0 good, 2 hash, 3 stamp), 11 the load signatures. -/
inductive BootResult where
  | step3 (pos : Bool) (corrupt unreadable : List Nat)
  | step4 (t : SelfTest)
  | step5 (t : SelfTest)
  | step6
  | step7 (slotA slotB : Nat)
  | step8
  | step9
  | step10 (check : Nat)
  | step11 (sigs : Tri Nat)
deriving DecidableEq, Repr

/-- The side a register access comes from: the Deck controller, a Pier, a released request of unit 6 (R124), and the host through
BAR0 or BAR2, whose addresses are offsets in the BAR (R37). -/
inductive RegSide where
  | deck
  | pier (p : Pier)
  | voted
  | bar0
  | bar2
deriving DecidableEq, Repr

/-- The initiator of an access (R35), with its number in an event: Pier A 0, B 1, C 2, Deck controller 3, Host interface DMA 4, another bus
master 5, the host 6. -/
inductive Initiator where
  | pier (p : Pier)
  | deck
  | dma
  | master
  | host
deriving DecidableEq, Repr

end Sys2Proof.Machine
end

