-- ==== Sys2Proof/Image.lean ====
section
/-!
DEFINITION. What a program image and a change set say, as far as the module acts on it (R108, R180, R198, R294, R313, R408, R415).
-/
namespace Sys2Proof.Machine

/-- A scan entry of the image (R408). -/
structure ImgScan where
  win : Nat
  off : Nat
  words : Nat
  station : Nat
deriving DecidableEq, Repr

/-- A safe-list write of the image (R415). -/
structure ImgSafeWrite where
  win : Nat
  off : Nat
  be : Nat
  value : Nat
deriving DecidableEq, Repr

/-- A publication of the image (R294): `ports` is its egress mask, `invalid` its SAFE behaviour INVALID, `stopLast` its
STOP behaviour LAST, `observed` that its copies are
compared (R383), `period` and `offset` those of a decoupled class, `tsId` the timestamp identifier of its scheduled frames, 0 for none
(R255; log 160); VLAN and stream of R286; SID and user data version of a safety publication. -/
structure ImgPub where
  tsId : Nat
  vlan : Nat
  stream : Option Nat
  sid : Nat
  udv : Nat
  comId : Nat
  dst : Nat
  ports : Nat
  len : Nat
  cls : Nat
  period : Nat
  offset : Nat
  safety : Bool
  invalid : Bool
  stopLast : Bool
  observed : Bool
  safe : List Byte
deriving DecidableEq, Repr

/-- A subscription of the image (R294), its timeout in ms. -/
structure ImgSub where
  comId : Nat
  src : Option Nat
  dst : Nat
  len : Nat
  station : Nat
  safety : Bool
  sid : Nat
  udv : Nat
  timeout : Nat
deriving DecidableEq, Repr

/-- A receive object of the image: identifier (an MVB port address, a WTB node, a CAN identifier), mask, format, and
the station it feeds, if any (R313). -/
structure ImgLbRx where
  ident : Nat
  mask : Nat
  ext : Bool
  station : Option Nat
deriving DecidableEq, Repr

/-- A send object of the image: identifier, owning class, STOP behaviour LAST, safe payload, and for CAN its own launch
offset in ns from the due tick (R313, R314, R324). -/
structure ImgLbTx where
  ident : Nat
  cls : Nat
  stopLast : Bool
  safe : List Byte
  launchAt : Option Nat
deriving DecidableEq, Repr

/-- What the image says of a legacy port: receive and send objects by number, acceptance filters (identifier, mask,
29-bit), SYNC producer class (R326), heartbeat consumers (node, station), J1939 NAME. -/
structure ImgLb where
  rx : NMap ImgLbRx
  tx : NMap ImgLbTx
  filters : List (Nat × Nat × Bool)
  syncCls : Option Nat
  heartbeats : NMap Nat
  name : Nat
deriving DecidableEq, Repr

/-- An input variable that a station feeds: place in the station's data, and its substitute (R180): rule 0 ZERO, 1 LAST,
2 DEFINED. -/
structure ImgStnVar where
  off : Nat
  len : Nat
  rule : Nat
  value : Nat
deriving DecidableEq, Repr

/-- A station of the image (R180): class, timeout in periods, the input variables it feeds, and the variables sent to it. -/
structure ImgStation where
  cls : Nat
  timeout : Nat
  vars : List ImgStnVar
  outs : List Nat
deriving DecidableEq, Repr

/-- The source of an item of an input map (R108, R114, R271, R433): debounced inputs, the edge stamp of an input, readback, the output flags (0
EXT_DRIVEN, 1 OVERLOAD, 2 THERMAL), a field supply, the pulses of a speed input in the cycle and its direction, the position of a
reference, the hit flags, the hit time of a trigger; or a register, which is the one source that is not slice-sensed (R34). -/
inductive ItemSrc where
  | di
  | flags (k : Nat)
  | edge (n : Nat)
  | readback
  | fs (k : Nat)
  | pulses (n : Nat)
  | dir (n : Nat)
  | pos (r : Nat)
  | hits
  | hitTime (k : Nat)
  | reg (addr : Nat)
deriving DecidableEq, Repr

/-- An item of a class's input map (R108): source, kind code, size in bytes, tolerance, safe side HIGH, default, minority limit (R116),
and for a TIME item the item and bit of the input it is tied to (R115). -/
structure ImgItem where
  src : ItemSrc
  kind : Nat
  size : Nat
  tol : Nat
  high : Bool
  dflt : Nat
  limit : Nat
  tie : Option (Nat × Nat)
deriving DecidableEq, Repr

/-- A segment (R170): its number, its class and its core index. -/
structure ImgSeg where
  num : Nat
  cls : Nat
  core : Nat
deriving DecidableEq, Repr

/-- What the image says of a class beside its registers: the inputs whose edge items the class maps (bit per DI),
its scan list, its input map identifier and items, and the outputs it drives (bit per DO, R175). -/
structure ImgClass where
  edgeInputs : Nat
  scan : List ImgScan
  mapId : Nat
  items : List ImgItem
  drives : Nat
deriving DecidableEq, Repr

/-- Where the value of a variable comes from: a segment writes it, an item of the class's input map, or an input variable of a station. -/
inductive VarSrc where
  | own
  | item (i : Nat)
  | station (n k : Nat)
deriving DecidableEq, Repr

/-- A variable of the image: owning class, data kind (R108), whether it is marked safety, editable (R216) and a constant, its
range as 8-byte patterns, its source, its segment, its offset in the process image and that of its agreement status (R176), core,
address and bytes of its place in Pier-private memory, and whether it is exchanged between classes or cores (R100). -/
structure ImgVar where
  cls : Nat
  kind : Nat
  safety : Bool
  editable : Bool
  const : Bool
  lo : Nat
  hi : Nat
  src : VarSrc
  seg : Nat
  off : Nat
  stat : Option Nat
  core : Nat
  addr : Nat
  size : Nat
  shared : Bool
deriving DecidableEq, Repr

/-- A program image as far as its contents act: segments in image order, input maps and scans by class, safe list, publications,
subscriptions, legacy ports, stations, variables, tolerance of the position of a reference (R114), the class that the image marks as the arming
class of each host-armable trigger, first address and bytes of code and constants, bytes of writable state, first address and bytes of
the retained area (R378), initial contents of Pier memory, code and constants among them, by core and address (R99), severities of application events (R454), and the values of the register
fields whose Reset column says image (R17). -/
structure Image where
  segs : List ImgSeg
  classes : NMap ImgClass
  safeList : List ImgSafeWrite
  pubs : NMap ImgPub
  subs : NMap ImgSub
  legacy : NMap ImgLb
  stations : NMap ImgStation
  vars : NMap ImgVar
  posTol : NMap Nat
  armable : NMap Nat
  codeBase : Nat
  codeBytes : Nat
  stateBytes : Nat
  retainedAt : Nat
  retained : Nat
  init : List (Nat × Nat × List Byte)
  events : NMap Nat
  regs : NMap Nat
deriving DecidableEq, Repr

/-- An entry of a carry-over map (R202): the old variable is kept, converted, or gets an initial value. -/
inductive MapEntry where
  | keep (id : Nat)
  | convert (id : Nat)
  | initialise (id : Nat) (value : List Byte)
deriving DecidableEq, Repr

/-- A segment of a change set (R198): number, class, core, and 0 changed, 1 added, 2 removed. -/
structure SegChange where
  num : Nat
  cls : Nat
  core : Nat
  how : Nat
deriving DecidableEq, Repr

/-- A change set (R198 to R202): length of its manifest, segments, carry-over map and reverse map, the image's code bytes and
writable bytes with old and new side by side, variables after it, worst-case carry-over in µs, the new input maps by class, the new
variables, the new code and constants by core and address, and the new values of image register fields. -/
structure ChangeSet where
  manifest : Nat
  segs : List SegChange
  map : List MapEntry
  rmap : List MapEntry
  codeBytes : Nat
  stateBytes : Nat
  varCount : Nat
  wco : Nat
  maps : NMap ImgClass
  vars : NMap ImgVar
  init : List (Nat × Nat × List Byte)
  regs : NMap Nat
deriving DecidableEq, Repr

/-- An entry of the image log (R207, R217, R221, R222): a change set or its revert, with the command's accept sequence and whether it is
final (R214), or the items of an edit; each with the generation it gives, 0 while it is pending. -/
inductive LogEntry where
  | change (gen cmd : Nat) (reverting final : Bool) (cs : ChangeSet)
  | edit (gen cmd : Nat) (items : List (Nat × Nat))
deriving DecidableEq, Repr

/-- A checkpoint (R378): class and cycle, cycle numbers of every class, image, journal position, change state (0 none,
1 pending, 3 armed with `chNs`, 4 revertible) with the accept sequence of its command, epoch, claim, size of the
retained area in bytes and its contents, force table, safe sequence counters by subscription and by publication (R301), age, cycles in LOST and
status of the stations, and the schedule time of its completion. -/
structure Checkpoint where
  cls : Nat
  cycle : Nat
  cycles : NMap Nat
  imageId : Nat
  generation : Nat
  jpos : Nat
  chState : Nat
  chCmd : Nat
  chNs : Nat
  epochNum : Nat
  epochE : Int
  claim : Nat
  retained : Nat
  contents : NMap Byte
  forces : NMap Nat
  ssc : NMap Nat
  sscOut : NMap Nat
  stations : NMap (Nat × Nat × Nat)
  time : Nat
deriving DecidableEq, Repr

/-- An output declaration (R383): cycle and its due tick, commanded states and agreed readback of DO0 to DO15, payload CRC of
each observed publication, count and CRC of the writes to observed windows. -/
structure Declaration where
  cycle : Nat
  due : Nat
  outputs : Nat
  readback : Nat
  pubs : NMap Nat
  gbCount : Nat
  gbCrc : Nat
deriving DecidableEq, Repr

/-- A frame of another type than the rows of the table name, as it arrives on the Loenpa link (R367, R368): one with a wrong
CRC on a lane (false A, true B), an idle frame, a status frame, a journal entry with the payload of its command, an ACKID, a
forwarded command, an epoch, a relayed change set, the standby's STORED report, its confirmation of a checkpoint, the
rejection of a forwarded command, an entry of the image log, a report of the standby's journal (R382), and the last part of a relayed
image whose hash holds (R352). -/
inductive LoenpaFrame where
  | bad (lane : Bool)
  | idle
  | status (mode role pos claim imageId generation : Nat)
  | journal (seq : Nat) (e : JEntry) (payload : List Byte)
  | ackid (ring id : Nat)
  | command (ring : Nat) (desc : Desc) (payload : List Byte) (cs : Option ChangeSet)
  | epoch (e : Int) (num : Nat)
  | changeSet (cmd : Nat) (reverting : Bool) (cs : ChangeSet)
  | stored (cmd : Nat)
  | confirm (cycle : Nat)
  | rejected (ring id status : Nat)
  | image (e : LogEntry)
  | report (seq crc : Nat)
  | loaded (identity : Nat) (img : Image)
deriving DecidableEq, Repr

/-- A message the module sends on the Loenpa link (R367, R368). -/
inductive LoenpaMsg where
  | idle
  | status (mode role pos claim imageId generation : Nat)
  | request (counters : List (Nat × Nat))
  | grant (seq : Nat) (counters : List (Nat × Nat))
  | takeover
  | handover
  | declaration (x : Declaration)
  | checkpoint (c : Checkpoint)
  | confirm (cycle : Nat)
  | epoch (e : Int) (num : Nat)
  | changeSet (cmd : Nat) (reverting : Bool) (cs : ChangeSet)
  | stored (cmd : Nat)
  | rejected (ring id status : Nat)
  | image (e : LogEntry)
  | sync
  | journalConfirm (seq : Nat)
  | report (seq crc : Nat)
deriving DecidableEq, Repr

end Sys2Proof.Machine
end

