-- ==== Sys2Proof/Syntax.lean ====
section
/-!
DEFINITION. The commands of the block: one constructor for each row of the command table, with the row's operands. What a row's own words
leave to the outside, such as an arrival time or the result of a hash, is an operand.
-/
namespace Sys2Proof

open Sys2Proof.Machine

/-- A command. -/
inductive Instr where
  /-- VIN_LOW (R52): VIN has stayed below 8.0 V for 100 µs: HOLDUP and V0 are set, a health event is recorded and vector 10 is sent; the module runs from the hold-up store. -/
  | vinLow (mv : Nat)
  /-- HOLDUP_VIN_RESTORED (R52): VIN rises above 8.5 V within 12 ms of falling low, so HOLDUP and V0 of HM_LIVE clear. -/
  | holdupVinRestored
  /-- HOLDUP_TIMEOUT (R52): VIN is still below 8.5 V 12 ms after falling low: the module enters SAFE with cause POWER_FAIL and starts no new MRAM write except the power-fail record. -/
  | holdupTimeout (mv : Nat)
  /-- RAILS_OFF (R52): The hold-up store reaches 10 V and the rails switch off. -/
  | railsOff
  /-- POWER_ON_RESET (R76): VIN has stayed above 9.0 V for 100 ms after an absence or a rail switch-off; the module enters BOOT at step 1. -/
  | powerOnReset
  /-- POR_RELEASE_RETRY (R80): Every 100 ms the release of POR is retried until V1–V12 lie inside their alarm windows. -/
  | porReleaseRetry (railsOk : Bool)
  /-- EXTERNAL_RESET (R76): MOD_RESET_N is asserted for 10 µs or longer; the module enters BOOT at step 3, 1 ms after deassertion. -/
  | externalReset
  /-- MCTL_RESET_CMD (R76): A Deck-controller write of MCTL_RESET with key 0x5A5A and KIND 0b01 causes a command reset. -/
  | mctlResetCmd
  /-- MCTL_RESET_SERVICE (R76): A Deck-controller write of MCTL_RESET with key 0x5A5A and KIND 0b10 causes a command reset with SERVICE_NEXT set. -/
  | mctlResetService
  /-- PCIE_RESET (R60): PE_PERST_N resets only the PCIe endpoint and the HI set-up registers; the mode, the journal and accepted commands are unchanged. -/
  | pcieReset (dropped : Nat)
  /-- FUNCTION_LEVEL_RESET (R332): A Function Level Reset acts as PE_PERST_N. -/
  | functionLevelReset (dropped : Nat)
  /-- D3HOT_RETURN (R332): A return from D3hot to D0 acts as PE_PERST_N. -/
  | d3hotReturn (dropped : Nat)
  /-- BUS_MASTER_ENABLE_CHANGE (R331): The host changes Bus Master Enable; while it is 0 the module fetches nothing and holds its completions. -/
  | busMasterEnableChange (v : Bool)
  /-- DX_POS_CHANGED (R59): DX_POS changes after BOOT; the module keeps the sampled position and records a health event. -/
  | dxPosChanged (now : Bool)
  /-- SVC_PERMIT_CHANGE (R90): The filtered SVC_PERMIT_N changes; deassertion while in HOLD moves the module to STOP at the next tick boundary. -/
  | svcPermitChange (v : Bool)
  /-- OP_SECONDS_SAVE (R78): Every 60 s the always-on domain copies the operating seconds into the boot parameters. -/
  | opSecondsSave
  /-- BOOT_STEP_DONE (R80): A boot step finishes its work and the boot sequence goes on to the next step. -/
  | bootStepDone (r : BootResult)
  /-- DUPLEX_ROLE_WAIT_EXPIRY (R85): A position-1 module has waited 8 s for its partner to leave BOOT and decides its role again. -/
  | duplexRoleWaitExpiry
  /-- AUTORUN_START (R90): With AUTORUN set, the module enters RUN at the first tick boundary at which the STOP-to-RUN conditions hold. -/
  | autorunStart
  /-- MODE_CHANGE (R90): An agreed mode transition takes effect at its tick boundary and MCTL_MODE, the event and vector 9 follow. -/
  | modeChange
  /-- HM_ROUND (R63): Every 1 ms the ADC scans every sensor and rail, updates the readings and evaluates the warnings. -/
  | hmRound (refOk : Bool) (reference : Nat) (temps : List Nat) (volts : List Nat)
  /-- HM_PROC_EVAL (R65): Once per second the process monitors are counted and compared with BASE × WARN_PCT. -/
  | hmProcEval (counts : List Nat)
  /-- TEMP_ALARM (R63): The 1 ms comparator sample sees the third consecutive over-threshold temperature and raises the alarm with its reaction. -/
  | tempAlarm (n : Nat)
  /-- RAIL_ALARM (R63): A rail has lain outside its alarm window for 20 µs, or V0 above 18 V for 1 ms, and the alarm reaction follows. -/
  | railAlarm (n : Nat)
  /-- HM_THRESHOLD_WRITE (R68): A write of a warning threshold outside its allowed range keeps the old value and sets THR_REJ. -/
  | hmThresholdWrite (kind : Nat) (n : Nat) (word : Nat)
  /-- TICK (R165): The tick number increments at a boundary of schedule time, and the classes due at it are started. -/
  | tick
  /-- HOUSEKEEPING_BOUNDARY (R166): While schedule time is not valid, a 125 µs boundary from the oscillator lets pending changes take effect. -/
  | housekeepingBoundary
  /-- START_MARK (R105): A Pier's start mark arrives and is time-stamped; a mark more than 2 µs late records START_SKEW. -/
  | startMark (p : Pier) (cls : Nat) (cycle : Nat) (t : Nat)
  /-- MAILBOX_CONTRIBUTION (R110): A Pier posts its contribution to the class's mailbox slot; the second posting starts the wait timer and the third closes the slot. -/
  | mailboxContribution (p : Pier) (cls : Nat) (c : Contribution) (crcOk : Bool)
  /-- MAILBOX_WAIT_EXPIRY (R110): The mailbox wait timer expires, so the slot closes and absent contributions are judged. -/
  | mailboxWaitExpiry (cls : Nat) (crcOk : Bool)
  /-- MAILBOX_DEADLINE (R110): The deadline of the class cycle passes with fewer than two postings, so the slot closes. -/
  | mailboxDeadline (cls : Nat) (cycle : Nat)
  /-- CONTROL_EXCHANGE (R211): Every 8 ticks, while no cycles run, the Piers agree change states and commands through the mailbox. -/
  | controlExchange (vals : List (Nat × Nat))
  /-- OUTBOUND_REQUEST (R120): A Pier posts an outbound request copy, and the Keystone matches it by key and compares its content. -/
  | outboundRequest (p : Pier) (q : OutReq)
  /-- CYCLE_OUTPUT_PHASE (R173): Every core of the class has finished, so the lead core posts requests, process-image writes and leg writes, and then the end word. -/
  | cycleOutputPhase (p : Pier) (cls : Nat) (cycle : Nat) (runs : List SegRun) (drive : Bool) (legs : Nat)
  /-- SIGNATURE_POSTED (R131): A Pier posts a window signature into both Keystone holding stages, and the verdict is formed where possible. -/
  | signaturePosted (p : Pier) (cls : Nat) (cycle : Nat) (part : Nat) (flip : Nat) (t : Nat) (upto : Nat) (final : Bool) (agree : Bool)
  /-- SKEW_TIMER_EXPIRY (R130): The skew timer of a window expires, and missing signatures are judged as having missed the bound. -/
  | skewTimerExpiry (cls : Nat) (cycle : Nat) (part : Nat)
  /-- SNAPSHOT_TIMER (R179): Every 100 ms in STOP, or in HOLD while halted, the snapshot is written. -/
  | snapshotTimer
  /-- RELEASE_TOKEN (R142): A release token of one half arrives, and the request is performed when the tokens of both halves match. -/
  | releaseToken (second : Bool) (cls : Nat) (cycle : Nat) (seq : Nat) (err : Nat)
  /-- RELEASE_TOKEN_TIMEOUT (R142): One token has not arrived 10 µs after the other, so the halves are treated as disagreeing. -/
  | releaseTokenTimeout (cls : Nat) (cycle : Nat) (seq : Nat)
  /-- PIER_LOCAL_ERROR (R137): A Pier reports a local error and is isolated at once with verdict LOCAL_ERROR. -/
  | pierLocalError (p : Pier)
  /-- SYNC_FAULT (R26): An application instruction faults; the runtime ends the segment's cycle and posts a fault report. -/
  | syncFault (p : Pier) (seg : Nat) (cycle : Nat) (kind : Nat) (addr : Nat) (core : Nat) (trap : Bool)
  /-- KS_STAGE_PARITY (R155): A stage entry of one half fails parity, so that half requests a repost and records a transient. -/
  | ksStageParity (h : Nat) (p : Pier) (again : Bool)
  /-- KS_SELFTEST_DONE (R156): The 2 ms self-test after a disagreement ends, and its result decides SAFE or resumption. -/
  | ksSelftestDone (pass1 : Bool) (pass2 : Bool) (dur : Nat) (agree : Bool)
  /-- KS_ONLINE_TEST (R157): Every 10 s both halves evaluate the verdict cases on synthetic entries. -/
  | ksOnlineTest (fail1 : Option Nat) (fail2 : Option Nat)
  /-- WATCHDOG_DEADLINE (R191): D + SKEW_US of a cycle passes, and the final window's arrivals are judged for a program overrun. -/
  | watchdogDeadline (cls : Nat) (cycle : Nat) (other : Option (Nat × Nat))
  /-- RESYNC_START (R145): The Keystone starts resynchronisation of an isolated Pier once the conditions and the health bits allow. -/
  | resyncStart
  /-- RESYNC_HEALTH_WAIT_EXPIRY (R145): The Pier's HM_LIVE bits are still set after 10 s, so it is taken out of service. -/
  | resyncHealthWaitExpiry
  /-- RESYNC_SELFTEST_DONE (R146): The Pier reset and self-test of the odd Pier end; a failure takes it out of service. -/
  | resyncSelftestDone (fail : Option Nat) (dropped : List Nat)
  /-- RESYNC_CODE_CHECK_DONE (R146): The odd Pier finishes the block CRCs, and blocks that differ join the copy list. -/
  | resyncCodeCheckDone (upset : List Nat) (ecc : List Nat)
  /-- RESYNC_COPY_TICK (R148): In each tick the donor's copy engine copies during idle time up to its COPY_SHARE allowance. -/
  | resyncCopyTick (slack : Nat) (written : List Nat) (ecc : Bool)
  /-- RESYNC_PASS_END (R149): A copy pass ends; its dirty pages decide a further pass, FINAL_WAIT or an abort on non-convergence. -/
  | resyncPassEnd (written : List Nat)
  /-- RESYNC_FINAL (R150): In a gap, the remaining pages and the runtime state are copied and the odd Pier enters REJOIN. -/
  | resyncFinal (idle : Bool) (gap : Nat) (written : List Nat)
  /-- RESYNC_FINAL_WAIT_EXPIRY (R146): No gap was found within 1000 ticks, so another COPY pass runs. -/
  | resyncFinalWaitExpiry
  /-- RESYNC_TIME_LIMIT (R151): An attempt exceeds LIMIT_S and is aborted. -/
  | resyncTimeLimit
  /-- RESYNC_RETRY_WAIT_EXPIRY (R151): The 10 s RETRY_WAIT ends and a new attempt starts from SELFTEST. -/
  | resyncRetryWaitExpiry
  /-- COPY_SHARE_WRITE (R164): A write of COPY_SHARE outside 5–40 keeps the old value and sets SHARE_REJ. -/
  | copyShareWrite (v : Nat)
  /-- PAIR_MISMATCH (R159): The copies of a lockstep pair mismatch, so both halt and run LBIST and MBIST. -/
  | pairMismatch (u : Nat)
  /-- PAIR_SELFTEST_DONE (R159): The self-test of a halted pair ends; the pair resumes, degrades or the module enters SAFE. -/
  | pairSelftestDone (u : Nat) (pass1 : Bool) (pass2 : Bool)
  /-- CHANGE_SET_LOAD (R206): CHANGE_SET LOAD is checked, accepted and begins staging a change set. -/
  | changeSetLoad (seq : Nat) (again : Option ChangeSet)
  /-- CHANGE_SET_REVERT (R213): CHANGE_SET REVERT arms a switch back to the versions before the last switch. -/
  | changeSetRevert (seq : Nat)
  /-- CHANGE_SET_COMMIT (R214): CHANGE_SET COMMIT frees the old versions at the next switch-class input phase or control exchange. -/
  | changeSetCommit (seq : Nat)
  /-- CHANGE_SET_CANCEL (R215): CHANGE_SET CANCEL withdraws a pending change set, or completes CANCEL_TOO_LATE. -/
  | changeSetCancel (seq : Nat)
  /-- CHANGE_SET_STATUS (R225): CHANGE_SET STATUS returns the change status record. -/
  | changeSetStatus (seq : Nat)
  /-- CHANGE_PAYLOAD_FETCHED (R207): The change-set payload is in Deck SDRAM, its hash is checked and it is written to the image log. -/
  | changePayloadFetched (hashOk : Bool)
  /-- CHANGE_STAGED (R207): A Pier has staged the new versions and checked their stamp and CRCs. -/
  | changeStaged (p : Pier) (result : Nat)
  /-- CHANGE_PARTNER_STORED (R207): The standby reports STORED for the relayed change set. -/
  | changePartnerStored
  /-- CHANGE_PARTNER_TIMEOUT (R207): The standby has not reported STORED within 5 s, so the partner item becomes TIMED_OUT. -/
  | changePartnerTimeout
  /-- CARRYOVER_DONE (R205): The carry-over of an affected class ends in a Pier. -/
  | carryoverDone (p : Pier) (cls : Nat) (done : CarryRun)
  /-- EDIT_VALUE (R216): EDIT_VALUE changes 1–64 editable items of one class once it is agreed. -/
  | editValue (seq : Nat)
  /-- MODE_REQUEST_STOP (R90): MODE_REQUEST with target STOP. -/
  | modeRequestStop (seq : Nat)
  /-- MODE_REQUEST_RUN (R187): MODE_REQUEST with target RUN and a start of CONTINUE or COLD. -/
  | modeRequestRun (seq : Nat)
  /-- MODE_REQUEST_HOLD (R188): MODE_REQUEST with target HOLD, optionally setting a breakpoint. -/
  | modeRequestHold (seq : Nat)
  /-- MODE_REQUEST_STANDBY (R390): MODE_REQUEST with target STANDBY starts a planned handover. -/
  | modeRequestStandby (seq : Nat)
  /-- MODE_REQUEST_SERVICE (R90): MODE_REQUEST with target SERVICE, executed locally. -/
  | modeRequestService (seq : Nat)
  /-- MODE_REQUEST_SAFE (R93): MODE_REQUEST with target SAFE enters SAFE with cause REQUESTED as soon as it is agreed. -/
  | modeRequestSafe (seq : Nat)
  /-- MODE_REQUEST_RESET (R89): MODE_REQUEST with target RESET writes a START entry and causes a command reset. -/
  | modeRequestReset (seq : Nat)
  /-- MODE_REQUEST_RESET_SERVICE (R89): MODE_REQUEST with target RESET_SERVICE writes SERVICE_NEXT and causes a command reset. -/
  | modeRequestResetService (seq : Nat)
  /-- MODE_REQUEST_STEP (R189): MODE_REQUEST STEP in HOLD steps a class for 1–1000 cycles. -/
  | modeRequestStep (seq : Nat)
  /-- LOAD_IMAGE (R352): LOAD_IMAGE carries one part of a program image, relayed to the partner; LAST checks the hash. -/
  | loadImage (seq : Nat) (check : Nat) (img : Image)
  /-- ACTIVATE_IMAGE (R352): ACTIVATE_IMAGE activates a loaded image in STOP or SERVICE and raises the generation. -/
  | activateImage (seq : Nat)
  /-- FORCE (R352): FORCE sets forces on 1–256 variables, with permit and change-state checks. -/
  | force (seq : Nat)
  /-- UNFORCE (R219): UNFORCE removes forces on listed variables, or all with ALL; it is never refused for permission or change state. -/
  | unforce (seq : Nat)
  /-- READ_VARS (R352): READ_VARS returns values, agreement status and FORCED from the committed process image. -/
  | readVars (seq : Nat)
  /-- WRITE_VARS (R352): WRITE_VARS writes non-safety variables as an agreed input. -/
  | writeVars (seq : Nat)
  /-- STORE_SETTINGS_STORE (R476): STORE_SETTINGS with bit 0 set checks the records and stores them in the Caisson. -/
  | storeSettingsStore (seq : Nat)
  /-- STORE_SETTINGS_VALIDATE (R476): STORE_SETTINGS with bit 0 clear only checks the records against their ranges. -/
  | storeSettingsValidate (seq : Nat)
  /-- STAGE_UPDATE (R491): STAGE_UPDATE stores one part of an update package into a package entry. -/
  | stageUpdate (seq : Nat) (man : Option Manifest) (bad : Bool)
  /-- RELAY_CONTROL_START (R501): RELAY_CONTROL START starts or resumes forwarding of a complete package. -/
  | relayControlStart (seq : Nat)
  /-- RELAY_CONTROL_STOP (R501): RELAY_CONTROL STOP ends forwarding and keeps the package. -/
  | relayControlStop (seq : Nat)
  /-- RELAY_CONTROL_INSTALL (R501): RELAY_CONTROL INSTALL decides and installs a package under the install rules. -/
  | relayControlInstall (seq : Nat)
  /-- RELAY_CONTROL_DELETE (R501): RELAY_CONTROL DELETE empties the package entry. -/
  | relayControlDelete (seq : Nat)
  /-- RELAY_CONTROL_ACTIVATE (R501): RELAY_CONTROL ACTIVATE sets the other slot preferred on trial, or withdraws a pending activation. -/
  | relayControlActivate (seq : Nat)
  /-- RELAY_CONTROL_COMMIT (R501): RELAY_CONTROL COMMIT advances the anti-rollback copy and fuses to the booted security version. -/
  | relayControlCommit (seq : Nat)
  /-- RELAY_CONTROL_STATUS (R502): RELAY_CONTROL STATUS returns the slot and package entry records. -/
  | relayControlStatus (seq : Nat)
  /-- SEND_MD (R298): SEND_MD sends host message data as Mn, Mr or Mq, and for Mr and Mq awaits the reply. -/
  | sendMd (seq : Nat)
  /-- JOURNAL_QUERY (R352): JOURNAL_QUERY returns journal entries by sequence. -/
  | journalQuery (seq : Nat)
  /-- CHECKPOINT_NOW_TAKE (R352): CHECKPOINT_NOW with argument 0 takes a checkpoint on the executing module. -/
  | checkpointNowTake (seq : Nat)
  /-- CHECKPOINT_NOW_READ (R352): CHECKPOINT_NOW with argument 1 returns the checkpoint header. -/
  | checkpointNowRead (seq : Nat)
  /-- SET_TIME_EPOCH_ADOPT (R244): SET_TIME_EPOCH ADOPT takes ΔE from the latest θ. -/
  | setTimeEpochAdopt (seq : Nat)
  /-- SET_TIME_EPOCH_SET (R244): SET_TIME_EPOCH SET sets E so that train time equals T, in GRANDMASTER or FREE. -/
  | setTimeEpochSet (seq : Nat)
  /-- ARM_POSITION (R352): ARM_POSITION arms or disarms a host-armable trigger through the application's class. -/
  | armPosition (seq : Nat)
  /-- SQ_TAIL_DOORBELL (R336): A write of a submission tail doorbell announces descriptors, or is refused and counted. -/
  | sqTailDoorbell (n : Nat) (upper : Bool) (v : Nat)
  /-- CQ_HEAD_DOORBELL (R337): A write of a completion head doorbell releases completion entries, or is refused. -/
  | cqHeadDoorbell (q : Nat) (upper : Bool) (v : Nat)
  /-- SQ_CFG_WRITE (R334): A write of HI_SQ_CFG_n changes ring configuration and enables or disables the ring, or is refused with CFG_REJ. -/
  | sqCfgWrite (n : Nat) (word : Nat)
  /-- CQ_CFG_WRITE (R334): A write of HI_CQ_CFG_n changes completion ring configuration and enables or disables it, or is refused. -/
  | cqCfgWrite (q : Nat) (word : Nat)
  /-- DESCRIPTOR_FETCH (R345): The module fetches the next descriptor in round-robin order when room allows and runs the checks before acceptance. -/
  | descriptorFetch (x : Desc) (payload : Option (List Byte)) (cs : Option ChangeSet)
  /-- MIRROR_CONFIRM (R348): The partner confirms a mirrored accept entry, so LASTID is set and ACCEPTED is written. -/
  | mirrorConfirm (seq : Nat)
  /-- MIRROR_TIMEOUT (R348): The partner does not confirm within 2 ms, so acceptance becomes local-only and vector 12 is sent. -/
  | mirrorTimeout (seq : Nat)
  /-- PAYLOAD_FETCH_DONE (R347): The payload fetched after acceptance has arrived for LOAD_IMAGE, CHANGE_SET, STAGE_UPDATE or SEND_MD. -/
  | payloadFetchDone (seq : Nat) (payload : List Byte)
  /-- DMA_ERROR (R339): A descriptor fetch, payload fetch or completion write ends in a PCIe error, so the ring is stopped and vector 15 is sent. -/
  | dmaError (cplWrite : Bool) (n : Nat)
  /-- DMA_COMPLETION_TIMEOUT (R339): A module read receives no completion within 10 ms and is handled as a DMA error. -/
  | dmaCompletionTimeout (n : Nat)
  /-- MSIX_IMOD_EXPIRY (R360): The IMOD interval of a completion ring ends and a held message is sent if completions remain unread. -/
  | msixImodExpiry (q : Nat)
  /-- MSIX_UNMASK (R42): The host unmasks a vector whose pending bit is set, and one message is sent. -/
  | msixUnmask (v : Nat)
  /-- RESERVED_BAR_ACCESS (R38): A host access to a reserved BAR offset, or a write to BAR4, reads zeros or is discarded, and is counted. -/
  | reservedBarAccess (bar : Nat) (off : Nat) (read : Bool)
  /-- EVW_CURSOR_WRITE (R361): A write of the event window cursor sets it, clamped to NEXT. -/
  | evwCursorWrite (high : Bool) (v : Nat)
  /-- EVW_READ (R361): A read of HI_EVW_READ covering bytes 0x0BC–0x0BF returns the record and advances the cursor. -/
  | evwRead (off : Nat) (words : Nat)
  /-- JW_SEL_WRITE (R358): A write of HI_JW_SEL_LO selects a journal entry for the journal window. -/
  | jwSelWrite (high : Bool) (v : Nat)
  /-- JW_NEXT_READ (R364): A read of HI_JW_NEXT returns the low bits of SEL and advances SEL by one. -/
  | jwNextRead
  /-- VW_VALUE_READ (R362): A read of HI_VW_VALUE_LO returns the committed value and captures _HI and HI_VW_STATUS. -/
  | vwValueRead
  /-- VW_LIST_READ (R362): A read of HI_VW_LIST_HI advances the list position, wrapping at LEN. -/
  | vwListRead (high : Bool)
  /-- REGISTER_WRITE (R13): A write to a register that has no row of its own acts according to its access codes. -/
  | registerWrite (side : RegSide) (addr : Nat) (word : Nat)
  /-- READ_TO_CLEAR (R15): A read of an RC field returns its value and clears it. -/
  | readToClear (side : RegSide) (addr : Nat)
  /-- REG64_LO_READ (R12): A read of a _LO register of a changing 64-bit value captures its _HI half. -/
  | reg64LoRead (side : RegSide) (addr : Nat)
  /-- ACCESS_WIDTH_VIOLATION (R11): A register access of wrong width or alignment is not performed and records an access-width event. -/
  | accessWidthViolation (who : Initiator) (addr : Nat) (width : Nat) (read : Bool)
  /-- DECODE_ERROR (R35): An access to a reserved range or unimplemented offset is discarded, records a decode event and faults a Pier. -/
  | decodeError (who : Initiator) (addr : Nat) (width : Nat) (read : Bool) (seg : Nat) (cycle : Nat) (kind : Nat) (core : Nat)
  /-- SYNC_RECEIVED (R239): A Sync on the slave port gives θ, which drives the servo or is counted as an outlier. -/
  | syncReceived (port : Nat) (origin : Nat) (rxS : Nat)
  /-- PATH_DELAY_MEASURED (R252): A path delay measurement is filtered, or starts, continues or ends a path delay step hold. -/
  | pathDelayMeasured (port : Nat) (ns : Nat)
  /-- ANNOUNCE_RECEIVED (R236): An Announce message feeds the best master clock algorithm of the boundary clock. -/
  | announceReceived (port : Nat) (gm : Nat) (r : BmcResult)
  /-- ANNOUNCE_TIMEOUT (R241): announceReceiptTimeout expires without Announce or Sync, leading to HOLDOVER or GRANDMASTER. -/
  | announceTimeout (gm : Nat) (r : BmcResult)
  /-- PTP_INTERVAL_TIMER (R238): A PTP message interval ends, so Sync, Announce or delay requests are sent. -/
  | ptpIntervalTimer (port : Nat) (kind : Nat)
  /-- SCHED_TIME_SAVE (R231): Once per second of schedule time, S is written into the boot parameters. -/
  | schedTimeSave
  /-- TIME_REALIGN (R510): Every 1 µs the Time unit realigns the copies of schedule time in other domains. -/
  | timeRealign (overruns : Nat)
  /-- FRAME_LAUNCH (R253): A MAC's copy of schedule time reaches a held frame's launch time and transmission starts, or the frame is late or dropped. -/
  | frameLaunch (port : Nat) (queue : Nat) (now : Nat)
  /-- TXTS_APPEND (R255): The timestamp point of a frame with an identifier passes, and its entry is appended to the port's queue. -/
  | txtsAppend (port : Nat) (id : Nat) (ts : Nat)
  /-- TXTS_ID_READ (R257): A Deck read of TU_TXTS_ID_p removes the oldest entry and latches its timestamp. -/
  | txtsIdRead (port : Nat)
  /-- TU_SETTING_WRITE (R259): A write of an RW Time unit field outside its range keeps the old value and sets THR_REJ. -/
  | tuSettingWrite (r : TuSetting) (w : Nat)
  /-- SPEED_EDGE (R261): A filtered speed-input edge adds or subtracts SCALE in each reference that counts it. -/
  | speedEdge (p : Pier) (sp : Nat) (a : Bool) (b : Bool)
  /-- STANDSTILL_TIMEOUT (R262): No counted edge for STILL_MS sets DIR to STILL. -/
  | standstillTimeout (p : Pier) (r : Nat)
  /-- TRIGGER_ARM (R265): A write of ARM 1 arms a trigger, increments ARM_SEQ and judges whether it has already passed. -/
  | triggerArm (p : Pier) (k : Nat) (ifPassed : Bool) (dir : Nat) (ref : Nat) (action : Nat) (out : Nat)
  /-- TRIGGER_DISARM (R265): A write of ARM 0 returns a trigger to IDLE and releases its leg. -/
  | triggerDisarm (p : Pier) (k : Nat)
  /-- SCALE_WRITE (R263): A SCALE write takes effect at the next counted edge; 0 is refused with WREJ. -/
  | scaleWrite (p : Pier) (r : Nat) (v : Nat)
  /-- REF_CFG_WRITE (R262): A write of PT_REF_CFG_r sets the reference, refusing FILT or STILL_MS out of range with WREJ. -/
  | refCfgWrite (p : Pier) (r : Nat) (en : Bool) (sign : Bool) (mode : Nat) (source : Nat) (sdir : Bool) (filt : Nat) (still : Nat)
  /-- REBASE_GO (R273): A write of GO schedules a re-base at a tick, or refuses it with REJ. -/
  | rebaseGo (p : Pier) (shift : Bool) (ref : Nat)
  /-- POS_HIT_REPORT (R270): A slice reports a LAUNCH hit, and the second in-service slice's report launches the staged frame. -/
  | posHitReport (p : Pier) (k : Nat) (seq : Nat)
  /-- SWITCH_FRAME_RECEIVED (R281): A frame enters a switch port and is forwarded, dropped or counted. -/
  | switchFrameReceived (port : Nat) (f : EthFrame)
  /-- GATE_CONTROL_ENTRY (R284): The interval of a gate control list entry ends and the next entry's gates take effect. -/
  | gateControlEntry (port : Nat)
  /-- MAC_AGE_OUT (R282): A MAC table entry ages out after 300 s. -/
  | macAgeOut (mac : Nat)
  /-- FRER_RECOVERY_RESET (R286): A stream receives no frame for 100 ms, so its recovery is reset. -/
  | frerRecoveryReset (n : Nat)
  /-- BPDU_RECEIVED (R287): An RSTP BPDU is processed on ports 2–5, or dropped on an ETB port. -/
  | bpduReceived (port : Nat) (role : Nat) (st : Nat)
  /-- TTDP_FRAME (R288): A TTDP HELLO or TOPOLOGY frame is processed by the Trestle. -/
  | ttdpFrame (r : TtdpResult)
  /-- LINK_CHANGE (R279): An Ethernet port gains or loses link. -/
  | linkChange (port : Nat) (up : Bool) (speed : Nat) (gm : Nat) (r : BmcResult)
  /-- TRESTLE_UNIT (R305): At each unit boundary the Trestle starts the first pending work in priority order. -/
  | trestleUnit
  /-- MD_REASSEMBLY_TIMEOUT (R293): An MD reassembly is not complete after 2 s and is discarded as FRAGMENT. -/
  | mdReassemblyTimeout (key : Nat)
  /-- MD_REPLY_TIMEOUT (R298): An Mr or Mq reply timeout expires, giving DONE MD_TIMEOUT. -/
  | mdReplyTimeout (session : Nat)
  /-- SUBSCRIPTION_TIMEOUT (R294): A subscription receives no copy within its timeout and is marked timed out. -/
  | subscriptionTimeout (n : Nat)
  /-- MVB_FRAME (R318): An MVB master or slave frame is received and processed. -/
  | mvbFrame (m : Nat) (line : Bool) (f : MvbFrame)
  /-- MVB_SINK_TIMEOUT (R318): A sink port is not refreshed within its timeout and SINK_TO counts it. -/
  | mvbSinkTimeout (m : Nat)
  /-- WTB_NODE_FRAME (R319): A WTB frame is received and processed by node management. -/
  | wtbNodeFrame (f : WtbFrame)
  /-- WTB_SWITCH_WAIT_EXPIRY (R320): SWITCH_MS has passed after a new coupler setting, which is then taken as done. -/
  | wtbSwitchWaitExpiry
  /-- WTB_SWITCH_TIMEOUT (R321): Detect frames are not answered within 2 × SWITCH_MS, so the inauguration is repeated. -/
  | wtbSwitchTimeout
  /-- CAN_FRAME (R323): A CAN frame is received and filtered into a receive object, or rejected. -/
  | canFrame (c : Nat) (f : CanFrame)
  /-- CAN_LAUNCH (R324): The launch time of a send object is reached and arbitration starts. -/
  | canLaunch (c : Nat) (obj : Nat) (late : Option Nat)
  /-- CAN_LATE_LIMIT (R324): A frame's lateness reaches LATE_US, so it is withdrawn or kept according to POLICY. -/
  | canLateLimit (c : Nat) (obj : Nat)
  /-- CAN_BUSOFF_RECOVERY (R325): After 128 occurrences of 11 recessive bits the port recovers from bus-off. -/
  | canBusoffRecovery (c : Nat)
  /-- CANOPEN_HEARTBEAT_TIMEOUT (R326): A CANopen heartbeat consumer times out and its station ages. -/
  | canopenHeartbeatTimeout (c : Nat) (node : Nat)
  /-- LOENPA_FRAME (R367): A Loenpa frame of another type, such as a journal entry or status, is received and processed. -/
  | loenpaFrame (f : LoenpaFrame)
  /-- LANE_DOWN (R367): No valid frame has been received on a lane for 1 ms. -/
  | laneDown (lane : Bool)
  /-- LANE_UP (R367): A lane completes training and handshake and is up. -/
  | laneUp (lane : Bool) (pos : Nat) (leaseMs : Nat) (guardMs : Nat) (image : Nat) (gen : Nat) (proto : Nat) (dropped : Nat)
  /-- LOENPA_IDLE_TIMER (R367): An idle frame is sent on each lane at least every 100 µs. -/
  | loenpaIdleTimer
  /-- STATUS_FRAME_TIMER (R368): Every 1 ms a status frame with mode, role, claim and generation is sent. -/
  | statusFrameTimer
  /-- LEASE_RENEW_TIMER (R370): Every RENEW a lease holder sends a lease request. -/
  | leaseRenewTimer
  /-- LEASE_REQUEST (R371): A lease request arrives and the module grants it while it asserts DX_STANDBY_N. -/
  | leaseRequest (counters : List (Nat × Nat))
  /-- LEASE_GRANT (R370): A grant arrives and each slice checks its counter and CRC and sets its remaining lease. -/
  | leaseGrant (counters : List (Nat × Nat)) (crcOk : Bool)
  /-- SLICE_LEASE_EXPIRY (R24): A slice lease timer expires and that slice switches its legs off. -/
  | sliceLeaseExpiry (p : Pier)
  /-- PARTNER_ABSENT_GUARD (R374): Partner absence has lasted GUARD_MS, so the module may go solo. -/
  | partnerAbsentGuard
  /-- PEER_PIN_CHANGE (R374): A filtered peer pin changes; this can end solo or trigger a takeover. -/
  | peerPinChange (alive : Bool) (standby : Bool)
  /-- REQUESTS_STOPPED_TIMEOUT (R386): No valid lease request arrives for 3 × RENEW with a lane up. -/
  | requestsStoppedTimeout
  /-- PEER_STANDING_BY_TIMEOUT (R386): Both lanes are down and DX_PEER_STANDBY_N has been asserted for 3 × RENEW. -/
  | peerStandingByTimeout
  /-- TAKEOVER_NOTICE (R388): A TAKEOVER notice from the partner arrives and a position-1 module aborts its wait. -/
  | takeoverNotice
  /-- HANDOVER_NOTICE (R390): A HANDOVER notice arrives and the standby takes over with cause 5. -/
  | handoverNotice
  /-- TAKEOVER_WAIT_END (R388): LEASE_MS + GUARD_MS have passed, and the end-of-wait check passes or aborts the takeover. -/
  | takeoverWaitEnd
  /-- CHECKPOINT_LOADED (R387): The last checkpoint has been loaded into each Pier and compared, and journal replay is applied. -/
  | checkpointLoaded (sigs : Tri Nat) (ms : Nat)
  /-- CHECKPOINT_COMPLETE (R378): A checkpoint is complete in Deck SDRAM and the MRAM header names it. -/
  | checkpointComplete
  /-- CHECKPOINT_DATA (R380): The standby receives checkpoint data, assembles it, checks the trailer and confirms it. -/
  | checkpointData (c : Checkpoint) (trailerOk : Bool)
  /-- IMAGE_SYNCED (R381): Image synchronisation from the active module ends and IMAGE_MATCH is set. -/
  | imageSynced (image : Nat) (gen : Nat) (img : Image) (seconds : Nat)
  /-- JOURNAL_LEVELLED (R382): The standby's journal is level with the active one, and mirrored acceptance resumes. -/
  | journalLevelled (diverged : Option Nat) (entries : List (Nat × JEntry))
  /-- OUTPUT_DECLARATION (R383): The standby receives the output declaration of a checkpoint cycle. -/
  | outputDeclaration (x : Declaration)
  /-- GIRDER_REQUEST_START (R397): A request reaches the head of the Girder queue and YB_REQ_N is asserted. -/
  | girderRequestStart
  /-- GRANT_RECEIVED (R397): YB_GNT_N is sampled asserted and the address phase follows. -/
  | grantReceived
  /-- GRANT_TIMEOUT (R397): No grant arrives within GRANT_TO_US, so the request fails with NO_GRANT. -/
  | grantTimeout
  /-- DATA_PHASE_END (R397): YB_RDY_N or YB_ERR_N ends a data phase, with burst and retry handling. -/
  | dataPhaseEnd (e : PhaseEnd)
  /-- DATA_PHASE_TIMEOUT (R412): No ready or error arrives within TIMEOUT_US, so the phase ends with TIMEOUT. -/
  | dataPhaseTimeout
  /-- GRANT_WITHDRAWN (R399): The grant is withdrawn during a transaction, so the phase completes and the rest is reissued. -/
  | grantWithdrawn
  /-- BUS_OWNERSHIP_LIMIT (R399): After 4 µs of ownership the Girder deasserts YB_REQ_N for two clocks. -/
  | busOwnershipLimit
  /-- GIRDER_QUEUE_FREED (R404): Space frees in the Girder queue and held releases continue. -/
  | girderQueueFreed
  /-- BP_RESET (R412): YB_RST_N is asserted; the phase ends with BP_RESET and no transaction starts. -/
  | bpReset
  /-- BP_CLOCK_LOST (R412): YB_CLK is absent for 1 µs, so CLK_OK clears and requests fail with NO_CLOCK. -/
  | bpClockLost
  /-- SNOOP_WRITE (R416): A foreign write phase in an observed window is recorded for output comparison. -/
  | snoopWrite (win : Nat) (off : Nat) (be : Nat) (data : Nat)
  /-- BP_INTERRUPT (R417): A filtered assertion of YB_INT_N is counted. -/
  | bpInterrupt (level : Bool)
  /-- DECK_WINDOW_ACCESS (R405): The Deck controller accesses a Girder window directly, without a vote. -/
  | deckWindowAccess (kind : Nat) (win : Nat) (off : Nat) (be : Nat) (data : Nat) (mask : Nat)
  /-- DI_SAMPLE (R421): Every 1 µs each slice samples every input and readback level and updates the debounced states. -/
  | diSample (di : Tri Nat) (rb : Tri Nat) (sw : Tri Nat)
  /-- FS_MEASUREMENT (R424): Every 100 µs each slice measures FS1 and FS2 and updates their status. -/
  | fsMeasurement (fs1 : Tri Nat) (fs2 : Tri Nat)
  /-- FS_STATE_DEFERRED (R434): At the end of the one-second limit, a still differing majority supply status is recorded. -/
  | fsStateDeferred (k : Nat)
  /-- FIO_LEG_WR (R427): A write of FIO_LEG_WR with AT_LAUNCH 0 applies VALUE to the masked legs at once. -/
  | fioLegWr (p : Pier) (value : Nat)
  /-- FIO_LEG_WR_AT_LAUNCH (R427): A write of FIO_LEG_WR with AT_LAUNCH 1 holds the masked legs pending until the launch tick of CLASS. -/
  | fioLegWrAtLaunch (p : Pier) (cls : Nat) (value : Nat)
  /-- EXT_DRIVEN_TIMEOUT (R429): SW_ON 0 with readback on for EXT_MS sets EXT_DRIVEN. -/
  | extDrivenTimeout (p : Pier) (n : Nat)
  /-- OVERLOAD_SET (R431): The current limiter is active for 500 µs, so OVERLOAD is set. -/
  | overloadSet (n : Nat)
  /-- OVERLOAD_CLEAR (R431): The limiter has been inactive for 10 ms, so OVERLOAD clears. -/
  | overloadClear (n : Nat)
  /-- THERMAL_SHUTDOWN (R432): An output stage reaches 165 °C and switches off; the eighth shutdown within 60 s sets LOCKED. -/
  | thermalShutdown (n : Nat)
  /-- THERMAL_REARM (R432): No two legs have been on together for 100 ms, so the stage re-arms. -/
  | thermalRearm (n : Nat)
  /-- SLICE_CLOCK_STOP (R507): A slice clock stops, so its legs go off within 10 µs. -/
  | sliceClockStop (p : Pier)
  /-- CW_TX_OPEN (R443): A Deck-controller write of CW_TX_OPEN_n opens a packet and reserves entries, or refuses it. -/
  | cwTxOpen (n : Nat) (prio : Nat) (len : Nat)
  /-- CW_TX_DATA (R444): A write of CW_TX_DATA_n appends a word to the open Deck packet and completes it at LEN. -/
  | cwTxData (n : Nat) (w : Nat)
  /-- CW_TX_PUSH (R442): A released application push request opens, extends or completes an application packet. -/
  | cwTxPush (n : Nat) (attr : Nat) (payload : List Byte)
  /-- CW_PACKET_TX_START (R440): At a packet boundary with HI at 0, the transmitter starts the oldest highest-priority packet. -/
  | cwPacketTxStart (n : Nat) (parityBad : Bool)
  /-- CW_PACKET_TX_DONE (R437): A packet's end character and idle pair have been sent. -/
  | cwPacketTxDone (n : Nat)
  /-- CW_PACKET_RECEIVED (R441): A received packet ends with a correct CRC and enters the RX queue, or is discarded. -/
  | cwPacketReceived (n : Nat) (header : Nat) (words : List Nat) (codeError : Bool) (crcGood : Bool)
  /-- CW_LINK_UP (R438): 16 clean idle pairs synchronise the receiver and LINK is set. -/
  | cwLinkUp (n : Nat)
  /-- CW_LINK_LOSS (R438): Code errors or 10 µs without a character lose synchronisation and LINK clears. -/
  | cwLinkLoss (n : Nat)
  /-- CW_HOLD_IN_CHANGE (R447): The filtered HI input changes, stopping or releasing the transmitter at the next packet boundary. -/
  | cwHoldInChange (n : Nat) (level : Bool)
  /-- CW_RX_DATA_READ (R452): A Deck read of CW_RX_DATA_n returns the next word and removes the packet after its last word. -/
  | cwRxDataRead (n : Nat) (parityBad : Bool)
  /-- CW_WM_WRITE (R448): A write of CW_WM_n sets the watermarks or is refused with WREJ. -/
  | cwWmWrite (n : Nat) (high : Nat) (low : Nat)
  /-- EVENT_INTAKE (R455): A source delivers an event to the intake queue, where it is stamped, rate-limited or dropped. -/
  | eventIntake (code : Nat) (pier : Nat) (items : List Item)
  /-- RECORD_STORE (R455): The recorder writes and verifies the next record from the intake queue. -/
  | recordStore (outcome : Nat)
  /-- TOKEN_REFILL (R456): A REFILL_MS period ends and a token is added to a code's bucket. -/
  | tokenRefill (code : Nat)
  /-- SUMMARY_TIMEOUT (R457): 60 s after the first suppression, the summary record is stored. -/
  | summaryTimeout (code : Nat)
  /-- NOTIFY_HOLD_EXPIRY (R464): The 1 ms notification hold ends and one vector 8 message follows if a qualifying record was stored. -/
  | notifyHoldExpiry
  /-- EV_SEL_WRITE (R465): A Deck-controller write of EV_SEL_LO selects the record shown in EV_REC_k. -/
  | evSelWrite (high : Bool) (v : Nat)
  /-- CAISSON_STORE_START (R473): A store arrives at the controller, the new bank image is built and BUSY is set. -/
  | caissonStoreStart
  /-- CAISSON_STORE_DONE (R473): The written bank has been read back and becomes the bank in force, or the store fails. -/
  | caissonStoreDone (failAt : Option Nat)
  /-- OFFER_RECEIVED (R492): An update OFFER is received and answered with ACCEPT, COMPLETE, BUSY, NO_SPACE or FORM. -/
  | offerReceived (dest : Nat) (dir : Nat) (m : Manifest)
  /-- CHUNK_RECEIVED (R492): An update CHUNK is received, verified, stored and answered. -/
  | chunkReceived (dest : Nat) (identity : Nat) (index : Nat) (data : Option (List Byte))
  /-- RELAY_REPLY (R494): The sender receives an offer or chunk reply and continues, marks the hop done or waits. -/
  | relayReply (k : Nat) (h : Nat) (code : Nat) (next : Nat)
  /-- RELAY_REQUEST_TIMEOUT (R494): A relay request receives no reply within its timeout and is repeated; five repeats end the attempt. -/
  | relayRequestTimeout (k : Nat) (h : Nat)
  /-- RELAY_WAIT_EXPIRY (R494): The 30 s wait ends and the package is offered again. -/
  | relayWaitExpiry (k : Nat) (h : Nat)
  /-- INSTALL_DONE (R498): The install write, read-back and header write end, giving INSTALLED or FAILED. -/
  | installDone (fail : Option Nat)
  /-- CLOCK_LOSS (R506): A Keystone half finds a domain clock lost, and the domain's loss reaction follows. -/
  | clockLoss (dom : Nat) (inst : Nat) (freq : Nat) (gm : Nat) (r : BmcResult)
  /-- CLOCK_TOLERANCE (R506): A frequency more than 200 ppm off over 1 s records event 0x9011. -/
  | clockTolerance (dom : Nat) (inst : Nat) (ppm : Int) (freq : Nat)
  /-- CLOCK_RETURN (R515): A lost clock has run within 1 % for 100 µs and its domain leaves reset. -/
  | clockReturn (dom : Nat) (inst : Nat) (freq : Nat) (dropped : List Nat)
  /-- SNAPSHOT_GO (R516): A write of GO launches a capture of the selected domain counters and schedule time. -/
  | snapshotGo (domains : Nat)
  /-- SNAPSHOT_DONE (R516): Every selected count has returned and DONE is set. -/
  | snapshotDone (counts : List Nat)
  /-- VIN_9V_THRESHOLD (R52): VIN rises above 9.0 V, which asserts POR, ramps the rails and starts the 100 ms count, or falls to 9.0 V or below before the power-on reset, which restarts that count. -/
  | vin9vThreshold (above : Bool)
  /-- HM_LIVE_CLEARED (R71): A comparator sample finds a temperature or rail alarm condition gone, so its HM_LIVE bit clears and a waiting resynchronisation may proceed. -/
  | hmLiveCleared (bit : Nat)
  /-- DELAY_REQ_RECEIVED (R236): A Delay_Req or Pdelay_Req arrives on a port, and the boundary clock answers it, or a management message arrives and is discarded and counted. -/
  | delayReqReceived (port : Nat) (kind : Nat) (rxS : Nat)
  /-- BP_RESET_RELEASED (R412): YB_RST_N deasserts, BP_RESET in GB_STATUS clears, event 0x7006 gets its duration and queued Girder requests may start again. -/
  | bpResetReleased
  /-- CW_RX_FILL_HIGH (R447): A received data word brings the RX fill to HIGH, so HO goes to logic 1 within 0.2 µs, or finds every RX entry occupied and discards the packet in reception with NOSPACE. -/
  | cwRxFillHigh (n : Nat) (wordsSoFar : Nat)
  /-- D3HOT_ENTRY (R332): The host places the function in D3hot, after which the module performs no DMA and holds its completions. -/
  | d3hotEntry
  /-- RELAY_RATE_INTERVAL (R494): The sending-rate limit allows the next update chunk to be sent to the next hop, within WINDOW unanswered chunks. -/
  | relayRateInterval (k : Nat) (h : Nat)
deriving DecidableEq, Repr

end Sys2Proof
end

