-- ==== Sys2Proof/Machine/Field.lean ====
section
/-!
DEFINITION. What a register field is (R13, R16, R17) and the description a register map gives of a register.
-/
namespace Sys2Proof.Machine

/-- The access codes of R13. -/
inductive Acc where
  | ro | rw | wo | w1c | w1s | rc
deriving DecidableEq, Repr

/-- The kinds of entry in the Reset column (R17). -/
inductive Src where
  | val | caisson | mram | factory | otp | image | pin | kept | fixed
deriving DecidableEq, Repr

/-- The range of a Caisson field (R471): any value, an unsigned range, or a range of the signed value. -/
inductive Rng where
  | any
  | nat (lo hi : Nat)
  | sgn (lo hi : Int)
deriving DecidableEq, Repr

/-- One register field: the address of its register, its lowest bit and width, its reset value (for a Caisson
field its default), its access code, the kind of its Reset entry and its range. -/
structure Fld where
  addr : Nat
  lo : Nat
  w : Nat
  rst : Nat
  acc : Acc
  src : Src
  rng : Rng
deriving DecidableEq, Repr

/-- The number under which the register table of the state holds a field. -/
def fldKey (f : Fld) : Nat := f.addr * 32 + f.lo

/-- Whether a value of `w` bits lies in a range. -/
def inRange (w : Nat) (r : Rng) (v : Nat) : Bool :=
  match r with
  | .any => true
  | .nat lo hi => decide (lo ≤ v) && decide (v ≤ hi)
  | .sgn lo hi => decide (lo ≤ toSigned w v) && decide (toSigned w v ≤ hi)

/-- A register, or a run of like registers: first address, whether it stands once per slice, first index, number
of indices and stride, a second number and stride, whether it is a 64-bit pair, and its fields by slice and
indices. -/
structure RegDesc where
  base : Nat
  slice : Bool
  first : Nat
  count : Nat
  stride : Nat
  count2 : Nat
  stride2 : Nat
  pair : Bool
  flds : Nat → Nat → Nat → List Fld

end Sys2Proof.Machine
end

