-- ==== Sys2Proof/Machine/Codes.lean ====
section
/-!
DEFINITION. The completion status codes of R519 and the event codes of R521 with their severities and source
blocks.
-/
namespace Sys2Proof.Machine

/-- Completion status OK (R519). -/
def St.OK : Nat := 0x0000
/-- Completion status OK_TRUNCATED (R519). -/
def St.OK_TRUNCATED : Nat := 0x0001
/-- Completion status OK_RESULT_EXPIRED (R519). -/
def St.OK_RESULT_EXPIRED : Nat := 0x0002
/-- Completion status ARG_INVALID (R519). -/
def St.ARG_INVALID : Nat := 0x0101
/-- Completion status BAD_OPCODE (R519). -/
def St.BAD_OPCODE : Nat := 0x0102
/-- Completion status BAD_FLAGS (R519). -/
def St.BAD_FLAGS : Nat := 0x0103
/-- Completion status LENGTH_RANGE (R519). -/
def St.LENGTH_RANGE : Nat := 0x0104
/-- Completion status ID_CONFLICT (R519). -/
def St.ID_CONFLICT : Nat := 0x0105
/-- Completion status ID_ORDER (R519). -/
def St.ID_ORDER : Nat := 0x0106
/-- Completion status FETCH_ERROR (R519). -/
def St.FETCH_ERROR : Nat := 0x0107
/-- Completion status CHANGE_FORM (R519). -/
def St.CHANGE_FORM : Nat := 0x0108
/-- Completion status CHANGE_BASE (R519). -/
def St.CHANGE_BASE : Nat := 0x0109
/-- Completion status CHANGE_HASH (R519). -/
def St.CHANGE_HASH : Nat := 0x010A
/-- Completion status CHANGE_STAMP (R519). -/
def St.CHANGE_STAMP : Nat := 0x010B
/-- Completion status IMAGE_HASH (R519). -/
def St.IMAGE_HASH : Nat := 0x010C
/-- Completion status EDIT_NOT_EDITABLE (R519). -/
def St.EDIT_NOT_EDITABLE : Nat := 0x010D
/-- Completion status EDIT_RANGE (R519). -/
def St.EDIT_RANGE : Nat := 0x010E
/-- Completion status SETTINGS_FORM (R519). -/
def St.SETTINGS_FORM : Nat := 0x010F
/-- Completion status SETTINGS_RANGE (R519). -/
def St.SETTINGS_RANGE : Nat := 0x0110
/-- Completion status UPDATE_FORM (R519). -/
def St.UPDATE_FORM : Nat := 0x0111
/-- Completion status UPDATE_TAG (R519). -/
def St.UPDATE_TAG : Nat := 0x0112
/-- Completion status UPDATE_NO_PACKAGE (R519). -/
def St.UPDATE_NO_PACKAGE : Nat := 0x0113
/-- Completion status MODE_CONDITION (R519). -/
def St.MODE_CONDITION : Nat := 0x0201
/-- Completion status MODE_PREEMPTED (R519). -/
def St.MODE_PREEMPTED : Nat := 0x0202
/-- Completion status IN_SAFE (R519). -/
def St.IN_SAFE : Nat := 0x0203
/-- Completion status CHANGE_MODE (R519). -/
def St.CHANGE_MODE : Nat := 0x0204
/-- Completion status CHANGE_BUSY (R519). -/
def St.CHANGE_BUSY : Nat := 0x0205
/-- Completion status CHANGE_CANCELLED (R519). -/
def St.CHANGE_CANCELLED : Nat := 0x0206
/-- Completion status CANCEL_TOO_LATE (R519). -/
def St.CANCEL_TOO_LATE : Nat := 0x0207
/-- Completion status REVERT_UNAVAILABLE (R519). -/
def St.REVERT_UNAVAILABLE : Nat := 0x0208
/-- Completion status TIME_NO_MASTER (R519). -/
def St.TIME_NO_MASTER : Nat := 0x0209
/-- Completion status TIME_ROLE (R519). -/
def St.TIME_ROLE : Nat := 0x020A
/-- Completion status TIME_NOT_VALID (R519). -/
def St.TIME_NOT_VALID : Nat := 0x020B
/-- Completion status SETTINGS_MODE (R519). -/
def St.SETTINGS_MODE : Nat := 0x020C
/-- Completion status PARTNER_UNREACHABLE (R519). -/
def St.PARTNER_UNREACHABLE : Nat := 0x020D
/-- Completion status RESET_DISCARDED (R519). -/
def St.RESET_DISCARDED : Nat := 0x020E
/-- Completion status PERFORM_UNKNOWN (R519). -/
def St.PERFORM_UNKNOWN : Nat := 0x020F
/-- Completion status ORIGIN_LOST (R519). -/
def St.ORIGIN_LOST : Nat := 0x0210
/-- Completion status MD_TIMEOUT (R519). -/
def St.MD_TIMEOUT : Nat := 0x0211
/-- Completion status UPDATE_SLOT_BUSY (R519). -/
def St.UPDATE_SLOT_BUSY : Nat := 0x0212
/-- Completion status UPDATE_NOT_INSTALLED (R519). -/
def St.UPDATE_NOT_INSTALLED : Nat := 0x0213
/-- Completion status UPDATE_NOT_APPLICABLE (R519). -/
def St.UPDATE_NOT_APPLICABLE : Nat := 0x0214
/-- Completion status JOURNAL_FULL (R519). -/
def St.JOURNAL_FULL : Nat := 0x0301
/-- Completion status CHANGE_NO_ROOM (R519). -/
def St.CHANGE_NO_ROOM : Nat := 0x0302
/-- Completion status GENERATION_EXHAUSTED (R519). -/
def St.GENERATION_EXHAUSTED : Nat := 0x0303
/-- Completion status CHANGE_LOAD_FAIL (R519). -/
def St.CHANGE_LOAD_FAIL : Nat := 0x0304
/-- Completion status SETTINGS_NV_FAIL (R519). -/
def St.SETTINGS_NV_FAIL : Nat := 0x0305
/-- Completion status UPDATE_NO_SPACE (R519). -/
def St.UPDATE_NO_SPACE : Nat := 0x0306
/-- Completion status UPDATE_INSTALL_FAIL (R519). -/
def St.UPDATE_INSTALL_FAIL : Nat := 0x0307
/-- Completion status RECORDER_LOST (R519). -/
def St.RECORDER_LOST : Nat := 0x0308
/-- Completion status FORCE_CONFLICT (R519). -/
def St.FORCE_CONFLICT : Nat := 0x0401
/-- Completion status FORCE_PERMIT (R519). -/
def St.FORCE_PERMIT : Nat := 0x0402
/-- Completion status EDIT_PERMIT (R519). -/
def St.EDIT_PERMIT : Nat := 0x0403
/-- Completion status VAR_SAFETY (R519). -/
def St.VAR_SAFETY : Nat := 0x0404
/-- Completion status SETTINGS_PERMIT (R519). -/
def St.SETTINGS_PERMIT : Nat := 0x0405
/-- Completion status UPDATE_PERMIT (R519). -/
def St.UPDATE_PERMIT : Nat := 0x0406

/-- Event code ODD_PIER_NAMED (R521). -/
def Ev.ODD_PIER_NAMED : Nat := 0x1001
/-- Event code NO_MAJORITY (R521). -/
def Ev.NO_MAJORITY : Nat := 0x1002
/-- Event code LATE_SIGNATURE (R521). -/
def Ev.LATE_SIGNATURE : Nat := 0x1003
/-- Event code RESYNC_START (R521). -/
def Ev.RESYNC_START : Nat := 0x1010
/-- Event code RESYNC_DONE (R521). -/
def Ev.RESYNC_DONE : Nat := 0x1011
/-- Event code RESYNC_ABORT (R521). -/
def Ev.RESYNC_ABORT : Nat := 0x1012
/-- Event code PIER_SELFTEST_FAIL (R521). -/
def Ev.PIER_SELFTEST_FAIL : Nat := 0x1013
/-- Event code PIER_OUT_OF_SERVICE (R521). -/
def Ev.PIER_OUT_OF_SERVICE : Nat := 0x1014
/-- Event code KS_STAGE_PARITY (R521). -/
def Ev.KS_STAGE_PARITY : Nat := 0x1020
/-- Event code KS_HALF_DISAGREE (R521). -/
def Ev.KS_HALF_DISAGREE : Nat := 0x1021
/-- Event code KS_TRANSIENT (R521). -/
def Ev.KS_TRANSIENT : Nat := 0x1022
/-- Event code KS_ONLINE_FAIL (R521). -/
def Ev.KS_ONLINE_FAIL : Nat := 0x1023
/-- Event code PAIR_MISMATCH (R521). -/
def Ev.PAIR_MISMATCH : Nat := 0x1030
/-- Event code PAIR_DEGRADED (R521). -/
def Ev.PAIR_DEGRADED : Nat := 0x1031
/-- Event code PAIR_TRANSIENT (R521). -/
def Ev.PAIR_TRANSIENT : Nat := 0x1032
/-- Event code PAIR_FAILED (R521). -/
def Ev.PAIR_FAILED : Nat := 0x1033
/-- Event code REQUEST_DISCARDED (R521). -/
def Ev.REQUEST_DISCARDED : Nat := 0x1040
/-- Event code INPUT_MINORITY (R521). -/
def Ev.INPUT_MINORITY : Nat := 0x1101
/-- Event code INPUT_NONE (R521). -/
def Ev.INPUT_NONE : Nat := 0x1102
/-- Event code FRAME_DIGEST_SPLIT (R521). -/
def Ev.FRAME_DIGEST_SPLIT : Nat := 0x1103
/-- Event code START_SKEW (R521). -/
def Ev.START_SKEW : Nat := 0x1104
/-- Event code DETERMINISM_TRAP (R521). -/
def Ev.DETERMINISM_TRAP : Nat := 0x1105
/-- Event code OUTBOUND_MINORITY (R521). -/
def Ev.OUTBOUND_MINORITY : Nat := 0x1106
/-- Event code MAILBOX_LATE (R521). -/
def Ev.MAILBOX_LATE : Nat := 0x1107
/-- Event code CYCLE_LATE (R521). -/
def Ev.CYCLE_LATE : Nat := 0x2001
/-- Event code PIER_OVERRUN (R521). -/
def Ev.PIER_OVERRUN : Nat := 0x2002
/-- Event code PROGRAM_OVERRUN (R521). -/
def Ev.PROGRAM_OVERRUN : Nat := 0x2003
/-- Event code LATE_LAUNCH (R521). -/
def Ev.LATE_LAUNCH : Nat := 0x2004
/-- Event code STATION_LOST (R521). -/
def Ev.STATION_LOST : Nat := 0x2010
/-- Event code STATION_RETURNED (R521). -/
def Ev.STATION_RETURNED : Nat := 0x2011
/-- Event code BREAKPOINT_HIT (R521). -/
def Ev.BREAKPOINT_HIT : Nat := 0x2020
/-- Event code STEP_DONE (R521). -/
def Ev.STEP_DONE : Nat := 0x2021
/-- Event code CHANGE_ARMED (R521). -/
def Ev.CHANGE_ARMED : Nat := 0x2030
/-- Event code CHANGE_SWITCHED (R521). -/
def Ev.CHANGE_SWITCHED : Nat := 0x2031
/-- Event code CHANGE_REVERTED (R521). -/
def Ev.CHANGE_REVERTED : Nat := 0x2032
/-- Event code CHANGE_COMMITTED (R521). -/
def Ev.CHANGE_COMMITTED : Nat := 0x2033
/-- Event code CHANGE_CANCELLED (R521). -/
def Ev.CHANGE_CANCELLED : Nat := 0x2034
/-- Event code CARRYOVER_LATE (R521). -/
def Ev.CARRYOVER_LATE : Nat := 0x2035
/-- Event code VALUE_EDITED (R521). -/
def Ev.VALUE_EDITED : Nat := 0x2036
/-- Event code CHANGE_PIER_FAILED (R521). -/
def Ev.CHANGE_PIER_FAILED : Nat := 0x2037
/-- Event code TIME_VALID (R521). -/
def Ev.TIME_VALID : Nat := 0x3001
/-- Event code TIME_DISCONTINUITY (R521). -/
def Ev.TIME_DISCONTINUITY : Nat := 0x3002
/-- Event code HOLDOVER_ENTERED (R521). -/
def Ev.HOLDOVER_ENTERED : Nat := 0x3003
/-- Event code HOLDOVER_LEFT (R521). -/
def Ev.HOLDOVER_LEFT : Nat := 0x3004
/-- Event code EPOCH_APPLIED (R521). -/
def Ev.EPOCH_APPLIED : Nat := 0x3005
/-- Event code PATH_DELAY_STEP (R521). -/
def Ev.PATH_DELAY_STEP : Nat := 0x3006
/-- Event code PATH_DELAY_ACCEPTED (R521). -/
def Ev.PATH_DELAY_ACCEPTED : Nat := 0x3007
/-- Event code GM_CHANGED (R521). -/
def Ev.GM_CHANGED : Nat := 0x3008
/-- Event code TIME_FLOOR (R521). -/
def Ev.TIME_FLOOR : Nat := 0x3009
/-- Event code LAUNCH_LATE (R521). -/
def Ev.LAUNCH_LATE : Nat := 0x300A
/-- Event code LAUNCH_DROPPED (R521). -/
def Ev.LAUNCH_DROPPED : Nat := 0x300B
/-- Event code TXTS_OVERFLOW (R521). -/
def Ev.TXTS_OVERFLOW : Nat := 0x300C
/-- Event code TRIGGER_HIT (R521). -/
def Ev.TRIGGER_HIT : Nat := 0x3101
/-- Event code TRIGGER_MISSED (R521). -/
def Ev.TRIGGER_MISSED : Nat := 0x3102
/-- Event code QUAD_ERROR (R521). -/
def Ev.QUAD_ERROR : Nat := 0x3103
/-- Event code POS_REALIGNED (R521). -/
def Ev.POS_REALIGNED : Nat := 0x3104
/-- Event code REBASED (R521). -/
def Ev.REBASED : Nat := 0x3105
/-- Event code POS_LAUNCH_DROPPED (R521). -/
def Ev.POS_LAUNCH_DROPPED : Nat := 0x3106
/-- Event code INAUGURATION (R521). -/
def Ev.INAUGURATION : Nat := 0x4001
/-- Event code INAUG_INHIBIT (R521). -/
def Ev.INAUG_INHIBIT : Nat := 0x4002
/-- Event code TOPO_STALE (R521). -/
def Ev.TOPO_STALE : Nat := 0x4003
/-- Event code LINK_CHANGE (R521). -/
def Ev.LINK_CHANGE : Nat := 0x4010
/-- Event code SDT_ERROR (R521). -/
def Ev.SDT_ERROR : Nat := 0x4011
/-- Event code RSTP_TOPOLOGY (R521). -/
def Ev.RSTP_TOPOLOGY : Nat := 0x4012
/-- Event code FRER_ROGUE (R521). -/
def Ev.FRER_ROGUE : Nat := 0x4013
/-- Event code MALFORMED (R521). -/
def Ev.MALFORMED : Nat := 0x4020
/-- Event code PD_DROP (R521). -/
def Ev.PD_DROP : Nat := 0x4021
/-- Event code MD_DROP (R521). -/
def Ev.MD_DROP : Nat := 0x4022
/-- Event code PUB_SKIP (R521). -/
def Ev.PUB_SKIP : Nat := 0x4023
/-- Event code SW_BUFFER (R521). -/
def Ev.SW_BUFFER : Nat := 0x4024
/-- Event code MVB_MASTERSHIP (R521). -/
def Ev.MVB_MASTERSHIP : Nat := 0x4030
/-- Event code MVB_LINE_FAIL (R521). -/
def Ev.MVB_LINE_FAIL : Nat := 0x4031
/-- Event code WTB_INAUGURATION (R521). -/
def Ev.WTB_INAUGURATION : Nat := 0x4032
/-- Event code WTB_SWITCH_TIMEOUT (R521). -/
def Ev.WTB_SWITCH_TIMEOUT : Nat := 0x4033
/-- Event code CAN_BUS_OFF (R521). -/
def Ev.CAN_BUS_OFF : Nat := 0x4034
/-- Event code CAN_ERROR_PASSIVE (R521). -/
def Ev.CAN_ERROR_PASSIVE : Nat := 0x4035
/-- Event code LB_RX_OVERFLOW (R521). -/
def Ev.LB_RX_OVERFLOW : Nat := 0x4036
/-- Event code CAN_LAUNCH_DROPPED (R521). -/
def Ev.CAN_LAUNCH_DROPPED : Nat := 0x4037
/-- Event code J1939_ADDRESS_LOST (R521). -/
def Ev.J1939_ADDRESS_LOST : Nat := 0x4038
/-- Event code JOURNAL_RECOVERED (R521). -/
def Ev.JOURNAL_RECOVERED : Nat := 0x5001
/-- Event code ACCEPT_LOCAL_ONLY (R521). -/
def Ev.ACCEPT_LOCAL_ONLY : Nat := 0x5002
/-- Event code ACCEPT_MIRRORED (R521). -/
def Ev.ACCEPT_MIRRORED : Nat := 0x5003
/-- Event code RING_STOPPED (R521). -/
def Ev.RING_STOPPED : Nat := 0x5004
/-- Event code JOURNAL_LOW (R521). -/
def Ev.JOURNAL_LOW : Nat := 0x5005
/-- Event code LEASE_ACQUIRED (R521). -/
def Ev.LEASE_ACQUIRED : Nat := 0x6001
/-- Event code LEASE_EXPIRED (R521). -/
def Ev.LEASE_EXPIRED : Nat := 0x6002
/-- Event code LEASE_BASIS (R521). -/
def Ev.LEASE_BASIS : Nat := 0x6003
/-- Event code POS_CONFLICT (R521). -/
def Ev.POS_CONFLICT : Nat := 0x6004
/-- Event code LEASE_CFG_DIFF (R521). -/
def Ev.LEASE_CFG_DIFF : Nat := 0x6005
/-- Event code LANE_DOWN (R521). -/
def Ev.LANE_DOWN : Nat := 0x6010
/-- Event code LANE_UP (R521). -/
def Ev.LANE_UP : Nat := 0x6011
/-- Event code TAKEOVER_DECIDED (R521). -/
def Ev.TAKEOVER_DECIDED : Nat := 0x6020
/-- Event code TAKEOVER_ABORTED (R521). -/
def Ev.TAKEOVER_ABORTED : Nat := 0x6021
/-- Event code TAKEOVER_DONE (R521). -/
def Ev.TAKEOVER_DONE : Nat := 0x6022
/-- Event code HANDOVER (R521). -/
def Ev.HANDOVER : Nat := 0x6023
/-- Event code OUTPUT_MISMATCH (R521). -/
def Ev.OUTPUT_MISMATCH : Nat := 0x6030
/-- Event code CHECKPOINT_SKIPPED (R521). -/
def Ev.CHECKPOINT_SKIPPED : Nat := 0x6040
/-- Event code IMAGE_MISMATCH (R521). -/
def Ev.IMAGE_MISMATCH : Nat := 0x6041
/-- Event code IMAGE_SYNCED (R521). -/
def Ev.IMAGE_SYNCED : Nat := 0x6042
/-- Event code JOURNAL_LEVELLED (R521). -/
def Ev.JOURNAL_LEVELLED : Nat := 0x6043
/-- Event code JOURNAL_DIVERGED (R521). -/
def Ev.JOURNAL_DIVERGED : Nat := 0x6044
/-- Event code CLAIM_RAISED (R521). -/
def Ev.CLAIM_RAISED : Nat := 0x6050
/-- Event code GB_LATE_WRITE_FAIL (R521). -/
def Ev.GB_LATE_WRITE_FAIL : Nat := 0x7001
/-- Event code GB_ACCESS_FAIL (R521). -/
def Ev.GB_ACCESS_FAIL : Nat := 0x7002
/-- Event code GB_SCAN_LATE (R521). -/
def Ev.GB_SCAN_LATE : Nat := 0x7003
/-- Event code GB_PREFETCH_DISCARD (R521). -/
def Ev.GB_PREFETCH_DISCARD : Nat := 0x7004
/-- Event code GB_BP_RESET (R521). -/
def Ev.GB_BP_RESET : Nat := 0x7006
/-- Event code GB_CLOCK_LOST (R521). -/
def Ev.GB_CLOCK_LOST : Nat := 0x7007
/-- Event code GB_SAFE_LIST (R521). -/
def Ev.GB_SAFE_LIST : Nat := 0x7008
/-- Event code GB_SNOOP_OVERFLOW (R521). -/
def Ev.GB_SNOOP_OVERFLOW : Nat := 0x7009
/-- Event code GB_QUEUE_FULL (R521). -/
def Ev.GB_QUEUE_FULL : Nat := 0x700A
/-- Event code FS_STATE (R521). -/
def Ev.FS_STATE : Nat := 0x7010
/-- Event code DO_EXT_DRIVEN (R521). -/
def Ev.DO_EXT_DRIVEN : Nat := 0x7011
/-- Event code DO_OVERLOAD (R521). -/
def Ev.DO_OVERLOAD : Nat := 0x7012
/-- Event code DO_THERMAL (R521). -/
def Ev.DO_THERMAL : Nat := 0x7013
/-- Event code DI_EDGES_LOST (R521). -/
def Ev.DI_EDGES_LOST : Nat := 0x7014
/-- Event code CW_LINK (R521). -/
def Ev.CW_LINK : Nat := 0x7020
/-- Event code CW_TX_REFUSED (R521). -/
def Ev.CW_TX_REFUSED : Nat := 0x7021
/-- Event code CW_RX_DISCARD (R521). -/
def Ev.CW_RX_DISCARD : Nat := 0x7022
/-- Event code CW_PARITY (R521). -/
def Ev.CW_PARITY : Nat := 0x7023
/-- Event code EV_MEM_FAIL (R521). -/
def Ev.EV_MEM_FAIL : Nat := 0x8101
/-- Event code EV_SUPPRESSED (R521). -/
def Ev.EV_SUPPRESSED : Nat := 0x8102
/-- Event code EV_INTAKE_OVERFLOW (R521). -/
def Ev.EV_INTAKE_OVERFLOW : Nat := 0x8103
/-- Event code EV_RECOVERED (R521). -/
def Ev.EV_RECOVERED : Nat := 0x8104
/-- Event code CS_BANK_INVALID (R521). -/
def Ev.CS_BANK_INVALID : Nat := 0x8201
/-- Event code CS_DEFAULTS_LOADED (R521). -/
def Ev.CS_DEFAULTS_LOADED : Nat := 0x8202
/-- Event code CS_VALUE_DEFAULT (R521). -/
def Ev.CS_VALUE_DEFAULT : Nat := 0x8203
/-- Event code CS_STORED (R521). -/
def Ev.CS_STORED : Nat := 0x8204
/-- Event code CS_STORE_FAIL (R521). -/
def Ev.CS_STORE_FAIL : Nat := 0x8205
/-- Event code CS_BANK_FAILED (R521). -/
def Ev.CS_BANK_FAILED : Nat := 0x8206
/-- Event code UPD_PKG_STAGED (R521). -/
def Ev.UPD_PKG_STAGED : Nat := 0x8301
/-- Event code UPD_RELAY_START (R521). -/
def Ev.UPD_RELAY_START : Nat := 0x8302
/-- Event code UPD_RELAY_DONE (R521). -/
def Ev.UPD_RELAY_DONE : Nat := 0x8303
/-- Event code UPD_CHUNK_BAD (R521). -/
def Ev.UPD_CHUNK_BAD : Nat := 0x8304
/-- Event code UPD_HOP_WAIT (R521). -/
def Ev.UPD_HOP_WAIT : Nat := 0x8305
/-- Event code UPD_INSTALLED (R521). -/
def Ev.UPD_INSTALLED : Nat := 0x8306
/-- Event code UPD_NOT_APPLICABLE (R521). -/
def Ev.UPD_NOT_APPLICABLE : Nat := 0x8307
/-- Event code UPD_INSTALL_FAIL (R521). -/
def Ev.UPD_INSTALL_FAIL : Nat := 0x8308
/-- Event code UPD_SLOT_REFUSED (R521). -/
def Ev.UPD_SLOT_REFUSED : Nat := 0x8309
/-- Event code UPD_ACTIVATED (R521). -/
def Ev.UPD_ACTIVATED : Nat := 0x830A
/-- Event code UPD_ROLLBACK_ADVANCED (R521). -/
def Ev.UPD_ROLLBACK_ADVANCED : Nat := 0x830B
/-- Event code UPD_TRIAL_FALLBACK (R521). -/
def Ev.UPD_TRIAL_FALLBACK : Nat := 0x830C
/-- Event code POWER_FAIL (R521). -/
def Ev.POWER_FAIL : Nat := 0x9001
/-- Event code HOLDUP (R521). -/
def Ev.HOLDUP : Nat := 0x9002
/-- Event code HM_WARNING (R521). -/
def Ev.HM_WARNING : Nat := 0x9003
/-- Event code HM_ALARM (R521). -/
def Ev.HM_ALARM : Nat := 0x9004
/-- Event code HM_SELF_FAIL (R521). -/
def Ev.HM_SELF_FAIL : Nat := 0x9005
/-- Event code DX_POS_CHANGED (R521). -/
def Ev.DX_POS_CHANGED : Nat := 0x9006
/-- Event code CLOCK_LOSS (R521). -/
def Ev.CLOCK_LOSS : Nat := 0x9010
/-- Event code CLOCK_TOLERANCE (R521). -/
def Ev.CLOCK_TOLERANCE : Nat := 0x9011
/-- Event code CROSSING_OVERRUN (R521). -/
def Ev.CROSSING_OVERRUN : Nat := 0x9012
/-- Event code CROSSING_RESYNC (R521). -/
def Ev.CROSSING_RESYNC : Nat := 0x9013
/-- Event code MODE_CHANGE (R521). -/
def Ev.MODE_CHANGE : Nat := 0x9020
/-- Event code SAFE_ENTERED (R521). -/
def Ev.SAFE_ENTERED : Nat := 0x9021
/-- Event code SAFE_LATER_CAUSE (R521). -/
def Ev.SAFE_LATER_CAUSE : Nat := 0x9022
/-- Event code BOOT_NO_IMAGE (R521). -/
def Ev.BOOT_NO_IMAGE : Nat := 0x9023
/-- Event code ACCESS_WIDTH (R521). -/
def Ev.ACCESS_WIDTH : Nat := 0x9024
/-- Event code DECODE_ERROR (R521). -/
def Ev.DECODE_ERROR : Nat := 0x9025

/-- The codes of severity NOTICE (R521). -/
def noticeCodes : List Nat :=
  [0x1003, 0x1101, 0x1104, 0x1107, 0x2011, 0x3006, 0x3009, 0x3104, 0x4003, 0x4020, 0x6005, 0x6021, 
   0x6040, 0x7004, 0x7014, 0x7021, 0x7022, 0x8203, 0x8305, 0x9024, 0x9025]
/-- The codes of severity WARNING (R521). -/
def warningCodes : List Nat :=
  [0x1012, 0x1020, 0x1022, 0x1030, 0x1032, 0x1040, 0x1102, 0x1103, 0x1106, 0x2001, 0x2004, 0x2010, 
   0x2035, 0x3003, 0x300A, 0x300B, 0x300C, 0x3102, 0x3103, 0x3106, 0x4011, 0x4013, 0x4021, 0x4022, 
   0x4023, 0x4024, 0x4031, 0x4033, 0x4035, 0x4036, 0x4037, 0x5002, 0x5005, 0x6010, 0x6030, 0x6041, 
   0x6044, 0x7001, 0x7002, 0x7003, 0x7009, 0x700A, 0x7010, 0x7011, 0x7012, 0x7023, 0x8103, 0x8201, 
   0x8304, 0x9002, 0x9003, 0x9006, 0x9011, 0x9012]
/-- The codes of severity ERROR (R521). -/
def errorCodes : List Nat :=
  [0x1001, 0x1013, 0x1014, 0x1021, 0x1031, 0x1105, 0x2002, 0x2037, 0x3002, 0x4034, 0x4038, 0x5004, 
   0x6002, 0x6004, 0x6020, 0x7006, 0x7007, 0x7013, 0x8205, 0x8206, 0x8308, 0x8309, 0x830C, 0x9004, 
   0x9005, 0x9010, 0x9023]
/-- The codes of severity CRITICAL (R521). -/
def criticalCodes : List Nat :=
  [0x1002, 0x1023, 0x1033, 0x2003, 0x8101, 0x8202, 0x9001, 0x9021, 0x9022]

/-- The severity of a system code: 0 INFO, 1 NOTICE, 2 WARNING, 3 ERROR, 4 CRITICAL (R453, R521). -/
def sevOf (code : Nat) : Nat :=
  if code ∈ criticalCodes then 4 else if code ∈ errorCodes then 3 else if code ∈ warningCodes then 2
  else if code ∈ noticeCodes then 1 else 0

/-- The source block of a system code (R453, R521); 0x9024 and 0x9025 carry the block decoded instead. -/
def srcOf (code : Nat) : Nat :=
  let h := code / 0x1000
  let m := code / 0x100
  let l := code / 0x10
  if h = 1 then 1 else if h = 2 then 2
  else if h = 3 then (if m = 0x30 then 3 else 11)
  else if h = 4 then (if code ∈ [0x4010, 0x4012, 0x4013, 0x4024] then 5 else if l = 0x403 then 6 else 4)
  else if h = 5 then 7 else if h = 6 then 8
  else if h = 7 then (if l = 0x700 then 9 else if l = 0x701 then 10 else 12)
  else if h = 8 then (if m = 0x81 then 13 else if m = 0x82 then 14 else 15)
  else if l = 0x900 then 16 else if l = 0x901 then 17 else 0

end Sys2Proof.Machine
end

