-- ==== Sys2Proof/Machine/RegMap.lean ====
section
/-!
DEFINITION. Every register field of the module, one definition a field, from the register maps of spec/02 to
spec/20 (headings "NAME, block + offset") and the register index R523; the Reset column is read as R17 says.
An indexed register takes its index `n` (and `e`); a register of a field I/O or position slice takes the slice
number `s` first (0 A, 1 B, 2 C) and stands at its Deck-view address (R278, R435).  A `_LO`/`_HI` pair with one
32-bit field in each half is ONE 64-bit field at the `_LO` address (R12).  The BAR2 windows stand at 0xB2000000 plus
their BAR2 offset, an address of the model's own that no initiator can name (DESIGN CHOICE, log 4).
The default of a Caisson field is its stated default, else 0 (R17); its range is the one R471 refers to.
-/
namespace Sys2Proof.Machine

/-- `MCTL_IDENT` [31:16], access RO, reset column 0x0680. -/
def Reg.MCTL_IDENT_DEVICE : Fld := ⟨0x40000000, 16, 16, 0x680, .ro, .val, .any⟩
/-- `MCTL_IDENT` [15:8], access RO, reset column factory. -/
def Reg.MCTL_IDENT_HW_REV : Fld := ⟨0x40000000, 8, 8, 0, .ro, .factory, .any⟩
/-- `MCTL_IDENT` [3:0], access RO, reset column factory. -/
def Reg.MCTL_IDENT_VARIANT : Fld := ⟨0x40000000, 0, 4, 0, .ro, .factory, .any⟩
/-- `MCTL_MODE` [31:16], access RO, reset column 0x0000. -/
def Reg.MCTL_MODE_MODE_SEQ : Fld := ⟨0x40000004, 16, 16, 0, .ro, .val, .any⟩
/-- `MCTL_MODE` [15], access RO, reset column 0. -/
def Reg.MCTL_MODE_DEGRADED : Fld := ⟨0x40000004, 15, 1, 0, .ro, .val, .any⟩
/-- `MCTL_MODE` [14:12], access RO, reset column 0b111. -/
def Reg.MCTL_MODE_PIERS : Fld := ⟨0x40000004, 12, 3, 7, .ro, .val, .any⟩
/-- `MCTL_MODE` [10:8], access RO, reset column 0. -/
def Reg.MCTL_MODE_ROLE : Fld := ⟨0x40000004, 8, 3, 0, .ro, .val, .any⟩
/-- `MCTL_MODE` [7:4], access RO, reset column 0. -/
def Reg.MCTL_MODE_PREV : Fld := ⟨0x40000004, 4, 4, 0, .ro, .val, .any⟩
/-- `MCTL_MODE` [3:0], access RO, reset column 0. -/
def Reg.MCTL_MODE_MODE : Fld := ⟨0x40000004, 0, 4, 0, .ro, .val, .any⟩
/-- `MCTL_CFG` [4], access RO, reset column Caisson. -/
def Reg.MCTL_CFG_WARM_EN : Fld := ⟨0x40000008, 4, 1, 0, .ro, .caisson, .any⟩
/-- `MCTL_CFG` [3], access RO, reset column Caisson. -/
def Reg.MCTL_CFG_COMMISSION_EN : Fld := ⟨0x40000008, 3, 1, 0, .ro, .caisson, .any⟩
/-- `MCTL_CFG` [2], access RO, reset column Caisson. -/
def Reg.MCTL_CFG_RUN_2OO2 : Fld := ⟨0x40000008, 2, 1, 0, .ro, .caisson, .any⟩
/-- `MCTL_CFG` [1], access RO, reset column Caisson. -/
def Reg.MCTL_CFG_DUPLEX : Fld := ⟨0x40000008, 1, 1, 0, .ro, .caisson, .any⟩
/-- `MCTL_CFG` [0], access RO, reset column Caisson. -/
def Reg.MCTL_CFG_AUTORUN : Fld := ⟨0x40000008, 0, 1, 0, .ro, .caisson, .any⟩
/-- `MCTL_SAFE_CAUSE` [31:16], access RO, reset column 0x0000. -/
def Reg.MCTL_SAFE_CAUSE_DETAIL : Fld := ⟨0x4000000C, 16, 16, 0, .ro, .val, .any⟩
/-- `MCTL_SAFE_CAUSE` [15:0], access RO, reset column 0x0000. -/
def Reg.MCTL_SAFE_CAUSE_CAUSE : Fld := ⟨0x4000000C, 0, 16, 0, .ro, .val, .any⟩
/-- `MCTL_BOOT` [10:8], access RO, reset column 0b000. -/
def Reg.MCTL_BOOT_PIER_FAIL : Fld := ⟨0x40000010, 8, 3, 0, .ro, .val, .any⟩
/-- `MCTL_BOOT` [6], access RO, reset column 0. -/
def Reg.MCTL_BOOT_WARM : Fld := ⟨0x40000010, 6, 1, 0, .ro, .val, .any⟩
/-- `MCTL_BOOT` [5], access RO, reset column 0. -/
def Reg.MCTL_BOOT_FALLBACK : Fld := ⟨0x40000010, 5, 1, 0, .ro, .val, .any⟩
/-- `MCTL_BOOT` [4], access RO, reset column 0. -/
def Reg.MCTL_BOOT_SLOT : Fld := ⟨0x40000010, 4, 1, 0, .ro, .val, .any⟩
/-- `MCTL_BOOT` [3:0], access RO, reset column 0x0. -/
def Reg.MCTL_BOOT_STEP : Fld := ⟨0x40000010, 0, 4, 0, .ro, .val, .any⟩
/-- `MCTL_RESET_CAUSE` [31:24], access RO, reset column 0x00. -/
def Reg.MCTL_RESET_CAUSE_CMD_COUNT : Fld := ⟨0x40000014, 24, 8, 0, .ro, .val, .any⟩
/-- `MCTL_RESET_CAUSE` [23:16], access RO, reset column 0x00. -/
def Reg.MCTL_RESET_CAUSE_EXT_COUNT : Fld := ⟨0x40000014, 16, 8, 0, .ro, .val, .any⟩
/-- `MCTL_RESET_CAUSE` [1:0], access RO, reset column 0b00. -/
def Reg.MCTL_RESET_CAUSE_KIND : Fld := ⟨0x40000014, 0, 2, 0, .ro, .val, .any⟩
/-- `MCTL_RESET` [31:16], access WO, reset column 0x0000. -/
def Reg.MCTL_RESET_KEY : Fld := ⟨0x40000018, 16, 16, 0, .wo, .val, .any⟩
/-- `MCTL_RESET` [1:0], access WO, reset column 0b00. -/
def Reg.MCTL_RESET_KIND : Fld := ⟨0x40000018, 0, 2, 0, .wo, .val, .any⟩
/-- `MCTL_PINS` [6], access RO, reset column 0. -/
def Reg.MCTL_PINS_SAFE_OUT : Fld := ⟨0x4000001C, 6, 1, 0, .ro, .val, .any⟩
/-- `MCTL_PINS` [5], access RO, reset column 1. -/
def Reg.MCTL_PINS_STANDBY : Fld := ⟨0x4000001C, 5, 1, 1, .ro, .val, .any⟩
/-- `MCTL_PINS` [4], access RO, reset column 0. -/
def Reg.MCTL_PINS_ALIVE : Fld := ⟨0x4000001C, 4, 1, 0, .ro, .val, .any⟩
/-- `MCTL_PINS` [3], access RO, reset column pin. -/
def Reg.MCTL_PINS_PEER_STANDBY : Fld := ⟨0x4000001C, 3, 1, 0, .ro, .pin, .any⟩
/-- `MCTL_PINS` [2], access RO, reset column pin. -/
def Reg.MCTL_PINS_PEER_ALIVE : Fld := ⟨0x4000001C, 2, 1, 0, .ro, .pin, .any⟩
/-- `MCTL_PINS` [1], access RO, reset column pin. -/
def Reg.MCTL_PINS_POS : Fld := ⟨0x4000001C, 1, 1, 0, .ro, .pin, .any⟩
/-- `MCTL_PINS` [0], access RO, reset column pin. -/
def Reg.MCTL_PINS_SVC_PERMIT : Fld := ⟨0x4000001C, 0, 1, 0, .ro, .pin, .any⟩
/-- `MCTL_POWER_CYCLES` [31:0], access RO, reset column kept (R78). -/
def Reg.MCTL_POWER_CYCLES : Fld := ⟨0x40000020, 0, 32, 0, .ro, .kept, .any⟩
/-- `MCTL_OP_SECONDS` [31:0], access RO, reset column kept (R78). -/
def Reg.MCTL_OP_SECONDS : Fld := ⟨0x40000024, 0, 32, 0, .ro, .kept, .any⟩
/-- `MCTL_BOOT_TIME` [31:16], access RO, reset column 0xFFFF. -/
def Reg.MCTL_BOOT_TIME_TO_RUN_MS : Fld := ⟨0x40000028, 16, 16, 0xFFFF, .ro, .val, .any⟩
/-- `MCTL_BOOT_TIME` [15:0], access RO, reset column 0xFFFF. -/
def Reg.MCTL_BOOT_TIME_TO_READY_MS : Fld := ⟨0x40000028, 0, 16, 0xFFFF, .ro, .val, .any⟩

/-- `KS_CFG` [25:24], access RO, reset column Caisson. -/
def Reg.KS_CFG_DONOR_PREF : Fld := ⟨0x40010000, 24, 2, 0, .ro, .caisson, .any⟩
/-- `KS_CFG` [16], access RO, reset column Caisson. -/
def Reg.KS_CFG_RESYNC_EN : Fld := ⟨0x40010000, 16, 1, 0, .ro, .caisson, .any⟩
/-- `KS_CFG` [8:0], access RO, reset column Caisson. -/
def Reg.KS_CFG_SKEW_US : Fld := ⟨0x40010000, 0, 9, 0x64, .ro, .caisson, (.nat 20 500)⟩
/-- `KS_STATUS` [22:20], access RO, reset column 0b000. -/
def Reg.KS_STATUS_ISOLATED : Fld := ⟨0x40010004, 20, 3, 0, .ro, .val, .any⟩
/-- `KS_STATUS` [19], access RO, reset column 0. -/
def Reg.KS_STATUS_FROZEN : Fld := ⟨0x40010004, 19, 1, 0, .ro, .val, .any⟩
/-- `KS_STATUS` [17:16], access RO, reset column 0b11. -/
def Reg.KS_STATUS_HALF_OK : Fld := ⟨0x40010004, 16, 2, 3, .ro, .val, .any⟩
/-- `KS_STATUS` [14:12], access RO, reset column 0b111. -/
def Reg.KS_STATUS_IN_SERVICE : Fld := ⟨0x40010004, 12, 3, 7, .ro, .val, .any⟩
/-- `KS_STATUS` [11:8], access RO, reset column 0x0. -/
def Reg.KS_STATUS_RESYNC_PHASE : Fld := ⟨0x40010004, 8, 4, 0, .ro, .val, .any⟩
/-- `KS_STATUS` [3:0], access RO, reset column 0x0. -/
def Reg.KS_STATUS_OPEN_MAX : Fld := ⟨0x40010004, 0, 4, 0, .ro, .val, .any⟩
/-- `KS_VERDICT_LAST` [23:20], access RO, reset column 0x0. -/
def Reg.KS_VERDICT_LAST_CLASS : Fld := ⟨0x40010008, 20, 4, 0, .ro, .val, .any⟩
/-- `KS_VERDICT_LAST` [19:16], access RO, reset column 0x0. -/
def Reg.KS_VERDICT_LAST_KIND : Fld := ⟨0x40010008, 16, 4, 0, .ro, .val, .any⟩
/-- `KS_VERDICT_LAST` [15:14], access RO, reset column 0b11. -/
def Reg.KS_VERDICT_LAST_ODD : Fld := ⟨0x40010008, 14, 2, 3, .ro, .val, .any⟩
/-- `KS_VERDICT_LAST` [12], access RO, reset column 0. -/
def Reg.KS_VERDICT_LAST_NO_WINDOW : Fld := ⟨0x40010008, 12, 1, 0, .ro, .val, .any⟩
/-- `KS_VERDICT_LAST` [11:0], access RO, reset column 0x000. -/
def Reg.KS_VERDICT_LAST_PART : Fld := ⟨0x40010008, 0, 12, 0, .ro, .val, .any⟩
/-- `KS_VERDICT_CYC` [31:0] (64 bits with its upper half), access RO, reset column 0x0000_0000. -/
def Reg.KS_VERDICT_CYC : Fld := ⟨0x4001000C, 0, 64, 0, .ro, .val, .any⟩
/-- `KS_VERDICT_SEQ` [31:0], access RO, reset column 0x0000_0000. -/
def Reg.KS_VERDICT_SEQ : Fld := ⟨0x40010014, 0, 32, 0, .ro, .val, .any⟩
/-- `KS_ODD_COUNT` [23:16], access RO, reset column 0x00. -/
def Reg.KS_ODD_COUNT_C : Fld := ⟨0x40010018, 16, 8, 0, .ro, .val, .any⟩
/-- `KS_ODD_COUNT` [15:8], access RO, reset column 0x00. -/
def Reg.KS_ODD_COUNT_B : Fld := ⟨0x40010018, 8, 8, 0, .ro, .val, .any⟩
/-- `KS_ODD_COUNT` [7:0], access RO, reset column 0x00. -/
def Reg.KS_ODD_COUNT_A : Fld := ⟨0x40010018, 0, 8, 0, .ro, .val, .any⟩
/-- `KS_ODD_HOUR` [5:4], access RO, reset column MRAM. -/
def Reg.KS_ODD_HOUR_C : Fld := ⟨0x4001001C, 4, 2, 0, .ro, .mram, .any⟩
/-- `KS_ODD_HOUR` [3:2], access RO, reset column MRAM. -/
def Reg.KS_ODD_HOUR_B : Fld := ⟨0x4001001C, 2, 2, 0, .ro, .mram, .any⟩
/-- `KS_ODD_HOUR` [1:0], access RO, reset column MRAM. -/
def Reg.KS_ODD_HOUR_A : Fld := ⟨0x4001001C, 0, 2, 0, .ro, .mram, .any⟩
/-- `KS_WIN_COUNT` [31:0] (64 bits with its upper half), access RO, reset column 0x0000_0000. -/
def Reg.KS_WIN_COUNT : Fld := ⟨0x40010020, 0, 64, 0, .ro, .val, .any⟩
/-- `KS_REQ_DISCARD` [31:16], access RC, reset column 0x0000. -/
def Reg.KS_REQ_DISCARD_LEASE : Fld := ⟨0x40010028, 16, 16, 0, .rc, .val, .any⟩
/-- `KS_REQ_DISCARD` [15:0], access RC, reset column 0x0000. -/
def Reg.KS_REQ_DISCARD_VERDICT : Fld := ⟨0x40010028, 0, 16, 0, .rc, .val, .any⟩
/-- `KS_REQ_DISCARD_MODE` [15:0], access RC, reset column 0x0000. -/
def Reg.KS_REQ_DISCARD_MODE_MODE : Fld := ⟨0x40010038, 0, 16, 0, .rc, .val, .any⟩
/-- `KS_MINORITY_COUNT` [31:16], access RC, reset column 0x0000. -/
def Reg.KS_MINORITY_COUNT_MAILBOX_LATE : Fld := ⟨0x4001002C, 16, 16, 0, .rc, .val, .any⟩
/-- `KS_MINORITY_COUNT` [15:0], access RC, reset column 0x0000. -/
def Reg.KS_MINORITY_COUNT_OUTBOUND : Fld := ⟨0x4001002C, 0, 16, 0, .rc, .val, .any⟩
/-- `KS_LATE_SIG` [31:16], access RC, reset column 0x0000. -/
def Reg.KS_LATE_SIG_LATE_DIFF : Fld := ⟨0x40010030, 16, 16, 0, .rc, .val, .any⟩
/-- `KS_LATE_SIG` [15:0], access RC, reset column 0x0000. -/
def Reg.KS_LATE_SIG_LATE_MATCH : Fld := ⟨0x40010030, 0, 16, 0, .rc, .val, .any⟩
/-- `KS_OPEN` [11:8], access RO, reset column 0x0. -/
def Reg.KS_OPEN_C : Fld := ⟨0x40010034, 8, 4, 0, .ro, .val, .any⟩
/-- `KS_OPEN` [7:4], access RO, reset column 0x0. -/
def Reg.KS_OPEN_B : Fld := ⟨0x40010034, 4, 4, 0, .ro, .val, .any⟩
/-- `KS_OPEN` [3:0], access RO, reset column 0x0. -/
def Reg.KS_OPEN_A : Fld := ⟨0x40010034, 0, 4, 0, .ro, .val, .any⟩
/-- `KS_RESYNC_CFG` [25:16], access RO, reset column Caisson. -/
def Reg.KS_RESYNC_CFG_LIMIT_S : Fld := ⟨0x40010040, 16, 10, 0x1E, .ro, .caisson, (.nat 1 600)⟩
/-- `KS_RESYNC_CFG` [15:8], access RO, reset column Caisson. -/
def Reg.KS_RESYNC_CFG_FINAL_PAGES : Fld := ⟨0x40010040, 8, 8, 0x40, .ro, .caisson, (.nat 1 255)⟩
/-- `KS_RESYNC_CFG` [7:0], access RW, reset column Caisson. -/
def Reg.KS_RESYNC_CFG_COPY_SHARE : Fld := ⟨0x40010040, 0, 8, 0x14, .rw, .caisson, (.nat 5 40)⟩
/-- `KS_RESYNC_STATUS` [31], access W1C, reset column 0. -/
def Reg.KS_RESYNC_STATUS_SHARE_REJ : Fld := ⟨0x40010044, 31, 1, 0, .w1c, .val, .any⟩
/-- `KS_RESYNC_STATUS` [27:24], access RO, reset column 0x0. -/
def Reg.KS_RESYNC_STATUS_RESULT : Fld := ⟨0x40010044, 24, 4, 0, .ro, .val, .any⟩
/-- `KS_RESYNC_STATUS` [23:22], access RO, reset column 0b11. -/
def Reg.KS_RESYNC_STATUS_TARGET : Fld := ⟨0x40010044, 22, 2, 3, .ro, .val, .any⟩
/-- `KS_RESYNC_STATUS` [21:20], access RO, reset column 0b11. -/
def Reg.KS_RESYNC_STATUS_DONOR : Fld := ⟨0x40010044, 20, 2, 3, .ro, .val, .any⟩
/-- `KS_RESYNC_STATUS` [19:16], access RO, reset column 0x0. -/
def Reg.KS_RESYNC_STATUS_PHASE : Fld := ⟨0x40010044, 16, 4, 0, .ro, .val, .any⟩
/-- `KS_RESYNC_STATUS` [15:8], access RO, reset column 0x00. -/
def Reg.KS_RESYNC_STATUS_PASS : Fld := ⟨0x40010044, 8, 8, 0, .ro, .val, .any⟩
/-- `KS_RESYNC_STATUS` [7:0], access RO, reset column 0x00. -/
def Reg.KS_RESYNC_STATUS_ATTEMPT : Fld := ⟨0x40010044, 0, 8, 0, .ro, .val, .any⟩
/-- `KS_RESYNC_DIRTY` [16:0], access RO, reset column 0. -/
def Reg.KS_RESYNC_DIRTY_PAGES : Fld := ⟨0x40010048, 0, 17, 0, .ro, .val, .any⟩
/-- `KS_RESYNC_COPIED` [31:0], access RO, reset column 0x0000_0000. -/
def Reg.KS_RESYNC_COPIED : Fld := ⟨0x4001004C, 0, 32, 0, .ro, .val, .any⟩
/-- `KS_RESYNC_TIME` [31:0], access RO, reset column 0x0000_0000. -/
def Reg.KS_RESYNC_TIME : Fld := ⟨0x40010050, 0, 32, 0, .ro, .val, .any⟩
/-- `KS_RESYNC_BLOCKS` [31:16], access RO, reset column 0x0000. -/
def Reg.KS_RESYNC_BLOCKS_CHECKED : Fld := ⟨0x40010054, 16, 16, 0, .ro, .val, .any⟩
/-- `KS_RESYNC_BLOCKS` [15:0], access RO, reset column 0x0000. -/
def Reg.KS_RESYNC_BLOCKS_COPIED : Fld := ⟨0x40010054, 0, 16, 0, .ro, .val, .any⟩
/-- `KS_HALF_n` [23:16], access RO, reset column 0x00. -/
def Reg.KS_HALF_PARITY (n : Nat) : Fld := ⟨0x40010060 + 0x4 * n, 16, 8, 0, .ro, .val, .any⟩
/-- `KS_HALF_n` [15:8], access RO, reset column MRAM. -/
def Reg.KS_HALF_TRANSIENTS (n : Nat) : Fld := ⟨0x40010060 + 0x4 * n, 8, 8, 0, .ro, .mram, .any⟩
/-- `KS_HALF_n` [3], access RO, reset column 1. -/
def Reg.KS_HALF_ONLINE_OK (n : Nat) : Fld := ⟨0x40010060 + 0x4 * n, 3, 1, 1, .ro, .val, .any⟩
/-- `KS_HALF_n` [2], access RO, reset column 0. -/
def Reg.KS_HALF_SELFTEST_RUN (n : Nat) : Fld := ⟨0x40010060 + 0x4 * n, 2, 1, 0, .ro, .val, .any⟩
/-- `KS_HALF_n` [1], access RO, reset column 1. -/
def Reg.KS_HALF_SELFTEST_PASS (n : Nat) : Fld := ⟨0x40010060 + 0x4 * n, 1, 1, 1, .ro, .val, .any⟩
/-- `KS_HALF_n` [0], access RO, reset column 0. -/
def Reg.KS_HALF_BROKEN (n : Nat) : Fld := ⟨0x40010060 + 0x4 * n, 0, 1, 0, .ro, .val, .any⟩
/-- `KS_HALF_DISAGREE` [15:0], access RO, reset column 0x0000. -/
def Reg.KS_HALF_DISAGREE_COUNT : Fld := ⟨0x40010068, 0, 16, 0, .ro, .val, .any⟩
/-- `KS_ONLINE_COUNT` [31:0], access RO, reset column 0x0000_0000. -/
def Reg.KS_ONLINE_COUNT : Fld := ⟨0x4001006C, 0, 32, 0, .ro, .val, .any⟩
/-- `KS_PAIR_STATE` [27:4], access RO, reset column 0. -/
def Reg.KS_PAIR_STATE_UNIT : Fld := ⟨0x40010080, 4, 24, 0, .ro, .val, .any⟩
/-- `KS_PAIR_u` [23:16], access RO, reset column 0x00. -/
def Reg.KS_PAIR_MISMATCHES (n : Nat) : Fld := ⟨0x40010080 + 0x4 * n, 16, 8, 0, .ro, .val, .any⟩
/-- `KS_PAIR_u` [15:8], access RO, reset column 0x00. -/
def Reg.KS_PAIR_TRANSIENTS (n : Nat) : Fld := ⟨0x40010080 + 0x4 * n, 8, 8, 0, .ro, .val, .any⟩
/-- `KS_PAIR_u` [1:0], access RO, reset column MRAM. -/
def Reg.KS_PAIR_HOUR (n : Nat) : Fld := ⟨0x40010080 + 0x4 * n, 0, 2, 0, .ro, .mram, .any⟩
/-- `KS_START_SKEW_n` [31:16], access RO, reset column 0x0000. -/
def Reg.KS_START_SKEW_LAST (n : Nat) : Fld := ⟨0x40010100 + 0x4 * n, 16, 16, 0, .ro, .val, .any⟩
/-- `KS_START_SKEW_n` [15:0], access RC, reset column 0x0000. -/
def Reg.KS_START_SKEW_MAX (n : Nat) : Fld := ⟨0x40010100 + 0x4 * n, 0, 16, 0, .rc, .val, .any⟩
/-- `KS_WIN_SKEW_n` [19:0], access RC, reset column 0x0_0000. -/
def Reg.KS_WIN_SKEW_MAX (n : Nat) : Fld := ⟨0x40010140 + 0x4 * n, 0, 20, 0, .rc, .val, .any⟩

/-- `CYC_CFG` [26:16], access RO, reset column image. -/
def Reg.CYC_CFG_STATIONS : Fld := ⟨0x40020000, 16, 11, 0, .ro, .image, .any⟩
/-- `CYC_CFG` [8], access RO, reset column image. -/
def Reg.CYC_CFG_SNAP_EN : Fld := ⟨0x40020000, 8, 1, 0, .ro, .image, .any⟩
/-- `CYC_CFG` [3:0], access RO, reset column image. -/
def Reg.CYC_CFG_SNAP_CLASS : Fld := ⟨0x40020000, 0, 4, 0, .ro, .image, .any⟩
/-- `CYC_STATUS` [31:16], access RO, reset column 0x0000. -/
def Reg.CYC_STATUS_ACTIVE : Fld := ⟨0x40020004, 16, 16, 0, .ro, .val, .any⟩
/-- `CYC_STATUS` [8], access RO, reset column 0. -/
def Reg.CYC_STATUS_TICK_VALID : Fld := ⟨0x40020004, 8, 1, 0, .ro, .val, .any⟩
/-- `CYC_STATUS` [3:0], access RO, reset column 0x0. -/
def Reg.CYC_STATUS_STATE : Fld := ⟨0x40020004, 0, 4, 0, .ro, .val, .any⟩
/-- `CYC_TICK` [31:0] (64 bits with its upper half), access RO, reset column 0x0000_0000. -/
def Reg.CYC_TICK : Fld := ⟨0x40020008, 0, 64, 0, .ro, .val, .any⟩
/-- `CYC_VTICK` [31:0] (64 bits with its upper half), access RO, reset column 0x0000_0000. -/
def Reg.CYC_VTICK : Fld := ⟨0x40020010, 0, 64, 0, .ro, .val, .any⟩
/-- `CYC_STEP` [31:16], access RO, reset column 0x0000. -/
def Reg.CYC_STEP_REMAIN : Fld := ⟨0x40020018, 16, 16, 0, .ro, .val, .any⟩
/-- `CYC_STEP` [3:0], access RO, reset column 0x0. -/
def Reg.CYC_STEP_CLASS : Fld := ⟨0x40020018, 0, 4, 0, .ro, .val, .any⟩
/-- `CYC_BRK` [31], access RO, reset column 0. -/
def Reg.CYC_BRK_EN : Fld := ⟨0x4002001C, 31, 1, 0, .ro, .val, .any⟩
/-- `CYC_BRK` [3:0], access RO, reset column 0x0. -/
def Reg.CYC_BRK_CLASS : Fld := ⟨0x4002001C, 0, 4, 0, .ro, .val, .any⟩
/-- `CYC_BRK_CYC` [31:0] (64 bits with its upper half), access RO, reset column 0x0000_0000. -/
def Reg.CYC_BRK_CYC : Fld := ⟨0x40020020, 0, 64, 0, .ro, .val, .any⟩
/-- `CYC_OVR_LAST` [19:16], access RO, reset column 0x0. -/
def Reg.CYC_OVR_LAST_CLASS : Fld := ⟨0x40020028, 16, 4, 0, .ro, .val, .any⟩
/-- `CYC_OVR_LAST` [10:8], access RO, reset column 0b000. -/
def Reg.CYC_OVR_LAST_PIERS : Fld := ⟨0x40020028, 8, 3, 0, .ro, .val, .any⟩
/-- `CYC_OVR_LAST` [1:0], access RO, reset column 0b00. -/
def Reg.CYC_OVR_LAST_KIND : Fld := ⟨0x40020028, 0, 2, 0, .ro, .val, .any⟩
/-- `CYC_OVR_CYC` [31:0] (64 bits with its upper half), access RO, reset column 0x0000_0000. -/
def Reg.CYC_OVR_CYC : Fld := ⟨0x4002002C, 0, 64, 0, .ro, .val, .any⟩
/-- `CYC_LAUNCH_LATE` [15:0], access RC, reset column 0x0000. -/
def Reg.CYC_LAUNCH_LATE_COUNT : Fld := ⟨0x40020034, 0, 16, 0, .rc, .val, .any⟩
/-- `CYC_CLS_CFG_n` [31], access RO, reset column image. -/
def Reg.CYC_CLS_CFG_EN (n : Nat) : Fld := ⟨0x40020100 + 0x20 * n, 31, 1, 0, .ro, .image, .any⟩
/-- `CYC_CLS_CFG_n` [30], access RO, reset column image. -/
def Reg.CYC_CLS_CFG_COUPLED (n : Nat) : Fld := ⟨0x40020100 + 0x20 * n, 30, 1, 0, .ro, .image, .any⟩
/-- `CYC_CLS_CFG_n` [29], access RO, reset column image. -/
def Reg.CYC_CLS_CFG_DO_AT_LAUNCH (n : Nat) : Fld := ⟨0x40020100 + 0x20 * n, 29, 1, 0, .ro, .image, .any⟩
/-- `CYC_CLS_CFG_n` [27:24], access RO, reset column image. -/
def Reg.CYC_CLS_CFG_CORES (n : Nat) : Fld := ⟨0x40020100 + 0x20 * n, 24, 4, 0, .ro, .image, .any⟩
/-- `CYC_CLS_CFG_n` [16:0], access RO, reset column image. -/
def Reg.CYC_CLS_CFG_PERIOD (n : Nat) : Fld := ⟨0x40020100 + 0x20 * n, 0, 17, 0, .ro, .image, .any⟩
/-- `CYC_CLS_OFFSET_n` [16:0], access RO, reset column image. -/
def Reg.CYC_CLS_OFFSET_OFFSET (n : Nat) : Fld := ⟨0x40020104 + 0x20 * n, 0, 17, 0, .ro, .image, .any⟩
/-- `CYC_CLS_LAUNCH_n` [16:0], access RO, reset column image. -/
def Reg.CYC_CLS_LAUNCH_LAUNCH (n : Nat) : Fld := ⟨0x40020108 + 0x20 * n, 0, 17, 0, .ro, .image, .any⟩
/-- `CYC_CLS_CYC_n` [31:0] (64 bits with its upper half), access RO, reset column 0x0000_0000. -/
def Reg.CYC_CLS_CYC (n : Nat) : Fld := ⟨0x4002010C + 0x20 * n, 0, 64, 0, .ro, .val, .any⟩
/-- `CYC_CLS_TIME_n` [31:16], access RC, reset column 0x0000. -/
def Reg.CYC_CLS_TIME_MAX (n : Nat) : Fld := ⟨0x40020114 + 0x20 * n, 16, 16, 0, .rc, .val, .any⟩
/-- `CYC_CLS_TIME_n` [15:0], access RO, reset column 0x0000. -/
def Reg.CYC_CLS_TIME_LAST (n : Nat) : Fld := ⟨0x40020114 + 0x20 * n, 0, 16, 0, .ro, .val, .any⟩
/-- `CYC_CLS_OVR_n` [31:16], access RC, reset column 0x0000. -/
def Reg.CYC_CLS_OVR_PIER (n : Nat) : Fld := ⟨0x40020118 + 0x20 * n, 16, 16, 0, .rc, .val, .any⟩
/-- `CYC_CLS_OVR_n` [15:0], access RC, reset column 0x0000. -/
def Reg.CYC_CLS_OVR_LATE (n : Nat) : Fld := ⟨0x40020118 + 0x20 * n, 0, 16, 0, .rc, .val, .any⟩
/-- `CYC_CLS_STN_n` [26:16], access RO, reset column 0x000. -/
def Reg.CYC_CLS_STN_LOST (n : Nat) : Fld := ⟨0x4002011C + 0x20 * n, 16, 11, 0, .ro, .val, .any⟩
/-- `CYC_CLS_STN_n` [10:0], access RO, reset column image. -/
def Reg.CYC_CLS_STN_STATIONS (n : Nat) : Fld := ⟨0x4002011C + 0x20 * n, 0, 11, 0, .ro, .image, .any⟩
/-- `CYC_STN_LOST_m` [31:0], access RO, reset column 0x0000_0000. -/
def Reg.CYC_STN_LOST (n : Nat) : Fld := ⟨0x40020400 + 0x4 * n, 0, 32, 0, .ro, .val, .any⟩
/-- `CYC_STN_AGED_m` [31:0], access RO, reset column 0x0000_0000. -/
def Reg.CYC_STN_AGED (n : Nat) : Fld := ⟨0x40020480 + 0x4 * n, 0, 32, 0, .ro, .val, .any⟩

/-- `TU_CFG` [29:24], access RO, reset column Caisson. -/
def Reg.TU_CFG_PORT_EN : Fld := ⟨0x40030000, 24, 6, 0, .ro, .caisson, .any⟩
/-- `TU_CFG` [16], access RO, reset column Caisson. -/
def Reg.TU_CFG_TRANSPORT : Fld := ⟨0x40030000, 16, 1, 0, .ro, .caisson, .any⟩
/-- `TU_CFG` [15:8], access RO, reset column Caisson. -/
def Reg.TU_CFG_DOMAIN : Fld := ⟨0x40030000, 8, 8, 0, .ro, .caisson, .any⟩
/-- `TU_CFG` [5:4], access RO, reset column Caisson. -/
def Reg.TU_CFG_PROFILE : Fld := ⟨0x40030000, 4, 2, 0, .ro, .caisson, (.nat 0 2)⟩
/-- `TU_CFG` [1:0], access RO, reset column Caisson. -/
def Reg.TU_CFG_SOURCE : Fld := ⟨0x40030000, 0, 2, 0, .ro, .caisson, (.nat 0 3)⟩
/-- `TU_PRIO` [23:16], access RO, reset column Caisson. -/
def Reg.TU_PRIO_CLOCK_CLASS : Fld := ⟨0x40030004, 16, 8, 0xF8, .ro, .caisson, .any⟩
/-- `TU_PRIO` [15:8], access RO, reset column Caisson. -/
def Reg.TU_PRIO_PRIORITY2 : Fld := ⟨0x40030004, 8, 8, 0x80, .ro, .caisson, .any⟩
/-- `TU_PRIO` [7:0], access RO, reset column Caisson. -/
def Reg.TU_PRIO_PRIORITY1 : Fld := ⟨0x40030004, 0, 8, 0x80, .ro, .caisson, .any⟩
/-- `TU_INTERVAL` [31:24], access RO, reset column Caisson. -/
def Reg.TU_INTERVAL_ANN_TIMEOUT : Fld := ⟨0x40030008, 24, 8, 3, .ro, .caisson, (.nat 2 10)⟩
/-- `TU_INTERVAL` [23:16], access RO, reset column Caisson. -/
def Reg.TU_INTERVAL_LOG_DELAY : Fld := ⟨0x40030008, 16, 8, 0, .ro, .caisson, (.sgn (-5) (5))⟩
/-- `TU_INTERVAL` [15:8], access RO, reset column Caisson. -/
def Reg.TU_INTERVAL_LOG_ANNOUNCE : Fld := ⟨0x40030008, 8, 8, 0, .ro, .caisson, (.sgn (-3) (3))⟩
/-- `TU_INTERVAL` [7:0], access RO, reset column Caisson. -/
def Reg.TU_INTERVAL_LOG_SYNC : Fld := ⟨0x40030008, 0, 8, 0xFD, .ro, .caisson, (.sgn (-5) (1))⟩
/-- `TU_STATUS` [11], access RO, reset column 0. -/
def Reg.TU_STATUS_OFFSET_VALID : Fld := ⟨0x4003000C, 11, 1, 0, .ro, .val, .any⟩
/-- `TU_STATUS` [10:8], access RO, reset column 0b111. -/
def Reg.TU_STATUS_SLAVE_PORT : Fld := ⟨0x4003000C, 8, 3, 7, .ro, .val, .any⟩
/-- `TU_STATUS` [7], access W1C, reset column 0. -/
def Reg.TU_STATUS_THR_REJ : Fld := ⟨0x4003000C, 7, 1, 0, .w1c, .val, .any⟩
/-- `TU_STATUS` [6], access RO, reset column 0. -/
def Reg.TU_STATUS_HOLD_PD : Fld := ⟨0x4003000C, 6, 1, 0, .ro, .val, .any⟩
/-- `TU_STATUS` [5], access RO, reset column 0. -/
def Reg.TU_STATUS_GM : Fld := ⟨0x4003000C, 5, 1, 0, .ro, .val, .any⟩
/-- `TU_STATUS` [4], access RO, reset column 0. -/
def Reg.TU_STATUS_VALID : Fld := ⟨0x4003000C, 4, 1, 0, .ro, .val, .any⟩
/-- `TU_STATUS` [3:0], access RO, reset column 0x0. -/
def Reg.TU_STATUS_STATE : Fld := ⟨0x4003000C, 0, 4, 0, .ro, .val, .any⟩
/-- `TU_SLEW_LIMIT` [6:0], access RW, reset column Caisson. -/
def Reg.TU_SLEW_LIMIT_LIMIT : Fld := ⟨0x40030010, 0, 7, 0x14, .rw, .caisson, (.nat 1 100)⟩
/-- `TU_JUMP_THRESH` [19:0], access RW, reset column Caisson. -/
def Reg.TU_JUMP_THRESH_US : Fld := ⟨0x40030014, 0, 20, 0x3E8, .rw, .caisson, (.nat 100 1000000)⟩
/-- `TU_PD_STEP` [23:16], access RW, reset column Caisson. -/
def Reg.TU_PD_STEP_HOLD_N : Fld := ⟨0x40030018, 16, 8, 8, .rw, .caisson, (.nat 2 64)⟩
/-- `TU_PD_STEP` [15:0], access RW, reset column Caisson. -/
def Reg.TU_PD_STEP_STEP_NS : Fld := ⟨0x40030018, 0, 16, 0x1F4, .rw, .caisson, (.nat 50 10000)⟩
/-- `TU_SCHED` [31:0] (64 bits with its upper half), access RO, reset column 0x0000_0000. -/
def Reg.TU_SCHED : Fld := ⟨0x40030020, 0, 64, 0, .ro, .val, .any⟩
/-- `TU_TRAIN` [31:0] (64 bits with its upper half), access RO, reset column 0x0000_0000. -/
def Reg.TU_TRAIN : Fld := ⟨0x40030028, 0, 64, 0, .ro, .val, .any⟩
/-- `TU_EPOCH` [31:0] (64 bits with its upper half), access RO, reset column MRAM. -/
def Reg.TU_EPOCH : Fld := ⟨0x40030030, 0, 64, 0, .ro, .mram, .any⟩
/-- `TU_EPOCH_NUM` [31:0], access RO, reset column MRAM. -/
def Reg.TU_EPOCH_NUM : Fld := ⟨0x40030038, 0, 32, 0, .ro, .mram, .any⟩
/-- `TU_OFFSET` [31:0], access RO, reset column 0x0000_0000. -/
def Reg.TU_OFFSET : Fld := ⟨0x40030040, 0, 32, 0, .ro, .val, .any⟩
/-- `TU_FREQ` [31:0], access RO, reset column 0x0000_0000. -/
def Reg.TU_FREQ : Fld := ⟨0x40030044, 0, 32, 0, .ro, .val, .any⟩
/-- `TU_SLEW_NOW` [31:0], access RO, reset column 0x0000_0000. -/
def Reg.TU_SLEW_NOW : Fld := ⟨0x40030048, 0, 32, 0, .ro, .val, .any⟩
/-- `TU_PATH_DELAY` [31:0], access RO, reset column 0x0000_0000. -/
def Reg.TU_PATH_DELAY : Fld := ⟨0x4003004C, 0, 32, 0, .ro, .val, .any⟩
/-- `TU_GM_ID` [31:0] (64 bits with its upper half), access RO, reset column 0x0000_0000. -/
def Reg.TU_GM_ID : Fld := ⟨0x40030050, 0, 64, 0, .ro, .val, .any⟩
/-- `TU_HOLDOVER` [31:0], access RO, reset column 0x0000_0000. -/
def Reg.TU_HOLDOVER : Fld := ⟨0x40030058, 0, 32, 0, .ro, .val, .any⟩
/-- `TU_SAMPLES` [31:16], access RC, reset column 0x0000. -/
def Reg.TU_SAMPLES_OUTLIERS : Fld := ⟨0x4003005C, 16, 16, 0, .rc, .val, .any⟩
/-- `TU_SAMPLES` [15:0], access RC, reset column 0x0000. -/
def Reg.TU_SAMPLES_PD_STEPS : Fld := ⟨0x4003005C, 0, 16, 0, .rc, .val, .any⟩
/-- `TU_PORT_STATE_p` [9], access RO, reset column 0. -/
def Reg.TU_PORT_STATE_LINK (n : Nat) : Fld := ⟨0x40030100 + 0x40 * n, 9, 1, 0, .ro, .val, .any⟩
/-- `TU_PORT_STATE_p` [8], access RO, reset column 0. -/
def Reg.TU_PORT_STATE_PD_VALID (n : Nat) : Fld := ⟨0x40030100 + 0x40 * n, 8, 1, 0, .ro, .val, .any⟩
/-- `TU_PORT_STATE_p` [3:0], access RO, reset column 0x1. -/
def Reg.TU_PORT_STATE_PORT_STATE (n : Nat) : Fld := ⟨0x40030100 + 0x40 * n, 0, 4, 1, .ro, .val, .any⟩
/-- `TU_PORT_PD_p` [31:0], access RO, reset column 0x0000_0000. -/
def Reg.TU_PORT_PD (n : Nat) : Fld := ⟨0x40030104 + 0x40 * n, 0, 32, 0, .ro, .val, .any⟩
/-- `TU_PORT_TXLAT_p` [31:16], access RO, reset column factory. -/
def Reg.TU_PORT_TXLAT_LAT_100M (n : Nat) : Fld := ⟨0x40030108 + 0x40 * n, 16, 16, 0, .ro, .factory, .any⟩
/-- `TU_PORT_TXLAT_p` [15:0], access RO, reset column factory. -/
def Reg.TU_PORT_TXLAT_LAT_1G (n : Nat) : Fld := ⟨0x40030108 + 0x40 * n, 0, 16, 0, .ro, .factory, .any⟩
/-- `TU_PORT_RXLAT_p` [31:16], access RO, reset column factory. -/
def Reg.TU_PORT_RXLAT_LAT_100M (n : Nat) : Fld := ⟨0x4003010C + 0x40 * n, 16, 16, 0, .ro, .factory, .any⟩
/-- `TU_PORT_RXLAT_p` [15:0], access RO, reset column factory. -/
def Reg.TU_PORT_RXLAT_LAT_1G (n : Nat) : Fld := ⟨0x4003010C + 0x40 * n, 0, 16, 0, .ro, .factory, .any⟩
/-- `TU_ASYM_p` [31:0], access RW, reset column Caisson. -/
def Reg.TU_ASYM (n : Nat) : Fld := ⟨0x40030110 + 0x40 * n, 0, 32, 0, .rw, .caisson, (.sgn (-100000) (100000))⟩
/-- `TU_LAUNCH_p` [16], access RW, reset column Caisson. -/
def Reg.TU_LAUNCH_POLICY (n : Nat) : Fld := ⟨0x40030114 + 0x40 * n, 16, 1, 0, .rw, .caisson, .any⟩
/-- `TU_LAUNCH_p` [15:0], access RW, reset column Caisson. -/
def Reg.TU_LAUNCH_LATE_TOL (n : Nat) : Fld := ⟨0x40030114 + 0x40 * n, 0, 16, 0x3E8, .rw, .caisson, .any⟩
/-- `TU_LAUNCH_CNT_p` [31:16], access RC, reset column 0x0000. -/
def Reg.TU_LAUNCH_CNT_DROPPED (n : Nat) : Fld := ⟨0x40030118 + 0x40 * n, 16, 16, 0, .rc, .val, .any⟩
/-- `TU_LAUNCH_CNT_p` [15:0], access RC, reset column 0x0000. -/
def Reg.TU_LAUNCH_CNT_LATE (n : Nat) : Fld := ⟨0x40030118 + 0x40 * n, 0, 16, 0, .rc, .val, .any⟩
/-- `TU_TXTS_STATUS_p` [31:16], access RC, reset column 0x0000. -/
def Reg.TU_TXTS_STATUS_OVF_COUNT (n : Nat) : Fld := ⟨0x4003011C + 0x40 * n, 16, 16, 0, .rc, .val, .any⟩
/-- `TU_TXTS_STATUS_p` [8], access W1C, reset column 0. -/
def Reg.TU_TXTS_STATUS_OVF (n : Nat) : Fld := ⟨0x4003011C + 0x40 * n, 8, 1, 0, .w1c, .val, .any⟩
/-- `TU_TXTS_STATUS_p` [4:0], access RO, reset column 0x00. -/
def Reg.TU_TXTS_STATUS_COUNT (n : Nat) : Fld := ⟨0x4003011C + 0x40 * n, 0, 5, 0, .ro, .val, .any⟩
/-- `TU_TXTS_ID_p` [31], access RC, reset column 0. -/
def Reg.TU_TXTS_ID_VALID (n : Nat) : Fld := ⟨0x40030120 + 0x40 * n, 31, 1, 0, .rc, .val, .any⟩
/-- `TU_TXTS_ID_p` [15:0], access RC, reset column 0x0000. -/
def Reg.TU_TXTS_ID_ID (n : Nat) : Fld := ⟨0x40030120 + 0x40 * n, 0, 16, 0, .rc, .val, .any⟩
/-- `TU_TXTS_p` [31:0] (64 bits with its upper half), access RO, reset column 0x0000_0000. -/
def Reg.TU_TXTS (n : Nat) : Fld := ⟨0x40030124 + 0x40 * n, 0, 64, 0, .ro, .val, .any⟩

/-- `TE_CFG` [25:16], access RO, reset column Caisson. -/
def Reg.TE_CFG_MD_DEPTH : Fld := ⟨0x40040000, 16, 10, 0x200, .ro, .caisson, (.nat 16 512)⟩
/-- `TE_CFG` [12:0], access RO, reset column image. -/
def Reg.TE_CFG_PUBS : Fld := ⟨0x40040000, 0, 13, 0, .ro, .image, .any⟩
/-- `TE_SUBS` [13:0], access RO, reset column image. -/
def Reg.TE_SUBS_SUBS : Fld := ⟨0x40040004, 0, 14, 0, .ro, .image, .any⟩
/-- `TE_STATUS` [24:16], access RO, reset column 0x000. -/
def Reg.TE_STATUS_RNAT : Fld := ⟨0x40040008, 16, 9, 0, .ro, .val, .any⟩
/-- `TE_STATUS` [15:10], access RO, reset column 0. -/
def Reg.TE_STATUS_CONSISTS : Fld := ⟨0x40040008, 10, 6, 0, .ro, .val, .any⟩
/-- `TE_STATUS` [9:4], access RO, reset column 0. -/
def Reg.TE_STATUS_OWN_POS : Fld := ⟨0x40040008, 4, 6, 0, .ro, .val, .any⟩
/-- `TE_STATUS` [3:2], access RO, reset column 0b00. -/
def Reg.TE_STATUS_INAUG : Fld := ⟨0x40040008, 2, 2, 0, .ro, .val, .any⟩
/-- `TE_STATUS` [1:0], access RO, reset column 0b10. -/
def Reg.TE_STATUS_ORIENT : Fld := ⟨0x40040008, 0, 2, 2, .ro, .val, .any⟩
/-- `TE_ETB_TOPO` [31:0], access RO, reset column 0x0000_0000. -/
def Reg.TE_ETB_TOPO : Fld := ⟨0x4004000C, 0, 32, 0, .ro, .val, .any⟩
/-- `TE_OPTRN_TOPO` [31:0], access RO, reset column 0x0000_0000. -/
def Reg.TE_OPTRN_TOPO : Fld := ⟨0x40040010, 0, 32, 0, .ro, .val, .any⟩
/-- `TE_LOAD` [31:16], access RC, reset column 0x0000. -/
def Reg.TE_LOAD_MAX : Fld := ⟨0x40040014, 16, 16, 0, .rc, .val, .any⟩
/-- `TE_LOAD` [15:0], access RO, reset column 0x0000. -/
def Reg.TE_LOAD_LAST : Fld := ⟨0x40040014, 0, 16, 0, .ro, .val, .any⟩
/-- `TE_PD_RX` [31:0], access RO, reset column 0x0000_0000. -/
def Reg.TE_PD_RX : Fld := ⟨0x40040018, 0, 32, 0, .ro, .val, .any⟩
/-- `TE_PD_TX` [31:0], access RO, reset column 0x0000_0000. -/
def Reg.TE_PD_TX : Fld := ⟨0x4004001C, 0, 32, 0, .ro, .val, .any⟩
/-- `TE_DROP` [31:16], access RC, reset column 0x0000. -/
def Reg.TE_DROP_PD_DROP : Fld := ⟨0x40040020, 16, 16, 0, .rc, .val, .any⟩
/-- `TE_DROP` [15:0], access RC, reset column 0x0000. -/
def Reg.TE_DROP_PUB_SKIP : Fld := ⟨0x40040020, 0, 16, 0, .rc, .val, .any⟩
/-- `TE_MD_Q` [25:16], access RC, reset column 0x000. -/
def Reg.TE_MD_Q_PEAK : Fld := ⟨0x40040024, 16, 10, 0, .rc, .val, .any⟩
/-- `TE_MD_Q` [9:0], access RO, reset column 0x000. -/
def Reg.TE_MD_Q_DEPTH : Fld := ⟨0x40040024, 0, 10, 0, .ro, .val, .any⟩
/-- `TE_MD_DROP` [31:0], access RC, reset column 0x0000_0000. -/
def Reg.TE_MD_DROP : Fld := ⟨0x40040028, 0, 32, 0, .rc, .val, .any⟩
/-- `TE_LAT_PD` [31:16], access RC, reset column 0x0000. -/
def Reg.TE_LAT_PD_MAX : Fld := ⟨0x4004002C, 16, 16, 0, .rc, .val, .any⟩
/-- `TE_LAT_PD` [15:0], access RO, reset column 0x0000. -/
def Reg.TE_LAT_PD_LAST : Fld := ⟨0x4004002C, 0, 16, 0, .ro, .val, .any⟩
/-- `TE_LAT_PUB` [31:16], access RC, reset column 0x0000. -/
def Reg.TE_LAT_PUB_MAX : Fld := ⟨0x40040030, 16, 16, 0, .rc, .val, .any⟩
/-- `TE_LAT_PUB` [15:0], access RO, reset column 0x0000. -/
def Reg.TE_LAT_PUB_LAST : Fld := ⟨0x40040030, 0, 16, 0, .ro, .val, .any⟩
/-- `TE_MALF_k` [31:0], access RC, reset column 0x0000_0000. -/
def Reg.TE_MALF (n : Nat) : Fld := ⟨0x40040040 + 0x4 * n, 0, 32, 0, .rc, .val, .any⟩
/-- `TE_PUB_STAT_n` [31:30], access RO, reset column 0b00. -/
def Reg.TE_PUB_STAT_STATE (n : Nat) : Fld := ⟨0x40044000 + 0x4 * n, 30, 2, 0, .ro, .val, .any⟩
/-- `TE_PUB_STAT_n` [29], access RO, reset column 0. -/
def Reg.TE_PUB_STAT_STALE (n : Nat) : Fld := ⟨0x40044000 + 0x4 * n, 29, 1, 0, .ro, .val, .any⟩
/-- `TE_PUB_STAT_n` [28], access RO, reset column image. -/
def Reg.TE_PUB_STAT_SAFETY (n : Nat) : Fld := ⟨0x40044000 + 0x4 * n, 28, 1, 0, .ro, .image, .any⟩
/-- `TE_PUB_STAT_n` [15:8], access RC, reset column 0x00. -/
def Reg.TE_PUB_STAT_SKIP (n : Nat) : Fld := ⟨0x40044000 + 0x4 * n, 8, 8, 0, .rc, .val, .any⟩
/-- `TE_PUB_STAT_n` [7:0], access RO, reset column 0x00. -/
def Reg.TE_PUB_STAT_SENT (n : Nat) : Fld := ⟨0x40044000 + 0x4 * n, 0, 8, 0, .ro, .val, .any⟩
/-- `TE_SUB_STAT_n` [31:30], access RO, reset column 0b00. -/
def Reg.TE_SUB_STAT_STATE (n : Nat) : Fld := ⟨0x40048000 + 0x4 * n, 30, 2, 0, .ro, .val, .any⟩
/-- `TE_SUB_STAT_n` [29:27], access RO, reset column 0b000. -/
def Reg.TE_SUB_STAT_LAST_ERR (n : Nat) : Fld := ⟨0x40048000 + 0x4 * n, 27, 3, 0, .ro, .val, .any⟩
/-- `TE_SUB_STAT_n` [23:16], access RC, reset column 0x00. -/
def Reg.TE_SUB_STAT_ERR (n : Nat) : Fld := ⟨0x40048000 + 0x4 * n, 16, 8, 0, .rc, .val, .any⟩
/-- `TE_SUB_STAT_n` [7:0], access RO, reset column 0x00. -/
def Reg.TE_SUB_STAT_RX (n : Nat) : Fld := ⟨0x40048000 + 0x4 * n, 0, 8, 0, .ro, .val, .any⟩

/-- `SW_CFG` [15:12], access RO, reset column Caisson. -/
def Reg.SW_CFG_BR_PRIO : Fld := ⟨0x40050000, 12, 4, 8, .ro, .caisson, .any⟩
/-- `SW_CFG` [1], access RO, reset column Caisson. -/
def Reg.SW_CFG_FRER_EN : Fld := ⟨0x40050000, 1, 1, 0, .ro, .caisson, .any⟩
/-- `SW_CFG` [0], access RO, reset column Caisson. -/
def Reg.SW_CFG_RSTP_EN : Fld := ⟨0x40050000, 0, 1, 0, .ro, .caisson, .any⟩
/-- `SW_STATUS` [27:16], access RC, reset column 0x000. -/
def Reg.SW_STATUS_BUF_PEAK : Fld := ⟨0x40050004, 16, 12, 0, .rc, .val, .any⟩
/-- `SW_STATUS` [11:0], access RO, reset column 0x000. -/
def Reg.SW_STATUS_BUF_KIB : Fld := ⟨0x40050004, 0, 12, 0, .ro, .val, .any⟩
/-- `SW_VLAN_n` [31], access RO, reset column Caisson. -/
def Reg.SW_VLAN_VALID (n : Nat) : Fld := ⟨0x40050400 + 0x4 * n, 31, 1, 0, .ro, .caisson, .any⟩
/-- `SW_VLAN_n` [30:24], access RO, reset column Caisson. -/
def Reg.SW_VLAN_MEMBERS (n : Nat) : Fld := ⟨0x40050400 + 0x4 * n, 24, 7, 0, .ro, .caisson, .any⟩
/-- `SW_VLAN_n` [23:17], access RO, reset column Caisson. -/
def Reg.SW_VLAN_UNTAG (n : Nat) : Fld := ⟨0x40050400 + 0x4 * n, 17, 7, 0, .ro, .caisson, .any⟩
/-- `SW_VLAN_n` [16], access RO, reset column Caisson. -/
def Reg.SW_VLAN_RSTP_EXEMPT (n : Nat) : Fld := ⟨0x40050400 + 0x4 * n, 16, 1, 0, .ro, .caisson, .any⟩
/-- `SW_VLAN_n` [11:0], access RO, reset column Caisson. -/
def Reg.SW_VLAN_VID (n : Nat) : Fld := ⟨0x40050400 + 0x4 * n, 0, 12, 0, .ro, .caisson, (.nat 1 4094)⟩
/-- `SW_PORT_CFG_p` [31], access RO, reset column Caisson. -/
def Reg.SW_PORT_CFG_EN (n : Nat) : Fld := ⟨0x40050100 + 0x20 * n, 31, 1, 0, .ro, .caisson, .any⟩
/-- `SW_PORT_CFG_p` [30], access RO, reset column fixed. -/
def Reg.SW_PORT_CFG_ETB (n : Nat) : Fld := ⟨0x40050100 + 0x20 * n, 30, 1, (([1, 1, 0, 0, 0, 0, 0] : List Nat).getD n 0), .ro, .fixed, .any⟩
/-- `SW_PORT_CFG_p` [29], access RO, reset column Caisson. -/
def Reg.SW_PORT_CFG_RSTP (n : Nat) : Fld := ⟨0x40050100 + 0x20 * n, 29, 1, 0, .ro, .caisson, .any⟩
/-- `SW_PORT_CFG_p` [28], access RO, reset column Caisson. -/
def Reg.SW_PORT_CFG_TAGGED_ONLY (n : Nat) : Fld := ⟨0x40050100 + 0x20 * n, 28, 1, 0, .ro, .caisson, .any⟩
/-- `SW_PORT_CFG_p` [26:24], access RO, reset column Caisson. -/
def Reg.SW_PORT_CFG_DEF_PCP (n : Nat) : Fld := ⟨0x40050100 + 0x20 * n, 24, 3, 0, .ro, .caisson, .any⟩
/-- `SW_PORT_CFG_p` [23:12], access RO, reset column Caisson. -/
def Reg.SW_PORT_CFG_PVID (n : Nat) : Fld := ⟨0x40050100 + 0x20 * n, 12, 12, 0, .ro, .caisson, .any⟩
/-- `SW_PORT_STAT_p` [8], access RO, reset column 0. -/
def Reg.SW_PORT_STAT_GCL_ACTIVE (n : Nat) : Fld := ⟨0x40050104 + 0x20 * n, 8, 1, 0, .ro, .val, .any⟩
/-- `SW_PORT_STAT_p` [7:6], access RO, reset column 0b00. -/
def Reg.SW_PORT_STAT_RSTP_ROLE (n : Nat) : Fld := ⟨0x40050104 + 0x20 * n, 6, 2, 0, .ro, .val, .any⟩
/-- `SW_PORT_STAT_p` [5:4], access RO, reset column 0b00. -/
def Reg.SW_PORT_STAT_RSTP_STATE (n : Nat) : Fld := ⟨0x40050104 + 0x20 * n, 4, 2, 0, .ro, .val, .any⟩
/-- `SW_PORT_STAT_p` [3:2], access RO, reset column 0b00. -/
def Reg.SW_PORT_STAT_SPEED (n : Nat) : Fld := ⟨0x40050104 + 0x20 * n, 2, 2, 0, .ro, .val, .any⟩
/-- `SW_PORT_STAT_p` [0], access RO, reset column 0. -/
def Reg.SW_PORT_STAT_LINK (n : Nat) : Fld := ⟨0x40050104 + 0x20 * n, 0, 1, 0, .ro, .val, .any⟩
/-- `SW_PORT_RX_p` [31:0], access RO, reset column 0x0000_0000. -/
def Reg.SW_PORT_RX (n : Nat) : Fld := ⟨0x40050108 + 0x20 * n, 0, 32, 0, .ro, .val, .any⟩
/-- `SW_PORT_TX_p` [31:0], access RO, reset column 0x0000_0000. -/
def Reg.SW_PORT_TX (n : Nat) : Fld := ⟨0x4005010C + 0x20 * n, 0, 32, 0, .ro, .val, .any⟩
/-- `SW_PORT_DROP_A_p` [31:16], access RC, reset column 0x0000. -/
def Reg.SW_PORT_DROP_A_OVERSIZE (n : Nat) : Fld := ⟨0x40050110 + 0x20 * n, 16, 16, 0, .rc, .val, .any⟩
/-- `SW_PORT_DROP_A_p` [15:0], access RC, reset column 0x0000. -/
def Reg.SW_PORT_DROP_A_FCS (n : Nat) : Fld := ⟨0x40050110 + 0x20 * n, 0, 16, 0, .rc, .val, .any⟩
/-- `SW_PORT_DROP_B_p` [31:16], access RC, reset column 0x0000. -/
def Reg.SW_PORT_DROP_B_VLAN (n : Nat) : Fld := ⟨0x40050114 + 0x20 * n, 16, 16, 0, .rc, .val, .any⟩
/-- `SW_PORT_DROP_B_p` [15:0], access RC, reset column 0x0000. -/
def Reg.SW_PORT_DROP_B_BUF (n : Nat) : Fld := ⟨0x40050114 + 0x20 * n, 0, 16, 0, .rc, .val, .any⟩
/-- `SW_GCL_CTRL_p` [31], access RO, reset column Caisson. -/
def Reg.SW_GCL_CTRL_EN (n : Nat) : Fld := ⟨0x40050118 + 0x20 * n, 31, 1, 0, .ro, .caisson, .any⟩
/-- `SW_GCL_CTRL_p` [22:16], access RO, reset column Caisson. -/
def Reg.SW_GCL_CTRL_LEN (n : Nat) : Fld := ⟨0x40050118 + 0x20 * n, 16, 7, 0, .ro, .caisson, (.nat 1 64)⟩
/-- `SW_GCL_CTRL_p` [12:0], access RO, reset column Caisson. -/
def Reg.SW_GCL_CTRL_CYCLE (n : Nat) : Fld := ⟨0x40050118 + 0x20 * n, 0, 13, 0, .ro, .caisson, (.nat 1 8000)⟩
/-- `SW_GCL_p_e` [31:24], access RO, reset column Caisson. -/
def Reg.SW_GCL_GATES (n : Nat) (e : Nat) : Fld := ⟨0x40051000 + 0x100 * n + 0x4 * e, 24, 8, 0, .ro, .caisson, .any⟩
/-- `SW_GCL_p_e` [23:0], access RO, reset column Caisson. -/
def Reg.SW_GCL_INTERVAL (n : Nat) (e : Nat) : Fld := ⟨0x40051000 + 0x100 * n + 0x4 * e, 0, 24, 0, .ro, .caisson, (.nat 1 16777215)⟩
/-- `SW_FRER_ID_n` [31], access RO, reset column Caisson. -/
def Reg.SW_FRER_ID_VALID (n : Nat) : Fld := ⟨0x40052000 + 0x4 * n, 31, 1, 0, .ro, .caisson, .any⟩
/-- `SW_FRER_ID_n` [29:28], access RO, reset column Caisson. -/
def Reg.SW_FRER_ID_PAIR (n : Nat) : Fld := ⟨0x40052000 + 0x4 * n, 28, 2, 0, .ro, .caisson, (.nat 0 1)⟩
/-- `SW_FRER_ID_n` [27:16], access RO, reset column Caisson. -/
def Reg.SW_FRER_ID_VID (n : Nat) : Fld := ⟨0x40052000 + 0x4 * n, 16, 12, 0, .ro, .caisson, .any⟩
/-- `SW_FRER_ID_n` [15:0], access RO, reset column Caisson. -/
def Reg.SW_FRER_ID_DMAC_LO (n : Nat) : Fld := ⟨0x40052000 + 0x4 * n, 0, 16, 0, .ro, .caisson, .any⟩
/-- `SW_FRER_STAT_n` [31:16], access RC, reset column 0x0000. -/
def Reg.SW_FRER_STAT_DISCARDED (n : Nat) : Fld := ⟨0x40052400 + 0x4 * n, 16, 16, 0, .rc, .val, .any⟩
/-- `SW_FRER_STAT_n` [15:8], access RC, reset column 0x00. -/
def Reg.SW_FRER_STAT_ROGUE (n : Nat) : Fld := ⟨0x40052400 + 0x4 * n, 8, 8, 0, .rc, .val, .any⟩
/-- `SW_FRER_STAT_n` [7:0], access RC, reset column 0x00. -/
def Reg.SW_FRER_STAT_RESETS (n : Nat) : Fld := ⟨0x40052400 + 0x4 * n, 0, 8, 0, .rc, .val, .any⟩

/-- `LB_CFG` [6:0], access RO, reset column Caisson. -/
def Reg.LB_CFG_PORT_EN : Fld := ⟨0x40060000, 0, 7, 0, .ro, .caisson, .any⟩
/-- `LB_STATUS` [22:16], access RO, reset column 0x00. -/
def Reg.LB_STATUS_UP : Fld := ⟨0x40060004, 16, 7, 0, .ro, .val, .any⟩
/-- `LB_STATUS` [6:0], access RO, reset column 0x00. -/
def Reg.LB_STATUS_FAULT : Fld := ⟨0x40060004, 0, 7, 0, .ro, .val, .any⟩
/-- `LB_MVB_CFG_m` [31], access RO, reset column Caisson. -/
def Reg.LB_MVB_CFG_BA (n : Nat) : Fld := ⟨0x40060100 + 0x20 * n, 31, 1, 0, .ro, .caisson, .any⟩
/-- `LB_MVB_CFG_m` [30], access RO, reset column Caisson. -/
def Reg.LB_MVB_CFG_BP (n : Nat) : Fld := ⟨0x40060100 + 0x20 * n, 30, 1, 0, .ro, .caisson, .any⟩
/-- `LB_MVB_CFG_m` [29:26], access RO, reset column Caisson. -/
def Reg.LB_MVB_CFG_MACRO (n : Nat) : Fld := ⟨0x40060100 + 0x20 * n, 26, 4, 0, .ro, .caisson, (.nat 0 10)⟩
/-- `LB_MVB_CFG_m` [11:0], access RO, reset column Caisson. -/
def Reg.LB_MVB_CFG_DEV_ADDR (n : Nat) : Fld := ⟨0x40060100 + 0x20 * n, 0, 12, 0, .ro, .caisson, .any⟩
/-- `LB_MVB_STAT_m` [31:30], access RO, reset column 0b11. -/
def Reg.LB_MVB_STAT_MASTER (n : Nat) : Fld := ⟨0x40060104 + 0x20 * n, 30, 2, 3, .ro, .val, .any⟩
/-- `LB_MVB_STAT_m` [29], access RO, reset column 0. -/
def Reg.LB_MVB_STAT_LINE_A_OK (n : Nat) : Fld := ⟨0x40060104 + 0x20 * n, 29, 1, 0, .ro, .val, .any⟩
/-- `LB_MVB_STAT_m` [28], access RO, reset column 0. -/
def Reg.LB_MVB_STAT_LINE_B_OK (n : Nat) : Fld := ⟨0x40060104 + 0x20 * n, 28, 1, 0, .ro, .val, .any⟩
/-- `LB_MVB_STAT_m` [27], access RO, reset column 0. -/
def Reg.LB_MVB_STAT_RX_LINE (n : Nat) : Fld := ⟨0x40060104 + 0x20 * n, 27, 1, 0, .ro, .val, .any⟩
/-- `LB_MVB_STAT_m` [10:0], access RO, reset column image. -/
def Reg.LB_MVB_STAT_PORTS (n : Nat) : Fld := ⟨0x40060104 + 0x20 * n, 0, 11, 0, .ro, .image, .any⟩
/-- `LB_MVB_ERR_m` [31:16], access RC, reset column 0x0000. -/
def Reg.LB_MVB_ERR_LINE_B (n : Nat) : Fld := ⟨0x40060108 + 0x20 * n, 16, 16, 0, .rc, .val, .any⟩
/-- `LB_MVB_ERR_m` [15:0], access RC, reset column 0x0000. -/
def Reg.LB_MVB_ERR_LINE_A (n : Nat) : Fld := ⟨0x40060108 + 0x20 * n, 0, 16, 0, .rc, .val, .any⟩
/-- `LB_MVB_TO_m` [31:16], access RC, reset column 0x0000. -/
def Reg.LB_MVB_TO_RX_OVF (n : Nat) : Fld := ⟨0x4006010C + 0x20 * n, 16, 16, 0, .rc, .val, .any⟩
/-- `LB_MVB_TO_m` [15:0], access RC, reset column 0x0000. -/
def Reg.LB_MVB_TO_SINK_TO (n : Nat) : Fld := ⟨0x4006010C + 0x20 * n, 0, 16, 0, .rc, .val, .any⟩
/-- `LB_MVB_DEVST_m` [15:0], access RO, reset column image. -/
def Reg.LB_MVB_DEVST_DEVST (n : Nat) : Fld := ⟨0x40060110 + 0x20 * n, 0, 16, 0, .ro, .image, .any⟩
/-- `LB_WTB_CFG` [31:30], access RO, reset column Caisson. -/
def Reg.LB_WTB_CFG_ROLE : Fld := ⟨0x40060200, 30, 2, 0, .ro, .caisson, (.nat 0 2)⟩
/-- `LB_WTB_CFG` [29:23], access RO, reset column Caisson. -/
def Reg.LB_WTB_CFG_SWITCH_MS : Fld := ⟨0x40060200, 23, 7, 0, .ro, .caisson, (.nat 5 100)⟩
/-- `LB_WTB_CFG` [22:20], access RO, reset column image. -/
def Reg.LB_WTB_CFG_INDIV : Fld := ⟨0x40060200, 20, 3, 0, .ro, .image, .any⟩
/-- `LB_WTB_CFG` [7:0], access RO, reset column image. -/
def Reg.LB_WTB_CFG_FRAME_LEN : Fld := ⟨0x40060200, 0, 8, 0, .ro, .image, .any⟩
/-- `LB_WTB_STAT` [31:30], access RO, reset column 0b00. -/
def Reg.LB_WTB_STAT_STATE : Fld := ⟨0x40060204, 30, 2, 0, .ro, .val, .any⟩
/-- `LB_WTB_STAT` [29], access RO, reset column 0. -/
def Reg.LB_WTB_STAT_MASTER : Fld := ⟨0x40060204, 29, 1, 0, .ro, .val, .any⟩
/-- `LB_WTB_STAT` [28:27], access RO, reset column 0b11. -/
def Reg.LB_WTB_STAT_SWITCH : Fld := ⟨0x40060204, 27, 2, 3, .ro, .val, .any⟩
/-- `LB_WTB_STAT` [26], access RO, reset column 0. -/
def Reg.LB_WTB_STAT_TERM : Fld := ⟨0x40060204, 26, 1, 0, .ro, .val, .any⟩
/-- `LB_WTB_STAT` [13:8], access RO, reset column 0. -/
def Reg.LB_WTB_STAT_NODES : Fld := ⟨0x40060204, 8, 6, 0, .ro, .val, .any⟩
/-- `LB_WTB_STAT` [5:0], access RO, reset column 0. -/
def Reg.LB_WTB_STAT_NODE_ADDR : Fld := ⟨0x40060204, 0, 6, 0, .ro, .val, .any⟩
/-- `LB_WTB_TOPO` [31:16], access RO, reset column 0x0000. -/
def Reg.LB_WTB_TOPO_INAUG : Fld := ⟨0x40060208, 16, 16, 0, .ro, .val, .any⟩
/-- `LB_WTB_TOPO` [5:0], access RO, reset column 0. -/
def Reg.LB_WTB_TOPO_TOPO : Fld := ⟨0x40060208, 0, 6, 0, .ro, .val, .any⟩
/-- `LB_WTB_ERR` [31:16], access RC, reset column 0x0000. -/
def Reg.LB_WTB_ERR_LINE_B : Fld := ⟨0x4006020C, 16, 16, 0, .rc, .val, .any⟩
/-- `LB_WTB_ERR` [15:0], access RC, reset column 0x0000. -/
def Reg.LB_WTB_ERR_LINE_A : Fld := ⟨0x4006020C, 0, 16, 0, .rc, .val, .any⟩
/-- `LB_CAN_CFG_c` [31], access RO, reset column Caisson. -/
def Reg.LB_CAN_CFG_FD (n : Nat) : Fld := ⟨0x40060300 + 0x40 * n, 31, 1, 0, .ro, .caisson, .any⟩
/-- `LB_CAN_CFG_c` [30], access RO, reset column Caisson. -/
def Reg.LB_CAN_CFG_BRS (n : Nat) : Fld := ⟨0x40060300 + 0x40 * n, 30, 1, 0, .ro, .caisson, .any⟩
/-- `LB_CAN_CFG_c` [29], access RO, reset column Caisson. -/
def Reg.LB_CAN_CFG_TERM (n : Nat) : Fld := ⟨0x40060300 + 0x40 * n, 29, 1, 0, .ro, .caisson, .any⟩
/-- `LB_CAN_CFG_c` [28:27], access RO, reset column Caisson. -/
def Reg.LB_CAN_CFG_HL (n : Nat) : Fld := ⟨0x40060300 + 0x40 * n, 27, 2, 0, .ro, .caisson, (.nat 0 2)⟩
/-- `LB_CAN_CFG_c` [26:24], access RO, reset column Caisson. -/
def Reg.LB_CAN_CFG_ARB (n : Nat) : Fld := ⟨0x40060300 + 0x40 * n, 24, 3, 0, .ro, .caisson, (.nat 0 3)⟩
/-- `LB_CAN_CFG_c` [23:21], access RO, reset column Caisson. -/
def Reg.LB_CAN_CFG_DATA (n : Nat) : Fld := ⟨0x40060300 + 0x40 * n, 21, 3, 0, .ro, .caisson, (.nat 0 3)⟩
/-- `LB_CAN_CFG_c` [7:0], access RO, reset column Caisson. -/
def Reg.LB_CAN_CFG_NODE (n : Nat) : Fld := ⟨0x40060300 + 0x40 * n, 0, 8, 0, .ro, .caisson, (.nat 0 253)⟩
/-- `LB_CAN_LATE_c` [31], access RO, reset column Caisson. -/
def Reg.LB_CAN_LATE_POLICY (n : Nat) : Fld := ⟨0x40060304 + 0x40 * n, 31, 1, 0, .ro, .caisson, .any⟩
/-- `LB_CAN_LATE_c` [15:0], access RO, reset column Caisson. -/
def Reg.LB_CAN_LATE_LATE_US (n : Nat) : Fld := ⟨0x40060304 + 0x40 * n, 0, 16, 0x3E8, .ro, .caisson, .any⟩
/-- `LB_CAN_STAT_c` [31:30], access RO, reset column 0b00. -/
def Reg.LB_CAN_STAT_STATE (n : Nat) : Fld := ⟨0x40060308 + 0x40 * n, 30, 2, 0, .ro, .val, .any⟩
/-- `LB_CAN_STAT_c` [23:16], access RO, reset column 0x00. -/
def Reg.LB_CAN_STAT_REC (n : Nat) : Fld := ⟨0x40060308 + 0x40 * n, 16, 8, 0, .ro, .val, .any⟩
/-- `LB_CAN_STAT_c` [15:8], access RO, reset column 0x00. -/
def Reg.LB_CAN_STAT_TEC (n : Nat) : Fld := ⟨0x40060308 + 0x40 * n, 8, 8, 0, .ro, .val, .any⟩
/-- `LB_CAN_STAT_c` [7:0], access RO, reset column 0xFE. -/
def Reg.LB_CAN_STAT_ADDR (n : Nat) : Fld := ⟨0x40060308 + 0x40 * n, 0, 8, 0xFE, .ro, .val, .any⟩
/-- `LB_CAN_CNT_c` [31:16], access RO, reset column 0x0000. -/
def Reg.LB_CAN_CNT_TX (n : Nat) : Fld := ⟨0x4006030C + 0x40 * n, 16, 16, 0, .ro, .val, .any⟩
/-- `LB_CAN_CNT_c` [15:0], access RO, reset column 0x0000. -/
def Reg.LB_CAN_CNT_RX (n : Nat) : Fld := ⟨0x4006030C + 0x40 * n, 0, 16, 0, .ro, .val, .any⟩
/-- `LB_CAN_DROP_c` [31:24], access RC, reset column 0x00. -/
def Reg.LB_CAN_DROP_BUSOFF (n : Nat) : Fld := ⟨0x40060310 + 0x40 * n, 24, 8, 0, .rc, .val, .any⟩
/-- `LB_CAN_DROP_c` [23:16], access RC, reset column 0x00. -/
def Reg.LB_CAN_DROP_LATE (n : Nat) : Fld := ⟨0x40060310 + 0x40 * n, 16, 8, 0, .rc, .val, .any⟩
/-- `LB_CAN_DROP_c` [15:8], access RC, reset column 0x00. -/
def Reg.LB_CAN_DROP_LAUNCH_DROP (n : Nat) : Fld := ⟨0x40060310 + 0x40 * n, 8, 8, 0, .rc, .val, .any⟩
/-- `LB_CAN_DROP_c` [7:0], access RC, reset column 0x00. -/
def Reg.LB_CAN_DROP_RX_OVF (n : Nat) : Fld := ⟨0x40060310 + 0x40 * n, 0, 8, 0, .rc, .val, .any⟩
/-- `LB_CAN_FILT_c` [31:16], access RC, reset column 0x0000. -/
def Reg.LB_CAN_FILT_REJECTED (n : Nat) : Fld := ⟨0x40060314 + 0x40 * n, 16, 16, 0, .rc, .val, .any⟩
/-- `LB_CAN_FILT_c` [7:0], access RO, reset column image. -/
def Reg.LB_CAN_FILT_FILTERS (n : Nat) : Fld := ⟨0x40060314 + 0x40 * n, 0, 8, 0, .ro, .image, .any⟩

/-- `HI_STATUS` [23:16], access RO, reset column 0x00. -/
def Reg.HI_STATUS_OPEN : Fld := ⟨0x40070000, 16, 8, 0, .ro, .val, .any⟩
/-- `HI_STATUS` [11:10], access RO, reset column 0b00. -/
def Reg.HI_STATUS_ACCEPT : Fld := ⟨0x40070000, 10, 2, 0, .ro, .val, .any⟩
/-- `HI_STATUS` [9], access RO, reset column 0. -/
def Reg.HI_STATUS_EXECUTING : Fld := ⟨0x40070000, 9, 1, 0, .ro, .val, .any⟩
/-- `HI_STATUS` [8], access RO, reset column 0. -/
def Reg.HI_STATUS_JOURNAL_LOW : Fld := ⟨0x40070000, 8, 1, 0, .ro, .val, .any⟩
/-- `HI_STATUS` [2], access RO, reset column 0. -/
def Reg.HI_STATUS_RECOVERED : Fld := ⟨0x40070000, 2, 1, 0, .ro, .val, .any⟩
/-- `HI_STATUS` [1], access RO, reset column 0. -/
def Reg.HI_STATUS_READY : Fld := ⟨0x40070000, 1, 1, 0, .ro, .val, .any⟩
/-- `HI_STATUS` [0], access RO, reset column 0. -/
def Reg.HI_STATUS_ERR : Fld := ⟨0x40070000, 0, 1, 0, .ro, .val, .any⟩
/-- `HI_CTRL` [8], access RW, reset column 0. -/
def Reg.HI_CTRL_NOTICE_EN : Fld := ⟨0x40070004, 8, 1, 0, .rw, .val, .any⟩
/-- `HI_CTRL` [2:0], access RW, reset column 0b000. -/
def Reg.HI_CTRL_NOTICE_CQ : Fld := ⟨0x40070004, 0, 3, 0, .rw, .val, .any⟩
/-- `HI_ERR` [26:24], access RO, reset column 0b000. -/
def Reg.HI_ERR_RING : Fld := ⟨0x40070008, 24, 3, 0, .ro, .val, .any⟩
/-- `HI_ERR` [16], access RO, reset column 0. -/
def Reg.HI_ERR_CQ_SIDE : Fld := ⟨0x40070008, 16, 1, 0, .ro, .val, .any⟩
/-- `HI_ERR` [5], access W1C, reset column 0. -/
def Reg.HI_ERR_NOTICE_LOST : Fld := ⟨0x40070008, 5, 1, 0, .w1c, .val, .any⟩
/-- `HI_ERR` [4], access W1C, reset column 0. -/
def Reg.HI_ERR_CFG_REJ : Fld := ⟨0x40070008, 4, 1, 0, .w1c, .val, .any⟩
/-- `HI_ERR` [3], access W1C, reset column 0. -/
def Reg.HI_ERR_DB_RANGE : Fld := ⟨0x40070008, 3, 1, 0, .w1c, .val, .any⟩
/-- `HI_ERR` [1], access W1C, reset column 0. -/
def Reg.HI_ERR_CPL_WRITE : Fld := ⟨0x40070008, 1, 1, 0, .w1c, .val, .any⟩
/-- `HI_ERR` [0], access W1C, reset column 0. -/
def Reg.HI_ERR_DESC_FETCH : Fld := ⟨0x40070008, 0, 1, 0, .w1c, .val, .any⟩
/-- `HI_ERR_COUNT` [31:16], access RC, reset column 0x0000. -/
def Reg.HI_ERR_COUNT_RSVD : Fld := ⟨0x4007000C, 16, 16, 0, .rc, .val, .any⟩
/-- `HI_ERR_COUNT` [15:0], access RC, reset column 0x0000. -/
def Reg.HI_ERR_COUNT_DB_ERR : Fld := ⟨0x4007000C, 0, 16, 0, .rc, .val, .any⟩
/-- `HI_SNAP_SEQ` [31:0], access RO, reset column 0x0000_0000. -/
def Reg.HI_SNAP_SEQ : Fld := ⟨0x40070010, 0, 32, 0, .ro, .val, .any⟩
/-- `HI_PCI_ID` [31:16], access RO, reset column 0x0680. -/
def Reg.HI_PCI_ID_DEVICE : Fld := ⟨0x40070014, 16, 16, 0x680, .ro, .val, .any⟩
/-- `HI_PCI_ID` [15:0], access RO, reset column 0x1F4E. -/
def Reg.HI_PCI_ID_VENDOR : Fld := ⟨0x40070014, 0, 16, 0x1F4E, .ro, .val, .any⟩
/-- `HI_LINK` [8], access RO, reset column 0. -/
def Reg.HI_LINK_BME : Fld := ⟨0x40070018, 8, 1, 0, .ro, .val, .any⟩
/-- `HI_LINK` [7:4], access RO, reset column 0x0. -/
def Reg.HI_LINK_WIDTH : Fld := ⟨0x40070018, 4, 4, 0, .ro, .val, .any⟩
/-- `HI_LINK` [3:0], access RO, reset column 0x0. -/
def Reg.HI_LINK_SPEED : Fld := ⟨0x40070018, 0, 4, 0, .ro, .val, .any⟩
/-- `HI_JOURNAL_HEAD` [31:0] (64 bits with its upper half), access RO, reset column MRAM. -/
def Reg.HI_JOURNAL_HEAD : Fld := ⟨0x40070020, 0, 64, 0, .ro, .mram, .any⟩
/-- `HI_JOURNAL_TAIL` [31:0] (64 bits with its upper half), access RO, reset column MRAM. -/
def Reg.HI_JOURNAL_TAIL : Fld := ⟨0x40070028, 0, 64, 0, .ro, .mram, .any⟩
/-- `HI_JOURNAL_FREE` [15:0], access RO, reset column MRAM. -/
def Reg.HI_JOURNAL_FREE_ENTRIES : Fld := ⟨0x40070030, 0, 16, 0, .ro, .mram, .any⟩
/-- `HI_LAT` [31:16], access RC, reset column 0x0000. -/
def Reg.HI_LAT_MAX : Fld := ⟨0x40070034, 16, 16, 0, .rc, .val, .any⟩
/-- `HI_LAT` [15:0], access RO, reset column 0x0000. -/
def Reg.HI_LAT_LAST : Fld := ⟨0x40070034, 0, 16, 0, .ro, .val, .any⟩
/-- `HI_SQ_BASE_LO_n` [31:12], access RW, reset column 0x0_0000. -/
def Reg.HI_SQ_BASE_LO_BASE (n : Nat) : Fld := ⟨0x40070100 + 0x40 * n, 12, 20, 0, .rw, .val, .any⟩
/-- `HI_SQ_BASE_HI_n` [31:0], access RW, reset column 0x0000_0000. -/
def Reg.HI_SQ_BASE_HI (n : Nat) : Fld := ⟨0x40070104 + 0x40 * n, 0, 32, 0, .rw, .val, .any⟩
/-- `HI_SQ_CFG_n` [31], access RW, reset column 0. -/
def Reg.HI_SQ_CFG_EN (n : Nat) : Fld := ⟨0x40070108 + 0x40 * n, 31, 1, 0, .rw, .val, .any⟩
/-- `HI_SQ_CFG_n` [18:16], access RW, reset column 0b000. -/
def Reg.HI_SQ_CFG_CQ (n : Nat) : Fld := ⟨0x40070108 + 0x40 * n, 16, 3, 0, .rw, .val, .any⟩
/-- `HI_SQ_CFG_n` [3:0], access RW, reset column 0x4. -/
def Reg.HI_SQ_CFG_SIZE (n : Nat) : Fld := ⟨0x40070108 + 0x40 * n, 0, 4, 4, .rw, .val, .any⟩
/-- `HI_SQ_BUF_LO_n` [31:12], access RW, reset column 0x0_0000. -/
def Reg.HI_SQ_BUF_LO_BASE (n : Nat) : Fld := ⟨0x4007010C + 0x40 * n, 12, 20, 0, .rw, .val, .any⟩
/-- `HI_SQ_BUF_HI_n` [31:0], access RW, reset column 0x0000_0000. -/
def Reg.HI_SQ_BUF_HI (n : Nat) : Fld := ⟨0x40070110 + 0x40 * n, 0, 32, 0, .rw, .val, .any⟩
/-- `HI_SQ_BUF_SIZE_n` [31:0], access RW, reset column 0x0000_0000. -/
def Reg.HI_SQ_BUF_SIZE (n : Nat) : Fld := ⟨0x40070114 + 0x40 * n, 0, 32, 0, .rw, .val, .any⟩
/-- `HI_SQ_STATE_n` [31], access RO, reset column 0. -/
def Reg.HI_SQ_STATE_STOPPED (n : Nat) : Fld := ⟨0x40070118 + 0x40 * n, 31, 1, 0, .ro, .val, .any⟩
/-- `HI_SQ_STATE_n` [27:16], access RO, reset column 0x000. -/
def Reg.HI_SQ_STATE_TAIL (n : Nat) : Fld := ⟨0x40070118 + 0x40 * n, 16, 12, 0, .ro, .val, .any⟩
/-- `HI_SQ_STATE_n` [11:0], access RO, reset column 0x000. -/
def Reg.HI_SQ_STATE_HEAD (n : Nat) : Fld := ⟨0x40070118 + 0x40 * n, 0, 12, 0, .ro, .val, .any⟩
/-- `HI_SQ_LASTID_n` [31:0] (64 bits with its upper half), access RO, reset column MRAM. -/
def Reg.HI_SQ_LASTID (n : Nat) : Fld := ⟨0x4007011C + 0x40 * n, 0, 64, 0, .ro, .mram, .any⟩
/-- `HI_SQ_ACKID_n` [31:0] (64 bits with its upper half), access RO, reset column MRAM. -/
def Reg.HI_SQ_ACKID (n : Nat) : Fld := ⟨0x40070124 + 0x40 * n, 0, 64, 0, .ro, .mram, .any⟩
/-- `HI_CQ_BASE_LO_n` [31:12], access RW, reset column 0x0_0000. -/
def Reg.HI_CQ_BASE_LO_BASE (n : Nat) : Fld := ⟨0x40070400 + 0x20 * n, 12, 20, 0, .rw, .val, .any⟩
/-- `HI_CQ_BASE_HI_n` [31:0], access RW, reset column 0x0000_0000. -/
def Reg.HI_CQ_BASE_HI (n : Nat) : Fld := ⟨0x40070404 + 0x20 * n, 0, 32, 0, .rw, .val, .any⟩
/-- `HI_CQ_CFG_n` [31], access RW, reset column 0. -/
def Reg.HI_CQ_CFG_EN (n : Nat) : Fld := ⟨0x40070408 + 0x20 * n, 31, 1, 0, .rw, .val, .any⟩
/-- `HI_CQ_CFG_n` [25:16], access RW, reset column 0x000. -/
def Reg.HI_CQ_CFG_IMOD (n : Nat) : Fld := ⟨0x40070408 + 0x20 * n, 16, 10, 0, .rw, .val, .any⟩
/-- `HI_CQ_CFG_n` [3:0], access RW, reset column 0x4. -/
def Reg.HI_CQ_CFG_SIZE (n : Nat) : Fld := ⟨0x40070408 + 0x20 * n, 0, 4, 4, .rw, .val, .any⟩
/-- `HI_CQ_STATE_n` [31], access RO, reset column 1. -/
def Reg.HI_CQ_STATE_PHASE (n : Nat) : Fld := ⟨0x4007040C + 0x20 * n, 31, 1, 1, .ro, .val, .any⟩
/-- `HI_CQ_STATE_n` [27:16], access RO, reset column 0x000. -/
def Reg.HI_CQ_STATE_HEAD (n : Nat) : Fld := ⟨0x4007040C + 0x20 * n, 16, 12, 0, .ro, .val, .any⟩
/-- `HI_CQ_STATE_n` [11:0], access RO, reset column 0x000. -/
def Reg.HI_CQ_STATE_TAIL (n : Nat) : Fld := ⟨0x4007040C + 0x20 * n, 0, 12, 0, .ro, .val, .any⟩

/-- `DX_LEASE_CFG` [22:16], access RO, reset column Caisson. -/
def Reg.DX_LEASE_CFG_GUARD_MS : Fld := ⟨0x40080000, 16, 7, 0xA, .ro, .caisson, (.nat 5 100)⟩
/-- `DX_LEASE_CFG` [8:0], access RO, reset column Caisson. -/
def Reg.DX_LEASE_CFG_LEASE_MS : Fld := ⟨0x40080000, 0, 9, 0x32, .ro, .caisson, (.nat 20 500)⟩
/-- `DX_CP_CFG` [19:16], access RO, reset column Caisson. -/
def Reg.DX_CP_CFG_CLASS : Fld := ⟨0x40080004, 16, 4, 0, .ro, .caisson, .any⟩
/-- `DX_CP_CFG` [7:0], access RO, reset column Caisson. -/
def Reg.DX_CP_CFG_K : Fld := ⟨0x40080004, 0, 8, 1, .ro, .caisson, (.nat 1 255)⟩
/-- `DX_CMP_CFG` [23:20], access RO, reset column Caisson. -/
def Reg.DX_CMP_CFG_MISMATCH_N : Fld := ⟨0x40080008, 20, 4, 3, .ro, .caisson, (.nat 1 15)⟩
/-- `DX_CMP_CFG` [18], access RO, reset column Caisson. -/
def Reg.DX_CMP_CFG_GB_EN : Fld := ⟨0x40080008, 18, 1, 0, .ro, .caisson, .any⟩
/-- `DX_CMP_CFG` [17], access RO, reset column Caisson. -/
def Reg.DX_CMP_CFG_TLG_EN : Fld := ⟨0x40080008, 17, 1, 0, .ro, .caisson, .any⟩
/-- `DX_CMP_CFG` [16], access RO, reset column Caisson. -/
def Reg.DX_CMP_CFG_DO_EN : Fld := ⟨0x40080008, 16, 1, 0, .ro, .caisson, .any⟩
/-- `DX_CMP_CFG` [15:0], access RO, reset column Caisson. -/
def Reg.DX_CMP_CFG_DO_COMMON : Fld := ⟨0x40080008, 0, 16, 0, .ro, .caisson, .any⟩
/-- `DX_CLAIM_CFG` [31], access RO, reset column Caisson. -/
def Reg.DX_CLAIM_CFG_EN : Fld := ⟨0x4008000C, 31, 1, 0, .ro, .caisson, .any⟩
/-- `DX_CLAIM_CFG` [19:16], access RO, reset column Caisson. -/
def Reg.DX_CLAIM_CFG_COUNT : Fld := ⟨0x4008000C, 16, 4, 0, .ro, .caisson, (.nat 0 8)⟩
/-- `DX_CLAIM_CFG` [3:0], access RO, reset column Caisson. -/
def Reg.DX_CLAIM_CFG_CLASS : Fld := ⟨0x4008000C, 0, 4, 0, .ro, .caisson, .any⟩
/-- `DX_STATUS` [31], access RO, reset column 0. -/
def Reg.DX_STATUS_POS_CONFLICT : Fld := ⟨0x40080010, 31, 1, 0, .ro, .val, .any⟩
/-- `DX_STATUS` [30], access RO, reset column 0. -/
def Reg.DX_STATUS_IMAGE_MATCH : Fld := ⟨0x40080010, 30, 1, 0, .ro, .val, .any⟩
/-- `DX_STATUS` [29], access RO, reset column 0. -/
def Reg.DX_STATUS_CP_VALID : Fld := ⟨0x40080010, 29, 1, 0, .ro, .val, .any⟩
/-- `DX_STATUS` [28], access RO, reset column 0. -/
def Reg.DX_STATUS_JOURNAL_LEVEL : Fld := ⟨0x40080010, 28, 1, 0, .ro, .val, .any⟩
/-- `DX_STATUS` [19:16], access RO, reset column 0x0. -/
def Reg.DX_STATUS_TK_PHASE : Fld := ⟨0x40080010, 16, 4, 0, .ro, .val, .any⟩
/-- `DX_STATUS` [10:8], access RO, reset column 0b000. -/
def Reg.DX_STATUS_LEASE : Fld := ⟨0x40080010, 8, 3, 0, .ro, .val, .any⟩
/-- `DX_STATUS` [3], access RO, reset column 0. -/
def Reg.DX_STATUS_LK_B_UP : Fld := ⟨0x40080010, 3, 1, 0, .ro, .val, .any⟩
/-- `DX_STATUS` [2], access RO, reset column 0. -/
def Reg.DX_STATUS_LK_A_UP : Fld := ⟨0x40080010, 2, 1, 0, .ro, .val, .any⟩
/-- `DX_STATUS` [1], access RO, reset column 0. -/
def Reg.DX_STATUS_GRANTING : Fld := ⟨0x40080010, 1, 1, 0, .ro, .val, .any⟩
/-- `DX_STATUS` [0], access RO, reset column 0. -/
def Reg.DX_STATUS_REQUESTING : Fld := ⟨0x40080010, 0, 1, 0, .ro, .val, .any⟩
/-- `DX_LEASE_LEFT` [18:0], access RO, reset column 0x0_0000. -/
def Reg.DX_LEASE_LEFT_REMAIN_US : Fld := ⟨0x40080014, 0, 19, 0, .ro, .val, .any⟩
/-- `DX_PEER` [27:24], access RO, reset column 0x0. -/
def Reg.DX_PEER_MODE : Fld := ⟨0x40080018, 24, 4, 0, .ro, .val, .any⟩
/-- `DX_PEER` [18:16], access RO, reset column 0b000. -/
def Reg.DX_PEER_ROLE : Fld := ⟨0x40080018, 16, 3, 0, .ro, .val, .any⟩
/-- `DX_PEER` [1], access RO, reset column 0. -/
def Reg.DX_PEER_POS : Fld := ⟨0x40080018, 1, 1, 0, .ro, .val, .any⟩
/-- `DX_PEER` [0], access RO, reset column 0. -/
def Reg.DX_PEER_VALID : Fld := ⟨0x40080018, 0, 1, 0, .ro, .val, .any⟩
/-- `DX_PEER_IMAGE` [31:0], access RO, reset column 0x0000_0000. -/
def Reg.DX_PEER_IMAGE : Fld := ⟨0x4008001C, 0, 32, 0, .ro, .val, .any⟩
/-- `DX_PEER_GEN` [31:0], access RO, reset column 0x0000_0000. -/
def Reg.DX_PEER_GEN : Fld := ⟨0x40080020, 0, 32, 0, .ro, .val, .any⟩
/-- `DX_CP_LAST` [31:0] (64 bits with its upper half), access RO, reset column 0x0000_0000. -/
def Reg.DX_CP_LAST : Fld := ⟨0x40080028, 0, 64, 0, .ro, .val, .any⟩
/-- `DX_CP_STAT` [31:16], access RC, reset column 0x0000. -/
def Reg.DX_CP_STAT_SKIPPED : Fld := ⟨0x40080030, 16, 16, 0, .rc, .val, .any⟩
/-- `DX_CP_STAT` [15:0], access RO, reset column 0xFFFF. -/
def Reg.DX_CP_STAT_AGE_MS : Fld := ⟨0x40080030, 0, 16, 0xFFFF, .ro, .val, .any⟩
/-- `DX_CP_GEN` [31:0], access RO, reset column 0x0000_0000. -/
def Reg.DX_CP_GEN : Fld := ⟨0x40080034, 0, 32, 0, .ro, .val, .any⟩
/-- `DX_CMP_STAT` [31:16], access RC, reset column 0x0000. -/
def Reg.DX_CMP_STAT_MISMATCHES : Fld := ⟨0x40080038, 16, 16, 0, .rc, .val, .any⟩
/-- `DX_CMP_STAT` [15:12], access RO, reset column 0x0. -/
def Reg.DX_CMP_STAT_RUN : Fld := ⟨0x40080038, 12, 4, 0, .ro, .val, .any⟩
/-- `DX_CMP_STAT` [2:0], access RO, reset column 0b000. -/
def Reg.DX_CMP_STAT_SRC : Fld := ⟨0x40080038, 0, 3, 0, .ro, .val, .any⟩
/-- `DX_CLAIM` [23:16], access RO, reset column 0x00. -/
def Reg.DX_CLAIM_PEER : Fld := ⟨0x4008003C, 16, 8, 0, .ro, .val, .any⟩
/-- `DX_CLAIM` [8], access RO, reset column 0. -/
def Reg.DX_CLAIM_HIGHER : Fld := ⟨0x4008003C, 8, 1, 0, .ro, .val, .any⟩
/-- `DX_CLAIM` [7:0], access RO, reset column MRAM. -/
def Reg.DX_CLAIM_OWN : Fld := ⟨0x4008003C, 0, 8, 0, .ro, .mram, .any⟩
/-- `DX_LINK_ERR` [31:16], access RC (ERR), RO (DOWN), reset column 0x0000. -/
def Reg.DX_LINK_ERR_LK_B : Fld := ⟨0x40080040, 16, 16, 0, .rc, .val, .any⟩
/-- `DX_LINK_ERR` [15:0], access as LK_B, reset column 0x0000. -/
def Reg.DX_LINK_ERR_LK_A : Fld := ⟨0x40080040, 0, 16, 0, .rc, .val, .any⟩
/-- `DX_LINK_DOWN` [31:16], access RC (ERR), RO (DOWN), reset column 0x0000. -/
def Reg.DX_LINK_DOWN_LK_B : Fld := ⟨0x40080044, 16, 16, 0, .ro, .val, .any⟩
/-- `DX_LINK_DOWN` [15:0], access as LK_B, reset column 0x0000. -/
def Reg.DX_LINK_DOWN_LK_A : Fld := ⟨0x40080044, 0, 16, 0, .ro, .val, .any⟩
/-- `DX_TAKEOVER` [31:28], access RO, reset column 0x0. -/
def Reg.DX_TAKEOVER_CAUSE : Fld := ⟨0x40080048, 28, 4, 0, .ro, .val, .any⟩
/-- `DX_TAKEOVER` [23:16], access RC, reset column 0x00. -/
def Reg.DX_TAKEOVER_ABORTS : Fld := ⟨0x40080048, 16, 8, 0, .rc, .val, .any⟩
/-- `DX_TAKEOVER` [15:0], access RO, reset column 0x0000. -/
def Reg.DX_TAKEOVER_COUNT : Fld := ⟨0x40080048, 0, 16, 0, .ro, .val, .any⟩
/-- `DX_TAKEOVER_TIME` [31:16], access RO, reset column 0xFFFF. -/
def Reg.DX_TAKEOVER_TIME_LOAD_MS : Fld := ⟨0x4008004C, 16, 16, 0xFFFF, .ro, .val, .any⟩
/-- `DX_TAKEOVER_TIME` [15:0], access RO, reset column 0xFFFF. -/
def Reg.DX_TAKEOVER_TIME_TOTAL_MS : Fld := ⟨0x4008004C, 0, 16, 0xFFFF, .ro, .val, .any⟩
/-- `DX_GRANT_CNT` [31:16], access RC, reset column 0x0000. -/
def Reg.DX_GRANT_CNT_GRANTED : Fld := ⟨0x40080050, 16, 16, 0, .rc, .val, .any⟩
/-- `DX_GRANT_CNT` [15:0], access RC, reset column 0x0000. -/
def Reg.DX_GRANT_CNT_RENEWED : Fld := ⟨0x40080050, 0, 16, 0, .rc, .val, .any⟩
/-- `DX_CLAIM_TGT_n` [31:29], access RO, reset column Caisson. -/
def Reg.DX_CLAIM_TGT_WINDOW (n : Nat) : Fld := ⟨0x40080080 + 0x4 * n, 29, 3, 0, .ro, .caisson, .any⟩
/-- `DX_CLAIM_TGT_n` [26:0], access RO, reset column Caisson. -/
def Reg.DX_CLAIM_TGT_OFFSET (n : Nat) : Fld := ⟨0x40080080 + 0x4 * n, 0, 27, 0, .ro, .caisson, .any⟩

/-- `GB_CFG` [31:24], access RO, reset column Caisson. -/
def Reg.GB_CFG_GRANT_TO_US : Fld := ⟨0x40090000, 24, 8, 0x14, .ro, .caisson, (.nat 1 255)⟩
/-- `GB_CFG` [23:16], access RO, reset column image. -/
def Reg.GB_CFG_SAFE_LEN : Fld := ⟨0x40090000, 16, 8, 0, .ro, .image, .any⟩
/-- `GB_CFG` [1], access RO, reset column Caisson. -/
def Reg.GB_CFG_SNOOP_EN : Fld := ⟨0x40090000, 1, 1, 0, .ro, .caisson, .any⟩
/-- `GB_CFG` [0], access RO, reset column Caisson. -/
def Reg.GB_CFG_EN : Fld := ⟨0x40090000, 0, 1, 0, .ro, .caisson, .any⟩
/-- `GB_STATUS` [31:28], access RO, reset column pin. -/
def Reg.GB_STATUS_SLOT : Fld := ⟨0x40090004, 28, 4, 0, .ro, .pin, .any⟩
/-- `GB_STATUS` [19], access RO, reset column 0. -/
def Reg.GB_STATUS_CLK_OK : Fld := ⟨0x40090004, 19, 1, 0, .ro, .val, .any⟩
/-- `GB_STATUS` [18], access RO, reset column 0. -/
def Reg.GB_STATUS_BP_RESET : Fld := ⟨0x40090004, 18, 1, 0, .ro, .val, .any⟩
/-- `GB_STATUS` [17], access RO, reset column 0. -/
def Reg.GB_STATUS_LOCKED : Fld := ⟨0x40090004, 17, 1, 0, .ro, .val, .any⟩
/-- `GB_STATUS` [16], access RO, reset column 0. -/
def Reg.GB_STATUS_OWNER : Fld := ⟨0x40090004, 16, 1, 0, .ro, .val, .any⟩
/-- `GB_STATUS` [15], access W1C, reset column 0. -/
def Reg.GB_STATUS_SNOOP_OVF : Fld := ⟨0x40090004, 15, 1, 0, .w1c, .val, .any⟩
/-- `GB_STATUS` [10:0], access RO, reset column 0x000. -/
def Reg.GB_STATUS_QUEUE : Fld := ⟨0x40090004, 0, 11, 0, .ro, .val, .any⟩
/-- `GB_QUEUE` [31:16], access RC, reset column 0x0000. -/
def Reg.GB_QUEUE_FULL : Fld := ⟨0x40090008, 16, 16, 0, .rc, .val, .any⟩
/-- `GB_QUEUE` [10:0], access RC, reset column 0x000. -/
def Reg.GB_QUEUE_PEAK : Fld := ⟨0x40090008, 0, 11, 0, .rc, .val, .any⟩
/-- `GB_FAIL_A` [31:16], access RC, reset column 0x0000. -/
def Reg.GB_FAIL_A_TARGET_ERR : Fld := ⟨0x4009000C, 16, 16, 0, .rc, .val, .any⟩
/-- `GB_FAIL_A` [15:0], access RC, reset column 0x0000. -/
def Reg.GB_FAIL_A_TIMEOUT : Fld := ⟨0x4009000C, 0, 16, 0, .rc, .val, .any⟩
/-- `GB_FAIL_B` [31:24], access RC, reset column 0x00. -/
def Reg.GB_FAIL_B_PARITY : Fld := ⟨0x40090010, 24, 8, 0, .rc, .val, .any⟩
/-- `GB_FAIL_B` [23:16], access RC, reset column 0x00. -/
def Reg.GB_FAIL_B_NO_GRANT : Fld := ⟨0x40090010, 16, 8, 0, .rc, .val, .any⟩
/-- `GB_FAIL_B` [15:8], access RC, reset column 0x00. -/
def Reg.GB_FAIL_B_BP_RESET : Fld := ⟨0x40090010, 8, 8, 0, .rc, .val, .any⟩
/-- `GB_FAIL_B` [7:0], access RC, reset column 0x00. -/
def Reg.GB_FAIL_B_ABORTED : Fld := ⟨0x40090010, 0, 8, 0, .rc, .val, .any⟩
/-- `GB_DISCARD` [31:16], access RC, reset column 0x0000. -/
def Reg.GB_DISCARD_LEASE : Fld := ⟨0x40090014, 16, 16, 0, .rc, .val, .any⟩
/-- `GB_DISCARD` [15:0], access RC, reset column 0x0000. -/
def Reg.GB_DISCARD_MODE : Fld := ⟨0x40090014, 0, 16, 0, .rc, .val, .any⟩
/-- `GB_LF_INFO` [31:24], access RO, reset column 0x00. -/
def Reg.GB_LF_INFO_STATUS : Fld := ⟨0x40090020, 24, 8, 0, .ro, .val, .any⟩
/-- `GB_LF_INFO` [23:20], access RO, reset column 0x0. -/
def Reg.GB_LF_INFO_CLASS : Fld := ⟨0x40090020, 20, 4, 0, .ro, .val, .any⟩
/-- `GB_LF_INFO` [19:17], access RO, reset column 0b000. -/
def Reg.GB_LF_INFO_WINDOW : Fld := ⟨0x40090020, 17, 3, 0, .ro, .val, .any⟩
/-- `GB_LF_INFO` [11:0], access RO, reset column 0x000. -/
def Reg.GB_LF_INFO_SEGMENT : Fld := ⟨0x40090020, 0, 12, 0, .ro, .val, .any⟩
/-- `GB_LF_OFFSET` [26:0], access RO, reset column 0x000_0000. -/
def Reg.GB_LF_OFFSET_OFFSET : Fld := ⟨0x40090024, 0, 27, 0, .ro, .val, .any⟩
/-- `GB_LF_CYC` [31:0] (64 bits with its upper half), access RO, reset column 0x0000_0000. -/
def Reg.GB_LF_CYC : Fld := ⟨0x40090028, 0, 64, 0, .ro, .val, .any⟩
/-- `GB_LF_COUNT` [31:0], access RO, reset column 0x0000_0000. -/
def Reg.GB_LF_COUNT : Fld := ⟨0x40090030, 0, 32, 0, .ro, .val, .any⟩
/-- `GB_PF_LAST` [29:27], access RO, reset column 0b000. -/
def Reg.GB_PF_LAST_WINDOW : Fld := ⟨0x40090034, 27, 3, 0, .ro, .val, .any⟩
/-- `GB_PF_LAST` [26:0], access RO, reset column 0x000_0000. -/
def Reg.GB_PF_LAST_OFFSET : Fld := ⟨0x40090034, 0, 27, 0, .ro, .val, .any⟩
/-- `GB_PF_COUNT` [31:0], access RC, reset column 0x0000_0000. -/
def Reg.GB_PF_COUNT : Fld := ⟨0x40090038, 0, 32, 0, .rc, .val, .any⟩
/-- `GB_INT` [31], access RO, reset column 0. -/
def Reg.GB_INT_LEVEL : Fld := ⟨0x4009003C, 31, 1, 0, .ro, .val, .any⟩
/-- `GB_INT` [15:0], access RO, reset column 0x0000. -/
def Reg.GB_INT_EDGES : Fld := ⟨0x4009003C, 0, 16, 0, .ro, .val, .any⟩
/-- `GB_SNOOP` [16:0], access RO, reset column 0. -/
def Reg.GB_SNOOP_HELD : Fld := ⟨0x40090040, 0, 17, 0, .ro, .val, .any⟩
/-- `GB_SNOOP_CNT` [31:0], access RO, reset column 0x0000_0000. -/
def Reg.GB_SNOOP_CNT : Fld := ⟨0x40090044, 0, 32, 0, .ro, .val, .any⟩
/-- `GB_RES_OVF` [15:0], access RC, reset column 0x0000. -/
def Reg.GB_RES_OVF_COUNT : Fld := ⟨0x40090048, 0, 16, 0, .rc, .val, .any⟩
/-- `GB_WIN_BASE_n` [31:16], access RO, reset column Caisson. -/
def Reg.GB_WIN_BASE_BASE (n : Nat) : Fld := ⟨0x40090100 + 0x10 * n, 16, 16, 0, .ro, .caisson, .any⟩
/-- `GB_WIN_CFG_n` [31], access RO, reset column Caisson. -/
def Reg.GB_WIN_CFG_EN (n : Nat) : Fld := ⟨0x40090104 + 0x10 * n, 31, 1, 0, .ro, .caisson, .any⟩
/-- `GB_WIN_CFG_n` [30], access RO, reset column Caisson. -/
def Reg.GB_WIN_CFG_POSTED (n : Nat) : Fld := ⟨0x40090104 + 0x10 * n, 30, 1, 0, .ro, .caisson, .any⟩
/-- `GB_WIN_CFG_n` [29], access RO, reset column Caisson. -/
def Reg.GB_WIN_CFG_BURST (n : Nat) : Fld := ⟨0x40090104 + 0x10 * n, 29, 1, 0, .ro, .caisson, .any⟩
/-- `GB_WIN_CFG_n` [28], access RO, reset column Caisson. -/
def Reg.GB_WIN_CFG_PREFETCH (n : Nat) : Fld := ⟨0x40090104 + 0x10 * n, 28, 1, 0, .ro, .caisson, .any⟩
/-- `GB_WIN_CFG_n` [27], access RO, reset column Caisson. -/
def Reg.GB_WIN_CFG_SWAP (n : Nat) : Fld := ⟨0x40090104 + 0x10 * n, 27, 1, 0, .ro, .caisson, .any⟩
/-- `GB_WIN_CFG_n` [26], access RO, reset column Caisson. -/
def Reg.GB_WIN_CFG_OBSERVED (n : Nat) : Fld := ⟨0x40090104 + 0x10 * n, 26, 1, 0, .ro, .caisson, .any⟩
/-- `GB_WIN_CFG_n` [20:16], access RO, reset column Caisson. -/
def Reg.GB_WIN_CFG_SIZE (n : Nat) : Fld := ⟨0x40090104 + 0x10 * n, 16, 5, 0, .ro, .caisson, (.nat 16 27)⟩
/-- `GB_WIN_CFG_n` [7:0], access RO, reset column Caisson. -/
def Reg.GB_WIN_CFG_TIMEOUT_US (n : Nat) : Fld := ⟨0x40090104 + 0x10 * n, 0, 8, 8, .ro, .caisson, (.nat 1 255)⟩
/-- `GB_WIN_CNT_n` [31:16], access RC, reset column 0x0000. -/
def Reg.GB_WIN_CNT_FAIL (n : Nat) : Fld := ⟨0x40090108 + 0x10 * n, 16, 16, 0, .rc, .val, .any⟩
/-- `GB_WIN_CNT_n` [15:0], access RC, reset column 0x0000. -/
def Reg.GB_WIN_CNT_PF_DISCARD (n : Nat) : Fld := ⟨0x40090108 + 0x10 * n, 0, 16, 0, .rc, .val, .any⟩
/-- `GB_WIN_ACC_n` [31:0], access RO, reset column 0x0000_0000. -/
def Reg.GB_WIN_ACC (n : Nat) : Fld := ⟨0x4009010C + 0x10 * n, 0, 32, 0, .ro, .val, .any⟩
/-- `GB_SCAN_c` [23:16], access RC, reset column 0x00. -/
def Reg.GB_SCAN_LATE (n : Nat) : Fld := ⟨0x40090200 + 0x4 * n, 16, 8, 0, .rc, .val, .any⟩
/-- `GB_SCAN_c` [8:0], access RO, reset column image. -/
def Reg.GB_SCAN_ENTRIES (n : Nat) : Fld := ⟨0x40090200 + 0x4 * n, 0, 9, 0, .ro, .image, .any⟩
/-- `GB_SCAN_LEAD_c` [16:0], access RO, reset column image. -/
def Reg.GB_SCAN_LEAD_LEAD (n : Nat) : Fld := ⟨0x40090240 + 0x4 * n, 0, 17, 0, .ro, .image, .any⟩

/-- `FIO_STATUS` [18:16], access RO, reset column 0b000. -/
def Reg.FIO_STATUS_LEASE_OK : Fld := ⟨0x400A0000, 16, 3, 0, .ro, .val, .any⟩
/-- `FIO_STATUS` [2:0], access RO, reset column 0b111. -/
def Reg.FIO_STATUS_IN_SERVICE : Fld := ⟨0x400A0000, 0, 3, 7, .ro, .val, .any⟩
/-- `FIO_SUMMARY` [31:16], access RO, reset column 0x0000. -/
def Reg.FIO_SUMMARY_THERMAL : Fld := ⟨0x400A0004, 16, 16, 0, .ro, .val, .any⟩
/-- `FIO_SUMMARY` [15:0], access RO, reset column 0x0000. -/
def Reg.FIO_SUMMARY_EXT_DRIVEN : Fld := ⟨0x400A0004, 0, 16, 0, .ro, .val, .any⟩
/-- `FIO_EVT_CNT` [31:16], access RC, reset column 0x0000. -/
def Reg.FIO_EVT_CNT_THERMAL : Fld := ⟨0x400A0008, 16, 16, 0, .rc, .val, .any⟩
/-- `FIO_EVT_CNT` [15:0], access RC, reset column 0x0000. -/
def Reg.FIO_EVT_CNT_EXT : Fld := ⟨0x400A0008, 0, 16, 0, .rc, .val, .any⟩
/-- `FIO_DI_GRP` [3:0], access RW, reset column 0x0. -/
def Reg.FIO_DI_GRP_TYPE (s : Nat) : Fld := ⟨0x400A0100 + 0x1000 * (s + 1), 0, 4, 0, .rw, .val, .any⟩
/-- `FIO_DI_CFG_n` [31:30], access RW, reset column 0b00. -/
def Reg.FIO_DI_CFG_EDGE (s : Nat) (n : Nat) : Fld := ⟨0x400A0200 + 0x1000 * (s + 1) + 0x4 * n, 30, 2, 0, .rw, .val, .any⟩
/-- `FIO_DI_CFG_n` [15:0], access RW, reset column 0x0000. -/
def Reg.FIO_DI_CFG_DEBOUNCE (s : Nat) (n : Nat) : Fld := ⟨0x400A0200 + 0x1000 * (s + 1) + 0x4 * n, 0, 16, 0, .rw, .val, .any⟩
/-- `FIO_DO_CFG_n` [23:16], access RW, reset column 0x05. -/
def Reg.FIO_DO_CFG_EXT_MS (s : Nat) (n : Nat) : Fld := ⟨0x400A0300 + 0x1000 * (s + 1) + 0x4 * n, 16, 8, 5, .rw, .val, .any⟩
/-- `FIO_DO_CFG_n` [15:0], access RW, reset column 0x0000. -/
def Reg.FIO_DO_CFG_RB_DEBOUNCE (s : Nat) (n : Nat) : Fld := ⟨0x400A0300 + 0x1000 * (s + 1) + 0x4 * n, 0, 16, 0, .rw, .val, .any⟩
/-- `FIO_LEG_MASK` [15:0], access RW, reset column 0x0000. -/
def Reg.FIO_LEG_MASK_MASK (s : Nat) : Fld := ⟨0x400A0400 + 0x1000 * (s + 1), 0, 16, 0, .rw, .val, .any⟩
/-- `FIO_LEG_WR` [31], access WO, reset column 0. -/
def Reg.FIO_LEG_WR_AT_LAUNCH (s : Nat) : Fld := ⟨0x400A0404 + 0x1000 * (s + 1), 31, 1, 0, .wo, .val, .any⟩
/-- `FIO_LEG_WR` [27:24], access WO, reset column 0x0. -/
def Reg.FIO_LEG_WR_CLASS (s : Nat) : Fld := ⟨0x400A0404 + 0x1000 * (s + 1), 24, 4, 0, .wo, .val, .any⟩
/-- `FIO_LEG_WR` [15:0], access WO, reset column 0x0000. -/
def Reg.FIO_LEG_WR_VALUE (s : Nat) : Fld := ⟨0x400A0404 + 0x1000 * (s + 1), 0, 16, 0, .wo, .val, .any⟩
/-- `FIO_LEG_STATE` [31:16], access RO, reset column 0x0000. -/
def Reg.FIO_LEG_STATE_PENDING (s : Nat) : Fld := ⟨0x400A0408 + 0x1000 * (s + 1), 16, 16, 0, .ro, .val, .any⟩
/-- `FIO_LEG_STATE` [15:0], access RO, reset column 0x0000. -/
def Reg.FIO_LEG_STATE_APPLIED (s : Nat) : Fld := ⟨0x400A0408 + 0x1000 * (s + 1), 0, 16, 0, .ro, .val, .any⟩
/-- `FIO_DI_RAW` [31:0], access RO, reset column 0x0000_0000. -/
def Reg.FIO_DI_RAW (s : Nat) : Fld := ⟨0x400A0500 + 0x1000 * (s + 1), 0, 32, 0, .ro, .val, .any⟩
/-- `FIO_DI_STATE` [31:0], access RO, reset column 0x0000_0000. -/
def Reg.FIO_DI_STATE (s : Nat) : Fld := ⟨0x400A0504 + 0x1000 * (s + 1), 0, 32, 0, .ro, .val, .any⟩
/-- `FIO_RB_STATE` [31:16], access RO, reset column 0x0000. -/
def Reg.FIO_RB_STATE_RAW (s : Nat) : Fld := ⟨0x400A0508 + 0x1000 * (s + 1), 16, 16, 0, .ro, .val, .any⟩
/-- `FIO_RB_STATE` [15:0], access RO, reset column 0x0000. -/
def Reg.FIO_RB_STATE_DEB (s : Nat) : Fld := ⟨0x400A0508 + 0x1000 * (s + 1), 0, 16, 0, .ro, .val, .any⟩
/-- `FIO_DO_FAULT` [31:16], access RO, reset column 0x0000. -/
def Reg.FIO_DO_FAULT_OVERLOAD (s : Nat) : Fld := ⟨0x400A050C + 0x1000 * (s + 1), 16, 16, 0, .ro, .val, .any⟩
/-- `FIO_DO_FAULT` [15:0], access RO, reset column 0x0000. -/
def Reg.FIO_DO_FAULT_EXT_DRIVEN (s : Nat) : Fld := ⟨0x400A050C + 0x1000 * (s + 1), 0, 16, 0, .ro, .val, .any⟩
/-- `FIO_DO_THERM` [31:16], access RO, reset column 0x0000. -/
def Reg.FIO_DO_THERM_LOCKED (s : Nat) : Fld := ⟨0x400A0510 + 0x1000 * (s + 1), 16, 16, 0, .ro, .val, .any⟩
/-- `FIO_DO_THERM` [15:0], access RO, reset column 0x0000. -/
def Reg.FIO_DO_THERM_THERMAL (s : Nat) : Fld := ⟨0x400A0510 + 0x1000 * (s + 1), 0, 16, 0, .ro, .val, .any⟩
/-- `FIO_DO_SW` [15:0], access RO, reset column 0x0000. -/
def Reg.FIO_DO_SW_SW_ON (s : Nat) : Fld := ⟨0x400A0514 + 0x1000 * (s + 1), 0, 16, 0, .ro, .val, .any⟩
/-- `FIO_FS_n` [31:30], access RO, reset column 0b10. -/
def Reg.FIO_FS_STATE (s : Nat) (n : Nat) : Fld := ⟨0x400A0520 + 0x1000 * (s + 1) + 0x4 * n, 30, 2, 2, .ro, .val, .any⟩
/-- `FIO_FS_n` [15:0], access RO, reset column 0x0000. -/
def Reg.FIO_FS_MV (s : Nat) (n : Nat) : Fld := ⟨0x400A0520 + 0x1000 * (s + 1) + 0x4 * n, 0, 16, 0, .ro, .val, .any⟩
/-- `FIO_EDGE_LOST` [31:0], access RO, reset column 0x0000_0000. -/
def Reg.FIO_EDGE_LOST (s : Nat) : Fld := ⟨0x400A0530 + 0x1000 * (s + 1), 0, 32, 0, .ro, .val, .any⟩
/-- `FIO_EDGE_n` [31:0] (64 bits with its upper half), access RO, reset column 0x0000_0000. -/
def Reg.FIO_EDGE (s : Nat) (n : Nat) : Fld := ⟨0x400A0600 + 0x1000 * (s + 1) + 0x8 * n, 0, 64, 0, .ro, .val, .any⟩

/-- `PT_STATUS` [23:16], access RO, reset column 0x00. -/
def Reg.PT_STATUS_PENDING : Fld := ⟨0x400B0000, 16, 8, 0, .ro, .val, .any⟩
/-- `PT_STATUS` [3], access RO, reset column 0. -/
def Reg.PT_STATUS_LAUNCH_OK : Fld := ⟨0x400B0000, 3, 1, 0, .ro, .val, .any⟩
/-- `PT_STATUS` [2:0], access RO, reset column 0b111. -/
def Reg.PT_STATUS_VOTERS : Fld := ⟨0x400B0000, 0, 3, 7, .ro, .val, .any⟩
/-- `PT_LAUNCH_CNT` [31:16], access RC, reset column 0x0000. -/
def Reg.PT_LAUNCH_CNT_DROPPED : Fld := ⟨0x400B0004, 16, 16, 0, .rc, .val, .any⟩
/-- `PT_LAUNCH_CNT` [15:0], access RC, reset column 0x0000. -/
def Reg.PT_LAUNCH_CNT_LAUNCHED : Fld := ⟨0x400B0004, 0, 16, 0, .rc, .val, .any⟩
/-- `PT_UNCONF` [15:0], access RC, reset column 0x0000. -/
def Reg.PT_UNCONF_COUNT : Fld := ⟨0x400B0008, 0, 16, 0, .rc, .val, .any⟩
/-- `PT_REF_CFG_r` [31], access RW, reset column 0. -/
def Reg.PT_REF_CFG_EN (s : Nat) (n : Nat) : Fld := ⟨0x400B0100 + 0x1000 * (s + 1) + 0x10 * n, 31, 1, 0, .rw, .val, .any⟩
/-- `PT_REF_CFG_r` [30], access RW, reset column 0. -/
def Reg.PT_REF_CFG_SIGN (s : Nat) (n : Nat) : Fld := ⟨0x400B0100 + 0x1000 * (s + 1) + 0x10 * n, 30, 1, 0, .rw, .val, .any⟩
/-- `PT_REF_CFG_r` [29:28], access RW, reset column 0b00. -/
def Reg.PT_REF_CFG_MODE (s : Nat) (n : Nat) : Fld := ⟨0x400B0100 + 0x1000 * (s + 1) + 0x10 * n, 28, 2, 0, .rw, .val, .any⟩
/-- `PT_REF_CFG_r` [27:26], access RW, reset column 0b00. -/
def Reg.PT_REF_CFG_SOURCE (s : Nat) (n : Nat) : Fld := ⟨0x400B0100 + 0x1000 * (s + 1) + 0x10 * n, 26, 2, 0, .rw, .val, .any⟩
/-- `PT_REF_CFG_r` [25], access RW, reset column 0. -/
def Reg.PT_REF_CFG_SDIR (s : Nat) (n : Nat) : Fld := ⟨0x400B0100 + 0x1000 * (s + 1) + 0x10 * n, 25, 1, 0, .rw, .val, .any⟩
/-- `PT_REF_CFG_r` [22:14], access RW, reset column 0x000. -/
def Reg.PT_REF_CFG_FILT (s : Nat) (n : Nat) : Fld := ⟨0x400B0100 + 0x1000 * (s + 1) + 0x10 * n, 14, 9, 0, .rw, .val, .any⟩
/-- `PT_REF_CFG_r` [13:0], access RW, reset column 0x03E8. -/
def Reg.PT_REF_CFG_STILL_MS (s : Nat) (n : Nat) : Fld := ⟨0x400B0100 + 0x1000 * (s + 1) + 0x10 * n, 0, 14, 0x3E8, .rw, .val, .any⟩
/-- `PT_REF_SCALE_r` [31:0], access RW, reset column 0x0000_0000. -/
def Reg.PT_REF_SCALE (s : Nat) (n : Nat) : Fld := ⟨0x400B0104 + 0x1000 * (s + 1) + 0x10 * n, 0, 32, 0, .rw, .val, .any⟩
/-- `PT_REF_POS_r` [31:0], access RO, reset column 0x0000_0000. -/
def Reg.PT_REF_POS (s : Nat) (n : Nat) : Fld := ⟨0x400B0108 + 0x1000 * (s + 1) + 0x10 * n, 0, 32, 0, .ro, .val, .any⟩
/-- `PT_REF_STAT_r` [31:16], access RC, reset column 0x0000. -/
def Reg.PT_REF_STAT_QERR (s : Nat) (n : Nat) : Fld := ⟨0x400B010C + 0x1000 * (s + 1) + 0x10 * n, 16, 16, 0, .rc, .val, .any⟩
/-- `PT_REF_STAT_r` [15:4], access RC, reset column 0x000. -/
def Reg.PT_REF_STAT_LEG_IGNORED (s : Nat) (n : Nat) : Fld := ⟨0x400B010C + 0x1000 * (s + 1) + 0x10 * n, 4, 12, 0, .rc, .val, .any⟩
/-- `PT_REF_STAT_r` [2], access W1C, reset column 0. -/
def Reg.PT_REF_STAT_WREJ (s : Nat) (n : Nat) : Fld := ⟨0x400B010C + 0x1000 * (s + 1) + 0x10 * n, 2, 1, 0, .w1c, .val, .any⟩
/-- `PT_REF_STAT_r` [1:0], access RO, reset column 0b11. -/
def Reg.PT_REF_STAT_DIR (s : Nat) (n : Nat) : Fld := ⟨0x400B010C + 0x1000 * (s + 1) + 0x10 * n, 0, 2, 3, .ro, .val, .any⟩
/-- `PT_REBASE_VAL` [31:0], access RW, reset column 0x0000_0000. -/
def Reg.PT_REBASE_VAL (s : Nat) : Fld := ⟨0x400B0180 + 0x1000 * (s + 1), 0, 32, 0, .rw, .val, .any⟩
/-- `PT_REBASE_TICK` [31:0], access RW, reset column 0x0000_0000. -/
def Reg.PT_REBASE_TICK (s : Nat) : Fld := ⟨0x400B0184 + 0x1000 * (s + 1), 0, 32, 0, .rw, .val, .any⟩
/-- `PT_REBASE_CTL` [31], access W1S, reset column 0. -/
def Reg.PT_REBASE_CTL_GO (s : Nat) : Fld := ⟨0x400B0188 + 0x1000 * (s + 1), 31, 1, 0, .w1s, .val, .any⟩
/-- `PT_REBASE_CTL` [30], access RW, reset column 0. -/
def Reg.PT_REBASE_CTL_SHIFT (s : Nat) : Fld := ⟨0x400B0188 + 0x1000 * (s + 1), 30, 1, 0, .rw, .val, .any⟩
/-- `PT_REBASE_CTL` [29], access W1C, reset column 0. -/
def Reg.PT_REBASE_CTL_REJ (s : Nat) : Fld := ⟨0x400B0188 + 0x1000 * (s + 1), 29, 1, 0, .w1c, .val, .any⟩
/-- `PT_REBASE_CTL` [1:0], access RW, reset column 0b00. -/
def Reg.PT_REBASE_CTL_REF (s : Nat) : Fld := ⟨0x400B0188 + 0x1000 * (s + 1), 0, 2, 0, .rw, .val, .any⟩
/-- `PT_TRIG_TGT_k` [31:0], access RW, reset column 0x0000_0000. -/
def Reg.PT_TRIG_TGT (s : Nat) (n : Nat) : Fld := ⟨0x400B0200 + 0x1000 * (s + 1) + 0x8 * n, 0, 32, 0, .rw, .val, .any⟩
/-- `PT_TRIG_CTL_k` [31], access RW, reset column 0. -/
def Reg.PT_TRIG_CTL_ARM (s : Nat) (n : Nat) : Fld := ⟨0x400B0204 + 0x1000 * (s + 1) + 0x8 * n, 31, 1, 0, .rw, .val, .any⟩
/-- `PT_TRIG_CTL_k` [30:28], access RO, reset column 0b000. -/
def Reg.PT_TRIG_CTL_STATE (s : Nat) (n : Nat) : Fld := ⟨0x400B0204 + 0x1000 * (s + 1) + 0x8 * n, 28, 3, 0, .ro, .val, .any⟩
/-- `PT_TRIG_CTL_k` [27:24], access RO, reset column 0x0. -/
def Reg.PT_TRIG_CTL_ARM_SEQ (s : Nat) (n : Nat) : Fld := ⟨0x400B0204 + 0x1000 * (s + 1) + 0x8 * n, 24, 4, 0, .ro, .val, .any⟩
/-- `PT_TRIG_CTL_k` [23], access RW, reset column 0. -/
def Reg.PT_TRIG_CTL_IF_PASSED (s : Nat) (n : Nat) : Fld := ⟨0x400B0204 + 0x1000 * (s + 1) + 0x8 * n, 23, 1, 0, .rw, .val, .any⟩
/-- `PT_TRIG_CTL_k` [22:21], access RW, reset column 0b00. -/
def Reg.PT_TRIG_CTL_DIR (s : Nat) (n : Nat) : Fld := ⟨0x400B0204 + 0x1000 * (s + 1) + 0x8 * n, 21, 2, 0, .rw, .val, .any⟩
/-- `PT_TRIG_CTL_k` [20:19], access RW, reset column 0b00. -/
def Reg.PT_TRIG_CTL_REF (s : Nat) (n : Nat) : Fld := ⟨0x400B0204 + 0x1000 * (s + 1) + 0x8 * n, 19, 2, 0, .rw, .val, .any⟩
/-- `PT_TRIG_CTL_k` [18:16], access RW, reset column 0b000. -/
def Reg.PT_TRIG_CTL_ACTION (s : Nat) (n : Nat) : Fld := ⟨0x400B0204 + 0x1000 * (s + 1) + 0x8 * n, 16, 3, 0, .rw, .val, .any⟩
/-- `PT_TRIG_CTL_k` [3:0], access RW, reset column 0x0. -/
def Reg.PT_TRIG_CTL_OUTPUT (s : Nat) (n : Nat) : Fld := ⟨0x400B0204 + 0x1000 * (s + 1) + 0x8 * n, 0, 4, 0, .rw, .val, .any⟩
/-- `PT_HIT` [31:0] (64 bits with its upper half), access RO, reset column 0x0000_0000. -/
def Reg.PT_HIT (s : Nat) : Fld := ⟨0x400B0400 + 0x1000 * (s + 1), 0, 64, 0, .ro, .val, .any⟩

/-- `CW_CFG_n` [31], access RO, reset column Caisson. -/
def Reg.CW_CFG_EN (n : Nat) : Fld := ⟨0x400C0000 + 0x100 * n, 31, 1, 0, .ro, .caisson, .any⟩
/-- `CW_CFG_n` [30], access RO, reset column Caisson. -/
def Reg.CW_CFG_FLUSH (n : Nat) : Fld := ⟨0x400C0000 + 0x100 * n, 30, 1, 0, .ro, .caisson, .any⟩
/-- `CW_CFG_n` [11:8], access RO, reset column Caisson. -/
def Reg.CW_CFG_CLASS (n : Nat) : Fld := ⟨0x400C0000 + 0x100 * n, 8, 4, 0, .ro, .caisson, .any⟩
/-- `CW_CFG_n` [6:0], access RO, reset column Caisson. -/
def Reg.CW_CFG_RX_MAX (n : Nat) : Fld := ⟨0x400C0000 + 0x100 * n, 0, 7, 8, .ro, .caisson, (.nat 1 64)⟩
/-- `CW_WM_n` [29:16], access RW, reset column Caisson. -/
def Reg.CW_WM_HIGH (n : Nat) : Fld := ⟨0x400C0004 + 0x100 * n, 16, 14, 0x2FC0, .rw, .caisson, (.nat 64 12224)⟩
/-- `CW_WM_n` [13:0], access RW, reset column Caisson. -/
def Reg.CW_WM_LOW (n : Nat) : Fld := ⟨0x400C0004 + 0x100 * n, 0, 14, 0x1000, .rw, .caisson, (.nat 0 12160)⟩
/-- `CW_STATUS_n` [6], access W1C, reset column 0. -/
def Reg.CW_STATUS_WREJ (n : Nat) : Fld := ⟨0x400C0008 + 0x100 * n, 6, 1, 0, .w1c, .val, .any⟩
/-- `CW_STATUS_n` [5], access RO, reset column 0. -/
def Reg.CW_STATUS_DECK_OPEN (n : Nat) : Fld := ⟨0x400C0008 + 0x100 * n, 5, 1, 0, .ro, .val, .any⟩
/-- `CW_STATUS_n` [4], access RO, reset column 0. -/
def Reg.CW_STATUS_APP_OPEN (n : Nat) : Fld := ⟨0x400C0008 + 0x100 * n, 4, 1, 0, .ro, .val, .any⟩
/-- `CW_STATUS_n` [3], access RO, reset column 0. -/
def Reg.CW_STATUS_TX_BUSY (n : Nat) : Fld := ⟨0x400C0008 + 0x100 * n, 3, 1, 0, .ro, .val, .any⟩
/-- `CW_STATUS_n` [2], access RO, reset column 1. -/
def Reg.CW_STATUS_HO (n : Nat) : Fld := ⟨0x400C0008 + 0x100 * n, 2, 1, 1, .ro, .val, .any⟩
/-- `CW_STATUS_n` [1], access RO, reset column 1. -/
def Reg.CW_STATUS_HI (n : Nat) : Fld := ⟨0x400C0008 + 0x100 * n, 1, 1, 1, .ro, .val, .any⟩
/-- `CW_STATUS_n` [0], access RO, reset column 0. -/
def Reg.CW_STATUS_LINK (n : Nat) : Fld := ⟨0x400C0008 + 0x100 * n, 0, 1, 0, .ro, .val, .any⟩
/-- `CW_TX_LEVEL_n` [30:16], access RO, reset column 0x0000. -/
def Reg.CW_TX_LEVEL_PKTS (n : Nat) : Fld := ⟨0x400C000C + 0x100 * n, 16, 15, 0, .ro, .val, .any⟩
/-- `CW_TX_LEVEL_n` [14:0], access RO, reset column 0x0000. -/
def Reg.CW_TX_LEVEL_WORDS (n : Nat) : Fld := ⟨0x400C000C + 0x100 * n, 0, 15, 0, .ro, .val, .any⟩
/-- `CW_RX_LEVEL_n` [30:16], access RO, reset column 0x0000. -/
def Reg.CW_RX_LEVEL_PKTS (n : Nat) : Fld := ⟨0x400C0010 + 0x100 * n, 16, 15, 0, .ro, .val, .any⟩
/-- `CW_RX_LEVEL_n` [14:0], access RO, reset column 0x0000. -/
def Reg.CW_RX_LEVEL_WORDS (n : Nat) : Fld := ⟨0x400C0010 + 0x100 * n, 0, 15, 0, .ro, .val, .any⟩
/-- `CW_PRIO_n` [23:16], access RO, reset column 0x00. -/
def Reg.CW_PRIO_RX (n : Nat) : Fld := ⟨0x400C0014 + 0x100 * n, 16, 8, 0, .ro, .val, .any⟩
/-- `CW_PRIO_n` [7:0], access RO, reset column 0x00. -/
def Reg.CW_PRIO_TX (n : Nat) : Fld := ⟨0x400C0014 + 0x100 * n, 0, 8, 0, .ro, .val, .any⟩
/-- `CW_TX_CNT_n` [31:0], access RO, reset column 0x0000_0000. -/
def Reg.CW_TX_CNT (n : Nat) : Fld := ⟨0x400C0018 + 0x100 * n, 0, 32, 0, .ro, .val, .any⟩
/-- `CW_RX_CNT_n` [31:0], access RO, reset column 0x0000_0000. -/
def Reg.CW_RX_CNT (n : Nat) : Fld := ⟨0x400C001C + 0x100 * n, 0, 32, 0, .ro, .val, .any⟩
/-- `CW_TX_ERR_n` [31:24], access RC, reset column 0x00. -/
def Reg.CW_TX_ERR_OVERSIZE (n : Nat) : Fld := ⟨0x400C0020 + 0x100 * n, 24, 8, 0, .rc, .val, .any⟩
/-- `CW_TX_ERR_n` [23:16], access RC, reset column 0x00. -/
def Reg.CW_TX_ERR_NOSPACE (n : Nat) : Fld := ⟨0x400C0020 + 0x100 * n, 16, 8, 0, .rc, .val, .any⟩
/-- `CW_TX_ERR_n` [15:8], access RC, reset column 0x00. -/
def Reg.CW_TX_ERR_FORM (n : Nat) : Fld := ⟨0x400C0020 + 0x100 * n, 8, 8, 0, .rc, .val, .any⟩
/-- `CW_TX_ERR_n` [7:0], access RC, reset column 0x00. -/
def Reg.CW_TX_ERR_LEASE (n : Nat) : Fld := ⟨0x400C0020 + 0x100 * n, 0, 8, 0, .rc, .val, .any⟩
/-- `CW_RX_ERR_n` [31:24], access RC, reset column 0x00. -/
def Reg.CW_RX_ERR_CRC (n : Nat) : Fld := ⟨0x400C0024 + 0x100 * n, 24, 8, 0, .rc, .val, .any⟩
/-- `CW_RX_ERR_n` [23:16], access RC, reset column 0x00. -/
def Reg.CW_RX_ERR_CODE (n : Nat) : Fld := ⟨0x400C0024 + 0x100 * n, 16, 8, 0, .rc, .val, .any⟩
/-- `CW_RX_ERR_n` [15:8], access RC, reset column 0x00. -/
def Reg.CW_RX_ERR_OVERSIZE (n : Nat) : Fld := ⟨0x400C0024 + 0x100 * n, 8, 8, 0, .rc, .val, .any⟩
/-- `CW_RX_ERR_n` [7:0], access RC, reset column 0x00. -/
def Reg.CW_RX_ERR_NOSPACE (n : Nat) : Fld := ⟨0x400C0024 + 0x100 * n, 0, 8, 0, .rc, .val, .any⟩
/-- `CW_PAR_n` [23:16], access RC, reset column 0x00. -/
def Reg.CW_PAR_LINK_DOWN (n : Nat) : Fld := ⟨0x400C0028 + 0x100 * n, 16, 8, 0, .rc, .val, .any⟩
/-- `CW_PAR_n` [15:8], access RC, reset column 0x00. -/
def Reg.CW_PAR_RX (n : Nat) : Fld := ⟨0x400C0028 + 0x100 * n, 8, 8, 0, .rc, .val, .any⟩
/-- `CW_PAR_n` [7:0], access RC, reset column 0x00. -/
def Reg.CW_PAR_TX (n : Nat) : Fld := ⟨0x400C0028 + 0x100 * n, 0, 8, 0, .rc, .val, .any⟩
/-- `CW_HOLD_n` [31:16], access RC, reset column 0x0000. -/
def Reg.CW_HOLD_HO_COUNT (n : Nat) : Fld := ⟨0x400C002C + 0x100 * n, 16, 16, 0, .rc, .val, .any⟩
/-- `CW_HOLD_n` [15:0], access RC, reset column 0x0000. -/
def Reg.CW_HOLD_HI_COUNT (n : Nat) : Fld := ⟨0x400C002C + 0x100 * n, 0, 16, 0, .rc, .val, .any⟩
/-- `CW_TX_OPEN_n` [18:16], access WO, reset column 0b000. -/
def Reg.CW_TX_OPEN_PRIO (n : Nat) : Fld := ⟨0x400C0030 + 0x100 * n, 16, 3, 0, .wo, .val, .any⟩
/-- `CW_TX_OPEN_n` [12:0], access WO, reset column 0x0000. -/
def Reg.CW_TX_OPEN_LEN (n : Nat) : Fld := ⟨0x400C0030 + 0x100 * n, 0, 13, 0, .wo, .val, .any⟩
/-- `CW_TX_DATA_n` [31:0], access WO, reset column 0x0000_0000. -/
def Reg.CW_TX_DATA (n : Nat) : Fld := ⟨0x400C0034 + 0x100 * n, 0, 32, 0, .wo, .val, .any⟩
/-- `CW_RX_HEAD_n` [31], access RO, reset column 0. -/
def Reg.CW_RX_HEAD_VALID (n : Nat) : Fld := ⟨0x400C0038 + 0x100 * n, 31, 1, 0, .ro, .val, .any⟩
/-- `CW_RX_HEAD_n` [18:16], access RO, reset column 0b000. -/
def Reg.CW_RX_HEAD_PRIO (n : Nat) : Fld := ⟨0x400C0038 + 0x100 * n, 16, 3, 0, .ro, .val, .any⟩
/-- `CW_RX_HEAD_n` [12:0], access RO, reset column 0x0000. -/
def Reg.CW_RX_HEAD_LEN (n : Nat) : Fld := ⟨0x400C0038 + 0x100 * n, 0, 13, 0, .ro, .val, .any⟩
/-- `CW_RX_DATA_n` [31:0], access RC, reset column 0x0000_0000. -/
def Reg.CW_RX_DATA (n : Nat) : Fld := ⟨0x400C003C + 0x100 * n, 0, 32, 0, .rc, .val, .any⟩
/-- `CW_TX_PUSH_n` [31:0], access WO, reset column 0x0000_0000. -/
def Reg.CW_TX_PUSH (n : Nat) (e : Nat) : Fld := ⟨0x400C0040 + 0x100 * n + 0x4 * e, 0, 32, 0, .wo, .val, .any⟩

/-- `EV_STATUS` [31], access RO, reset column MRAM. -/
def Reg.EV_STATUS_RESERVE_FAIL : Fld := ⟨0x400D0000, 31, 1, 0, .ro, .mram, .any⟩
/-- `EV_STATUS` [30], access RO, reset column MRAM. -/
def Reg.EV_STATUS_MAIN_FAIL : Fld := ⟨0x400D0000, 30, 1, 0, .ro, .mram, .any⟩
/-- `EV_STATUS` [29], access RO, reset column MRAM. -/
def Reg.EV_STATUS_IN_RESERVE : Fld := ⟨0x400D0000, 29, 1, 0, .ro, .mram, .any⟩
/-- `EV_STATUS` [9], access RO, reset column 0. -/
def Reg.EV_STATUS_RECOVERED : Fld := ⟨0x400D0000, 9, 1, 0, .ro, .val, .any⟩
/-- `EV_STATUS` [8:0], access RO, reset column 0x000. -/
def Reg.EV_STATUS_INTAKE : Fld := ⟨0x400D0000, 0, 9, 0, .ro, .val, .any⟩
/-- `EV_CFG` [31:16], access RO, reset column Caisson. -/
def Reg.EV_CFG_REFILL_MS : Fld := ⟨0x400D0004, 16, 16, 0x3E8, .ro, .caisson, (.nat 1 65535)⟩
/-- `EV_CFG` [15:8], access RO, reset column Caisson. -/
def Reg.EV_CFG_BURST : Fld := ⟨0x400D0004, 8, 8, 0xA, .ro, .caisson, (.nat 1 255)⟩
/-- `EV_CFG` [2:0], access RO, reset column Caisson. -/
def Reg.EV_CFG_NOTIFY_SEV : Fld := ⟨0x400D0004, 0, 3, 3, .ro, .caisson, (.nat 0 4)⟩
/-- `EV_NEXT` [31:0] (64 bits with its upper half), access RO, reset column MRAM. -/
def Reg.EV_NEXT : Fld := ⟨0x400D0008, 0, 64, 0, .ro, .mram, .any⟩
/-- `EV_OLDEST` [31:0] (64 bits with its upper half), access RO, reset column MRAM. -/
def Reg.EV_OLDEST : Fld := ⟨0x400D0010, 0, 64, 0, .ro, .mram, .any⟩
/-- `EV_COUNT` [31:16], access RC, reset column 0x0000. -/
def Reg.EV_COUNT_SUPPRESSED : Fld := ⟨0x400D0018, 16, 16, 0, .rc, .val, .any⟩
/-- `EV_COUNT` [15:0], access RC, reset column 0x0000. -/
def Reg.EV_COUNT_DROPPED : Fld := ⟨0x400D0018, 0, 16, 0, .rc, .val, .any⟩
/-- `EV_LOST` [31:0], access RO, reset column MRAM. -/
def Reg.EV_LOST : Fld := ⟨0x400D001C, 0, 32, 0, .ro, .mram, .any⟩
/-- `EV_FAIL_ADDR` [31], access RO, reset column MRAM. -/
def Reg.EV_FAIL_ADDR_AREA : Fld := ⟨0x400D0020, 31, 1, 0, .ro, .mram, .any⟩
/-- `EV_FAIL_ADDR` [19:0], access RO, reset column MRAM. -/
def Reg.EV_FAIL_ADDR_OFFSET : Fld := ⟨0x400D0020, 0, 20, 0, .ro, .mram, .any⟩
/-- `EV_CORRUPT` [14:0], access RO, reset column 0x0000. -/
def Reg.EV_CORRUPT_COUNT : Fld := ⟨0x400D0024, 0, 15, 0, .ro, .val, .any⟩
/-- `EV_OVR_k` [31:16], access RO, reset column Caisson. -/
def Reg.EV_OVR_CODE (n : Nat) : Fld := ⟨0x400D0040 + 0x4 * n, 16, 16, 0, .ro, .caisson, .any⟩
/-- `EV_OVR_k` [15], access RO, reset column Caisson. -/
def Reg.EV_OVR_NO_LIMIT (n : Nat) : Fld := ⟨0x400D0040 + 0x4 * n, 15, 1, 0, .ro, .caisson, .any⟩
/-- `EV_OVR_k` [14:8], access RO, reset column Caisson. -/
def Reg.EV_OVR_BURST (n : Nat) : Fld := ⟨0x400D0040 + 0x4 * n, 8, 7, 0, .ro, .caisson, .any⟩
/-- `EV_OVR_k` [7:0], access RO, reset column Caisson. -/
def Reg.EV_OVR_REFILL (n : Nat) : Fld := ⟨0x400D0040 + 0x4 * n, 0, 8, 0, .ro, .caisson, .any⟩
/-- `EV_SEL` [31:0] (64 bits with its upper half), access RW, reset column 0x0000_0000. -/
def Reg.EV_SEL : Fld := ⟨0x400D0100, 0, 64, 0, .rw, .val, .any⟩
/-- `EV_REC_k` [31:0], access RO, reset column 0x0000_0000. -/
def Reg.EV_REC (n : Nat) : Fld := ⟨0x400D0140 + 0x4 * n, 0, 32, 0, .ro, .val, .any⟩

/-- `CS_STATUS` [7], access RO, reset column MRAM. -/
def Reg.CS_STATUS_FROZEN : Fld := ⟨0x400E0000, 7, 1, 0, .ro, .mram, .any⟩
/-- `CS_STATUS` [6], access RO, reset column 0. -/
def Reg.CS_STATUS_BUSY : Fld := ⟨0x400E0000, 6, 1, 0, .ro, .val, .any⟩
/-- `CS_STATUS` [5], access RO, reset column 0. -/
def Reg.CS_STATUS_DEFAULTS : Fld := ⟨0x400E0000, 5, 1, 0, .ro, .val, .any⟩
/-- `CS_STATUS` [4:3], access RO, reset column MRAM. -/
def Reg.CS_STATUS_FAILED : Fld := ⟨0x400E0000, 3, 2, 0, .ro, .mram, .any⟩
/-- `CS_STATUS` [2:1], access RO, reset column 0b00. -/
def Reg.CS_STATUS_VALID : Fld := ⟨0x400E0000, 1, 2, 0, .ro, .val, .any⟩
/-- `CS_STATUS` [0], access RO, reset column 0. -/
def Reg.CS_STATUS_ACTIVE : Fld := ⟨0x400E0000, 0, 1, 0, .ro, .val, .any⟩
/-- `CS_SEQ` [31:0] (64 bits with its upper half), access RO, reset column MRAM. -/
def Reg.CS_SEQ : Fld := ⟨0x400E0004, 0, 64, 0, .ro, .mram, .any⟩
/-- `CS_RECORDS` [14:0], access RO, reset column MRAM. -/
def Reg.CS_RECORDS_COUNT : Fld := ⟨0x400E000C, 0, 15, 0, .ro, .mram, .any⟩
/-- `CS_DEFAULTED` [15:0], access RO, reset column 0x0000. -/
def Reg.CS_DEFAULTED_COUNT : Fld := ⟨0x400E0010, 0, 16, 0, .ro, .val, .any⟩
/-- `CS_DEFAULT_KEY` [31:0], access RO, reset column 0x0000_0000. -/
def Reg.CS_DEFAULT_KEY : Fld := ⟨0x400E0014, 0, 32, 0, .ro, .val, .any⟩
/-- `CS_STORES` [31:16], access RC, reset column 0x0000. -/
def Reg.CS_STORES_FAILED : Fld := ⟨0x400E0018, 16, 16, 0, .rc, .val, .any⟩
/-- `CS_STORES` [15:0], access RO, reset column 0x0000. -/
def Reg.CS_STORES_DONE : Fld := ⟨0x400E0018, 0, 16, 0, .ro, .val, .any⟩
/-- `CS_LOSS` [31:0], access RO, reset column MRAM. -/
def Reg.CS_LOSS : Fld := ⟨0x400E001C, 0, 32, 0, .ro, .mram, .any⟩
/-- `CS_ROLLBACK` [31:0], access RO, reset column MRAM. -/
def Reg.CS_ROLLBACK : Fld := ⟨0x400E0020, 0, 32, 0, .ro, .mram, .any⟩
/-- `CS_FAIL_ADDR` [31], access RO, reset column MRAM. -/
def Reg.CS_FAIL_ADDR_BANK : Fld := ⟨0x400E0024, 31, 1, 0, .ro, .mram, .any⟩
/-- `CS_FAIL_ADDR` [17:0], access RO, reset column MRAM. -/
def Reg.CS_FAIL_ADDR_OFFSET : Fld := ⟨0x400E0024, 0, 18, 0, .ro, .mram, .any⟩

/-- `UP_CFG` [31], access RO, reset column Caisson. -/
def Reg.UP_CFG_AUTO_FWD : Fld := ⟨0x400F0000, 31, 1, 1, .ro, .caisson, .any⟩
/-- `UP_CFG` [30], access RO, reset column Caisson. -/
def Reg.UP_CFG_AUTO_INSTALL : Fld := ⟨0x400F0000, 30, 1, 1, .ro, .caisson, .any⟩
/-- `UP_CFG` [29:28], access RO, reset column Caisson. -/
def Reg.UP_CFG_SKIP_MAX : Fld := ⟨0x400F0000, 28, 2, 1, .ro, .caisson, .any⟩
/-- `UP_CFG` [27:24], access RO, reset column Caisson. -/
def Reg.UP_CFG_WINDOW : Fld := ⟨0x400F0000, 24, 4, 4, .ro, .caisson, (.nat 1 8)⟩
/-- `UP_CFG` [15:0], access RO, reset column Caisson. -/
def Reg.UP_CFG_RATE_KIBS : Fld := ⟨0x400F0000, 0, 16, 0x800, .ro, .caisson, (.nat 64 16384)⟩
/-- `UP_STATUS` [31], access RO, reset column 0. -/
def Reg.UP_STATUS_INSTALLING : Fld := ⟨0x400F0004, 31, 1, 0, .ro, .val, .any⟩
/-- `UP_STATUS` [30:29], access RO, reset column 0b00. -/
def Reg.UP_STATUS_INSTALL_PKG : Fld := ⟨0x400F0004, 29, 2, 0, .ro, .val, .any⟩
/-- `UP_STATUS` [7], access RO, reset column MRAM. -/
def Reg.UP_STATUS_TRIAL : Fld := ⟨0x400F0004, 7, 1, 0, .ro, .mram, .any⟩
/-- `UP_STATUS` [6], access RO, reset column MRAM. -/
def Reg.UP_STATUS_ACT_PENDING : Fld := ⟨0x400F0004, 6, 1, 0, .ro, .mram, .any⟩
/-- `UP_STATUS` [3], access RO, reset column 0. -/
def Reg.UP_STATUS_FALLBACK : Fld := ⟨0x400F0004, 3, 1, 0, .ro, .val, .any⟩
/-- `UP_STATUS` [1], access RO, reset column MRAM. -/
def Reg.UP_STATUS_PREFERRED : Fld := ⟨0x400F0004, 1, 1, 0, .ro, .mram, .any⟩
/-- `UP_STATUS` [0], access RO, reset column 0. -/
def Reg.UP_STATUS_BOOTED : Fld := ⟨0x400F0004, 0, 1, 0, .ro, .val, .any⟩
/-- `UP_ROLLBACK` [22:16], access RO, reset column 0x00. -/
def Reg.UP_ROLLBACK_EFFECTIVE : Fld := ⟨0x400F0008, 16, 7, 0, .ro, .val, .any⟩
/-- `UP_ROLLBACK` [14:8], access RO, reset column Caisson. -/
def Reg.UP_ROLLBACK_COPY : Fld := ⟨0x400F0008, 8, 7, 0, .ro, .caisson, (.nat 0 64)⟩
/-- `UP_ROLLBACK` [6:0], access RO, reset column OTP. -/
def Reg.UP_ROLLBACK_FUSES : Fld := ⟨0x400F0008, 0, 7, 0, .ro, .otp, .any⟩
/-- `UP_ERR` [31:24], access RC, reset column 0x00. -/
def Reg.UP_ERR_CHUNK_BAD : Fld := ⟨0x400F000C, 24, 8, 0, .rc, .val, .any⟩
/-- `UP_ERR` [23:16], access RC, reset column 0x00. -/
def Reg.UP_ERR_RETRIES : Fld := ⟨0x400F000C, 16, 8, 0, .rc, .val, .any⟩
/-- `UP_ERR` [15:8], access RC, reset column 0x00. -/
def Reg.UP_ERR_OFFERS_REFUSED : Fld := ⟨0x400F000C, 8, 8, 0, .rc, .val, .any⟩
/-- `UP_ERR` [7:0], access RC, reset column 0x00. -/
def Reg.UP_ERR_TOPO_RESTARTS : Fld := ⟨0x400F000C, 0, 8, 0, .rc, .val, .any⟩
/-- `UP_RATE` [31:16], access RC, reset column 0x0000. -/
def Reg.UP_RATE_PEAK : Fld := ⟨0x400F0010, 16, 16, 0, .rc, .val, .any⟩
/-- `UP_RATE` [15:0], access RO, reset column 0x0000. -/
def Reg.UP_RATE_LAST : Fld := ⟨0x400F0010, 0, 16, 0, .ro, .val, .any⟩
/-- `UP_SLOT_REL_s` [31:0], access RO, reset column 0x0000_0000. -/
def Reg.UP_SLOT_REL (n : Nat) : Fld := ⟨0x400F0020 + 0x8 * n, 0, 32, 0, .ro, .val, .any⟩
/-- `UP_SLOT_INFO_s` [31], access RO, reset column 0. -/
def Reg.UP_SLOT_INFO_VALID (n : Nat) : Fld := ⟨0x400F0024 + 0x8 * n, 31, 1, 0, .ro, .val, .any⟩
/-- `UP_SLOT_INFO_s` [30], access RO, reset column MRAM. -/
def Reg.UP_SLOT_INFO_REFUSED (n : Nat) : Fld := ⟨0x400F0024 + 0x8 * n, 30, 1, 0, .ro, .mram, .any⟩
/-- `UP_SLOT_INFO_s` [27:24], access RO, reset column 0x0. -/
def Reg.UP_SLOT_INFO_REASON (n : Nat) : Fld := ⟨0x400F0024 + 0x8 * n, 24, 4, 0, .ro, .val, .any⟩
/-- `UP_SLOT_INFO_s` [23:16], access RO, reset column 0x00. -/
def Reg.UP_SLOT_INFO_PROTO (n : Nat) : Fld := ⟨0x400F0024 + 0x8 * n, 16, 8, 0, .ro, .val, .any⟩
/-- `UP_SLOT_INFO_s` [9:8], access RO, reset column 0b00. -/
def Reg.UP_SLOT_INFO_KEY (n : Nat) : Fld := ⟨0x400F0024 + 0x8 * n, 8, 2, 0, .ro, .val, .any⟩
/-- `UP_SLOT_INFO_s` [6:0], access RO, reset column 0x00. -/
def Reg.UP_SLOT_INFO_SEC (n : Nat) : Fld := ⟨0x400F0024 + 0x8 * n, 0, 7, 0, .ro, .val, .any⟩
/-- `UP_PKG_STATE_k` [31:28], access RO, reset column MRAM. -/
def Reg.UP_PKG_STATE_STATE (n : Nat) : Fld := ⟨0x400F0100 + 0x20 * n, 28, 4, 0, .ro, .mram, .any⟩
/-- `UP_PKG_STATE_k` [27:26], access RO, reset column MRAM. -/
def Reg.UP_PKG_STATE_DIR (n : Nat) : Fld := ⟨0x400F0100 + 0x20 * n, 26, 2, 0, .ro, .mram, .any⟩
/-- `UP_PKG_STATE_k` [25:24], access RO, reset column MRAM. -/
def Reg.UP_PKG_STATE_INSTALL (n : Nat) : Fld := ⟨0x400F0100 + 0x20 * n, 24, 2, 0, .ro, .mram, .any⟩
/-- `UP_PKG_STATE_k` [23], access RO, reset column MRAM. -/
def Reg.UP_PKG_STATE_ORIGIN (n : Nat) : Fld := ⟨0x400F0100 + 0x20 * n, 23, 1, 0, .ro, .mram, .any⟩
/-- `UP_PKG_STATE_k` [10:0], access RO, reset column MRAM. -/
def Reg.UP_PKG_STATE_CHUNKS (n : Nat) : Fld := ⟨0x400F0100 + 0x20 * n, 0, 11, 0, .ro, .mram, .any⟩
/-- `UP_PKG_TAG_k` [31:0], access RO, reset column MRAM. -/
def Reg.UP_PKG_TAG (n : Nat) : Fld := ⟨0x400F0104 + 0x20 * n, 0, 32, 0, .ro, .mram, .any⟩
/-- `UP_PKG_PROG_k` [26:16], access RO, reset column MRAM. -/
def Reg.UP_PKG_PROG_FWD (n : Nat) : Fld := ⟨0x400F0108 + 0x20 * n, 16, 11, 0, .ro, .mram, .any⟩
/-- `UP_PKG_PROG_k` [10:0], access RO, reset column MRAM. -/
def Reg.UP_PKG_PROG_HELD (n : Nat) : Fld := ⟨0x400F0108 + 0x20 * n, 0, 11, 0, .ro, .mram, .any⟩
/-- `UP_PKG_NEXT_k` [31], access RO, reset column MRAM. -/
def Reg.UP_PKG_NEXT_NEXT_DONE (n : Nat) : Fld := ⟨0x400F010C + 0x20 * n, 31, 1, 0, .ro, .mram, .any⟩
/-- `UP_PKG_NEXT_k` [30], access RO, reset column MRAM. -/
def Reg.UP_PKG_NEXT_PARTNER_DONE (n : Nat) : Fld := ⟨0x400F010C + 0x20 * n, 30, 1, 0, .ro, .mram, .any⟩
/-- `UP_PKG_NEXT_k` [29], access RO, reset column 0. -/
def Reg.UP_PKG_NEXT_WAITING (n : Nat) : Fld := ⟨0x400F010C + 0x20 * n, 29, 1, 0, .ro, .val, .any⟩
/-- `UP_PKG_NEXT_k` [13:8], access RO, reset column MRAM. -/
def Reg.UP_PKG_NEXT_FROM_POS (n : Nat) : Fld := ⟨0x400F010C + 0x20 * n, 8, 6, 0, .ro, .mram, .any⟩
/-- `UP_PKG_NEXT_k` [5:0], access RO, reset column MRAM. -/
def Reg.UP_PKG_NEXT_NEXT_POS (n : Nat) : Fld := ⟨0x400F010C + 0x20 * n, 0, 6, 0, .ro, .mram, .any⟩
/-- `UP_PKG_REL_k` [31:0], access RO, reset column MRAM. -/
def Reg.UP_PKG_REL (n : Nat) : Fld := ⟨0x400F0110 + 0x20 * n, 0, 32, 0, .ro, .mram, .any⟩

/-- `HM_STATUS` [15:8], access RO, reset column 0x00. -/
def Reg.HM_STATUS_ROUND : Fld := ⟨0x40100000, 8, 8, 0, .ro, .val, .any⟩
/-- `HM_STATUS` [4], access RO, reset column 0. -/
def Reg.HM_STATUS_HOLDUP : Fld := ⟨0x40100000, 4, 1, 0, .ro, .val, .any⟩
/-- `HM_STATUS` [3], access W1C, reset column 0. -/
def Reg.HM_STATUS_THR_REJ : Fld := ⟨0x40100000, 3, 1, 0, .w1c, .val, .any⟩
/-- `HM_STATUS` [2], access RO, reset column 0. -/
def Reg.HM_STATUS_SELF_FAIL : Fld := ⟨0x40100000, 2, 1, 0, .ro, .val, .any⟩
/-- `HM_STATUS` [1], access RO, reset column 0. -/
def Reg.HM_STATUS_ANY_ALARM : Fld := ⟨0x40100000, 1, 1, 0, .ro, .val, .any⟩
/-- `HM_STATUS` [0], access RO, reset column 0. -/
def Reg.HM_STATUS_ANY_WARN : Fld := ⟨0x40100000, 0, 1, 0, .ro, .val, .any⟩
/-- `HM_WARN` [27:22], access HM_WARN, reset column 0. -/
def Reg.HM_WARN_PROC : Fld := ⟨0x40100004, 22, 6, 0, .w1c, .val, .any⟩
/-- `HM_WARN` [21:8], access as PROC, reset column 0. -/
def Reg.HM_WARN_VOLT : Fld := ⟨0x40100004, 8, 14, 0, .w1c, .val, .any⟩
/-- `HM_WARN` [7:0], access as PROC, reset column 0. -/
def Reg.HM_WARN_TEMP : Fld := ⟨0x40100004, 0, 8, 0, .w1c, .val, .any⟩
/-- `HM_ALARM` [27:22], access HM_WARN, reset column 0. -/
def Reg.HM_ALARM_PROC : Fld := ⟨0x40100008, 22, 6, 0, .ro, .val, .any⟩
/-- `HM_ALARM` [21:8], access as PROC, reset column 0. -/
def Reg.HM_ALARM_VOLT : Fld := ⟨0x40100008, 8, 14, 0, .ro, .val, .any⟩
/-- `HM_ALARM` [7:0], access as PROC, reset column 0. -/
def Reg.HM_ALARM_TEMP : Fld := ⟨0x40100008, 0, 8, 0, .ro, .val, .any⟩
/-- `HM_LIVE` [27:22], access HM_WARN, reset column 0. -/
def Reg.HM_LIVE_PROC : Fld := ⟨0x4010000C, 22, 6, 0, .ro, .val, .any⟩
/-- `HM_LIVE` [21:8], access as PROC, reset column 0. -/
def Reg.HM_LIVE_VOLT : Fld := ⟨0x4010000C, 8, 14, 0, .ro, .val, .any⟩
/-- `HM_LIVE` [7:0], access as PROC, reset column 0. -/
def Reg.HM_LIVE_TEMP : Fld := ⟨0x4010000C, 0, 8, 0, .ro, .val, .any⟩
/-- `HM_CTRL` [1], access RW, reset column Caisson. -/
def Reg.HM_CTRL_PROC_EN : Fld := ⟨0x40100010, 1, 1, 0, .rw, .caisson, .any⟩
/-- `HM_CTRL` [0], access RW, reset column Caisson. -/
def Reg.HM_CTRL_WARN_NOTIFY : Fld := ⟨0x40100010, 0, 1, 0, .rw, .caisson, .any⟩
/-- `HM_TEMP_n` [31:16], access RC, reset column 0x8000. -/
def Reg.HM_TEMP_PEAK (n : Nat) : Fld := ⟨0x40100100 + 0x4 * n, 16, 16, 0x8000, .rc, .val, .any⟩
/-- `HM_TEMP_n` [15:0], access RO, reset column 0x0000. -/
def Reg.HM_TEMP_NOW (n : Nat) : Fld := ⟨0x40100100 + 0x4 * n, 0, 16, 0, .ro, .val, .any⟩
/-- `HM_TLIM_n` [23:16], access RW, reset column Caisson. -/
def Reg.HM_TLIM_HYST (n : Nat) : Fld := ⟨0x40100140 + 0x4 * n, 16, 8, 5, .rw, .caisson, (.nat 1 20)⟩
/-- `HM_TLIM_n` [15:8], access RO, reset column R64. -/
def Reg.HM_TLIM_ALARM (n : Nat) : Fld := ⟨0x40100140 + 0x4 * n, 8, 8, (([125, 125, 125, 125, 125, 125, 105, 105] : List Nat).getD n 0), .ro, .fixed, .any⟩
/-- `HM_TLIM_n` [7:0], access RW, reset column Caisson. -/
def Reg.HM_TLIM_WARN (n : Nat) : Fld := ⟨0x40100140 + 0x4 * n, 0, 8, (([115, 115, 115, 115, 115, 115, 95, 95] : List Nat).getD n 0), .rw, .caisson, (([.sgn (60) (120), .sgn (60) (120), .sgn (60) (120), .sgn (60) (120), .sgn (60) (120), .sgn (60) (120), .sgn (50) (100), .sgn (50) (100)] : List Rng).getD n .any)⟩
/-- `HM_VOLT_n` [31:16], access RC, reset column 0xFFFF. -/
def Reg.HM_VOLT_MIN (n : Nat) : Fld := ⟨0x40100200 + 0x4 * n, 16, 16, 0xFFFF, .rc, .val, .any⟩
/-- `HM_VOLT_n` [15:0], access RO, reset column 0x0000. -/
def Reg.HM_VOLT_NOW (n : Nat) : Fld := ⟨0x40100200 + 0x4 * n, 0, 16, 0, .ro, .val, .any⟩
/-- `HM_VLIM_n` [31:16], access RW, reset column Caisson. -/
def Reg.HM_VLIM_WARN_HI (n : Nat) : Fld := ⟨0x40100240 + 0x4 * n, 16, 16, (([16000, 824, 824, 824, 824, 824, 824, 1133, 1133, 1133, 1133, 1854, 3399, 30000] : List Nat).getD n 0), .rw, .caisson, (([.nat 15000 16500, .nat 816 840, .nat 816 840, .nat 816 840, .nat 816 840, .nat 816 840, .nat 816 840, .nat 1122 1155, .nat 1122 1155, .nat 1122 1155, .nat 1122 1155, .nat 1836 1890, .nat 3366 3465, .nat 29000 31000] : List Rng).getD n .any)⟩
/-- `HM_VLIM_n` [15:0], access RW, reset column Caisson. -/
def Reg.HM_VLIM_WARN_LO (n : Nat) : Fld := ⟨0x40100240 + 0x4 * n, 0, 16, (([9500, 776, 776, 776, 776, 776, 776, 1067, 1067, 1067, 1067, 1746, 3201, 22400] : List Nat).getD n 0), .rw, .caisson, (([.nat 9000 11000, .nat 760 784, .nat 760 784, .nat 760 784, .nat 760 784, .nat 760 784, .nat 760 784, .nat 1045 1078, .nat 1045 1078, .nat 1045 1078, .nat 1045 1078, .nat 1710 1764, .nat 3135 3234, .nat 20000 26000] : List Rng).getD n .any)⟩
/-- `HM_PROC_n` [31:16], access RO, reset column factory. -/
def Reg.HM_PROC_BASE (n : Nat) : Fld := ⟨0x40100300 + 0x4 * n, 16, 16, 0, .ro, .factory, .any⟩
/-- `HM_PROC_n` [15:0], access RO, reset column 0x0000. -/
def Reg.HM_PROC_COUNT (n : Nat) : Fld := ⟨0x40100300 + 0x4 * n, 0, 16, 0, .ro, .val, .any⟩
/-- `HM_PLIM` [7:0], access RW, reset column Caisson. -/
def Reg.HM_PLIM_WARN_PCT : Fld := ⟨0x40100340, 0, 8, 0x5C, .rw, .caisson, (.nat 85 97)⟩

/-- `CKR_STATUS` [31:16], access W1C, reset column 0x0000. -/
def Reg.CKR_STATUS_LOST : Fld := ⟨0x40110000, 16, 16, 0, .w1c, .val, .any⟩
/-- `CKR_STATUS` [15:0], access RO, reset column 0x0000. -/
def Reg.CKR_STATUS_CLK_OK : Fld := ⟨0x40110000, 0, 16, 0, .ro, .val, .any⟩
/-- `CKR_OVR` [23:0], access W1C, reset column 0x00_0000. -/
def Reg.CKR_OVR_OVR : Fld := ⟨0x40110004, 0, 24, 0, .w1c, .val, .any⟩
/-- `CKR_RST_HS` [23:0], access RO, reset column 0x00_0000. -/
def Reg.CKR_RST_HS_BUSY : Fld := ⟨0x40110008, 0, 24, 0, .ro, .val, .any⟩
/-- `CKR_RST_CNT` [31:16], access RC, reset column 0x0000. -/
def Reg.CKR_RST_CNT_DROPPED : Fld := ⟨0x4011000C, 16, 16, 0, .rc, .val, .any⟩
/-- `CKR_RST_CNT` [15:0], access RO, reset column 0x0000. -/
def Reg.CKR_RST_CNT_HANDSHAKES : Fld := ⟨0x4011000C, 0, 16, 0, .ro, .val, .any⟩
/-- `CKR_SNAP_CTL` [31], access W1S, reset column 0. -/
def Reg.CKR_SNAP_CTL_GO : Fld := ⟨0x40110010, 31, 1, 0, .w1s, .val, .any⟩
/-- `CKR_SNAP_CTL` [30], access RO, reset column 0. -/
def Reg.CKR_SNAP_CTL_DONE : Fld := ⟨0x40110010, 30, 1, 0, .ro, .val, .any⟩
/-- `CKR_SNAP_CTL` [15:0], access RW, reset column 0xFFFF. -/
def Reg.CKR_SNAP_CTL_DOMAINS : Fld := ⟨0x40110010, 0, 16, 0xFFFF, .rw, .val, .any⟩
/-- `CKR_SNAP_TIME` [31:0] (64 bits with its upper half), access RO, reset column 0x0000_0000. -/
def Reg.CKR_SNAP_TIME : Fld := ⟨0x40110018, 0, 64, 0, .ro, .val, .any⟩
/-- `CKR_DOM_d` [31], access RO, reset column 0. -/
def Reg.CKR_DOM_OK (n : Nat) : Fld := ⟨0x40110100 + 0x4 * n, 31, 1, 0, .ro, .val, .any⟩
/-- `CKR_DOM_d` [30], access W1C, reset column 0. -/
def Reg.CKR_DOM_LOST (n : Nat) : Fld := ⟨0x40110100 + 0x4 * n, 30, 1, 0, .w1c, .val, .any⟩
/-- `CKR_DOM_d` [27:0], access RO, reset column 0x000_0000. -/
def Reg.CKR_DOM_FREQ (n : Nat) : Fld := ⟨0x40110100 + 0x4 * n, 0, 28, 0, .ro, .val, .any⟩
/-- `CKR_OVR_CNT_c` [15:0], access RC, reset column 0x0000. -/
def Reg.CKR_OVR_CNT_COUNT (n : Nat) : Fld := ⟨0x40110200 + 0x4 * n, 0, 16, 0, .rc, .val, .any⟩
/-- `CKR_SNAP_CYC_d` [31:0] (64 bits with its upper half), access RO, reset column 0x0000_0000. -/
def Reg.CKR_SNAP_CYC (n : Nat) : Fld := ⟨0x40110300 + 0x8 * n, 0, 64, 0, .ro, .val, .any⟩

/-- `HI_EVW_CURSOR` [31:0] (64 bits with its upper half), access RW, reset column OLDEST. -/
def Reg.HI_EVW_CURSOR : Fld := ⟨0xB2400000, 0, 64, 0, .rw, .val, .any⟩
/-- `HI_EVW_OLDEST` [31:0] (64 bits with its upper half), access RO, reset column MRAM. -/
def Reg.HI_EVW_OLDEST : Fld := ⟨0xB2400008, 0, 64, 0, .ro, .mram, .any⟩
/-- `HI_EVW_NEXT` [31:0] (64 bits with its upper half), access RO, reset column MRAM. -/
def Reg.HI_EVW_NEXT : Fld := ⟨0xB2400010, 0, 64, 0, .ro, .mram, .any⟩
/-- `HI_EVW_STATUS` [31:16], access RC, reset column 0x0000. -/
def Reg.HI_EVW_STATUS_SKIPPED : Fld := ⟨0xB2400018, 16, 16, 0, .rc, .val, .any⟩
/-- `HI_EVW_STATUS` [1], access W1C, reset column 0. -/
def Reg.HI_EVW_STATUS_CLAMPED : Fld := ⟨0xB2400018, 1, 1, 0, .w1c, .val, .any⟩
/-- `HI_EVW_STATUS` [0], access RO, reset column 1. -/
def Reg.HI_EVW_STATUS_EMPTY : Fld := ⟨0xB2400018, 0, 1, 1, .ro, .val, .any⟩
/-- `HI_EVW_PEEK` [31:0], access RO (PEEK), RO with advance (READ), reset column 0x0000_0000. -/
def Reg.HI_EVW_PEEK (n : Nat) : Fld := ⟨0xB2400040 + 0x4 * n, 0, 32, 0, .ro, .val, .any⟩
/-- `HI_EVW_READ` [31:0], access RO (PEEK), RO with advance (READ), reset column 0x0000_0000. -/
def Reg.HI_EVW_READ (n : Nat) : Fld := ⟨0xB2400080 + 0x4 * n, 0, 32, 0, .ro, .val, .any⟩
/-- `HI_JW_SEL` [31:0] (64 bits with its upper half), access RW, reset column 0x0000_0000. -/
def Reg.HI_JW_SEL : Fld := ⟨0xB2401000, 0, 64, 0, .rw, .val, .any⟩
/-- `HI_JW_STATUS` [7], access RO, reset column 0. -/
def Reg.HI_JW_STATUS_HAS_FINAL : Fld := ⟨0xB2401008, 7, 1, 0, .ro, .val, .any⟩
/-- `HI_JW_STATUS` [6], access RO, reset column 0. -/
def Reg.HI_JW_STATUS_PARTNER_ORIGIN : Fld := ⟨0xB2401008, 6, 1, 0, .ro, .val, .any⟩
/-- `HI_JW_STATUS` [5:3], access RO, reset column 0b000. -/
def Reg.HI_JW_STATUS_RING : Fld := ⟨0xB2401008, 3, 3, 0, .ro, .val, .any⟩
/-- `HI_JW_STATUS` [2:0], access RO, reset column 0b000. -/
def Reg.HI_JW_STATUS_KIND : Fld := ⟨0xB2401008, 0, 3, 0, .ro, .val, .any⟩
/-- `HI_JW_FINAL` [31:0] (64 bits with its upper half), access RO, reset column 0x0000_0000. -/
def Reg.HI_JW_FINAL : Fld := ⟨0xB2401010, 0, 64, 0, .ro, .val, .any⟩
/-- `HI_JW_ENTRY` [31:0], access RO, reset column 0x0000_0000. -/
def Reg.HI_JW_ENTRY (n : Nat) : Fld := ⟨0xB2401040 + 0x4 * n, 0, 32, 0, .ro, .val, .any⟩
/-- `HI_JW_NEXT` [31:0], access RC, reset column 0x0000_0000. -/
def Reg.HI_JW_NEXT : Fld := ⟨0xB2401080, 0, 32, 0, .rc, .val, .any⟩
/-- `HI_VW_ID` [17:0], access RW, reset column 0x0_0000. -/
def Reg.HI_VW_ID_ID : Fld := ⟨0xB2402000, 0, 18, 0, .rw, .val, .any⟩
/-- `HI_VW_VALUE` [31:0] (64 bits with its upper half), access RO, reset column 0x0000_0000. -/
def Reg.HI_VW_VALUE : Fld := ⟨0xB2402008, 0, 64, 0, .ro, .val, .any⟩
/-- `HI_VW_STATUS` [19:16], access RO, reset column 0x0. -/
def Reg.HI_VW_STATUS_CLASS : Fld := ⟨0xB2402010, 16, 4, 0, .ro, .val, .any⟩
/-- `HI_VW_STATUS` [3:2], access RO, reset column 0b00. -/
def Reg.HI_VW_STATUS_AGREE : Fld := ⟨0xB2402010, 2, 2, 0, .ro, .val, .any⟩
/-- `HI_VW_STATUS` [1], access RO, reset column 0. -/
def Reg.HI_VW_STATUS_FORCED : Fld := ⟨0xB2402010, 1, 1, 0, .ro, .val, .any⟩
/-- `HI_VW_STATUS` [0], access RO, reset column 0. -/
def Reg.HI_VW_STATUS_VALID : Fld := ⟨0xB2402010, 0, 1, 0, .ro, .val, .any⟩
/-- `HI_VW_LIST_k` [17:0], access RW, reset column 0x0_0000. -/
def Reg.HI_VW_LIST_ID (n : Nat) : Fld := ⟨0xB2402100 + 0x4 * n, 0, 18, 0, .rw, .val, .any⟩
/-- `HI_VW_LIST_CTL` [23:16], access RW, reset column 0x00. -/
def Reg.HI_VW_LIST_CTL_POS : Fld := ⟨0xB2402500, 16, 8, 0, .rw, .val, .any⟩
/-- `HI_VW_LIST_CTL` [8:0], access RW, reset column 0x000. -/
def Reg.HI_VW_LIST_CTL_LEN : Fld := ⟨0xB2402500, 0, 9, 0, .rw, .val, .any⟩
/-- `HI_VW_LIST` [31:0] (64 bits with its upper half), access RO; _HI with advance, reset column 0x0000_0000. -/
def Reg.HI_VW_LIST : Fld := ⟨0xB2402508, 0, 64, 0, .ro, .val, .any⟩

/-- The registers of block MCTL (R523). -/
def regTableMCTL : List RegDesc := [
  ⟨0x40000000, false, 0, 1, 0, 1, 0, false, fun _ _ _ => [Reg.MCTL_IDENT_DEVICE, Reg.MCTL_IDENT_HW_REV, Reg.MCTL_IDENT_VARIANT]⟩,
  ⟨0x40000004, false, 0, 1, 0, 1, 0, false, fun _ _ _ => [Reg.MCTL_MODE_MODE_SEQ, Reg.MCTL_MODE_DEGRADED, Reg.MCTL_MODE_PIERS, Reg.MCTL_MODE_ROLE, Reg.MCTL_MODE_PREV, Reg.MCTL_MODE_MODE]⟩,
  ⟨0x40000008, false, 0, 1, 0, 1, 0, false, fun _ _ _ => [Reg.MCTL_CFG_WARM_EN, Reg.MCTL_CFG_COMMISSION_EN, Reg.MCTL_CFG_RUN_2OO2, Reg.MCTL_CFG_DUPLEX, Reg.MCTL_CFG_AUTORUN]⟩,
  ⟨0x4000000C, false, 0, 1, 0, 1, 0, false, fun _ _ _ => [Reg.MCTL_SAFE_CAUSE_DETAIL, Reg.MCTL_SAFE_CAUSE_CAUSE]⟩,
  ⟨0x40000010, false, 0, 1, 0, 1, 0, false, fun _ _ _ => [Reg.MCTL_BOOT_PIER_FAIL, Reg.MCTL_BOOT_WARM, Reg.MCTL_BOOT_FALLBACK, Reg.MCTL_BOOT_SLOT, Reg.MCTL_BOOT_STEP]⟩,
  ⟨0x40000014, false, 0, 1, 0, 1, 0, false, fun _ _ _ => [Reg.MCTL_RESET_CAUSE_CMD_COUNT, Reg.MCTL_RESET_CAUSE_EXT_COUNT, Reg.MCTL_RESET_CAUSE_KIND]⟩,
  ⟨0x40000018, false, 0, 1, 0, 1, 0, false, fun _ _ _ => [Reg.MCTL_RESET_KEY, Reg.MCTL_RESET_KIND]⟩,
  ⟨0x4000001C, false, 0, 1, 0, 1, 0, false, fun _ _ _ => [Reg.MCTL_PINS_SAFE_OUT, Reg.MCTL_PINS_STANDBY, Reg.MCTL_PINS_ALIVE, Reg.MCTL_PINS_PEER_STANDBY, Reg.MCTL_PINS_PEER_ALIVE, Reg.MCTL_PINS_POS, Reg.MCTL_PINS_SVC_PERMIT]⟩,
  ⟨0x40000020, false, 0, 1, 0, 1, 0, false, fun _ _ _ => [Reg.MCTL_POWER_CYCLES]⟩,
  ⟨0x40000024, false, 0, 1, 0, 1, 0, false, fun _ _ _ => [Reg.MCTL_OP_SECONDS]⟩,
  ⟨0x40000028, false, 0, 1, 0, 1, 0, false, fun _ _ _ => [Reg.MCTL_BOOT_TIME_TO_RUN_MS, Reg.MCTL_BOOT_TIME_TO_READY_MS]⟩]

/-- The registers of block KS (R523). -/
def regTableKS : List RegDesc := [
  ⟨0x40010000, false, 0, 1, 0, 1, 0, false, fun _ _ _ => [Reg.KS_CFG_DONOR_PREF, Reg.KS_CFG_RESYNC_EN, Reg.KS_CFG_SKEW_US]⟩,
  ⟨0x40010004, false, 0, 1, 0, 1, 0, false, fun _ _ _ => [Reg.KS_STATUS_ISOLATED, Reg.KS_STATUS_FROZEN, Reg.KS_STATUS_HALF_OK, Reg.KS_STATUS_IN_SERVICE, Reg.KS_STATUS_RESYNC_PHASE, Reg.KS_STATUS_OPEN_MAX]⟩,
  ⟨0x40010008, false, 0, 1, 0, 1, 0, false, fun _ _ _ => [Reg.KS_VERDICT_LAST_CLASS, Reg.KS_VERDICT_LAST_KIND, Reg.KS_VERDICT_LAST_ODD, Reg.KS_VERDICT_LAST_NO_WINDOW, Reg.KS_VERDICT_LAST_PART]⟩,
  ⟨0x4001000C, false, 0, 1, 0, 1, 0, true, fun _ _ _ => [Reg.KS_VERDICT_CYC]⟩,
  ⟨0x40010014, false, 0, 1, 0, 1, 0, false, fun _ _ _ => [Reg.KS_VERDICT_SEQ]⟩,
  ⟨0x40010018, false, 0, 1, 0, 1, 0, false, fun _ _ _ => [Reg.KS_ODD_COUNT_C, Reg.KS_ODD_COUNT_B, Reg.KS_ODD_COUNT_A]⟩,
  ⟨0x4001001C, false, 0, 1, 0, 1, 0, false, fun _ _ _ => [Reg.KS_ODD_HOUR_C, Reg.KS_ODD_HOUR_B, Reg.KS_ODD_HOUR_A]⟩,
  ⟨0x40010020, false, 0, 1, 0, 1, 0, true, fun _ _ _ => [Reg.KS_WIN_COUNT]⟩,
  ⟨0x40010028, false, 0, 1, 0, 1, 0, false, fun _ _ _ => [Reg.KS_REQ_DISCARD_LEASE, Reg.KS_REQ_DISCARD_VERDICT]⟩,
  ⟨0x40010038, false, 0, 1, 0, 1, 0, false, fun _ _ _ => [Reg.KS_REQ_DISCARD_MODE_MODE]⟩,
  ⟨0x4001002C, false, 0, 1, 0, 1, 0, false, fun _ _ _ => [Reg.KS_MINORITY_COUNT_MAILBOX_LATE, Reg.KS_MINORITY_COUNT_OUTBOUND]⟩,
  ⟨0x40010030, false, 0, 1, 0, 1, 0, false, fun _ _ _ => [Reg.KS_LATE_SIG_LATE_DIFF, Reg.KS_LATE_SIG_LATE_MATCH]⟩,
  ⟨0x40010034, false, 0, 1, 0, 1, 0, false, fun _ _ _ => [Reg.KS_OPEN_C, Reg.KS_OPEN_B, Reg.KS_OPEN_A]⟩,
  ⟨0x40010040, false, 0, 1, 0, 1, 0, false, fun _ _ _ => [Reg.KS_RESYNC_CFG_LIMIT_S, Reg.KS_RESYNC_CFG_FINAL_PAGES, Reg.KS_RESYNC_CFG_COPY_SHARE]⟩,
  ⟨0x40010044, false, 0, 1, 0, 1, 0, false, fun _ _ _ => [Reg.KS_RESYNC_STATUS_SHARE_REJ, Reg.KS_RESYNC_STATUS_RESULT, Reg.KS_RESYNC_STATUS_TARGET, Reg.KS_RESYNC_STATUS_DONOR, Reg.KS_RESYNC_STATUS_PHASE, Reg.KS_RESYNC_STATUS_PASS, Reg.KS_RESYNC_STATUS_ATTEMPT]⟩,
  ⟨0x40010048, false, 0, 1, 0, 1, 0, false, fun _ _ _ => [Reg.KS_RESYNC_DIRTY_PAGES]⟩,
  ⟨0x4001004C, false, 0, 1, 0, 1, 0, false, fun _ _ _ => [Reg.KS_RESYNC_COPIED]⟩,
  ⟨0x40010050, false, 0, 1, 0, 1, 0, false, fun _ _ _ => [Reg.KS_RESYNC_TIME]⟩,
  ⟨0x40010054, false, 0, 1, 0, 1, 0, false, fun _ _ _ => [Reg.KS_RESYNC_BLOCKS_CHECKED, Reg.KS_RESYNC_BLOCKS_COPIED]⟩,
  ⟨0x40010060, false, 0, 2, 4, 1, 0, false, fun _ n _ => [Reg.KS_HALF_PARITY n, Reg.KS_HALF_TRANSIENTS n, Reg.KS_HALF_ONLINE_OK n, Reg.KS_HALF_SELFTEST_RUN n, Reg.KS_HALF_SELFTEST_PASS n, Reg.KS_HALF_BROKEN n]⟩,
  ⟨0x40010068, false, 0, 1, 0, 1, 0, false, fun _ _ _ => [Reg.KS_HALF_DISAGREE_COUNT]⟩,
  ⟨0x4001006C, false, 0, 1, 0, 1, 0, false, fun _ _ _ => [Reg.KS_ONLINE_COUNT]⟩,
  ⟨0x40010080, false, 0, 1, 0, 1, 0, false, fun _ _ _ => [Reg.KS_PAIR_STATE_UNIT]⟩,
  ⟨0x40010084, false, 1, 6, 4, 1, 0, false, fun _ n _ => [Reg.KS_PAIR_MISMATCHES n, Reg.KS_PAIR_TRANSIENTS n, Reg.KS_PAIR_HOUR n]⟩,
  ⟨0x40010100, false, 0, 16, 4, 1, 0, false, fun _ n _ => [Reg.KS_START_SKEW_LAST n, Reg.KS_START_SKEW_MAX n]⟩,
  ⟨0x40010140, false, 0, 16, 4, 1, 0, false, fun _ n _ => [Reg.KS_WIN_SKEW_MAX n]⟩]

/-- The registers of block CYC (R523). -/
def regTableCYC : List RegDesc := [
  ⟨0x40020000, false, 0, 1, 0, 1, 0, false, fun _ _ _ => [Reg.CYC_CFG_STATIONS, Reg.CYC_CFG_SNAP_EN, Reg.CYC_CFG_SNAP_CLASS]⟩,
  ⟨0x40020004, false, 0, 1, 0, 1, 0, false, fun _ _ _ => [Reg.CYC_STATUS_ACTIVE, Reg.CYC_STATUS_TICK_VALID, Reg.CYC_STATUS_STATE]⟩,
  ⟨0x40020008, false, 0, 1, 0, 1, 0, true, fun _ _ _ => [Reg.CYC_TICK]⟩,
  ⟨0x40020010, false, 0, 1, 0, 1, 0, true, fun _ _ _ => [Reg.CYC_VTICK]⟩,
  ⟨0x40020018, false, 0, 1, 0, 1, 0, false, fun _ _ _ => [Reg.CYC_STEP_REMAIN, Reg.CYC_STEP_CLASS]⟩,
  ⟨0x4002001C, false, 0, 1, 0, 1, 0, false, fun _ _ _ => [Reg.CYC_BRK_EN, Reg.CYC_BRK_CLASS]⟩,
  ⟨0x40020020, false, 0, 1, 0, 1, 0, true, fun _ _ _ => [Reg.CYC_BRK_CYC]⟩,
  ⟨0x40020028, false, 0, 1, 0, 1, 0, false, fun _ _ _ => [Reg.CYC_OVR_LAST_CLASS, Reg.CYC_OVR_LAST_PIERS, Reg.CYC_OVR_LAST_KIND]⟩,
  ⟨0x4002002C, false, 0, 1, 0, 1, 0, true, fun _ _ _ => [Reg.CYC_OVR_CYC]⟩,
  ⟨0x40020034, false, 0, 1, 0, 1, 0, false, fun _ _ _ => [Reg.CYC_LAUNCH_LATE_COUNT]⟩,
  ⟨0x40020100, false, 0, 16, 32, 1, 0, false, fun _ n _ => [Reg.CYC_CLS_CFG_EN n, Reg.CYC_CLS_CFG_COUPLED n, Reg.CYC_CLS_CFG_DO_AT_LAUNCH n, Reg.CYC_CLS_CFG_CORES n, Reg.CYC_CLS_CFG_PERIOD n]⟩,
  ⟨0x40020104, false, 0, 16, 32, 1, 0, false, fun _ n _ => [Reg.CYC_CLS_OFFSET_OFFSET n]⟩,
  ⟨0x40020108, false, 0, 16, 32, 1, 0, false, fun _ n _ => [Reg.CYC_CLS_LAUNCH_LAUNCH n]⟩,
  ⟨0x4002010C, false, 0, 16, 32, 1, 0, true, fun _ n _ => [Reg.CYC_CLS_CYC n]⟩,
  ⟨0x40020114, false, 0, 16, 32, 1, 0, false, fun _ n _ => [Reg.CYC_CLS_TIME_MAX n, Reg.CYC_CLS_TIME_LAST n]⟩,
  ⟨0x40020118, false, 0, 16, 32, 1, 0, false, fun _ n _ => [Reg.CYC_CLS_OVR_PIER n, Reg.CYC_CLS_OVR_LATE n]⟩,
  ⟨0x4002011C, false, 0, 16, 32, 1, 0, false, fun _ n _ => [Reg.CYC_CLS_STN_LOST n, Reg.CYC_CLS_STN_STATIONS n]⟩,
  ⟨0x40020400, false, 0, 32, 4, 1, 0, false, fun _ n _ => [Reg.CYC_STN_LOST n]⟩,
  ⟨0x40020480, false, 0, 32, 4, 1, 0, false, fun _ n _ => [Reg.CYC_STN_AGED n]⟩]

/-- The registers of block TU (R523). -/
def regTableTU : List RegDesc := [
  ⟨0x40030000, false, 0, 1, 0, 1, 0, false, fun _ _ _ => [Reg.TU_CFG_PORT_EN, Reg.TU_CFG_TRANSPORT, Reg.TU_CFG_DOMAIN, Reg.TU_CFG_PROFILE, Reg.TU_CFG_SOURCE]⟩,
  ⟨0x40030004, false, 0, 1, 0, 1, 0, false, fun _ _ _ => [Reg.TU_PRIO_CLOCK_CLASS, Reg.TU_PRIO_PRIORITY2, Reg.TU_PRIO_PRIORITY1]⟩,
  ⟨0x40030008, false, 0, 1, 0, 1, 0, false, fun _ _ _ => [Reg.TU_INTERVAL_ANN_TIMEOUT, Reg.TU_INTERVAL_LOG_DELAY, Reg.TU_INTERVAL_LOG_ANNOUNCE, Reg.TU_INTERVAL_LOG_SYNC]⟩,
  ⟨0x4003000C, false, 0, 1, 0, 1, 0, false, fun _ _ _ => [Reg.TU_STATUS_OFFSET_VALID, Reg.TU_STATUS_SLAVE_PORT, Reg.TU_STATUS_THR_REJ, Reg.TU_STATUS_HOLD_PD, Reg.TU_STATUS_GM, Reg.TU_STATUS_VALID, Reg.TU_STATUS_STATE]⟩,
  ⟨0x40030010, false, 0, 1, 0, 1, 0, false, fun _ _ _ => [Reg.TU_SLEW_LIMIT_LIMIT]⟩,
  ⟨0x40030014, false, 0, 1, 0, 1, 0, false, fun _ _ _ => [Reg.TU_JUMP_THRESH_US]⟩,
  ⟨0x40030018, false, 0, 1, 0, 1, 0, false, fun _ _ _ => [Reg.TU_PD_STEP_HOLD_N, Reg.TU_PD_STEP_STEP_NS]⟩,
  ⟨0x40030020, false, 0, 1, 0, 1, 0, true, fun _ _ _ => [Reg.TU_SCHED]⟩,
  ⟨0x40030028, false, 0, 1, 0, 1, 0, true, fun _ _ _ => [Reg.TU_TRAIN]⟩,
  ⟨0x40030030, false, 0, 1, 0, 1, 0, true, fun _ _ _ => [Reg.TU_EPOCH]⟩,
  ⟨0x40030038, false, 0, 1, 0, 1, 0, false, fun _ _ _ => [Reg.TU_EPOCH_NUM]⟩,
  ⟨0x40030040, false, 0, 1, 0, 1, 0, false, fun _ _ _ => [Reg.TU_OFFSET]⟩,
  ⟨0x40030044, false, 0, 1, 0, 1, 0, false, fun _ _ _ => [Reg.TU_FREQ]⟩,
  ⟨0x40030048, false, 0, 1, 0, 1, 0, false, fun _ _ _ => [Reg.TU_SLEW_NOW]⟩,
  ⟨0x4003004C, false, 0, 1, 0, 1, 0, false, fun _ _ _ => [Reg.TU_PATH_DELAY]⟩,
  ⟨0x40030050, false, 0, 1, 0, 1, 0, true, fun _ _ _ => [Reg.TU_GM_ID]⟩,
  ⟨0x40030058, false, 0, 1, 0, 1, 0, false, fun _ _ _ => [Reg.TU_HOLDOVER]⟩,
  ⟨0x4003005C, false, 0, 1, 0, 1, 0, false, fun _ _ _ => [Reg.TU_SAMPLES_OUTLIERS, Reg.TU_SAMPLES_PD_STEPS]⟩,
  ⟨0x40030100, false, 0, 6, 64, 1, 0, false, fun _ n _ => [Reg.TU_PORT_STATE_LINK n, Reg.TU_PORT_STATE_PD_VALID n, Reg.TU_PORT_STATE_PORT_STATE n]⟩,
  ⟨0x40030104, false, 0, 6, 64, 1, 0, false, fun _ n _ => [Reg.TU_PORT_PD n]⟩,
  ⟨0x40030108, false, 0, 6, 64, 1, 0, false, fun _ n _ => [Reg.TU_PORT_TXLAT_LAT_100M n, Reg.TU_PORT_TXLAT_LAT_1G n]⟩,
  ⟨0x4003010C, false, 0, 6, 64, 1, 0, false, fun _ n _ => [Reg.TU_PORT_RXLAT_LAT_100M n, Reg.TU_PORT_RXLAT_LAT_1G n]⟩,
  ⟨0x40030110, false, 0, 6, 64, 1, 0, false, fun _ n _ => [Reg.TU_ASYM n]⟩,
  ⟨0x40030114, false, 0, 6, 64, 1, 0, false, fun _ n _ => [Reg.TU_LAUNCH_POLICY n, Reg.TU_LAUNCH_LATE_TOL n]⟩,
  ⟨0x40030118, false, 0, 6, 64, 1, 0, false, fun _ n _ => [Reg.TU_LAUNCH_CNT_DROPPED n, Reg.TU_LAUNCH_CNT_LATE n]⟩,
  ⟨0x4003011C, false, 0, 6, 64, 1, 0, false, fun _ n _ => [Reg.TU_TXTS_STATUS_OVF_COUNT n, Reg.TU_TXTS_STATUS_OVF n, Reg.TU_TXTS_STATUS_COUNT n]⟩,
  ⟨0x40030120, false, 0, 6, 64, 1, 0, false, fun _ n _ => [Reg.TU_TXTS_ID_VALID n, Reg.TU_TXTS_ID_ID n]⟩,
  ⟨0x40030124, false, 0, 6, 64, 1, 0, true, fun _ n _ => [Reg.TU_TXTS n]⟩]

/-- The registers of block TE (R523). -/
def regTableTE : List RegDesc := [
  ⟨0x40040000, false, 0, 1, 0, 1, 0, false, fun _ _ _ => [Reg.TE_CFG_MD_DEPTH, Reg.TE_CFG_PUBS]⟩,
  ⟨0x40040004, false, 0, 1, 0, 1, 0, false, fun _ _ _ => [Reg.TE_SUBS_SUBS]⟩,
  ⟨0x40040008, false, 0, 1, 0, 1, 0, false, fun _ _ _ => [Reg.TE_STATUS_RNAT, Reg.TE_STATUS_CONSISTS, Reg.TE_STATUS_OWN_POS, Reg.TE_STATUS_INAUG, Reg.TE_STATUS_ORIENT]⟩,
  ⟨0x4004000C, false, 0, 1, 0, 1, 0, false, fun _ _ _ => [Reg.TE_ETB_TOPO]⟩,
  ⟨0x40040010, false, 0, 1, 0, 1, 0, false, fun _ _ _ => [Reg.TE_OPTRN_TOPO]⟩,
  ⟨0x40040014, false, 0, 1, 0, 1, 0, false, fun _ _ _ => [Reg.TE_LOAD_MAX, Reg.TE_LOAD_LAST]⟩,
  ⟨0x40040018, false, 0, 1, 0, 1, 0, false, fun _ _ _ => [Reg.TE_PD_RX]⟩,
  ⟨0x4004001C, false, 0, 1, 0, 1, 0, false, fun _ _ _ => [Reg.TE_PD_TX]⟩,
  ⟨0x40040020, false, 0, 1, 0, 1, 0, false, fun _ _ _ => [Reg.TE_DROP_PD_DROP, Reg.TE_DROP_PUB_SKIP]⟩,
  ⟨0x40040024, false, 0, 1, 0, 1, 0, false, fun _ _ _ => [Reg.TE_MD_Q_PEAK, Reg.TE_MD_Q_DEPTH]⟩,
  ⟨0x40040028, false, 0, 1, 0, 1, 0, false, fun _ _ _ => [Reg.TE_MD_DROP]⟩,
  ⟨0x4004002C, false, 0, 1, 0, 1, 0, false, fun _ _ _ => [Reg.TE_LAT_PD_MAX, Reg.TE_LAT_PD_LAST]⟩,
  ⟨0x40040030, false, 0, 1, 0, 1, 0, false, fun _ _ _ => [Reg.TE_LAT_PUB_MAX, Reg.TE_LAT_PUB_LAST]⟩,
  ⟨0x40040040, false, 0, 8, 4, 1, 0, false, fun _ n _ => [Reg.TE_MALF n]⟩,
  ⟨0x40044000, false, 0, 4096, 4, 1, 0, false, fun _ n _ => [Reg.TE_PUB_STAT_STATE n, Reg.TE_PUB_STAT_STALE n, Reg.TE_PUB_STAT_SAFETY n, Reg.TE_PUB_STAT_SKIP n, Reg.TE_PUB_STAT_SENT n]⟩,
  ⟨0x40048000, false, 0, 8192, 4, 1, 0, false, fun _ n _ => [Reg.TE_SUB_STAT_STATE n, Reg.TE_SUB_STAT_LAST_ERR n, Reg.TE_SUB_STAT_ERR n, Reg.TE_SUB_STAT_RX n]⟩]

/-- The registers of block SW (R523). -/
def regTableSW : List RegDesc := [
  ⟨0x40050000, false, 0, 1, 0, 1, 0, false, fun _ _ _ => [Reg.SW_CFG_BR_PRIO, Reg.SW_CFG_FRER_EN, Reg.SW_CFG_RSTP_EN]⟩,
  ⟨0x40050004, false, 0, 1, 0, 1, 0, false, fun _ _ _ => [Reg.SW_STATUS_BUF_PEAK, Reg.SW_STATUS_BUF_KIB]⟩,
  ⟨0x40050400, false, 0, 64, 4, 1, 0, false, fun _ n _ => [Reg.SW_VLAN_VALID n, Reg.SW_VLAN_MEMBERS n, Reg.SW_VLAN_UNTAG n, Reg.SW_VLAN_RSTP_EXEMPT n, Reg.SW_VLAN_VID n]⟩,
  ⟨0x40050100, false, 0, 7, 32, 1, 0, false, fun _ n _ => [Reg.SW_PORT_CFG_EN n, Reg.SW_PORT_CFG_ETB n, Reg.SW_PORT_CFG_RSTP n, Reg.SW_PORT_CFG_TAGGED_ONLY n, Reg.SW_PORT_CFG_DEF_PCP n, Reg.SW_PORT_CFG_PVID n]⟩,
  ⟨0x40050104, false, 0, 7, 32, 1, 0, false, fun _ n _ => [Reg.SW_PORT_STAT_GCL_ACTIVE n, Reg.SW_PORT_STAT_RSTP_ROLE n, Reg.SW_PORT_STAT_RSTP_STATE n, Reg.SW_PORT_STAT_SPEED n, Reg.SW_PORT_STAT_LINK n]⟩,
  ⟨0x40050108, false, 0, 7, 32, 1, 0, false, fun _ n _ => [Reg.SW_PORT_RX n]⟩,
  ⟨0x4005010C, false, 0, 7, 32, 1, 0, false, fun _ n _ => [Reg.SW_PORT_TX n]⟩,
  ⟨0x40050110, false, 0, 7, 32, 1, 0, false, fun _ n _ => [Reg.SW_PORT_DROP_A_OVERSIZE n, Reg.SW_PORT_DROP_A_FCS n]⟩,
  ⟨0x40050114, false, 0, 7, 32, 1, 0, false, fun _ n _ => [Reg.SW_PORT_DROP_B_VLAN n, Reg.SW_PORT_DROP_B_BUF n]⟩,
  ⟨0x40050118, false, 0, 6, 32, 1, 0, false, fun _ n _ => [Reg.SW_GCL_CTRL_EN n, Reg.SW_GCL_CTRL_LEN n, Reg.SW_GCL_CTRL_CYCLE n]⟩,
  ⟨0x40051000, false, 0, 6, 256, 64, 4, false, fun _ n e => [Reg.SW_GCL_GATES n e, Reg.SW_GCL_INTERVAL n e]⟩,
  ⟨0x40052000, false, 0, 256, 4, 1, 0, false, fun _ n _ => [Reg.SW_FRER_ID_VALID n, Reg.SW_FRER_ID_PAIR n, Reg.SW_FRER_ID_VID n, Reg.SW_FRER_ID_DMAC_LO n]⟩,
  ⟨0x40052400, false, 0, 256, 4, 1, 0, false, fun _ n _ => [Reg.SW_FRER_STAT_DISCARDED n, Reg.SW_FRER_STAT_ROGUE n, Reg.SW_FRER_STAT_RESETS n]⟩]

/-- The registers of block LB (R523). -/
def regTableLB : List RegDesc := [
  ⟨0x40060000, false, 0, 1, 0, 1, 0, false, fun _ _ _ => [Reg.LB_CFG_PORT_EN]⟩,
  ⟨0x40060004, false, 0, 1, 0, 1, 0, false, fun _ _ _ => [Reg.LB_STATUS_UP, Reg.LB_STATUS_FAULT]⟩,
  ⟨0x40060100, false, 0, 2, 32, 1, 0, false, fun _ n _ => [Reg.LB_MVB_CFG_BA n, Reg.LB_MVB_CFG_BP n, Reg.LB_MVB_CFG_MACRO n, Reg.LB_MVB_CFG_DEV_ADDR n]⟩,
  ⟨0x40060104, false, 0, 2, 32, 1, 0, false, fun _ n _ => [Reg.LB_MVB_STAT_MASTER n, Reg.LB_MVB_STAT_LINE_A_OK n, Reg.LB_MVB_STAT_LINE_B_OK n, Reg.LB_MVB_STAT_RX_LINE n, Reg.LB_MVB_STAT_PORTS n]⟩,
  ⟨0x40060108, false, 0, 2, 32, 1, 0, false, fun _ n _ => [Reg.LB_MVB_ERR_LINE_B n, Reg.LB_MVB_ERR_LINE_A n]⟩,
  ⟨0x4006010C, false, 0, 2, 32, 1, 0, false, fun _ n _ => [Reg.LB_MVB_TO_RX_OVF n, Reg.LB_MVB_TO_SINK_TO n]⟩,
  ⟨0x40060110, false, 0, 2, 32, 1, 0, false, fun _ n _ => [Reg.LB_MVB_DEVST_DEVST n]⟩,
  ⟨0x40060200, false, 0, 1, 0, 1, 0, false, fun _ _ _ => [Reg.LB_WTB_CFG_ROLE, Reg.LB_WTB_CFG_SWITCH_MS, Reg.LB_WTB_CFG_INDIV, Reg.LB_WTB_CFG_FRAME_LEN]⟩,
  ⟨0x40060204, false, 0, 1, 0, 1, 0, false, fun _ _ _ => [Reg.LB_WTB_STAT_STATE, Reg.LB_WTB_STAT_MASTER, Reg.LB_WTB_STAT_SWITCH, Reg.LB_WTB_STAT_TERM, Reg.LB_WTB_STAT_NODES, Reg.LB_WTB_STAT_NODE_ADDR]⟩,
  ⟨0x40060208, false, 0, 1, 0, 1, 0, false, fun _ _ _ => [Reg.LB_WTB_TOPO_INAUG, Reg.LB_WTB_TOPO_TOPO]⟩,
  ⟨0x4006020C, false, 0, 1, 0, 1, 0, false, fun _ _ _ => [Reg.LB_WTB_ERR_LINE_B, Reg.LB_WTB_ERR_LINE_A]⟩,
  ⟨0x40060300, false, 0, 4, 64, 1, 0, false, fun _ n _ => [Reg.LB_CAN_CFG_FD n, Reg.LB_CAN_CFG_BRS n, Reg.LB_CAN_CFG_TERM n, Reg.LB_CAN_CFG_HL n, Reg.LB_CAN_CFG_ARB n, Reg.LB_CAN_CFG_DATA n, Reg.LB_CAN_CFG_NODE n]⟩,
  ⟨0x40060304, false, 0, 4, 64, 1, 0, false, fun _ n _ => [Reg.LB_CAN_LATE_POLICY n, Reg.LB_CAN_LATE_LATE_US n]⟩,
  ⟨0x40060308, false, 0, 4, 64, 1, 0, false, fun _ n _ => [Reg.LB_CAN_STAT_STATE n, Reg.LB_CAN_STAT_REC n, Reg.LB_CAN_STAT_TEC n, Reg.LB_CAN_STAT_ADDR n]⟩,
  ⟨0x4006030C, false, 0, 4, 64, 1, 0, false, fun _ n _ => [Reg.LB_CAN_CNT_TX n, Reg.LB_CAN_CNT_RX n]⟩,
  ⟨0x40060310, false, 0, 4, 64, 1, 0, false, fun _ n _ => [Reg.LB_CAN_DROP_BUSOFF n, Reg.LB_CAN_DROP_LATE n, Reg.LB_CAN_DROP_LAUNCH_DROP n, Reg.LB_CAN_DROP_RX_OVF n]⟩,
  ⟨0x40060314, false, 0, 4, 64, 1, 0, false, fun _ n _ => [Reg.LB_CAN_FILT_REJECTED n, Reg.LB_CAN_FILT_FILTERS n]⟩]

/-- The registers of block HI (R523). -/
def regTableHI : List RegDesc := [
  ⟨0x40070000, false, 0, 1, 0, 1, 0, false, fun _ _ _ => [Reg.HI_STATUS_OPEN, Reg.HI_STATUS_ACCEPT, Reg.HI_STATUS_EXECUTING, Reg.HI_STATUS_JOURNAL_LOW, Reg.HI_STATUS_RECOVERED, Reg.HI_STATUS_READY, Reg.HI_STATUS_ERR]⟩,
  ⟨0x40070004, false, 0, 1, 0, 1, 0, false, fun _ _ _ => [Reg.HI_CTRL_NOTICE_EN, Reg.HI_CTRL_NOTICE_CQ]⟩,
  ⟨0x40070008, false, 0, 1, 0, 1, 0, false, fun _ _ _ => [Reg.HI_ERR_RING, Reg.HI_ERR_CQ_SIDE, Reg.HI_ERR_NOTICE_LOST, Reg.HI_ERR_CFG_REJ, Reg.HI_ERR_DB_RANGE, Reg.HI_ERR_CPL_WRITE, Reg.HI_ERR_DESC_FETCH]⟩,
  ⟨0x4007000C, false, 0, 1, 0, 1, 0, false, fun _ _ _ => [Reg.HI_ERR_COUNT_RSVD, Reg.HI_ERR_COUNT_DB_ERR]⟩,
  ⟨0x40070010, false, 0, 1, 0, 1, 0, false, fun _ _ _ => [Reg.HI_SNAP_SEQ]⟩,
  ⟨0x40070014, false, 0, 1, 0, 1, 0, false, fun _ _ _ => [Reg.HI_PCI_ID_DEVICE, Reg.HI_PCI_ID_VENDOR]⟩,
  ⟨0x40070018, false, 0, 1, 0, 1, 0, false, fun _ _ _ => [Reg.HI_LINK_BME, Reg.HI_LINK_WIDTH, Reg.HI_LINK_SPEED]⟩,
  ⟨0x40070020, false, 0, 1, 0, 1, 0, true, fun _ _ _ => [Reg.HI_JOURNAL_HEAD]⟩,
  ⟨0x40070028, false, 0, 1, 0, 1, 0, true, fun _ _ _ => [Reg.HI_JOURNAL_TAIL]⟩,
  ⟨0x40070030, false, 0, 1, 0, 1, 0, false, fun _ _ _ => [Reg.HI_JOURNAL_FREE_ENTRIES]⟩,
  ⟨0x40070034, false, 0, 1, 0, 1, 0, false, fun _ _ _ => [Reg.HI_LAT_MAX, Reg.HI_LAT_LAST]⟩,
  ⟨0x40070100, false, 0, 8, 64, 1, 0, false, fun _ n _ => [Reg.HI_SQ_BASE_LO_BASE n]⟩,
  ⟨0x40070104, false, 0, 8, 64, 1, 0, false, fun _ n _ => [Reg.HI_SQ_BASE_HI n]⟩,
  ⟨0x40070108, false, 0, 8, 64, 1, 0, false, fun _ n _ => [Reg.HI_SQ_CFG_EN n, Reg.HI_SQ_CFG_CQ n, Reg.HI_SQ_CFG_SIZE n]⟩,
  ⟨0x4007010C, false, 0, 8, 64, 1, 0, false, fun _ n _ => [Reg.HI_SQ_BUF_LO_BASE n]⟩,
  ⟨0x40070110, false, 0, 8, 64, 1, 0, false, fun _ n _ => [Reg.HI_SQ_BUF_HI n]⟩,
  ⟨0x40070114, false, 0, 8, 64, 1, 0, false, fun _ n _ => [Reg.HI_SQ_BUF_SIZE n]⟩,
  ⟨0x40070118, false, 0, 8, 64, 1, 0, false, fun _ n _ => [Reg.HI_SQ_STATE_STOPPED n, Reg.HI_SQ_STATE_TAIL n, Reg.HI_SQ_STATE_HEAD n]⟩,
  ⟨0x4007011C, false, 0, 8, 64, 1, 0, true, fun _ n _ => [Reg.HI_SQ_LASTID n]⟩,
  ⟨0x40070124, false, 0, 8, 64, 1, 0, true, fun _ n _ => [Reg.HI_SQ_ACKID n]⟩,
  ⟨0x40070400, false, 0, 8, 32, 1, 0, false, fun _ n _ => [Reg.HI_CQ_BASE_LO_BASE n]⟩,
  ⟨0x40070404, false, 0, 8, 32, 1, 0, false, fun _ n _ => [Reg.HI_CQ_BASE_HI n]⟩,
  ⟨0x40070408, false, 0, 8, 32, 1, 0, false, fun _ n _ => [Reg.HI_CQ_CFG_EN n, Reg.HI_CQ_CFG_IMOD n, Reg.HI_CQ_CFG_SIZE n]⟩,
  ⟨0x4007040C, false, 0, 8, 32, 1, 0, false, fun _ n _ => [Reg.HI_CQ_STATE_PHASE n, Reg.HI_CQ_STATE_HEAD n, Reg.HI_CQ_STATE_TAIL n]⟩]

/-- The registers of block DX (R523). -/
def regTableDX : List RegDesc := [
  ⟨0x40080000, false, 0, 1, 0, 1, 0, false, fun _ _ _ => [Reg.DX_LEASE_CFG_GUARD_MS, Reg.DX_LEASE_CFG_LEASE_MS]⟩,
  ⟨0x40080004, false, 0, 1, 0, 1, 0, false, fun _ _ _ => [Reg.DX_CP_CFG_CLASS, Reg.DX_CP_CFG_K]⟩,
  ⟨0x40080008, false, 0, 1, 0, 1, 0, false, fun _ _ _ => [Reg.DX_CMP_CFG_MISMATCH_N, Reg.DX_CMP_CFG_GB_EN, Reg.DX_CMP_CFG_TLG_EN, Reg.DX_CMP_CFG_DO_EN, Reg.DX_CMP_CFG_DO_COMMON]⟩,
  ⟨0x4008000C, false, 0, 1, 0, 1, 0, false, fun _ _ _ => [Reg.DX_CLAIM_CFG_EN, Reg.DX_CLAIM_CFG_COUNT, Reg.DX_CLAIM_CFG_CLASS]⟩,
  ⟨0x40080010, false, 0, 1, 0, 1, 0, false, fun _ _ _ => [Reg.DX_STATUS_POS_CONFLICT, Reg.DX_STATUS_IMAGE_MATCH, Reg.DX_STATUS_CP_VALID, Reg.DX_STATUS_JOURNAL_LEVEL, Reg.DX_STATUS_TK_PHASE, Reg.DX_STATUS_LEASE, Reg.DX_STATUS_LK_B_UP, Reg.DX_STATUS_LK_A_UP, Reg.DX_STATUS_GRANTING, Reg.DX_STATUS_REQUESTING]⟩,
  ⟨0x40080014, false, 0, 1, 0, 1, 0, false, fun _ _ _ => [Reg.DX_LEASE_LEFT_REMAIN_US]⟩,
  ⟨0x40080018, false, 0, 1, 0, 1, 0, false, fun _ _ _ => [Reg.DX_PEER_MODE, Reg.DX_PEER_ROLE, Reg.DX_PEER_POS, Reg.DX_PEER_VALID]⟩,
  ⟨0x4008001C, false, 0, 1, 0, 1, 0, false, fun _ _ _ => [Reg.DX_PEER_IMAGE]⟩,
  ⟨0x40080020, false, 0, 1, 0, 1, 0, false, fun _ _ _ => [Reg.DX_PEER_GEN]⟩,
  ⟨0x40080028, false, 0, 1, 0, 1, 0, true, fun _ _ _ => [Reg.DX_CP_LAST]⟩,
  ⟨0x40080030, false, 0, 1, 0, 1, 0, false, fun _ _ _ => [Reg.DX_CP_STAT_SKIPPED, Reg.DX_CP_STAT_AGE_MS]⟩,
  ⟨0x40080034, false, 0, 1, 0, 1, 0, false, fun _ _ _ => [Reg.DX_CP_GEN]⟩,
  ⟨0x40080038, false, 0, 1, 0, 1, 0, false, fun _ _ _ => [Reg.DX_CMP_STAT_MISMATCHES, Reg.DX_CMP_STAT_RUN, Reg.DX_CMP_STAT_SRC]⟩,
  ⟨0x4008003C, false, 0, 1, 0, 1, 0, false, fun _ _ _ => [Reg.DX_CLAIM_PEER, Reg.DX_CLAIM_HIGHER, Reg.DX_CLAIM_OWN]⟩,
  ⟨0x40080040, false, 0, 1, 0, 1, 0, false, fun _ _ _ => [Reg.DX_LINK_ERR_LK_B, Reg.DX_LINK_ERR_LK_A]⟩,
  ⟨0x40080044, false, 0, 1, 0, 1, 0, false, fun _ _ _ => [Reg.DX_LINK_DOWN_LK_B, Reg.DX_LINK_DOWN_LK_A]⟩,
  ⟨0x40080048, false, 0, 1, 0, 1, 0, false, fun _ _ _ => [Reg.DX_TAKEOVER_CAUSE, Reg.DX_TAKEOVER_ABORTS, Reg.DX_TAKEOVER_COUNT]⟩,
  ⟨0x4008004C, false, 0, 1, 0, 1, 0, false, fun _ _ _ => [Reg.DX_TAKEOVER_TIME_LOAD_MS, Reg.DX_TAKEOVER_TIME_TOTAL_MS]⟩,
  ⟨0x40080050, false, 0, 1, 0, 1, 0, false, fun _ _ _ => [Reg.DX_GRANT_CNT_GRANTED, Reg.DX_GRANT_CNT_RENEWED]⟩,
  ⟨0x40080080, false, 0, 8, 4, 1, 0, false, fun _ n _ => [Reg.DX_CLAIM_TGT_WINDOW n, Reg.DX_CLAIM_TGT_OFFSET n]⟩]

/-- The registers of block GB (R523). -/
def regTableGB : List RegDesc := [
  ⟨0x40090000, false, 0, 1, 0, 1, 0, false, fun _ _ _ => [Reg.GB_CFG_GRANT_TO_US, Reg.GB_CFG_SAFE_LEN, Reg.GB_CFG_SNOOP_EN, Reg.GB_CFG_EN]⟩,
  ⟨0x40090004, false, 0, 1, 0, 1, 0, false, fun _ _ _ => [Reg.GB_STATUS_SLOT, Reg.GB_STATUS_CLK_OK, Reg.GB_STATUS_BP_RESET, Reg.GB_STATUS_LOCKED, Reg.GB_STATUS_OWNER, Reg.GB_STATUS_SNOOP_OVF, Reg.GB_STATUS_QUEUE]⟩,
  ⟨0x40090008, false, 0, 1, 0, 1, 0, false, fun _ _ _ => [Reg.GB_QUEUE_FULL, Reg.GB_QUEUE_PEAK]⟩,
  ⟨0x4009000C, false, 0, 1, 0, 1, 0, false, fun _ _ _ => [Reg.GB_FAIL_A_TARGET_ERR, Reg.GB_FAIL_A_TIMEOUT]⟩,
  ⟨0x40090010, false, 0, 1, 0, 1, 0, false, fun _ _ _ => [Reg.GB_FAIL_B_PARITY, Reg.GB_FAIL_B_NO_GRANT, Reg.GB_FAIL_B_BP_RESET, Reg.GB_FAIL_B_ABORTED]⟩,
  ⟨0x40090014, false, 0, 1, 0, 1, 0, false, fun _ _ _ => [Reg.GB_DISCARD_LEASE, Reg.GB_DISCARD_MODE]⟩,
  ⟨0x40090020, false, 0, 1, 0, 1, 0, false, fun _ _ _ => [Reg.GB_LF_INFO_STATUS, Reg.GB_LF_INFO_CLASS, Reg.GB_LF_INFO_WINDOW, Reg.GB_LF_INFO_SEGMENT]⟩,
  ⟨0x40090024, false, 0, 1, 0, 1, 0, false, fun _ _ _ => [Reg.GB_LF_OFFSET_OFFSET]⟩,
  ⟨0x40090028, false, 0, 1, 0, 1, 0, true, fun _ _ _ => [Reg.GB_LF_CYC]⟩,
  ⟨0x40090030, false, 0, 1, 0, 1, 0, false, fun _ _ _ => [Reg.GB_LF_COUNT]⟩,
  ⟨0x40090034, false, 0, 1, 0, 1, 0, false, fun _ _ _ => [Reg.GB_PF_LAST_WINDOW, Reg.GB_PF_LAST_OFFSET]⟩,
  ⟨0x40090038, false, 0, 1, 0, 1, 0, false, fun _ _ _ => [Reg.GB_PF_COUNT]⟩,
  ⟨0x4009003C, false, 0, 1, 0, 1, 0, false, fun _ _ _ => [Reg.GB_INT_LEVEL, Reg.GB_INT_EDGES]⟩,
  ⟨0x40090040, false, 0, 1, 0, 1, 0, false, fun _ _ _ => [Reg.GB_SNOOP_HELD]⟩,
  ⟨0x40090044, false, 0, 1, 0, 1, 0, false, fun _ _ _ => [Reg.GB_SNOOP_CNT]⟩,
  ⟨0x40090048, false, 0, 1, 0, 1, 0, false, fun _ _ _ => [Reg.GB_RES_OVF_COUNT]⟩,
  ⟨0x40090100, false, 0, 8, 16, 1, 0, false, fun _ n _ => [Reg.GB_WIN_BASE_BASE n]⟩,
  ⟨0x40090104, false, 0, 8, 16, 1, 0, false, fun _ n _ => [Reg.GB_WIN_CFG_EN n, Reg.GB_WIN_CFG_POSTED n, Reg.GB_WIN_CFG_BURST n, Reg.GB_WIN_CFG_PREFETCH n, Reg.GB_WIN_CFG_SWAP n, Reg.GB_WIN_CFG_OBSERVED n, Reg.GB_WIN_CFG_SIZE n, Reg.GB_WIN_CFG_TIMEOUT_US n]⟩,
  ⟨0x40090108, false, 0, 8, 16, 1, 0, false, fun _ n _ => [Reg.GB_WIN_CNT_FAIL n, Reg.GB_WIN_CNT_PF_DISCARD n]⟩,
  ⟨0x4009010C, false, 0, 8, 16, 1, 0, false, fun _ n _ => [Reg.GB_WIN_ACC n]⟩,
  ⟨0x40090200, false, 0, 16, 4, 1, 0, false, fun _ n _ => [Reg.GB_SCAN_LATE n, Reg.GB_SCAN_ENTRIES n]⟩,
  ⟨0x40090240, false, 0, 16, 4, 1, 0, false, fun _ n _ => [Reg.GB_SCAN_LEAD_LEAD n]⟩]

/-- The registers of block FIO (R523). -/
def regTableFIO : List RegDesc := [
  ⟨0x400A0000, false, 0, 1, 0, 1, 0, false, fun _ _ _ => [Reg.FIO_STATUS_LEASE_OK, Reg.FIO_STATUS_IN_SERVICE]⟩,
  ⟨0x400A0004, false, 0, 1, 0, 1, 0, false, fun _ _ _ => [Reg.FIO_SUMMARY_THERMAL, Reg.FIO_SUMMARY_EXT_DRIVEN]⟩,
  ⟨0x400A0008, false, 0, 1, 0, 1, 0, false, fun _ _ _ => [Reg.FIO_EVT_CNT_THERMAL, Reg.FIO_EVT_CNT_EXT]⟩,
  ⟨0x400A0100, true, 0, 1, 0, 1, 0, false, fun s _ _ => [Reg.FIO_DI_GRP_TYPE s]⟩,
  ⟨0x400A0200, true, 0, 32, 4, 1, 0, false, fun s n _ => [Reg.FIO_DI_CFG_EDGE s n, Reg.FIO_DI_CFG_DEBOUNCE s n]⟩,
  ⟨0x400A0300, true, 0, 16, 4, 1, 0, false, fun s n _ => [Reg.FIO_DO_CFG_EXT_MS s n, Reg.FIO_DO_CFG_RB_DEBOUNCE s n]⟩,
  ⟨0x400A0400, true, 0, 1, 0, 1, 0, false, fun s _ _ => [Reg.FIO_LEG_MASK_MASK s]⟩,
  ⟨0x400A0404, true, 0, 1, 0, 1, 0, false, fun s _ _ => [Reg.FIO_LEG_WR_AT_LAUNCH s, Reg.FIO_LEG_WR_CLASS s, Reg.FIO_LEG_WR_VALUE s]⟩,
  ⟨0x400A0408, true, 0, 1, 0, 1, 0, false, fun s _ _ => [Reg.FIO_LEG_STATE_PENDING s, Reg.FIO_LEG_STATE_APPLIED s]⟩,
  ⟨0x400A0500, true, 0, 1, 0, 1, 0, false, fun s _ _ => [Reg.FIO_DI_RAW s]⟩,
  ⟨0x400A0504, true, 0, 1, 0, 1, 0, false, fun s _ _ => [Reg.FIO_DI_STATE s]⟩,
  ⟨0x400A0508, true, 0, 1, 0, 1, 0, false, fun s _ _ => [Reg.FIO_RB_STATE_RAW s, Reg.FIO_RB_STATE_DEB s]⟩,
  ⟨0x400A050C, true, 0, 1, 0, 1, 0, false, fun s _ _ => [Reg.FIO_DO_FAULT_OVERLOAD s, Reg.FIO_DO_FAULT_EXT_DRIVEN s]⟩,
  ⟨0x400A0510, true, 0, 1, 0, 1, 0, false, fun s _ _ => [Reg.FIO_DO_THERM_LOCKED s, Reg.FIO_DO_THERM_THERMAL s]⟩,
  ⟨0x400A0514, true, 0, 1, 0, 1, 0, false, fun s _ _ => [Reg.FIO_DO_SW_SW_ON s]⟩,
  ⟨0x400A0520, true, 0, 2, 4, 1, 0, false, fun s n _ => [Reg.FIO_FS_STATE s n, Reg.FIO_FS_MV s n]⟩,
  ⟨0x400A0530, true, 0, 1, 0, 1, 0, false, fun s _ _ => [Reg.FIO_EDGE_LOST s]⟩,
  ⟨0x400A0600, true, 0, 32, 8, 1, 0, true, fun s n _ => [Reg.FIO_EDGE s n]⟩]

/-- The registers of block PT (R523). -/
def regTablePT : List RegDesc := [
  ⟨0x400B0000, false, 0, 1, 0, 1, 0, false, fun _ _ _ => [Reg.PT_STATUS_PENDING, Reg.PT_STATUS_LAUNCH_OK, Reg.PT_STATUS_VOTERS]⟩,
  ⟨0x400B0004, false, 0, 1, 0, 1, 0, false, fun _ _ _ => [Reg.PT_LAUNCH_CNT_DROPPED, Reg.PT_LAUNCH_CNT_LAUNCHED]⟩,
  ⟨0x400B0008, false, 0, 1, 0, 1, 0, false, fun _ _ _ => [Reg.PT_UNCONF_COUNT]⟩,
  ⟨0x400B0100, true, 0, 4, 16, 1, 0, false, fun s n _ => [Reg.PT_REF_CFG_EN s n, Reg.PT_REF_CFG_SIGN s n, Reg.PT_REF_CFG_MODE s n, Reg.PT_REF_CFG_SOURCE s n, Reg.PT_REF_CFG_SDIR s n, Reg.PT_REF_CFG_FILT s n, Reg.PT_REF_CFG_STILL_MS s n]⟩,
  ⟨0x400B0104, true, 0, 4, 16, 1, 0, false, fun s n _ => [Reg.PT_REF_SCALE s n]⟩,
  ⟨0x400B0108, true, 0, 4, 16, 1, 0, false, fun s n _ => [Reg.PT_REF_POS s n]⟩,
  ⟨0x400B010C, true, 0, 4, 16, 1, 0, false, fun s n _ => [Reg.PT_REF_STAT_QERR s n, Reg.PT_REF_STAT_LEG_IGNORED s n, Reg.PT_REF_STAT_WREJ s n, Reg.PT_REF_STAT_DIR s n]⟩,
  ⟨0x400B0180, true, 0, 1, 0, 1, 0, false, fun s _ _ => [Reg.PT_REBASE_VAL s]⟩,
  ⟨0x400B0184, true, 0, 1, 0, 1, 0, false, fun s _ _ => [Reg.PT_REBASE_TICK s]⟩,
  ⟨0x400B0188, true, 0, 1, 0, 1, 0, false, fun s _ _ => [Reg.PT_REBASE_CTL_GO s, Reg.PT_REBASE_CTL_SHIFT s, Reg.PT_REBASE_CTL_REJ s, Reg.PT_REBASE_CTL_REF s]⟩,
  ⟨0x400B0200, true, 0, 64, 8, 1, 0, false, fun s n _ => [Reg.PT_TRIG_TGT s n]⟩,
  ⟨0x400B0204, true, 0, 64, 8, 1, 0, false, fun s n _ => [Reg.PT_TRIG_CTL_ARM s n, Reg.PT_TRIG_CTL_STATE s n, Reg.PT_TRIG_CTL_ARM_SEQ s n, Reg.PT_TRIG_CTL_IF_PASSED s n, Reg.PT_TRIG_CTL_DIR s n, Reg.PT_TRIG_CTL_REF s n, Reg.PT_TRIG_CTL_ACTION s n, Reg.PT_TRIG_CTL_OUTPUT s n]⟩,
  ⟨0x400B0400, true, 0, 1, 0, 1, 0, true, fun s _ _ => [Reg.PT_HIT s]⟩]

/-- The registers of block CW (R523). -/
def regTableCW : List RegDesc := [
  ⟨0x400C0000, false, 0, 2, 256, 1, 0, false, fun _ n _ => [Reg.CW_CFG_EN n, Reg.CW_CFG_FLUSH n, Reg.CW_CFG_CLASS n, Reg.CW_CFG_RX_MAX n]⟩,
  ⟨0x400C0004, false, 0, 2, 256, 1, 0, false, fun _ n _ => [Reg.CW_WM_HIGH n, Reg.CW_WM_LOW n]⟩,
  ⟨0x400C0008, false, 0, 2, 256, 1, 0, false, fun _ n _ => [Reg.CW_STATUS_WREJ n, Reg.CW_STATUS_DECK_OPEN n, Reg.CW_STATUS_APP_OPEN n, Reg.CW_STATUS_TX_BUSY n, Reg.CW_STATUS_HO n, Reg.CW_STATUS_HI n, Reg.CW_STATUS_LINK n]⟩,
  ⟨0x400C000C, false, 0, 2, 256, 1, 0, false, fun _ n _ => [Reg.CW_TX_LEVEL_PKTS n, Reg.CW_TX_LEVEL_WORDS n]⟩,
  ⟨0x400C0010, false, 0, 2, 256, 1, 0, false, fun _ n _ => [Reg.CW_RX_LEVEL_PKTS n, Reg.CW_RX_LEVEL_WORDS n]⟩,
  ⟨0x400C0014, false, 0, 2, 256, 1, 0, false, fun _ n _ => [Reg.CW_PRIO_RX n, Reg.CW_PRIO_TX n]⟩,
  ⟨0x400C0018, false, 0, 2, 256, 1, 0, false, fun _ n _ => [Reg.CW_TX_CNT n]⟩,
  ⟨0x400C001C, false, 0, 2, 256, 1, 0, false, fun _ n _ => [Reg.CW_RX_CNT n]⟩,
  ⟨0x400C0020, false, 0, 2, 256, 1, 0, false, fun _ n _ => [Reg.CW_TX_ERR_OVERSIZE n, Reg.CW_TX_ERR_NOSPACE n, Reg.CW_TX_ERR_FORM n, Reg.CW_TX_ERR_LEASE n]⟩,
  ⟨0x400C0024, false, 0, 2, 256, 1, 0, false, fun _ n _ => [Reg.CW_RX_ERR_CRC n, Reg.CW_RX_ERR_CODE n, Reg.CW_RX_ERR_OVERSIZE n, Reg.CW_RX_ERR_NOSPACE n]⟩,
  ⟨0x400C0028, false, 0, 2, 256, 1, 0, false, fun _ n _ => [Reg.CW_PAR_LINK_DOWN n, Reg.CW_PAR_RX n, Reg.CW_PAR_TX n]⟩,
  ⟨0x400C002C, false, 0, 2, 256, 1, 0, false, fun _ n _ => [Reg.CW_HOLD_HO_COUNT n, Reg.CW_HOLD_HI_COUNT n]⟩,
  ⟨0x400C0030, false, 0, 2, 256, 1, 0, false, fun _ n _ => [Reg.CW_TX_OPEN_PRIO n, Reg.CW_TX_OPEN_LEN n]⟩,
  ⟨0x400C0034, false, 0, 2, 256, 1, 0, false, fun _ n _ => [Reg.CW_TX_DATA n]⟩,
  ⟨0x400C0038, false, 0, 2, 256, 1, 0, false, fun _ n _ => [Reg.CW_RX_HEAD_VALID n, Reg.CW_RX_HEAD_PRIO n, Reg.CW_RX_HEAD_LEN n]⟩,
  ⟨0x400C003C, false, 0, 2, 256, 1, 0, false, fun _ n _ => [Reg.CW_RX_DATA n]⟩,
  ⟨0x400C0040, false, 0, 2, 256, 16, 4, false, fun _ n e => [Reg.CW_TX_PUSH n e]⟩]

/-- The registers of block EV (R523). -/
def regTableEV : List RegDesc := [
  ⟨0x400D0000, false, 0, 1, 0, 1, 0, false, fun _ _ _ => [Reg.EV_STATUS_RESERVE_FAIL, Reg.EV_STATUS_MAIN_FAIL, Reg.EV_STATUS_IN_RESERVE, Reg.EV_STATUS_RECOVERED, Reg.EV_STATUS_INTAKE]⟩,
  ⟨0x400D0004, false, 0, 1, 0, 1, 0, false, fun _ _ _ => [Reg.EV_CFG_REFILL_MS, Reg.EV_CFG_BURST, Reg.EV_CFG_NOTIFY_SEV]⟩,
  ⟨0x400D0008, false, 0, 1, 0, 1, 0, true, fun _ _ _ => [Reg.EV_NEXT]⟩,
  ⟨0x400D0010, false, 0, 1, 0, 1, 0, true, fun _ _ _ => [Reg.EV_OLDEST]⟩,
  ⟨0x400D0018, false, 0, 1, 0, 1, 0, false, fun _ _ _ => [Reg.EV_COUNT_SUPPRESSED, Reg.EV_COUNT_DROPPED]⟩,
  ⟨0x400D001C, false, 0, 1, 0, 1, 0, false, fun _ _ _ => [Reg.EV_LOST]⟩,
  ⟨0x400D0020, false, 0, 1, 0, 1, 0, false, fun _ _ _ => [Reg.EV_FAIL_ADDR_AREA, Reg.EV_FAIL_ADDR_OFFSET]⟩,
  ⟨0x400D0024, false, 0, 1, 0, 1, 0, false, fun _ _ _ => [Reg.EV_CORRUPT_COUNT]⟩,
  ⟨0x400D0040, false, 0, 16, 4, 1, 0, false, fun _ n _ => [Reg.EV_OVR_CODE n, Reg.EV_OVR_NO_LIMIT n, Reg.EV_OVR_BURST n, Reg.EV_OVR_REFILL n]⟩,
  ⟨0x400D0100, false, 0, 1, 0, 1, 0, true, fun _ _ _ => [Reg.EV_SEL]⟩,
  ⟨0x400D0140, false, 0, 16, 4, 1, 0, false, fun _ n _ => [Reg.EV_REC n]⟩]

/-- The registers of block CS (R523). -/
def regTableCS : List RegDesc := [
  ⟨0x400E0000, false, 0, 1, 0, 1, 0, false, fun _ _ _ => [Reg.CS_STATUS_FROZEN, Reg.CS_STATUS_BUSY, Reg.CS_STATUS_DEFAULTS, Reg.CS_STATUS_FAILED, Reg.CS_STATUS_VALID, Reg.CS_STATUS_ACTIVE]⟩,
  ⟨0x400E0004, false, 0, 1, 0, 1, 0, true, fun _ _ _ => [Reg.CS_SEQ]⟩,
  ⟨0x400E000C, false, 0, 1, 0, 1, 0, false, fun _ _ _ => [Reg.CS_RECORDS_COUNT]⟩,
  ⟨0x400E0010, false, 0, 1, 0, 1, 0, false, fun _ _ _ => [Reg.CS_DEFAULTED_COUNT]⟩,
  ⟨0x400E0014, false, 0, 1, 0, 1, 0, false, fun _ _ _ => [Reg.CS_DEFAULT_KEY]⟩,
  ⟨0x400E0018, false, 0, 1, 0, 1, 0, false, fun _ _ _ => [Reg.CS_STORES_FAILED, Reg.CS_STORES_DONE]⟩,
  ⟨0x400E001C, false, 0, 1, 0, 1, 0, false, fun _ _ _ => [Reg.CS_LOSS]⟩,
  ⟨0x400E0020, false, 0, 1, 0, 1, 0, false, fun _ _ _ => [Reg.CS_ROLLBACK]⟩,
  ⟨0x400E0024, false, 0, 1, 0, 1, 0, false, fun _ _ _ => [Reg.CS_FAIL_ADDR_BANK, Reg.CS_FAIL_ADDR_OFFSET]⟩]

/-- The registers of block UP (R523). -/
def regTableUP : List RegDesc := [
  ⟨0x400F0000, false, 0, 1, 0, 1, 0, false, fun _ _ _ => [Reg.UP_CFG_AUTO_FWD, Reg.UP_CFG_AUTO_INSTALL, Reg.UP_CFG_SKIP_MAX, Reg.UP_CFG_WINDOW, Reg.UP_CFG_RATE_KIBS]⟩,
  ⟨0x400F0004, false, 0, 1, 0, 1, 0, false, fun _ _ _ => [Reg.UP_STATUS_INSTALLING, Reg.UP_STATUS_INSTALL_PKG, Reg.UP_STATUS_TRIAL, Reg.UP_STATUS_ACT_PENDING, Reg.UP_STATUS_FALLBACK, Reg.UP_STATUS_PREFERRED, Reg.UP_STATUS_BOOTED]⟩,
  ⟨0x400F0008, false, 0, 1, 0, 1, 0, false, fun _ _ _ => [Reg.UP_ROLLBACK_EFFECTIVE, Reg.UP_ROLLBACK_COPY, Reg.UP_ROLLBACK_FUSES]⟩,
  ⟨0x400F000C, false, 0, 1, 0, 1, 0, false, fun _ _ _ => [Reg.UP_ERR_CHUNK_BAD, Reg.UP_ERR_RETRIES, Reg.UP_ERR_OFFERS_REFUSED, Reg.UP_ERR_TOPO_RESTARTS]⟩,
  ⟨0x400F0010, false, 0, 1, 0, 1, 0, false, fun _ _ _ => [Reg.UP_RATE_PEAK, Reg.UP_RATE_LAST]⟩,
  ⟨0x400F0020, false, 0, 2, 8, 1, 0, false, fun _ n _ => [Reg.UP_SLOT_REL n]⟩,
  ⟨0x400F0024, false, 0, 2, 8, 1, 0, false, fun _ n _ => [Reg.UP_SLOT_INFO_VALID n, Reg.UP_SLOT_INFO_REFUSED n, Reg.UP_SLOT_INFO_REASON n, Reg.UP_SLOT_INFO_PROTO n, Reg.UP_SLOT_INFO_KEY n, Reg.UP_SLOT_INFO_SEC n]⟩,
  ⟨0x400F0100, false, 0, 4, 32, 1, 0, false, fun _ n _ => [Reg.UP_PKG_STATE_STATE n, Reg.UP_PKG_STATE_DIR n, Reg.UP_PKG_STATE_INSTALL n, Reg.UP_PKG_STATE_ORIGIN n, Reg.UP_PKG_STATE_CHUNKS n]⟩,
  ⟨0x400F0104, false, 0, 4, 32, 1, 0, false, fun _ n _ => [Reg.UP_PKG_TAG n]⟩,
  ⟨0x400F0108, false, 0, 4, 32, 1, 0, false, fun _ n _ => [Reg.UP_PKG_PROG_FWD n, Reg.UP_PKG_PROG_HELD n]⟩,
  ⟨0x400F010C, false, 0, 4, 32, 1, 0, false, fun _ n _ => [Reg.UP_PKG_NEXT_NEXT_DONE n, Reg.UP_PKG_NEXT_PARTNER_DONE n, Reg.UP_PKG_NEXT_WAITING n, Reg.UP_PKG_NEXT_FROM_POS n, Reg.UP_PKG_NEXT_NEXT_POS n]⟩,
  ⟨0x400F0110, false, 0, 4, 32, 1, 0, false, fun _ n _ => [Reg.UP_PKG_REL n]⟩]

/-- The registers of block HM (R523). -/
def regTableHM : List RegDesc := [
  ⟨0x40100000, false, 0, 1, 0, 1, 0, false, fun _ _ _ => [Reg.HM_STATUS_ROUND, Reg.HM_STATUS_HOLDUP, Reg.HM_STATUS_THR_REJ, Reg.HM_STATUS_SELF_FAIL, Reg.HM_STATUS_ANY_ALARM, Reg.HM_STATUS_ANY_WARN]⟩,
  ⟨0x40100004, false, 0, 1, 0, 1, 0, false, fun _ _ _ => [Reg.HM_WARN_PROC, Reg.HM_WARN_VOLT, Reg.HM_WARN_TEMP]⟩,
  ⟨0x40100008, false, 0, 1, 0, 1, 0, false, fun _ _ _ => [Reg.HM_ALARM_PROC, Reg.HM_ALARM_VOLT, Reg.HM_ALARM_TEMP]⟩,
  ⟨0x4010000C, false, 0, 1, 0, 1, 0, false, fun _ _ _ => [Reg.HM_LIVE_PROC, Reg.HM_LIVE_VOLT, Reg.HM_LIVE_TEMP]⟩,
  ⟨0x40100010, false, 0, 1, 0, 1, 0, false, fun _ _ _ => [Reg.HM_CTRL_PROC_EN, Reg.HM_CTRL_WARN_NOTIFY]⟩,
  ⟨0x40100100, false, 0, 8, 4, 1, 0, false, fun _ n _ => [Reg.HM_TEMP_PEAK n, Reg.HM_TEMP_NOW n]⟩,
  ⟨0x40100140, false, 0, 8, 4, 1, 0, false, fun _ n _ => [Reg.HM_TLIM_HYST n, Reg.HM_TLIM_ALARM n, Reg.HM_TLIM_WARN n]⟩,
  ⟨0x40100200, false, 0, 14, 4, 1, 0, false, fun _ n _ => [Reg.HM_VOLT_MIN n, Reg.HM_VOLT_NOW n]⟩,
  ⟨0x40100240, false, 0, 14, 4, 1, 0, false, fun _ n _ => [Reg.HM_VLIM_WARN_HI n, Reg.HM_VLIM_WARN_LO n]⟩,
  ⟨0x40100300, false, 0, 6, 4, 1, 0, false, fun _ n _ => [Reg.HM_PROC_BASE n, Reg.HM_PROC_COUNT n]⟩,
  ⟨0x40100340, false, 0, 1, 0, 1, 0, false, fun _ _ _ => [Reg.HM_PLIM_WARN_PCT]⟩]

/-- The registers of block CKR (R523). -/
def regTableCKR : List RegDesc := [
  ⟨0x40110000, false, 0, 1, 0, 1, 0, false, fun _ _ _ => [Reg.CKR_STATUS_LOST, Reg.CKR_STATUS_CLK_OK]⟩,
  ⟨0x40110004, false, 0, 1, 0, 1, 0, false, fun _ _ _ => [Reg.CKR_OVR_OVR]⟩,
  ⟨0x40110008, false, 0, 1, 0, 1, 0, false, fun _ _ _ => [Reg.CKR_RST_HS_BUSY]⟩,
  ⟨0x4011000C, false, 0, 1, 0, 1, 0, false, fun _ _ _ => [Reg.CKR_RST_CNT_DROPPED, Reg.CKR_RST_CNT_HANDSHAKES]⟩,
  ⟨0x40110010, false, 0, 1, 0, 1, 0, false, fun _ _ _ => [Reg.CKR_SNAP_CTL_GO, Reg.CKR_SNAP_CTL_DONE, Reg.CKR_SNAP_CTL_DOMAINS]⟩,
  ⟨0x40110018, false, 0, 1, 0, 1, 0, true, fun _ _ _ => [Reg.CKR_SNAP_TIME]⟩,
  ⟨0x40110100, false, 0, 16, 4, 1, 0, false, fun _ n _ => [Reg.CKR_DOM_OK n, Reg.CKR_DOM_LOST n, Reg.CKR_DOM_FREQ n]⟩,
  ⟨0x40110200, false, 0, 24, 4, 1, 0, false, fun _ n _ => [Reg.CKR_OVR_CNT_COUNT n]⟩,
  ⟨0x40110300, false, 0, 16, 8, 1, 0, true, fun _ n _ => [Reg.CKR_SNAP_CYC n]⟩]

/-- The registers of the BAR2 windows (R523). -/
def regTableBAR2 : List RegDesc := [
  ⟨0xB2400000, false, 0, 1, 0, 1, 0, true, fun _ _ _ => [Reg.HI_EVW_CURSOR]⟩,
  ⟨0xB2400008, false, 0, 1, 0, 1, 0, true, fun _ _ _ => [Reg.HI_EVW_OLDEST]⟩,
  ⟨0xB2400010, false, 0, 1, 0, 1, 0, true, fun _ _ _ => [Reg.HI_EVW_NEXT]⟩,
  ⟨0xB2400018, false, 0, 1, 0, 1, 0, false, fun _ _ _ => [Reg.HI_EVW_STATUS_SKIPPED, Reg.HI_EVW_STATUS_CLAMPED, Reg.HI_EVW_STATUS_EMPTY]⟩,
  ⟨0xB2400040, false, 0, 16, 4, 1, 0, false, fun _ n _ => [Reg.HI_EVW_PEEK n]⟩,
  ⟨0xB2400080, false, 0, 16, 4, 1, 0, false, fun _ n _ => [Reg.HI_EVW_READ n]⟩,
  ⟨0xB2401000, false, 0, 1, 0, 1, 0, true, fun _ _ _ => [Reg.HI_JW_SEL]⟩,
  ⟨0xB2401008, false, 0, 1, 0, 1, 0, false, fun _ _ _ => [Reg.HI_JW_STATUS_HAS_FINAL, Reg.HI_JW_STATUS_PARTNER_ORIGIN, Reg.HI_JW_STATUS_RING, Reg.HI_JW_STATUS_KIND]⟩,
  ⟨0xB2401010, false, 0, 1, 0, 1, 0, true, fun _ _ _ => [Reg.HI_JW_FINAL]⟩,
  ⟨0xB2401040, false, 0, 16, 4, 1, 0, false, fun _ n _ => [Reg.HI_JW_ENTRY n]⟩,
  ⟨0xB2401080, false, 0, 1, 0, 1, 0, false, fun _ _ _ => [Reg.HI_JW_NEXT]⟩,
  ⟨0xB2402000, false, 0, 1, 0, 1, 0, false, fun _ _ _ => [Reg.HI_VW_ID_ID]⟩,
  ⟨0xB2402008, false, 0, 1, 0, 1, 0, true, fun _ _ _ => [Reg.HI_VW_VALUE]⟩,
  ⟨0xB2402010, false, 0, 1, 0, 1, 0, false, fun _ _ _ => [Reg.HI_VW_STATUS_CLASS, Reg.HI_VW_STATUS_AGREE, Reg.HI_VW_STATUS_FORCED, Reg.HI_VW_STATUS_VALID]⟩,
  ⟨0xB2402100, false, 0, 256, 4, 1, 0, false, fun _ n _ => [Reg.HI_VW_LIST_ID n]⟩,
  ⟨0xB2402500, false, 0, 1, 0, 1, 0, false, fun _ _ _ => [Reg.HI_VW_LIST_CTL_POS, Reg.HI_VW_LIST_CTL_LEN]⟩,
  ⟨0xB2402508, false, 0, 1, 0, 1, 0, true, fun _ _ _ => [Reg.HI_VW_LIST]⟩]

/-- Every register of the module (R523). -/
def regTable : List RegDesc :=
  regTableMCTL ++ regTableKS ++ regTableCYC ++ regTableTU ++ regTableTE ++ regTableSW ++ regTableLB ++ regTableHI ++ regTableDX ++ regTableGB ++ regTableFIO ++ regTablePT ++ regTableCW ++ regTableEV ++ regTableCS ++ regTableUP ++ regTableHM ++ regTableCKR ++ regTableBAR2

end Sys2Proof.Machine
end

