-- ==== Sys2Proof/Machine/State.lean ====
section
/-!
DEFINITION. The state of the module as plain data: every register (spec/02 to spec/20, held in one table of field
values), and every queue, buffer, memory, timer and counter the chapters name beside them.
-/
namespace Sys2Proof.Machine

/-! ## Events (spec/17) -/

/-- An event with its intake stamp (R453, R455): everything of a record but its number. -/
structure EvEntry where
  time : Nat
  timeInvalid : Bool
  opSeconds : Nat
  powerCycles : Nat
  code : Nat
  sev : Nat
  src : Nat
  pier : Nat
  summary : Bool
  count : Nat
  data : List Byte
deriving DecidableEq, Repr

/-- A stored record: number, entry, whether it lies in the reserve, whether a word of it reads with an
uncorrectable error (R458, R459). -/
structure EvRec where
  num : Nat
  e : EvEntry
  reserve : Bool
  unreadable : Bool
deriving DecidableEq, Repr

/-- The suppressions of one code that no summary covers yet (R457). -/
structure Suppr where
  count : Nat
  first : Nat
  last : Nat
  sev : Nat
deriving DecidableEq, Repr

/-- The event recorder beside its registers. `buckets` holds the tokens of every code whose bucket is not full;
`retry` that the first verify of the record being written failed; `hold` and `holdPend` the 1 ms notification hold;
`main`, `reserve` and the four fields after them lie in MRAM. -/
structure EvUnit where
  intake : List EvEntry
  dropN : Nat
  dropFirst : Nat
  buckets : NMap Nat
  suppr : NMap Suppr
  retry : Bool
  hold : Bool
  holdPend : Bool
  selHi : Nat
  main : NMap EvRec
  reserve : NMap EvRec
  corruptMain : List Nat
  corruptReserve : List Nat
  reserveFirst : Nat
deriving DecidableEq, Repr

/-! ## Causeway (spec/16) -/

/-- A packet of the Causeway: priority, words, and the schedule time of its end character (R439, R449). -/
structure CwPacket where
  prio : Nat
  words : List Nat
  time : Nat
deriving DecidableEq, Repr

/-- A packet being filled: priority, declared length, words so far (R442, R443). -/
structure CwOpen where
  prio : Nat
  len : Nat
  words : List Nat
deriving DecidableEq, Repr

/-- One Causeway port: complete packets in completion order, the two open packets, what remains of a refused packet
on each path (R443), the packet on the line, the words of the packet in reception, the packet a Deck read has begun
and the words of it read, and the total of refused and discarded packets since reset (R449). -/
structure CwPort where
  txq : List CwPacket
  rxq : List CwPacket
  appOpen : Option CwOpen
  deckOpen : Option CwOpen
  appRefused : Bool
  deckRefused : Nat
  sending : Option CwPacket
  rxPart : Nat
  rxIgnore : Bool
  rxCur : Option CwPacket
  rxPos : Nat
  lost : Nat
deriving DecidableEq, Repr

/-! ## Field I/O and position slices (spec/15, spec/09) -/

/-- What a slice latched for a class at its last class latch (R104 step 2, R423, R433, R271): schedule time, debounced
inputs, edge stamps with their capture flags by input, readback, supply states and millivolts, fault flags, positions,
directions, hit flags, hit times by trigger, and by speed input the pulses counted in the cycle and in all. -/
structure SliceLatch where
  time : Nat
  di : Nat
  edges : NMap Nat
  rb : Nat
  fs : List Nat
  fsMv : List Nat
  ext : Nat
  overload : Nat
  thermal : Nat
  pos : List Nat
  dir : List Nat
  hits : Nat
  hitTime : NMap Nat
  pulses : List Nat
  base : List Nat
deriving DecidableEq, Repr

/-- One field I/O slice beside its registers. Counts are of consecutive samples at a new level; `edges` holds, by
class × 32 + input, the number of captures since that class's last latch and the last stamp; `pending` the class and
level of each leg that waits for a launch tick; `fs` the last ten measurements of each supply, newest first. -/
structure FioSlice where
  diCount : NMap Nat
  diFirst : NMap Nat
  rbCount : NMap Nat
  edges : NMap (Nat × Nat)
  pending : NMap (Nat × Bool)
  fs : NMap (List Nat)
  limiter : Nat
  latches : NMap SliceLatch
deriving DecidableEq, Repr

/-- One position slice beside its registers: 48-bit accumulators, the levels of the tracks (bit 2 × input for A, the next for B) with the
clock of the last change of each, the levels of A (bit 0) and B (bit 1) that have passed each reference's filter (R262), the targets in force
and the hit times of the triggers, the positions at the last tick boundary, the pulses counted by speed input, and the LAUNCH hits signalled
to the Position unit by trigger × 16 + ARM_SEQ (R267). -/
structure PtSlice where
  acc : NMap Nat
  tracks : Nat
  target : NMap Nat
  hitTime : NMap Nat
  tickPos : NMap Nat
  pulses : NMap Nat
  since : NMap Nat
  level : NMap Nat
  signals : List Nat
deriving DecidableEq, Repr

/-- The Deck side of field I/O and position: shutdown times of each output stage (R432), the majority flags and
supply states last recorded (R434), unconfirmed LAUNCH hits by trigger × 16 + ARM_SEQ with the slices that reported
(R270). -/
structure DeckIo where
  shutdowns : NMap (List Nat)
  ovlMaj : Nat
  fsMaj : NMap Nat
  ptHits : NMap Nat
deriving DecidableEq, Repr

/-! ## Girder (spec/14) -/

/-- Who asked for a backplane access: the application (cycle, class, segment), the Deck controller, the Duplex unit's
claim write (R392), a scan entry word (class, entry, word, station), or the safe list (mode entered). -/
inductive GbOrigin where
  | app (cycle cls seg : Nat)
  | deck
  | claim
  | scan (cls entry word station : Nat)
  | safeList (mode : Nat)
deriving DecidableEq, Repr

/-- A queued backplane access: origin, kind (0 write, 1 read, 2 read-modify-write), window, offset, byte enables, data
in lane order, mask, and whether it is issued alone (R409). -/
structure GbReq where
  origin : GbOrigin
  kind : Nat
  win : Nat
  off : Nat
  be : Nat
  data : Nat
  mask : Nat
  single : Bool
deriving DecidableEq, Repr

/-- The transaction in progress: its accesses, the current one first; whether it is granted; whether it is a burst;
the old value once a locked sequence writes; whether the grant was withdrawn; whether lease expiry or SAFE stops it;
the words of a line read so far. -/
structure GbOpen where
  reqs : List GbReq
  granted : Bool
  burst : Bool
  rmwOld : Option Nat
  withdrawn : Bool
  stop : Bool
  fill : Option (List Nat)
deriving DecidableEq, Repr

/-- A result record (R406). -/
structure GbResult where
  cycle : Nat
  target : Nat
  data : Nat
  seg : Nat
  cls : Nat
  kind : Nat
  status : Nat
  be : Nat
deriving DecidableEq, Repr

/-- A window's line buffer: line offset, its eight words, the words a reader has received (R413). -/
structure GbLine where
  line : Nat
  words : List Nat
  delivered : Nat
deriving DecidableEq, Repr

/-- A scan of a class in progress or ended: accesses left, entries completed, stations with a failed access, the data
of each station's words by entry × 8 + word, whether its due tick has passed it (R408). -/
structure GbScan where
  left : Nat
  done : Nat
  failed : List Nat
  data : NMap (Nat × Nat)
  late : Bool
deriving DecidableEq, Repr

/-- The Girder beside its registers. `own` lists the observed writes of this module since the last declaration,
`snoop` those of a foreign master (R416), `safeLeft` and `safeFails` the safe-list run in progress. -/
structure GbUnit where
  urgent : List GbReq
  queue : List GbReq
  open_ : Option GbOpen
  release : Bool
  results : NMap (List GbResult)
  lines : NMap GbLine
  scans : NMap GbScan
  snoop : List (Nat × Nat)
  snoopDead : Bool
  own : List (Nat × Nat)
  bpSince : Nat
  safeLeft : Nat
  safeFails : Nat
  safeMode : Nat
deriving DecidableEq, Repr

/-! ## Network (spec/10) -/

/-- A frame in an egress queue: its length, its traffic class, its VID where it leaves tagged, its R-TAG, and how many frames with a launch
time stand before it in its queue (R253). -/
structure EgressFrame where
  len : Nat
  tc : Nat
  vid : Option Nat
  rtag : Option Nat
  dst : Nat
  behind : Nat
deriving DecidableEq, Repr

/-- The recovery of one replicated stream (R286): the highest sequence number, which of the 32 before it have come, and
whether any number is taken next. -/
structure FrerRec where
  seq : Nat
  history : Nat
  any : Bool
deriving DecidableEq, Repr

/-- The switch beside its registers: address table by MAC address (port), egress queues by port × 8 + class, gate entry in
force by port, recovery and next sequence number by stream, R-NAT (backbone address to consist address). -/
structure SwUnit where
  macs : NMap Nat
  egress : NMap (List EgressFrame)
  gate : NMap Nat
  frer : NMap FrerRec
  frerTx : NMap Nat
  rnat : NMap Nat
deriving DecidableEq, Repr

/-- A publication at work: payload last released with the etbTopoCnt of its frame and its cycle, and its
sequenceCounter. -/
structure TePub where
  payload : List Byte
  etb : Nat
  cycle : Nat
  seq : Nat
deriving DecidableEq, Repr

/-- A subscription's current copy (R295): payload, reception time, SDT content, and whether it has been judged (R300). -/
structure TeSub where
  payload : List Byte
  time : Nat
  sdt : Option Sdt
  judged : Bool
deriving DecidableEq, Repr

/-- An MD message in reassembly (R293): fragments by offset, the total length once the last fragment is known. -/
structure Reasm where
  parts : NMap (List Byte)
  total : Option Nat
  first : TrFrame
deriving DecidableEq, Repr

/-- The Trestle beside its registers: queues of the internal port, due publications, PD replies asked for, the count of
units (R305), whose turn the reserved unit and the legacy units are, last sequence counters by source and comId,
reassemblies, sessions that await an answer by sessionId (journal sequence of the command), unit demand of this tick, whether the application asks for
inhibition of inauguration and whether the module asks for it, the parts of a message of the application released so far, by class, and the
last accepted safe sequence counters by subscription (R300). -/
structure TeUnit where
  pdq : List (TrFrame × Nat)
  sendq : List (Nat × Nat × Nat)
  replies : List (Nat × Nat)
  mdq : List TrFrame
  ctlq : Nat
  unitNo : Nat
  turn : Nat
  lbTurn : Nat
  pubs : NMap TePub
  subs : NMap TeSub
  seqs : NMap Nat
  reasm : NMap Reasm
  sessions : NMap Nat
  demand : Nat
  inhibit : Bool
  asking : Bool
  mdParts : NMap (List Byte)
  sscIn : NMap Nat
deriving DecidableEq, Repr

/-! ## Legacy buses (spec/11) -/

/-- A received legacy frame (R315): receive object, reception time, payload. -/
structure LbFrame where
  obj : Nat
  time : Nat
  payload : List Byte
deriving DecidableEq, Repr

/-- A CAN frame in a holding place: object, launch time where it has one, payload (R315, R324). -/
structure CanSend where
  obj : Nat
  launch : Option Nat
  payload : List Byte
deriving DecidableEq, Repr

/-- A legacy port beside its registers: receive FIFO, current buffers of the receive objects, last released payload of
the send objects, what the line interface holds of them, frames in the CAN holding places, send objects that wait in the
Trestle for a unit, times of the last valid frame on lines A and B, consecutive errors on the current line, times of
bus-off entries, whether a J1939 address is claimed, whether the port was silenced for losing it, the WTB coupler
setting that is being waited for, frames dropped since reset. -/
structure LbPort where
  fifo : List LbFrame
  rx : NMap LbFrame
  tx : NMap (List Byte)
  store : NMap (List Byte)
  hold : List CanSend
  wait : List CanSend
  lineA : Option Nat
  lineB : Option Nat
  errs : Nat
  busOff : List Nat
  claimed : Bool
  mute : Bool
  want : Option Nat
  dropped : Nat
deriving DecidableEq, Repr

/-! ## Cyclic program (spec/06) -/

/-- A station at work (R182): age, cycles spent in LOST, status, arrival of the last valid copy, the data that came,
the data the input variables show, age, cycles in LOST and status, and the data shown, before the last due tick, and the tick of the
scheduling count at that arrival (R190). -/
structure Station where
  age : Nat
  lost : Nat
  status : Nat
  seen : Option Nat
  rx : List Byte
  shown : List Byte
  before : Nat × Nat × Nat
  prev : List Byte
  seenAt : Nat
deriving DecidableEq, Repr

/-- A single-received item of an input frame (R117). -/
inductive FrameItem where
  /-- Tick time, train time, epoch number and time state (R234). -/
  | time (tick train epoch state : Nat)
  /-- A subscription's current copy. -/
  | sub (n time : Nat) (payload : List Byte)
  /-- A legacy receive object's current copy. -/
  | legacy (port obj time : Nat) (payload : List Byte)
  /-- The train items of R289. -/
  | train (etb op inaug pos consists orient : Nat)
  /-- The WTB items of R321. -/
  | wtb (state switch topo addr nodes master : Nat)
  /-- A J1939 port's address and claimed flag (R326). -/
  | j1939 (port addr : Nat) (claimed : Bool)
  /-- Packets of a Causeway port and its lost total (R449). -/
  | cw (port lost : Nat) (packets : List CwPacket)
  /-- Backplane result records (R407). -/
  | results (l : List GbResult)
  /-- A word of a scan: station, entry × 8 + word, data (R408). -/
  | scan (station word data : Nat)
  /-- A station's status (R182). -/
  | station (n status : Nat)
  /-- Backplane interrupts and observed levels (R417). -/
  | backplane (edges : Nat) (level : Bool)
  /-- A host command handed to the class: journal sequence, opcode, argument bytes. -/
  | host (seq opcode : Nat) (args : List Byte)
  /-- The partner item of a pending change set (R207): 0 NONE, 1 WAITING, 2 STORED, 3 TIMED_OUT. -/
  | partner (state : Nat)
deriving DecidableEq, Repr

/-- A frozen input frame: cycle number and items. -/
structure InFrame where
  cycle : Nat
  items : List FrameItem
deriving DecidableEq, Repr

/-- A class cycle in progress: class, cycle number, due tick on the scheduling count, real due tick, time by which
frozen releases have moved its deadline in units of 2.5 ns (R193), start marks by Pier (R105), Piers that ended it (bit
mask), whether its launch tick has passed, whether its final window is released, whether a mode change has dropped its
launch (R186), and the generation in force at its start (R107). -/
structure CycleRun where
  cls : Nat
  cycle : Nat
  due : Nat
  realDue : Nat
  extra : Nat
  marks : NMap Nat
  ended : Nat
  launchPassed : Bool
  released : Bool
  dropped : Bool
  gen : Nat
deriving DecidableEq, Repr

/-- The Cycle scheduler beside its registers: class cycles in progress, frozen frames by class, newest first, an older one kept until its
input phase has closed (R118), stations, previous due time by class, classes started,
staged process-image writes by class (R177), the boundary count without valid time (R166), and the cycle that ends the step in progress, once
it has started (R189). -/
structure CycUnit where
  runs : List CycleRun
  frames : NMap (List InFrame)
  stations : NMap Station
  prevDue : NMap Nat
  started : List Nat
  staged : NMap (List (Nat × List Byte))
  hk : Nat
  snapBuf : Nat
  snapSince : Nat
  stepLast : Option Nat
deriving DecidableEq, Repr

/-- Byte memory of the Deck: cells of strictly rising addresses, no cell 0. -/
abbrev Memory := List Host.Cell

/-! ## Time unit (spec/08) -/

/-- A path delay step hold of a port: the first held measurement, how many, and their sum (R252). -/
structure PdHold where
  first : Nat
  count : Nat
  sum : Nat
deriving DecidableEq, Repr

/-- A frame that waits in a MAC for its launch time: queue, launch time, timestamp identifier, payload (R253, R255). -/
structure LaunchFrame where
  queue : Nat
  launch : Nat
  tsId : Nat
  payload : List Byte
  vid : Option Nat
  rtag : Option Nat
  dst : Nat
deriving DecidableEq, Repr

/-- An accepted epoch that waits for its tick boundary: the journal sequence of its command, and the new train time
for SET, or none for ADOPT (R244, R245). -/
structure EpochReq where
  cmd : Nat
  trainTime : Option Nat
deriving DecidableEq, Repr

/-- The Time unit beside its registers: the last θ, outliers in a row, Syncs received in ACQUIRE with the master time of the last of them and
the module clock then, whether a better master is being judged in GRANDMASTER, the identity of the selected master, the part of a nanosecond
by which schedule time is ahead of TU_SCHED in units of 10⁻¹² ns (R229), the copy of schedule time of each MAC (R248), path delay holds,
timestamp queues and launch queues by port, and accepted epochs. -/
structure TuUnit where
  theta : Int
  outliers : Nat
  acqSyncs : Nat
  acqAt : Nat × Nat
  judging : Bool
  master : Nat
  frac : Nat
  macTime : NMap Nat
  holds : NMap PdHold
  txts : NMap (List (Nat × Nat))
  launchQ : NMap (List LaunchFrame)
  epochs : List EpochReq
deriving DecidableEq, Repr

/-! ## Host interface (spec/12) -/

/-- A completion (R342) without its phase bit: flags bits 1 LOCAL_ONLY to 5 PARTNER_ORIGIN; `noIrq` is the command's
NO_IRQ flag. -/
structure Completion where
  id : Nat
  status : Nat
  kind : Nat
  flags : Nat
  head : Nat
  sring : Nat
  resLen : Nat
  seq : Nat
  noIrq : Bool
deriving DecidableEq, Repr

/-- How far an accepted command has come: not begun, handed to the next input phase of a class, in the frame of a class
cycle, agreed in it, or begun and waiting for something else. -/
inductive CmdPhase where
  | queued
  | toClass (cls : Nat)
  | inFrame (cls cycle : Nat)
  | agreed (cls cycle : Nat)
  | waiting
deriving DecidableEq, Repr

/-- An accepted command that is not final: accept sequence, ring, descriptor, payload held in the command store, whether
the other module received it, whether acceptance was local, whether acceptance is complete (R348 step 4), phase, the status
and result with which the release of its cycle completes it, whether it is only applied again after a takeover (R355), and
whether the module it was submitted to is lost (R356). -/
structure HiCmd where
  seq : Nat
  ring : Nat
  desc : Desc
  payload : List Byte
  partner : Bool
  accepted : Bool
  phase : CmdPhase
  status : Nat
  result : List Byte
  again : Bool
  lost : Bool
deriving DecidableEq, Repr

/-- The host interface beside its registers: commands not yet final in journal order, commands forwarded to the executing
module by ring, final completions of the boot's recovery that wait for their ring, the journal in MRAM, results longer than 48 B, completions to be written, entries written that the
host has not released, REJECTED completions that wait until the earlier commands of their ring (by id) are final (R343), results that wait for
DMA (R331), the ring fetched from last, times of the last message of each completion ring, rings with a message held back, the time of the
doorbell that announced first the slot of a ring (4096 × ring + slot), the same for the descriptors fetched and not yet accepted (ring, id,
time; R359), whether the function is in D3hot, the image being loaded (identity, next offset, total size), the command store of payloads by
accept sequence (R347), and the upper halves written to the event cursor and the journal selection, which wait for the lower ones (R364). -/
structure HiUnit where
  cmds : List HiCmd
  forwarded : List (Nat × Desc)
  late : List Completion
  journal : NMap JEntry
  results : NMap (List Byte)
  held : List (Nat × Completion)
  unread : NMap (List Completion)
  rejects : List (List Nat × Completion)
  writes : List (Nat × List Byte)
  rr : Nat
  imodAt : NMap Nat
  imodHeld : Nat
  rung : NMap Nat
  timed : List (Nat × Nat × Nat)
  d3 : Bool
  load : Option (Nat × Nat × Nat)
  payloads : NMap (List Byte)
  evwHi : Nat
  jwHi : Nat
deriving DecidableEq, Repr

/-! ## Keystone (spec/04, spec/05) -/

/-- What a Pier posts to a mailbox slot (R106, R107): its header without Pier byte, the frame digest, for each item of the input map whether
the Pier contributes it and its 8-byte pattern, and its change state item. -/
structure MbPost where
  cycle : Nat
  generation : Nat
  mapId : Nat
  cls : Nat
  count : Nat
  reread : Bool
  digest : Nat
  items : List (Bool × Nat)
  change : Option Nat
deriving DecidableEq, Repr

/-- An output of a class cycle that a Pier has yet to post (R125): a request without the fields the runtime forms, a slice write by offset and
value, a fault word of a segment with kind and address, and the end word. -/
inductive PierOut where
  | req (unit target attr : Nat) (payload : List Byte)
  | slice (off value : Nat)
  | fault (seg kind addr : Nat)
  | done
deriving DecidableEq, Repr

/-- The stream of output words of a class cycle of a Pier (R125 to R128): words so far, part and words of the open window with its CRC
register, requests posted, and the outputs not yet posted. -/
structure OutStream where
  cls : Nat
  cycle : Nat
  words : Nat
  part : Nat
  inPart : Nat
  crc : Nat
  reqs : Nat
  todo : List PierOut
deriving DecidableEq, Repr

/-- A window that a Pier has closed (R128): its signature, the requests posted with it, whether it is the final one, and whether its signature
is posted. -/
structure ClosedWin where
  cls : Nat
  cycle : Nat
  part : Nat
  sig : Nat
  upto : Nat
  final : Bool
  posted : Bool
deriving DecidableEq, Repr

/-- A signature whose posting stalls (R129): window, what its signature is XORed with, arrival time. -/
structure StalledSig where
  cls : Nat
  cycle : Nat
  part : Nat
  flip : Nat
  t : Nat
deriving DecidableEq, Repr

/-- A Pier (R31, R96): TCM by core, SRAM and SDRAM by Pier address, pages written since their marks were cleared (R149; those of TCM are
numbered from 2^40 on), output streams, closed windows, stalled postings, work of each core, the running class cycle first (R171),
values exchanged that wait for their tick (tick, variable, value) and published values (R100), and segments whose fault has been reported
(segment, cycle, kind, address), requests whose posting stalls for want of buffer space (R123), and safe sequence counters by publication
(R301). -/
structure PierUnit where
  tcm : NMap Memory
  mem : Memory
  dirty : List Nat
  streams : List OutStream
  closed : List ClosedWin
  stalled : List StalledSig
  work : NMap (List (Nat × Nat))
  exch : List (Nat × Nat × Nat)
  published : NMap Nat
  faulted : List (Nat × Nat × Nat × Nat)
  waiting : List OutReq
  sscOut : NMap Nat
deriving DecidableEq, Repr

/-- A window in the holding stages (R128, R129): due tick of its cycle, signatures with arrival times in units of 2.5 ns from that
tick, and the number of requests each Pier had posted with it, by Pier; whether it is the final one; the expiry of its
skew timer; whether it is resolved, with its verdict's majority (bit mask), the signature they gave and the release point in units of
2.5 ns (R131, R141); whether its requests have been put into release order; and whether the watchdog has judged it (R191). -/
structure KsWindow where
  cls : Nat
  cycle : Nat
  part : Nat
  due : Nat
  sigs : NMap (Nat × Nat)
  upto : NMap Nat
  final : Bool
  expiry : Option Nat
  expired : Bool
  resolved : Bool
  majority : Nat
  sig : Nat
  point : Nat
  queued : Bool
  judged : Bool
deriving DecidableEq, Repr

/-- The copies of an outbound request by Pier (R120), and whether it has left the holding area. -/
structure KsReq where
  cls : Nat
  cycle : Nat
  seq : Nat
  copies : NMap OutReq
  performed : Option OutReq
  closed : Bool
deriving DecidableEq, Repr

/-- What waits in release order (R141, R142): a request of a window part with the tokens of KS-1 and KS-2 so far (window identifier and
CRC), or the end of a window's requests. -/
inductive RelItem where
  | req (q : OutReq) (part : Nat) (t1 t2 : Option (Nat × Nat))
  | window (cls cycle part : Nat) (final : Bool)
deriving DecidableEq, Repr

/-- A mailbox slot (R110): class, cycle, whether it is the second exchange of R117, Piers expected, contributions by
Pier, whether the wait timer runs, the digest of the two agreeing Piers where a single Pier reads again, in a second exchange the
change states and the header of the first, and whether a disagreement of the halves at its closure holds it (R110, R155). -/
structure MbSlot where
  cycle : Nat
  second : Bool
  expect : Nat
  posts : NMap MbPost
  timer : Bool
  majority : Option Nat
  changes : NMap Nat
  held : Bool
deriving DecidableEq, Repr

/-- A fault report of a Pier (R26): Pier, segment, cycle, fault kind, address. -/
structure FaultReport where
  pier : Nat
  segment : Nat
  cycle : Nat
  kind : Nat
  addr : Nat
deriving DecidableEq, Repr

/-- The Keystone beside its registers: windows, requests held, releases in order, mailbox slots by class, slots closed
(class, cycle), Piers absent from a slot (class, cycle, Pier), status of the single-received items by class (R117), agreed items by class with their statuses, minority counts by (class × 4096 + item) × 4 + Pier (R116),
fault reports, the recovery in progress (odd Pier, Piers out of service as a bit mask, times of the isolation and of the
attempt's start, aborts since the isolation, passes in a row that did not converge, dirty pages left, bytes copied in the attempt and in the pass
and left of the pass, blocks on the copy list, pages of the pass), a Pier in REJOIN with its isolation's time, passes and bytes,
the cycles that do not expect a rejoining Pier (R146), and the operating-seconds stamps in MRAM of the last transients and namings: Piers 0 to 2, halves 3 and 4, pairs 4 + unit;
whether the first request in release order is held for want of space in the Girder queue (R404); and the halves whose switch in
SAFE_OUT_N and in ALIVE is closed, as bit masks (R58). -/
structure KsUnit where
  windows : List KsWindow
  reqs : List KsReq
  releasing : List RelItem
  slots : NMap MbSlot
  closedSlots : List (Nat × Nat)
  missed : List (Nat × Nat × Nat)
  frameStatus : NMap Nat
  agreed : NMap (List (Nat × Nat))
  minority : NMap Nat
  faults : List FaultReport
  odd : Option Nat
  outOfService : Nat
  since : Nat
  attemptAt : Nat
  aborts : Nat
  badPasses : Nat
  pages : Nat
  copied : Nat
  passBytes : Nat
  passLeft : Nat
  copyList : List Nat
  passPages : List Nat
  rejoin : Option (Nat × Nat × Nat × Nat)
  unexpected : List (Nat × Nat × Nat)
  stamps : NMap (List Nat)
  holding : Bool
  safeSw : Nat
  aliveSw : Nat
deriving DecidableEq, Repr

/-! ## Module control (spec/03) -/

/-- Module control beside its registers: agreed MODE_REQUESTs that wait for a tick boundary (accept sequence), triggers
that wait for it (lease lost, SVC_PERMIT_N deasserted in HOLD), AUTORUN waiting, a SAFE cause of BOOT
that takes effect at step 11 (R524), whether a valid image is in force, the time of the last reset, the accept sequence of
the STEP in progress, the force table, generation and identity of the image in force; whether the application has started
since boot (R88) and must start cold (R389), the 8 s wait of R85 runs, the boot sequence has ended for good (R524), POR is asserted
between steps 1 and 2 (R80), and what boot step 10 found wrong with the image (identity, generation, reason, R86). -/
structure ModeUnit where
  reqs : List Nat
  leaseLost : Bool
  permitLost : Bool
  autorun : Bool
  bootSafe : Option (Nat × Nat)
  imageValid : Bool
  resetAt : Nat
  stepCmd : Option Nat
  forces : NMap Nat
  generation : Nat
  imageId : Nat
  started : Bool
  coldOnly : Bool
  waiting : Bool
  halted : Bool
  posrst : Bool
  noImage : Option (Nat × Nat × Nat)
deriving DecidableEq, Repr

/-! ## Change sets (spec/07) -/

/-- What a switched change set leaves for its revert (R201, R213): the change set, the image before it, and the accept sequence of its
LOAD. -/
structure Switched where
  cs : ChangeSet
  img : Image
  cmd : Nat
deriving DecidableEq, Repr

/-- The change in progress and the revertible one. `state` is 0 none, 1 staging, 2 staged, 3 armed; `reverting` says that it is
a revert; `cmd` is the accept sequence of its LOAD or REVERT. `ready` and `failed` are the Piers that have staged the new
versions or failed to, `stampBad` that a stamp check failed, `shown` the Piers ready in the last change-state item, `ns` the switch cycle of
the change armed, `lastNs` that of the last switch, `agreed` the partner item as it was last agreed; `carried` holds the carry-over times by class × 4 + Pier in µs, `late` those unfinished at the switch with
the time of its tick, none at a control exchange, `measured` the largest carry-over of this change and `lastMeasured` of the last switch,
`await` for each switch not yet complete the class and cycle whose release completes it, its command, whether it was a revert and its
generation, `carrying` the map and the variables before and after the last switch, for what of its carry-over is late, `accepted` a LOAD
that is accepted and not yet begun with its manifest. -/
structure ChgUnit where
  state : Nat
  cs : Option ChangeSet
  reverting : Bool
  cmd : Nat
  lead : Nat
  partner : Nat
  fetched : Bool
  ready : Nat
  failed : Nat
  stampBad : Bool
  shown : Nat
  ns : Nat
  carried : NMap Nat
  late : NMap (Option Nat)
  measured : Nat
  lastMeasured : Nat
  switched : Option Switched
  await : List (Nat × Nat × Nat × Bool × Nat)
  lastNs : Nat
  agreed : Nat
  carrying : Option (List MapEntry × NMap ImgVar × NMap ImgVar)
  accepted : Option (Nat × ChangeSet)
deriving DecidableEq, Repr

/-! ## MRAM boot parameters and eMMC -/

/-- The boot parameters in MRAM, with the module's own clockIdentity (R237, R259; log 159): saved schedule time and epoch (R231), identity and generation of the activated image, saved
operating seconds and power cycles (R78), SERVICE_NEXT, claim (R393), the checkpoint buffer the header names (R79), the
preferred firmware slot and its trial count while on trial (R486), and the floor of record numbers (R458). -/
structure BootParams where
  clockId : Nat
  savedS : Nat
  epochE : Int
  epochNum : Nat
  imageId : Nat
  generation : Nat
  opSeconds : Nat
  powerCycles : Nat
  serviceNext : Bool
  claim : Nat
  cpNamed : Option Nat
  slotPref : Nat
  trial : Option Nat
  evFloor : Nat
deriving DecidableEq, Repr

/-- What the eMMC holds for the application: loaded images by identity, the activated image as it stands at the recorded
generation, the image log above it (the standby's pending entries included, R222), and the constants that edits have
changed (R217, R221). -/
structure ImgStore where
  images : NMap Image
  current : Option Image
  log : List LogEntry
  consts : NMap Nat
deriving DecidableEq, Repr

/-! ## Duplex (spec/13) -/

/-- The lease of one slice (R24, R370, R373): when it ends on the module's clock, the request counter and the send times of the
last eight, and whether the slice has seen DX_PEER_STANDBY_N asserted since its last reload. -/
structure DxSlice where
  deadline : Nat
  ctr : Nat
  sent : List (Nat × Nat)
  steady : Bool
deriving DecidableEq, Repr

/-- The Duplex unit beside its registers: slice leases, the larger LEASE_MS and GUARD_MS of the pair and whether the
handshake has taken place (R369), the grant sequence number, the times of the last grant and of the last request received,
the time of the last status frame, the partner's last reported mode other than BOOT and SAFE since the standby joined (R90) and whether it reported a claim,
the journal sequence at the last epoch it sent, a checkpoint on its way into its buffer, the two buffers (R79), the cycle of the checkpoint in
transfer (R379) and of the last one confirmed, when the last was completed, the checkpoint assembled while the image does not match (R381),
declarations by cycle, count and CRC register of the
backplane writes compared so far, observed publications by number with the time and CRC of
their last copy (R384), cause, start, age, end of the wait of the takeover in progress, whether its checkpoint is loaded, the mode it
leads to, and the planned handover in progress. -/
structure DxUnit where
  slices : Tri DxSlice
  leaseMs : Nat
  guardMs : Nat
  handshake : Bool
  grantSeq : Nat
  lastGrant : Option Nat
  lastReq : Option Nat
  statusAt : Option Nat
  peerMode : Option Nat
  claimKnown : Bool
  epochSeq : Nat
  taking : Option Checkpoint
  bufs : NMap Checkpoint
  sending : Option Nat
  confirmed : Option Nat
  doneAt : Option Nat
  assembled : Option Checkpoint
  decls : NMap Declaration
  gbSeen : Nat
  gbCrc : Nat
  obs : NMap (Nat × Nat)
  tkCause : Nat
  tkStart : Nat
  tkAge : Nat
  waitEnd : Nat
  loaded : Bool
  tkMode : Nat
  handover : Bool
deriving DecidableEq, Repr

/-! ## Caisson (spec/18) -/

/-- A bank (R472): whether it is valid and, where not, the first failed test (0 version, 1 count, 2 check), its sequence number,
its records by key, and its system area: anti-rollback copy and recorder-loss count. -/
structure CsBank where
  valid : Bool
  reason : Nat
  seq : Nat
  recs : NMap Nat
  rollback : Nat
  loss : Nat
deriving DecidableEq, Repr

/-- A store that has arrived at the controller (R473): origin 0 host, 1 application, 2 system; its records; the accept sequence of
the command it completes; a new anti-rollback copy; an addition to the recorder-loss count. -/
structure CsStore where
  origin : Nat
  recs : List (Nat × Nat)
  cmd : Option Nat
  rollback : Option Nat
  loss : Nat
deriving DecidableEq, Repr

/-- The Caisson beside its registers: the two banks, whether a bank is in force (ACTIVE names it), stores in order of arrival, the
first of which runs while BUSY is 1, whether the running one is its repeat, the module data in force by key (R470), and the Pier
requests that form one store, by class (cycle, records). -/
structure CsUnit where
  banks : NMap CsBank
  inForce : Bool
  queue : List CsStore
  again : Bool
  data : NMap Nat
  forming : NMap (Nat × List (Nat × Nat))
deriving DecidableEq, Repr

/-! ## Firmware update (spec/19) -/

/-- A slot in boot NOR (R481, R484): the fields of its header and its image's hash, whether magic and device of a header are present,
REFUSED, whether an install has written it since the last boot (R497), and the bytes of its image. -/
structure UpSlot where
  hdr : SlotHdr
  valid : Bool
  refused : Bool
  written : Bool
  image : List Byte
deriving DecidableEq, Repr

/-- A hop of a package's forwarding (R493, R494): whether it is wanted and done, position of the node (0 the partner or none),
whether an offer is out or chunks are being sent (0 idle, 1 offered, 2 sending), next chunk to send, chunks unanswered, chunks
acknowledged, consecutive repeats, consists skipped, and whether the 30 s wait runs. -/
structure UpHop where
  want : Bool
  done : Bool
  pos : Nat
  phase : Nat
  next : Nat
  unans : Nat
  acked : Nat
  repeats : Nat
  skipped : Nat
  waiting : Bool
deriving DecidableEq, Repr

/-- A package entry that is not EMPTY (R487, R490): manifest, chunks held as a bit mask, state, direction, install result, whether this
module's host staged it, position of the sender, the sender that transfers it now, hops UP, DOWN and partner, order of arrival, and the
bytes of each chunk held. -/
structure UpPkg where
  man : Manifest
  held : Nat
  state : Nat
  dir : Nat
  install : Nat
  origin : Bool
  from_ : Nat
  sender : Option Nat
  up : UpHop
  down : UpHop
  partner : UpHop
  age : Nat
  data : NMap (List Byte)
deriving DecidableEq, Repr

/-- A staging in progress (R491): offset at which the next accepted part must start, total size, and at execution the tag, the entry, how
many bytes of the file were taken so far, and those bytes. -/
structure UpStage where
  next : Nat
  total : Nat
  tag : Nat
  entry : Option Nat
  taken : Nat
  bytes : List Byte
deriving DecidableEq, Repr

/-- The Update unit beside its registers: slots 0 A and 1 B, package entries, count of packages taken, the staging in progress, the
install in progress (entry, start time, command), installs that wait (entry, command, automatic), entries whose DELETE waits for the
install, start and bytes of the second whose sending rate is counted, and the public keys that the OTP fuses revoke as a bit mask
(R482). -/
structure UpdUnit where
  slots : NMap UpSlot
  pkgs : NMap UpPkg
  count : Nat
  stage : Option UpStage
  installing : Option (Nat × Nat × Option Nat)
  waiting : List (Nat × Option Nat × Bool)
  deletes : List (Nat × Nat)
  rateAt : Nat
  rateBytes : Nat
  revoked : Nat
deriving DecidableEq, Repr

/-! ## Power, health, clocks (spec/02, spec/20) -/

/-- The Health monitor and the power sequence of R52 beside their registers: whether the module runs (the rails are on and no power-up
count holds it), whether step 3 of R52 has been
reached, whether the 100 ms count of the power-on reset runs, warnings notified and not re-armed (R69), and consecutive evaluations
of the process monitors that met their condition. -/
structure HmUnit where
  rails : Bool
  powerFail : Bool
  counting : Bool
  warned : Nat
  procRuns : NMap Nat
deriving DecidableEq, Repr

/-- The Clock and reset unit beside its registers: lost instances of each domain as a bit mask, domains whose count a running snapshot has
yet to return (R516), Loenpa lanes that have trained since the module reset, as a bit mask (R515). -/
structure CkrUnit where
  lost : NMap Nat
  snap : Nat
  lanes : Nat
deriving DecidableEq, Repr

/-! ## MSI-X (R41 to R43) -/

/-- One entry of the MSI-X table: message address and data, as the host wrote them. -/
structure MsixEntry where
  addr : Nat
  data : Nat
deriving DecidableEq, Repr

/-- The MSI-X table with its mask bits, and the pending-bit array. -/
structure Msix where
  entries : NMap MsixEntry
  mask : Nat
  pend : Nat
deriving DecidableEq, Repr

/-! ## What has left the module (the model's own record, DESIGN CHOICE, log 3) -/

/-- One thing the module has sent, oldest first in `Dev.out`. -/
inductive Output where
  /-- An MSI-X message (R41): vector, address and data of its table entry. -/
  | msix (vec addr data : Nat)
  /-- The value a register read returned: address and value. -/
  | read (addr value : Nat)
  /-- The frame staged for a trigger, launched by the Position unit (R270). -/
  | posFrame (trigger : Nat) (payload : List Byte)
  /-- A PTP message sent on a port: 0 Sync, 1 Announce, 2 Delay_Req, 3 Pdelay_Req, 4 Delay_Resp, 5 Pdelay_Resp, 6 Follow_Up,
  7 Pdelay_Resp_Follow_Up, with its time (R235, R236, R238). -/
  | ptp (port kind time : Nat)
  /-- What an Announce of the module as grandmaster carries (R237): port, identity, PRIORITY1, CLOCK_CLASS, PRIORITY2, timeSource, whether the
  timescale is the arbitrary one, currentUtcOffsetValid. -/
  | announce (port gm prio1 cls prio2 source : Nat) (arb utcValid : Bool)
  /-- A scheduled frame whose transmission starts: port, and its lateness in ns (R253, R254). -/
  | launched (port late : Nat) (f : LaunchFrame)
  /-- A backplane transaction at its address phase: write or read, locked, address, byte enables, data words (R397). -/
  | backplane (write locked : Bool) (addr be : Nat) (data : List Nat)
  /-- The answer to a Deck-side window access: target, status, data (R405). -/
  | deckAccess (target status data : Nat)
  /-- Process data sent: publication, sequenceCounter, topology counts, stale marking, reply, payload (R296, R297). -/
  | pd (pub seq etb opTrn : Nat) (stale reply : Bool) (payload : List Byte)
  /-- A message received and handed to the Deck controller: source, comId, session, payload (R298). -/
  | mdReceived (src comId session : Nat) (payload : List Byte)
  /-- A message sent: kind, comId, destination, session, payload (R298); kind Me answers an unknown listener (R302). -/
  | mdSent (kind comId dst session : Nat) (payload : List Byte)
  /-- An Ethernet frame that leaves a port (R281). -/
  | eth (port : Nat) (f : EgressFrame)
  /-- A frame of a legacy port: port, object or address, payload (R314, R316). -/
  | legacy (port obj : Nat) (payload : List Byte)
  /-- A master frame that starts an MVB basic period: port and tick (R317). -/
  | mvbPeriod (port tick : Nat)
  /-- A J1939 address claim of a port, 0xFE where it says that it cannot claim one (R326). -/
  | j1939 (port addr : Nat)
  /-- A WTB coupler setting asked for (R320). -/
  | wtbSwitch (setting : Nat)
  /-- A CANopen SYNC or heartbeat: port, state code, 0 for SYNC (R326). -/
  | canopen (port state : Nat)
  /-- A completion written into a completion ring: ring, index, address in host memory, the 32 bytes of the entry (R333, R337, R342). -/
  | completion (cq idx addr : Nat) (entry : List Byte)
  /-- Result bytes written to host memory (R343). -/
  | hostWrite (addr : Nat) (data : List Byte)
  /-- A journal entry mirrored to the partner at its sequence (R348). -/
  | mirror (seq : Nat) (e : JEntry)
  /-- A descriptor and its payload forwarded to the executing module (R348). -/
  | forward (ring : Nat) (desc : Desc) (payload : List Byte)
  /-- A part of an image relayed to the partner (R352). -/
  | imagePart (desc : Desc) (payload : List Byte)
  /-- ACKID mirrored to the partner (R356). -/
  | ackMirror (ring id : Nat)
  /-- A message on the Loenpa link (R367, R368). -/
  | loenpa (m : LoenpaMsg)
  /-- An update offer to a hop (0 UP, 1 DOWN, 2 partner) at a position: direction and identity (R492). -/
  | upOffer (hop pos dir identity : Nat)
  /-- An update chunk to a hop, with its data (R492). -/
  | upChunk (hop pos identity index : Nat) (data : List Byte)
  /-- A reply to an offer or chunk: position of its sender, identity, code, next chunk index (R492). -/
  | upReply (dest identity code next : Nat)
  /-- A Causeway packet that the transmitter sent whole (R437). -/
  | cwSent (port : Nat) (p : CwPacket)
  /-- A Causeway packet ended with K30.7 (R445, R450). -/
  | cwAborted (port : Nat)
deriving DecidableEq, Repr

/-- Everything of the module but its queue of waiting commands. -/
structure Dev where
  regs : NMap Nat
  captured : NMap Nat
  clk : Nat
  free : Nat
  once : NMap Nat
  out : List Output
  msix : Msix
  ev : EvUnit
  cw : List CwPort
  fio : Tri FioSlice
  pt : Tri PtSlice
  io : DeckIo
  staged : NMap (List Byte)
  img : Image
  tu : TuUnit
  bp : BootParams
  gb : GbUnit
  sw : SwUnit
  te : TeUnit
  lb : NMap LbPort
  cyc : CycUnit
  mem : Memory
  snap : Memory × Memory
  hi : HiUnit
  ks : KsUnit
  prs : Tri PierUnit
  mode : ModeUnit
  chg : ChgUnit
  dx : DxUnit
  store : ImgStore
  cs : CsUnit
  upd : UpdUnit
  hm : HmUnit
  ckr : CkrUnit
deriving DecidableEq, Repr

/-! ## The units at rest: nothing queued, held or in progress -/

/-- An empty recorder (R458). -/
def EvUnit.rest : EvUnit :=
  { intake := [], dropN := 0, dropFirst := 0, buckets := [], suppr := [], retry := false, hold := false, holdPend := false, selHi := 0
    main := [], reserve := [], corruptMain := [], corruptReserve := [], reserveFirst := 0 }
/-- A Causeway port at rest. -/
def CwPort.rest : CwPort := ⟨[], [], none, none, false, 0, none, 0, false, none, 0, 0⟩
/-- A field I/O slice at rest. -/
def FioSlice.rest : FioSlice :=
  { diCount := [], diFirst := [], rbCount := [], edges := [], pending := [], fs := [], limiter := 0, latches := [] }
/-- A position slice at rest. -/
def PtSlice.rest : PtSlice := ⟨[], 0, [], [], [], [], [], [], []⟩
/-- The Time unit at rest. -/
def TuUnit.rest : TuUnit :=
  { theta := 0, outliers := 0, acqSyncs := 0, acqAt := (0, 0), judging := false, master := 0, frac := 0, macTime := [], holds := []
    txts := [], launchQ := [], epochs := [] }
/-- The Girder at rest; the CRC register of R416 starts at all ones. -/
def GbUnit.rest : GbUnit :=
  { urgent := [], queue := [], open_ := none, release := false, results := [], lines := [], scans := [], snoop := [], snoopDead := false
    own := [], bpSince := 0, safeLeft := 0, safeFails := 0, safeMode := 0 }
/-- The Trestle at rest. -/
def TeUnit.rest : TeUnit :=
  { pdq := [], sendq := [], replies := [], mdq := [], ctlq := 0, unitNo := 0, turn := 0, lbTurn := 0, pubs := [], subs := [], seqs := []
    reasm := [], sessions := [], demand := 0, inhibit := false, asking := false, mdParts := [], sscIn := [] }
/-- The Cycle scheduler at rest. -/
def CycUnit.rest : CycUnit :=
  { runs := [], frames := [], stations := [], prevDue := [], started := [], staged := [], hk := 0, snapBuf := 0, snapSince := 0
    stepLast := none }
/-- The host interface at rest. -/
def HiUnit.rest : HiUnit :=
  { cmds := [], forwarded := [], late := [], journal := [], results := [], held := [], unread := [], rejects := [], writes := [], rr := 7
    imodAt := [], imodHeld := 0, rung := [], timed := [], d3 := false, load := none, payloads := [], evwHi := 0, jwHi := 0 }
/-- The Keystone at rest. -/
def KsUnit.rest : KsUnit :=
  { windows := [], reqs := [], releasing := [], slots := [], closedSlots := [], missed := [], frameStatus := [], agreed := [], minority := []
    faults := [], odd := none, outOfService := 0, since := 0, attemptAt := 0, aborts := 0, badPasses := 0, pages := 0, copied := 0, passBytes := 0
    passLeft := 0, copyList := [], passPages := [], rejoin := none, unexpected := [], stamps := [], holding := false, safeSw := 0, aliveSw := 0 }
/-- A Pier with nothing written and nothing in progress; its memory reads 0 where nothing has written it (DESIGN CHOICE, log 10). -/
def PierUnit.rest : PierUnit :=
  { tcm := [], mem := [], dirty := [], streams := [], closed := [], stalled := [], work := [], exch := [], published := [], faulted := []
    waiting := [], sscOut := [] }
/-- Module control at the start of a boot. -/
def ModeUnit.rest : ModeUnit :=
  { reqs := [], leaseLost := false, permitLost := false, autorun := false, bootSafe := none, imageValid := false
    resetAt := 0, stepCmd := none, forces := [], generation := 0, imageId := 0, started := false, coldOnly := false
    waiting := false, halted := false, posrst := false, noImage := none }
/-- No change in progress. -/
def ChgUnit.rest : ChgUnit :=
  { state := 0, cs := none, reverting := false, cmd := 0, lead := 0, partner := 0, fetched := false, ready := 0, failed := 0
    stampBad := false, shown := 0, ns := 0, carried := [], late := [], measured := 0, lastMeasured := 0, switched := none, await := []
    lastNs := 0, agreed := 1, carrying := none, accepted := none }
/-- The boot parameters of a module never booted (DESIGN CHOICE, log 8). -/
def BootParams.rest : BootParams :=
  { clockId := 0, savedS := 0, epochE := 0, epochNum := 0, imageId := 0, generation := 0, opSeconds := 0, powerCycles := 0, serviceNext := false
    claim := 0, cpNamed := none, slotPref := 0, trial := none, evFloor := 1 }
/-- The Duplex unit at rest. -/
def DxUnit.rest : DxUnit :=
  { slices := triAll ⟨0, 0, [], false⟩, leaseMs := 0, guardMs := 0, handshake := false, grantSeq := 0, lastGrant := none, lastReq := none
    statusAt := none, peerMode := none, claimKnown := false, epochSeq := 0, taking := none, bufs := [], sending := none, confirmed := none
    doneAt := none, assembled := none, decls := [], gbSeen := 0, gbCrc := 0xFFFFFFFF, obs := [], tkCause := 0, tkStart := 0, tkAge := 0, waitEnd := 0
    loaded := false, tkMode := 0, handover := false }
/-- An update unit with nothing held. -/
def UpdUnit.rest : UpdUnit :=
  { slots := [], pkgs := [], count := 0, stage := none, installing := none, waiting := [], deletes := [], rateAt := 0, rateBytes := 0
    revoked := 0 }
/-- No program image. -/
def Image.none : Image :=
  { segs := [], classes := [], safeList := [], pubs := [], subs := [], legacy := [], stations := [], vars := [], posTol := [], armable := []
    codeBase := 0, codeBytes := 0, stateBytes := 0, retainedAt := 0, retained := 0, init := [], events := [], regs := [] }
/-- The MSI-X table after a reset: every vector masked (PRESUMED, log 7). -/
def Msix.rest : Msix := ⟨[], 0xFFFFFFFF, 0⟩

/-- The module at the start of its first boot, after a power-on reset, with MRAM, eMMC and boot NOR as no write has touched them. -/
def Dev.rest : Dev :=
  { regs := [(fldKey Reg.HI_JOURNAL_HEAD, 1), (fldKey Reg.HI_JOURNAL_TAIL, 1), (fldKey Reg.HI_JOURNAL_FREE_ENTRIES, 32768)]
    captured := [], clk := 0, free := 0, once := [], out := [], msix := Msix.rest, ev := EvUnit.rest, cw := [CwPort.rest, CwPort.rest]
    fio := triAll FioSlice.rest, pt := triAll PtSlice.rest, io := ⟨[], 0, [], []⟩, staged := [], img := Image.none, tu := TuUnit.rest
    bp := BootParams.rest, gb := GbUnit.rest, sw := ⟨[], [], [], [], [], []⟩, te := TeUnit.rest, lb := [], cyc := CycUnit.rest, mem := []
    snap := ([], []), hi := HiUnit.rest, ks := KsUnit.rest, prs := triAll PierUnit.rest, mode := { ModeUnit.rest with posrst := true }, chg := ChgUnit.rest
    dx := DxUnit.rest, store := ⟨[], none, [], []⟩, cs := ⟨[], false, [], false, [], []⟩, upd := UpdUnit.rest
    hm := ⟨true, false, false, 0, []⟩, ckr := ⟨[], 0, 0⟩ }

/-! ## The state of the block -/

/-- The block and the commands that wait, first in, first out. -/
structure State where
  dev : Dev
  pending : List Instr
deriving DecidableEq, Repr

/-- Reasons a step could stop with a fault. -/
inductive Fault where
  /-- Raised by no command: the spec describes an effect for every row of the command table. -/
  | none
deriving DecidableEq, Repr

/-- Reasons a step could stop with a refusal. -/
inductive Refusal where
  /-- A command of the table without a meaning; raised by no command, since every row has one. It would be safe: nothing could be proved of
  what the command does. -/
  | notModelled (mnemonic : String)
deriving DecidableEq, Repr

/-- The module right after its power-on reset: every register at its Reset value, POR still held (R80), no command waits. -/
def State.reset : State := { dev := Dev.rest, pending := [] }

end Sys2Proof.Machine
end

