-- ==== Sys2Proof/Machine/Ops.lean ====
section
/-!
DEFINITION. The operations every chapter shares: reading and writing register fields, counters, the
once-per-second limits, MSI-X messages, and delivering an event to the recorder's intake (R41 to R43, R453 to R457,
R525).
-/
namespace Sys2Proof.Machine

/-! ## Register fields (R13, R16, R17) -/

/-- The value of a field. -/
def rd (d : Dev) (f : Fld) : Nat := mgetD d.regs (fldKey f) f.rst
/-- The register table with a field set; an entry equal to the reset value is not listed. -/
def regPut (m : NMap Nat) (f : Fld) (v : Nat) : NMap Nat :=
  if trunc f.w v = f.rst then mdel m (fldKey f) else mput m (fldKey f) (trunc f.w v)
/-- A field set to a value, cut to its width. -/
def wr (d : Dev) (f : Fld) (v : Nat) : Dev := { d with regs := regPut d.regs f v }
/-- Whether a one-bit field reads 1. -/
def flag (d : Dev) (f : Fld) : Bool := rd d f != 0
/-- A one-bit field set to a truth value. -/
def wrB (d : Dev) (f : Fld) (b : Bool) : Dev := wr d f (b2n b)
/-- A saturating counter raised by `k`. -/
def incBy (d : Dev) (f : Fld) (k : Nat) : Dev := wr d f (satAdd f.w (rd d f) k)
/-- A saturating counter raised by one. -/
def inc (d : Dev) (f : Fld) : Dev := incBy d f 1
/-- A wrapping counter raised by one. -/
def incW (d : Dev) (f : Fld) : Dev := wr d f (rd d f + 1)
/-- A field that keeps the largest value seen, saturating. -/
def maxTo (d : Dev) (f : Fld) (v : Nat) : Dev := wr d f (max (rd d f) (min v (2 ^ f.w - 1)))
/-- A field set to a value, saturating. -/
def wrSat (d : Dev) (f : Fld) (v : Nat) : Dev := wr d f (min v (2 ^ f.w - 1))
/-- A bit of a field set. -/
def setBitF (d : Dev) (f : Fld) (i : Nat) : Dev := wr d f (bitSet (rd d f) i)
/-- A bit of a field cleared. -/
def clrBitF (d : Dev) (f : Fld) (i : Nat) : Dev := wr d f (bitClr (rd d f) i)
/-- A bit of a field as given. -/
def putBitF (d : Dev) (f : Fld) (i : Nat) (b : Bool) : Dev := wr d f (bitPut (rd d f) i b)
/-- A bit of a field. -/
def bitF (d : Dev) (f : Fld) (i : Nat) : Bool := bitOf (rd d f) i

/-- A function applied where a condition holds. -/
def doIf (c : Bool) (f : Dev → Dev) (d : Dev) : Dev := if c then f d else d
/-- A function applied for each element, in order. -/
def forEach {α : Type} (l : List α) (f : α → Dev → Dev) (d : Dev) : Dev := l.foldl (fun d x => f x d) d

/-! ## Time (R10, R226, R231) -/

/-- One second, in ns. -/
def second : Nat := 1000000000
/-- One millisecond, in ns. -/
def msec : Nat := 1000000
/-- Schedule time S in ns. -/
def schedTime (d : Dev) : Nat := rd d Reg.TU_SCHED
/-- Whether schedule time is valid. -/
def schedValid (d : Dev) : Bool := flag d Reg.TU_STATUS_VALID

/-- The module's clock moved on, with the operating seconds that pass (R78). -/
def clkAdvance (ns : Nat) (d : Dev) : Dev :=
  let n := (d.clk + ns) / second - d.clk / second
  let d := if n = 0 then d else wr d Reg.MCTL_OP_SECONDS (rd d Reg.MCTL_OP_SECONDS + n)
  { d with clk := d.clk + ns }

/-- Whether a source that reports "at most once per second" may report again under a key, and the state in which
it has. -/
def oncePerSecond (d : Dev) (key : Nat) : Bool :=
  match mget d.once key with
  | none => true
  | some t => decide (t + second ≤ d.clk)
/-- The report noted. -/
def noteOnce (d : Dev) (key : Nat) : Dev := { d with once := mput d.once key d.clk }

/-- The boot parameters changed; after step 3 of R52 no MRAM write starts. -/
def bpSet (f : BootParams → BootParams) (d : Dev) : Dev := { d with bp := if d.hm.powerFail then d.bp else f d.bp }

/-! ## MSI-X messages (R41 to R43) -/

/-- What left the module, extended. -/
def emit (o : Output) (d : Dev) : Dev := { d with out := d.out ++ [o] }
/-- The message of a vector, sent. -/
def msixMessage (v : Nat) (d : Dev) : Dev :=
  let e := mgetD d.msix.entries v ⟨0, 0⟩
  emit (.msix v e.addr e.data) d
/-- The source of a vector fires: a message, or the pending bit where the vector is masked (R42); vectors 16 to 31
are never signalled (R41). -/
def msix (v : Nat) (d : Dev) : Dev :=
  if v < 16 then
    if bitOf d.msix.mask v then { d with msix := { d.msix with pend := bitSet d.msix.pend v } } else msixMessage v d
  else d

/-! ## Event data (R453, R525) -/

/-- The signed 32-bit item. -/
def Item.s (i : Int) : Item := .w (ofSigned 32 i)
/-- The signed 64-bit item. -/
def Item.sq (i : Int) : Item := .q (ofSigned 64 i)

/-- The bytes laid out so far followed by an item (R525). -/
def layItem (acc : List Byte) : Item → List Byte
  | .w v => acc ++ leBytes 4 v
  | .q v => acc ++ List.replicate ((8 - acc.length % 8) % 8) 0 ++ leBytes 8 v
  | .raw l => acc ++ l
/-- The layout of items while they fit into 28 bytes; the first that does not fit ends it (R525). -/
def layItems (acc : List Byte) : List Item → List Byte
  | [] => acc
  | i :: r => if (layItem acc i).length ≤ 28 then layItems (layItem acc i) r else acc
/-- The data bytes of an event. -/
def evData (l : List Item) : List Byte := layItems [] l

/-! ## The recorder's intake (R455 to R457) -/

/-- The burst of a code's own bucket: the lowest used override that names it, else EV_CFG (R456). `none`: exempt. -/
def bucketBurst (d : Dev) (code : Nat) : Option Nat :=
  match firstOf (fun k => rd d (Reg.EV_OVR_CODE k) == code && code != 0) (List.range 16) with
  | none => some (rd d Reg.EV_CFG_BURST)
  | some k =>
    if flag d (Reg.EV_OVR_NO_LIMIT k) then none
    else if rd d (Reg.EV_OVR_BURST k) = 0 then some (rd d Reg.EV_CFG_BURST)
    else some (rd d (Reg.EV_OVR_BURST k))

/-- Whether an event is limited: not CRITICAL, not a code 0x81xx, not the power-fail record, not exempt (R456). -/
def limitedBurst (d : Dev) (e : EvEntry) : Option Nat :=
  if e.sev = 4 ∨ e.code / 256 = 0x81 ∨ e.code = Ev.POWER_FAIL then none else bucketBurst d e.code

/-- Whether the intake has an entry free for a severity: 16 of 256 are reserved for CRITICAL events (R455). -/
def intakeRoom (d : Dev) (sev : Nat) : Bool :=
  if sev = 4 then decide (d.ev.intake.length < 256) else decide (d.ev.intake.length < 240)

/-- An entry placed at the end of the intake. -/
def intakePush (e : EvEntry) (d : Dev) : Dev := { d with ev := { d.ev with intake := d.ev.intake ++ [e] } }

/-- The stamp of an event that enters now (R453, R455). -/
def stamp (d : Dev) (code sev src pier count : Nat) (summary : Bool) (data : List Byte) : EvEntry :=
  { time := if schedValid d then schedTime d else 0, timeInvalid := !schedValid d
    opSeconds := rd d Reg.MCTL_OP_SECONDS, powerCycles := rd d Reg.MCTL_POWER_CYCLES
    code := code, sev := sev, src := src, pier := pier, summary := summary, count := count, data := data }

/-- An event that finds no free entry: counted, and the first one's time kept for record 0x8103 (R455). -/
def intakeDrop (e : EvEntry) (d : Dev) : Dev :=
  let d := inc d Reg.EV_COUNT_DROPPED
  { d with ev := { d.ev with dropN := d.ev.dropN + 1, dropFirst := if d.ev.dropN = 0 then e.time else d.ev.dropFirst } }

/-- An event into the intake, or dropped. -/
def intakeAdd (e : EvEntry) (d : Dev) : Dev := if intakeRoom d e.sev then intakePush e d else intakeDrop e d

/-- Record 0x8103 once space has freed after drops (R455). -/
def intakeOverflow (d : Dev) : Dev :=
  if d.ev.dropN ≠ 0 ∧ intakeRoom d 2 then
    let e := stamp d Ev.EV_INTAKE_OVERFLOW 2 13 3 1 false (evData [.w d.ev.dropN, .q d.ev.dropFirst])
    intakePush e { d with ev := { d.ev with dropN := 0, dropFirst := 0 } }
  else d

/-- A suppressed event: counted and held for the summary (R456, R457). -/
def suppress (e : EvEntry) (d : Dev) : Dev :=
  let d := inc d Reg.EV_COUNT_SUPPRESSED
  let s := match mget d.ev.suppr e.code with
    | none => ⟨1, e.time, e.time, e.sev⟩
    | some s => { s with count := s.count + 1, last := e.time }
  { d with ev := { d.ev with suppr := mput d.ev.suppr e.code s } }

/-- A source delivers a stamped event: limited by its code's bucket, then placed or dropped (R455, R456). -/
def intake (e : EvEntry) (d : Dev) : Dev :=
  let d := intakeOverflow d
  match limitedBurst d e with
  | none => intakeAdd e d
  | some burst =>
    let tokens := mgetD d.ev.buckets e.code burst
    if tokens = 0 then suppress e d
    else if intakeRoom d e.sev then
      intakePush e { d with ev := { d.ev with buckets := mput d.ev.buckets e.code (tokens - 1) } }
    else intakeDrop e d

/-- The summary record of a code's suppressions (R457). -/
def summaryEntry (d : Dev) (code : Nat) (s : Suppr) : EvEntry :=
  stamp d Ev.EV_SUPPRESSED s.sev 13 3 (min s.count 0xFFFF) true
    (leBytes 2 code ++ leBytes 2 0 ++ leBytes 4 s.count ++ leBytes 8 s.first ++ leBytes 8 s.last)
/-- The summary of a code, if suppressions wait for one (R457). -/
def summarize (code : Nat) (d : Dev) : Dev :=
  match mget d.ev.suppr code with
  | none => d
  | some s => intakeAdd (summaryEntry d code s) { d with ev := { d.ev with suppr := mdel d.ev.suppr code } }
/-- The summaries of every code, at the entry into SAFE (R457). -/
def summarizeAll (d : Dev) : Dev := forEach (d.ev.suppr.map (·.1)) summarize d

/-- A system event with a severity given (CRITICAL where it is recorded because of an entry into SAFE, R454). -/
def recordSev (sev : Nat) (code pier : Nat) (items : List Item) (d : Dev) : Dev :=
  intake (stamp d code sev (srcOf code) pier 1 false (evData items)) d
/-- A system event of no Pier (R453, R521). -/
def record (code : Nat) (items : List Item) (d : Dev) : Dev := recordSev (sevOf code) code 3 items d
/-- A system event that carries a Pier (R453, R454). -/
def recordP (code : Nat) (p : Pier) (items : List Item) (d : Dev) : Dev := recordSev (sevOf code) code (pierIdx p) items d
/-- An event recorded at most once per second for each index. -/
def recordOnce (code idx : Nat) (items : List Item) (d : Dev) : Dev :=
  if oncePerSecond d (code * 0x10000 + idx) then record code items (noteOnce d (code * 0x10000 + idx)) else d
/-- The same with a Pier in the record. -/
def recordOnceP (code idx : Nat) (p : Pier) (items : List Item) (d : Dev) : Dev :=
  let k := code * 0x10000 + idx
  if oncePerSecond d k then recordP code p items (noteOnce d k) else d
/-- An event of a source block that is not the code's own (R11, R35). -/
def recordFrom (src code : Nat) (items : List Item) (d : Dev) : Dev :=
  intake (stamp d code (sevOf code) src 3 1 false (evData items)) d

end Sys2Proof.Machine
end

