-- ==== Sys2Proof/Machine/Status.lean ====
section
/-!
DEFINITION. The conditions the chapters ask of the module as a whole: its mode (R74), the Piers in service, its
lease and the lease timers of the slices (R24, R85, R365).
-/
namespace Sys2Proof.Machine

/-- Mode codes of R74. -/
def mBOOT : Nat := 0
/-- STOP. -/
def mSTOP : Nat := 1
/-- RUN. -/
def mRUN : Nat := 2
/-- HOLD. -/
def mHOLD : Nat := 3
/-- STANDBY. -/
def mSTANDBY : Nat := 4
/-- SAFE. -/
def mSAFE : Nat := 5
/-- SERVICE. -/
def mSERVICE : Nat := 6

/-- The current mode code. -/
def modeOf (d : Dev) : Nat := rd d Reg.MCTL_MODE_MODE
/-- Whether the mode is the one given. -/
def modeIs (d : Dev) (m : Nat) : Bool := modeOf d == m
/-- The module is in RUN. -/
def inRun (d : Dev) : Bool := modeIs d mRUN
/-- Whether a Pier is in service (KS_STATUS.IN_SERVICE). -/
def inService (d : Dev) (p : Pier) : Bool := bitF d Reg.KS_STATUS_IN_SERVICE (pierIdx p)
/-- Whether a Pier is isolated or out of service (KS_STATUS.ISOLATED). -/
def isolated (d : Dev) (p : Pier) : Bool := bitF d Reg.KS_STATUS_ISOLATED (pierIdx p)
/-- The Piers in service, in order. -/
def servicePiers (d : Dev) : List Pier := allPiers.filter (inService d)
/-- The Piers that vote: in service and not isolated. -/
def votingPiers (d : Dev) : List Pier := allPiers.filter fun p => inService d p && !isolated d p
/-- Simplex configuration (MCTL_CFG.DUPLEX 0). -/
def simplex (d : Dev) : Bool := !flag d Reg.MCTL_CFG_DUPLEX
/-- The module holds a lease, or is simplex (R85, R143). -/
def leaseHeld (d : Dev) : Bool := simplex d || rd d Reg.DX_STATUS_LEASE != 0
/-- The lease timer of a slice is running; in simplex the timers are held satisfied (R24, R85). -/
def sliceLease (d : Dev) (p : Pier) : Bool := bitF d Reg.FIO_STATUS_LEASE_OK (pierIdx p)
/-- What the image says of a class. -/
def imgClass (d : Dev) (c : Nat) : ImgClass := mgetD d.img.classes c ⟨0, [], 0, [], 0⟩
/-- The state of a lockstep pair: 0 both copies, 1 copy 1 alone, 2 copy 2 alone, 3 halted, 4 failed (R159). -/
def pairState (d : Dev) (u : Nat) : Nat := bitField (rd d Reg.KS_PAIR_STATE_UNIT) (4 * (u - 1)) 4
/-- A lockstep pair is halted or failed, so that its unit does nothing (R160). -/
def pairHalted (d : Dev) (u : Nat) : Bool := decide (3 ≤ pairState d u)
/-- A majority of the slices in service meet a test: at least two, or both of two. -/
def majority (d : Dev) (f : Pier → Bool) : Bool :=
  let v := votingPiers d
  decide (v.length < 2 * (v.filter f).length)

end Sys2Proof.Machine
end

