-- ==== Sys2Proof/Machine/CausewayOps.lean ====
section
/-!
DEFINITION. The two Causeway ports (spec/16): queues, open packets, hold output, discards, freezing into the input
frame, and what BOOT, SAFE and EN 0 do to a port (R450).
-/
namespace Sys2Proof.Machine

/-- A port with nothing queued. -/
def cwEmpty : CwPort := ⟨[], [], none, none, false, 0, none, 0, false, none, 0, 0⟩
/-- Port `n`. -/
def cwPort (d : Dev) (n : Nat) : CwPort := d.cw.getD n cwEmpty
/-- Port `n` changed. -/
def cwSet (n : Nat) (f : CwPort → CwPort) (d : Dev) : Dev := { d with cw := listSet d.cw n (f (cwPort d n)) }

/-- The port acts: enabled, boot step 8 done, and not in SAFE (R450). -/
def cwActive (d : Dev) (n : Nat) : Bool :=
  flag d (Reg.CW_CFG_EN n) && !modeIs d mSAFE && decide (8 ≤ rd d Reg.MCTL_BOOT_STEP)

/-- Words of a list of packets. -/
def packetWords (l : List CwPacket) : Nat := (l.map (·.words.length)).sum
/-- Words of the packet being read or sent. -/
def optWords (o : Option CwPacket) : Nat := match o with
  | none => 0
  | some p => p.words.length
/-- Entries an open packet reserves. -/
def openLen (o : Option CwOpen) : Nat := match o with
  | none => 0
  | some p => p.len
/-- TX entries occupied by complete packets and the one on the line. -/
def cwTxUsed (p : CwPort) : Nat := packetWords p.txq + optWords p.sending
/-- TX entries occupied or reserved (CW_TX_LEVEL.WORDS). -/
def cwTxFill (p : CwPort) : Nat := cwTxUsed p + openLen p.appOpen + openLen p.deckOpen
/-- RX entries occupied, the packet in reception included (R447). -/
def cwRxFill (p : CwPort) : Nat := packetWords p.rxq + optWords p.rxCur + p.rxPart
/-- The capacity of a queue (R439). -/
def cwEntries : Nat := 16384

/-- HO driven to a level, its rises counted. -/
def cwSetHo (n : Nat) (b : Bool) (d : Dev) : Dev :=
  if b && !flag d (Reg.CW_STATUS_HO n) then inc (wrB d (Reg.CW_STATUS_HO n) true) (Reg.CW_HOLD_HO_COUNT n)
  else wrB d (Reg.CW_STATUS_HO n) b
/-- HO after a change of the RX fill: 1 from HIGH on, 0 again only at LOW or below (R447). -/
def cwHold (n : Nat) (d : Dev) : Dev :=
  let fill := cwRxFill (cwPort d n)
  if !cwActive d n then cwSetHo n true d
  else if rd d (Reg.CW_WM_HIGH n) ≤ fill then cwSetHo n true d
  else if fill ≤ rd d (Reg.CW_WM_LOW n) then cwSetHo n false d
  else d

/-- Both queues emptied and the open packets discarded (R450); a packet on the line ends with K30.7. -/
def cwClear (n : Nat) (d : Dev) : Dev :=
  let d := match (cwPort d n).sending with
    | none => d
    | some _ => emit (.cwAborted n) d
  let d := wrB (cwSet n (fun p => { cwEmpty with lost := p.lost }) d) (Reg.CW_STATUS_TX_BUSY n) false
  cwSetHo n true d
/-- Both ports as in SAFE or BOOT (R450). -/
def cwClearAll (d : Dev) : Dev := cwClear 1 (cwClear 0 d)

/-- The oldest complete packet of the highest priority (R440, R441). -/
def cwBest (q : List CwPacket) : Option CwPacket :=
  q.foldl (fun best p => match best with
    | none => some p
    | some b => if b.prio < p.prio then some p else some b) none
/-- The queue without the first occurrence of a packet. -/
def cwRemove (q : List CwPacket) (p : CwPacket) : List CwPacket := q.erase p
/-- Up to `k` packets in the order of R441, and the rest. -/
def cwTake : Nat → List CwPacket → List CwPacket × List CwPacket
  | 0, q => ([], q)
  | k + 1, q =>
    match cwBest q with
    | none => ([], q)
    | some p => let r := cwTake k (cwRemove q p)
      (p :: r.1, r.2)

/-- One more packet refused or discarded since reset (R449). -/
def cwLost (n : Nat) (d : Dev) : Dev := cwSet n (fun p => { p with lost := p.lost + 1 }) d
/-- A counted form error (R444). -/
def cwForm (n : Nat) (d : Dev) : Dev := inc (cwLost n d) (Reg.CW_TX_ERR_FORM n)

/-- The refusal of a packet: its count, and event 0x7021 with port, path (0 application, 1 Deck), reason and length,
at most once per second per port (R443). -/
def cwRefuse (n path reason len : Nat) (d : Dev) : Dev :=
  let f := if reason = 0 then Reg.CW_TX_ERR_LEASE n else if reason = 1 then Reg.CW_TX_ERR_OVERSIZE n
    else Reg.CW_TX_ERR_NOSPACE n
  recordOnce Ev.CW_TX_REFUSED n [.w n, .w path, .w reason, .w len] (inc (cwLost n d) f)

/-- The first check of R443 that fails: 0 lease, 1 length, 2 space. -/
def cwOpenCheck (n : Nat) (app : Bool) (len : Nat) (d : Dev) : Option Nat :=
  let p := cwPort d n
  if app ∧ !(inRun d && leaseHeld d) then some 0
  else if len < 1 ∨ 4096 < len then some 1
  else if cwEntries < cwTxUsed p + openLen (if app then p.deckOpen else p.appOpen) + len then some 2
  else none

/-- An open packet of a path, discarded and counted in FORM (R444). -/
def cwDropOpen (n : Nat) (app : Bool) (d : Dev) : Dev :=
  cwForm n (cwSet n (fun p => if app then { p with appOpen := none } else { p with deckOpen := none }) d)

/-- A packet complete in the TX queue. -/
def cwTxComplete (n : Nat) (prio : Nat) (words : List Nat) (d : Dev) : Dev :=
  cwSet n (fun p => { p with txq := p.txq ++ [⟨prio, words, 0⟩] }) d

/-- The discard of a received packet: reason 0 CODE, 1 OVERSIZE, 2 NOSPACE, 3 CRC; event 0x7022 at most once per
second per port (R446). -/
def cwDiscard (n reason : Nat) (d : Dev) : Dev :=
  let f := if reason = 0 then Reg.CW_RX_ERR_CODE n else if reason = 1 then Reg.CW_RX_ERR_OVERSIZE n
    else if reason = 2 then Reg.CW_RX_ERR_NOSPACE n else Reg.CW_RX_ERR_CRC n
  let d := cwSet n (fun p => { p with rxPart := 0 }) (inc (cwLost n d) f)
  cwHold n (recordOnce Ev.CW_RX_DISCARD n [.w n, .w reason] d)

/-- The RX queue emptied at the entry into RUN with FLUSH (R449). -/
def cwFlush (n : Nat) (d : Dev) : Dev :=
  if flag d (Reg.CW_CFG_FLUSH n) && cwActive d n then cwHold n (cwSet n (fun p => { p with rxq := [], rxCur := none, rxPos := 0 }) d) else d

/-- The packets frozen into the input frame at a due tick of the port's class (R449). -/
def cwFreeze (n cls : Nat) (d : Dev) : List CwPacket × Dev :=
  if rd d (Reg.CW_CFG_CLASS n) = cls ∧ cwActive d n then
    let t := cwTake (rd d (Reg.CW_CFG_RX_MAX n)) (cwPort d n).rxq
    (t.1, cwHold n (cwSet n (fun p => { p with rxq := t.2 }) d))
  else ([], d)

/-- Both ports stop with their clock: LINK reads 0 (R505). -/
def cwStop (n : Nat) (d : Dev) : Dev :=
  let d := if flag d (Reg.CW_STATUS_LINK n) then
      record Ev.CW_LINK [.w n, .w 1] (inc (wrB d (Reg.CW_STATUS_LINK n) false) (Reg.CW_PAR_LINK_DOWN n))
    else d
  cwClear n d

end Sys2Proof.Machine
end

