-- ==== Sys2Proof/Machine/Causeway.lean ====
section
/-!
DEFINITION. What the Causeway commands do (spec/16).
-/
namespace Sys2Proof.Machine

/-- CW_TX_OPEN: a Deck-controller write of CW_TX_OPEN_n opens a packet and reserves its entries, or refuses it
(R443); a packet still open on the path is discarded (R444). -/
def cwTxOpen (n prio len : Nat) (d : Dev) : Dev :=
  if cwActive d n then
    let d := if (cwPort d n).deckOpen.isSome then cwDropOpen n false d else d
    let d := cwSet n (fun p => { p with deckRefused := 0 }) d
    match cwOpenCheck n false len d with
    | some r => cwSet n (fun p => { p with deckRefused := len }) (cwRefuse n 1 r len d)
    | none => cwSet n (fun p => { p with deckOpen := some ⟨prio, len, []⟩ }) d
  else d

/-- CW_TX_DATA: the next word of the open Deck packet, complete at LEN; with no packet open the write is discarded
and counted, but for the words of a refused packet (R443, R444). -/
def cwTxData (n w : Nat) (d : Dev) : Dev :=
  if cwActive d n then
    match (cwPort d n).deckOpen with
    | none =>
      if (cwPort d n).deckRefused = 0 then cwForm n d
      else cwSet n (fun p => { p with deckRefused := p.deckRefused - 1 }) d
    | some o =>
      if o.words.length + 1 = o.len then
        cwTxComplete n o.prio (o.words ++ [w]) (cwSet n (fun p => { p with deckOpen := none }) d)
      else cwSet n (fun p => { p with deckOpen := some { o with words := o.words ++ [w] } }) d
  else d

/-- The words of a payload, least significant byte first. -/
def wordsOf : List Byte → List Nat
  | a :: b :: c :: e :: r => ofBytes [a, b, c, e] :: wordsOf r
  | _ => []

/-- A part added to the open application packet, which the last part completes or ends (R442, R444). -/
def cwPushPart (n : Nat) (o : CwOpen) (last : Bool) (payload : List Byte) (d : Dev) : Dev :=
  if payload.length % 4 ≠ 0 then cwDropOpen n true d
  else
    let ws := o.words ++ wordsOf payload
    if last then
      if ws.length = o.len then cwTxComplete n o.prio ws (cwSet n (fun p => { p with appOpen := none }) d)
      else cwDropOpen n true d
    else cwSet n (fun p => { p with appOpen := some { o with words := ws } }) d

/-- CW_TX_PUSH: a released push request, its attributes holding priority, last-part flag, first-part flag and length
(R442 to R444). -/
def cwTxPush (n attr : Nat) (payload : List Byte) (d : Dev) : Dev :=
  let last := bitOf attr 6
  if cwActive d n then
    if bitOf attr 7 then
      let len := bitField attr 8 13
      let d := if (cwPort d n).appOpen.isSome then cwDropOpen n true d else d
      match cwOpenCheck n true len d with
      | some r => cwSet n (fun p => { p with appRefused := !last }) (cwRefuse n 0 r len d)
      | none =>
        let o : CwOpen := ⟨bitField attr 0 3, len, []⟩
        cwPushPart n o last payload (cwSet n (fun p => { p with appOpen := some o, appRefused := false }) d)
    else if (cwPort d n).appRefused then cwSet n (fun p => { p with appRefused := !last }) d
    else match (cwPort d n).appOpen with
      | none => cwForm n d
      | some o => cwPushPart n o last payload d
  else d

/-- CW_PACKET_TX_START: at a packet boundary with HI at 0 the oldest packet of the highest priority starts (R440);
a word that fails parity ends it with K30.7 and removes it (R445). -/
def cwTxStart (n : Nat) (parityBad : Bool) (d : Dev) : Dev :=
  if cwActive d n && !flag d (Reg.CW_STATUS_HI n) && (cwPort d n).sending.isNone then
    match cwBest (cwPort d n).txq with
    | none => d
    | some p =>
      let d := cwSet n (fun q => { q with txq := cwRemove q.txq p }) d
      if parityBad then
        record Ev.CW_PARITY [.w n, .w 0] (emit (.cwAborted n) (inc d (Reg.CW_PAR_TX n)))
      else wrB (cwSet n (fun q => { q with sending := some p }) d) (Reg.CW_STATUS_TX_BUSY n) true
  else d

/-- CW_PACKET_TX_DONE: the end character and an idle pair have been sent (R437). -/
def cwTxDone (n : Nat) (d : Dev) : Dev :=
  match (cwPort d n).sending with
  | none => d
  | some p =>
    incW (wrB (cwSet n (fun q => { q with sending := none }) (emit (.cwSent n p) d)) (Reg.CW_STATUS_TX_BUSY n) false)
      (Reg.CW_TX_CNT n)

/-- CW_PACKET_RECEIVED: a received packet ends and enters the RX queue, or is discarded for the first reason of R446
(R441). The end of a packet already discarded for want of space changes nothing further. -/
def cwReceived (n header : Nat) (words : List Nat) (codeError crcGood : Bool) (d : Dev) : Dev :=
  let p := cwPort d n
  if !cwActive d n then d
  else if p.rxIgnore then cwSet n (fun p => { p with rxIgnore := false }) d
  else if codeError then cwDiscard n 0 d
  else if 4096 < words.length then cwDiscard n 1 d
  else if cwEntries < packetWords p.rxq + optWords p.rxCur + words.length then cwDiscard n 2 d
  else if !crcGood ∨ 8 ≤ header then cwDiscard n 3 d
  else
    cwHold n (incW (cwSet n (fun p => { p with rxPart := 0, rxq := p.rxq ++ [⟨header % 8, words, schedTime d⟩] }) d)
      (Reg.CW_RX_CNT n))

/-- CW_LINK_UP: the receiver is synchronised (R438). -/
def cwLinkUp (n : Nat) (d : Dev) : Dev :=
  if flag d (Reg.CW_STATUS_LINK n) then d else record Ev.CW_LINK [.w n, .w 0] (wrB d (Reg.CW_STATUS_LINK n) true)

/-- CW_LINK_LOSS: synchronisation is lost; a packet in reception is discarded and counted in CODE (R438, R446). -/
def cwLinkLoss (n : Nat) (d : Dev) : Dev :=
  if flag d (Reg.CW_STATUS_LINK n) then
    let d := if (cwPort d n).rxPart = 0 then d else cwDiscard n 0 d
    let d := cwSet n (fun p => { p with rxIgnore := false }) d
    record Ev.CW_LINK [.w n, .w 1] (inc (wrB d (Reg.CW_STATUS_LINK n) false) (Reg.CW_PAR_LINK_DOWN n))
  else d

/-- CW_HOLD_IN_CHANGE: the filtered hold input takes a level; its rises are counted (R447). -/
def cwHoldIn (n : Nat) (level : Bool) (d : Dev) : Dev :=
  let d' := wrB d (Reg.CW_STATUS_HI n) level
  if level && !flag d (Reg.CW_STATUS_HI n) then inc d' (Reg.CW_HOLD_HI_COUNT n) else d'

/-- CW_RX_DATA_READ: a Deck read returns the next word of the head packet and removes the packet after its last word;
with none held it returns 0 (CW_RX_DATA_n). A word that fails parity removes its packet and is counted in CW_PAR_n. -/
def cwRxDataRead (n : Nat) (parityBad : Bool) (d : Dev) : Dev :=
  let a := (Reg.CW_RX_DATA n).addr
  let p := cwPort d n
  let cur := match p.rxCur with
    | some c => some c
    | none => cwBest p.rxq
  match cur with
  | none => emit (.read a 0) d
  | some c =>
    let rest := if p.rxCur.isSome then p.rxq else cwRemove p.rxq c
    let w := c.words.getD p.rxPos 0
    if parityBad then
      cwHold n (record Ev.CW_PARITY [.w n, .w 1]
        (inc (cwSet n (fun q => { q with rxq := rest, rxCur := none, rxPos := 0 }) (emit (.read a 0) d)) (Reg.CW_PAR_RX n)))
    else if c.words.length ≤ p.rxPos + 1 then
      cwHold n (cwSet n (fun q => { q with rxq := rest, rxCur := none, rxPos := 0 }) (emit (.read a w) d))
    else cwSet n (fun q => { q with rxq := rest, rxCur := some c, rxPos := p.rxPos + 1 }) (emit (.read a w) d)

/-- CW_WM_WRITE: the watermarks are set, or the write is refused with WREJ (R448). -/
def cwWmWrite (n high low : Nat) (d : Dev) : Dev :=
  if 64 ≤ high ∧ high ≤ 12224 ∧ low + 64 ≤ high then cwHold n (wr (wr d (Reg.CW_WM_HIGH n) high) (Reg.CW_WM_LOW n) low)
  else wrB d (Reg.CW_STATUS_WREJ n) true

/-- CW_RX_FILL_HIGH: a data word of the packet in reception arrives, its words so far given; HO follows the fill, and
a word that finds every entry occupied discards the packet (R446, R447). -/
def cwRxFillHigh (n wordsSoFar : Nat) (d : Dev) : Dev :=
  let p := cwPort d n
  if !cwActive d n ∨ p.rxIgnore then d
  else if cwEntries < packetWords p.rxq + optWords p.rxCur + wordsSoFar then
    cwSet n (fun p => { p with rxIgnore := true }) (cwDiscard n 2 d)
  else cwHold n (cwSet n (fun p => { p with rxPart := wordsSoFar }) d)

end Sys2Proof.Machine
end

