-- ==== Sys2Proof/Machine/Memory.lean ====
section
/-!
DEFINITION. The byte memory of the Deck (R10, R32, R177): one canonical list of cells, where an unlisted byte reads 0 (DESIGN CHOICE, log 2).
-/
namespace Sys2Proof.Machine

/-- The byte at an address; an unlisted byte reads 0. -/
def Memory.byte (m : Memory) (a : Nat) : Byte := mgetD m a 0
/-- A byte written; a byte 0 is not listed. -/
def Memory.put (m : Memory) (a : Nat) (b : Byte) : Memory := if b = 0 then mdel m a else mput m a b
/-- Bytes written at rising addresses. -/
def Memory.putBytes (m : Memory) (a : Nat) : List Byte → Memory
  | [] => m
  | b :: r => Memory.putBytes (Memory.put m a b) (a + 1) r
/-- The `n` bytes from an address on. -/
def Memory.bytes (m : Memory) (a n : Nat) : List Byte := (List.range n).map fun i => Memory.byte m (a + i)
/-- The canonical form: addresses strictly rise and no cell is 0. -/
def Memory.wf (m : Memory) : Bool := mwf m && m.all fun c => c.2 != 0

/-- First address of the process image (R32). -/
def imageBase : Nat := 0x10000000
/-- Its size, 4 MiB. -/
def imageSize : Nat := 0x400000
/-- First address of the telegram buffers, 2 MiB (R32). What they hold stands in State under the units' own names. -/
def telegramBase : Nat := imageBase + imageSize
/-- First address of the queues, 2 MiB (R32): host commands, backplane results, message data, event records, under the units' own names. -/
def queueBase : Nat := telegramBase + 0x200000
/-- The end of Deck SRAM. -/
def deckSramEnd : Nat := queueBase + 0x200000
/-- The cells of the process image. -/
def imageCells (d : Dev) : Memory := d.mem.filter fun c => decide (imageBase ≤ c.1) && decide (c.1 < imageBase + imageSize)

/-- The BAR4 snapshot written into the buffer the host does not read, the buffers switched, and HI_SNAP_SEQ raised (R40,
R179). -/
def snapshotWrite (d : Dev) : Dev :=
  let k := 1 - d.cyc.snapBuf
  let snap := if k = 0 then (imageCells d, d.snap.2) else (d.snap.1, imageCells d)
  let d := { d with snap := snap, cyc := { d.cyc with snapBuf := k, snapSince := d.clk } }
  incW d Reg.HI_SNAP_SEQ

end Sys2Proof.Machine
end

