-- ==== Sys2Proof/Config.lean ====
section
/-!
DEFINITION. What an implementation fixes and the spec does not, and the free values: constants with no body, so that
no proof can see what they are (R424 thresholds, R229 and R239 servo).
-/
namespace Sys2Proof

/-- A fresh free value each time the state's counter advances (DESIGN CHOICE, log 6). -/
opaque Config.freeValue : Nat → BitVec 64
/-- Where in its tolerance the LOW threshold of a slice lies, in mV above 17,500 modulo 1001 (R424). -/
opaque Config.fsLowTrim : Nat → BitVec 16
/-- Where in its tolerance the MISSING threshold of a slice lies, in mV above 8,500 modulo 1001 (R424). -/
opaque Config.fsMissingTrim : Nat → BitVec 16

/-- The safety code of a vital data packet by SID, etbTopoCnt and the packet up to it: SDT version 2 of IEC 61375-2-3, which the spec names and
does not state (R299). -/
opaque Config.safetyCode : Nat → Nat → List (BitVec 8) → BitVec 32

end Sys2Proof
end

