-- ==== Sys2Proof/Machine/TimeOps.lean ====
section
/-!
DEFINITION. The Time unit (spec/08): setting and holding schedule time, the servo states of R241, path delay steps,
epochs, scheduled launch and the timestamp queues.
-/
namespace Sys2Proof.Machine

/-- Servo states of R241. -/
def tsUNSET : Nat := 0
/-- ACQUIRE. -/
def tsACQUIRE : Nat := 1
/-- TRACKING. -/
def tsTRACKING : Nat := 2
/-- HOLDOVER. -/
def tsHOLDOVER : Nat := 3
/-- DISCONTINUITY. -/
def tsDISCONTINUITY : Nat := 4
/-- GRANDMASTER. -/
def tsGRANDMASTER : Nat := 5
/-- FREE. -/
def tsFREE : Nat := 6

/-- The next free value: nothing constrains it (DESIGN CHOICE, log 6). -/
def freeNat (d : Dev) : Nat := (Config.freeValue d.free).toNat
/-- The counter of free values moved on. -/
def nextFree (d : Dev) : Dev := { d with free := d.free + 1 }

/-- The servo state. -/
def tuState (d : Dev) : Nat := rd d Reg.TU_STATUS_STATE
/-- The epoch offset E, signed. -/
def epochE (d : Dev) : Int := toSigned 64 (rd d Reg.TU_EPOCH)
/-- Train time S + E as a 64-bit pattern (R228). -/
def trainTime (d : Dev) : Nat := ofSigned 64 ((schedTime d : Int) + epochE d)
/-- SOURCE of TU_CFG: 0 FREE, 1 NO_GM, 2 AUTO, 3 GM_ONLY (R237). -/
def tuSource (d : Dev) : Nat := rd d Reg.TU_CFG_SOURCE
/-- Whether a port takes part in PTP (R235). -/
def ptpPort (d : Dev) (p : Nat) : Bool := bitF d Reg.TU_CFG_PORT_EN p && tuSource d != 0
/-- The Time unit's own part changed. -/
def tuSet (f : TuUnit → TuUnit) (d : Dev) : Dev := { d with tu := f d.tu }

/-- The floor plus 1 s, below which the first schedule time never lies (R231). -/
def timeFloor (d : Dev) : Nat := d.bp.savedS + second

/-- The rate r of schedule time in units of 10⁻¹² (R229, R242): 1 + f + s, f held in units of 0.001 ppb and s in ns/s. -/
def schedRate (d : Dev) : Nat :=
  (1000000000000 + toSigned 32 (rd d Reg.TU_FREQ) + 1000 * toSigned 32 (rd d Reg.TU_SLEW_NOW)).toNat
/-- Schedule time after `ns` of the module's clock, with the part of a nanosecond that is over (R229, R242). -/
def schedAfter (ns : Nat) (d : Dev) : Nat × Nat :=
  let q := ns * schedRate d + d.tu.frac
  (schedTime d + q / 1000000000000, q % 1000000000000)
/-- The time of the module's clock in which schedule time runs on by `ns`. -/
def clockFor (ns : Nat) (d : Dev) : Nat := ns * 1000000000000 / max 1 (schedRate d)

/-- The copy of schedule time that a MAC keeps, as last realigned (R248). -/
def macTime (d : Dev) (port : Nat) : Nat := mgetD d.tu.macTime port 0
/-- The copies of the six MACs realigned (R248). -/
def macsRealign (d : Dev) : Dev := tuSet (fun t => { t with macTime := (List.range 6).map fun p => (p, schedTime d) }) d
/-- A time on the copy of a MAC: none before its last realignment or more than a microsecond after it (R248). -/
def macNow (d : Dev) (port now : Nat) : Nat := max (macTime d port) (min now (macTime d port + 1000))
/-- A latency of a port for the link speed in use (R249). -/
def portLat (d : Dev) (port : Nat) (l1g l100 : Fld) : Nat := if rd d (Reg.SW_PORT_STAT_SPEED port) = 1 then rd d l100 else rd d l1g
/-- A receive timestamp, no later than the MAC's copy allows, corrected to the reference plane: the frame passed the contacts that much
earlier (R248, R249; DEDUCED, log 161). -/
def rxStamp (d : Dev) (port t : Nat) : Nat :=
  min t (macTime d port + 1000) - portLat d port (Reg.TU_PORT_RXLAT_LAT_1G port) (Reg.TU_PORT_RXLAT_LAT_100M port)
/-- A transmit timestamp corrected to the reference plane, which the frame passes that much later (R249; DEDUCED, log 161). -/
def txStamp (d : Dev) (port t : Nat) : Nat :=
  trunc 64 (t + portLat d port (Reg.TU_PORT_TXLAT_LAT_1G port) (Reg.TU_PORT_TXLAT_LAT_100M port))

/-- Schedule time set for the first time in a state, with event 0x3001 (R232, R233). The number of the current tick
follows it (R165), the scheduling tick in STOP too (R197). -/
def timeStart (st s : Nat) (d : Dev) : Dev :=
  let d := wrB (wr (wr d Reg.TU_SCHED s) Reg.TU_STATUS_STATE st) Reg.TU_STATUS_VALID true
  let d := wrB (wr d Reg.CYC_TICK (s / 125000)) Reg.CYC_STATUS_TICK_VALID true
  let d := if modeIs d mSTOP then wr d Reg.CYC_VTICK (s / 125000) else d
  record Ev.TIME_VALID [.w st, .q s, .q (rd d Reg.TU_EPOCH)] (macsRealign (tuSet (fun t => { t with frac := 0 }) d))

/-- The discontinuity reported: event 0x3002 with the last θ and the grandmaster, vector 14 (R243). -/
def timeDiscontinuity (d : Dev) : Dev :=
  let d := wr (wr d Reg.TU_STATUS_STATE tsDISCONTINUITY) Reg.TU_SLEW_NOW 0
  let d := tuSet (fun t => { t with judging := false, outliers := 0 }) d
  msix 14 (record Ev.TIME_DISCONTINUITY [.sq d.tu.theta, .q (rd d Reg.TU_GM_ID)] d)

/-- Holdover left: event 0x3004 with its seconds and the first θ, vector 14 (R258). -/
def holdoverLeft (d : Dev) : Dev :=
  msix 14 (record Ev.HOLDOVER_LEFT [.w (rd d Reg.TU_HOLDOVER), .sq d.tu.theta] d)
/-- HOLDOVER entered: f held, s 0, event 0x3003 with the last θ and f, vector 14 (R241, R242). -/
def holdoverEnter (d : Dev) : Dev :=
  let d := wr (wr (wr d Reg.TU_STATUS_STATE tsHOLDOVER) Reg.TU_SLEW_NOW 0) Reg.TU_HOLDOVER 0
  let d := wr (wrB d Reg.TU_STATUS_OFFSET_VALID false) Reg.TU_STATUS_SLAVE_PORT 7
  let d := tuSet (fun t => { t with outliers := 0, judging := false }) d
  msix 14 (record Ev.HOLDOVER_ENTERED [.sq d.tu.theta, .w (rd d Reg.TU_FREQ)] d)

/-- The grandmaster shown, with event 0x3008 (R258). -/
def gmShow (gm port : Nat) (d : Dev) : Dev := record Ev.GM_CHANGED [.q (rd d Reg.TU_GM_ID), .q gm, .w port] (wr d Reg.TU_GM_ID gm)
/-- The grandmaster shown where it is another, but not while the module is grandmaster itself (R258, R259). -/
def gmChange (gm port : Nat) (d : Dev) : Dev :=
  if flag d Reg.TU_STATUS_GM ∨ rd d Reg.TU_GM_ID = trunc 64 gm then d else gmShow gm port d
/-- A sample of another master judged: the module is no longer grandmaster and shows that master (R241, R259). -/
def gmEnd (d : Dev) : Dev :=
  if flag d Reg.TU_STATUS_GM then gmChange d.tu.master (rd d Reg.TU_STATUS_SLAVE_PORT) (wrB d Reg.TU_STATUS_GM false) else d

/-- Port states of IEEE 1588 (R236): the slave port, the ports that the algorithm leaves PASSIVE, the others MASTER. -/
def ptpPortStates (slave passive : Nat) (d : Dev) : Dev :=
  forEach (List.range 6) (fun p d =>
    wr d (Reg.TU_PORT_STATE_PORT_STATE p) (if !ptpPort d p then 3 else if p = slave then 9 else if bitOf passive p then 7 else 6)) d

/-- The module becomes grandmaster (R237, R241): schedule time starts from UNSET (R233), else runs on with s 0 (R242). -/
def becomeGm (passive : Nat) (d : Dev) : Dev :=
  let st := tuState d
  let d := ptpPortStates 7 passive (wr d Reg.TU_STATUS_SLAVE_PORT 7)
  let d := if flag d Reg.TU_STATUS_GM then d else wrB (gmShow d.bp.clockId 7 d) Reg.TU_STATUS_GM true
  let d := tuSet (fun t => { t with judging := false, outliers := 0 }) d
  if st = tsUNSET then timeStart tsGRANDMASTER (timeFloor d) d
  else
    let d := if st = tsHOLDOVER then holdoverLeft d else d
    wr (wr d Reg.TU_STATUS_STATE tsGRANDMASTER) Reg.TU_SLEW_NOW 0

/-- The servo's update of f and s after a sample within JUMP_THRESH: f within ±200 ppm, s in the sense of θ and within
SLEW_LIMIT; the values are not stated and stay free (R229, R239). -/
def servoUpdate (theta : Int) (d : Dev) : Dev :=
  let f := clampInt (-200000000) 200000000 (toSigned 32 (freeNat d))
  let d := nextFree d
  let mag : Nat := freeNat d % (rd d Reg.TU_SLEW_LIMIT_LIMIT * 1000 + 1)
  let d := nextFree d
  let s : Int := if 0 < theta then mag else if theta < 0 then -(mag : Int) else 0
  wr (wr d Reg.TU_FREQ (ofSigned 32 f)) Reg.TU_SLEW_NOW (ofSigned 32 s)

/-- The offset of a Sync: (P + A − E) − S, P its master time with the filtered path delay of the port, S its corrected receive timestamp
(R239, R249, R251). -/
def syncTheta (d : Dev) (port origin rxS : Nat) : Int :=
  (origin : Int) + (rd d (Reg.TU_PORT_PD port) : Int) + toSigned 32 (rd d (Reg.TU_ASYM port)) - epochE d - (rxStamp d port rxS : Int)

/-- θ shown, saturating at ±(2³¹ − 1). -/
def showTheta (theta : Int) (d : Dev) : Dev :=
  tuSet (fun t => { t with theta := theta })
    (wrB (wr d Reg.TU_OFFSET (ofSigned 32 (clampInt (-2147483647) 2147483647 theta))) Reg.TU_STATUS_OFFSET_VALID true)

/-- Whether θ lies within JUMP_THRESH. -/
def thetaSmall (d : Dev) (theta : Int) : Bool := decide (theta.natAbs ≤ rd d Reg.TU_JUMP_THRESH_US * 1000)

/-- A sample in TRACKING, in HOLDOVER, or from a better master judged as from HOLDOVER (R239 to R241). -/
def servoSample (theta : Int) (d : Dev) : Dev :=
  if flag d Reg.TU_STATUS_HOLD_PD then d
  else if thetaSmall d theta then
    let d := if tuState d = tsHOLDOVER then holdoverLeft d else d
    let d := tuSet (fun t => { t with outliers := 0, judging := false }) (wr d Reg.TU_STATUS_STATE tsTRACKING)
    servoUpdate theta (gmEnd d)
  else
    let d := tuSet (fun t => { t with outliers := t.outliers + 1 }) (inc d Reg.TU_SAMPLES_OUTLIERS)
    if d.tu.outliers < 3 then d
    else
      let d := if tuState d = tsHOLDOVER then holdoverLeft d else d
      timeDiscontinuity (gmEnd d)

/-- The initial set of R232: P is the time of the last Sync with the path delay, run on with the module's clock since. -/
def initialSet (port : Nat) (d : Dev) : Dev :=
  let v : Int := (d.tu.acqAt.1 + (d.clk - d.tu.acqAt.2) : Nat) + (rd d (Reg.TU_PORT_PD port) : Int) - epochE d
  if v < (timeFloor d : Int) then
    let floor := timeFloor d
    let d := record Ev.TIME_FLOOR [.q d.bp.savedS, .sq v] d
    let d := showTheta (v + toSigned 32 (rd d (Reg.TU_ASYM port)) - (floor : Int)) d
    timeDiscontinuity (timeStart tsDISCONTINUITY floor d)
  else timeStart tsTRACKING v.toNat d

/-- The initial set once four Syncs of the selected master and a path delay are there (R232). -/
def acquireReview (d : Dev) : Dev :=
  let port := rd d Reg.TU_STATUS_SLAVE_PORT
  if tuState d = tsACQUIRE ∧ 4 ≤ d.tu.acqSyncs ∧ port < 6 ∧ flag d (Reg.TU_PORT_STATE_PD_VALID port) then initialSet port d else d

/-- HOLD_PD while a step of any port is held, and s at 0 throughout (R240, R252; which ports it shows DESIGN CHOICE, log 162). -/
def holdShow (d : Dev) : Dev :=
  let d := wrB d Reg.TU_STATUS_HOLD_PD (!d.tu.holds.isEmpty)
  if d.tu.holds.isEmpty then d else wr d Reg.TU_SLEW_NOW 0

/-- Path delay held or accepted (R252). The filter's own value is not stated and stays free. -/
def pathDelay (port ns : Nat) (d : Dev) : Dev :=
  let old := rd d (Reg.TU_PORT_PD port)
  let step := rd d Reg.TU_PD_STEP_STEP_NS
  let slave := rd d Reg.TU_STATUS_SLAVE_PORT = port
  let dist (a b : Nat) : Nat := ((a : Int) - (b : Int)).natAbs
  let showPd (v : Nat) (d : Dev) : Dev :=
    let d := wrB (wr d (Reg.TU_PORT_PD port) v) (Reg.TU_PORT_STATE_PD_VALID port) true
    if slave then wr d Reg.TU_PATH_DELAY v else d
  if !flag d (Reg.TU_PORT_STATE_PD_VALID port) then showPd ns d
  else match mget d.tu.holds port with
    | none =>
      if step < dist ns old then
        let d := holdShow (tuSet (fun t => { t with holds := mput t.holds port ⟨ns, 1, ns⟩ }) d)
        record Ev.PATH_DELAY_STEP [.w port, .w old, .w ns] (inc d Reg.TU_SAMPLES_PD_STEPS)
      else nextFree (showPd (freeNat d) d)
    | some h =>
      if dist ns old ≤ step then holdShow (tuSet (fun t => { t with holds := mdel t.holds port }) d)
      else
        let h' : PdHold := if step < 4 * dist ns h.first then ⟨ns, 1, ns⟩ else ⟨h.first, h.count + 1, h.sum + ns⟩
        if rd d Reg.TU_PD_STEP_HOLD_N ≤ h'.count then
          let v := h'.sum / h'.count
          record Ev.PATH_DELAY_ACCEPTED [.w port, .w v]
            (holdShow (showPd v (tuSet (fun t => { t with holds := mdel t.holds port }) d)))
        else holdShow (tuSet (fun t => { t with holds := mput t.holds port h' }) d)

/-! ## Timestamp queues and scheduled launch (R253 to R257) -/

/-- The entries of a port's timestamp queue. -/
def txtsOf (d : Dev) (p : Nat) : List (Nat × Nat) := mgetD d.tu.txts p []
/-- A queue set, with COUNT following. -/
def txtsPut (p : Nat) (q : List (Nat × Nat)) (d : Dev) : Dev :=
  wr (tuSet (fun t => { t with txts := mput t.txts p q }) d) (Reg.TU_TXTS_STATUS_COUNT p) q.length
/-- An entry appended, or discarded with OVF and event 0x300C where the queue is full (R255, R256). -/
def txtsAppend (p id ts : Nat) (d : Dev) : Dev :=
  if id = 0 then d
  else if (txtsOf d p).length < 16 then txtsPut p (txtsOf d p ++ [(id, ts)]) d
  else
    let d := inc (wrB d (Reg.TU_TXTS_STATUS_OVF p) true) (Reg.TU_TXTS_STATUS_OVF_COUNT p)
    recordOnce Ev.TXTS_OVERFLOW p [.w p, .w (rd d (Reg.TU_TXTS_STATUS_OVF_COUNT p))] d

/-- The launch queue of a port. -/
def launchQ (d : Dev) (p : Nat) : List LaunchFrame := mgetD d.tu.launchQ p []
/-- A frame handed to a MAC with a launch time (R253). -/
def launchAdd (p : Nat) (f : LaunchFrame) (d : Dev) : Dev :=
  tuSet (fun t => { t with launchQ := mput t.launchQ p (mgetD t.launchQ p [] ++ [f]) }) d
/-- A frame taken from a port's launch queue. -/
def launchTake (p : Nat) (f : LaunchFrame) (d : Dev) : Dev :=
  tuSet (fun t => { t with launchQ := mput t.launchQ p ((mgetD t.launchQ p []).erase f) }) d
/-- A frame dropped under R254: counted, event 0x300B at most once per second per port, its identifier returned with
all ones (R255). -/
def launchDrop (p : Nat) (f : LaunchFrame) (by_ : Nat) (d : Dev) : Dev :=
  let d := inc (launchTake p f d) (Reg.TU_LAUNCH_CNT_DROPPED p)
  txtsAppend p f.tsId 0xFFFFFFFFFFFFFFFF (recordOnce Ev.LAUNCH_DROPPED p [.w p, .w by_] d)

/-! ## Epochs (R228, R244, R245, R247) -/

/-- A new E and epoch number in force, written to the boot parameters (R231, R245). -/
def epochPut (e : Int) (num : Nat) (d : Dev) : Dev :=
  let d := wr (wr d Reg.TU_EPOCH (ofSigned 64 e)) Reg.TU_EPOCH_NUM num
  bpSet (fun b => { b with epochE := e, epochNum := num }) d
/-- θ rounded to the nearest whole microsecond, in ns (R244); a half is rounded away from 0. -/
def roundMicro (t : Int) : Int :=
  if 0 ≤ t then (t + 500) / 1000 * 1000 else -((-t + 500) / 1000 * 1000)
/-- A sample from a master in the last announceReceiptTimeout. -/
def masterPresent (d : Dev) : Bool := flag d Reg.TU_STATUS_OFFSET_VALID
/-- Why an epoch action is not permitted in the present state, as a status (R244, R245). -/
def epochRefusal (d : Dev) (set : Bool) : Option Nat :=
  let st := tuState d
  if st = tsUNSET ∨ st = tsACQUIRE then some St.TIME_NOT_VALID
  else if set then (if st = tsGRANDMASTER ∨ st = tsFREE then none else some St.TIME_ROLE)
  else if st = tsGRANDMASTER ∨ st = tsFREE then some St.TIME_ROLE
  else if !masterPresent d then some St.TIME_NO_MASTER else none
/-- An epoch applied at a tick (R245): E, its number, the samples' θ, a discontinuity it resolves, event 0x3005 and
vector 14. -/
def epochApply (dE : Int) (tick : Nat) (d : Dev) : Dev :=
  let e := epochE d + dE
  let num := rd d Reg.TU_EPOCH_NUM + 1
  let d := epochPut e num d
  let d := tuSet (fun t => { t with theta := t.theta - dE }) d
  let d := if tuState d = tsDISCONTINUITY ∧ thetaSmall d d.tu.theta then wr d Reg.TU_STATUS_STATE tsTRACKING else d
  msix 14 (record Ev.EPOCH_APPLIED [.w (trunc 32 num), .sq e, .sq dE, .q tick] d)

end Sys2Proof.Machine
end

