-- ==== Sys2Proof/Machine/NetOps.lean ====
section
/-!
DEFINITION. The Ethernet switch and the Trestle (spec/10): forwarding, gates, replication, reception of process and
message data, sending of publications by mode.
-/
namespace Sys2Proof.Machine

/-- The switch changed. -/
def swSet (f : SwUnit → SwUnit) (d : Dev) : Dev := { d with sw := f d.sw }
/-- The Trestle changed. -/
def teSet (f : TeUnit → TeUnit) (d : Dev) : Dev := { d with te := f d.te }
/-- The network runs from boot step 8 on, in every mode (R281). -/
def netActive (d : Dev) : Bool := decide (8 ≤ rd d Reg.MCTL_BOOT_STEP)

/-! ## Switch (R281 to R287) -/

/-- The frames queued at a port and traffic class. -/
def swQueue (d : Dev) (p tc : Nat) : List EgressFrame := mgetD d.sw.egress (p * 8 + tc) []
/-- Bytes of the packet buffer in use. -/
def swBuf (d : Dev) : Nat := (d.sw.egress.map fun e => (e.2.map (·.len)).sum).sum
/-- BUF_KIB and its peak follow the buffer. -/
def swLevel (d : Dev) : Dev :=
  let k := ceilDiv (swBuf d) 1024
  maxTo (wr d Reg.SW_STATUS_BUF_KIB k) Reg.SW_STATUS_BUF_PEAK k
/-- The table entry of a VLAN, if it is there (R282). -/
def swVlan (d : Dev) (vid : Nat) : Option Nat :=
  (List.range 64).find? fun n => flag d (Reg.SW_VLAN_VALID n) && rd d (Reg.SW_VLAN_VID n) == vid
/-- The gate list entry of a port in force. -/
def swGateIdx (d : Dev) (p : Nat) : Nat := mgetD d.sw.gate p 0
/-- Whether a gate is open; every gate is while EN is 0 (R284). The internal port has no gates. -/
def gateOpen (d : Dev) (p tc : Nat) : Bool :=
  p == 6 || !flag d (Reg.SW_GCL_CTRL_EN p) || bitF d (Reg.SW_GCL_GATES p (swGateIdx d p)) tc
/-- The ns for which a gate stays open from an entry on, through the entries after it that keep it open. -/
def gateOpenFor (d : Dev) (p tc e : Nat) : Nat → Nat
  | 0 => 0
  | n + 1 =>
    if rd d (Reg.SW_GCL_CTRL_LEN p) ≤ e then rd d (Reg.SW_GCL_CTRL_CYCLE p) * 125000
    else if bitF d (Reg.SW_GCL_GATES p e) tc then rd d (Reg.SW_GCL_INTERVAL p e) + gateOpenFor d p tc (e + 1) n
    else 0
/-- The time a frame takes on a port with preamble and gap, in ns. -/
def wireTime (d : Dev) (p len : Nat) : Nat :=
  (len + 20) * (if rd d (Reg.SW_PORT_STAT_SPEED p) = 1 then 80 else 8)

/-- The frames of a port that leave while their gates are open: the highest class first (R283, R284), none behind a frame held for its launch
time (R253). With gate control on, a frame starts only if it ends before its gate closes. -/
def swDrain (p : Nat) (d : Dev) : Dev :=
  let leaves (d : Dev) (tc : Nat) (f : EgressFrame) : Bool :=
    f.behind == 0 && (!flag d (Reg.SW_GCL_CTRL_EN p) || p == 6 || decide (wireTime d p f.len ≤ gateOpenFor d p tc (swGateIdx d p) 64))
  let d := forEach [7, 6, 5, 4, 3, 2, 1, 0] (fun tc d =>
    if gateOpen d p tc then
      let go := (swQueue d p tc).filter (leaves d tc)
      let stay := (swQueue d p tc).filter fun f => !leaves d tc f
      let d := swSet (fun s => { s with egress := if stay.isEmpty then mdel s.egress (p * 8 + tc) else mput s.egress (p * 8 + tc) stay }) d
      forEach go (fun f d => emit (.eth p f) (incW d (Reg.SW_PORT_TX p))) d
    else d) d
  swLevel d

/-- A frame placed into an egress queue, or dropped for want of buffer, counted at its port and reported (R281, R309). -/
def swEgress (p : Nat) (f : EgressFrame) (d : Dev) : Dev :=
  if 2097152 < swBuf d + f.len then
    let d := inc d (Reg.SW_PORT_DROP_B_BUF p)
    recordOnce Ev.SW_BUFFER p [.w p, .w (rd d (Reg.SW_PORT_DROP_B_BUF p))] d
  else
    let f := { f with behind := ((launchQ d p).filter fun g => g.queue == f.tc).length }
    swDrain p (swLevel (swSet (fun s => { s with egress := mput s.egress (p * 8 + f.tc) (mgetD s.egress (p * 8 + f.tc) [] ++ [f]) }) d))

/-- What stood behind the head frame of a queue with a launch time moves up (R253). -/
def launchNext (p q : Nat) (d : Dev) : Dev :=
  let up (f : EgressFrame) : EgressFrame := { f with behind := f.behind - 1 }
  swDrain p (swSet (fun s => { s with egress := s.egress.map fun e => (e.1, if e.1 = p * 8 + q then e.2.map up else e.2) }) d)
/-- A frame with a launch time starts. -/
def launchSend (p late : Nat) (f : LaunchFrame) (d : Dev) : Dev := incW (emit (.launched p late f) (launchTake p f d)) (Reg.SW_PORT_TX p)
/-- The first frame with a launch time of a queue, once it stands at the head of the queue with its gate open, at a time of the MAC's copy of
schedule time (R253, R254). -/
def launchHead (p q now : Nat) (d : Dev) : Dev :=
  match (launchQ d p).find? fun f => f.queue == q with
  | none => d
  | some f =>
    let now := macNow d p now
    if (swQueue d p q).any (fun e => e.behind == 0) || !gateOpen d p q then d
    else if now + second < f.launch then launchNext p q (launchDrop p f (f.launch - now) d)
    else if now < f.launch then d
    else
      let late := now - f.launch
      if late ≤ rd d (Reg.TU_LAUNCH_LATE_TOL p) then launchNext p q (launchSend p late f d)
      else if flag d (Reg.TU_LAUNCH_POLICY p) then launchNext p q (launchDrop p f late d)
      else launchNext p q (recordOnce Ev.LAUNCH_LATE p [.w p, .w late] (inc (launchSend p late f d) (Reg.TU_LAUNCH_CNT_LATE p)))

/-- The stream that a VID and destination address name (R286). -/
def frerStream (d : Dev) (vid dst : Nat) : Option Nat :=
  if flag d Reg.SW_CFG_FRER_EN then
    (List.range 256).find? fun n =>
      flag d (Reg.SW_FRER_ID_VALID n) && rd d (Reg.SW_FRER_ID_VID n) == vid && rd d (Reg.SW_FRER_ID_DMAC_LO n) == dst % 65536
  else none
/-- The two ports of a stream. -/
def frerPair (d : Dev) (n : Nat) : List Nat := if rd d (Reg.SW_FRER_ID_PAIR n) = 0 then [2, 3] else [4, 5]

/-- The vector recovery algorithm of IEEE 802.1CB with a history of 32 (R286): whether the frame passes. -/
def frerAccept (n seq : Nat) (d : Dev) : Bool × Dev :=
  let r := mgetD d.sw.frer n ⟨0, 0, true⟩
  let put (x : FrerRec) (d : Dev) : Dev := swSet (fun s => { s with frer := mput s.frer n x }) d
  let delta := toSigned 16 (seq + 65536 - r.seq)
  if r.any then (true, put ⟨seq, 1, false⟩ d)
  else if 32 ≤ delta ∨ delta ≤ -32 then
    let d := inc d (Reg.SW_FRER_STAT_ROGUE n)
    (false, recordOnce Ev.FRER_ROGUE n [.w n, .w (rd d (Reg.SW_FRER_STAT_ROGUE n))] d)
  else if 0 < delta then (true, put ⟨seq, (r.history * 2 ^ delta.toNat + 1) % 2 ^ 32, false⟩ d)
  else if bitOf r.history (-delta).toNat then (false, inc d (Reg.SW_FRER_STAT_DISCARDED n))
  else (true, put { r with history := bitSet r.history (-delta).toNat } d)

/-! ## Reception (R293 to R302) -/

/-- The subscription that a frame matches: comId, destination, source filter (R295). -/
def teMatch (d : Dev) (f : TrFrame) : Option (Nat × ImgSub) :=
  d.img.subs.find? fun e =>
    e.2.comId == f.comId && e.2.dst == f.dst && (match e.2.src with
      | none => true
      | some s => s == f.src)
/-- The publication of a comId. -/
def tePubOf (d : Dev) (comId : Nat) : Option Nat := (d.img.pubs.find? fun e => e.2.comId == comId).map (·.1)
/-- Whether a message type belongs to process data. -/
def isPd (f : TrFrame) : Bool := decide (f.msg ≤ 2)
/-- Whether it belongs to message data. -/
def isMd (f : TrFrame) : Bool := decide (3 ≤ f.msg) && decide (f.msg ≤ 8)

/-- The first kind of R302 that applies to a frame; a frame of an unsupported protocol has no TRDP header to judge. -/
def malformKind (d : Dev) (f : TrFrame) : Option Nat :=
  let sub := teMatch d f
  if f.badHeader then some 0
  else if f.unsupported then some 7
  else if (isPd f ∧ 1432 < f.dataLen) ∨ (!isPd f ∧ 65388 < f.dataLen) then some 1
  else if f.frag.isNone ∧ f.dataLen ≠ f.udpLen then some 2
  else if (match sub with
    | some e => isPd f && f.msg != 1 && f.dataLen != e.2.len
    | none => false) then some 2
  else if f.ptpMgmt ∨ !(isPd f || isMd f) then some 3
  else if isPd f ∧ (if f.msg = 1 then (tePubOf d f.comId).isNone else sub.isNone ∧ (tePubOf d f.comId).isNone) then some 4
  else if isMd f ∧ !f.listener ∧ !(decide (5 ≤ f.msg) && (mget d.te.sessions f.session).isSome) then some 4
  else if (f.etb ≠ 0 ∧ f.etb ≠ rd d Reg.TE_ETB_TOPO) ∨ (f.opTrn ≠ 0 ∧ f.opTrn ≠ rd d Reg.TE_OPTRN_TOPO) then some 5
  else none

/-- A discarded frame counted under its kind and in its subscription, and event 0x4020 at most once per second per kind
(R302). -/
def malformed (kind : Nat) (f : TrFrame) (d : Dev) : Dev :=
  let d := inc d (Reg.TE_MALF kind)
  let d := match (if isPd f && !f.badHeader && !f.unsupported then teMatch d f else none) with
    | none => d
    | some e => wr (inc d (Reg.TE_SUB_STAT_ERR e.1)) (Reg.TE_SUB_STAT_LAST_ERR e.1) kind
  recordOnce Ev.MALFORMED kind [.w kind, .w f.port, .w f.src] d

/-- A station at rest. -/
def stationRest : Station := ⟨0, 0, 0, none, [], [], (0, 0, 0), [], 0⟩
/-- Data of a station arrived: its copy, the time of its arrival and the tick of the scheduling count (R181, R182, R190). -/
def stationCopy (n time : Nat) (data : List Byte) (d : Dev) : Dev :=
  let st : Station := { mgetD d.cyc.stations n stationRest with seen := some time, rx := data, seenAt := rd d Reg.CYC_VTICK }
  { d with cyc := { d.cyc with stations := mput d.cyc.stations n st } }

/-- The key of the last sequence counter of a source and comId. -/
def seqKey (f : TrFrame) : Nat := f.src * 2 ^ 32 + f.comId
/-- A copy that is a duplicate or older than the last accepted one; sequenceCounter 0 never is (R295). -/
def pdStale (d : Dev) (f : TrFrame) : Bool :=
  match mget d.te.seqs (seqKey f) with
  | none => false
  | some last => f.seq != 0 && decide ((last + 2 ^ 32 - f.seq) % 2 ^ 32 < 2 ^ 31)

/-- A received copy made the current buffer of its subscription (R295). -/
def pdAccept (n : Nat) (e : ImgSub) (f : TrFrame) (d : Dev) : Dev :=
  let d := teSet (fun t =>
    { t with seqs := mput t.seqs (seqKey f) f.seq
             subs := mput t.subs n ⟨f.payload, f.time, f.sdt, false⟩ }) d
  let d := wr (incW d (Reg.TE_SUB_STAT_RX n)) (Reg.TE_SUB_STAT_STATE n) 1
  let d := incW d Reg.TE_PD_RX
  if e.safety then d else stationCopy e.station f.time f.payload d

/-- A copy of an observed publication noted for the output comparison in STANDBY (R377, R384). -/
def obsNote (f : TrFrame) (d : Dev) : Dev :=
  match (if modeIs d mSTANDBY && f.msg != 1 then d.img.pubs.find? fun e => e.2.observed && e.2.comId == f.comId else none) with
  | none => d
  | some e => { d with dx := { d.dx with obs := mput d.dx.obs e.1 (f.time, crc32 f.payload) } }

/-- A process data frame taken by a unit: discarded under R302, a PD request noted for its reply (R296), a stale copy
dropped, or accepted (R295); TE_LAT_PD shows how long it waited (R307). -/
def pdReceive (f : TrFrame) (arrived : Nat) (d : Dev) : Dev :=
  let d := obsNote f d
  match malformKind d f with
  | some k => malformed k f d
  | none =>
    let lat := (d.clk - arrived) / 100
    let d := maxTo (wrSat d Reg.TE_LAT_PD_LAST lat) Reg.TE_LAT_PD_MAX lat
    if f.msg = 1 then
      match tePubOf d f.comId with
      | none => d
      | some n => teSet (fun t => { t with replies := t.replies ++ [(n, f.src)], demand := t.demand + 1 }) d
    else match teMatch d f with
      | none => d
      | some e => if pdStale d f then d else pdAccept e.1 e.2 f d

/-- A message data frame at the internal port: queued, or dropped with the queue full (R298). -/
def mdArrive (f : TrFrame) (d : Dev) : Dev :=
  if d.te.mdq.length < rd d Reg.TE_CFG_MD_DEPTH then
    let d := teSet (fun t => { t with mdq := t.mdq ++ [f], demand := t.demand + 1 }) d
    maxTo (wr d Reg.TE_MD_Q_DEPTH d.te.mdq.length) Reg.TE_MD_Q_PEAK d.te.mdq.length
  else
    let d := inc d Reg.TE_MD_DROP
    recordOnce Ev.MD_DROP 0 [.w (rd d Reg.TE_MD_DROP)] d
/-- A process data frame at the internal port: queued in 1024 places, or dropped (R306). -/
def pdArrive (f : TrFrame) (d : Dev) : Dev :=
  if d.te.pdq.length < 1024 then
    teSet (fun t => { t with pdq := t.pdq ++ [({ f with time := rxStamp d f.port f.time }, d.clk)], demand := t.demand + 1 }) d
  else
    let d := inc d Reg.TE_DROP_PD_DROP
    recordOnce Ev.PD_DROP 0 [.w (rd d Reg.TE_DROP_PD_DROP)] d

/-- Whether fragments overlap one another. -/
def fragOverlap (parts : NMap (List Byte)) (off len : Nat) : Bool :=
  parts.any fun e => decide (e.1 < off + len) && decide (off < e.1 + e.2.length)
/-- The bytes held in reassembly. -/
def fragHeld (parts : NMap (List Byte)) : Nat := (parts.map (·.2.length)).sum
/-- A fragment taken by a unit: the message it completes, if it does; an overlapped or too long message is discarded as
FRAGMENT; at most 32 messages are held (R293, R302). -/
def fragTake (f : TrFrame) (key off : Nat) (last : Bool) (d : Dev) : Option TrFrame × Dev :=
  let drop (d : Dev) : Dev := malformed 6 f (teSet (fun t => { t with reasm := mdel t.reasm key }) d)
  let r := mgetD d.te.reasm key ⟨[], none, f⟩
  if (mget d.te.reasm key).isNone ∧ 32 ≤ d.te.reasm.length then (none, malformed 6 f d)
  else if fragOverlap r.parts off f.payload.length ∨ 65388 < off + f.payload.length then (none, drop d)
  else
    let r : Reasm := { parts := mput r.parts off f.payload
                       total := if last then some (off + f.payload.length) else r.total
                       first := if off = 0 then f else r.first }
    if r.total = some (fragHeld r.parts) then
      let data := (r.parts.map (·.2)).flatten
      (some { r.first with payload := data, frag := none, dataLen := data.length, udpLen := data.length },
        teSet (fun t => { t with reasm := mdel t.reasm key }) d)
    else (none, teSet (fun t => { t with reasm := mput t.reasm key r }) d)

/-! ## Sending (R292, R296, R297, R303) -/

/-- How a publication goes out in the present mode (R297). -/
inductive PubForm where
  | none | released | stale | safe | invalid
deriving DecidableEq, Repr

/-- The form of a publication (R297); without a lease nothing is sent in any mode. -/
def pubForm (d : Dev) (p : ImgPub) : PubForm :=
  let m := modeOf d
  let behave := if p.invalid then PubForm.invalid else PubForm.none
  if !leaseHeld d then .none
  else if m = mRUN then .released
  else if m = mSTOP then (if p.safety then behave else if p.stopLast then .stale else .safe)
  else if m = mHOLD then (if p.safety then behave else .stale)
  else if m = mSAFE then (if p.safety then behave else .none)
  else .none

/-- A skipped sending: counted in SKIP and PUB_SKIP, event 0x4023 with reason 0 length, 1 topology, 2 overload (R303,
R306). -/
def pubSkip (n reason : Nat) (d : Dev) : Dev :=
  record Ev.PUB_SKIP [.w n, .w reason] (inc (inc d (Reg.TE_PUB_STAT_SKIP n)) Reg.TE_DROP_PUB_SKIP)

/-- The status bits of a publication. -/
def pubStat (n st : Nat) (stale : Bool) (d : Dev) : Dev := wrB (wr d (Reg.TE_PUB_STAT_STATE n) st) (Reg.TE_PUB_STAT_STALE n) stale

/-- A publication sent now, or not, as R292 and R297 say; the payload that left, if one did. A reply leaves the
periodic sending as it is (R296). -/
def pubSend (n : Nat) (p : ImgPub) (reply : Bool) (d : Dev) : Option (List Byte) × Dev :=
  let cur := mget d.te.pubs n
  let go (payload : List Byte) (st : Nat) (stale : Bool) (d : Dev) : Option (List Byte) × Dev :=
    let x := mgetD d.te.pubs n ⟨[], 0, 0, 0⟩
    let seq := trunc 32 (x.seq + 1)
    let d := teSet (fun t => { t with pubs := mput t.pubs n { x with seq := seq } }) d
    let d := incW (incW (pubStat n st stale d) (Reg.TE_PUB_STAT_SENT n)) Reg.TE_PD_TX
    (some payload, emit (.pd n seq (rd d Reg.TE_ETB_TOPO) (rd d Reg.TE_OPTRN_TOPO) stale reply payload) d)
  let last (stale : Bool) (d : Dev) : Option (List Byte) × Dev :=
    match cur with
    | none => (none, pubStat n 2 false d)
    | some x =>
      if p.safety ∧ x.etb ≠ rd d Reg.TE_ETB_TOPO then
        (none, pubSkip n 1 (record Ev.TOPO_STALE [.w n, .q x.cycle] d))
      else go x.payload 1 stale d
  match pubForm d p with
  | .none => (none, pubStat n 2 false d)
  | .released => last false d
  | .stale => last true d
  | .safe => go p.safe 1 false d
  | .invalid => go (List.replicate p.len 0) 3 false d

/-- A release for a publication: the etbTopoCnt taken off a safety payload, a wrong length skipped (R301, R303). -/
def pubRelease (n cycle : Nat) (payload : List Byte) (d : Dev) : Dev :=
  match mget d.img.pubs n with
  | none => d
  | some p =>
    let etb := if p.safety then ofBytes (payload.take 4) else 0
    let body := if p.safety then payload.drop 4 else payload
    if body.length ≠ p.len then pubSkip n 0 d
    else
      let x := mgetD d.te.pubs n ⟨[], 0, 0, 0⟩
      teSet (fun t => { t with pubs := mput t.pubs n { x with payload := body, etb := etb, cycle := cycle } }) d

/-- A sending instant of a publication: it waits for a unit, and replaces an unsent older one, which is counted (R296,
R306). During a pair halt it is not sent (R160). -/
def pubDue (n tick : Nat) (d : Dev) : Dev :=
  if pairHalted d 2 then d
  else
    let d := if d.te.sendq.any (fun e => e.1 == n) then pubSkip n 2 d else d
    teSet (fun t => { t with sendq := t.sendq.filter (fun e => !(e.1 == n)) ++ [(n, tick, d.clk)], demand := t.demand + 1 }) d
/-- The decoupled publications due at a tick (R296). Those of a coupled class are sent at its launch ticks only, so in STOP and in a halted
HOLD, where no cycle runs, none is (R185; DESIGN CHOICE, log 168). -/
def pubsDue (tick : Nat) (d : Dev) : Dev :=
  forEach d.img.pubs (fun e d =>
    if !flag d (Reg.CYC_CLS_CFG_COUPLED e.2.cls) && e.2.period != 0 && (tick + e.2.period - e.2.offset) % e.2.period == 0 && netActive d
    then pubDue e.1 tick d else d) d
/-- The ports by which a publication leaves, each with the VID and the R-TAG it gets there: those of its egress mask, and both ports of the
pair of its stream under one sequence number (R282, R286, R294). -/
def pubPorts (p : ImgPub) (d : Dev) : List (Nat × Option Nat × Option Nat) × Dev :=
  let vid (q : Nat) : Option Nat := (swVlan d p.vlan).bind fun n => if bitF d (Reg.SW_VLAN_UNTAG n) q then none else some p.vlan
  match (if flag d Reg.SW_CFG_FRER_EN then p.stream else none) with
  | none => ((bitsOf 6 p.ports).map fun q => (q, vid q, none), d)
  | some k =>
    let pair := frerPair d k
    let seq := mgetD d.sw.frerTx k 0
    let qs := (List.range 6).filter fun q => bitOf p.ports q || pair.contains q
    (qs.map fun q => (q, vid q, if pair.contains q then some seq else none),
      swSet (fun s => { s with frerTx := mput s.frerTx k (trunc 16 (seq + 1)) }) d)
/-- The coupled publications of a class at its launch tick, handed to the MACs with the tick as launch time (R296,
R253). -/
def pubsLaunch (cls launch : Nat) (d : Dev) : Dev :=
  forEach d.img.pubs (fun e d =>
    if e.2.cls = cls then
      let r := pubSend e.1 e.2 false d
      match r.1 with
      | none => r.2
      | some payload =>
        let x := pubPorts e.2 r.2
        forEach x.1 (fun q d => launchAdd q.1 ⟨6, launch, e.2.tsId, payload, q.2.1, q.2.2, e.2.dst⟩ d) x.2
    else d) d

/-- The inhibition the module asks for in its TOPOLOGY frames, with event 0x4002 when it changes (R290). -/
def inhibitReview (d : Dev) : Dev :=
  let ask := d.te.inhibit && inRun d && leaseHeld d
  if ask != d.te.asking then
    record Ev.INAUG_INHIBIT [.w (b2n (!ask))] (teSet (fun t => { t with asking := ask }) d)
  else d

/-- The load of the last 125 µs interval in 0.1 % of 187.5 units (R304). -/
def teLoad (d : Dev) : Dev :=
  let v := d.te.demand * 16 / 3
  teSet (fun t => { t with demand := 0 }) (maxTo (wrSat d Reg.TE_LOAD_LAST v) Reg.TE_LOAD_MAX v)

/-- The gate lists whose cycle restarts at a tick (R284). -/
def gatesRestart (tick : Nat) (d : Dev) : Dev :=
  forEach (List.range 6) (fun p d =>
    if flag d (Reg.SW_GCL_CTRL_EN p) && rd d (Reg.SW_GCL_CTRL_CYCLE p) != 0 && tick % rd d (Reg.SW_GCL_CTRL_CYCLE p) == 0 then
      swDrain p (swSet (fun s => { s with gate := mdel s.gate p }) (wrB d (Reg.SW_PORT_STAT_GCL_ACTIVE p) true))
    else d) d

end Sys2Proof.Machine
end

