-- ==== Sys2Proof/Machine/HostOps.lean ====
section
/-!
DEFINITION. The host interface (spec/12): rings and completions, the journal, acceptance and completion of commands,
notices.
-/
namespace Sys2Proof.Machine

/-- The host interface changed. -/
def hiSet (f : HiUnit → HiUnit) (d : Dev) : Dev := { d with hi := f d.hi }

/-! ## The partner (R348) -/

/-- A Loenpa lane is up. -/
def linkUp (d : Dev) : Bool := flag d Reg.DX_STATUS_LK_A_UP || flag d Reg.DX_STATUS_LK_B_UP
/-- A partner is present for the journal: the link is up and its mode is one of R348. -/
def partnerPresent (d : Dev) : Bool :=
  linkUp d && !simplex d && flag d Reg.DX_PEER_VALID && [mSTOP, mRUN, mHOLD, mSTANDBY, mSERVICE].contains (rd d Reg.DX_PEER_MODE)
/-- Entries go to the partner: it is present and acceptance is not local-only (R348). -/
def mirroring (d : Dev) : Bool := partnerPresent d && rd d Reg.HI_STATUS_ACCEPT != 3
/-- This module executes active commands: it holds the lease, or is simplex (R348). -/
def executing (d : Dev) : Bool := leaseHeld d

/-! ## Completion rings (R337, R338, R343, R360) -/

/-- Size of a completion ring. -/
def cqSize (d : Dev) (q : Nat) : Nat := 2 ^ rd d (Reg.HI_CQ_CFG_SIZE q)
/-- Entries of a completion ring that the host has not released. -/
def cqUsed (d : Dev) (q : Nat) : Nat := (mgetD d.hi.unread q []).length
/-- Host address of an entry of a completion ring (R333). -/
def cqAddr (d : Dev) (q i : Nat) : Nat := rd d (Reg.HI_CQ_BASE_HI q) * 2 ^ 32 + rd d (Reg.HI_CQ_BASE_LO_BASE q) * 2 ^ 12 + 32 * i
/-- The 32 bytes of a completion (R342). -/
def cplBytes (ph : Nat) (c : Completion) : List Byte :=
  leBytes 8 c.id ++ leBytes 2 c.status ++ leBytes 1 c.kind ++ leBytes 1 (c.flags + ph) ++ leBytes 2 c.head ++ leBytes 1 c.sring ++
    leBytes 1 0 ++ leBytes 4 c.resLen ++ leBytes 8 c.seq ++ leBytes 4 0
/-- Entries the module may write: one stays unwritten (R337). -/
def cqFree (d : Dev) (q : Nat) : Nat := cqSize d q - 1 - cqUsed d q
/-- DMA is possible: Bus Master Enable, not D3hot, the DMA pair not halted (R160, R331, R332). -/
def dmaOk (d : Dev) : Bool := flag d Reg.HI_LINK_BME && !d.hi.d3 && !pairHalted d 5
/-- Completions may be written: DMA is possible and the journal is recovered (R334). -/
def cplOk (d : Dev) : Bool := dmaOk d && flag d Reg.HI_STATUS_RECOVERED

/-- The message of a completion ring: at most one per IMOD µs; a held one is sent at the end of the interval (R360). -/
def cqMessage (q : Nat) (d : Dev) : Dev :=
  let imod := rd d (Reg.HI_CQ_CFG_IMOD q) * 1000
  let due := match mget d.hi.imodAt q with
    | none => true
    | some t => decide (t + imod ≤ d.clk)
  if due then msix q (hiSet (fun h => { h with imodAt := mput h.imodAt q d.clk, imodHeld := bitClr h.imodHeld q }) d)
  else hiSet (fun h => { h with imodHeld := bitSet h.imodHeld q }) d

/-- One completion written at the tail of its ring with the head of its submission ring, the phase inverted when the tail wraps (R337,
R342). -/
def cqWrite (q : Nat) (c : Completion) (d : Dev) : Dev :=
  let i := rd d (Reg.HI_CQ_STATE_TAIL q)
  let ph := rd d (Reg.HI_CQ_STATE_PHASE q)
  let next := (i + 1) % cqSize d q
  let c := { c with head := if c.sring < 8 then rd d (Reg.HI_SQ_STATE_HEAD c.sring) else 0 }
  let d := wr (emit (.completion q i (cqAddr d q i) (cplBytes ph c)) d) (Reg.HI_CQ_STATE_TAIL q) next
  let d := if next = 0 then wr d (Reg.HI_CQ_STATE_PHASE q) (1 - ph) else d
  let d := hiSet (fun h => { h with unread := mput h.unread q (mgetD h.unread q [] ++ [c]) }) d
  if c.noIrq then d else cqMessage q d
/-- Whether a held completion can be written now. -/
def cqCan (d : Dev) (q : Nat) (c : Completion) : Bool :=
  cplOk d && flag d (Reg.HI_CQ_CFG_EN q) && decide (0 < cqFree d q) &&
    (c.sring == 0xFF || !flag d (Reg.HI_SQ_STATE_STOPPED c.sring))
/-- The held completions written in order while they can be; a ring keeps the order of its own. -/
def cqFlushList : List (Nat × Completion) → List (Nat × Completion) → Dev → Dev
  | [], kept, d => hiSet (fun h => { h with held := kept }) d
  | (q, c) :: r, kept, d =>
    if cqCan d q c && !(kept.any fun e => e.1 == q && e.2.sring == c.sring) then cqFlushList r kept (cqWrite q c d)
    else cqFlushList r (kept ++ [(q, c)]) d
/-- A result written to the buffer of its command, or held until DMA is possible again (R331, R343). -/
def resultWrite (addr : Nat) (out : List Byte) (d : Dev) : Dev :=
  if out.isEmpty then d
  else if dmaOk d then emit (.hostWrite addr out) d else hiSet (fun h => { h with writes := h.writes ++ [(addr, out)] }) d
/-- Held results written once DMA is possible, then the held completions as far as they can be. -/
def cqFlush (d : Dev) : Dev :=
  let d := if dmaOk d then
      forEach d.hi.writes (fun w d => emit (.hostWrite w.1 w.2) d) (hiSet (fun h => { h with writes := [] }) d)
    else d
  cqFlushList d.hi.held [] d
/-- A completion of a submission ring: dropped while that ring or its completion ring is disabled, since the ring's enable
repeats the final ones (R357). -/
def cqPut (c : Completion) (d : Dev) : Dev :=
  let q := rd d (Reg.HI_SQ_CFG_CQ c.sring)
  if flag d (Reg.HI_SQ_CFG_EN c.sring) && flag d (Reg.HI_CQ_CFG_EN q) then
    cqFlush (hiSet (fun h => { h with held := h.held ++ [(q, c)] }) d)
  else d
/-- The ids of the commands submitted to a ring of this module that are not final. -/
def ringOpen (d : Dev) (n : Nat) : List Nat :=
  (d.hi.cmds.filter fun c => c.ring == n && !c.partner && !c.again).map (·.desc.id) ++
    (d.hi.forwarded.filter fun f => f.1 == n).map (·.2.id)
/-- The REJECTED completions whose earlier commands have all become final, written in order (R343). -/
def rejectsFlush (d : Dev) : Dev :=
  let waits (d : Dev) (r : List Nat × Completion) : Bool := r.1.any fun i => (ringOpen d r.2.sring).contains i
  let l := d.hi.rejects
  let d := hiSet (fun h => { h with rejects := l.filter (waits d) }) d
  forEach (l.filter fun r => !waits d r) (fun r d => cqPut r.2 d) d

/-- A notice with a status, or NOTICE_LOST (R344). -/
def notice (status : Nat) (d : Dev) : Dev :=
  let q := rd d Reg.HI_CTRL_NOTICE_CQ
  let c : Completion := ⟨0, status, 1, 16, 0, 0xFF, 0, 0, false⟩
  if flag d Reg.HI_CTRL_NOTICE_EN && cqCan d q c then cqWrite q c d else wrB d Reg.HI_ERR_NOTICE_LOST true

/-! ## The journal (R349, R350) -/

/-- Slots of the journal. -/
def jSlots : Nat := 32768
/-- The next sequence number. -/
def jHead (d : Dev) : Nat := rd d Reg.HI_JOURNAL_HEAD
/-- The entry of a sequence number that is still held. -/
def jEntry (d : Dev) (s : Nat) : Option JEntry := if s + jSlots < jHead d ∨ jHead d ≤ s then none else mget d.hi.journal s
/-- The FINAL entry of an accept sequence, if there is one. -/
def jFinal (d : Dev) (s : Nat) : Option (Nat × JEntry) := d.hi.journal.find? fun e => e.2.kind == 2 && e.2.ref == s
/-- The START entry of an accept sequence, if there is one. -/
def jStart (d : Dev) (s : Nat) : Bool := d.hi.journal.any fun e => e.2.kind == 1 && e.2.ref == s
/-- The ACCEPT entry of a command id on a logical ring. -/
def jFind (d : Dev) (ring id : Nat) : Option (Nat × JEntry) :=
  d.hi.journal.find? fun e => e.2.kind == 0 && e.2.ring == ring && e.2.id == id
/-- An entry may be overwritten: its command has a final entry whose completion the host has consumed (R350). -/
def jReusable (d : Dev) (s : Nat) : Bool :=
  match mget d.hi.journal s with
  | none => true
  | some e =>
    let a := if e.kind = 0 then s else e.ref
    (jFinal d a).isSome && decide (e.id ≤ rd d (Reg.HI_SQ_ACKID e.ring))
/-- The next `n` entries find their slots free. -/
def jRoom (d : Dev) (n : Nat) : Bool := (List.range n).all fun i => jReusable d (jHead d + i - jSlots) || decide (jHead d + i < jSlots)
/-- Entries that may be overwritten before one that may not comes, counted from the next. -/
def jFreeCount (d : Dev) : Nat :=
  let used := d.hi.journal.filter fun e => !jReusable d e.1
  match used.head? with
  | none => jSlots
  | some e => jSlots - min jSlots (jHead d - e.1)

/-- Head, tail, free count and JOURNAL_LOW follow the journal, with event 0x5005 when it becomes 1 (R521). -/
def jReview (d : Dev) : Dev :=
  let tail := match d.hi.journal.head? with
    | none => jHead d
    | some e => e.1
  let free := jFreeCount d
  let low := decide (free < 1024)
  let d := if low && !flag d Reg.HI_STATUS_JOURNAL_LOW then record Ev.JOURNAL_LOW [] d else d
  wrB (wr (wr d Reg.HI_JOURNAL_TAIL tail) Reg.HI_JOURNAL_FREE_ENTRIES free) Reg.HI_STATUS_JOURNAL_LOW low
/-- An entry written at a sequence number, over the slot's old one; no write starts after step 3 of R52. -/
def jPut (s : Nat) (e : JEntry) (d : Dev) : Dev :=
  if d.hm.powerFail then d
  else
    let d := hiSet (fun h => { h with journal := mput (if jSlots ≤ s then mdel h.journal (s - jSlots) else h.journal) s e }) d
    jReview (if jHead d ≤ s then wr d Reg.HI_JOURNAL_HEAD (s + 1) else d)
/-- An entry appended, and mirrored where a partner takes part (R348). -/
def jAppend (e : JEntry) (d : Dev) : Dev :=
  let s := jHead d
  let d := jPut s e d
  if mirroring d then emit (.mirror s e) d else d

/-- Descriptor bytes 12 to 63 (R349). -/
def descBody (x : Desc) : List Byte :=
  leBytes 4 x.payLen ++ leBytes 8 x.payAddr ++ leBytes 8 x.resAddr ++ leBytes 4 x.resLen ++ x.args

/-- The 64 bytes of an entry (R349). -/
def jBytes (e : JEntry) : List Byte :=
  let flags := (if e.kind = 0 then e.flags % 256 else if e.kind = 1 then 2 ^ 14 else 2 ^ 15 + 1) + e.ring * 2 ^ 11 + b2n e.partner * 2 ^ 10
  (leBytes 8 e.id ++ leBytes 2 e.code ++ leBytes 2 flags ++
    (if e.kind = 0 then e.body else if e.kind = 1 then leBytes 8 e.ref else leBytes 4 e.resLen ++ e.body) ++
    List.replicate 64 0).take 64

/-- The CRC over the last 64 entries up to a sequence, with the origin as the reporting module sees it: `turned` on the other module (R382;
DESIGN CHOICE, log 173). -/
def jCrc (d : Dev) (s : Nat) (turned : Bool) : Nat :=
  crc32 ((List.range 64).flatMap fun i => match jEntry d (s + i - 63) with
    | some e => if 63 ≤ s + i then jBytes { e with partner := e.partner != turned } else []
    | none => [])

/-! ## Commands (R343, R348, R350, R354) -/

/-- The commands changed. -/
def cmdSet (s : Nat) (f : HiCmd → HiCmd) (d : Dev) : Dev := hiSet (fun h => { h with cmds := mapIf (fun c => c.seq == s) f h.cmds }) d
/-- The command of an accept sequence. -/
def cmdOf (d : Dev) (s : Nat) : Option HiCmd := d.hi.cmds.find? fun c => c.seq == s
/-- OPEN follows the accepted commands that are not final. -/
def openReview (d : Dev) : Dev := wrSat d Reg.HI_STATUS_OPEN (d.hi.cmds.filter (·.accepted)).length

/-- HI_LAT takes the time from a doorbell to the ACCEPTED completion of the first descriptor it announced (R359). -/
def acceptTimed (ring id : Nat) (d : Dev) : Dev :=
  match d.hi.timed.find? fun e => e.1 == ring && e.2.1 == id with
  | none => d
  | some e =>
    let lat := (d.clk - e.2.2) / 1000
    maxTo (wrSat (hiSet (fun h => { h with timed := h.timed.erase e }) d) Reg.HI_LAT_LAST lat) Reg.HI_LAT_MAX lat
/-- A command accepted (R348 step 4): LASTID, and the ACCEPTED completion unless NO_ACCEPT. -/
def cmdAccept (s : Nat) (localOnly : Bool) (d : Dev) : Dev :=
  match cmdOf d s with
  | none => d
  | some c =>
    let d := openReview (cmdSet s (fun c => { c with accepted := true }) d)
    let d := wr d (Reg.HI_SQ_LASTID c.ring) (max c.desc.id (rd d (Reg.HI_SQ_LASTID c.ring)))
    if bitOf c.desc.flags 0 ∨ c.partner then d
    else cqPut ⟨c.desc.id, St.OK, 0, 2 * b2n localOnly, 0, c.ring, 0, s, bitOf c.desc.flags 2⟩ (acceptTimed c.ring c.desc.id d)

/-- The status that reports a truncated result (R343). -/
def truncStatus (status resLen bufLen : Nat) : Nat := if status = St.OK ∧ bufLen < resLen then St.OK_TRUNCATED else status

/-- The result store: results longer than 48 B, within 16 MiB, the oldest displaced first (R350). -/
def resultStore (s : Nat) (r : List Byte) (d : Dev) : Dev :=
  let trim (m : NMap (List Byte)) : NMap (List Byte) :=
    m.foldr (fun e acc => if ((e :: acc).map (·.2.length)).sum ≤ 16777216 then e :: acc else acc) []
  if r.length ≤ 48 then d else hiSet (fun h => { h with results := trim (mput h.results s r) }) d

/-- The DONE completion of a final command and its result, on the module that received it or, once that is lost, on the new
executing module with PARTNER_ORIGIN (R343, R356). -/
def cmdDone (c : HiCmd) (status : Nat) (result : List Byte) (d : Dev) : Dev :=
  let d := if c.partner then d else resultWrite c.desc.resAddr (result.take c.desc.resLen) d
  if c.partner && !c.lost then d
  else
    rejectsFlush (cqPut ⟨c.desc.id, truncStatus status result.length c.desc.resLen, 1, 32 * b2n c.partner, 0, c.ring, result.length, c.seq,
      bitOf c.desc.flags 2⟩ d)
/-- A command leaves the commands not yet final. -/
def cmdLeave (s : Nat) (d : Dev) : Dev := openReview (hiSet (fun h => { h with cmds := h.cmds.filter fun x => !(x.seq == s) }) d)
/-- A command becomes final: FINAL entry, result, and its DONE completion (R343, R349); one that is only applied again has been
final before (R355). Once no MRAM write can start (R52), no command becomes final. -/
def cmdFinal (s status : Nat) (result : List Byte) (d : Dev) : Dev :=
  match cmdOf d s with
  | none => d
  | some c =>
    if d.hm.powerFail then d
    else if c.again then cmdLeave s d
    else
      let e : JEntry := ⟨2, c.desc.id, status, 0, c.ring, c.partner, s, result.length, result.take 48⟩
      cmdDone c status result (cmdLeave s (resultStore s result (jAppend e d)))
/-- A command that keeps its status and result until its cycle is released (R352). -/
def cmdHold (s status : Nat) (result : List Byte) (ph : CmdPhase) (d : Dev) : Dev :=
  cmdSet s (fun c => { c with status := status, result := result, phase := ph }) d

/-- A START entry (R351). -/
def cmdStart (s : Nat) (d : Dev) : Dev :=
  match cmdOf d s with
  | none => d
  | some c => jAppend ⟨1, c.desc.id, c.desc.op, 0, c.ring, c.partner, s, 0, []⟩ d

/-- A command may be executed: accepted and not begun, every earlier command of its ring final, and with FENCE every
earlier command of any ring (R340, R354). -/
def cmdReady (d : Dev) (c : HiCmd) : Bool :=
  c.accepted && c.phase == .queued &&
    !(d.hi.cmds.any fun x => decide (x.seq < c.seq) && (x.ring == c.ring || bitOf c.desc.flags 1))

/-- Argument byte `i` of a descriptor, counted from byte 36. -/
def argB (x : Desc) (i : Nat) : Nat := (x.args.getD i 0).toNat
/-- Argument bytes `i` to `i + n − 1` as a number. -/
def argN (x : Desc) (i n : Nat) : Nat := ofBytes ((x.args.drop i).take n)

/-- The commands that a class's next input frame carries, marked as in that frame. -/
def hostToFrame (c n : Nat) (d : Dev) : List FrameItem × Dev :=
  let l := d.hi.cmds.filter fun x => x.phase == .toClass c
  (l.map fun x => .host x.seq x.desc.op (x.desc.args ++ x.payload),
    hiSet (fun h => { h with cmds := mapIf (fun x => x.phase == .toClass c) (fun x => { x with phase := .inFrame c n }) h.cmds }) d)

/-- The commands of a released cycle completed, in journal order (R352). -/
def hostReleased (c n : Nat) (d : Dev) : Dev :=
  forEach (d.hi.cmds.filter fun x => x.phase == .agreed c n) (fun x d => cmdFinal x.seq x.status x.result d) d

/-- REPLAY copies of the final completions of a ring above ACKID, in journal order, for those of the partner only or for all;
a final completion not yet written is no copy (R356, R357). A truncated result is reported as in the original. -/
def replay (ring : Nat) (partnerOnly : Bool) (d : Dev) : Dev :=
  let fresh (s : Nat) : Bool := d.hi.held.any (fun x => x.2.kind == 1 && x.2.seq == s) || d.hi.late.any fun x => x.seq == s
  let l := d.hi.journal.filter fun e =>
    e.2.kind == 2 && e.2.ring == ring && decide (rd d (Reg.HI_SQ_ACKID ring) < e.2.id) && (!partnerOnly || e.2.partner) && !fresh e.2.ref
  forEach l (fun e d =>
    let buf := ((mget d.hi.journal e.2.ref).map fun a => ofBytes ((a.body.drop 20).take 4)).getD 0
    cqPut ⟨e.2.id, truncStatus e.2.code e.2.resLen buf, 1, 8 + 32 * b2n e.2.partner, 0, ring, e.2.resLen, e.2.ref, false⟩ d) d

/-- Acceptance turns local-only (event 0x5002) or mirrored again (0x5003), with vector 12 (R348). -/
def acceptPut (v : Nat) (d : Dev) : Dev :=
  let old := rd d Reg.HI_STATUS_ACCEPT
  let d := wr d Reg.HI_STATUS_ACCEPT v
  if old = 1 ∧ v = 3 then msix 12 (record Ev.ACCEPT_LOCAL_ONLY [] d)
  else if old = 3 ∧ v = 1 then msix 12 (record Ev.ACCEPT_MIRRORED [] d) else d
/-- ACCEPT and EXECUTING follow mode, lease and partner (R348). -/
def hiRoleReview (d : Dev) : Dev :=
  let d := wrB d Reg.HI_STATUS_EXECUTING (executing d)
  if !flag d Reg.HI_STATUS_RECOVERED then d
  else if simplex d then acceptPut 2 d
  else if partnerPresent d && flag d Reg.DX_STATUS_JOURNAL_LEVEL then acceptPut 1 d
  else acceptPut 3 d

/-- An error of DMA stops a submission ring (R339). -/
def ringStop (n : Nat) (cqSide : Bool) (ring : Nat) (d : Dev) : Dev :=
  wrB (wr (wrB d (Reg.HI_SQ_STATE_STOPPED n) true) Reg.HI_ERR_RING ring) Reg.HI_ERR_CQ_SIDE cqSide

end Sys2Proof.Machine
end

