-- ==== Sys2Proof/Machine/LegacyOps.lean ====
section
/-!
DEFINITION. The legacy bus ports (spec/11): what a port sends in each mode, receive FIFOs, Trestle units, line
supervision of the MVB, lease and mode at the ports. Ports are numbered as in R312.
-/
namespace Sys2Proof.Machine

/-- A port with nothing received or released. -/
def lbEmpty : LbPort := ⟨[], [], [], [], [], [], none, none, 0, [], false, false, none, 0⟩
/-- Port `n`. -/
def lbPort (d : Dev) (n : Nat) : LbPort := mgetD d.lb n lbEmpty
/-- Port `n` changed. -/
def lbSet (n : Nat) (f : LbPort → LbPort) (d : Dev) : Dev := { d with lb := mput d.lb n (f (lbPort d n)) }
/-- What the image says of a port. -/
def imgLb (d : Dev) (n : Nat) : ImgLb := mgetD d.img.legacy n ⟨[], [], [], none, [], 0⟩
/-- A port at work: enabled, up, and not stopped (R312, R325). -/
def lbActive (d : Dev) (n : Nat) : Bool :=
  bitF d Reg.LB_CFG_PORT_EN n && bitF d Reg.LB_STATUS_UP n && !bitF d Reg.LB_STATUS_FAULT n

/-- The payload with which a send object goes out in the present mode, or none (R314). -/
def lbForm (d : Dev) (n obj : Nat) : Option (List Byte) :=
  match mget (imgLb d n).tx obj with
  | none => none
  | some o =>
    let m := modeOf d
    if !leaseHeld d then none
    else if m = mRUN ∨ m = mHOLD then mget (lbPort d n).tx obj
    else if m = mSTOP then (if o.stopLast then mget (lbPort d n).tx obj else some o.safe)
    else none

/-- The dropped frame of a full FIFO: counted, event 0x4036 at most once per second per port (R315). -/
def lbOverflow (n : Nat) (d : Dev) : Dev :=
  let d := lbSet n (fun p => { p with dropped := p.dropped + 1 }) d
  let d := if n < 2 then inc d (Reg.LB_MVB_TO_RX_OVF n) else if n = 2 then d else inc d (Reg.LB_CAN_DROP_RX_OVF (n - 3))
  recordOnce Ev.LB_RX_OVERFLOW n [.w n, .w (lbPort d n).dropped] d
/-- The depth of a port's receive FIFO (R315). -/
def lbDepth (n : Nat) : Nat := if n < 2 then 64 else if n = 2 then 32 else 256
/-- A received frame into the FIFO, or dropped. -/
def lbReceive (n obj : Nat) (payload : List Byte) (d : Dev) : Dev :=
  if (lbPort d n).fifo.length < lbDepth n then lbSet n (fun p => { p with fifo := p.fifo ++ [⟨obj, schedTime d, payload⟩] }) d
  else lbOverflow n d

/-- The receive object of an identifier: the lowest-numbered one that matches (R323). -/
def lbRxOf (d : Dev) (n ident : Nat) (ext : Bool) : Option Nat :=
  ((imgLb d n).rx.find? fun e => (e.2.ident ^^^ ident) &&& e.2.mask == 0 && e.2.ext == ext).map (·.1)

/-- Whether a CAN frame may be handed to its line interface: a free launch place (8) or plain place (32) (R315). -/
def canRoom (d : Dev) (n : Nat) (s : CanSend) : Bool :=
  let h := (lbPort d n).hold
  if s.launch.isSome then decide ((h.filter (·.launch.isSome)).length < 8) else decide ((h.filter (·.launch.isNone)).length < 32)
/-- The first waiting send object that its line interface can take. -/
def lbReady (d : Dev) (n : Nat) : Option CanSend := (lbPort d n).wait.find? fun s => n < 3 || canRoom d n s
/-- A port has work for a Trestle unit (R305, R315). -/
def lbPending (d : Dev) (n : Nat) : Bool := !(lbPort d n).fifo.isEmpty || (lbReady d n).isSome

/-- The state of a CAN port: 0 error active, 1 passive, 2 bus-off, 3 listen-only or off. -/
def canState (d : Dev) (n : Nat) : Nat := rd d (Reg.LB_CAN_STAT_STATE (n - 3))
/-- Whether a CAN port may transmit: not bus-off, not listen-only, not silenced by a lost address claim (R325 to R327). -/
def canMaySend (d : Dev) (n : Nat) : Bool := decide (canState d n < 2) && !(lbPort d n).mute && lbActive d n
/-- A CAN frame sent. -/
def canSent (n : Nat) (s : CanSend) (d : Dev) : Dev := incW (emit (.legacy n s.obj s.payload) d) (Reg.LB_CAN_CNT_TX (n - 3))
/-- The plain frames held while the port could not send, sent (R322). -/
def canFlush (n : Nat) (d : Dev) : Dev :=
  if canMaySend d n then
    let l := (lbPort d n).hold.filter (·.launch.isNone)
    forEach l (canSent n) (lbSet n (fun p => { p with hold := p.hold.filter (·.launch.isSome) }) d)
  else d

/-- One Trestle unit for a port: a received frame out of its FIFO into its object and station, or a send object into the
line interface (R313, R315). -/
def lbUnit (n : Nat) (d : Dev) : Dev :=
  match (lbPort d n).fifo with
  | f :: r =>
    let d := lbSet n (fun p => { p with fifo := r, rx := mput p.rx f.obj f }) d
    let d := if 3 ≤ n then incW d (Reg.LB_CAN_CNT_RX (n - 3)) else d
    match (mget (imgLb d n).rx f.obj).bind (·.station) with
    | none => d
    | some st => stationCopy st f.time f.payload d
  | [] => match lbReady d n with
    | none => d
    | some s =>
      let d := lbSet n (fun p => { p with wait := p.wait.erase s }) d
      match lbForm d n s.obj with
      | none => d
      | some payload =>
        if n < 3 then lbSet n (fun p => { p with store := mput p.store s.obj payload }) d
        else canFlush n (lbSet n (fun p => { p with hold := p.hold ++ [{ s with payload := payload }] }) d)

/-- A released send object: its payload kept; one of a coupled class waits for the launch tick, another goes to the line
interface with the next unit, with its own launch time where it has one (R313, R324). -/
def lbRelease (n obj : Nat) (payload : List Byte) (d : Dev) : Dev :=
  match mget (imgLb d n).tx obj with
  | none => d
  | some o =>
    let d := lbSet n (fun p => { p with tx := mput p.tx obj payload }) d
    if flag d (Reg.CYC_CLS_CFG_COUPLED o.cls) then d
    else
      let at_ := o.launchAt.map fun off => mgetD d.cyc.prevDue o.cls 0 + off
      lbSet n (fun p => { p with wait := p.wait.filter (fun s => !(s.obj == obj)) ++ [⟨obj, at_, payload⟩] }) d
/-- The send objects of a coupled class written at its launch tick, with the tick as launch time on a CAN port (R181,
R313, R324). -/
def lbLaunch (cls launch : Nat) (d : Dev) : Dev :=
  forEach (List.range 7) (fun n d =>
    forEach (imgLb d n).tx (fun e d =>
      if e.2.cls = cls ∧ (mget (lbPort d n).tx e.1).isSome then
        lbSet n (fun p => { p with wait := p.wait ++ [⟨e.1, if 3 ≤ n then some launch else none, []⟩] }) d
      else d) d) d

/-! ## MVB -/

/-- Two basic periods of a port in ns (R317, R318). -/
def mvbTwoBp (d : Dev) (m : Nat) : Nat := (if flag d (Reg.LB_MVB_CFG_BP m) then 4 else 2) * msec
/-- The last valid frame of a line: false A, true B. -/
def mvbLast (d : Dev) (m : Nat) (line : Bool) : Option Nat := if line then (lbPort d m).lineB else (lbPort d m).lineA
/-- A line has carried a valid frame in the last two basic periods. -/
def mvbLive (d : Dev) (m : Nat) (line : Bool) : Bool :=
  match mvbLast d m line with
  | none => false
  | some t => decide (d.clk ≤ t + mvbTwoBp d m)
/-- LINE_A_OK or LINE_B_OK. -/
def mvbOkFld (m : Nat) (line : Bool) : Fld := if line then Reg.LB_MVB_STAT_LINE_B_OK m else Reg.LB_MVB_STAT_LINE_A_OK m
/-- The error count of a line. -/
def mvbErrFld (m : Nat) (line : Bool) : Fld := if line then Reg.LB_MVB_ERR_LINE_B m else Reg.LB_MVB_ERR_LINE_A m
/-- The status of a line after time has passed; its loss records event 0x4031 (R318). -/
def mvbReviewLine (m : Nat) (line : Bool) (d : Dev) : Dev :=
  if flag d (mvbOkFld m line) && !mvbLive d m line then
    record Ev.MVB_LINE_FAIL [.w m, .w (b2n line), .w (rd d (mvbErrFld m line))] (wrB d (mvbOkFld m line) false)
  else d
/-- Both lines of a port. -/
def mvbReview (m : Nat) (d : Dev) : Dev := mvbReviewLine m true (mvbReviewLine m false d)
/-- The line received from changed. -/
def mvbSwitch (m : Nat) (line : Bool) (d : Dev) : Dev :=
  lbSet m (fun p => { p with errs := 0 }) (wrB d (Reg.LB_MVB_STAT_RX_LINE m) line)
/-- A frame with an error on a line: counted; the second in a row on the current line changes lines (R318). -/
def mvbBad (m : Nat) (line : Bool) (d : Dev) : Dev :=
  let d := inc d (mvbErrFld m line)
  if flag d (Reg.LB_MVB_STAT_RX_LINE m) = line then
    if 1 ≤ (lbPort d m).errs then mvbSwitch m (!line) d else lbSet m (fun p => { p with errs := p.errs + 1 }) d
  else d
/-- A valid frame on a line: it takes over from a current line that has been silent for two basic periods (R318). -/
def mvbGood (m : Nat) (line : Bool) (d : Dev) : Dev :=
  let cur := flag d (Reg.LB_MVB_STAT_RX_LINE m)
  let d := lbSet m (fun p => if line then { p with lineB := some d.clk } else { p with lineA := some d.clk }) d
  let d := wrB d (mvbOkFld m line) true
  if cur = line then lbSet m (fun p => { p with errs := 0 }) d
  else if mvbLive d m cur then d else mvbSwitch m line d
/-- The basic periods that start at a tick on ports that are master (R317). -/
def mvbPeriods (tick : Nat) (d : Dev) : Dev :=
  forEach [0, 1] (fun m d =>
    let n := if flag d (Reg.LB_MVB_CFG_BP m) then 16 else 8
    if lbActive d m && tick % n == 0 && rd d (Reg.LB_MVB_STAT_MASTER m) == 1 then emit (.mvbPeriod m tick) (mvbReview m d)
    else d) d

/-! ## CANopen (R326) -/

/-- The NMT state code of a heartbeat in the present mode. -/
def nmtState (d : Dev) : Nat :=
  let m := modeOf d
  if m = mRUN ∧ leaseHeld d then 0x05 else if m = mSTOP ∨ m = mHOLD ∨ m = mSERVICE then 0x7F else 0x04
/-- The heartbeat of every CANopen port, sent when mode or lease change its content. -/
def canHeartbeats (d : Dev) : Dev :=
  forEach [3, 4, 5, 6] (fun n d =>
    if rd d (Reg.LB_CAN_CFG_HL (n - 3)) = 1 ∧ canMaySend d n then emit (.canopen n (nmtState d)) d else d) d
/-- The SYNC of ports whose class is due (R326). -/
def canSyncs (due : List Nat) (d : Dev) : Dev :=
  if inRun d && leaseHeld d then
    forEach [3, 4, 5, 6] (fun n d =>
      match (imgLb d n).syncCls with
      | none => d
      | some c => if rd d (Reg.LB_CAN_CFG_HL (n - 3)) = 1 ∧ c ∈ due ∧ canMaySend d n then emit (.canopen n 0) d else d) d
  else d

/-! ## Lease and start (R314, R327) -/

/-- The ports as their module gains or loses its lease: CAN ports normal or listen-only, the WTB attachment in use or
open, a J1939 address to be claimed again. -/
def lbLease (d : Dev) : Dev :=
  let held := leaseHeld d
  let d := forEach [3, 4, 5, 6] (fun n d =>
    if lbActive d n then
      let d := if !held then wr d (Reg.LB_CAN_STAT_STATE (n - 3)) 3
        else if canState d n = 3 then wr d (Reg.LB_CAN_STAT_STATE (n - 3)) 0 else d
      if rd d (Reg.LB_CAN_CFG_HL (n - 3)) = 2 then
        let d := wr (lbSet n (fun p => { p with claimed := false, mute := false }) d) (Reg.LB_CAN_STAT_ADDR (n - 3)) 0xFE
        if held then emit (.j1939 n (rd d (Reg.LB_CAN_CFG_NODE (n - 3)))) d else d
      else d
    else wr d (Reg.LB_CAN_STAT_STATE (n - 3)) 3) d
  let d := if !lbActive d 2 then d
    else if !held then
      let d := wrB (wr (wr d Reg.LB_WTB_STAT_SWITCH 3) Reg.LB_WTB_STAT_STATE 3) Reg.LB_WTB_STAT_TERM false
      lbSet 2 (fun p => { p with want := none }) (wrB d Reg.LB_WTB_STAT_MASTER false)
    else if rd d Reg.LB_WTB_STAT_STATE = 3 ∨ rd d Reg.LB_WTB_STAT_STATE = 0 then wr d Reg.LB_WTB_STAT_STATE 1 else d
  canHeartbeats d
/-- The ports as boot step 8 starts them. -/
def lbStart (d : Dev) : Dev :=
  let d := wr d Reg.LB_STATUS_UP (rd d Reg.LB_CFG_PORT_EN)
  let d := forEach [0, 1] (fun m d => if lbActive d m then wr d (Reg.LB_MVB_STAT_MASTER m) 2 else d) d
  let d := forEach [0, 1, 2, 3] (fun c d =>
    if rd d (Reg.LB_CAN_CFG_HL c) = 2 then d else wr d (Reg.LB_CAN_STAT_ADDR c) 0xFF) d
  lbLease d

end Sys2Proof.Machine
end

