-- ==== Sys2Proof/Machine/TimeUnit.lean ====
section
/-!
DEFINITION. What the Time unit's commands do (spec/08, R510).
-/
namespace Sys2Proof.Machine

/-- SYNC_RECEIVED: a Sync on a port, its master time and its receive timestamp in schedule time (R232, R239 to R243). -/
def syncReceived (port origin rxS : Nat) (d : Dev) : Dev :=
  if !ptpPort d port ∨ rd d Reg.TU_STATUS_SLAVE_PORT ≠ port ∨ tuSource d = 3 then d
  else
    let st := tuState d
    if st = tsUNSET then
      let d := tuSet (fun t => { t with acqSyncs := 1, acqAt := (origin, d.clk) }) (wr d Reg.TU_STATUS_STATE tsACQUIRE)
      emit (.ptp port (if rd d Reg.TU_CFG_PROFILE = 0 then 2 else 3) (trainTime d)) d
    else if st = tsACQUIRE then
      acquireReview (tuSet (fun t => { t with acqSyncs := t.acqSyncs + 1, acqAt := (origin, d.clk) }) d)
    else
      let theta := syncTheta d port origin rxS
      let d := showTheta theta d
      if st = tsTRACKING ∨ st = tsHOLDOVER ∨ (st = tsGRANDMASTER ∧ d.tu.judging) then servoSample theta d else d

/-- PATH_DELAY_MEASURED: a path delay measurement of a port (R252). -/
def pathDelayMeasured (port ns : Nat) (d : Dev) : Dev := if ptpPort d port then acquireReview (pathDelay port ns d) else d

/-- The master is lost before the initial set: UNSET again, and the Syncs counted so far with it (R232, R241). -/
def acquireEnd (d : Dev) : Dev := tuSet (fun t => { t with acqSyncs := 0 }) (wr d Reg.TU_STATUS_STATE tsUNSET)
/-- The algorithm's result applied (R236, R241). Another master selected in ACQUIRE loses the one before (DEDUCED, log 163). -/
def bmcApply (gm : Nat) (r : BmcResult) (d : Dev) : Dev :=
  match r with
  | .same => d
  | .slave port passive =>
    let other := d.tu.master ≠ gm ∨ rd d Reg.TU_STATUS_SLAVE_PORT ≠ port
    let d := tuSet (fun t => { t with master := gm }) (wr d Reg.TU_STATUS_SLAVE_PORT port)
    let d := gmChange gm port (ptpPortStates port passive d)
    let d := wr d Reg.TU_PATH_DELAY (rd d (Reg.TU_PORT_PD port))
    let st := tuState d
    if st = tsGRANDMASTER then tuSet (fun t => { t with judging := true, outliers := 0 }) d
    else if st = tsACQUIRE ∧ other then acquireEnd d
    else d
  | .self passive =>
    let st := tuState d
    if tuSource d = 2 ∧ (st = tsTRACKING ∨ st = tsHOLDOVER ∨ st = tsDISCONTINUITY ∨ st = tsGRANDMASTER) then becomeGm passive d else d

/-- ANNOUNCE_RECEIVED: an Announce on a port, with the grandmaster and the result of the algorithm (R236, R237). -/
def announceReceived (port gm : Nat) (r : BmcResult) (d : Dev) : Dev :=
  if !ptpPort d port ∨ tuSource d = 3 then d else bmcApply gm r d

/-- ANNOUNCE_TIMEOUT: announceReceiptTimeout expires, with the master the algorithm selects then (R233, R241). -/
def announceTimeout (gm : Nat) (r : BmcResult) (d : Dev) : Dev :=
  if tuSource d = 0 ∨ tuSource d = 3 then d
  else
    let d := wrB d Reg.TU_STATUS_OFFSET_VALID false
    let st := tuState d
    let lost (d : Dev) : Dev :=
      if st = tsTRACKING then holdoverEnter d else if st = tsACQUIRE then wr (acquireEnd d) Reg.TU_STATUS_SLAVE_PORT 7 else d
    match r with
    | .slave port passive => bmcApply gm (.slave port passive) (if st = tsACQUIRE then acquireEnd d else d)
    | .self passive =>
      if tuSource d ≠ 2 ∨ st = tsACQUIRE then lost d
      else if st = tsUNSET then becomeGm passive d
      else bmcApply gm (.self passive) d
    | .same => lost d

/-- Train time of the corrected transmit timestamp of a frame that leaves now (R249, R250). -/
def txTrain (d : Dev) (port : Nat) : Nat := ofSigned 64 ((txStamp d port (schedTime d) : Int) + epochE d)
/-- PTP_INTERVAL_TIMER: a message interval of a port ends: 0 Sync with its Follow_Up, 1 Announce on a MASTER port, 2 a delay request on the
slave port, 3 a peer delay request (R235 to R238). -/
def ptpIntervalTimer (port kind : Nat) (d : Dev) : Dev :=
  let ps := rd d (Reg.TU_PORT_STATE_PORT_STATE port)
  if !ptpPort d port then d
  else if kind = 0 then
    if ps = 6 ∧ schedValid d then emit (.ptp port 6 (txTrain d port)) (emit (.ptp port 0 (trainTime d)) d) else d
  else if kind = 1 then
    if ps = 6 ∧ schedValid d then
      if flag d Reg.TU_STATUS_GM then
        emit (.announce port (rd d Reg.TU_GM_ID) (rd d Reg.TU_PRIO_PRIORITY1) (rd d Reg.TU_PRIO_CLOCK_CLASS) (rd d Reg.TU_PRIO_PRIORITY2)
          0xA0 true false) d
      else emit (.ptp port 1 (trainTime d)) d
    else d
  else if kind = 2 then
    if rd d Reg.TU_STATUS_SLAVE_PORT = port ∧ rd d Reg.TU_CFG_PROFILE = 0 then emit (.ptp port 2 (trainTime d)) d else d
  else if rd d Reg.TU_CFG_PROFILE = 0 then d else emit (.ptp port 3 (trainTime d)) d

/-- DELAY_REQ_RECEIVED: 0 a Delay_Req answered on a MASTER port, 1 a Pdelay_Req answered on any with its Follow_Up, with the corrected receive
timestamp plus E (R235, R236, R250); 2 a management message discarded and counted as malformed, with event 0x4020 (R235, R302; its source
address, which the command does not carry, is 0: DESIGN CHOICE, log 164). -/
def delayReqReceived (port kind rxS : Nat) (d : Dev) : Dev :=
  let t := ofSigned 64 ((rxStamp d port rxS : Int) + epochE d)
  if !ptpPort d port then d
  else if kind = 0 then
    if rd d Reg.TU_CFG_PROFILE = 0 ∧ rd d (Reg.TU_PORT_STATE_PORT_STATE port) = 6 then emit (.ptp port 4 t) d else d
  else if kind = 1 then
    if rd d Reg.TU_CFG_PROFILE = 0 then d else emit (.ptp port 7 (txTrain d port)) (emit (.ptp port 5 t) d)
  else recordOnce Ev.MALFORMED 3 [.w 3, .w port, .w 0] (inc d (Reg.TE_MALF 3))

/-- SCHED_TIME_SAVE: once per second of schedule time S is written into the boot parameters (R231), and a second of
holdover counts (R242). -/
def schedTimeSave (d : Dev) : Dev :=
  if schedValid d then
    let d := bpSet (fun b => { b with savedS := schedTime d }) d
    if tuState d = tsHOLDOVER then incW d Reg.TU_HOLDOVER else d
  else d

/-- A crossing overrun: its bit and count, event 0x9012 at most once per second per crossing; crossings 0 to 6, 9 and
11 never overrun (R513). -/
def crossingOverrun (c : Nat) (d : Dev) : Dev :=
  if c ∈ [0, 1, 2, 3, 4, 5, 6, 9, 11] then d
  else
    let d := inc (setBitF d Reg.CKR_OVR_OVR c) (Reg.CKR_OVR_CNT_COUNT c)
    recordOnce Ev.CROSSING_OVERRUN c [.w c, .w (rd d (Reg.CKR_OVR_CNT_COUNT c))] d
/-- The crossings of a mask that overran. -/
def crossingOverruns (mask : Nat) (d : Dev) : Dev := forEach (bitsOf 24 mask) crossingOverrun d

/-- Schedule time, once valid, run on with its rate for `ns` of the module's clock. -/
def schedAdvance (ns : Nat) (d : Dev) : Dev :=
  if schedValid d then
    let x := schedAfter ns d
    wr (tuSet (fun t => { t with frac := x.2 }) d) Reg.TU_SCHED x.1
  else d
/-- TIME_REALIGN: one microsecond of the module's clock passes; schedule time, once valid, has run on at its rate and the copies of the MACs
are realigned (R229, R248, R510), and the crossings that overran are noted (R513). -/
def timeRealign (overruns : Nat) (d : Dev) : Dev :=
  let d := schedAdvance 1000 (clkAdvance 1000 d)
  crossingOverruns overruns (if schedValid d then macsRealign d else d)

/-- TXTS_APPEND: the timestamp point of a frame with an identifier passes; its corrected timestamp is appended (R249, R255). -/
def txtsNote (p id ts : Nat) (d : Dev) : Dev := txtsAppend p id (txStamp d p ts) d
/-- TXTS_ID_READ: a Deck read of TU_TXTS_ID_p removes the oldest entry and latches its timestamp; with the queue empty
it returns VALID 0 (R257). -/
def txtsIdRead (p : Nat) (d : Dev) : Dev :=
  let a := (Reg.TU_TXTS_ID_ID p).addr
  match txtsOf d p with
  | [] => emit (.read a 0) d
  | e :: r => wr (txtsPut p r (emit (.read a (2 ^ 31 + e.1)) d)) (Reg.TU_TXTS p) e.2

/-- A field written within its range, else kept with THR_REJ set (R259). -/
def tuField (f : Fld) (v : Nat) (d : Dev) : Dev :=
  if inRange f.w f.rng v then wr d f v else wrB d Reg.TU_STATUS_THR_REJ true
/-- TU_SETTING_WRITE: a word written to a setting register (R259). -/
def tuSettingWrite (r : TuSetting) (w : Nat) (d : Dev) : Dev :=
  match r with
  | .slewLimit => tuField Reg.TU_SLEW_LIMIT_LIMIT (bitField w 0 7) d
  | .jumpThresh => tuField Reg.TU_JUMP_THRESH_US (bitField w 0 20) d
  | .pdStep => tuField Reg.TU_PD_STEP_HOLD_N (bitField w 16 8) (tuField Reg.TU_PD_STEP_STEP_NS (bitField w 0 16) d)
  | .asym p => tuField (Reg.TU_ASYM p) w d
  | .launch p => tuField (Reg.TU_LAUNCH_POLICY p) (bitField w 16 1) (tuField (Reg.TU_LAUNCH_LATE_TOL p) (bitField w 0 16) d)

end Sys2Proof.Machine
end

