-- ==== Sys2Proof/Machine/Network.lean ====
section
/-!
DEFINITION. What the network commands do (spec/10): forwarding in the switch, gates, replication, RSTP, inauguration, the
units of the Trestle and its timeouts.
-/
namespace Sys2Proof.Machine

/-! ## Switch -/

/-- The link of a port is up; the internal port always is. -/
def portUp (d : Dev) (p : Nat) : Bool := p == 6 || (flag d (Reg.SW_PORT_CFG_EN p) && flag d (Reg.SW_PORT_STAT_LINK p))
/-- A port forwards frames of a VLAN entry: it takes no part in RSTP, is in state forwarding, or the VLAN is exempt (R287). -/
def portForwards (d : Dev) (p n : Nat) : Bool :=
  !(flag d Reg.SW_CFG_RSTP_EN && flag d (Reg.SW_PORT_CFG_RSTP p)) || rd d (Reg.SW_PORT_STAT_RSTP_STATE p) == 3 ||
    flag d (Reg.SW_VLAN_RSTP_EXEMPT n)
/-- A source address learned, up to 8192 of them (R282). -/
def macLearn (src p : Nat) (d : Dev) : Dev :=
  if (mget d.sw.macs src).isSome || decide (d.sw.macs.length < 8192) then swSet (fun s => { s with macs := mput s.macs src p }) d else d
/-- A frame for the module: process data, message data or another protocol into its queue (R295, R298, R305). -/
def frameInward (c : FrameFor) (d : Dev) : Dev :=
  match c with
  | .transit => d
  | .ptp => d
  | .trestle f => if isMd f then mdArrive f d else pdArrive f d
  | .control => teSet (fun t => { t with ctlq := t.ctlq + 1, demand := t.demand + 1 }) d
/-- The ports a frame leaves by: where its destination was learned, else every other member of its VLAN; a routed frame the ports
of the other side (R282, R289). -/
def framePorts (d : Dev) (p n : Nat) (f : EthFrame) : List Nat :=
  let members := (List.range 7).filter fun q => q != p && bitF d (Reg.SW_VLAN_MEMBERS n) q && portUp d q && portForwards d q n
  match f.ipDst with
  | some _ => members.filter fun q => q != 6 && (decide (q < 2) != decide (p < 2))
  | none =>
    match (if bitOf f.dst 40 then none else mget d.sw.macs f.dst) with
    | none => members
    | some q => members.filter (· == q)
/-- Whether a routed frame goes on: no inauguration runs and the R-NAT table knows its destination (R289). -/
def frameRouted (d : Dev) (f : EthFrame) : Bool :=
  match f.ipDst with
  | none => true
  | some a => rd d Reg.TE_STATUS_INAUG != 1 && (mget d.sw.rnat a).isSome
/-- Whether a frame is a PTP message, which the switch does not forward between ports (R236). -/
def frameIsPtp (f : EthFrame) : Bool :=
  match f.content with
  | .ptp => true
  | .trestle g => g.ptpMgmt
  | _ => false
/-- A frame forwarded: out of its egress ports at its class, on both ports of the pair of its stream under one sequence number,
and to the module (R281 to R283, R286). -/
def frameForward (p n pcp : Nat) (f : EthFrame) (stream : Option Nat) (d : Dev) : Dev :=
  let ports := framePorts d p n f
  let pair := match stream with
    | none => []
    | some k => frerPair d k
  let double := !pair.isEmpty && !pair.contains p && ports.any pair.contains
  let seq := mgetD d.sw.frerTx (stream.getD 0) 0
  let d := if double then swSet (fun s => { s with frerTx := mput s.frerTx (stream.getD 0) (trunc 16 (seq + 1)) }) d else d
  let out := if double then (List.range 7).filter fun q => ports.contains q || (pair.contains q && portUp d q) else ports
  forEach out (fun q d =>
    if q = 6 then frameInward f.content d
    else
      let tag := if double && pair.contains q then some seq else none
      let len := f.len + (if tag.isSome then 6 else 0) - (if f.rtag.isSome then 6 else 0)
      swEgress q ⟨len, pcp, if bitF d (Reg.SW_VLAN_UNTAG n) q then none else some (rd d (Reg.SW_VLAN_VID n)), tag, f.dst, 0⟩ d) d
/-- SWITCH_FRAME_RECEIVED: a frame enters port `p` and is counted, dropped or forwarded (R281 to R286). -/
def switchFrame (p : Nat) (f : EthFrame) (d : Dev) : Dev :=
  if !netActive d || !portUp d p then d
  else
    let d := incW d (Reg.SW_PORT_RX p)
    let vlanDrop (d : Dev) : Dev := inc d (Reg.SW_PORT_DROP_B_VLAN p)
    if (if f.rtag.isSome then 1528 else 1522) < f.len then inc d (Reg.SW_PORT_DROP_A_OVERSIZE p)
    else if f.len < 64 ∨ !f.fcsOk then inc d (Reg.SW_PORT_DROP_A_FCS p)
    else if flag d (Reg.SW_PORT_CFG_TAGGED_ONLY p) ∧ (f.tag.map (·.1)).getD 0 = 0 then vlanDrop d
    else
      let vid := match f.tag with
        | some (v, _) => if v = 0 then rd d (Reg.SW_PORT_CFG_PVID p) else v
        | none => rd d (Reg.SW_PORT_CFG_PVID p)
      let pcp := match f.tag with
        | some (_, c) => c
        | none => rd d (Reg.SW_PORT_CFG_DEF_PCP p)
      match swVlan d vid with
      | none => vlanDrop d
      | some n =>
        if !bitF d (Reg.SW_VLAN_MEMBERS n) p then vlanDrop d
        else
          let learns := portForwards d p n || rd d (Reg.SW_PORT_STAT_RSTP_STATE p) == 2
          let d := if learns then macLearn f.src p d else d
          if frameIsPtp f then frameInward f.content d
          else if !portForwards d p n || !frameRouted d f then d
          else
            let stream := frerStream d vid f.dst
            match stream, f.rtag with
            | some k, some seq =>
              if (frerPair d k).contains p then
                let r := frerAccept k seq d
                if r.1 then frameForward p n pcp f stream r.2 else r.2
              else frameForward p n pcp f stream d
            | _, _ => frameForward p n pcp f stream d

/-- FRAME_LAUNCH: the head frame of a port's queue at the schedule time its port could start it (R253, R254). -/
def frameLaunch (port queue now : Nat) (d : Dev) : Dev := launchHead port queue now d

/-- GATE_CONTROL_ENTRY: the next entry of a port's list takes effect; the last one holds until the cycle ends (R284). -/
def gateEntry (p : Nat) (d : Dev) : Dev :=
  if flag d (Reg.SW_GCL_CTRL_EN p) ∧ swGateIdx d p + 1 < rd d (Reg.SW_GCL_CTRL_LEN p) then
    swDrain p (swSet (fun s => { s with gate := mput s.gate p (swGateIdx d p + 1) }) d)
  else d
/-- MAC_AGE_OUT: an address leaves the table (R282). -/
def macAgeOut (mac : Nat) (d : Dev) : Dev := swSet (fun s => { s with macs := mdel s.macs mac }) d
/-- FRER_RECOVERY_RESET: 100 ms without a frame of a stream (R286). -/
def frerReset (n : Nat) (d : Dev) : Dev :=
  if flag d (Reg.SW_FRER_ID_VALID n) then
    inc (swSet (fun s => { s with frer := mput s.frer n ⟨0, 0, true⟩ }) d) (Reg.SW_FRER_STAT_RESETS n)
  else d
/-- BPDU_RECEIVED: a BPDU and the role and state that the protocol then gives its port; one on an ETB port, or on a port
outside RSTP, is dropped (R287). -/
def bpduReceived (p role st : Nat) (d : Dev) : Dev :=
  if !netActive d || !portUp d p then d
  else
    let d := incW d (Reg.SW_PORT_RX p)
    if p < 2 ∨ !flag d Reg.SW_CFG_RSTP_EN ∨ !flag d (Reg.SW_PORT_CFG_RSTP p) then d
    else if role = rd d (Reg.SW_PORT_STAT_RSTP_ROLE p) ∧ st = rd d (Reg.SW_PORT_STAT_RSTP_STATE p) then d
    else
      let d := wr (wr d (Reg.SW_PORT_STAT_RSTP_ROLE p) role) (Reg.SW_PORT_STAT_RSTP_STATE p) st
      record Ev.RSTP_TOPOLOGY [.w p, .w role, .w st] d

/-- LINK_CHANGE: a port gains or loses link, with event 0x4010; the Time unit's slave port losing it leaves the state that a
master gave, with what the algorithm then selects (R241, R279). -/
def linkChange (p : Nat) (up : Bool) (speed gm : Nat) (r : BmcResult) (d : Dev) : Dev :=
  if up = flag d (Reg.SW_PORT_STAT_LINK p) ∧ (!up ∨ speed = rd d (Reg.SW_PORT_STAT_SPEED p)) then d
  else
    let speed := if up then speed else 0
    let d := wr (wrB d (Reg.SW_PORT_STAT_LINK p) up) (Reg.SW_PORT_STAT_SPEED p) speed
    let d := record Ev.LINK_CHANGE [.w p, .w (b2n up), .w speed] d
    let st := tuState d
    if !up ∧ rd d Reg.TU_STATUS_SLAVE_PORT = p ∧ (st = tsTRACKING ∨ st = tsACQUIRE) then announceTimeout gm r d else d

/-! ## Inauguration (R288 to R290) -/

/-- What a TTDP frame leads to: state, counts, train directory and R-NAT table, with event 0x4001 at the end of an inauguration. -/
def ttdpApply (r : TtdpResult) (d : Dev) : Dev :=
  if !netActive d then d
  else match r with
    | .nothing => d
    | .running => wr d Reg.TE_STATUS_INAUG 1
    | .inhibited => wr d Reg.TE_STATUS_INAUG 3
    | .done etb opTrn consists pos orient rnat =>
      let old := rd d Reg.TE_ETB_TOPO
      let d := wr (wr (wr d Reg.TE_ETB_TOPO etb) Reg.TE_OPTRN_TOPO opTrn) Reg.TE_STATUS_INAUG 2
      let d := wr (wr (wr d Reg.TE_STATUS_CONSISTS consists) Reg.TE_STATUS_OWN_POS pos) Reg.TE_STATUS_ORIENT orient
      let table := (rnat.take 256).foldl (fun m e => mput m e.1 e.2) []
      let d := wr (swSet (fun s => { s with rnat := table }) d) Reg.TE_STATUS_RNAT table.length
      record Ev.INAUGURATION [.w old, .w etb, .w opTrn, .w consists, .w pos] d

/-! ## Units of the Trestle (R304, R305) -/

/-- A complete message for the module: judged under R302, an unknown request answered with Me, an answer that a SEND_MD waits for
completes it, the rest handed to the Deck controller (R298, R302). -/
def mdDeliver (f : TrFrame) (d : Dev) : Dev :=
  match malformKind d f with
  | some k =>
    let d := malformed k f d
    if k = 4 ∧ (f.msg = 4) then emit (.mdSent 8 f.comId f.src f.session []) d else d
  | none =>
    match (if 5 ≤ f.msg then mget d.te.sessions f.session else none) with
    | none => emit (.mdReceived f.src f.comId f.session f.payload) d
    | some s => cmdFinal s St.OK f.payload (teSet (fun t => { t with sessions := mdel t.sessions f.session }) d)
/-- The message data frame at the front of its queue taken by a unit (R293, R298). -/
def mdUnit (f : TrFrame) (r : List TrFrame) (d : Dev) : Dev :=
  let d := wr (teSet (fun t => { t with mdq := r }) d) Reg.TE_MD_Q_DEPTH r.length
  match f.frag with
  | none => mdDeliver f d
  | some (key, off, last) =>
    let x := fragTake f key off last d
    match x.1 with
    | none => x.2
    | some m => mdDeliver m x.2

/-- The first legacy port with pending work, in turn from a port on. -/
def lbNext (d : Dev) (turn : Nat) : Option Nat := ((List.range 7).map fun i => (turn + i) % 7).find? (lbPending d)
/-- The frame of a publication in the egress queues of its ports (R283). -/
def pubFrame (p : ImgPub) (payload : List Byte) (d : Dev) : Dev :=
  let x := pubPorts p d
  forEach x.1 (fun q d => swEgress q.1 ⟨payload.length + 90 + (if q.2.2.isSome then 6 else 0), 5, q.2.1, q.2.2, p.dst, 0⟩ d) x.2
/-- A due publication sent by a unit, with its latency from the sending instant (R296, R307). -/
def sendUnit (n since : Nat) (d : Dev) : Dev :=
  match mget d.img.pubs n with
  | none => d
  | some p =>
    let r := pubSend n p false d
    match r.1 with
    | none => r.2
    | some payload =>
      let lat := (d.clk - since) / 100
      pubFrame p payload (maxTo (wrSat r.2 Reg.TE_LAT_PUB_LAST lat) Reg.TE_LAT_PUB_MAX lat)
/-- A PD reply sent by a unit (R296). -/
def replyUnit (n dst : Nat) (d : Dev) : Dev :=
  match mget d.img.pubs n with
  | none => d
  | some p =>
    let r := pubSend n p true d
    match r.1 with
    | none => r.2
    | some payload => pubFrame { p with dst := dst } payload r.2

/-- Work of levels 2 to 5 of R305. -/
def commonUnit (d : Dev) : Dev :=
  match d.te.pdq with
  | (f, at_) :: r => pdReceive f at_ (teSet (fun t => { t with pdq := r }) d)
  | [] => match d.te.sendq with
    | (n, _, since) :: r => sendUnit n since (teSet (fun t => { t with sendq := r }) d)
    | [] => match d.te.replies with
      | (n, dst) :: r => replyUnit n dst (teSet (fun t => { t with replies := r }) d)
      | [] => match lbNext d d.te.lbTurn with
        | some n => lbUnit n (teSet (fun t => { t with lbTurn := (n + 1) % 7 }) d)
        | none => match d.te.mdq with
          | f :: r => mdUnit f r d
          | [] => teSet (fun t => { t with ctlq := t.ctlq - 1 }) d
/-- TRESTLE_UNIT: the first pending work in the order of R305; every 16th unit is the reserved one. -/
def trestleUnit (d : Dev) : Dev :=
  if !netActive d || pairHalted d 2 then d
  else
    let n := d.te.unitNo
    let d := teSet (fun t => { t with unitNo := (n + 1) % 16 }) d
    match (if n = 15 then lbNext d d.te.turn else none) with
    | some k => lbUnit k (teSet (fun t => { t with turn := (k + 1) % 7 }) d)
    | none => commonUnit d

/-! ## Timeouts -/

/-- MD_REASSEMBLY_TIMEOUT: a reassembly discarded as FRAGMENT (R293, R302). -/
def reassemblyTimeout (key : Nat) (d : Dev) : Dev :=
  match mget d.te.reasm key with
  | none => d
  | some r => malformed 6 r.first (teSet (fun t => { t with reasm := mdel t.reasm key }) d)
/-- MD_REPLY_TIMEOUT: no answer in time (R298, R352). -/
def mdReplyTimeout (session : Nat) (d : Dev) : Dev :=
  match mget d.te.sessions session with
  | none => d
  | some s => cmdFinal s St.MD_TIMEOUT [] (teSet (fun t => { t with sessions := mdel t.sessions session }) d)
/-- SUBSCRIPTION_TIMEOUT: no copy within the timeout (R294). -/
def subTimeout (n : Nat) (d : Dev) : Dev :=
  let at_ := ((mget d.te.subs n).map (·.time)).getD 0
  let wait := ((mget d.img.subs n).map (·.timeout)).getD 0
  if rd d (Reg.TE_SUB_STAT_STATE n) = 1 ∧ at_ + wait * 1000000 ≤ schedTime d then wr d (Reg.TE_SUB_STAT_STATE n) 2 else d

end Sys2Proof.Machine
end

