-- ==== Sys2Proof/Machine/GirderOps.lean ====
section
/-!
DEFINITION. The Girder (spec/14): windows, the request queue, transactions phase by phase, results, scans, line
buffers, the safe list and the happenings of R412.
-/
namespace Sys2Proof.Machine

/-- Status codes of a result record (R406). -/
def gsOK : Nat := 0
/-- TARGET_ERR. -/
def gsTARGET_ERR : Nat := 1
/-- TIMEOUT. -/
def gsTIMEOUT : Nat := 2
/-- NO_GRANT. -/
def gsNO_GRANT : Nat := 3
/-- PARITY. -/
def gsPARITY : Nat := 4
/-- BP_RESET. -/
def gsBP_RESET : Nat := 5
/-- ABORTED. -/
def gsABORTED : Nat := 6
/-- DISCARDED. -/
def gsDISCARDED : Nat := 7
/-- NO_CLOCK. -/
def gsNO_CLOCK : Nat := 8

/-- The Girder's own part changed. -/
def gbSet (f : GbUnit → GbUnit) (d : Dev) : Dev := { d with gb := f d.gb }
/-- QUEUE and its peak follow the queue. -/
def gbLevel (d : Dev) : Dev := maxTo (wr d Reg.GB_STATUS_QUEUE d.gb.queue.length) Reg.GB_QUEUE_PEAK d.gb.queue.length
/-- The queue replaced. -/
def gbQueue (q : List GbReq) (d : Dev) : Dev := gbLevel (gbSet (fun g => { g with queue := q }) d)

/-- Whether a byte-enable pattern is legal: one bit, two adjacent bits of lanes 0–1 or 2–3, or all four (R401). -/
def beLegal (be : Nat) : Bool := [1, 2, 4, 8, 3, 12, 15].contains be
/-- The lanes enabled, as a mask of bits. -/
def beMask (be : Nat) : Nat := (bitsOf 4 be).foldl (fun m i => m + 0xFF * 2 ^ (8 * i)) 0
/-- The bytes of an access reversed within its width (R402). -/
def swapBytes (be v : Nat) : Nat :=
  let b (i : Nat) : Nat := bitField v (8 * i) 8
  if be = 15 then b 3 + b 2 * 2 ^ 8 + b 1 * 2 ^ 16 + b 0 * 2 ^ 24
  else if be = 3 then v - bitField v 0 16 + (b 1 + b 0 * 2 ^ 8)
  else if be = 12 then bitField v 0 16 + b 3 * 2 ^ 16 + b 2 * 2 ^ 24
  else v
/-- Data as driven or received through a window's byte order (R402). -/
def winSwap (d : Dev) (win be v : Nat) : Nat := if flag d (Reg.GB_WIN_CFG_SWAP win) then swapBytes be v else v
/-- The window maps: enabled, its BASE aligned to its size, the offset inside (R400). -/
def winMaps (d : Dev) (win off : Nat) : Bool :=
  let size := rd d (Reg.GB_WIN_CFG_SIZE win)
  flag d (Reg.GB_WIN_CFG_EN win) && rd d (Reg.GB_WIN_BASE_BASE win) * 0x10000 % 2 ^ size == 0 && decide (off < 2 ^ size)
/-- The backplane word address of an offset (R397, R400). -/
def winAddr (d : Dev) (win off : Nat) : Nat := rd d (Reg.GB_WIN_BASE_BASE win) * 0x10000 + off / 4 * 4
/-- The target word of R403. -/
def gbTarget (win off : Nat) : Nat := win * 2 ^ 27 + off

/-- A failure counted by its status (GB_FAIL_A, GB_FAIL_B). -/
def gbCountFail (st : Nat) (d : Dev) : Dev :=
  if st = gsTARGET_ERR then inc d Reg.GB_FAIL_A_TARGET_ERR else if st = gsTIMEOUT then inc d Reg.GB_FAIL_A_TIMEOUT
  else if st = gsNO_GRANT then inc d Reg.GB_FAIL_B_NO_GRANT else if st = gsPARITY then inc d Reg.GB_FAIL_B_PARITY
  else if st = gsBP_RESET ∨ st = gsNO_CLOCK then inc d Reg.GB_FAIL_B_BP_RESET
  else if st = gsABORTED then inc d Reg.GB_FAIL_B_ABORTED else d

/-- The results queue of a class. -/
def gbResults (d : Dev) (cls : Nat) : List GbResult := mgetD d.gb.results cls []
/-- A result record placed in its class's queue of 1024, or dropped and counted (R407). -/
def gbRecord (r : GbResult) (d : Dev) : Dev :=
  if (gbResults d r.cls).length < 1024 then
    gbSet (fun g => { g with results := mput g.results r.cls (mgetD g.results r.cls [] ++ [r]) }) d
  else inc d Reg.GB_RES_OVF_COUNT

/-- Whether a window is observed and an offset is no claim target (R383, R392, R416). -/
def gbObserved (d : Dev) (win off : Nat) : Bool :=
  flag d (Reg.GB_WIN_CFG_OBSERVED win) &&
    !((List.range (rd d Reg.DX_CLAIM_CFG_COUNT)).any fun n =>
      flag d Reg.DX_CLAIM_CFG_EN && rd d (Reg.DX_CLAIM_TGT_WINDOW n) == win && rd d (Reg.DX_CLAIM_TGT_OFFSET n) / 4 == off / 4)

/-- The scan of a class changed. -/
def gbScanSet (cls : Nat) (f : GbScan → GbScan) (d : Dev) : Dev :=
  match mget d.gb.scans cls with
  | none => d
  | some s => gbSet (fun g => { g with scans := mput g.scans cls (f s) }) d

/-- The safe-list run ended: event 0x7008 with the mode entered and the writes that failed (R415). -/
def gbSafeDone (d : Dev) : Dev :=
  if d.gb.safeLeft = 0 then record Ev.GB_SAFE_LIST [.w d.gb.safeMode, .w d.gb.safeFails] d else d

/-- A failure of an application access reported: GB_LF registers and event 0x7001 for a posted write, event 0x7002 for
the others (R410, R418). -/
def gbReportFail (r : GbReq) (cycle cls seg st : Nat) (posted : Bool) (d : Dev) : Dev :=
  let items := [.w r.win, .w r.off, .w seg, .w cls, .q cycle, .w st]
  let d := inc d (Reg.GB_WIN_CNT_FAIL r.win)
  if posted then
    let d := wr (wr d Reg.GB_LF_INFO_STATUS st) Reg.GB_LF_INFO_CLASS cls
    let d := wr (wr d Reg.GB_LF_INFO_WINDOW r.win) Reg.GB_LF_INFO_SEGMENT seg
    let d := wr (wr d Reg.GB_LF_OFFSET_OFFSET r.off) Reg.GB_LF_CYC cycle
    record Ev.GB_LATE_WRITE_FAIL items (incW d Reg.GB_LF_COUNT)
  else record Ev.GB_ACCESS_FAIL items d

/-- The value that a read-modify-write writes over an old one (R411). -/
def rmwNew (old : Nat) (r : GbReq) : Nat := (old &&& (0xFFFFFFFF - r.mask)) ||| (r.data &&& r.mask)
/-- Entry numbers from here on belong to a late scan, whose data is discarded (R408). -/
def staleEntry : Nat := 256
/-- An access ends with a status and data: the application's result record and reports (R406, R410), the Deck
controller's answer, the scan's data (R408), the safe list's count (R415); a completed write to an observed window is
counted for the declaration (R383). -/
def gbFinish (r : GbReq) (st data : Nat) (d : Dev) : Dev :=
  let d := gbCountFail st d
  let written := if r.kind = 2 then rmwNew data r else r.data
  let d := if (r.kind = 0 ∨ r.kind = 2) ∧ st = gsOK ∧ gbObserved d r.win r.off ∧ r.origin ≠ .claim then
      gbSet (fun g => { g with own := g.own ++ [(gbTarget r.win r.off, written &&& beMask r.be)] }) d
    else d
  match r.origin with
  | .app cycle cls seg =>
    let posted := r.kind = 0 && flag d (Reg.GB_WIN_CFG_POSTED r.win)
    let d := if st = gsOK ∨ st = gsDISCARDED then d else gbReportFail r cycle cls seg st posted d
    if posted ∧ (st = gsOK ∨ st = gsDISCARDED) then d
    else
      let kind := if r.kind = 1 then 0 else if r.kind = 2 then 3 else if posted then 2 else 1
      gbRecord ⟨cycle, gbTarget r.win r.off, data, seg, cls, kind, st, r.be⟩ d
  | .deck => emit (.deckAccess (gbTarget r.win r.off) st data) d
  | .claim => d
  | .scan cls entry word station =>
    if staleEntry ≤ entry then d
    else gbScanSet cls (fun s =>
      { s with left := s.left - 1, done := s.done + 1
               failed := if st = gsOK then s.failed else s.failed ++ [station]
               data := mput s.data (entry * 8 + word) (station, data) }) d
  | .safeList _ =>
    gbSafeDone (gbSet (fun g =>
      { g with safeLeft := g.safeLeft - 1, safeFails := if st = gsOK then g.safeFails else g.safeFails + 1 }) d)

/-! ## Line buffers (R413, R414) -/

/-- A window's line discarded; with undelivered words it is counted and event 0x7004 names the first (R414). -/
def lineDiscard (win : Nat) (d : Dev) : Dev :=
  match mget d.gb.lines win with
  | none => d
  | some l =>
    let d := gbSet (fun g => { g with lines := mdel g.lines win }) d
    match (List.range 8).find? fun i => !bitOf l.delivered i with
    | none => d
    | some i =>
      let off := l.line + 4 * i
      let d := inc (inc d Reg.GB_PF_COUNT) (Reg.GB_WIN_CNT_PF_DISCARD win)
      record Ev.GB_PREFETCH_DISCARD [.w win, .w off] (wr (wr d Reg.GB_PF_LAST_WINDOW win) Reg.GB_PF_LAST_OFFSET off)
/-- Every line discarded, at a tick boundary and at BP_RESET. -/
def linesDiscard (d : Dev) : Dev := forEach (List.range 8) lineDiscard d
/-- Whether an access reads through the line buffer: a Deck or scan read of a window with PREFETCH (R413). -/
def usesLine (d : Dev) (r : GbReq) : Bool :=
  r.kind == 1 && flag d (Reg.GB_WIN_CFG_PREFETCH r.win) &&
    match r.origin with
    | .deck => true
    | .scan _ _ _ _ => true
    | _ => false
/-- The word of a line a read wants, where the line holds it. -/
def lineWord (d : Dev) (win off : Nat) : Option Nat :=
  match mget d.gb.lines win with
  | none => none
  | some l => if l.line = off / 32 * 32 then some (l.words.getD (off % 32 / 4) 0) else none
/-- A word of a line noted as delivered. -/
def lineDeliver (win off : Nat) (d : Dev) : Dev :=
  match mget d.gb.lines win with
  | none => d
  | some l => gbSet (fun g => { g with lines := mput g.lines win { l with delivered := bitSet l.delivered (off % 32 / 4) } }) d

/-! ## Transactions (R397, R399, R409, R411) -/

/-- Whether `b` may join a burst after `a`: posted writes of the application, or reads of one scan entry, of one BURST
window at consecutive words (R408, R409). -/
def burstJoins (d : Dev) (a b : GbReq) : Bool :=
  flag d (Reg.GB_WIN_CFG_BURST a.win) && a.win == b.win && b.off == a.off + 4 && !a.single && !b.single && a.be == 15 && b.be == 15 &&
    ((a.kind == 0 && b.kind == 0 && flag d (Reg.GB_WIN_CFG_POSTED a.win)) ||
     (a.kind == 1 && b.kind == 1 && !flag d (Reg.GB_WIN_CFG_PREFETCH a.win) &&
       match a.origin, b.origin with
       | .scan c e _ _, .scan c' e' _ _ => c == c' && e == e'
       | _, _ => false))
/-- The longest run of at most `n` more accesses that join, and the rest. -/
def burstTake (d : Dev) : Nat → GbReq → List GbReq → List GbReq × List GbReq
  | 0, _, q => ([], q)
  | _ + 1, _, [] => ([], [])
  | n + 1, a, b :: q =>
    if burstJoins d a b then let r := burstTake d n b q
      (b :: r.1, r.2)
    else ([], b :: q)

/-- The next access in order: the scans ahead of the queue (R404, R408). -/
def gbNext (d : Dev) : Option (GbReq × List GbReq × Bool) :=
  match d.gb.urgent with
  | r :: q => some (r, q, true)
  | [] => match d.gb.queue with
    | r :: q => some (r, q, false)
    | [] => none
/-- The list an access was taken from, replaced. -/
def gbPutBack (urgent : Bool) (q : List GbReq) (d : Dev) : Dev :=
  if urgent then gbSet (fun g => { g with urgent := q }) d else gbQueue q d
/-- Accesses returned to the front of the list they came from. -/
def gbReissue (l : List GbReq) (d : Dev) : Dev :=
  match l with
  | [] => d
  | r :: _ => match r.origin with
    | .scan _ _ _ _ => gbSet (fun g => { g with urgent := l ++ g.urgent }) d
    | _ => gbQueue (l ++ d.gb.queue) d

/-- The transaction in progress set. -/
def gbOpenPut (o : Option GbOpen) (d : Dev) : Dev := gbSet (fun g => { g with open_ := o }) d
/-- The idle clock: the transaction is over, and the bus is kept while requests are queued and the grant stands (R397, R399). -/
def gbIdle (d : Dev) : Dev :=
  let lost := (d.gb.open_.map (·.withdrawn)).getD false
  let d := wrB (gbOpenPut none d) Reg.GB_STATUS_LOCKED false
  if lost ∨ d.gb.release ∨ (d.gb.urgent.isEmpty ∧ d.gb.queue.isEmpty) then
    gbSet (fun g => { g with release := false }) (wrB d Reg.GB_STATUS_OWNER false)
  else d

/-- The address phase of a granted transaction (R397, R411). A write to a window discards its line, and so does a read
of another line (R413). -/
def gbAddress (o : GbOpen) (d : Dev) : Dev :=
  match o.reqs with
  | [] => d
  | r :: _ =>
    let d := if r.kind ≠ 1 ∨ o.fill.isSome then lineDiscard r.win d else d
    let d := if r.kind = 2 then wrB d Reg.GB_STATUS_LOCKED true else d
    let off := if o.fill.isSome then r.off / 32 * 32 else r.off
    let data := if r.kind = 0 then o.reqs.map fun x => winSwap d x.win x.be x.data else []
    emit (.backplane (r.kind == 0) (r.kind == 2) (winAddr d r.win off) (if o.fill.isSome then 15 else r.be) data)
      (gbOpenPut (some { o with granted := true }) (wrB d Reg.GB_STATUS_OWNER true))

/-- An access that reaches the head and is not performed: Girder off, window disabled, offset outside, byte enables
not legal (GB_CFG.EN, R400, R401), or kind 3, which R403 does not use (DESIGN CHOICE, log 175). -/
def gbRefused (d : Dev) (r : GbReq) : Bool :=
  !flag d Reg.GB_CFG_EN || !winMaps d r.win r.off || !beLegal r.be || decide (3 ≤ r.kind)

/-- The head of the queue started: refused, served from a line, or a transaction that asks for the bus (R397). -/
def gbStart (d : Dev) : Dev :=
  if d.gb.open_.isSome ∨ pairHalted d 4 then d
  else match gbNext d with
    | none => d
    | some (r, q, u) =>
      if gbRefused d r then gbFinish r gsDISCARDED (if r.kind = 0 then r.data else 0) (gbPutBack u q d)
      else if !flag d Reg.GB_STATUS_CLK_OK then gbFinish r gsNO_CLOCK (if r.kind = 0 then r.data else 0) (gbPutBack u q d)
      else if flag d Reg.GB_STATUS_BP_RESET then d
      else if usesLine d r then
        match lineWord d r.win r.off with
        | some w => gbFinish r gsOK w (lineDeliver r.win r.off (gbPutBack u q d))
        | none =>
          let o : GbOpen := ⟨[r], false, false, none, false, false, some []⟩
          let d := gbOpenPut (some o) (gbPutBack u q d)
          if flag d Reg.GB_STATUS_OWNER then gbAddress o d else d
      else
        let t := burstTake d 7 r q
        let o : GbOpen := ⟨r :: t.1, false, !t.1.isEmpty, none, false, false, none⟩
        let d := gbOpenPut (some o) (gbPutBack u t.2 d)
        if flag d Reg.GB_STATUS_OWNER then gbAddress o d else d

/-- The rest of a transaction after its current access: the next phase, reissued after a withdrawn grant, or discarded
after lease expiry or SAFE (R399, R412). -/
def gbRest (o : GbOpen) (rest : List GbReq) (d : Dev) : Dev :=
  if rest.isEmpty then gbIdle d
  else if o.stop then gbIdle (forEach rest (fun r d => gbFinish r gsDISCARDED r.data d) d)
  else if o.withdrawn then gbIdle (gbReissue rest (wrB d Reg.GB_STATUS_OWNER false))
  else gbOpenPut (some { o with reqs := rest }) d

/-- A data phase ends with an error status: a burst of writes ends, and the failed write and those after it are issued again one by one
(R409); otherwise the access fails (R411, R412). A failed read of a scan's burst is not repeated, the reads after it are issued one by one
(DEDUCED, log 176). -/
def gbPhaseFail (st : Nat) (d : Dev) : Dev :=
  match d.gb.open_ with
  | none => d
  | some o => match o.reqs with
    | [] => gbIdle d
    | r :: rest =>
      let alone (l : List GbReq) : List GbReq := l.map fun x => { x with single := true }
      let data0 := if r.kind = 0 then r.data else 0
      if o.burst ∧ !o.stop ∧ st ≠ gsABORTED ∧ st ≠ gsNO_CLOCK then
        if r.kind = 0 then gbIdle (gbReissue (alone (r :: rest)) d) else gbIdle (gbReissue (alone rest) (gbFinish r st data0 d))
      else
        let data := match o.rmwOld with
          | some old => old
          | none => data0
        gbRest { o with stop := o.stop || st == gsABORTED } rest (gbFinish r st data d)

/-- A data phase ends with YB_RDY_N: the data of a read (R397, R402, R411, R413). -/
def gbPhaseOk (data : Nat) (d : Dev) : Dev :=
  match d.gb.open_ with
  | none => d
  | some o => match o.reqs with
    | [] => gbIdle d
    | r :: rest =>
      let d := incW d (Reg.GB_WIN_ACC r.win)
      if r.kind = 0 then gbRest o rest (gbFinish r gsOK r.data d)
      else if r.kind = 1 then
        match o.fill with
        | none => gbRest o rest (gbFinish r gsOK (winSwap d r.win r.be data &&& beMask r.be) d)
        | some ws =>
          let ws := ws ++ [winSwap d r.win 15 data]
          if ws.length = 8 then
            let l : GbLine := ⟨r.off / 32 * 32, ws, 0⟩
            let d := lineDeliver r.win r.off (gbSet (fun g => { g with lines := mput g.lines r.win l }) d)
            gbIdle (gbFinish r gsOK (ws.getD (r.off % 32 / 4) 0) d)
          else gbOpenPut (some { o with fill := some ws }) d
      else match o.rmwOld with
        | none =>
          let old := winSwap d r.win r.be data &&& beMask r.be
          if o.withdrawn ∨ o.stop then gbIdle (gbFinish r gsABORTED old d)
          else
            emit (.backplane true true (winAddr d r.win r.off) r.be [winSwap d r.win r.be (rmwNew old r)])
              (gbOpenPut (some { o with rmwOld := some old }) d)
        | some old => gbIdle (gbFinish r gsOK old d)

/-- The open transaction ends at once with a status for all it holds (R412: pair halt, lost clock). -/
def gbKill (st : Nat) (d : Dev) : Dev :=
  match d.gb.open_ with
  | none => d
  | some o =>
    let old (r : GbReq) : Nat := (o.rmwOld).getD (if r.kind = 0 then r.data else 0)
    wrB (gbIdle (forEach o.reqs (fun r d => gbFinish r st (old r) d) (gbOpenPut none d))) Reg.GB_STATUS_OWNER false

/-- A request of the application. -/
def isApp (r : GbReq) : Bool :=
  match r.origin with
  | .app _ _ _ => true
  | _ => false
/-- A transaction that has had no grant yet gives its requests back to the queue, ahead of the others. -/
def gbUnstart (d : Dev) : Dev :=
  match d.gb.open_ with
  | none => d
  | some o => if o.granted then d else gbIdle (gbReissue o.reqs (gbOpenPut none d))
/-- Queued application requests that have not started are discarded at lease expiry or the entry into SAFE; an open transaction of the
application ends after its current phase, and a locked sequence whose write has not started makes none (R412). -/
def gbDropQueued (count : Fld) (d : Dev) : Dev :=
  let d := gbUnstart d
  let gone := d.gb.queue.filter isApp
  let d := incBy (gbQueue (d.gb.queue.filter fun r => !isApp r) d) count gone.length
  let d := forEach gone (fun r d => gbFinish r gsDISCARDED (if r.kind = 0 then r.data else 0) d) d
  match d.gb.open_ with
  | none => d
  | some o => if o.reqs.any fun r => isApp r || r.kind == 2 then gbOpenPut (some { o with stop := true }) d else d

/-- The safe list queued for the mode entered (R415). -/
def gbSafeRun (mode : Nat) (d : Dev) : Dev :=
  let l := (d.img.safeList.take (rd d Reg.GB_CFG_SAFE_LEN)).map fun w =>
    ({ origin := .safeList mode, kind := 0, win := w.win, off := w.off, be := w.be, data := w.value, mask := 0, single := true } : GbReq)
  if l.isEmpty then d
  else gbQueue (d.gb.queue ++ l)
    (gbSet (fun g => { g with safeLeft := g.safeLeft + l.length, safeFails := 0, safeMode := mode }) d)

/-- A released application request in the queue's form (R403). -/
def gbOfReq (q : OutReq) : GbReq :=
  let kind := bitField q.attr 4 2
  let p := q.payload
  { origin := .app q.cycle q.cls (bitField q.attr 8 12), kind := kind
    win := bitField q.target 27 3, off := bitField q.target 0 27, be := bitField q.attr 0 4
    data := if kind = 2 then ofBytes (p.drop 4) else ofBytes p
    mask := if kind = 2 then ofBytes (p.take 4) else 0, single := false }
/-- Whether the Girder queue has room (R404). -/
def gbRoom (d : Dev) : Bool := decide (d.gb.queue.length < 1024)
/-- A request entered at the end of the queue. -/
def gbEnqueue (r : GbReq) (d : Dev) : Dev := gbQueue (d.gb.queue ++ [r]) d

/-! ## Scans (R408) -/

/-- The accesses left of a late scan of a class, whose data nobody takes any more (R408). -/
def gbScanStale (cls : Nat) (d : Dev) : Dev :=
  let mark (r : GbReq) : GbReq := match r.origin with
    | .scan c e w st => if c = cls ∧ e < staleEntry then { r with origin := .scan c (e + staleEntry) w st } else r
    | _ => r
  gbSet (fun g => { g with urgent := g.urgent.map mark, open_ := g.open_.map fun o => { o with reqs := o.reqs.map mark } }) d
/-- The scan of a class started, LEAD ticks before its due tick. -/
def gbScanStart (cls : Nat) (d : Dev) : Dev :=
  let es := (imgClass d cls).scan
  let reqs := es.zipIdx.flatMap fun (e, i) => (List.range e.words).map fun w =>
    ({ origin := .scan cls i w e.station, kind := 1, win := e.win, off := e.off + 4 * w, be := 15, data := 0, mask := 0
       single := false } : GbReq)
  if reqs.isEmpty then d
  else gbSet (fun g =>
    { g with urgent := g.urgent ++ reqs, scans := mput g.scans cls ⟨reqs.length, 0, [], [], false⟩ }) (gbScanStale cls d)
/-- The scan of a class at its due tick: the stations fresh by it with their data, or SCAN_LATE with event 0x7003
(R408). -/
def gbScanDue (cls cycle : Nat) (d : Dev) : List (Nat × Nat × Nat) × Dev :=
  match mget d.gb.scans cls with
  | none => ([], d)
  | some s =>
    if s.late then ([], d)
    else if s.left = 0 then
      (s.data.filterMap fun e => if s.failed.contains e.2.1 then none else some (e.2.1, e.1, e.2.2),
        gbSet (fun g => { g with scans := mdel g.scans cls }) d)
    else
      ([], record Ev.GB_SCAN_LATE [.w cls, .q cycle, .w s.done]
        (inc (gbScanSet cls (fun s => { s with late := true }) d) (Reg.GB_SCAN_LATE cls)))

end Sys2Proof.Machine
end

