-- ==== Sys2Proof/Machine/PierOps.lean ====
section
/-!
DEFINITION. A Pier (spec/01, spec/04 to spec/06): its private memory with the dirty marks (R28, R31, R33, R36, R149), the words it puts out and
their signatures (R125 to R128), the exchange of values between cores and classes (R100), the work of its cores (R171).
-/
namespace Sys2Proof.Machine

/-- A Pier changed. -/
def prSet (p : Pier) (f : PierUnit → PierUnit) (d : Dev) : Dev := { d with prs := triSet d.prs p (f (triGet d.prs p)) }
/-- Every Pier changed. -/
def prsAll (f : PierUnit → PierUnit) (d : Dev) : Dev := { d with prs := triMap f d.prs }

/-! ## Pier-private memory (R28, R31, R33, R36) -/

/-- Bytes of the TCM of a core, at the lowest Pier addresses. -/
def tcmSize : Nat := 0x40000
/-- An address of Pier-private memory: TCM of the issuing core, Pier SRAM above it, usable Pier SDRAM. -/
def pierPrivate (a : Nat) : Bool := decide (a < 0x400000) || (decide (0x200000000 ≤ a) && decide (a < 0x270000000))
/-- An address among code and constants, which are write-protected (R99, R149). -/
def inCode (img : Image) (a : Nat) : Bool := decide (img.codeBase ≤ a) && decide (a < img.codeBase + img.codeBytes)
/-- The synchronous fault of an access of application code, if it makes one: kind 1 memory protection (R33, R99), kind 2 misaligned (R36);
the numbers are the model's (DESIGN CHOICE, log 150). -/
def accessFault (img : Image) (store : Bool) (a width : Nat) : Option Nat :=
  if !pierPrivate a || !pierPrivate (a + width - 1) || (store && inCode img a) then some 1
  else if !([1, 2, 4, 8].contains width) || a % width != 0 then some 2
  else none

/-- Bytes of a Pier's memory as core `core` reads them: below the TCM's end the core's own TCM, whose contents no other core reaches, above it
Pier SRAM and SDRAM. The SRAM bytes under the TCM, the scratch area and staging buffer, have no address at a core (R31). -/
def pierBytes (u : PierUnit) (core a n : Nat) : List Byte :=
  if a < tcmSize then Memory.bytes (mgetD u.tcm core []) a n else Memory.bytes u.mem a n
/-- The number of the 4 KiB page of an address: pages of TCM are numbered from 2^40 on, 64 for each core. -/
def pageOf (core a : Nat) : Nat := if a < tcmSize then 2 ^ 40 + core * 64 + a / 4096 else a / 4096
/-- A page marked as written (R149). -/
def pageMark (u : PierUnit) (n : Nat) : PierUnit := if n ∈ u.dirty then u else { u with dirty := u.dirty ++ [n] }
/-- The pages of some bytes. -/
def pagesOf (core a n : Nat) : List Nat := (List.range ((a + n - 1) / 4096 + 1 - a / 4096)).map fun i => pageOf core (a + 4096 * i)
/-- Bytes written into a Pier's memory by a core; their pages are marked. -/
def pierStore (core a : Nat) (l : List Byte) (u : PierUnit) : PierUnit :=
  let u := if a < tcmSize then { u with tcm := mput u.tcm core (Memory.putBytes (mgetD u.tcm core []) a l) }
    else { u with mem := Memory.putBytes u.mem a l }
  (if l.isEmpty then [] else pagesOf core a l.length).foldl pageMark u
/-- Contents by core and address written into a Pier's memory. -/
def pierFill (l : List (Nat × Nat × List Byte)) (u : PierUnit) : PierUnit := l.foldl (fun u e => pierStore e.1 e.2.1 e.2.2 u) u
/-- The value of a variable in a Pier's memory. -/
def varGet (v : ImgVar) (u : PierUnit) : List Byte := pierBytes u v.core v.addr v.size
/-- A value written to a variable in a Pier's memory. -/
def varPut (v : ImgVar) (l : List Byte) (u : PierUnit) : PierUnit := pierStore v.core v.addr (l.take v.size) u
/-- A pattern written to a variable. -/
def varPutN (v : ImgVar) (n : Nat) (u : PierUnit) : PierUnit := varPut v (leBytes v.size n) u
/-- All writable state, stacks and heap at their initial values, the constants as edits left them (R99, R217). -/
def pierInit (img : Image) (consts : NMap Nat) (u : PierUnit) : PierUnit :=
  let u := pierFill img.init { u with tcm := [], mem := [] }
  consts.foldl (fun u e => match mget img.vars e.1 with
    | none => u
    | some v => varPutN v e.2 u) u

/-- The cells of a memory in some pages put in place of another's; `base` numbers the first page. -/
def pagesTake (base : Nat) (pages : List Nat) (from_ to_ : Memory) : Memory :=
  let inside (c : Host.Cell) : Bool := pages.contains (base + c.1 / 4096)
  (from_.filter inside).foldl (fun m c => mput m c.1 c.2) (to_.filter fun c => !inside c)
/-- Pages copied from a donor (R149). -/
def pagesCopy (pages : List Nat) (o t : PierUnit) : PierUnit :=
  let one (m : NMap Memory) (core : Nat) : NMap Memory :=
    mput m core (pagesTake (2 ^ 40 + core * 64) pages (mgetD o.tcm core []) (mgetD m core []))
  { t with mem := pagesTake 0 pages o.mem t.mem, tcm := [0, 1, 2, 3].foldl one t.tcm }
/-- The 1 MiB block of code and constants that holds an address. -/
def codeBlock (img : Image) (a : Nat) : Nat := (a - img.codeBase) / 1048576
/-- The writable state of a donor and the listed blocks of code and constants copied (R149, pass 1). -/
def stateCopy (img : Image) (blocks : List Nat) (o t : PierUnit) : PierUnit :=
  let moved (c : Host.Cell) : Bool := !inCode img c.1 || blocks.contains (codeBlock img c.1)
  { t with tcm := o.tcm, mem := (o.mem.filter moved).foldl (fun m c => mput m c.1 c.2) (t.mem.filter fun c => !moved c) }
/-- The blocks of code and constants of a Pier that differ from the image's (R146): the image's content with its edited constants. -/
def blocksDiffer (img : Image) (consts : NMap Nat) (u : PierUnit) : List Nat :=
  let good := pierInit img consts PierUnit.rest
  let of_ (m : Memory) (b : Nat) : Memory := m.filter fun c => inCode img c.1 && codeBlock img c.1 == b
  (List.range (ceilDiv img.codeBytes 1048576)).filter fun b => of_ good.mem b != of_ u.mem b

/-! ## Signatures (R127, R128) -/

/-- The identifier of a window (R128). -/
def winId (cls cycle part : Nat) : Nat := cls * 2 ^ 60 + part * 2 ^ 48 + cycle % 2 ^ 48
/-- One bit step of the signature register. -/
def sigBit (s : Nat) : Nat := if bitOf s 63 then (s * 2) % 2 ^ 64 ^^^ 0x42F0E1EBA9EA3693 else s * 2
/-- One word of a signature. -/
def sigWord (s w : Nat) : Nat := Nat.repeat sigBit 64 (s ^^^ w)
/-- The CRC of words from a seed, without final XOR. -/
def sigWords (seed : Nat) (l : List Nat) : Nat := l.foldl sigWord seed
/-- Bytes as 64-bit words, the last padded with zeros (R125). -/
def words64 (l : List Byte) : List Nat := (List.range (ceilDiv l.length 8)).map fun i => ofBytes ((l.drop (8 * i)).take 8)

/-! ## Output words (R119, R125 to R128) -/

/-- The four header words of a request (R119). -/
def reqHeader (q : OutReq) : List Nat :=
  [q.cycle, q.cls + q.unit * 2 ^ 8 + q.payload.length * 2 ^ 16 + q.seq * 2 ^ 32, q.target, q.attr]
/-- The words of a request. -/
def reqWords (q : OutReq) : List Nat := reqHeader q ++ words64 q.payload
/-- The two words of a slice write. -/
def sliceWords (off value : Nat) : List Nat := [0x534C000000000000 ||| off, value]
/-- The word of a synchronous fault. -/
def faultWord (seg kind addr : Nat) : Nat := 0xFA * 2 ^ 56 + seg % 2 ^ 16 * 2 ^ 40 + kind % 2 ^ 8 * 2 ^ 32 + addr % 2 ^ 32
/-- The end word. -/
def endWord (words : Nat) : Nat := 0xE0D0 * 2 ^ 48 + words % 2 ^ 48

/-- The open window of a stream closed (R128). -/
def winClose (final : Bool) (s : OutStream) (u : PierUnit) : OutStream × PierUnit :=
  ({ s with part := s.part + 1, inPart := 0, crc := winId s.cls s.cycle (s.part + 1) },
    { u with closed := u.closed ++ [⟨s.cls, s.cycle, s.part, s.crc, s.reqs, final, false⟩] })
/-- One word put out; the 1024th word of a window closes it. -/
def wordFeed (x : OutStream × PierUnit) (w : Nat) : OutStream × PierUnit :=
  let s := { x.1 with words := x.1.words + 1, inPart := x.1.inPart + 1, crc := sigWord x.1.crc w }
  if s.inPart = 1024 then winClose false s x.2 else (s, x.2)
/-- The words of a request put out; it belongs to the window of its last word (R128). -/
def reqFeed (q : OutReq) (x : OutStream × PierUnit) : OutStream × PierUnit :=
  let l := reqWords q
  let x := l.dropLast.foldl wordFeed x
  wordFeed ({ x.1 with reqs := max x.1.reqs (q.seq + 1) }, x.2) (l.getLast?.getD 0)
/-- The end word put out, which closes the last window (R128). -/
def endFeed (x : OutStream × PierUnit) : OutStream × PierUnit :=
  let s := { x.1 with crc := sigWord x.1.crc (endWord x.1.words), words := x.1.words + 1 }
  winClose true s x.2

/-- The stream of a class cycle of a Pier. -/
def streamOf (u : PierUnit) (cls cycle : Nat) : Option OutStream := u.streams.find? fun s => s.cls == cls && s.cycle == cycle
/-- A stream put in place of its class cycle's. -/
def streamPut (s : OutStream) (u : PierUnit) : PierUnit :=
  { u with streams := mapIf (fun x => x.cls == s.cls && x.cycle == s.cycle) (fun _ => s) u.streams }
/-- The stream of a class cycle opened with the digest of the agreed frame as its first word (R112, R125); one stream per class cycle. -/
def streamOpen (cls cycle digest : Nat) (u : PierUnit) : PierUnit :=
  if (streamOf u cls cycle).isSome then u
  else
    let x := wordFeed (⟨cls, cycle, 0, 0, 0, winId cls cycle 0, 0, []⟩, u) digest
    { x.2 with streams := (x.2.streams ++ [x.1]).reverse.take 48 |>.reverse, closed := x.2.closed.reverse.take 64 |>.reverse }
/-- What a stream takes in, and the Pier after it. -/
def streamFeed (f : OutStream × PierUnit → OutStream × PierUnit) (s : OutStream) (u : PierUnit) : PierUnit :=
  let x := f (s, u)
  streamPut x.1 x.2
/-- The window of a Pier by its identifier's fields. -/
def closedOf (u : PierUnit) (cls cycle part : Nat) : Option ClosedWin :=
  u.closed.find? fun w => w.cls == cls && w.cycle == cycle && w.part == part

/-! ## Exchange between classes and cores (R100) -/

/-- The values whose tick has come become visible in a Pier, in the order they were written. -/
def publish (tick : Nat) (u : PierUnit) : PierUnit :=
  { u with exch := u.exch.filter (fun e => !decide (e.1 ≤ tick))
           published := (u.exch.filter fun e => decide (e.1 ≤ tick)).foldl (fun m e => mput m e.2.1 e.2.2) u.published }
/-- The value of a variable as everything beyond its own memory sees it: the forced one, which lies above what the program and a change set
write, else that in memory (R218). -/
def varShown (forces : NMap Nat) (id : Nat) (v : ImgVar) (u : PierUnit) : Nat := (mget forces id).getD (ofBytes (varGet v u))
/-- The exchanged variables of a class as a Pier has them, to be published at a tick. -/
def exchangePost (img : Image) (forces : NMap Nat) (cls tick : Nat) (u : PierUnit) : PierUnit :=
  let vars := img.vars.filter fun e => e.2.shared && e.2.cls == cls
  { u with exch := u.exch ++ vars.map fun e => (tick, e.1, varShown forces e.1 e.2 u) }

/-! ## Work of the cores (R101, R171) -/

/-- A class cycle placed in the work of a core: a lower class number goes first and preempts; cycles of one class keep their order. -/
def workInsert (x : Nat × Nat) : List (Nat × Nat) → List (Nat × Nat)
  | [] => [x]
  | y :: r => if x.1 < y.1 then x :: y :: r else y :: workInsert x r
/-- A class cycle starts on the cores of a mask. -/
def workStart (cores cls cycle : Nat) (u : PierUnit) : PierUnit :=
  { u with work := (bitsOf 4 cores).foldl (fun m c => mput m c (workInsert (cls, cycle) (mgetD m c []))) u.work }
/-- A class cycle ends on every core. -/
def workEnd (cls cycle : Nat) (u : PierUnit) : PierUnit :=
  { u with work := u.work.map fun e => (e.1, e.2.filter fun x => !(x.1 == cls && x.2 == cycle)) }
/-- Whether the lead core of a class, the lowest of its cores, runs a cycle of it; a class without cores waits for none (R170, R171). -/
def workRuns (cores cls cycle : Nat) (u : PierUnit) : Bool :=
  match (bitsOf 4 cores).head? with
  | none => true
  | some c => (mgetD u.work c []).head? == some (cls, cycle)

/-- Everything a Pier has in progress dropped: SAFE, isolation, a reset. -/
def pierStop (u : PierUnit) : PierUnit := { u with streams := [], closed := [], stalled := [], work := [], faulted := [], waiting := [] }

end Sys2Proof.Machine
end

