-- ==== Sys2Proof/Machine/SliceOps.lean ====
section
/-!
DEFINITION. The field I/O slices: drive legs and their overrides (R175, R268, R427), the class latch (R104, R423,
R433), triggers and re-bases (R260 to R274), the majority reports of the Field I/O controller (R434).
-/
namespace Sys2Proof.Machine

/-- A slice changed. -/
def fioSet (p : Pier) (f : FioSlice → FioSlice) (d : Dev) : Dev := { d with fio := triSet d.fio p (f (triGet d.fio p)) }
/-- A position slice changed. -/
def ptSet (p : Pier) (f : PtSlice → PtSlice) (d : Dev) : Dev := { d with pt := triSet d.pt p (f (triGet d.pt p)) }
/-- The slice number of a Pier. -/
abbrev sl (p : Pier) : Nat := pierIdx p

/-! ## Drive legs -/

/-- The legs of a slice are forced off: outside RUN (R75), while its lease timer is expired (R24), while its Pier is
isolated (R144, R427). -/
def legOverride (d : Dev) (p : Pier) : Bool := !inRun d || !sliceLease d p || isolated d p
/-- Whether an armed or hit LEG_ON or LEG_OFF trigger of a slice holds the leg of an output (R268). -/
def triggerHolds (d : Dev) (p : Pier) (out : Nat) : Bool :=
  (List.range 64).any fun k =>
    let st := rd d (Reg.PT_TRIG_CTL_STATE (sl p) k)
    let a := rd d (Reg.PT_TRIG_CTL_ACTION (sl p) k)
    (st == 1 || st == 2) && (a == 1 || a == 2) && rd d (Reg.PT_TRIG_CTL_OUTPUT (sl p) k) == out
/-- One applied leg set. -/
def legPut (p : Pier) (out : Nat) (on : Bool) (d : Dev) : Dev := putBitF d (Reg.FIO_LEG_STATE_APPLIED (sl p)) out on
/-- The PENDING bits follow the held leg states. -/
def legPendingBits (p : Pier) (d : Dev) : Dev :=
  wr d (Reg.FIO_LEG_STATE_PENDING (sl p)) (maskOf ((triGet d.fio p).pending.map (·.1)))
/-- Whether a class of the image drives an output (R175). -/
def outputDriven (d : Dev) (out : Nat) : Bool := d.img.classes.any fun c => bitOf c.2.drives out
/-- A class write of one leg: ignored and counted while a trigger holds the leg (R268), off under an override (R427) and for an output that no
class drives (R175). -/
def legWrite (p : Pier) (out : Nat) (on : Bool) (d : Dev) : Dev :=
  if triggerHolds d p out then inc d (Reg.PT_REF_STAT_LEG_IGNORED (sl p) 0)
  else legPut p out (on && !legOverride d p && outputDriven d out) d
/-- A leg write held for the launch tick of its class (R175, R427). -/
def legHold (p : Pier) (cls out : Nat) (on : Bool) (d : Dev) : Dev :=
  if triggerHolds d p out then inc d (Reg.PT_REF_STAT_LEG_IGNORED (sl p) 0)
  else if legOverride d p then d
  else legPendingBits p (fioSet p (fun s => { s with pending := mput s.pending out (cls, on) }) d)
/-- The pending leg states of a class applied at its launch tick (R175). -/
def legLaunch (p : Pier) (cls : Nat) (d : Dev) : Dev :=
  let mine := (triGet d.fio p).pending.filter fun e => e.2.1 == cls
  let d := fioSet p (fun s => { s with pending := s.pending.filter fun e => !(e.2.1 == cls) }) d
  legPendingBits p (forEach mine (fun e d => legWrite p e.1 e.2.2 d) d)
/-- Every leg of a slice off, nothing pending: lease expiry, isolation, the modes of R75, a stopped slice clock. -/
def legsOff (p : Pier) (d : Dev) : Dev :=
  legPendingBits p (fioSet p (fun s => { s with pending := [] }) (wr d (Reg.FIO_LEG_STATE_APPLIED (sl p)) 0))
/-- Every leg of every slice off. -/
def allLegsOff (d : Dev) : Dev := forEach allPiers legsOff d

/-! ## Position references and triggers -/

/-- The accumulator of a reference. -/
def ptAcc (d : Dev) (p : Pier) (r : Nat) : Nat := mgetD (triGet d.pt p).acc r 0
/-- The position of a reference: bits [47:16] of its accumulator, as a 32-bit pattern (R261). -/
def ptPos (d : Dev) (p : Pier) (r : Nat) : Nat := bitField (ptAcc d p r) 16 32
/-- The accumulator set, and the position register with it. -/
def ptAccPut (p : Pier) (r v : Nat) (d : Dev) : Dev :=
  let v := trunc 48 v
  wr (ptSet p (fun s => { s with acc := mput s.acc r v }) d) (Reg.PT_REF_POS (sl p) r) (bitField v 16 32)
/-- The difference of two positions, signed (R261). -/
def posDiff (a b : Nat) : Int := toSigned 32 (a + 2 ^ 32 - trunc 32 b)
/-- The target in force of a trigger. -/
def ptTarget (d : Dev) (p : Pier) (k : Nat) : Nat := mgetD (triGet d.pt p).target k 0

/-- The state of a trigger set: 0 IDLE, 1 ARMED, 2 HIT, 3 MISSED; the hit flag follows it. -/
def trigState (p : Pier) (k st : Nat) (d : Dev) : Dev :=
  putBitF (wr d (Reg.PT_TRIG_CTL_STATE (sl p) k) st) (Reg.PT_HIT (sl p)) k (st == 2)

/-- A trigger hits: flag, time, event 0x3101, then its action: a leg action has no effect under an override, a LAUNCH is signalled to the
Position unit (R267, R269, R272). -/
def trigHit (p : Pier) (k : Nat) (d : Dev) : Dev :=
  let r := rd d (Reg.PT_TRIG_CTL_REF (sl p) k)
  let t := schedTime d
  let d := ptSet p (fun s => { s with hitTime := mput s.hitTime k t }) (trigState p k 2 d)
  let d := recordP Ev.TRIGGER_HIT p
    [.w k, .w r, .w (ptPos d p r), .q t, .w (rd d (Reg.PT_TRIG_CTL_ARM_SEQ (sl p) k)), .w (pierIdx p)] d
  let a := rd d (Reg.PT_TRIG_CTL_ACTION (sl p) k)
  if (a = 1 ∨ a = 2) ∧ !legOverride d p then legPut p (rd d (Reg.PT_TRIG_CTL_OUTPUT (sl p) k)) (a == 1) d
  else if a = 3 then ptSet p (fun s => { s with signals := s.signals ++ [k * 16 + rd d (Reg.PT_TRIG_CTL_ARM_SEQ (sl p) k)] }) d
  else d

/-- Whether a target lies already behind at arming (R265). -/
def trigPassed (dir : Nat) (diff : Int) : Bool :=
  if dir = 0 then decide (0 ≤ diff) else if dir = 1 then decide (diff ≤ 0) else false
/-- Whether a count from one difference to the next crosses the target in the trigger's direction (R265). -/
def trigCrosses (dir : Nat) (up : Bool) (d0 d1 : Int) : Bool :=
  let fwd := up && decide (d0 < 0) && decide (0 ≤ d1)
  let bwd := !up && decide (0 < d0) && decide (d1 ≤ 0)
  if dir = 0 then fwd else if dir = 1 then bwd else fwd || bwd

/-- An armed trigger judged: passed with IF_PASSED 0 it hits, with IF_PASSED 1 it is MISSED and event 0x3102 is
recorded; else it waits (R265, R273). -/
def trigJudge (p : Pier) (k : Nat) (d : Dev) : Dev :=
  let r := rd d (Reg.PT_TRIG_CTL_REF (sl p) k)
  let diff := posDiff (ptPos d p r) (ptTarget d p k)
  if trigPassed (rd d (Reg.PT_TRIG_CTL_DIR (sl p) k)) diff then
    if flag d (Reg.PT_TRIG_CTL_IF_PASSED (sl p) k) then
      recordP Ev.TRIGGER_MISSED p [.w k, .w (ptPos d p r), .w (ptTarget d p k)] (trigState p k 3 d)
    else trigHit p k d
  else d

/-- A slice's signals of a trigger that is written again go with it. -/
def signalsDrop (p : Pier) (k : Nat) (d : Dev) : Dev := ptSet p (fun s => { s with signals := s.signals.filter fun x => x / 16 != k }) d
/-- The Position unit's pending hits of a trigger that is written again: discarded, the unconfirmed ones counted
(R270). Bit 3 of an entry says its frame has been launched. -/
def ptUnconf (k : Nat) (d : Dev) : Dev :=
  let gone := d.io.ptHits.filter fun e => e.1 / 16 == k && !bitOf e.2 3
  let d := { d with io := { d.io with ptHits := d.io.ptHits.filter fun e => !(e.1 / 16 == k) } }
  incBy (wr d Reg.PT_STATUS_PENDING (d.io.ptHits.filter fun e => !bitOf e.2 3).length) Reg.PT_UNCONF_COUNT gone.length

/-- A trigger disarmed: IDLE, its leg released (R265). -/
def trigDisarm (p : Pier) (k : Nat) (d : Dev) : Dev := trigState p k 0 (wrB d (Reg.PT_TRIG_CTL_ARM (sl p) k) false)
/-- Every trigger of every slice disarmed at a change of mode out of RUN (R272). -/
def trigDisarmAll (d : Dev) : Dev := forEach allPiers (fun p d => forEach (List.range 64) (trigDisarm p) d) d

/-- One counted edge of a reference: SCALE added or subtracted, DIR set (R261). -/
def ptCount (p : Pier) (r : Nat) (up : Bool) (d : Dev) : Dev :=
  let scale := rd d (Reg.PT_REF_SCALE (sl p) r)
  let acc := ptAcc d p r
  wr (ptAccPut p r (if up then acc + scale else acc + 2 ^ 48 - scale) d) (Reg.PT_REF_STAT_DIR (sl p) r) (if up then 0 else 1)
/-- The armed triggers judged after an edge of the slice: those whose reference has moved across their target, as `moves` has each reference's
sense and position before, hit in the order of their numbers (R265, R268). -/
def hitsAt (p : Pier) (moves : List (Nat × Bool × Nat)) (d : Dev) : Dev :=
  if moves.isEmpty then d
  else forEach (List.range 64) (fun k d =>
    match moves.find? fun m => m.1 == rd d (Reg.PT_TRIG_CTL_REF (sl p) k) with
    | none => d
    | some m =>
      if rd d (Reg.PT_TRIG_CTL_STATE (sl p) k) = 1 ∧
          trigCrosses (rd d (Reg.PT_TRIG_CTL_DIR (sl p) k)) m.2.1 (posDiff m.2.2 (ptTarget d p k)) (posDiff (ptPos d p m.1) (ptTarget d p k))
      then trigHit p k d else d) d

/-- A re-base of a slice's reference at its tick (R273). -/
def ptRebase (p : Pier) (tick : Nat) (d : Dev) : Dev :=
  let r := rd d (Reg.PT_REBASE_CTL_REF (sl p))
  let old := ptPos d p r
  let v := rd d (Reg.PT_REBASE_VAL (sl p))
  let shift := flag d (Reg.PT_REBASE_CTL_SHIFT (sl p))
  let d := wrB (ptAccPut p r (v * 2 ^ 16) d) (Reg.PT_REBASE_CTL_GO (sl p)) false
  let d := recordP Ev.REBASED p [.w r, .w old, .w v, .q tick] d
  forEach (List.range 64) (fun k d =>
    if rd d (Reg.PT_TRIG_CTL_STATE (sl p) k) = 1 ∧ rd d (Reg.PT_TRIG_CTL_REF (sl p) k) = r then
      let t := if shift then trunc 32 (ptTarget d p k + v + 2 ^ 32 - old) else ptTarget d p k
      let d := wr (ptSet p (fun s => { s with target := mput s.target k t }) d) (Reg.PT_TRIG_TGT (sl p) k) t
      trigJudge p k d
    else d) d
/-- The re-bases due at a tick (R273). -/
def ptRebases (tick : Nat) (d : Dev) : Dev :=
  forEach allPiers (fun p d =>
    if flag d (Reg.PT_REBASE_CTL_GO (sl p)) && rd d (Reg.PT_REBASE_TICK (sl p)) == trunc 32 tick then ptRebase p tick d else d) d

/-! ## The class latch (R104, R271, R423, R433) -/

/-- The edge items of a class handed over: stamps by input, and the captures counted as lost (R423). -/
def latchEdges (p : Pier) (cls : Nat) (d : Dev) : NMap Nat × Nat :=
  let m := (imgClass d cls).edgeInputs
  let e := (bitsOf 32 m).filterMap fun i => (mget (triGet d.fio p).edges (cls * 32 + i)).map fun x => (i, x)
  (e.map fun x => (x.1, x.2.2), (e.map fun x => x.2.1 - 1).sum)
/-- What a slice latches for a class, and the state after it. -/
def classLatch (p : Pier) (cls : Nat) (d : Dev) : Dev :=
  let s := sl p
  let e := latchEdges p cls d
  let old := ((mget (triGet d.fio p).latches cls).map (·.base)).getD []
  let l : SliceLatch :=
    { time := schedTime d, di := rd d (Reg.FIO_DI_STATE s), edges := e.1, rb := rd d (Reg.FIO_RB_STATE_DEB s)
      fs := [rd d (Reg.FIO_FS_STATE s 0), rd d (Reg.FIO_FS_STATE s 1)]
      fsMv := [rd d (Reg.FIO_FS_MV s 0), rd d (Reg.FIO_FS_MV s 1)]
      ext := rd d (Reg.FIO_DO_FAULT_EXT_DRIVEN s), overload := rd d (Reg.FIO_DO_FAULT_OVERLOAD s)
      thermal := rd d (Reg.FIO_DO_THERM_THERMAL s) ||| rd d (Reg.FIO_DO_THERM_LOCKED s)
      pos := (List.range 4).map (ptPos d p), dir := (List.range 4).map fun r => rd d (Reg.PT_REF_STAT_DIR s r)
      hits := rd d (Reg.PT_HIT s), hitTime := (triGet d.pt p).hitTime
      pulses := (List.range 4).map fun n => mgetD (triGet d.pt p).pulses n 0 - (old.getD n 0)
      base := (List.range 4).map fun n => mgetD (triGet d.pt p).pulses n 0 }
  let d := wr d (Reg.FIO_EDGE_LOST s) (rd d (Reg.FIO_EDGE_LOST s) + e.2)
  fioSet p (fun f => { f with latches := mput f.latches cls l, edges := f.edges.filter fun x => !(x.1 / 32 == cls) }) d
/-- The class latch of every slice, with event 0x7014 for an input of which a majority of the slices in service lost
captures (R434). -/
def classLatchAll (cls : Nat) (d : Dev) : Dev :=
  let lost (p : Pier) (i : Nat) : Nat := ((mget (triGet d.fio p).edges (cls * 32 + i)).map (fun x => x.1 - 1)).getD 0
  let inputs := (bitsOf 32 (imgClass d cls).edgeInputs).filter fun i => majority d fun p => lost p i != 0
  let d' := forEach allPiers (fun p d => classLatch p cls d) d
  forEach inputs (fun i d'' => recordOnce Ev.DI_EDGES_LOST i
    [.w i, .w (((votingPiers d).map fun p => lost p i).foldl max 0)] d'') d'

/-! ## Majority reports of the Field I/O controller (R434) -/

/-- The flags of an output as a majority of the slices report them, against those last recorded. -/
def fioReview (n : Nat) (d : Dev) : Dev :=
  let ext := majority d fun p => bitF d (Reg.FIO_DO_FAULT_EXT_DRIVEN (sl p)) n
  let ovl := majority d fun p => bitF d (Reg.FIO_DO_FAULT_OVERLOAD (sl p)) n
  let d := if ext != bitF d Reg.FIO_SUMMARY_EXT_DRIVEN n then
      let d := putBitF d Reg.FIO_SUMMARY_EXT_DRIVEN n ext
      let d := if ext then inc d Reg.FIO_EVT_CNT_EXT else d
      if !leaseHeld d && bitF d Reg.DX_CMP_CFG_DO_COMMON n then d
      else recordOnce Ev.DO_EXT_DRIVEN n [.w n, .w (b2n (!ext))] d
    else d
  if ovl != bitOf d.io.ovlMaj n then
    recordOnce Ev.DO_OVERLOAD n [.w n, .w (b2n (!ovl))] { d with io := { d.io with ovlMaj := bitPut d.io.ovlMaj n ovl } }
  else d
/-- The shutdowns of an output stage within the last 60 s. -/
def shutdownsOf (d : Dev) (n : Nat) : List Nat := (mgetD d.io.shutdowns n []).filter fun t => decide (d.clk < t + 60 * second)
/-- The THERMAL summary of an output, with event 0x7013 when the majority changes (R434). -/
def fioThermReview (n : Nat) (d : Dev) : Dev :=
  let th := majority d fun p => bitF d (Reg.FIO_DO_THERM_THERMAL (sl p)) n || bitF d (Reg.FIO_DO_THERM_LOCKED (sl p)) n
  let locked := majority d fun p => bitF d (Reg.FIO_DO_THERM_LOCKED (sl p)) n
  if th != bitF d Reg.FIO_SUMMARY_THERMAL n then
    recordOnce Ev.DO_THERMAL n [.w n, .w (shutdownsOf d n).length, .w (b2n locked)] (putBitF d Reg.FIO_SUMMARY_THERMAL n th)
  else d

/-- The status of a supply that a majority of the slices in service report, if there is one. -/
def fsMajority (d : Dev) (k : Nat) : Option Nat :=
  firstOf (fun st => majority d fun p => rd d (Reg.FIO_FS_STATE (sl p) k) == st) [0, 1, 2]
/-- Event 0x7010 with the supply, old and new status and the voltage of each slice. -/
def fsRecord (k st : Nat) (d : Dev) : Dev :=
  let old := mgetD d.io.fsMaj k 2
  let key := Ev.FS_STATE * 0x10000 + k
  record Ev.FS_STATE [.w k, .w old, .w st, .w (rd d (Reg.FIO_FS_MV 0 k)), .w (rd d (Reg.FIO_FS_MV 1 k)), .w (rd d (Reg.FIO_FS_MV 2 k))]
    (noteOnce { d with io := { d.io with fsMaj := mput d.io.fsMaj k st } } key)

end Sys2Proof.Machine
end

