-- ==== Sys2Proof/Machine/CycOps.lean ====
section
/-!
DEFINITION. The cyclic program (spec/06): due ticks, the freeze of the input frame, stations, launches, the commit of the
process image.
-/
namespace Sys2Proof.Machine

/-- The Cycle scheduler changed. -/
def cycSet (f : CycUnit → CycUnit) (d : Dev) : Dev := { d with cyc := f d.cyc }
/-- The enabled classes, in order. -/
def classes (d : Dev) : List Nat := (List.range 16).filter fun c => flag d (Reg.CYC_CLS_CFG_EN c)
/-- The period of a class in ticks. -/
def period (d : Dev) (c : Nat) : Nat := rd d (Reg.CYC_CLS_CFG_PERIOD c)
/-- A class is due at a tick of the scheduling count (R168). -/
def classDue (d : Dev) (c tick : Nat) : Bool :=
  flag d (Reg.CYC_CLS_CFG_EN c) && period d c != 0 && (tick + period d c - rd d (Reg.CYC_CLS_OFFSET_OFFSET c)) % period d c == 0
/-- The classes due at a tick. -/
def dueAt (d : Dev) (tick : Nat) : List Nat := (List.range 16).filter fun c => classDue d c tick
/-- The lowest-numbered enabled class. -/
def lowestClass (d : Dev) : Option Nat := (classes d).head?

/-- CYC_STATUS.STATE: 0 no cycles, 1 running, 2 halted, 3 stepping. -/
def cycState (d : Dev) : Nat := rd d Reg.CYC_STATUS_STATE
/-- Cycles run: in RUN, or stepped in HOLD. -/
def cyclesRun (d : Dev) : Bool := cycState d == 1 || cycState d == 3

/-- The run of a class cycle. -/
def runOf (d : Dev) (c n : Nat) : Option CycleRun := d.cyc.runs.find? fun r => r.cls == c && r.cycle == n
/-- The run of a class cycle changed. -/
def runSet (c n : Nat) (f : CycleRun → CycleRun) (d : Dev) : Dev :=
  cycSet (fun x => { x with runs := mapIf (fun r => r.cls == c && r.cycle == n) f x.runs }) d
/-- ACTIVE follows the cycles that some Pier in service has not ended. -/
def activeReview (d : Dev) : Dev :=
  let busy (c : Nat) : Bool := d.cyc.runs.any fun r => r.cls == c && (servicePiers d).any fun p => !bitOf r.ended (pierIdx p)
  wr d Reg.CYC_STATUS_ACTIVE (maskOf ((List.range 16).filter busy))
/-- A run is over once every Pier in service ended it, its final window is released and no launch waits for its tick. -/
def runOver (d : Dev) (r : CycleRun) : Bool :=
  r.released && (servicePiers d).all (fun p => bitOf r.ended (pierIdx p)) &&
    (r.launchPassed || r.dropped || !(flag d (Reg.CYC_CLS_CFG_COUPLED r.cls) || flag d (Reg.CYC_CLS_CFG_DO_AT_LAUNCH r.cls)))
/-- The runs that are over leave. -/
def runsReview (d : Dev) : Dev := activeReview (cycSet (fun x => { x with runs := x.runs.filter fun r => !runOver d r }) d)

/-! ## Stations (R180 to R183) -/

/-- The stations of a class. -/
def stationsOf (d : Dev) (c : Nat) : List (Nat × ImgStation) := d.img.stations.filter fun e => e.2.cls == c

/-- The received data with one variable replaced by its substitute (R180); where no data has come, zeros stand before it. -/
def substOne (shown : List Byte) (v : ImgStnVar) : List Byte :=
  if v.rule = 1 then shown
  else
    let b := leBytes v.len (if v.rule = 2 then v.value else 0)
    shown.take v.off ++ List.replicate (v.off - shown.length) 0 ++ b ++ shown.drop (v.off + v.len)
/-- What the input variables of a LOST station show. -/
def substAll (vars : List ImgStnVar) (shown : List Byte) : List Byte := vars.foldl substOne shown

/-- A station judged at a due tick as fresh or not (R182), with events 0x2010 and 0x2011 (R183). -/
def stationJudge (c cycle n : Nat) (im : ImgStation) (x : Station) (fresh : Bool) (d : Dev) : Dev :=
  let age := if fresh then 0 else x.age + 1
  let st := if fresh then (if x.status = 2 then 3 else 0) else if im.timeout ≤ age then 2 else 1
  let lost := if st = 2 then x.lost + 1 else if st = 3 then x.lost else 0
  let shown := if fresh then x.rx else if st = 2 then substAll im.vars x.shown else x.shown
  let y : Station :=
    { x with age := age, lost := lost, status := st, shown := shown, before := (x.age, x.lost, x.status), prev := x.shown }
  let d := cycSet (fun u => { u with stations := mput u.stations n y }) d
  let d := putBitF d (Reg.CYC_STN_LOST (n / 32)) (n % 32) (st == 2)
  let d := putBitF d (Reg.CYC_STN_AGED (n / 32)) (n % 32) (st == 1 || st == 2)
  if st = 2 ∧ x.status ≠ 2 then record Ev.STATION_LOST [.w n, .w c, .q cycle] d
  else if st = 3 then record Ev.STATION_RETURNED [.w n, .w c, .q cycle, .w x.lost] d
  else d
/-- Whether a station's copy is fresh at a due tick: after the previous one, and no more than one period old (R182), in step ticks while
stepping, when CYC_VTICK has already moved past the due tick (R190). -/
def stationFresh (d : Dev) (c : Nat) (x : Station) : Bool :=
  match x.seen with
  | none => false
  | some t =>
    let young := if cycState d = 3 then decide (rd d Reg.CYC_VTICK ≤ x.seenAt + period d c + 1)
      else decide (schedTime d ≤ t + period d c * 125000)
    decide (t ≤ schedTime d) && young &&
      (match mget d.cyc.prevDue c with
        | none => true
        | some p => decide (p < t))
/-- CYC_CLS_STN.LOST counted. -/
def stationCount (c : Nat) (d : Dev) : Dev :=
  let n := ((stationsOf d c).filter fun e => (mgetD d.cyc.stations e.1 stationRest).status == 2).length
  wr d (Reg.CYC_CLS_STN_LOST c) n
/-- Every station of a class judged at its due tick. -/
def stationsUpdate (c cycle : Nat) (d : Dev) : Dev :=
  stationCount c (forEach (stationsOf d c) (fun e d =>
    let x := mgetD d.cyc.stations e.1 stationRest
    stationJudge c cycle e.1 e.2 x (stationFresh d c x) d) d)
/-- The single-received inputs of the cycle are not refreshed: every station of the class is judged again as not fresh
(R117, R182). -/
def stationsUnfresh (c cycle : Nat) (d : Dev) : Dev :=
  stationCount c (forEach (stationsOf d c) (fun e d =>
    let x := mgetD d.cyc.stations e.1 stationRest
    if x.status = 0 ∨ x.status = 3 then
      stationJudge c cycle e.1 e.2 { x with age := x.before.1, lost := x.before.2.1, status := x.before.2.2, shown := x.prev } false d
    else d) d)

/-! ## Safety copies (R300) -/

/-- The safe sequence counter is higher than the last accepted one. -/
def sscNewer (last : Option Nat) (ssc : Nat) : Bool :=
  match last with
  | none => true
  | some l =>
    let k := (ssc + 2 ^ 32 - l) % 2 ^ 32
    decide (1 ≤ k) && decide (k < 2 ^ 31)
/-- A frozen safety copy checked: a valid one counts for its station, a failure of the first two checks records event
0x4011 at most once per second per subscription (R300). -/
def safetyCheck (cycle n : Nat) (e : ImgSub) (d : Dev) : Dev :=
  match mget d.te.subs n with
  | none => d
  | some x =>
    match (if x.judged then none else x.sdt) with
    | none => d
    | some s =>
      let d := teSet (fun t => { t with subs := mput t.subs n { x with judged := true } }) d
      let fail (k : Nat) (d : Dev) : Dev :=
        recordOnce Ev.SDT_ERROR n [.w n, .w k, .q cycle, .w (((servicePiers d).head?.map pierIdx).getD 3)] d
      if !s.codeOk then fail 1 d
      else if !s.versionOk then fail 2 d
      else if sscNewer (mget d.te.sscIn n) s.ssc then
        stationCopy e.station x.time x.payload (teSet (fun t => { t with sscIn := mput t.sscIn n s.ssc }) d)
      else d
/-- The subscriptions of a class: those whose station it owns. -/
def subsOf (d : Dev) (c : Nat) : List (Nat × ImgSub) :=
  d.img.subs.filter fun e => ((mget d.img.stations e.2.station).map (·.cls)).getD 16 == c
/-- The safety copies of a class checked. -/
def safetyChecks (c cycle : Nat) (d : Dev) : Dev :=
  forEach (subsOf d c) (fun e d => if e.2.safety then safetyCheck cycle e.1 e.2 d else d) d

/-! ## The input frame (R173, R234, R289, R321, R326, R407, R408, R449) -/

/-- The telegrams of a class as they stand. -/
def frameSubs (d : Dev) (c : Nat) : List FrameItem :=
  (subsOf d c).filterMap fun e => (mget d.te.subs e.1).map fun x => .sub e.1 x.time x.payload
/-- The legacy objects that feed a station of the class, or no station. -/
def frameLegacy (d : Dev) (c : Nat) : List FrameItem :=
  (List.range 7).flatMap fun n => (lbPort d n).rx.filterMap fun e =>
    let st := (mget (imgLb d n).rx e.1).bind (·.station)
    let mine : Bool := match st with
      | none => true
      | some s => ((mget d.img.stations s).map (·.cls)).getD 16 == c
    if mine then some (.legacy n e.1 e.2.time e.2.payload) else none
/-- The items every class receives: time, train, WTB, J1939, backplane interrupts. -/
def frameCommon (d : Dev) (tick : Nat) : List FrameItem :=
  [.time (tick * 125000) (ofSigned 64 ((tick * 125000 : Nat) + epochE d)) (rd d Reg.TU_EPOCH_NUM) (tuState d),
   .train (rd d Reg.TE_ETB_TOPO) (rd d Reg.TE_OPTRN_TOPO) (rd d Reg.TE_STATUS_INAUG) (rd d Reg.TE_STATUS_OWN_POS)
     (rd d Reg.TE_STATUS_CONSISTS) (rd d Reg.TE_STATUS_ORIENT),
   .wtb (rd d Reg.LB_WTB_STAT_STATE) (((lbPort d 2).want).getD (rd d Reg.LB_WTB_STAT_SWITCH)) (rd d Reg.LB_WTB_TOPO_TOPO)
     (rd d Reg.LB_WTB_STAT_NODE_ADDR) (rd d Reg.LB_WTB_STAT_NODES) (rd d Reg.LB_WTB_STAT_MASTER),
   .backplane (rd d Reg.GB_INT_EDGES) (flag d Reg.GB_INT_LEVEL)] ++
  ([3, 4, 5, 6].filter fun n => rd d (Reg.LB_CAN_CFG_HL (n - 3)) == 2).map fun n =>
    .j1939 n (rd d (Reg.LB_CAN_STAT_ADDR (n - 3))) (lbPort d n).claimed
/-- The frozen status items of the stations of a class. -/
def frameStations (d : Dev) (c : Nat) : List FrameItem :=
  (stationsOf d c).map fun e => .station e.1 (mgetD d.cyc.stations e.1 stationRest).status

/-- The frozen frame that a class cycle reads: its own, or the newest where none was frozen for it (R160). -/
def frameOf (d : Dev) (c cycle : Nat) : Option InFrame :=
  let l := mgetD d.cyc.frames c []
  match l.find? fun f => f.cycle == cycle with
  | some f => some f
  | none => l.head?
/-- A frame frozen: the older ones stay unchanged until the input phase of their cycle has closed (R118). -/
def framePut (c : Nat) (f : InFrame) (d : Dev) : Dev :=
  let open_ (x : InFrame) : Bool := (runOf d c x.cycle).isSome && !d.ks.closedSlots.contains (c, x.cycle)
  cycSet (fun x => { x with frames := mput x.frames c (f :: (mgetD x.frames c []).filter open_) }) d
/-- The input frame of a class cycle frozen at a due tick, with what other units hand over (host commands, the partner item);
while pair 1 is halted the previous frame stays and no station is fresh (R160, R173). -/
def freezeFrame (c cycle tick : Nat) (extra : List FrameItem) (d : Dev) : Dev :=
  let due (d : Dev) : Dev := cycSet (fun x => { x with prevDue := mput x.prevDue c (schedTime d) }) d
  let scan := gbScanDue c cycle d
  let d := scan.2
  if pairHalted d 1 then
    due (stationCount c (forEach (stationsOf d c) (fun e d =>
      stationJudge c cycle e.1 e.2 (mgetD d.cyc.stations e.1 stationRest) false d) d))
  else
    let d := forEach scan.1 (fun w d => stationCopy w.1 (schedTime d) (leBytes 4 w.2.2) d) d
    let d := stationsUpdate c cycle (safetyChecks c cycle d)
    let cw0 := cwFreeze 0 c d
    let cw1 := cwFreeze 1 c cw0.2
    let d := cw1.2
    let cwItems : List FrameItem := ([(0, cw0.1), (1, cw1.1)].filter fun x => rd d (Reg.CW_CFG_CLASS x.1) == c).map fun x =>
      .cw x.1 (cwPort d x.1).lost x.2
    let results := gbResults d c
    let d := gbSet (fun g => { g with results := mdel g.results c }) d
    let items := frameCommon d tick ++ frameStations d c ++ frameSubs d c ++ frameLegacy d c ++
      scan.1.map (fun w => .scan w.1 w.2.1 w.2.2) ++ cwItems ++ (if results.isEmpty then [] else [.results results]) ++ extra
    due (framePut c ⟨cycle, items⟩ d)

/-! ## Starting cycles (R169, R173, R408) -/

/-- The number of the next cycle of a class. -/
def nextCycle (d : Dev) (c : Nat) : Nat := if c ∈ d.cyc.started then trunc 64 (rd d (Reg.CYC_CLS_CYC c) + 1) else rd d (Reg.CYC_CLS_CYC c)
/-- A cycle of a class started at its due tick: number, latch, frame, its run, and its work on the cores of every Pier (R169, R171,
R173 step 1). -/
def cycleStart (c tick realTick : Nat) (extra : List FrameItem) (d : Dev) : Dev :=
  let n := nextCycle d c
  let d := wr d (Reg.CYC_CLS_CYC c) n
  let d := cycSet (fun x => { x with started := if c ∈ x.started then x.started else x.started ++ [c] }) d
  let d := freezeFrame c n realTick extra (classLatchAll c d)
  let d := prsAll (workStart (rd d (Reg.CYC_CLS_CFG_CORES c)) c n) d
  activeReview (cycSet (fun x => { x with runs := x.runs ++ [⟨c, n, tick, realTick, 0, [], 0, false, false, false, d.mode.generation⟩] }) d)
/-- The scans that start LEAD ticks before a due tick (R408). -/
def scansStart (tick : Nat) (d : Dev) : Dev :=
  forEach (classes d) (fun c d => if classDue d c (tick + rd d (Reg.GB_SCAN_LEAD_LEAD c)) then gbScanStart c d else d) d

/-! ## Launches (R175, R181, R194) -/

/-- The launch tick of a run. -/
def launchTick (d : Dev) (r : CycleRun) : Nat := r.due + rd d (Reg.CYC_CLS_LAUNCH_LAUNCH r.cls)
/-- The outputs of a released cycle launched: telegrams, but for those due while the Trestle's pair is halted (R160), and legacy objects of
a coupled class, pending legs. -/
def launchNow (c time : Nat) (d : Dev) : Dev :=
  let pubs (d : Dev) : Dev := if pairHalted d 2 then d else pubsLaunch c time d
  let d := if flag d (Reg.CYC_CLS_CFG_COUPLED c) then lbLaunch c time (pubs d) else d
  if flag d (Reg.CYC_CLS_CFG_COUPLED c) || flag d (Reg.CYC_CLS_CFG_DO_AT_LAUNCH c) then
    forEach allPiers (fun p d => legLaunch p c d) d
  else d
/-- The launches of a tick of the scheduling count: of a cycle released by now; a later one waits for its release. -/
def launchesAt (tick : Nat) (d : Dev) : Dev :=
  let mine := d.cyc.runs.filter fun r => launchTick d r == tick && !r.launchPassed && !r.dropped &&
    (flag d (Reg.CYC_CLS_CFG_COUPLED r.cls) || flag d (Reg.CYC_CLS_CFG_DO_AT_LAUNCH r.cls))
  runsReview (forEach mine (fun r d =>
    let d := runSet r.cls r.cycle (fun x => { x with launchPassed := true }) d
    if r.released then launchNow r.cls (schedTime d) d else forEach allPiers (fun p d => legLaunch p r.cls d) d) d)

/-! ## Process image and release of the final window (R177, R179, R194) -/

/-- A released process-image write staged (R177). -/
def stageWrite (c addr : Nat) (data : List Byte) (d : Dev) : Dev :=
  cycSet (fun x => { x with staged := mput x.staged c (mgetD x.staged c [] ++ [(addr, data)]) }) d
/-- The staged writes of a class copied into memory as a unit, and the snapshot after the snapshot class (R40, R177). -/
def commitImage (c : Nat) (d : Dev) : Dev :=
  let l := mgetD d.cyc.staged c []
  let d := { d with mem := l.foldl (fun m e => Memory.putBytes m e.1 e.2) d.mem }
  let d := cycSet (fun x => { x with staged := mdel x.staged c }) d
  if flag d Reg.CYC_CFG_SNAP_EN ∧ rd d Reg.CYC_CFG_SNAP_CLASS = c then snapshotWrite d else d
/-- CYC_CLS_TIME of a class at the release of its final window. -/
def cycleTime (r : CycleRun) (d : Dev) : Dev :=
  let ns := schedTime d - r.realDue * 125000
  let v := if period d r.cls = 0 then 0 else ns * 1000 / (period d r.cls * 125000)
  maxTo (wrSat d (Reg.CYC_CLS_TIME_LAST r.cls) v) (Reg.CYC_CLS_TIME_MAX r.cls) v
/-- The release of a cycle's final window: time, commit, and a late launch counted with event 0x2004 (R177, R194). -/
def cycleReleased (c n : Nat) (d : Dev) : Dev :=
  match runOf d c n with
  | none => commitImage c d
  | some r =>
    let d := commitImage c (cycleTime r (runSet c n (fun x => { x with released := true }) d))
    let d := if r.launchPassed && !r.dropped && flag d (Reg.CYC_CLS_CFG_COUPLED c) then
        let late := schedTime d - (r.realDue + rd d (Reg.CYC_CLS_LAUNCH_LAUNCH c)) * 125000
        launchNow c (schedTime d) (record Ev.LATE_LAUNCH [.w c, .q n, .w (late / 1000)] (inc d Reg.CYC_LAUNCH_LATE_COUNT))
      else d
    runsReview d

/-- The launches that a mode change drops (R186). -/
def launchesDrop (d : Dev) : Dev :=
  runsReview (cycSet (fun x => { x with runs := x.runs.map fun r => { r with dropped := true } }) d)

/-- Everything in progress dropped at the entry into SAFE or a reset: no cycle, nothing staged (R93, R178). -/
def cyclesStop (d : Dev) : Dev :=
  let d := prsAll pierStop (cycSet (fun x => { x with runs := [], staged := [], stepLast := none }) d)
  wr (wr (wr d Reg.CYC_STATUS_ACTIVE 0) Reg.CYC_STATUS_STATE 0) Reg.CYC_STEP_REMAIN 0

end Sys2Proof.Machine
end

