-- ==== Sys2Proof/Machine/DxOps.lean ====
section
/-!
DEFINITION. What modes and the Duplex unit share (spec/13): pins, the lease of the slices, claim numbers, checkpoints.
-/
namespace Sys2Proof.Machine

/-- The Duplex unit changed. -/
def dxSet (f : DxUnit → DxUnit) (d : Dev) : Dev := { d with dx := f d.dx }
/-- The image store changed. -/
def storeSet (f : ImgStore → ImgStore) (d : Dev) : Dev := { d with store := f d.store }
/-- A message on the Loenpa link, where a lane is up. -/
def loenpa (m : LoenpaMsg) (d : Dev) : Dev := if linkUp d then emit (.loenpa m) d else d

/-! ## Pins (R365, R371) -/

/-- DX_STANDBY_N is asserted (R365; in BOOT and SAFE always, R80 and R93). -/
def standbyPin (d : Dev) : Bool :=
  if modeIs d mBOOT || modeIs d mSAFE then true
  else if simplex d then false
  else !(rd d Reg.DX_STATUS_LEASE != 0 || flag d Reg.DX_STATUS_REQUESTING || rd d Reg.DX_STATUS_TK_PHASE == 1)
/-- Grants are issued (R371): DX_STANDBY_N asserted, the handshake completed, from boot step 9 on, no position conflict. -/
def grantsNow (d : Dev) : Bool :=
  standbyPin d && linkUp d && d.dx.handshake && !simplex d && decide (8 ≤ rd d Reg.MCTL_BOOT_STEP) && !flag d Reg.DX_STATUS_POS_CONFLICT
/-- The two series switches of SAFE_OUT_N and DX_ALIVE_N, one of each Keystone half; the pin conducts while both are closed (R58). -/
def switchPins (closed : Nat) (d : Dev) : Dev :=
  let d := { d with ks := { d.ks with safeSw := closed, aliveSw := closed } }
  wrB (wrB d Reg.MCTL_PINS_SAFE_OUT (d.ks.safeSw == 3)) Reg.MCTL_PINS_ALIVE (d.ks.aliveSw == 3)
/-- The pins of the module and GRANTING follow mode and lease (R74, R365); a half diagnosed broken keeps its switches open. -/
def pinReview (d : Dev) : Dev :=
  let alive := !modeIs d mBOOT && !modeIs d mSAFE
  let d := switchPins (maskOf ([0, 1].filter fun h => alive && !flag d (Reg.KS_HALF_BROKEN h))) d
  wrB (wrB d Reg.MCTL_PINS_STANDBY (standbyPin d)) Reg.DX_STATUS_GRANTING (grantsNow d)
/-- The partner is absent (R374). -/
def partnerAbsent (d : Dev) : Bool := !flag d Reg.MCTL_PINS_PEER_ALIVE && !flag d Reg.MCTL_PINS_PEER_STANDBY && !linkUp d

/-! ## Claim numbers (R392, R393) -/

/-- Claim x is higher than claim y. -/
def claimHigher (x y : Nat) : Bool := decide (1 ≤ (x + 256 - y) % 256) && decide ((x + 256 - y) % 256 ≤ 127)
/-- OWN and HIGHER follow the lease, the stored claim and the partner's report (R393). -/
def claimReview (d : Dev) : Dev :=
  let own := if leaseHeld d then d.bp.claim else ((if d.dx.claimKnown then rd d Reg.DX_CLAIM_PEER else d.bp.claim) + 255) % 256
  wrB (wr d Reg.DX_CLAIM_OWN own) Reg.DX_CLAIM_HIGHER (claimHigher own (rd d Reg.DX_CLAIM_PEER))
/-- The claim raised on obtaining a lease, with event 0x6050 (R393). -/
def claimRaise (d : Dev) : Dev :=
  let peer := rd d Reg.DX_CLAIM_PEER
  let last := if d.dx.claimKnown && claimHigher peer d.bp.claim then peer else d.bp.claim
  let new := (last + 1) % 256
  record Ev.CLAIM_RAISED [.w (rd d Reg.DX_CLAIM_OWN), .w new] (claimReview (bpSet (fun b => { b with claim := new }) d))
/-- The claim written to every target at a due tick of the claim class, outside SAFE and BOOT (R392). -/
def claimWrites (d : Dev) : Dev :=
  if flag d Reg.DX_CLAIM_CFG_EN && !modeIs d mSAFE && !modeIs d mBOOT then
    let v := rd d Reg.DX_CLAIM_OWN + 256 * rd d Reg.MCTL_PINS_POS
    forEach ((List.range (rd d Reg.DX_CLAIM_CFG_COUNT)).filter fun n => n < 8 && rd d (Reg.DX_CLAIM_TGT_OFFSET n) % 4 == 0) (fun n d =>
      gbStart (gbEnqueue { origin := .claim, kind := 0, win := rd d (Reg.DX_CLAIM_TGT_WINDOW n)
                           off := rd d (Reg.DX_CLAIM_TGT_OFFSET n), be := 15, data := v, mask := 0, single := true } d)) d
  else d

/-! ## The lease (R24, R370 to R375) -/

/-- LEASE_MS in force, in ns (R369). -/
def leaseNs (d : Dev) : Nat := d.dx.leaseMs * msec
/-- The lease of a slice runs until a time. -/
def sliceRun (p : Pier) (t : Nat) (d : Dev) : Dev :=
  dxSet (fun x => { x with slices := triSet x.slices p { triGet x.slices p with deadline := t } }) (setBitF d Reg.FIO_STATUS_LEASE_OK (pierIdx p))
/-- What follows the gain or loss of the lease in the other units (R143, R290, R327, R348). -/
def leaseFollow (d : Dev) : Dev := hiRoleReview (inhibitReview (lbLease (claimReview (pinReview d))))
/-- A lease obtained: kind 1 GRANT, 3 SOLO, 4 TAKEN; role 4, the claim raised, event 0x6001, vector 11 (R372, R387, R393). -/
def leaseObtain (kind : Nat) (d : Dev) : Dev :=
  let d := wr (wr d Reg.DX_STATUS_LEASE kind) Reg.MCTL_MODE_ROLE 4
  let d := wrB d Reg.DX_STATUS_REQUESTING (kind != 3)
  let d := { d with gb := { d.gb with own := [] } }
  msix 11 (record Ev.LEASE_ACQUIRED [.w kind] (leaseFollow (claimRaise d)))
/-- The basis of a held lease changed: 1 GRANT, 2 PIN, 3 SOLO, with event 0x6003. -/
def leaseBasis (kind : Nat) (d : Dev) : Dev :=
  if rd d Reg.DX_STATUS_LEASE = 0 ∨ rd d Reg.DX_STATUS_LEASE = kind then d
  else
    let d := wrB (wr d Reg.DX_STATUS_LEASE kind) Reg.DX_STATUS_REQUESTING (kind != 3)
    record Ev.LEASE_BASIS [.w kind] d
/-- The lease given up or lost: no request is sent, every slice's timer ends, the module is standby-bound (R375, R390). -/
def leaseDrop (d : Dev) : Dev :=
  let d := wrB (wr d Reg.DX_STATUS_LEASE 0) Reg.DX_STATUS_REQUESTING false
  let d := wr (wr d Reg.FIO_STATUS_LEASE_OK 0) Reg.MCTL_MODE_ROLE 2
  leaseFollow (allLegsOff (dxSet (fun x => { x with slices := triMap (fun s => { s with deadline := 0, sent := [] }) x.slices }) d))
/-- A request of the slices in service sent, each with a new counter (R370). -/
def leaseRequest (d : Dev) : Dev :=
  let step (p : Pier) (s : DxSlice) : DxSlice :=
    if inService d p then { s with ctr := trunc 16 (s.ctr + 1), sent := ((trunc 16 (s.ctr + 1), d.clk) :: s.sent).take 8 } else s
  let sl : Tri DxSlice := ⟨step .A d.dx.slices.a, step .B d.dx.slices.b, step .C d.dx.slices.c⟩
  loenpa (.request ((servicePiers d).map fun p => (pierIdx p, (triGet sl p).ctr))) (dxSet (fun x => { x with slices := sl }) d)

/-! ## Checkpoints (R378, R379) -/

/-- A command executed by the module whose ring it was submitted to (R352). -/
def cmdLocal (x : Desc) : Bool :=
  (x.op == 1 && (argB x 0 == 4 || argB x 0 == 6 || argB x 0 == 7)) ||
    [0x0008, 0x000A, 0x000B, 0x000C, 0x000D, 0x000E].contains x.op || (x.op == 0x000F && argB x 0 == 1)
/-- The journal position of a checkpoint: every active command up to it is final (R355). -/
def journalPos (d : Dev) : Nat :=
  match d.hi.cmds.find? fun c => !cmdLocal c.desc with
  | none => jHead d - 1
  | some c => c.seq - 1
/-- The retained area of the Piers, which hold it alike: that of the first in service (R378). -/
def retainedCells (d : Dev) : NMap Byte :=
  match (servicePiers d).head? with
  | none => []
  | some p => (triGet d.prs p).mem.filter fun c => decide (d.img.retainedAt ≤ c.1) && decide (c.1 < d.img.retainedAt + d.img.retained)
/-- A retained area written into a Pier's memory (R88, R387). -/
def retainedPut (img : Image) (l : NMap Byte) (u : PierUnit) : PierUnit :=
  let out (c : Host.Cell) : Bool := !(decide (img.retainedAt ≤ c.1) && decide (c.1 < img.retainedAt + img.retained))
  let u := { u with mem := l.foldl (fun m c => mput m c.1 c.2) (u.mem.filter out) }
  (pagesOf 0 img.retainedAt img.retained).foldl pageMark u
/-- The content of a checkpoint taken now for a cycle (R223, R378). -/
def cpBuild (cls cycle : Nat) (d : Dev) : Checkpoint :=
  { cls := cls, cycle := cycle
    cycles := d.cyc.started.foldl (fun m c => mput m c (rd d (Reg.CYC_CLS_CYC c))) []
    imageId := d.mode.imageId, generation := d.mode.generation, jpos := journalPos d
    chState := if d.chg.state = 3 then 3 else if d.chg.state ≠ 0 then 1 else if d.chg.switched.isSome then 4 else 0
    chCmd := if d.chg.state = 0 then (d.chg.switched.map (·.cmd)).getD d.chg.cmd else d.chg.cmd
    chNs := d.chg.ns
    epochNum := rd d Reg.TU_EPOCH_NUM, epochE := toSigned 64 (rd d Reg.TU_EPOCH)
    claim := d.bp.claim, retained := d.img.retained, contents := retainedCells d, forces := d.mode.forces
    ssc := d.te.sscIn
    sscOut := (((servicePiers d).head?.map fun p => (triGet d.prs p).sscOut)).getD []
    stations := d.cyc.stations.map fun e => (e.1, e.2.age, e.2.lost, e.2.status)
    time := 0 }
/-- A checkpoint begun, or skipped while one is in transfer (R378, R379). -/
def cpTake (cls cycle : Nat) (d : Dev) : Dev :=
  if d.dx.taking.isSome || d.dx.sending.isSome then
    let d := inc d Reg.DX_CP_STAT_SKIPPED
    recordOnce Ev.CHECKPOINT_SKIPPED 0 [.w (rd d Reg.DX_CP_STAT_SKIPPED)] d
  else dxSet (fun x => { x with taking := some (cpBuild cls cycle d) }) d
/-- The checkpoint due after the release of a cycle of its class (R378). -/
def cpDue (cls cycle : Nat) (d : Dev) : Dev :=
  let k := rd d Reg.DX_CP_CFG_K
  if cls = rd d Reg.DX_CP_CFG_CLASS ∧ flag d (Reg.CYC_CLS_CFG_EN cls) ∧ k ≠ 0 ∧ cycle % k = 0 then cpTake cls cycle d else d
/-- The checkpoint the MRAM header names (R79). -/
def cpNamed (d : Dev) : Option Checkpoint := d.bp.cpNamed.bind (mget d.dx.bufs)
/-- A complete checkpoint placed in the buffer not named, and named (R79, R380). -/
def cpName (c : Checkpoint) (d : Dev) : Dev :=
  let k := 1 - d.bp.cpNamed.getD 1
  let d := bpSet (fun b => { b with cpNamed := some k }) (dxSet (fun x => { x with bufs := mput x.bufs k c, doneAt := some d.clk }) d)
  wr (wr d Reg.DX_CP_LAST c.cycle) Reg.DX_CP_GEN c.generation
/-- The header of a checkpoint as CHECKPOINT_NOW returns it (R352). -/
def cpHeader (c : Checkpoint) : List Byte :=
  leBytes 8 c.cycle ++ leBytes 4 c.generation ++ leBytes 1 c.cls ++ leBytes 3 0 ++ leBytes 8 c.jpos ++ leBytes 8 c.time
/-- The state of a checkpoint taken over: the retained variables in every Pier, cycle numbers, force table, safe sequence counters,
stations (R88, R387). -/
def cpRestore (c : Checkpoint) (d : Dev) : Dev :=
  let d := prsAll (fun u => { retainedPut d.img c.contents u with sscOut := c.sscOut }) d
  let d := forEach c.cycles (fun e d => wr d (Reg.CYC_CLS_CYC e.1) e.2) d
  let d := { d with mode := { d.mode with forces := c.forces } }
  let d := teSet (fun t => { t with sscIn := c.ssc }) d
  cycSet (fun x =>
    { x with started := c.cycles.map (·.1)
             stations := c.stations.foldl (fun m e =>
               mput m e.1 { mgetD m e.1 stationRest with age := e.2.1, lost := e.2.2.1, status := e.2.2.2 }) x.stations }) d

/-! ## Forces (R218, spec/12) -/

/-- The (identifier, value) items of a payload of 16 B items. -/
def items16 : Nat → List Byte → List (Nat × Nat)
  | 0, _ => []
  | n + 1, l => (ofBytes (l.take 4), ofBytes ((l.drop 8).take 8)) :: items16 n (l.drop 16)
/-- The identifiers of a payload of 8 B items. -/
def items8 : Nat → List Byte → List Nat
  | 0, _ => []
  | n + 1, l => ofBytes (l.take 4) :: items8 n (l.drop 8)
/-- A FORCE or UNFORCE applied to the force table. -/
def forceApply (x : Desc) (payload : List Byte) (m : NMap Nat) : NMap Nat :=
  if x.op = 6 then (items16 (argN x 0 2) payload).foldl (fun m e => mput m e.1 e.2) m
  else if bitOf (argB x 2) 0 then []
  else (items8 (argN x 0 2) payload).foldl (fun m i => mdel m i) m

/-- A descriptor rebuilt from an ACCEPT entry (R349). -/
def descOf (e : JEntry) : Desc :=
  ⟨e.id, e.code, e.flags, ofBytes (e.body.take 4), ofBytes ((e.body.drop 4).take 8), ofBytes ((e.body.drop 12).take 8),
    ofBytes ((e.body.drop 20).take 4), e.body.drop 24⟩
/-- The final FORCE and UNFORCE commands above a journal position applied again in journal order (R355). -/
def forcesReplay (p : Nat) (d : Dev) : Dev :=
  let l := d.hi.journal.filter fun e => e.2.kind == 0 && decide (p < e.1) && (e.2.code == 6 || e.2.code == 7) && (jFinal d e.1).isSome
  forEach l (fun e d =>
    { d with mode := { d.mode with forces := forceApply (descOf e.2) (mgetD d.hi.payloads e.1 []) d.mode.forces } }) d

end Sys2Proof.Machine
end

