-- ==== Sys2Proof/Machine/ModeOps.lean ====
section
/-!
DEFINITION. Modes (spec/03): the one write of a mode change, entry into SAFE, what waits for a tick boundary and the order
in which it is taken.
-/
namespace Sys2Proof.Machine

/-- SAFE causes of R92. -/
def scWATCHDOG : Nat := 1
/-- NO_MAJORITY. -/
def scNO_MAJORITY : Nat := 2
/-- KS_HALF. -/
def scKS_HALF : Nat := 3
/-- HEALTH. -/
def scHEALTH : Nat := 4
/-- PAIR_FAIL. -/
def scPAIR_FAIL : Nat := 5
/-- TRANSIENTS. -/
def scTRANSIENTS : Nat := 6
/-- PROGRAM_FAULT. -/
def scPROGRAM_FAULT : Nat := 7
/-- POWER_FAIL. -/
def scPOWER_FAIL : Nat := 8
/-- BOOT_SELFTEST. -/
def scBOOT_SELFTEST : Nat := 9
/-- NO_FIRMWARE. -/
def scNO_FIRMWARE : Nat := 10
/-- KS_INJECTION. -/
def scKS_INJECTION : Nat := 11
/-- REQUESTED. -/
def scREQUESTED : Nat := 12

/-- Module control changed. -/
def modeSet (f : ModeUnit → ModeUnit) (d : Dev) : Dev := { d with mode := f d.mode }
/-- The Keystone changed. -/
def ksSet (f : KsUnit → KsUnit) (d : Dev) : Dev := { d with ks := f d.ks }

/-- The word MCTL_MODE reads as; PIERS is KS_STATUS.IN_SERVICE. -/
def mctlMode (d : Dev) : Nat :=
  rd d Reg.MCTL_MODE_MODE_SEQ * 2 ^ 16 + rd d Reg.MCTL_MODE_DEGRADED * 2 ^ 15 + rd d Reg.KS_STATUS_IN_SERVICE * 2 ^ 12 +
    rd d Reg.MCTL_MODE_ROLE * 2 ^ 8 + rd d Reg.MCTL_MODE_PREV * 2 ^ 4 + rd d Reg.MCTL_MODE_MODE

/-- MODE, PREV and MODE_SEQ changed in one write, with event 0x9020 and vector 9 (R94); a change into SAFE is CRITICAL
(R454). -/
def modeWrite (m : Nat) (d : Dev) : Dev :=
  let d := wr (incW (wr d Reg.MCTL_MODE_PREV (modeOf d)) Reg.MCTL_MODE_MODE_SEQ) Reg.MCTL_MODE_MODE m
  msix 9 (recordSev (if m = mSAFE then 4 else sevOf Ev.MODE_CHANGE) Ev.MODE_CHANGE 3 [.w (mctlMode d)] d)

/-- The result of a MODE_REQUEST (R352): MCTL_MODE after the change and the tick of the change. -/
def modeResult (d : Dev) : List Byte := leBytes 4 (mctlMode d) ++ leBytes 4 0 ++ leBytes 8 (rd d Reg.CYC_TICK)

/-- A resynchronisation ended without result, at the entry into SAFE or STANDBY (R145): the Pier stays isolated, and is resynchronised
again once the module is back in RUN, STOP or HOLD. A Pier already in REJOIN is in service and stays so. -/
def resyncEnd (d : Dev) : Dev :=
  let d := wr (wr d Reg.KS_STATUS_RESYNC_PHASE 0) Reg.KS_RESYNC_STATUS_PHASE 0
  ksSet (fun k => { k with odd := if k.rejoin.map (·.1) = k.odd then none else k.odd, rejoin := none }) d

/-- Everything the Keystone holds dropped: no request is released any more (R93). -/
def ksStop (d : Dev) : Dev :=
  let d := wr (wr (wr (wr d Reg.KS_OPEN_A 0) Reg.KS_OPEN_B 0) Reg.KS_OPEN_C 0) Reg.KS_STATUS_OPEN_MAX 0
  ksSet (fun k => { k with windows := [], reqs := [], releasing := [], slots := [], holding := false }) d

/-- Commands that SAFE performs as any other mode (R93): by opcode, and by target for MODE_REQUEST and CHECKPOINT_NOW. -/
def safePermits (x : Desc) : Bool :=
  x.op == 0x000E || x.op == 0x0008 || x.op == 0x000D || x.op == 0x000B || x.op == 0x000C ||
    (x.op == 0x000F && argB x 0 == 1) || (x.op == 0x0001 && (argB x 0 == 6 || argB x 0 == 7))
/-- The commands that SAFE finds begun: agreed MODE_REQUESTs are preempted, the others, MODE_REQUESTs not yet agreed among them, end with
IN_SAFE (R91, R93). The agreed MODE_REQUEST SAFE that caused the entry is completed by its own command, a store that has arrived at the
Caisson by its end (R473, R477). With its command ended, a change in progress is over. -/
def safeCommands (d : Dev) : Dev :=
  let d := forEach d.mode.reqs (fun s d => cmdFinal s St.MODE_PREEMPTED (modeResult d) d) d
  let agreed (c : HiCmd) : Bool := c.desc.op == 1 && c.phase == .waiting
  let begun := d.hi.cmds.filter fun c => c.phase != .queued && !safePermits c.desc && !(agreed c && argB c.desc 0 == 5) &&
    !(d.cs.queue.any fun q => q.cmd == some c.seq)
  let d := forEach begun (fun c d => if agreed c then cmdFinal c.seq St.MODE_PREEMPTED (modeResult d) d else cmdFinal c.seq St.IN_SAFE [] d) d
  let d := { d with chg := { d.chg with state := 0, cs := none, reverting := false, fetched := false, await := [], accepted := none } }
  modeSet (fun m => { m with reqs := [], leaseLost := false, permitLost := false, autorun := false
                             stepCmd := none }) d

/-- What SAFE does at once (R75, R93, R272, R412, R415, R450, R457): legs and pins off, cycles and releases stop, triggers
disarmed, queued Girder requests discarded and the safe list run under a lease, the Causeway cleared, pending
commands ended (after step 3 of R52 no FINAL entry can be written any more), summaries stored. -/
def safeEffects (d : Dev) : Dev :=
  let lease := leaseHeld d
  let d := modeWrite mSAFE d
  let d := trigDisarmAll (allLegsOff d)
  let d := pinReview d
  let d := resyncEnd (ksStop (cyclesStop d))
  let d := gbDropQueued Reg.GB_DISCARD_MODE d
  let d := if lease then gbSafeRun mSAFE d else d
  let d := inhibitReview (canHeartbeats (cwClearAll d))
  summarizeAll (if d.hm.powerFail then d else safeCommands d)

/-- A SAFE cause of BOOT with which the boot sequence continues to step 11 (R524). -/
def safeDefers (cause detail : Nat) (d : Dev) : Bool :=
  modeIs d mBOOT && decide (rd d Reg.MCTL_BOOT_STEP < 11) &&
    !(cause == scPOWER_FAIL || cause == scNO_FIRMWARE || (cause == scBOOT_SELFTEST && [1, 5, 6, 7].contains detail))
/-- HI_EVW_CURSOR takes the value of OLDEST at the end of BOOT (R17). -/
def cursorOldest (d : Dev) : Dev := wr d Reg.HI_EVW_CURSOR (rd d Reg.EV_OLDEST)
/-- What SAFE does, once it is not put off; in BOOT the boot sequence ends (R84, R524). -/
def safeNow (d : Dev) : Dev :=
  let d := if modeIs d mBOOT then cursorOldest d else d
  safeEffects (modeSet (fun m => { m with bootSafe := none, waiting := false, halted := m.halted || modeIs d mBOOT }) d)
/-- The word of MCTL_BOOT. -/
def mctlBoot (d : Dev) : Nat :=
  rd d Reg.MCTL_BOOT_PIER_FAIL * 256 + rd d Reg.MCTL_BOOT_WARM * 64 + rd d Reg.MCTL_BOOT_FALLBACK * 32 + rd d Reg.MCTL_BOOT_SLOT * 16 +
    rd d Reg.MCTL_BOOT_STEP
/-- Entry into SAFE with a cause (R92, R93): the first cause is kept, a later one only recorded. A cause in BOOT before step
11 that R524 lets the boot sequence continue with takes the mode to SAFE at the end of that step. -/
def safeEnter (cause detail : Nat) (d : Dev) : Dev :=
  if modeIs d mSAFE then record Ev.SAFE_LATER_CAUSE [.w cause, .w detail] d
  else if d.mode.bootSafe.isSome then
    let d := record Ev.SAFE_LATER_CAUSE [.w cause, .w detail] d
    if safeDefers cause detail d then d else safeNow d
  else
    let d := wr (wr d Reg.MCTL_SAFE_CAUSE_CAUSE cause) Reg.MCTL_SAFE_CAUSE_DETAIL detail
    let d := if safeDefers cause detail d then modeSet (fun m => { m with bootSafe := some (cause, detail) }) d else safeNow d
    record Ev.SAFE_ENTERED ([.w cause, .w detail] ++ if cause = scNO_FIRMWARE then [.w (mctlBoot d)] else []) d

/-- SAFE for want of two Piers: DETAIL is the Piers in service (R92). -/
def safeNoMajority (d : Dev) : Dev := safeEnter scNO_MAJORITY (rd d Reg.KS_STATUS_IN_SERVICE) d

/-! ## Changes at a tick boundary (R90, R91) -/

/-- The condition of the STOP-to-RUN row of R90. -/
def runAllowed (d : Dev) : Bool :=
  let n := (votingPiers d).length
  d.mode.imageValid && schedValid d && (decide (3 ≤ n) || (n == 2 && flag d Reg.MCTL_CFG_RUN_2OO2)) && leaseHeld d
/-- The condition of the HOLD rows. -/
def holdAllowed (d : Dev) : Bool := flag d Reg.MCTL_PINS_SVC_PERMIT && flag d Reg.MCTL_CFG_COMMISSION_EN

/-- The condition of MODE_REQUEST STANDBY: duplex, the partner in STANDBY with the latest checkpoint (R90, R390). -/
def handoverAllowed (d : Dev) : Bool :=
  !simplex d && flag d Reg.DX_PEER_VALID && rd d Reg.DX_PEER_MODE == mSTANDBY && d.dx.taking.isNone && d.dx.sending.isNone &&
    d.dx.confirmed.isSome && d.dx.confirmed == (cpNamed d).map (·.cycle)

/-- Whether a MODE_REQUEST's condition holds in the present mode (R90, R187, R189). -/
def requestAllowed (d : Dev) (x : Desc) : Bool :=
  let m := modeOf d
  let t := argB x 0
  if t = 0 then m == mRUN || m == mHOLD || (m == mSERVICE && d.mode.imageValid)
  else if t = 1 then (m == mSTOP || (m == mHOLD && argB x 1 != 1)) && runAllowed d && (argB x 1 == 1 || !d.mode.coldOnly)
  else if t = 2 then (m == mSTOP || m == mRUN) && holdAllowed d
  else if t = 3 then (m == mRUN || m == mSTOP || m == mHOLD) && handoverAllowed d
  else if t = 4 then (m == mSTOP || m == mSTANDBY) && flag d Reg.MCTL_PINS_SVC_PERMIT
  else if t = 8 then m == mHOLD && cycState d == 2
  else false

/-- The Piers in service write all writable state, stacks and heap to their initial values (R99). -/
def piersInit (d : Dev) : Dev :=
  forEach (servicePiers d) (fun p d => prSet p (fun u => { pierInit d.img d.store.consts u with exch := [], published := [] }) d) d
/-- A cold start: writable state at its initial values, cycle numbers 0, the force table cleared (R88, R99, R187). -/
def coldStart (d : Dev) : Dev :=
  let d := forEach (List.range 16) (fun c d => wr d (Reg.CYC_CLS_CYC c) 0) (wrB (piersInit d) Reg.MCTL_BOOT_WARM false)
  modeSet (fun m => { m with forces := [], started := true, coldOnly := false }) (cycSet (fun x => { x with started := [], prevDue := [] }) d)
/-- The checkpoint from which the first entry into RUN starts warm (R88). -/
def warmCp (d : Dev) : Option Checkpoint :=
  if flag d Reg.MCTL_CFG_WARM_EN ∧ rd d Reg.MCTL_RESET_CAUSE_KIND ≠ 0 then
    (cpNamed d).filter fun c => c.imageId == d.mode.imageId && c.generation == d.mode.generation
  else none
/-- The application starts on the first entry into RUN after boot: warm from its checkpoint, with the forces above its
journal position, or cold (R88, R355). -/
def appStart (d : Dev) : Dev :=
  if d.mode.started then d
  else match warmCp d with
    | none => coldStart d
    | some c => forcesReplay c.jpos (modeSet (fun m => { m with started := true }) (cpRestore c (wrB d Reg.MCTL_BOOT_WARM true)))

/-- A step that a mode change ends (R91, R189). -/
def stepPreempt (d : Dev) : Dev :=
  match d.mode.stepCmd with
  | none => d
  | some s => modeSet (fun m => { m with stepCmd := none }) (cmdFinal s St.MODE_PREEMPTED (modeResult d) (wr d Reg.CYC_STEP_REMAIN 0))
/-- A mode entered at a boundary, with all that follows in the same boundary (R75, R186, R187, R189, R272, R415, R449). -/
def modeEnter (m : Nat) (d : Dev) : Dev :=
  let old := modeOf d
  let lease := leaseHeld d
  let d := modeSet (fun x => { x with autorun := false }) (launchesDrop (modeWrite m d))
  let d := if old = mRUN then trigDisarmAll (allLegsOff d) else d
  let d := if old = mRUN ∧ lease ∧ (m = mSTOP ∨ m = mHOLD) then gbSafeRun m d else d
  let d := if m = mSTANDBY then dxSet (fun x => { x with peerMode := none }) (resyncEnd d) else d
  let d := wr d Reg.CYC_STATUS_STATE (if m = mRUN then 1 else if m = mHOLD then 2 else 0)
  let d := if m = mHOLD ∨ m = mRUN ∨ m = mSTOP then wr d Reg.CYC_VTICK (rd d Reg.CYC_TICK) else d
  let d := if m = mRUN then
      let d := appStart d
      let d := cwFlush 1 (cwFlush 0 d)
      if rd d Reg.MCTL_BOOT_TIME_TO_RUN_MS = 0xFFFF ∧ (d.clk - d.mode.resetAt) / msec ≤ 65534 then
        wr d Reg.MCTL_BOOT_TIME_TO_RUN_MS ((d.clk - d.mode.resetAt) / msec)
      else d
    else d
  let d := if m ≠ mHOLD then stepPreempt d else d
  hiRoleReview (inhibitReview (canHeartbeats (claimReview (pinReview d))))

/-- A MODE_REQUEST takes effect: its mode, or the first step tick of a STEP (R187, R188, R189). -/
def requestApply (c : HiCmd) (d : Dev) : Dev :=
  let t := argB c.desc 0
  let done (d : Dev) : Dev := cmdFinal c.seq St.OK (modeResult d) d
  if t = 0 then done (modeEnter mSTOP d)
  else if t = 1 then done (modeEnter mRUN (if argB c.desc 1 = 1 then coldStart d else d))
  else if t = 2 then done (modeEnter mHOLD d)
  else if t = 3 then
    let d := done (modeEnter mSTANDBY d)
    let c := rd d Reg.DX_CP_CFG_CLASS
    dxSet (fun x => { x with handover := true }) (cpTake c (rd d (Reg.CYC_CLS_CYC c)) d)
  else if t = 4 then done (modeEnter mSERVICE d)
  else
    let d := cycSet (fun x => { x with stepLast := none }) d
    let d := wr (wr d Reg.CYC_STEP_REMAIN (argN c.desc 12 2)) Reg.CYC_STEP_CLASS (argB c.desc 2)
    modeSet (fun m => { m with stepCmd := some c.seq }) (wr d Reg.CYC_STATUS_STATE 3)

/-- A MODE_REQUEST HOLD that sets a breakpoint (R188). -/
def isBreak (x : Desc) : Bool := x.op == 1 && argB x 0 == 2 && bitOf (argB x 3) 0
/-- The cycle of a breakpoint; N = 0 means the next cycle (R188). -/
def breakCycle (d : Dev) (x : Desc) : Nat := if argN x 4 8 = 0 then nextCycle d (argB x 2) else argN x 4 8
/-- A breakpoint may be set while the STOP-to-HOLD conditions hold and its cycle has not started (R188). -/
def breakAllowed (d : Dev) (x : Desc) : Bool :=
  holdAllowed d && (modeIs d mRUN || modeIs d mSTOP || modeIs d mHOLD) && decide (nextCycle d (argB x 2) ≤ breakCycle d x)
/-- The breakpoint set (R188); performed in STOP, the request ends the wait of AUTORUN (R90). -/
def breakSet (c : HiCmd) (d : Dev) : Dev :=
  let n := breakCycle d c.desc
  let d := wr (wr (wrB d Reg.CYC_BRK_EN true) Reg.CYC_BRK_CLASS (argB c.desc 2)) Reg.CYC_BRK_CYC n
  cmdFinal c.seq St.OK (modeResult d) (modeSet (fun m => { m with autorun := false }) d)
/-- The condition of a MODE_REQUEST holds at this boundary. -/
def requestHolds (d : Dev) (x : Desc) : Bool := if isBreak x then breakAllowed d x else requestAllowed d x

/-- The MODE_REQUESTs of one boundary in journal order: those whose condition fails end, the first whose condition holds
takes effect, the rest are preempted (R91); one that names STOP clears the breakpoint, whatever comes of it (R188). -/
def requestsTake : List Nat → Dev → Dev
  | [], d => d
  | s :: r, d =>
    match cmdOf d s with
    | none => requestsTake r d
    | some c =>
      let d := if c.desc.op = 1 ∧ argB c.desc 0 = 0 then wrB d Reg.CYC_BRK_EN false else d
      if !requestHolds d c.desc then requestsTake r (cmdFinal s St.MODE_CONDITION (modeResult d) d)
      else if isBreak c.desc then requestsTake r (breakSet c d)
      else
        let d := requestApply c (modeSet (fun m => { m with autorun := false }) d)
        forEach r (fun s d => cmdFinal s St.MODE_PREEMPTED (modeResult d) d) d
/-- The MODE_REQUESTs of a boundary at which a trigger that outranks them takes effect: those whose condition fails there end with
MODE_CONDITION, the others are overtaken and stay for MODE_PREEMPTED (R91). -/
def requestsOvertaken (d : Dev) (reqs : List Nat) : List Nat :=
  reqs.filter fun s => match cmdOf d s with
    | none => false
    | some c => requestHolds d c.desc

/-- The trigger that outranks the requests of a boundary, as the mode it leads to (R91). -/
def boundaryTrigger (d : Dev) : Option Nat :=
  let m := modeOf d
  if d.mode.leaseLost ∧ (m = mRUN ∨ m = mSTOP ∨ m = mHOLD) then some mSTANDBY
  else if d.mode.permitLost ∧ m = mHOLD ∧ !flag d Reg.MCTL_PINS_SVC_PERMIT then some mSTOP
  else none

/-- AUTORUN after boot leads to RUN where the conditions of the STOP-to-RUN row hold (R90). -/
def autorunReady (d : Dev) : Bool := d.mode.autorun && modeIs d mSTOP && runAllowed d
/-- A tick boundary or housekeeping boundary for the modes (R90, R91, R166). -/
def modeBoundary (d : Dev) : Dev :=
  let reqs := d.mode.reqs
  let trig := boundaryTrigger d
  let clear (d : Dev) : Dev := modeSet (fun m => { m with reqs := [], leaseLost := false, permitLost := false }) d
  match trig with
  | some m =>
    let taken := requestsOvertaken d reqs
    let d := forEach (reqs.filter fun s => !taken.contains s) (fun s d => cmdFinal s St.MODE_CONDITION (modeResult d) d) d
    forEach taken (fun s d => cmdFinal s St.MODE_PREEMPTED (modeResult d) d) (clear (modeEnter m d))
  | none =>
    let d := requestsTake reqs (clear d)
    if autorunReady d then modeEnter mRUN d else d

end Sys2Proof.Machine
end

