-- ==== Sys2Proof/Machine/KeystoneOps.lean ====
section
/-!
DEFINITION. The Keystone's comparison (spec/05): windows and verdicts, naming and isolation, the order of release; the
operating-hour counts of R162.
-/
namespace Sys2Proof.Machine

/-! ## Stamps of the last operating hour (R162) -/

/-- The stamps under a key that lie in the last operating hour. -/
def hourStamps (d : Dev) (k : Nat) : List Nat :=
  (mgetD d.ks.stamps k []).filter fun t => decide (rd d Reg.MCTL_OP_SECONDS < t + 3600)
/-- One more stamp under a key; the last three are kept. After step 3 of R52 no MRAM write starts. -/
def stampAdd (k : Nat) (d : Dev) : Dev :=
  let l := (hourStamps d k ++ [rd d Reg.MCTL_OP_SECONDS]).reverse.take 3
  if d.hm.powerFail then d else ksSet (fun x => { x with stamps := mput x.stamps k l.reverse }) d
/-- KS_ODD_COUNT of a Pier. -/
def oddCountFld : Pier → Fld
  | .A => Reg.KS_ODD_COUNT_A
  | .B => Reg.KS_ODD_COUNT_B
  | .C => Reg.KS_ODD_COUNT_C
/-- KS_ODD_HOUR of a Pier. -/
def oddHourFld : Pier → Fld
  | .A => Reg.KS_ODD_HOUR_A
  | .B => Reg.KS_ODD_HOUR_B
  | .C => Reg.KS_ODD_HOUR_C
/-- KS_OPEN of a Pier. -/
def openFld : Pier → Fld
  | .A => Reg.KS_OPEN_A
  | .B => Reg.KS_OPEN_B
  | .C => Reg.KS_OPEN_C

/-! ## Service and isolation (R136, R138, R144) -/

/-- DEGRADED: a unit on one copy or a Pier out of service (MCTL_MODE). -/
def degradedReview (d : Dev) : Dev :=
  wrB d Reg.MCTL_MODE_DEGRADED
    (([1, 2, 3, 4, 5, 6].any fun u => pairState d u == 1 || pairState d u == 2) || d.ks.outOfService != 0)
/-- A Pier out of service until the next module reset, with event 0x1014 and its reason. -/
def pierOut (p : Pier) (reason : Nat) (d : Dev) : Dev :=
  let d := setBitF (clrBitF d Reg.KS_STATUS_IN_SERVICE (pierIdx p)) Reg.KS_STATUS_ISOLATED (pierIdx p)
  let d := legsOff p (ksSet (fun k => { k with outOfService := bitSet k.outOfService (pierIdx p) }) d)
  recordP Ev.PIER_OUT_OF_SERVICE p [.w (pierIdx p), .w reason] (degradedReview d)
/-- An unresolved window without the signature of a Pier: a majority that holds the Pier is none any more. -/
def winWithout (i : Nat) (w : KsWindow) : KsWindow :=
  if w.resolved then w
  else
    let w := { w with sigs := mdel w.sigs i, upto := mdel w.upto i }
    if bitOf w.majority i then { w with majority := 0, sig := 0, expiry := none, expired := false } else w
/-- The postings of a Pier removed from stages, requests and mailbox, and what it has in progress (R144). -/
def pierForget (p : Pier) (d : Dev) : Dev :=
  let i := pierIdx p
  prSet p pierStop (ksSet (fun k => { k with
    windows := k.windows.map (winWithout i)
    reqs := (mapIf (fun r => !r.closed) (fun r => { r with copies := mdel r.copies i }) k.reqs).filter fun r => r.closed || !r.copies.isEmpty
    slots := k.slots.map fun s => (s.1, { s.2 with posts := mdel s.2.posts i, expect := bitClr s.2.expect i }) }) d)
/-- A resynchronisation phase shown. -/
def resyncPhase (ph : Nat) (d : Dev) : Dev := wr (wr d Reg.KS_STATUS_RESYNC_PHASE ph) Reg.KS_RESYNC_STATUS_PHASE ph
/-- A Pier isolated: out of the vote, its legs off, its postings dropped, recovery about to begin (R136, R144, R146). Another Pier in REJOIN
stays so. -/
def pierIsolate (p : Pier) (d : Dev) : Dev :=
  let d := setBitF (clrBitF d Reg.KS_STATUS_IN_SERVICE (pierIdx p)) Reg.KS_STATUS_ISOLATED (pierIdx p)
  let d := runsReview (pierForget p (legsOff p d))
  let d := ksSet (fun k => { k with odd := some (pierIdx p), since := d.clk, attemptAt := d.clk, aborts := 0, badPasses := 0, passLeft := 0
                                    copyList := [], rejoin := k.rejoin.filter fun r => r.1 != pierIdx p }) d
  wr (wr (resyncPhase 1 d) Reg.KS_RESYNC_STATUS_TARGET (pierIdx p)) Reg.KS_RESYNC_STATUS_ATTEMPT 0

/-- A verdict other than AGREE noted: kind 1 MISMATCH, 2 LATE, 3 NO_MAJORITY, 4 LOCAL_ERROR; the odd Pier, 3 for none; the
window, if it belongs to one (R137). -/
def verdictNote (kind odd : Nat) (win : Option (Nat × Nat × Nat)) (d : Dev) : Dev :=
  let d := wr (wr d Reg.KS_VERDICT_LAST_KIND kind) Reg.KS_VERDICT_LAST_ODD odd
  let d := wrB d Reg.KS_VERDICT_LAST_NO_WINDOW win.isNone
  let w := win.getD (0, 0, 0)
  let d := wr (wr (wr d Reg.KS_VERDICT_LAST_CLASS w.1) Reg.KS_VERDICT_LAST_PART w.2.2) Reg.KS_VERDICT_CYC w.2.1
  incW d Reg.KS_VERDICT_SEQ
/-- The window identifier as a first data item, where there is one (R163). -/
def winItem (win : Option (Nat × Nat × Nat)) : List Item :=
  match win with
  | none => []
  | some w => [.q (winId w.1 w.2.1 w.2.2)]
/-- NO_MAJORITY with event 0x1002, its signatures and their arrival times in units of 2.5 ns from the due tick, and SAFE (R131, R132). -/
def verdictNone (w : Option KsWindow) (d : Dev) : Dev :=
  let win := w.map fun x => (x.cls, x.cycle, x.part)
  let held := match w with
    | none => []
    | some x => x.sigs.flatMap fun e => [Item.q (trunc 64 e.2.1), Item.q e.2.2]
  safeNoMajority (recordSev 4 Ev.NO_MAJORITY 3 (winItem win ++ held) (verdictNote 3 3 win d))
/-- A Pier named odd (R136 to R138): noted, event 0x1001, counted, isolated; the third naming in an operating hour takes it out of service;
with fewer than two Piers left, the module enters SAFE. -/
def pierName (kind : Nat) (p : Pier) (win : Option (Nat × Nat × Nat)) (skew : Nat) (d : Dev) : Dev :=
  let d := verdictNote kind (pierIdx p) win d
  let d := recordP Ev.ODD_PIER_NAMED p (winItem win ++ [.w kind, .w (pierIdx p), .w skew]) d
  let d := stampAdd (pierIdx p) (inc d (oddCountFld p))
  let hour := (hourStamps d (pierIdx p)).length
  let d := wr d (oddHourFld p) hour
  if !inService d p then d
  else
    let few := decide ((servicePiers d).length ≤ 2)
    let d := pierIsolate p d
    let d := if 3 ≤ hour then ksSet (fun k => { k with odd := none }) (resyncPhase 0 (pierOut p 1 d)) else d
    if few then safeNoMajority d else d

/-- The load signatures of the Piers in service compared by the rules of window signatures (R80 step 11, R87, R387): a single odd
one is named, no majority leads to SAFE. -/
def loadSignatures (sigs : Tri Nat) (d : Dev) : Dev :=
  match (votingPiers d).map fun p => (p, triGet sigs p) with
  | [a, b, c] =>
    if a.2 = b.2 ∧ b.2 = c.2 then d
    else if a.2 = b.2 then pierName 1 c.1 none 0 d
    else if a.2 = c.2 then pierName 1 b.1 none 0 d
    else if b.2 = c.2 then pierName 1 a.1 none 0 d
    else verdictNone none d
  | [a, b] => if a.2 = b.2 then d else verdictNone none d
  | _ => verdictNone none d

/-! ## Windows (R128 to R135) -/

/-- The window of an identifier. -/
def winOf (d : Dev) (cls cycle part : Nat) : Option KsWindow :=
  d.ks.windows.find? fun w => w.cls == cls && w.cycle == cycle && w.part == part
/-- A window replaced, or added at the end. -/
def winPut (w : KsWindow) (d : Dev) : Dev :=
  let same (x : KsWindow) : Bool := x.cls == w.cls && x.cycle == w.cycle && x.part == w.part
  ksSet (fun k => { k with windows := if k.windows.any same then mapIf same (fun _ => w) k.windows else k.windows ++ [w] }) d
/-- SKEW_US in units of 2.5 ns. -/
def skewUnits (d : Dev) : Nat := rd d Reg.KS_CFG_SKEW_US * 400
/-- KS_OPEN and OPEN_MAX follow the unresolved windows. -/
def openWindows (d : Dev) : Dev :=
  let n (p : Pier) : Nat := (d.ks.windows.filter fun w => !w.resolved && (mget w.sigs (pierIdx p)).isSome).length
  let d' := forEach allPiers (fun p d => wr d (openFld p) (n p)) d
  wr d' Reg.KS_STATUS_OPEN_MAX (max (n .A) (max (n .B) (n .C)))
/-- Whether the stage of a Pier holds eight unresolved windows, those that other Piers opened included (R129). -/
def stageFull (d : Dev) (p : Pier) : Bool :=
  decide (8 ≤ (d.ks.windows.filter fun w => !w.resolved && (mget w.sigs (pierIdx p)).isSome).length)
/-- An arrival placed by its time. -/
def arrInsert (x : Nat × Nat × Nat) : List (Nat × Nat × Nat) → List (Nat × Nat × Nat)
  | [] => [x]
  | y :: r => if x.2.2 < y.2.2 then x :: y :: r else y :: arrInsert x r
/-- Whether the windows of a class cycle expect a Pier: it is in service and did not rejoin later (R146). -/
def winExpects (d : Dev) (cls cycle i : Nat) : Bool := inService d (pierOf i) && !d.ks.unexpected.contains (cls, cycle, i)
/-- How many Piers a window expects. -/
def winCount (d : Dev) (w : KsWindow) : Nat := ([0, 1, 2].filter (winExpects d w.cls w.cycle)).length
/-- The arrivals of a window by the Piers it expects, earliest first. -/
def winArrivals (d : Dev) (w : KsWindow) : List (Nat × Nat × Nat) :=
  (w.sigs.filter fun e => winExpects d w.cls w.cycle e.1).foldl (fun l x => arrInsert x l) []
/-- KS_WIN_SKEW of a class after a window in which every signature arrived within the bound. -/
def winSkew (w : KsWindow) (arr : List (Nat × Nat × Nat)) (d : Dev) : Dev :=
  match arr.head?, arr.getLast? with
  | some a, some b => maxTo d (Reg.KS_WIN_SKEW_MAX w.cls) (b.2.2 - a.2.2)
  | _, _ => d
/-- A window resolved. -/
def winResolve (w : KsWindow) (d : Dev) : Dev :=
  openWindows (wr (winPut { w with resolved := true } d) Reg.KS_WIN_COUNT (rd d Reg.KS_WIN_COUNT + 1))
/-- The release point of a window at the arrival of `b`: its majority and their signature are fixed (R131, R140, R141). -/
def winRelease (w : KsWindow) (a b : Nat × Nat × Nat) : KsWindow :=
  { w with majority := maskOf [a.1, b.1], sig := a.2.1, point := w.due * 50000 + b.2.2 }

/-- The deadline of a class cycle in units of 2.5 ns from its due tick, with the time of frozen releases (R168, R193). -/
def deadlineOf (d : Dev) (cls cycle : Nat) : Nat :=
  period d cls * 50000 + ((runOf d cls cycle).map fun r => r.extra).getD 0
/-- CYC_OVR_LAST: kind 1 late cycle, 2 Pier overrun, 3 program overrun, with the Piers that had not posted the final window by D. -/
def overrunNote (kind cls cycle : Nat) (w : Option KsWindow) (d : Dev) : Dev :=
  let late (i : Nat) : Bool := winExpects d cls cycle i && !((w.map fun x => x.sigs).getD []).any fun e =>
    e.1 == i && decide (e.2.2 ≤ deadlineOf d cls cycle)
  let d := wr (wr (wr d Reg.CYC_OVR_LAST_KIND kind) Reg.CYC_OVR_LAST_CLASS cls) Reg.CYC_OVR_CYC cycle
  wr d Reg.CYC_OVR_LAST_PIERS (maskOf ([0, 1, 2].filter late))
/-- A Pier overrun: the verdict LATE of a final window (R191). -/
def pierOverrun (odd : Nat) (w : KsWindow) (d : Dev) : Dev :=
  recordP Ev.PIER_OVERRUN (pierOf odd) [.w w.cls, .q w.cycle, .w odd]
    (overrunNote 2 w.cls w.cycle (some w) (inc d (Reg.CYC_CLS_OVR_PIER w.cls)))
/-- A verdict that names an odd Pier of a window: noted, resolved, the Pier isolated (R131, R136). -/
def winOdd (kind odd : Nat) (w : KsWindow) (skew : Nat) (d : Dev) : Dev :=
  let d := if kind = 2 ∧ w.final then pierOverrun odd w d else d
  pierName kind (pierOf odd) (some (w.cls, w.cycle, w.part)) skew (winResolve w d)
/-- NO_MAJORITY for a window. -/
def winNone (w : KsWindow) (d : Dev) : Dev := verdictNone (some w) (winResolve w d)

/-- The verdict of a window as far as its arrivals allow, with three Piers in service (R131). -/
def winJudge3 (w : KsWindow) (d : Dev) : Dev :=
  let arr := winArrivals d w
  match arr with
  | [a, b] =>
    let w := { w with expiry := some (b.2.2 + skewUnits d) }
    winPut (if a.2.1 = b.2.1 then winRelease w a b else w) d
  | [a, b, c] =>
    let miss := w.expired || decide (w.expiry.getD (b.2.2 + skewUnits d) < c.2.2)
    let skew := c.2.2 - a.2.2
    let d := if miss then d else winSkew w arr d
    if a.2.1 = b.2.1 then
      let w := winRelease w a b
      if miss then winOdd 2 c.1 w skew d
      else if c.2.1 = a.2.1 then winResolve { w with majority := 7 } d
      else winOdd 1 c.1 w skew d
    else if miss then winNone w d
    else if c.2.1 = a.2.1 then winOdd 1 b.1 (winRelease w a c) skew d
    else if c.2.1 = b.2.1 then winOdd 1 a.1 (winRelease w b c) skew d
    else winNone w d
  | _ => winPut w d
/-- The same with two Piers in service (R132). -/
def winJudge2 (w : KsWindow) (d : Dev) : Dev :=
  let arr := winArrivals d w
  match arr with
  | [a] => winPut { w with expiry := some (a.2.2 + skewUnits d) } d
  | [a, b] =>
    let miss := w.expired || decide (a.2.2 + skewUnits d < b.2.2)
    let d := if miss then d else winSkew w arr d
    if miss ∨ a.2.1 ≠ b.2.1 then winNone w d else winResolve (winRelease w a b) d
  | _ => winPut w d
/-- The verdict of a window with the Piers it expects now; while releases are frozen no verdict is given (R155, R156). -/
def winJudge (w : KsWindow) (d : Dev) : Dev :=
  if w.resolved then d
  else if flag d Reg.KS_STATUS_FROZEN then winPut w d
  else if winCount d w = 3 then winJudge3 w d
  else if winCount d w = 2 then winJudge2 w d
  else winPut w d
/-- The windows still open judged again after an isolation by R132; one whose release point the two remaining Piers have already given keeps
it (R136). -/
def winRejudge (d : Dev) : Dev :=
  if flag d Reg.KS_STATUS_FROZEN then d else forEach (d.ks.windows.filter fun w => !w.resolved) (fun w d =>
    match winOf d w.cls w.cycle w.part with
    | none => d
    | some w =>
      let left := maskOf ([0, 1, 2].filter (winExpects d w.cls w.cycle))
      if w.majority = left ∧ winCount d w = 2 then winResolve w d else winJudge w d) d
/-- A judgement followed by the judgement of the open windows where a Pier left service. -/
def winVerdict (w : KsWindow) (d : Dev) : Dev :=
  let n := (servicePiers d).length
  let d := winJudge w d
  if (servicePiers d).length < n ∧ !modeIs d mSAFE then winRejudge d else d

/-- A signature that arrives after its window was resolved (R134). -/
def sigLate (p : Pier) (w : KsWindow) (sig t : Nat) (d : Dev) : Dev :=
  let same := sig == w.sig
  let d := winPut { w with sigs := mput w.sigs (pierIdx p) (sig, t) } d
  let d := inc d (if same then Reg.KS_LATE_SIG_LATE_MATCH else Reg.KS_LATE_SIG_LATE_DIFF)
  recordP Ev.LATE_SIGNATURE p [.q (winId w.cls w.cycle w.part), .w (pierIdx p), .w (b2n (!same))] d

/-- The window a Pier's next signature of a class must carry: the oldest unresolved one it has not signed (R135). -/
def winExpected (d : Dev) (p : Pier) (cls : Nat) : Option KsWindow :=
  d.ks.windows.find? fun w => w.cls == cls && !w.resolved && (mget w.sigs (pierIdx p)).isNone
/-- A signature that no other can equal: the posting for another window than the expected one (R135). -/
def sigDiffering (p : Pier) : Nat := 2 ^ 64 + pierIdx p

/-- A posted signature entered into its window and judged (R129 to R135). A Pier that missed the mailbox of the cycle has
missed the skew bound of its windows (R111), so its signature does not count. The expected window of the class comes first: any other
one named counts as a differing signature for it. `agree` says whether the halves come to the same verdict; where they do not,
none is given (R155). -/
def sigPost (p : Pier) (cls cycle part sig t upto : Nat) (final agree : Bool) (d : Dev) : Dev :=
  let i := pierIdx p
  let judge (w : KsWindow) (d : Dev) : Dev := openWindows (if agree then winVerdict w d else winPut w d)
  let entered (w : KsWindow) (s : Nat) (keep : Bool) : KsWindow :=
    { w with sigs := mput w.sigs i (s, t), upto := if keep then mput w.upto i upto else w.upto
             final := if keep then final else w.final }
  if !winExpects d cls cycle i ∨ (cls, cycle, i) ∈ d.ks.missed then d
  else match winExpected d p cls with
    | some e =>
      if e.cycle = cycle ∧ e.part = part then judge (entered e sig true) d else judge (entered e (sigDiffering p) false) d
    | none =>
      match winOf d cls cycle part with
      | some w => if w.resolved ∧ (mget w.sigs i).isNone then sigLate p w sig t d else d
      | none =>
        let due := ((runOf d cls cycle).map fun r => r.realDue).getD 0
        judge (entered ⟨cls, cycle, part, due, [], [], final, none, false, false, 0, 0, 0, false, false⟩ sig true) d

/-- The verdict of a window whose skew timer has expired (R130 to R132): a missing third signature is LATE or leaves no majority; with two in
service only the expiry is noted. -/
def winExpired (w : KsWindow) (d : Dev) : Dev :=
  let arr := winArrivals d w
  if winCount d w = 3 then
    match arr with
    | [a, b] =>
      if a.2.1 = b.2.1 then
        let odd := 3 - a.1 - b.1
        let d := winOdd 2 odd (winRelease w a b) (skewUnits d) d
        if modeIs d mSAFE then d else winRejudge d
      else winNone w d
    | _ => winPut w d
  else winPut w d
/-- The skew timer of a window expires; while releases are frozen the expiry is noted and judged after the freeze (R155, R156). -/
def skewExpire (cls cycle part : Nat) (d : Dev) : Dev :=
  match winOf d cls cycle part with
  | none => d
  | some w =>
    let n := (winArrivals d w).length
    if w.resolved then d
    else if flag d Reg.KS_STATUS_FROZEN then
      if n + 1 = winCount d w then winPut { w with expired := true } d else d
    else if w.expiry.isNone then d
    else openWindows (winExpired { w with expired := true } d)

/-- The open windows evaluated again after a freeze, those whose timer expired in it among them (R156), and once more where a Pier left
service in it. -/
def winsAgain (d : Dev) : Dev :=
  let e := winRejudge d
  let e := if (servicePiers e).length < (servicePiers d).length ∧ !modeIs e mSAFE then winRejudge e else e
  openWindows (forEach (e.ks.windows.filter fun w => !w.resolved && w.expired) (fun w d =>
    match winOf d w.cls w.cycle w.part with
    | none => d
    | some w => if w.resolved || modeIs d mSAFE then d else winExpired w d) e)

/-! ## Release order (R140, R141) -/

/-- The requests of a window: those of its cycle not yet closed, below the number its majority had posted. -/
def winReqs (d : Dev) (w : KsWindow) : List KsReq :=
  let n := ((bitsOf 3 w.majority).filterMap fun i => mget w.upto i).foldl max 0
  d.ks.reqs.filter fun r => r.cls == w.cls && r.cycle == w.cycle && !r.closed && decide (r.seq < n)
/-- The content that two copies of the majority agree on. -/
def reqMajority (w : KsWindow) (r : KsReq) : Option OutReq :=
  let l := (bitsOf 3 w.majority).filterMap fun i => mget r.copies i
  match l with
  | [a, b] => if a = b then some a else none
  | [a, b, c] => if a = b ∨ a = c then some a else if b = c then some b else none
  | _ => none
/-- A request taken into release order, or discarded with event 0x1040 and reason 0 (R140). -/
def reqQueue (w : KsWindow) (r : KsReq) (d : Dev) : Dev :=
  let m := reqMajority w r
  let close (x : KsReq) : KsReq := { x with closed := true, performed := m }
  let d := ksSet (fun k => { k with reqs := mapIf (fun x => x.cls == r.cls && x.cycle == r.cycle && x.seq == r.seq) close k.reqs }) d
  match m with
  | some q => ksSet (fun k => { k with releasing := k.releasing ++ [.req q w.part none none] }) d
  | none =>
    record Ev.REQUEST_DISCARDED [.q (winId w.cls w.cycle w.part), .q r.cycle, .w r.cls, .w r.seq, .w 0]
      (inc d Reg.KS_REQ_DISCARD_VERDICT)
/-- The windows whose release point has come and that no earlier window of their class precedes (R141). -/
def winReady (d : Dev) : List KsWindow :=
  d.ks.windows.filter fun w =>
    w.majority != 0 && !w.queued && !(d.ks.windows.any fun x =>
      x.cls == w.cls && !x.queued && (decide (x.cycle < w.cycle) || (x.cycle == w.cycle && decide (x.part < w.part))))
/-- The one with the earliest release point. -/
def winNext (d : Dev) : Option KsWindow :=
  (winReady d).foldl (fun m w => match m with
    | none => some w
    | some x => if w.point < x.point then some w else some x) none
/-- Windows put into release order, as many as are ready. -/
def winQueue : Nat → Dev → Dev
  | 0, d => d
  | n + 1, d =>
    match winNext d with
    | none => d
    | some w =>
      let d := forEach (winReqs d w) (reqQueue w) (winPut { w with queued := true } d)
      winQueue n (ksSet (fun k => { k with releasing := k.releasing ++ [.window w.cls w.cycle w.part w.final] }) d)
/-- Of the windows that are queued and resolved the last forty-eight are kept, with the requests of their cycles (DESIGN CHOICE, log 54). -/
def winPrune (d : Dev) : Dev :=
  let old := d.ks.windows.filter fun w => w.resolved && w.queued
  let drop := old.take (old.length - 48)
  ksSet (fun k => { k with windows := k.windows.filter (fun w => !drop.contains w)
                           reqs := k.reqs.filter fun r => !(r.closed && drop.any fun w => w.cls == r.cls && w.cycle == r.cycle) }) d
/-- Every window whose turn has come put into release order. -/
def winOrder (d : Dev) : Dev := winPrune (winQueue d.ks.windows.length d)

/-! ## Outbound requests (R120, R121, R123) -/

/-- Unreleased requests of a Pier. -/
def reqHeld (d : Dev) (p : Pier) : List KsReq := d.ks.reqs.filter fun r => !r.closed && (mget r.copies (pierIdx p)).isSome
/-- Whether a Pier's buffer takes another request: 1024 of them and 256 KiB (R123). -/
def reqRoom (d : Dev) (p : Pier) (q : OutReq) : Bool :=
  let l := reqHeld d p
  decide (l.length < 1024) &&
    decide ((l.map fun r => 32 + ((mget r.copies (pierIdx p)).map fun x => x.payload.length).getD 0).sum + 32 + q.payload.length ≤ 262144)
/-- A posted copy: matched by its key, a copy that differs from the performed request noted as minority (R120). -/
def reqPost (p : Pier) (q : OutReq) (d : Dev) : Dev :=
  let i := pierIdx p
  let same (r : KsReq) : Bool := r.cls == q.cls && r.cycle == q.cycle && r.seq == q.seq
  if !inService d p || !reqRoom d p q then d
  else match d.ks.reqs.find? same with
    | none => ksSet (fun k => { k with reqs := k.reqs ++ [⟨q.cls, q.cycle, q.seq, [(i, q)], none, false⟩] }) d
    | some r =>
      if (mget r.copies i).isSome then d
      else
        let two := r.copies.map (·.2)
        let standing := if r.closed then r.performed else match two with
          | [a, b] => if a = b then some a else none
          | _ => none
        let d := ksSet (fun k => { k with reqs := mapIf same (fun x => { x with copies := mput x.copies i q }) k.reqs }) d
        match standing with
        | none => d
        | some x =>
          if x = q then d
          else recordP Ev.OUTBOUND_MINORITY p [.q q.cycle, .w q.cls, .w q.seq, .w i] (inc d Reg.KS_MINORITY_COUNT_OUTBOUND)

end Sys2Proof.Machine
end

