-- ==== Sys2Proof/Machine/Agree.lean ====
section
/-!
DEFINITION. Input agreement (spec/04): the agreement rules of R108 and R109, tied time stamps (R115), minority counts
(R116), and the mailbox slot up to its closure (R110, R111).
-/
namespace Sys2Proof.Machine

/-- Agreement statuses of R109. -/
def asUNANIMOUS : Nat := 0
/-- MINORITY. -/
def asMINORITY : Nat := 1
/-- PAIR. -/
def asPAIR : Nat := 2
/-- NONE. -/
def asNONE : Nat := 3

/-! ## binary64 (R108) -/

/-- The exponent field of a binary64 pattern. -/
def fExp (v : Nat) : Nat := bitField v 52 11
/-- A NaN. -/
def fNan (v : Nat) : Bool := fExp v == 2047 && bitField v 0 52 != 0
/-- An infinity. -/
def fInf (v : Nat) : Bool := fExp v == 2047 && bitField v 0 52 == 0
/-- A finite value in units of 2^−1074. -/
def fVal (v : Nat) : Int :=
  let m : Nat := if fExp v = 0 then bitField v 0 52 else (2 ^ 52 + bitField v 0 52) * 2 ^ (fExp v - 1)
  if bitOf v 63 then -(m : Int) else m
/-- A magnitude in units of 2^−1074 rounded to 53 bits, to nearest and ties to even. -/
def fRound (x : Nat) : Nat :=
  if x < 2 ^ 53 then x
  else
    let s := Nat.log2 x - 52
    let q := x / 2 ^ s
    let r := x % 2 ^ s
    let up : Bool := decide (2 ^ (s - 1) < r) || (r == 2 ^ (s - 1) && q % 2 == 1)
    (q + b2n up) * 2 ^ s
/-- The first magnitude beyond the largest finite value. -/
def fLimit : Nat := 2 ^ 2098
/-- Two FLOAT contributions are within a tolerance (R108). -/
def fWithin (tol a b : Nat) : Bool :=
  a == b || (tol != 0 && !fNan a && !fNan b &&
    (fInf tol ||
      (!fInf a && !fInf b &&
        let x := fRound (fVal a - fVal b).natAbs
        decide (x < fLimit) && decide ((x : Int) ≤ fVal tol))))
/-- The place of a pattern in totalOrder. -/
def fOrder (v : Nat) : Int := if bitOf v 63 then -(bitField v 0 63 : Int) - 1 else (bitField v 0 63 : Int)

/-! ## Agreement of one item (R108, R109) -/

/-- A position item, compared modulo 2^32 over half range (R114). -/
def itemModular (it : ImgItem) : Bool :=
  match it.src with
  | .pos _ => true
  | _ => false
/-- A slice-sensed item: every source of the input map but a register (R114). -/
def itemSensed (it : ImgItem) : Bool :=
  match it.src with
  | .reg _ => false
  | _ => true
/-- The place of a pattern in the order of its kind; positions are taken relative to a reference pattern modulo 2^32. -/
def itemOrder (it : ImgItem) (ref v : Nat) : Int :=
  if itemModular it then toSigned 32 (v + 2 ^ 32 - trunc 32 ref)
  else if it.kind = 3 then toSigned 64 v else if it.kind = 4 then fOrder v else (v : Int)
/-- Two contributions within the tolerance of an item. -/
def itemWithin (it : ImgItem) (a b : Nat) : Bool :=
  if itemModular it then decide ((toSigned 32 (a + 2 ^ 32 - trunc 32 b)).natAbs ≤ it.tol)
  else if it.kind = 4 then fWithin it.tol a b
  else decide ((itemOrder it 0 a - itemOrder it 0 b).natAbs ≤ it.tol)
/-- The median of three. -/
def median3 (f : Nat → Int) (a b c : Nat) : Nat :=
  if (f a ≤ f b ∧ f b ≤ f c) ∨ (f c ≤ f b ∧ f b ≤ f a) then b
  else if (f b ≤ f a ∧ f a ≤ f c) ∨ (f c ≤ f a ∧ f a ≤ f b) then a else c
/-- The kinds that are numbers: UNSIGNED, SIGNED, FLOAT, TIME. -/
def isNumber (it : ImgItem) : Bool := it.kind == 2 || it.kind == 3 || it.kind == 4 || it.kind == 5
/-- The bitwise majority of three. -/
def bitMajority (a b c : Nat) : Nat := (a &&& b) ||| (a &&& c) ||| (b &&& c)

/-- Agreement of three contributions: value and status. -/
def agree3 (it : ImgItem) (a b c : Nat) : Nat × Nat :=
  if it.kind = 0 ∨ it.kind = 1 then (bitMajority a b c, if a = b ∧ b = c then asUNANIMOUS else asMINORITY)
  else if isNumber it then
    let m := median3 (itemOrder it a) a b c
    let out := ([a, b, c].filter fun v => !itemWithin it v m).length
    (m, if out = 0 then asUNANIMOUS else if out = 1 then asMINORITY else asNONE)
  else if a = b ∧ b = c then (a, asUNANIMOUS)
  else if a = b ∨ a = c then (a, asMINORITY)
  else if b = c then (b, asMINORITY)
  else (it.dflt, asNONE)
/-- Agreement of two contributions. -/
def agree2 (it : ImgItem) (a b : Nat) : Nat × Nat :=
  if it.kind = 0 ∨ it.kind = 1 then
    (if it.high then a ||| b else a &&& b, if a = b then asPAIR else asNONE)
  else if it.kind = 5 then (min a b, if itemWithin it a b then asPAIR else asNONE)
  else if isNumber it then
    if itemWithin it a b then
      let low := if itemOrder it a a ≤ itemOrder it a b then a else b
      let top := if itemOrder it a a ≤ itemOrder it a b then b else a
      (if it.high then top else low, asPAIR)
    else (it.dflt, asNONE)
  else if a = b then (a, asPAIR) else (it.dflt, asNONE)
/-- Agreement of the contributions that count for an item; `prev` is the previous agreed value. -/
def agreeItem (it : ImgItem) (prev : Nat) (vals : List Nat) : Nat × Nat :=
  match vals with
  | [a, b, c] => agree3 it a b c
  | [a, b] => agree2 it a b
  | [a] => (a, asNONE)
  | _ => (prev, asNONE)

/-- The Piers in the minority of an item whose status is MINORITY (R116); of a BITS item two may differ at once. -/
def minorityPiers (it : ImgItem) (value : Nat) (vals : List (Nat × Nat)) : List Nat :=
  (vals.filter fun e => if isNumber it then !itemWithin it e.2 value else e.2 != value).map (·.1)

/-- The contributions to item `i` that count: of a tied TIME item only those of Piers with an edge whose own sample of the
input agrees with its agreed value (R115). -/
def itemVals (it : ImgItem) (i : Nat) (done : List (Nat × Nat)) (l : List (Nat × MbPost)) : List (Nat × Nat) :=
  l.filterMap fun e =>
    let own := e.2.items.getD i (false, 0)
    match it.tie with
    | none => some (e.1, own.2)
    | some (k, b) =>
      if own.1 && bitOf (e.2.items.getD k (true, 0)).2 b == bitOf (done.getD k (0, 0)).1 b then some (e.1, own.2) else none

/-- The minority count of a Pier for item `key` after a cycle in which it lay in the minority or not; event 0x1101 at the limit
(R116). -/
def minorityCount (key limit : Nat) (i : Nat) (items : List Item) (odd : List Nat) (p : Nat) (d : Dev) : Dev :=
  let put (n : Nat) (d : Dev) : Dev :=
    ksSet (fun k => { k with minority := if n = 0 then mdel k.minority (key * 4 + p) else mput k.minority (key * 4 + p) n }) d
  let n := mgetD d.ks.minority (key * 4 + p) 0 + 1
  if p ∉ odd then put 0 d
  else if limit ≤ n then recordP Ev.INPUT_MINORITY (pierOf p) ([.w i, .w p] ++ items) (put 0 d) else put n d
/-- One item agreed, the minority counts of a slice-sensed one kept, events 0x1101 and 0x1102; the events name it by its index in the map of
the class (R116; DESIGN CHOICE, log 151). -/
def itemAgree (cls i : Nat) (it : ImgItem) (prev : Nat) (l : List (Nat × MbPost)) (done : List (Nat × Nat)) (d : Dev) :
    (Nat × Nat) × Dev :=
  let vals := itemVals it i done l
  let r := agreeItem it prev (vals.map (·.2))
  let key := cls * 4096 + i
  let qs := vals.map fun e => Item.q e.2
  let odd := if r.2 = asMINORITY then minorityPiers it r.1 vals else []
  let d := if itemSensed it then forEach [0, 1, 2] (minorityCount key it.limit i qs odd) d else d
  let d := if r.2 = asNONE then recordOnce Ev.INPUT_NONE key ([.w i] ++ qs) d else d
  (r, d)
/-- Every item of a class agreed, in map order. -/
def itemsAgree (cls : Nat) (l : List (Nat × MbPost)) (prev : List (Nat × Nat)) :
    List ImgItem → Nat → List (Nat × Nat) → Dev → List (Nat × Nat) × Dev
  | [], _, done, d => (done, d)
  | it :: r, i, done, d =>
    let x := itemAgree cls i it (prev.getD i (it.dflt, 0)).1 l done d
    itemsAgree cls l prev r (i + 1) (done ++ [x.1]) x.2
/-- The agreed inputs of a class from a release (R112). -/
def inputsAgree (cls : Nat) (l : List (Nat × MbPost)) (d : Dev) : Dev :=
  let r := itemsAgree cls l (mgetD d.ks.agreed cls []) (imgClass d cls).items 0 [] d
  ksSet (fun k => { k with agreed := mput k.agreed cls r.1 }) r.2

/-! ## Mailbox slots (R110, R111) -/

/-- The header of a contribution as the Keystone compares it. -/
def headerOf (c : MbPost) : Nat × Nat × Nat × Nat × Nat × Bool := (c.cycle, c.generation, c.mapId, c.cls, c.count, c.reread)
/-- The contributions of a slot that are present: those whose header another one shares (R110 step 4). -/
def slotPresent (s : MbSlot) : List (Nat × MbPost) :=
  s.posts.filter fun e => s.posts.any fun x => x.1 != e.1 && headerOf x.2 == headerOf e.2
/-- The slot of a class removed and its cycle noted as closed. -/
def slotClose (cls : Nat) (s : MbSlot) (d : Dev) : Dev :=
  ksSet (fun k => { k with slots := mdel k.slots cls
                           closedSlots := ((cls, s.cycle) :: k.closedSlots).take 64 }) d
/-- The Piers of a first exchange that are absent have missed the skew bound of the cycle's windows (R111). -/
def slotAbsent (cls : Nat) (s : MbSlot) (present : List (Nat × MbPost)) (d : Dev) : Dev :=
  let gone := (bitsOf 3 s.expect).filter fun i => !(present.any fun e => e.1 == i)
  ksSet (fun k => { k with missed := ((gone.map fun i => (cls, s.cycle, i)) ++ k.missed).take 64 }) d
/-- A Pier that reports a local error is isolated at once (R137). -/
def pierError (p : Pier) (d : Dev) : Dev :=
  if inService d p then
    let win := (d.ks.windows.find? fun w => !w.resolved).map fun w => (w.cls, w.cycle, w.part)
    let d := pierName 4 p win 0 d
    if modeIs d mSAFE then d else winRejudge d
  else d

end Sys2Proof.Machine
end

