-- ==== Sys2Proof/Machine/Girder.lean ====
section
/-!
DEFINITION. What the Girder's commands do (spec/14).
-/
namespace Sys2Proof.Machine

/-- GRANT_RECEIVED: YB_GNT_N is sampled asserted and the address phase follows (R397). -/
def gbGrant (d : Dev) : Dev :=
  match d.gb.open_ with
  | none => d
  | some o => if o.granted then d else gbAddress o d

/-- GRANT_TIMEOUT: no grant within GRANT_TO_US, so the request fails with NO_GRANT; while YB_RST_N is asserted the
waiting request at the head fails so (R397, R412). -/
def gbGrantTimeout (d : Dev) : Dev :=
  match d.gb.open_ with
  | some o =>
    if o.granted then d
    else match o.reqs with
      | [] => gbIdle d
      | r :: rest =>
        gbIdle (gbReissue rest (gbFinish r gsNO_GRANT (if r.kind = 0 then r.data else 0) (gbOpenPut none d)))
  | none =>
    if flag d Reg.GB_STATUS_BP_RESET then
      match gbNext d with
      | none => d
      | some (r, q, u) => gbFinish r gsNO_GRANT (if r.kind = 0 then r.data else 0) (gbPutBack u q d)
    else d

/-- How a data phase ends: with the data of a read, with YB_ERR_N, or with read data of wrong parity (R397, R412). -/
def gbDataPhaseEnd (e : PhaseEnd) (d : Dev) : Dev :=
  match d.gb.open_ with
  | none => d
  | some o =>
    if !o.granted then d
    else match e with
      | .ready data => gbPhaseOk data d
      | .error => gbPhaseFail gsTARGET_ERR d
      | .parity => gbPhaseFail gsPARITY d

/-- DATA_PHASE_TIMEOUT: no ready or error within TIMEOUT_US (R412). -/
def gbDataTimeout (d : Dev) : Dev :=
  match d.gb.open_ with
  | none => d
  | some o => if o.granted then gbPhaseFail gsTIMEOUT d else d

/-- GRANT_WITHDRAWN: the current phase completes and the rest is issued again (R399, R411). -/
def gbGrantWithdrawn (d : Dev) : Dev :=
  match d.gb.open_ with
  | none => wrB d Reg.GB_STATUS_OWNER false
  | some o => gbOpenPut (some { o with withdrawn := true }) d

/-- BUS_OWNERSHIP_LIMIT: after 4 µs of ownership the bus is given up for two clocks (R399). -/
def gbOwnershipLimit (d : Dev) : Dev :=
  if d.gb.open_.isSome then gbSet (fun g => { g with release := true }) d else wrB d Reg.GB_STATUS_OWNER false

/-- BP_RESET: YB_RST_N is asserted; the open phase ends with BP_RESET and the lines are discarded (R412, R413). -/
def gbBpReset (d : Dev) : Dev :=
  if flag d Reg.GB_STATUS_BP_RESET then d
  else
    let d := gbSet (fun g => { g with bpSince := d.clk }) (wrB d Reg.GB_STATUS_BP_RESET true)
    linesDiscard (match d.gb.open_ with
      | none => d
      | some o => if o.granted then gbPhaseFail gsBP_RESET d else gbIdle (gbReissue o.reqs (gbOpenPut none d)))

/-- BP_RESET_RELEASED: YB_RST_N deasserts; event 0x7006 with the duration in µs (R412). -/
def gbBpReleased (d : Dev) : Dev :=
  if flag d Reg.GB_STATUS_BP_RESET then
    record Ev.GB_BP_RESET [.w ((d.clk - d.gb.bpSince) / 1000)] (wrB d Reg.GB_STATUS_BP_RESET false)
  else d

/-- The queued requests failed with NO_CLOCK. -/
def gbFailAll (l : List GbReq) (d : Dev) : Dev :=
  forEach l (fun r d => gbFinish r gsNO_CLOCK (if r.kind = 0 then r.data else 0) d) d
/-- BP_CLOCK_LOST: CLK_OK clears, open and queued requests fail with NO_CLOCK, event 0x7007 (R412). -/
def gbClockLost (d : Dev) : Dev :=
  if flag d Reg.GB_STATUS_CLK_OK then
    let l := d.gb.urgent ++ d.gb.queue
    let n := l.length + (match d.gb.open_ with
      | none => 0
      | some o => o.reqs.length)
    let d := gbKill gsNO_CLOCK (wrB d Reg.GB_STATUS_CLK_OK false)
    let d := gbFailAll l (gbQueue [] (gbSet (fun g => { g with urgent := [] }) d))
    record Ev.GB_CLOCK_LOST [.w n] d
  else d

/-- SNOOP_WRITE: a foreign write phase that ended with YB_RDY_N in an observed window is recorded, non-enabled bytes 0;
a full record overflows (R416). -/
def gbSnoopWrite (win off be data : Nat) (d : Dev) : Dev :=
  if flag d Reg.GB_CFG_SNOOP_EN && winMaps d win off && gbObserved d win off then
    if d.gb.snoop.length < 65536 then
      let v := winSwap d win be data &&& beMask be
      let d := gbSet (fun g => { g with snoop := g.snoop ++ [(gbTarget win off, v)] }) d
      incW (wr d Reg.GB_SNOOP_HELD d.gb.snoop.length) Reg.GB_SNOOP_CNT
    else if d.gb.snoopDead then d
    else record Ev.GB_SNOOP_OVERFLOW [.w d.gb.snoop.length]
      (gbSet (fun g => { g with snoopDead := true }) (wrB d Reg.GB_STATUS_SNOOP_OVF true))
  else d

/-- BP_INTERRUPT: the filtered level of YB_INT_N; its assertions are counted (R417). -/
def gbInterrupt (level : Bool) (d : Dev) : Dev :=
  let d' := wrB d Reg.GB_INT_LEVEL level
  if level && !flag d Reg.GB_INT_LEVEL then incW d' Reg.GB_INT_EDGES else d'

/-- DECK_WINDOW_ACCESS: the Deck controller's access enters the queue without a vote (R405); with the queue full it
waits, and the command changes nothing. -/
def gbDeckAccess (kind win off be data mask : Nat) (d : Dev) : Dev :=
  if gbRoom d then
    gbEnqueue { origin := .deck, kind := kind, win := win, off := off, be := be, data := data, mask := mask, single := false } d
  else d

/-- GIRDER_PAIR_HALT: the pins are released and an open transaction ends with ABORTED (R160, R412); one without a grant waits again. -/
def gbPairHalt (d : Dev) : Dev := gbKill gsABORTED (gbUnstart d)

end Sys2Proof.Machine
end

