-- ==== Sys2Proof/Machine/Position.lean ====
section
/-!
DEFINITION. What the position commands do (spec/09).
-/
namespace Sys2Proof.Machine

/-- Whether an edge of track A (or B) at a new level is counted in a mode (R260). -/
def ptCounted (mode : Nat) (trackA rising : Bool) : Bool :=
  if mode = 0 ∨ mode = 3 then trackA && rising else if mode = 1 then trackA else true
/-- Whether an edge counts upward: in SINGLE mode by SDIR, else from the quadrature, a forward turn meaning that track
A leads (DESIGN CHOICE, log 12); SIGN reverses it (R260, R261). -/
def ptUp (mode : Nat) (sdir sign trackA a b : Bool) : Bool :=
  let fwd := if mode = 3 then !sdir else if trackA then a != b else a == b
  fwd != sign

/-- A counted edge added to the moves of its reference. -/
def ptMove (p : Pier) (r : Nat) (up : Bool) (x : List (Nat × Bool × Nat) × Dev) : List (Nat × Bool × Nat) × Dev :=
  (x.1 ++ [(r, up, ptPos x.2 p r)], ptCount p r up x.2)
/-- A reference at an edge of its input: from filtered levels `a0 b0` to `a b`. -/
def ptEdge (p : Pier) (r : Nat) (a0 b0 a b : Bool) (x : List (Nat × Bool × Nat) × Dev) : List (Nat × Bool × Nat) × Dev :=
  let d := x.2
  let s := sl p
  let mode := rd d (Reg.PT_REF_CFG_MODE s r)
  let sdir := flag d (Reg.PT_REF_CFG_SDIR s r)
  let sign := flag d (Reg.PT_REF_CFG_SIGN s r)
  if mode ≠ 3 ∧ a0 ≠ a ∧ b0 ≠ b then
    let d := inc d (Reg.PT_REF_STAT_QERR s r)
    (x.1, recordOnceP Ev.QUAD_ERROR (pierIdx p * 4 + r) p [.w r, .w (rd d (Reg.PT_REF_STAT_QERR s r))] d)
  else if a0 ≠ a then
    if ptCounted mode true a then ptMove p r (ptUp mode sdir sign true a b) x else x
  else if b0 ≠ b then
    if mode ≠ 3 ∧ ptCounted mode false b then ptMove p r (ptUp mode sdir sign false a b) x else x
  else x

/-- The levels of a reference that have passed its filter: bit 0 track A, bit 1 track B (R262). -/
def refLevel (d : Dev) (p : Pier) (r : Nat) : Nat := mgetD (triGet d.pt p).level r 0
/-- The level of a track of the input that a reference selects. -/
def trackOf (d : Dev) (p : Pier) (r i : Nat) : Bool := bitOf (triGet d.pt p).tracks (2 * rd d (Reg.PT_REF_CFG_SOURCE (sl p) r) + i)
/-- The module clock at the last change of a track of that input. -/
def trackSince (d : Dev) (p : Pier) (r i : Nat) : Nat := mgetD (triGet d.pt p).since (2 * rd d (Reg.PT_REF_CFG_SOURCE (sl p) r) + i) 0
/-- A track whose new level has been stable for FILT × 20 ns (R262). -/
def trackPasses (d : Dev) (p : Pier) (r i : Nat) : Bool :=
  trackOf d p r i != bitOf (refLevel d p r) i && decide (trackSince d p r i + 20 * rd d (Reg.PT_REF_CFG_FILT (sl p) r) ≤ d.clk)
/-- The earliest edge of a reference that has passed its filter, both tracks where they changed in one sample. -/
def refStep (p : Pier) (r : Nat) (x : List (Nat × Bool × Nat) × Dev) : List (Nat × Bool × Nat) × Dev :=
  let d := x.2
  let pa := trackPasses d p r 0
  let pb := trackPasses d p r 1
  let takeA := pa && (!pb || decide (trackSince d p r 0 ≤ trackSince d p r 1))
  let takeB := pb && (!pa || decide (trackSince d p r 1 ≤ trackSince d p r 0))
  if !takeA && !takeB then x
  else
    let l := refLevel d p r
    let a := if takeA then trackOf d p r 0 else bitOf l 0
    let b := if takeB then trackOf d p r 1 else bitOf l 1
    ptEdge p r (bitOf l 0) (bitOf l 1) a b (x.1, ptSet p (fun s => { s with level := mput s.level r (b2n a + 2 * b2n b) }) d)
/-- One edge of every enabled reference that `sel` takes, then the triggers it makes hit. -/
def refsStep (p : Pier) (sel : Nat → Bool) (d : Dev) : Dev :=
  let mine := (List.range 4).filter fun r => flag d (Reg.PT_REF_CFG_EN (sl p) r) && sel r
  let x := mine.foldl (fun x r => refStep p r x) ([], d)
  hitsAt p x.1 x.2
/-- What has passed the filters by now, in every slice. A held edge is looked at again at TIME_REALIGN and TICK (DESIGN CHOICE, log 167). -/
def filtersPass (d : Dev) : Dev := forEach allPiers (fun p d => refsStep p (fun _ => true) (refsStep p (fun _ => true) d)) d
/-- The filter of a reference starts from the levels that its input has now. -/
def refFollow (p : Pier) (r : Nat) (d : Dev) : Dev :=
  ptSet p (fun s => { s with level := mput s.level r (b2n (trackOf d p r 0) + 2 * b2n (trackOf d p r 1)) }) d

/-- SPEED_EDGE: the tracks of a speed input take new levels in a slice, and every enabled reference that selects the input and whose filter
lets them pass counts or reports a quadrature error (R260 to R262). -/
def speedEdge (p : Pier) (sp : Nat) (a b : Bool) (d : Dev) : Dev :=
  let t := (triGet d.pt p).tracks
  let a0 := bitOf t (2 * sp)
  let b0 := bitOf t (2 * sp + 1)
  let mark (i : Nat) (changed : Bool) (m : NMap Nat) : NMap Nat := if changed then mput m (2 * sp + i) d.clk else m
  let d := ptSet p (fun s => { s with tracks := bitPut (bitPut s.tracks (2 * sp) a) (2 * sp + 1) b
                                      since := mark 1 (b0 != b) (mark 0 (a0 != a) s.since)
                                      pulses := if !a0 && a then mput s.pulses sp (mgetD s.pulses sp 0 + 1) else s.pulses }) d
  refsStep p (fun r => rd d (Reg.PT_REF_CFG_SOURCE (sl p) r) == sp) d

/-- STANDSTILL_TIMEOUT: no counted edge for STILL_MS; DIR stays UNKNOWN before the first edge (R262). -/
def standstill (p : Pier) (r : Nat) (d : Dev) : Dev :=
  if rd d (Reg.PT_REF_STAT_DIR (sl p) r) = 3 then d else wr d (Reg.PT_REF_STAT_DIR (sl p) r) 2

/-- TRIGGER_ARM: a write of ARM 1 with its fields (R265). ACTION 4 to 7 and DIR 3 refuse the write with WREJ, which shows in PT_REF_STAT_0 for
a trigger and in PT_REF_STAT_r for reference r (DESIGN CHOICE, logs 165 and 166). -/
def triggerArm (p : Pier) (k : Nat) (ifPassed : Bool) (dir ref action out : Nat) (d : Dev) : Dev :=
  let s := sl p
  if 3 < action ∨ 2 < dir then wrB d (Reg.PT_REF_STAT_WREJ s 0) true
  else
    let d := signalsDrop p k (ptUnconf k d)
    let d := wr (wrB d (Reg.PT_TRIG_CTL_IF_PASSED s k) ifPassed) (Reg.PT_TRIG_CTL_DIR s k) dir
    let d := wr (wr d (Reg.PT_TRIG_CTL_REF s k) ref) (Reg.PT_TRIG_CTL_ACTION s k) action
    let d := wrB (wr d (Reg.PT_TRIG_CTL_OUTPUT s k) out) (Reg.PT_TRIG_CTL_ARM s k) true
    let d := incW d (Reg.PT_TRIG_CTL_ARM_SEQ s k)
    let d := ptSet p (fun x => { x with target := mput x.target k (rd d (Reg.PT_TRIG_TGT s k)) }) d
    trigJudge p k (trigState p k 1 d)

/-- TRIGGER_DISARM: a write of ARM 0 returns the trigger to IDLE and releases its leg (R265). -/
def triggerDisarm (p : Pier) (k : Nat) (d : Dev) : Dev := trigDisarm p k (signalsDrop p k (ptUnconf k d))

/-- SCALE_WRITE: a SCALE other than 0 takes effect at the next counted edge; 0 is refused with WREJ (R263). -/
def scaleWrite (p : Pier) (r v : Nat) (d : Dev) : Dev :=
  if v = 0 then wrB d (Reg.PT_REF_STAT_WREJ (sl p) r) true else wr d (Reg.PT_REF_SCALE (sl p) r) v

/-- REF_CFG_WRITE: the reference is set; a FILT above 500 or a STILL_MS outside 1 to 10,000 keeps the old value and
sets WREJ (R262). -/
def refCfgWrite (p : Pier) (r : Nat) (en sign : Bool) (mode source : Nat) (sdir : Bool) (filt still : Nat) (d : Dev) : Dev :=
  let s := sl p
  let d := wrB (wrB d (Reg.PT_REF_CFG_EN s r) en) (Reg.PT_REF_CFG_SIGN s r) sign
  let d := wr (wr d (Reg.PT_REF_CFG_MODE s r) mode) (Reg.PT_REF_CFG_SOURCE s r) source
  let d := wrB d (Reg.PT_REF_CFG_SDIR s r) sdir
  let d := refFollow p r d
  let d := if filt ≤ 500 then wr d (Reg.PT_REF_CFG_FILT s r) filt else wrB d (Reg.PT_REF_STAT_WREJ s r) true
  if 1 ≤ still ∧ still ≤ 10000 then wr d (Reg.PT_REF_CFG_STILL_MS s r) still else wrB d (Reg.PT_REF_STAT_WREJ s r) true

/-- REBASE_GO: a re-base is scheduled, or refused with REJ where its tick is not ahead (R273). -/
def rebaseGo (p : Pier) (shift : Bool) (ref : Nat) (d : Dev) : Dev :=
  let s := sl p
  let d := wr (wrB d (Reg.PT_REBASE_CTL_SHIFT s) shift) (Reg.PT_REBASE_CTL_REF s) ref
  if posDiff (rd d (Reg.PT_REBASE_TICK s)) (rd d Reg.CYC_TICK) ≤ 0 then
    wrB (wrB d (Reg.PT_REBASE_CTL_GO s) false) (Reg.PT_REBASE_CTL_REJ s) true
  else wrB d (Reg.PT_REBASE_CTL_GO s) true

/-- A confirmed hit that is not launched: counted, event 0x3106 with trigger and reason (R270). -/
def posDropped (k reason : Nat) (d : Dev) : Dev :=
  record Ev.POS_LAUNCH_DROPPED [.w k, .w reason] (inc d Reg.PT_LAUNCH_CNT_DROPPED)
/-- The staged frame of a confirmed hit launched, or dropped for want of a frame (0), a lease (1) or RUN (2) (R270). -/
def posLaunch (k : Nat) (d : Dev) : Dev :=
  match mget d.staged k with
  | none => posDropped k 0 d
  | some f =>
    if !leaseHeld d then posDropped k 1 d
    else if !inRun d then posDropped k 2 d
    else inc (emit (.posFrame k f) { d with staged := mdel d.staged k }) Reg.PT_LAUNCH_CNT_LAUNCHED

/-- POS_HIT_REPORT: the LAUNCH hit that a slice has signalled under trigger and ARM_SEQ arrives; the second slice in service confirms it, and
one of an isolated slice is not counted (R144, R267, R270). -/
def posHitReport (p : Pier) (k seq : Nat) (d : Dev) : Dev :=
  let key := k * 16 + seq
  if key ∉ (triGet d.pt p).signals then d
  else
    let d := ptSet p (fun s => { s with signals := s.signals.erase key }) d
    if !inService d p || isolated d p then d
    else
      let m := bitSet (mgetD d.io.ptHits key 0) (pierIdx p)
      let votes := ((votingPiers d).filter fun q => bitOf m (pierIdx q)).length
      let fire := decide (2 ≤ votes) && !bitOf m 3
      let d := { d with io := { d.io with ptHits := mput d.io.ptHits key (if fire then bitSet m 3 else m) } }
      let d := wr d Reg.PT_STATUS_PENDING (d.io.ptHits.filter fun e => !bitOf e.2 3).length
      if fire then posLaunch k d else d

end Sys2Proof.Machine
end

