-- ==== Sys2Proof/Machine/Recovery.lean ====
section
/-!
DEFINITION. Start marks and fault reports (R26, R105), the resynchronisation of an odd Pier (R145 to R153), faults of the
Keystone halves (R155 to R158) and of lockstep pairs (R159 to R161).
-/
namespace Sys2Proof.Machine

/-! ## Start marks and fault reports -/

/-- START_MARK: the mark of a Pier at a time in units of 2.5 ns from the due tick; the mutual skew of the class cycle follows, and a
mark more than 2 µs after the earliest one records event 0x1104 (R105). -/
def startMark (p : Pier) (c n t : Nat) (d : Dev) : Dev :=
  match runOf d c n with
  | none => d
  | some r =>
    if (mget r.marks (pierIdx p)).isSome || !inService d p then d
    else
      let marks := mput r.marks (pierIdx p) t
      let first := marks.foldl (fun m e => min m e.2) t
      let last := marks.foldl (fun m e => max m e.2) t
      let d := runSet c n (fun x => { x with marks := marks }) d
      let d := maxTo (wrSat d (Reg.KS_START_SKEW_LAST c) (last - first)) (Reg.KS_START_SKEW_MAX c) (last - first)
      if first + 800 < t then recordP Ev.START_SKEW p [.w c, .q n, .w (pierIdx p), .w (t - first)] d else d

/-- The same fault of the same segment and cycle. -/
def sameFault (a b : FaultReport) : Bool := a.segment == b.segment && a.cycle == b.cycle && a.kind == b.kind && a.addr == b.addr
/-- SYNC_FAULT: a Pier's report of a segment's fault (R26). A trap under the determinism rules records event 0x1105 with segment,
core, cycle and address (R103); the second Pier with the same report shows a fault of the program: SAFE with the segment as
DETAIL (R92). The outputs of the segment end with the report (R26, R125). -/
def syncFault (p : Pier) (seg cycle kind addr core : Nat) (trap : Bool) (d : Dev) : Dev :=
  let r : FaultReport := ⟨pierIdx p, seg, cycle, kind, addr⟩
  if !inService d p then d
  else
    let d := if trap then recordP Ev.DETERMINISM_TRAP p [.w seg, .w core, .q cycle, .q addr] d else d
    let two := d.ks.faults.any fun x => x.pier != pierIdx p && sameFault x r
    let d := ksSet (fun k => { k with faults := (r :: k.faults).take 64 }) d
    let d := prSet p (fun u => { u with faulted := ((seg, cycle, kind, addr) :: u.faulted).take 64 }) d
    if two then safeEnter scPROGRAM_FAULT seg d else d

/-! ## The Keystone halves (R155 to R158) -/

/-- Halves diagnosed broken, as a bit mask: SAFE with cause KS_HALF (R155). -/
def halfBroken (m : Nat) (d : Dev) : Dev :=
  let d := forEach (bitsOf 2 m) (fun h d => clrBitF (wrB d (Reg.KS_HALF_BROKEN h) true) Reg.KS_STATUS_HALF_OK h) d
  safeEnter scKS_HALF m d
/-- A transient of the halves of a mask, with event 0x1022; the third within an operating hour diagnoses a half broken
(R155, R156, R158). -/
def halfTransient (m : Nat) (d : Dev) : Dev :=
  let d := forEach (bitsOf 2 m) (fun h d =>
    let d := stampAdd (3 + h) d
    wr d (Reg.KS_HALF_TRANSIENTS h) (hourStamps d (3 + h)).length) d
  let worst := ((bitsOf 2 m).map fun h => (hourStamps d (3 + h)).length).foldl max 0
  let third := maskOf ((bitsOf 2 m).filter fun h => 3 ≤ (hourStamps d (3 + h)).length)
  let d := recordSev (if third = 0 then sevOf Ev.KS_TRANSIENT else 4) Ev.KS_TRANSIENT 3 [.w m, .w worst] d
  if third = 0 then d else halfBroken third d
/-- The halves differ: releases freeze and both run the self-test (R155, R156). `what` is 0 verdict, 1 token, 2 mailbox CRC. -/
def halvesDisagree (what : Nat) (d : Dev) : Dev :=
  if flag d Reg.KS_STATUS_FROZEN then d
  else
    let d := record Ev.KS_HALF_DISAGREE [.w what] (inc d Reg.KS_HALF_DISAGREE_COUNT)
    wrB (wrB (wrB d Reg.KS_STATUS_FROZEN true) (Reg.KS_HALF_SELFTEST_RUN 0) true) (Reg.KS_HALF_SELFTEST_RUN 1) true

/-- KS_STAGE_PARITY: a stage entry of half `h` for a Pier fails parity: a transient and event 0x1020; the repost failing again, or
missing, diagnoses the half broken (R155). -/
def stageParity (h : Nat) (p : Pier) (again : Bool) (d : Dev) : Dev :=
  let d := inc d (Reg.KS_HALF_PARITY h)
  if again then halfBroken (2 ^ h) d
  else halfTransient (2 ^ h) (recordP Ev.KS_STAGE_PARITY p [.w h, .w (pierIdx p)] d)

/-- The cycles whose final window is not resolved get the time of the freeze added to D (R193). -/
def freezeExtra (dur : Nat) (d : Dev) : Dev :=
  let open_ (r : CycleRun) : Bool := !(d.ks.windows.any fun w => w.cls == r.cls && w.cycle == r.cycle && w.final && w.resolved)
  cycSet (fun x => { x with runs := mapIf (fun r => !r.released && open_ r) (fun r => { r with extra := r.extra + dur }) x.runs }) d
/-- The release tokens of what waits in release order, issued anew after a freeze. -/
def tokensAgain (d : Dev) : Dev :=
  ksSet (fun k => { k with releasing := k.releasing.map fun x => match x with
    | .req q part _ _ => .req q part none none
    | x => x }) d
/-- KS_SELFTEST_DONE: the self-test after a disagreement ends with a result for each half after `dur` units of 2.5 ns; where both
pass, the signatures are reposted and `agree` says whether the halves now agree (R156). -/
def selftestDone (pass1 pass2 : Bool) (dur : Nat) (agree : Bool) (d : Dev) : Dev :=
  if !flag d Reg.KS_STATUS_FROZEN then d
  else
    let d := wrB (wrB d (Reg.KS_HALF_SELFTEST_RUN 0) false) (Reg.KS_HALF_SELFTEST_RUN 1) false
    let d := wrB (wrB d (Reg.KS_HALF_SELFTEST_PASS 0) pass1) (Reg.KS_HALF_SELFTEST_PASS 1) pass2
    if pass1 && pass2 then
      let d := halfTransient 3 (freezeExtra dur d)
      if agree then winsAgain (tokensAgain (wrB d Reg.KS_STATUS_FROZEN false)) else halfBroken 3 d
    else halfBroken (b2n (!pass1) + 2 * b2n (!pass2)) d

/-- KS_ONLINE_TEST: both halves evaluate the verdict cases; a failure of a half with the number of its case records event 0x1023
and diagnoses the half broken (R157). -/
def onlineTest (fail1 fail2 : Option Nat) (d : Dev) : Dev :=
  let one (h : Nat) (f : Option Nat) (d : Dev) : Dev := match f with
    | none => wrB d (Reg.KS_HALF_ONLINE_OK h) true
    | some k => record Ev.KS_ONLINE_FAIL [.w h, .w k] (wrB d (Reg.KS_HALF_ONLINE_OK h) false)
  let d := one 1 fail2 (one 0 fail1 d)
  if fail1.isNone && fail2.isNone then incW d Reg.KS_ONLINE_COUNT else halfBroken (b2n fail1.isSome + 2 * b2n fail2.isSome) d

/-! ## Resynchronisation (R145 to R153) -/

/-- The phase of the resynchronisation in progress, 0 for none. -/
def resyncPh (d : Dev) : Nat := rd d Reg.KS_STATUS_RESYNC_PHASE
/-- The odd Pier of the resynchronisation in progress. -/
def resyncTarget (d : Dev) : Option Pier := d.ks.odd.map pierOf
/-- The HM_LIVE bits of a Pier: die temperature, core rail, SDRAM rail (R67). -/
def pierHealth (d : Dev) (p : Pier) : Bool :=
  let i := pierIdx p
  bitF d Reg.HM_LIVE_TEMP i || bitF d Reg.HM_LIVE_VOLT (1 + i) || bitF d Reg.HM_LIVE_VOLT (7 + i)
/-- The donor of an attempt: the preferred Pier in service, else the first one (R147). -/
def resyncDonor (d : Dev) : Option Pier :=
  let pref := rd d Reg.KS_CFG_DONOR_PREF
  if pref ≠ 0 ∧ inService d (pierOf (pref - 1)) then some (pierOf (pref - 1)) else (servicePiers d).head?
/-- The milliseconds since the isolation. -/
def resyncMs (d : Dev) : Nat := (d.clk - d.ks.since) / msec
/-- The resynchronisation over, with a result. -/
def resyncOver (result : Nat) (d : Dev) : Dev :=
  let d := wr (wr (resyncPhase 0 d) Reg.KS_RESYNC_STATUS_RESULT result) Reg.KS_RESYNC_TIME (resyncMs d)
  ksSet (fun k => { k with odd := none }) d
/-- The odd Pier taken out of service, which ends the resynchronisation with a result. -/
def resyncOut (p : Pier) (result reason : Nat) (d : Dev) : Dev := pierOut p reason (resyncOver result d)

/-- RESYNC_START: an isolated Pier's resynchronisation starts, or waits while a health bit of the Pier is set (R145, R67), also after SAFE or
STANDBY ended an earlier one; in RETRY_WAIT see `retryEnd`. -/
def resyncStart (d : Dev) : Dev :=
  match resyncTarget d, resyncDonor d with
  | some p, some o =>
    let d := if resyncPh d = 0 then ksSet (fun k => { k with attemptAt := d.clk }) d else d
    if resyncPh d ≤ 2 ∧ flag d Reg.KS_CFG_RESYNC_EN ∧ !bitOf d.ks.outOfService (pierIdx p) ∧
        (inRun d ∨ modeIs d mSTOP ∨ modeIs d mHOLD) then
      if pierHealth d p then resyncPhase 2 d
      else
        let d := incBy (wr (resyncPhase 3 d) Reg.KS_RESYNC_STATUS_DONOR (pierIdx o)) Reg.KS_RESYNC_STATUS_ATTEMPT 1
        let d := wr (wr (wr d Reg.KS_RESYNC_COPIED 0) Reg.KS_RESYNC_STATUS_PASS 0) Reg.KS_RESYNC_DIRTY_PAGES 0
        let d := ksSet (fun k => { k with copied := 0, passBytes := 0, badPasses := 0 }) d
        recordP Ev.RESYNC_START p [.w (pierIdx p), .w (pierIdx o), .w (rd d Reg.KS_RESYNC_STATUS_ATTEMPT)] d
    else d
  | _, _ => d

/-- RESYNC_HEALTH_WAIT_EXPIRY: a health bit is still set after 10 s (R145). -/
def healthWaitExpiry (d : Dev) : Dev :=
  match resyncTarget d with
  | none => d
  | some p => if resyncPh d = 2 ∧ pierHealth d p then resyncOut p 8 3 d else d

/-- RESYNC_SELFTEST_DONE: the odd Pier's self-test ends; a failure in a block takes it out of service with event 0x1013 (R146). -/
def resyncSelftest (fail : Option Nat) (d : Dev) : Dev :=
  match resyncTarget d with
  | none => d
  | some p =>
    if resyncPh d ≠ 3 then d
    else match fail with
      | none => resyncPhase 4 d
      | some block => resyncOut p 2 2 (recordP Ev.PIER_SELFTEST_FAIL p [.w (pierIdx p), .w block] d)

/-- The donor of the attempt in progress. -/
def donorNow (d : Dev) : Pier := pierOf (rd d Reg.KS_RESYNC_STATUS_DONOR)
/-- The marks of the donor's pages cleared as their copy begins (R149). -/
def donorClear (d : Dev) : Dev := prSet (donorNow d) (fun u => { u with dirty := [] }) d
/-- Pages of stacks, heap and runtime data, which no segment's stores show, marked as the donor's Pier has written them (R149). -/
def writtenMark (pages : List Nat) (d : Dev) : Dev := prSet (donorNow d) (fun u => pages.foldl pageMark u) d
/-- RESYNC_CODE_CHECK_DONE: every block of code and constants is checked; those that differ from the image, by a store or `upset` by a fault,
or that hold an uncorrectable ECC error, join the copy list; pass 1 begins, over them and all writable state (R146, R149). -/
def codeCheckDone (upset ecc : List Nat) (d : Dev) : Dev :=
  match resyncTarget d with
  | none => d
  | some p =>
    if resyncPh d ≠ 4 then d
    else
      let n := ceilDiv d.img.codeBytes 1048576
      let bad := blocksDiffer d.img d.store.consts (triGet d.prs p)
      let joined := (List.range n).filter fun b => bad.contains b || upset.contains b || ecc.contains b
      let d := wrSat (wrSat d Reg.KS_RESYNC_BLOCKS_CHECKED n) Reg.KS_RESYNC_BLOCKS_COPIED joined.length
      let left := d.img.stateBytes + 1048576 * joined.length
      let d := ksSet (fun k => { k with copyList := joined, passPages := [], passBytes := 0, passLeft := left }) d
      wr (resyncPhase 5 (donorClear d)) Reg.KS_RESYNC_STATUS_PASS 1

/-- Bytes copied in the attempt and the pass. -/
def copyBytes (n : Nat) (d : Dev) : Dev :=
  let d := ksSet (fun k => { k with copied := k.copied + n, passBytes := k.passBytes + n, passLeft := k.passLeft - n }) d
  wr d Reg.KS_RESYNC_COPIED (d.ks.copied / 1024)
/-- An attempt aborted with a result and event 0x1012; the third abort of one isolation takes the Pier out of service (R151). -/
def resyncAbort (result : Nat) (d : Dev) : Dev :=
  match resyncTarget d with
  | none => d
  | some p =>
    let d := wr (wr d Reg.KS_RESYNC_STATUS_RESULT result) Reg.KS_RESYNC_TIME (resyncMs d)
    let d := recordP Ev.RESYNC_ABORT p [.w (pierIdx p), .w result] (ksSet (fun k => { k with aborts := k.aborts + 1 }) d)
    if 3 ≤ d.ks.aborts then resyncOut p 7 4 d else resyncPhase 9 d

/-- RESYNC_COPY_TICK: of the donor's slack in the previous tick (the whole tick in STOP and HOLD) COPY_SHARE per cent may be used at
4 B per ns, for at most what is left of the pass (R148); `ecc` is an uncorrectable error that the odd Pier reports, in any phase of the
attempt (R151). -/
def copyTick (slack : Nat) (written : List Nat) (ecc : Bool) (d : Dev) : Dev :=
  if ecc ∧ 3 ≤ resyncPh d ∧ resyncPh d ≤ 7 then resyncAbort 6 d
  else if resyncPh d ≠ 5 then d
  else
    let d := writtenMark written d
    let s := if modeIs d mSTOP || modeIs d mHOLD then 125000 else min slack 125000
    copyBytes (min d.ks.passLeft (s * rd d Reg.KS_RESYNC_CFG_COPY_SHARE / 100 * 4)) d

/-- A further pass begins, over the pages written during the last one (R149); blocks of code that have joined since are left to it. -/
def nextPass (blocks : Nat) (d : Dev) : Dev :=
  let pages := (triGet d.prs (donorNow d)).dirty
  let d := ksSet (fun k => { k with passBytes := 0, passPages := pages, passLeft := 4096 * pages.length + 1048576 * blocks }) (donorClear d)
  incBy (resyncPhase 5 d) Reg.KS_RESYNC_STATUS_PASS 1
/-- What a pass has copied stands in the odd Pier's memory: all writable state in pass 1, later the pages of the pass, and the blocks on the
copy list (R149). -/
def passCopy (p : Pier) (d : Dev) : Dev :=
  let o := triGet d.prs (donorNow d)
  let only (c : Host.Cell) : Bool := inCode d.img c.1 && d.ks.copyList.contains (codeBlock d.img c.1)
  let blocks (t : PierUnit) : PierUnit :=
    { t with mem := (o.mem.filter only).foldl (fun m c => mput m c.1 c.2) (t.mem.filter fun c => !only c) }
  if rd d Reg.KS_RESYNC_STATUS_PASS = 1 then prSet p (stateCopy d.img d.ks.copyList o) d
  else prSet p (fun t => blocks (pagesCopy d.ks.passPages o t)) d
/-- RESYNC_PASS_END, once all of the pass is copied: with no more than FINAL_PAGES dirty pages a gap is waited for; the third pass in a row
that leaves more than half of what it copied dirty aborts the attempt; else a further pass begins (R149 to R151). -/
def passEnd (written : List Nat) (d : Dev) : Dev :=
  match resyncTarget d with
  | none => d
  | some p =>
    if resyncPh d ≠ 5 ∨ d.ks.passLeft ≠ 0 then d
    else
      let d := passCopy p (writtenMark written d)
      let dirty := (triGet d.prs (donorNow d)).dirty.length
      let bad := if ceilDiv d.ks.passBytes 4096 < 2 * dirty then d.ks.badPasses + 1 else 0
      let d := wrSat (ksSet (fun k => { k with badPasses := bad, pages := dirty }) d) Reg.KS_RESYNC_DIRTY_PAGES dirty
      if 3 ≤ bad then resyncAbort 3 d
      else if dirty ≤ rd d Reg.KS_RESYNC_CFG_FINAL_PAGES then resyncPhase 6 d
      else nextPass 0 d

/-- A block of registers of one slice copied to another's. -/
def sliceCopy (base len o p : Nat) (d : Dev) : Dev :=
  let at_ (s : Nat) : Nat := (base + 0x1000 * (s + 1)) * 32
  let inBlock (s k : Nat) : Bool := decide (at_ s ≤ k) && decide (k < at_ s + len * 32)
  let kept := d.regs.filter fun e => !inBlock p e.1
  let new := (d.regs.filter fun e => inBlock o e.1).map fun e => (e.1 - at_ o + at_ p, e.2)
  { d with regs := new.foldl (fun m e => mput m e.1 e.2) kept }
/-- A reference of the odd slice aligned: the difference of the positions at the last tick boundary is added, its own fraction kept,
with event 0x3104, and 0x1101 above the tolerance (R274, R114). -/
def refAlign (o p : Pier) (r : Nat) (d : Dev) : Dev :=
  let mine := mgetD (triGet d.pt p).tickPos r 0
  let theirs := mgetD (triGet d.pt o).tickPos r 0
  let diff := posDiff theirs mine
  let d := ptAccPut p r (ptAcc d p r + ofSigned 32 diff * 2 ^ 16) d
  let d := recordP Ev.POS_REALIGNED p [.w r, Item.s diff] d
  if mgetD d.img.posTol r 8 < diff.natAbs then recordP Ev.INPUT_MINORITY p [.w r, .w (pierIdx p), .q mine, .q theirs] d else d
/-- The odd slice takes the donor's trigger table, configuration and held leg states, then aligns its references (R274). -/
def sliceRealign (o p : Pier) (d : Dev) : Dev :=
  let c (base len : Nat) (d : Dev) : Dev := sliceCopy base len (pierIdx o) (pierIdx p) d
  let d := c 0x400A0100 0x304 (c 0x400B0180 0x288 d)
  let d := forEach (List.range 4) (fun r d => c (0x400B0100 + 0x10 * r) 8 d) d
  let d := putPending (c 0x400B0400 8 d)
  let d := forEach (List.range 16) (fun n d => if triggerHolds d o n then legPut p n (bitF d (Reg.FIO_LEG_STATE_APPLIED (sl o)) n) d else d) d
  forEach (List.range 4) (fun r d => refAlign o p r (refFollow p r d)) d
where
  /-- Held legs, targets in force and hit times are the donor's. -/
  putPending (d : Dev) : Dev :=
    let x := triGet d.pt o
    legPendingBits p (ptSet p (fun s => { s with target := x.target, hitTime := x.hitTime })
      (fioSet p (fun s => { s with pending := (triGet d.fio o).pending }) d))

/-- The remaining pages and the runtime state of a donor in the odd Pier (R150, R152, R301): exchange buffers, safe sequence counters; the odd Pier has no stream open and
none of the cycles in progress on its cores. What else R152 lists stands once in the state, for all Piers. -/
def finalCopy (o t : PierUnit) : PierUnit :=
  { pierStop (pagesCopy o.dirty o t) with exch := o.exch, published := o.published, dirty := [], sscOut := o.sscOut }
/-- RESYNC_FINAL: in a gap with all donor cores idle and `gap` ns to the next class start, the dirty pages and the runtime state are
copied (phase 7, FINAL, which lasts as long as this command) and the odd Pier is in service from now on, expected by every cycle that starts
from here (R146, R150, R152, R274); not while a change-set switch is agreed (R153). -/
def resyncFinal (idle : Bool) (gap : Nat) (written : List Nat) (d : Dev) : Dev :=
  match resyncTarget d with
  | none => d
  | some p =>
    let o := donorNow d
    let m := writtenMark written d
    let dirty := (triGet m.prs o).dirty.length
    if resyncPh d ≠ 6 then d
    else if !idle ∨ gap < dirty * 4096 / 4 + 25000 ∨ d.chg.state = 3 then m
    else
      let d := m
      let d := prSet p (finalCopy (triGet d.prs o)) (copyBytes (dirty * 4096) (resyncPhase 7 d))
      let d := sliceRealign o p (donorClear d)
      let d := setBitF (clrBitF d Reg.KS_STATUS_ISOLATED (pierIdx p)) Reg.KS_STATUS_IN_SERVICE (pierIdx p)
      let now := d.cyc.runs.map fun r => (r.cls, r.cycle, pierIdx p)
      let d := ksSet (fun k => { k with unexpected := (now ++ k.unexpected).take 64
                                        rejoin := some (pierIdx p, k.since, rd d Reg.KS_RESYNC_STATUS_PASS, k.copied) }) d
      let d := cycSet (fun x => { x with runs := x.runs.map fun r => { r with ended := bitSet r.ended (pierIdx p) } }) d
      degradedReview (resyncPhase 8 d)
/-- REJOIN ends at the rejoined Pier's first class start, with event 0x1011, also where another Pier has been named meanwhile (R136, R146). -/
def resyncRejoin (d : Dev) : Dev :=
  match d.ks.rejoin with
  | none => d
  | some r =>
    let ms := (d.clk - r.2.1) / msec
    let d := ksSet (fun k => { k with rejoin := none }) (wr d Reg.KS_RESYNC_STATUS_RESULT 1)
    let d := if d.ks.odd = some r.1 then resyncOver 1 d else d
    recordP Ev.RESYNC_DONE (pierOf r.1) [.w r.1, .w r.2.2.1, .w (r.2.2.2 / 1024), .w ms] d

/-- RESYNC_FINAL_WAIT_EXPIRY: no gap within 1000 ticks, so another pass runs (R146). -/
def finalWaitExpiry (d : Dev) : Dev := if resyncPh d = 6 then nextPass 0 d else d
/-- RESYNC_TIME_LIMIT: the attempt has run longer than LIMIT_S since it started, the first from the isolation on (R151). -/
def resyncTimeLimit (d : Dev) : Dev :=
  if 1 ≤ resyncPh d ∧ resyncPh d ≤ 7 ∧ d.ks.attemptAt + rd d Reg.KS_RESYNC_CFG_LIMIT_S * second ≤ d.clk then resyncAbort 4 d else d
/-- A switch during the copy: the new blocks of code and constants join the copy list and the passes go on (R153). -/
def resyncSwitched (blocks : List Nat) (d : Dev) : Dev :=
  if resyncPh d ≠ 5 ∧ resyncPh d ≠ 6 then d
  else
    let new := blocks.filter fun b => !d.ks.copyList.contains b
    let d := incBy (ksSet (fun k => { k with copyList := k.copyList ++ new }) d) Reg.KS_RESYNC_BLOCKS_COPIED new.length
    if resyncPh d = 6 then nextPass new.length d else ksSet (fun k => { k with passLeft := k.passLeft + 1048576 * new.length }) d
/-- RESYNC_RETRY_WAIT_EXPIRY: a new attempt starts, once the Pier's health allows (R151, R67). -/
def retryEnd (d : Dev) : Dev :=
  if resyncPh d ≠ 9 then d else resyncStart (resyncPhase 2 (ksSet (fun k => { k with attemptAt := d.clk }) d))
/-- COPY_SHARE_WRITE (R164). -/
def copyShareWrite (v : Nat) (d : Dev) : Dev :=
  if 5 ≤ v ∧ v ≤ 40 then wr d Reg.KS_RESYNC_CFG_COPY_SHARE v else wrB d Reg.KS_RESYNC_STATUS_SHARE_REJ true

/-! ## Lockstep pairs (R159 to R162) -/

/-- The state of a pair set. -/
def pairPut (u st : Nat) (d : Dev) : Dev :=
  let old := rd d Reg.KS_PAIR_STATE_UNIT
  wr d Reg.KS_PAIR_STATE_UNIT (old - bitField old (4 * (u - 1)) 4 * 2 ^ (4 * (u - 1)) + st * 2 ^ (4 * (u - 1)))
/-- PAIR_MISMATCH: the copies of a unit that still compares differ, so both halt; the Girder's pins are released and its open
transaction aborted (R159, R160, R412). -/
def pairMismatch (u : Nat) (d : Dev) : Dev :=
  if pairState d u ≠ 0 then d
  else
    let d := record Ev.PAIR_MISMATCH [.w u, .w 0] (inc (pairPut u 3 d) (Reg.KS_PAIR_MISMATCHES u))
    if u = 4 then gbPairHalt d else d
/-- PAIR_SELFTEST_DONE: the halted copies' results decide (R159). -/
def pairSelftest (u : Nat) (pass1 pass2 : Bool) (d : Dev) : Dev :=
  if pairState d u ≠ 3 then d
  else if pass1 && pass2 then
    let d := stampAdd (4 + u) (inc (pairPut u 0 d) (Reg.KS_PAIR_TRANSIENTS u))
    let n := (hourStamps d (4 + u)).length
    let d := wr d (Reg.KS_PAIR_HOUR u) (min n 2)
    if 3 ≤ n then safeEnter scTRANSIENTS u (recordSev 4 Ev.PAIR_TRANSIENT 3 [.w u, .w 0] d)
    else cqFlush (record Ev.PAIR_TRANSIENT [.w u, .w 0] d)
  else if pass1 || pass2 then
    let c := if pass1 then 1 else 2
    cqFlush (degradedReview (record Ev.PAIR_DEGRADED [.w u, .w c] (pairPut u c d)))
  else safeEnter scPAIR_FAIL u (record Ev.PAIR_FAILED [.w u, .w 0] (pairPut u 4 d))

end Sys2Proof.Machine
end

