-- ==== Sys2Proof/Machine/Operands.lean ====
section
/-!
DEFINITION. The operand forms of register accesses: which register an address names (R11, R12, R30, R523), its word composed of its
fields, the word of an access split over them; the keys of Caisson settings (R468, R469).
-/
namespace Sys2Proof.Machine

/-- What an address names: the fields of its register, and for a 64-bit pair whether the address is that of the upper half. -/
structure RegHit where
  flds : List Fld
  pair : Bool
  high : Bool
deriving DecidableEq, Repr

/-- The block number of a register address, 18 for the BAR2 windows, 19 outside every block (R30). -/
def blockOf (a : Nat) : Nat :=
  if 0x40000000 ≤ a ∧ a < 0x40120000 then (a - 0x40000000) / 0x10000
  else if 0xB2000000 ≤ a ∧ a < 0xB3000000 then 18 else 19
/-- The registers of a block. -/
def blockTable (b : Nat) : List RegDesc :=
  match b with
  | 0 => regTableMCTL
  | 1 => regTableKS
  | 2 => regTableCYC
  | 3 => regTableTU
  | 4 => regTableTE
  | 5 => regTableSW
  | 6 => regTableLB
  | 7 => regTableHI
  | 8 => regTableDX
  | 9 => regTableGB
  | 10 => regTableFIO
  | 11 => regTablePT
  | 12 => regTableCW
  | 13 => regTableEV
  | 14 => regTableCS
  | 15 => regTableUP
  | 16 => regTableHM
  | 17 => regTableCKR
  | 18 => regTableBAR2
  | _ => []
/-- The slices at whose addresses a register stands. -/
def descSlices (r : RegDesc) : List Nat := if r.slice then [0, 1, 2] else [0]
/-- The address of a register by slice and indices counted from its first. -/
def descAddr (r : RegDesc) (s i e : Nat) : Nat := r.base + (if r.slice then 0x1000 * (s + 1) else 0) + r.stride * i + r.stride2 * e
/-- The register of a description at an address, as slice, index and second index. -/
def descFind (r : RegDesc) (a : Nat) : Option RegHit :=
  let hit (s i e : Nat) : Option RegHit :=
    let b := descAddr r s (i - 1) e
    let at_ (h : Bool) : RegHit := ⟨r.flds s (r.first + i - 1) e, r.pair, h⟩
    if a = b then some (at_ false) else if r.pair ∧ a = b + 4 then some (at_ true) else none
  let step : Nat := if r.stride ≠ 0 then r.stride else if r.pair then 8 else 4
  (descSlices r).findSome? fun s =>
    (List.range r.count2).findSome? fun e =>
      let b := descAddr r s 0 e
      if a < b then none
      else
        let i := (a - b) / step
        if i < r.count then hit s (i + 1) e else none
/-- The register at an address, if one is implemented there. -/
def regFind (a : Nat) : Option RegHit := (blockTable (blockOf a)).findSome? fun r => descFind r a

/-- The bits of a 32-bit word that belong to a field, of the half that the access names. -/
def fldWord (h : RegHit) (f : Fld) (word : Nat) : Nat := if h.pair then word else bitField word f.lo f.w
/-- The value of a field with one half replaced by a word, or all of it for a field of one register. -/
def fldJoin (h : RegHit) (old word : Nat) (f : Fld) : Nat :=
  if h.pair then (if h.high then word * 2 ^ 32 + old % 2 ^ 32 else old / 2 ^ 32 * 2 ^ 32 + word) else bitField word f.lo f.w
/-- The word of a register whose fields have given values. -/
def hitWord (h : RegHit) (v : Fld → Nat) : Nat :=
  if h.pair then
    let x := (h.flds.map v).headD 0
    if h.high then x / 2 ^ 32 % 2 ^ 32 else x % 2 ^ 32
  else h.flds.foldl (fun acc f => acc + v f % 2 ^ f.w * 2 ^ f.lo) 0

/-! ## Keys of Caisson settings (R468 to R470, R475) -/

/-- The keys of module data (R470). -/
def dataKey (key : Nat) : Bool :=
  [0x20000000, 0x20000004, 0x20000008].contains key || (decide (0x20000010 ≤ key) && decide (key < 0x20000030) && key % 4 == 0)
/-- The Caisson fields of the register a key names. -/
def keyFields (key : Nat) : List Fld :=
  if key / 2 ^ 24 ≤ 17 ∧ bitField key 16 8 = 0 ∧ key % 4 = 0 then
    match regFind (0x40000000 + key / 2 ^ 24 * 0x10000 + key % 0x10000) with
    | none => []
    | some h => h.flds.filter fun f => f.src == .caisson
  else []
/-- A record follows R468 and R469: its key names a Caisson register or module data, and the word holds Caisson fields only. -/
def recordForm (key value : Nat) : Bool :=
  dataKey key ||
    (let l := keyFields key
     !l.isEmpty && value == l.foldl (fun acc f => acc + bitField value f.lo f.w * 2 ^ f.lo) 0)
/-- Every field of a record lies in its range (R471). -/
def recordInRange (key value : Nat) : Bool := (keyFields key).all fun f => inRange f.w f.rng (bitField value f.lo f.w)
/-- A voted setting (R475). -/
def recordVoted (key : Nat) : Bool := [0, 1, 8, 16].contains (key / 2 ^ 24)

end Sys2Proof.Machine
end

