-- ==== Sys2Proof/Machine/ChangeOps.lean ====
section
/-!
DEFINITION. Change sets (spec/07): the switch of the image, the change status record, staging and arming, what the agreed
change states decide.
-/
namespace Sys2Proof.Machine

/-- The change in progress changed. -/
def chgSet (f : ChgUnit → ChgUnit) (d : Dev) : Dev := { d with chg := f d.chg }
/-- The change set that the change in progress switches, or switches back (R201). -/
def chgCs (d : Dev) : Option ChangeSet := if d.chg.reverting then d.chg.switched.map (·.cs) else d.chg.cs
/-- A change set is pending (R201). -/
def chgPending (d : Dev) : Bool := d.chg.state != 0

/-! ## What a change set says (R198, R199, R202) -/

/-- The affected classes: those of its changed, added and removed segments (R199). -/
def csAffected (cs : ChangeSet) : List Nat := (List.range 16).filter fun c => cs.segs.any fun s => s.cls == c
/-- The switch class: the affected class with the longest period, the lowest number among equal periods (R199). -/
def csSwitch (d : Dev) (cs : ChangeSet) : Nat :=
  (csAffected cs).foldl (fun m c => if period d m < period d c then c else m) ((csAffected cs).headD 0)
/-- The variable of a map entry. -/
def entryVar : MapEntry → Nat
  | .keep i => i
  | .convert i => i
  | .initialise i _ => i
/-- The variables that entries convert. -/
def converted (l : List MapEntry) : List Nat := l.filterMap fun e => match e with
  | .convert i => some i
  | _ => none
/-- The variables of an image that belong to the old versions: those of changed and removed segments. -/
def oldVars (cs : ChangeSet) (img : Image) : NMap ImgVar :=
  img.vars.filter fun v => cs.segs.any fun s => s.how != 1 && s.num == v.2.seg
/-- The variables that the change set removes or converts (R202, R206). -/
def csTouched (img : Image) (cs : ChangeSet) : List Nat :=
  converted cs.map ++ (((oldVars cs img).map (·.1)).filter fun i => !(cs.map.map entryVar).contains i)
/-- The variables that its reverse map removes or converts: one that the change set added is among them (R213). -/
def csReverse (cs : ChangeSet) : List Nat :=
  converted cs.rmap ++ ((cs.vars.map (·.1)).filter fun i => !(cs.rmap.map entryVar).contains i)
/-- The register fields that no change set may change: enable, period, offset, COUPLED, LAUNCH and DO_AT_LAUNCH of a class (R199). -/
def classFixed : List Nat :=
  (List.range 16).flatMap fun c => [Reg.CYC_CLS_CFG_EN c, Reg.CYC_CLS_CFG_PERIOD c, Reg.CYC_CLS_OFFSET_OFFSET c, Reg.CYC_CLS_CFG_COUPLED c,
    Reg.CYC_CLS_LAUNCH_LAUNCH c, Reg.CYC_CLS_CFG_DO_AT_LAUNCH c].map fldKey
/-- The register fields that a change set gives new values. -/
def csRegs (cs : ChangeSet) : NMap Nat := cs.regs.filter fun e => !classFixed.contains e.1
/-- The blocks of code and constants that a change set brings. -/
def csBlocks (img : Image) (cs : ChangeSet) : List Nat :=
  cs.init.foldl (fun l e => let b := codeBlock img e.2.1
                            if b ∈ l then l else l ++ [b]) []

/-! ## The image (R208, R213, R221, R222) -/

/-- The entries of a table put over another. -/
def overlay {α : Type} (m new : NMap α) : NMap α := new.foldl (fun m e => mput m e.1 e.2) m
/-- A table without the listed numbers. -/
def without {α : Type} (m : NMap α) (l : List Nat) : NMap α := l.foldl mdel m
/-- The segments after a switch: removed ones gone, added ones last (R198). -/
def segsForward (cs : ChangeSet) (l : List ImgSeg) : List ImgSeg :=
  (l.filter fun s => !(cs.segs.any fun x => x.how == 2 && x.num == s.num)) ++
    ((cs.segs.filter fun x => x.how == 1).map fun x => ⟨x.num, x.cls, x.core⟩)
/-- The image after a switch: segments, new maps, variables and code, the old versions' variables gone (R202, R208). -/
def imgForward (cs : ChangeSet) (img : Image) : Image :=
  { img with segs := segsForward cs img.segs
             classes := overlay img.classes cs.maps
             vars := overlay (without img.vars ((oldVars cs img).map (·.1))) cs.vars
             codeBytes := max img.codeBytes cs.codeBytes
             stateBytes := max img.stateBytes cs.stateBytes
             init := img.init ++ cs.init
             regs := overlay img.regs (csRegs cs) }
/-- A key of the register table that names a field whose Reset column says image. -/
def imageField (key : Nat) : Bool :=
  match (regFind (key / 32)).bind fun h => h.flds.find? fun f => fldKey f == key with
  | none => false
  | some f => f.src == .image
/-- An image in force: the register fields whose Reset column says image take its values (R17). -/
def imageTake (img : Image) (d : Dev) : Dev :=
  let own (i : Image) : List (Nat × Nat) := i.regs.filter fun e => imageField e.1
  let old := (own d.img).foldl (fun m e => mdel m e.1) d.regs
  { d with img := img, regs := (own img).foldl (fun m e => if e.2 = 0 then m else mput m e.1 e.2) old }
/-- What is revertible becomes final, its entry in the image log too (R201, R214). -/
def commitFinal (d : Dev) : Dev :=
  match d.chg.switched with
  | none => d
  | some s =>
    let fin (e : LogEntry) : LogEntry := match e with
      | .change g c r _ cs => if c = s.cmd then .change g c r true cs else e
      | .edit _ _ _ => e
    chgSet (fun c => { c with switched := none }) (storeSet (fun t => { t with log := t.log.map fin }) d)
/-- The switch of a change set, or back to the image before it: image in force, generation, what is revertible (R201, R208, R213, R221). -/
def imageSwitch (reverting : Bool) (cs : ChangeSet) (cmd : Nat) (d : Dev) : Dev :=
  let forward (d : Dev) : Dev :=
    chgSet (fun c => { c with switched := some ⟨cs, d.img, cmd⟩ }) (imageTake (imgForward cs d.img) d)
  let d := match d.chg.switched with
    | some s =>
      if reverting then chgSet (fun c => { c with switched := none }) (imageTake s.img d)
      else forward (record Ev.CHANGE_COMMITTED [.w d.mode.generation] (commitFinal d))
    | none => if reverting then d else forward d
  modeSet (fun m => { m with generation := m.generation + 1 }) d
/-- The generation in force recorded in the boot parameters with the image as it stands (R207 step 8, R217). -/
def generationSave (d : Dev) : Dev :=
  storeSet (fun s => { s with current := some d.img }) (bpSet (fun b => { b with generation := d.mode.generation, imageId := d.mode.imageId }) d)

/-! ## The image log (R207, R217, R221, R222) -/

/-- The generation that an entry gives, 0 while it is pending. -/
def logGen : LogEntry → Nat
  | .change g _ _ _ _ => g
  | .edit g _ _ => g
/-- The command of an entry. -/
def logCmd : LogEntry → Nat
  | .change _ c _ _ _ => c
  | .edit _ c _ => c
/-- An entry with its generation known. -/
def logAt (g : Nat) : LogEntry → LogEntry
  | .change _ c r f cs => .change g c r f cs
  | .edit _ c l => .edit g c l
/-- An entry put into the log, in place of an older form of it. -/
def logPut (e : LogEntry) (d : Dev) : Dev :=
  storeSet (fun s => { s with log := if s.log.any fun x => logCmd x == logCmd e then mapIf (fun x => logCmd x == logCmd e) (fun _ => e) s.log
                                     else s.log ++ [e] }) d
/-- The pending entry of a command gone from the log. -/
def logDrop (cmd : Nat) (d : Dev) : Dev :=
  storeSet (fun s => { s with log := s.log.filter fun e => !(logCmd e == cmd && logGen e == 0) }) d
/-- An edit of constants noted: they are applied again at every boot (R217). -/
def constsEdit (items : List (Nat × Nat)) (d : Dev) : Dev :=
  let l := items.filter fun e => ((mget d.img.vars e.1).map (·.const)).getD false
  storeSet (fun s => { s with consts := l.foldl (fun m e => mput m e.1 e.2) s.consts }) d
/-- An entry of the image log applied to the stored image of a standby, which is then at generation `g` (R222). -/
def logApply (g : Nat) (e : LogEntry) (d : Dev) : Dev :=
  let d := match e with
    | .change _ cmd reverting _ cs => imageSwitch reverting cs cmd d
    | .edit _ _ items => constsEdit items d
  generationSave (logPut (logAt g e) (modeSet (fun m => { m with generation := g }) d))
/-- The next entry that a checkpoint's generation includes: the one with the lowest known generation above the stored one, else the first whose
generation is not known and that the checkpoint does not name as pending (R222, R223). -/
def logNext (c : Checkpoint) (d : Dev) : Option LogEntry :=
  let known := d.store.log.filter fun e => decide (d.mode.generation < logGen e) && decide (logGen e ≤ c.generation)
  let open_ := d.store.log.filter fun e => logGen e == 0 && !((c.chState == 1 || c.chState == 3) && logCmd e == c.chCmd)
  match known.foldl (fun m e => match m with
    | none => some e
    | some x => if logGen e < logGen x then some e else some x) none with
  | some e => some e
  | none => open_.head?
/-- The entries applied up to the generation of a checkpoint (R222). -/
def logUpTo (c : Checkpoint) : Nat → Dev → Dev
  | 0, d => d
  | n + 1, d =>
    if c.generation ≤ d.mode.generation then d
    else match logNext c d with
      | none => d
      | some e => logUpTo c n (logApply (if logGen e = 0 then d.mode.generation + 1 else logGen e) e d)

/-! ## Carry-over (R202, R204, R205) -/

/-- A variable carried over in a Pier: kept, as its conversion routine leaves it, or at its initial value (R202). -/
def carryOne (old new : NMap ImgVar) (conv : NMap (List Byte)) (u : PierUnit) (e : MapEntry) : PierUnit :=
  match mget new (entryVar e) with
  | none => u
  | some v =>
    match e with
    | .keep i => match mget old i with
      | none => u
      | some o => varPut v (varGet o u) u
    | .convert i => match mget conv i with
      | none => u
      | some l => varPut v l u
    | .initialise _ l => varPut v l u
/-- The carry-over of a class in a Pier: the new variables of the class, from the old state as it stands. -/
def carryClass (old new : NMap ImgVar) (l : List MapEntry) (cls : Nat) (conv : NMap (List Byte)) (u : PierUnit) : PierUnit :=
  (l.filter fun e => ((mget new (entryVar e)).map (·.cls)) == some cls).foldl (carryOne old new conv) u
/-- Map entries and variables before and after the change in progress. -/
def carryPlan (d : Dev) : Option (List MapEntry × NMap ImgVar × NMap ImgVar) :=
  if d.chg.reverting then d.chg.switched.map fun s => (s.cs.rmap, d.img.vars, s.img.vars)
  else d.chg.cs.map fun cs => (cs.map, d.img.vars, cs.vars)
/-- The exchanged values of a class that wait for the switch tick take the carried-over state in the new layout (R204). -/
def exchangeCarried (forces : NMap Nat) (tick cls : Nat) (new : NMap ImgVar) (u : PierUnit) : PierUnit :=
  let vars := new.filter fun e => e.2.shared && e.2.cls == cls
  { u with exch := (u.exch.filter fun x => !(decide (x.1 ≤ tick) && vars.any fun e => e.1 == x.2.1)) ++
                     vars.map fun e => (tick, e.1, varShown forces e.1 e.2 u) }

/-! ## The change status record (R225) -/

/-- The 48 B record. -/
def changeStatus (d : Dev) : List Byte :=
  let c := d.chg
  let st := if c.state = 3 ∧ c.reverting then 5 else if c.state ≠ 0 then c.state else if c.switched.isSome then 4 else 0
  let cs : Option ChangeSet := match chgCs d with
    | some x => some x
    | none => c.switched.map (fun x => x.cs)
  let f (g : ChangeSet → Nat) : Nat := if st = 0 then 0 else (cs.map g).getD 0
  leBytes 1 st ++ leBytes 1 (if st = 0 then 0xFF else (cs.map (csSwitch d)).getD 0xFF) ++ leBytes 1 (max 2 c.lead) ++ leBytes 1 c.partner ++
    leBytes 4 d.mode.generation ++ leBytes 4 (if c.state = 0 then 0 else d.mode.generation + 1) ++ leBytes 4 d.mode.imageId ++
    leBytes 8 (if c.state = 3 then c.ns else c.lastNs) ++ leBytes 8 (if c.state = 0 then 0 else ((cmdOf d c.cmd).map (·.desc.id)).getD 0) ++
    leBytes 4 (f (·.wco)) ++ leBytes 4 c.lastMeasured ++ leBytes 2 (f (·.segs.length)) ++ leBytes 2 c.shown ++ leBytes 4 0

/-! ## Ends of a change -/

/-- The command id of the change in progress. -/
def chgId (d : Dev) : Nat := ((cmdOf d d.chg.cmd).map (·.desc.id)).getD 0
/-- The change in progress dropped: nothing staged, its image-log entry gone. -/
def chgDrop (d : Dev) : Dev :=
  let d := logDrop d.chg.cmd d
  chgSet (fun c => { c with state := 0, cs := none, reverting := false, fetched := false, ready := 0, failed := 0, stampBad := false
                            carried := [], late := [] }) d
/-- The change in progress ends with a status and event 0x2034 with the command id and reason: 0 CANCEL, 1 reset, 2 load
failure. -/
def chgFail (status reason : Nat) (d : Dev) : Dev :=
  let cmd := d.chg.cmd
  let d := chgDrop (record Ev.CHANGE_CANCELLED [.q (chgId d), .w reason] d)
  cmdFinal cmd status (changeStatus d) d
/-- The change in progress armed for a switch cycle, with event 0x2030 (R207 step 5). -/
def chgArm (ns : Nat) (d : Dev) : Dev :=
  match chgCs d with
  | none => d
  | some cs =>
    record Ev.CHANGE_ARMED [.w (d.mode.generation + 1), .w (csSwitch d cs), .q ns]
      (chgSet (fun c => { c with state := 3, ns := ns, carried := [], late := [], measured := 0 }) d)
/-- The switch completed by the release of its cycle (R207 step 8): the boot parameters record the generation in force, event 0x2031 or
0x2032 with the generation of the switch, DONE. -/
def chgDone (cls ns cmd : Nat) (rev : Bool) (gen : Nat) (d : Dev) : Dev :=
  let d := generationSave (chgSet (fun c => { c with await := c.await.filter fun a => a.2.2.1 != cmd }) d)
  let d := if rev then record Ev.CHANGE_REVERTED [.w gen, .q ns] d
    else record Ev.CHANGE_SWITCHED [.w gen, .w cls, .q ns, .w d.chg.lastMeasured] d
  cmdFinal cmd St.OK (changeStatus d) d
/-- The release of a cycle completes the switches that wait for it. -/
def chgReleased (cls cycle : Nat) (d : Dev) : Dev :=
  forEach (d.chg.await.filter fun a => a.1 == cls && a.2.1 == cycle) (fun a d => chgDone a.1 a.2.1 a.2.2.1 a.2.2.2.1 a.2.2.2.2 d) d
/-- What of the carry-over a switch finds not done: at a tick it is late (R210); at a control exchange it runs now (R211), but for conversions,
whose results come with CARRYOVER_DONE. -/
def chgCarry (ticked : Bool) (affected : List Nat) (plan : List MapEntry × NMap ImgVar × NMap ImgVar) (d : Dev) : Dev :=
  let open_ := affected.flatMap fun c => (servicePiers d).filterMap fun p =>
    if (mget d.chg.carried (c * 4 + pierIdx p)).isNone then some (c, p) else none
  let at_ := if ticked then some d.clk else none
  let d := chgSet (fun x => { x with late := open_.foldl (fun m e => mput m (e.1 * 4 + pierIdx e.2) at_) [], carrying := some plan }) d
  if ticked then d else forEach open_ (fun e d => prSet e.2 (carryClass plan.2.1 plan.2.2 plan.1 e.1 []) d) d
/-- The switch at its tick or control exchange (R204, R208, R218): image, generation and the exchanged values of the affected classes; the
entry of the image log gets its generation, and the partner is told it. New code joins the copy list of a resynchronisation (R153). -/
def chgSwitch (ticked : Bool) (tick : Nat) (d : Dev) : Dev :=
  match chgCs d, carryPlan d with
  | some cs, some plan =>
    let sw := csSwitch d cs
    let cmd := d.chg.cmd
    let rev := d.chg.reverting
    let d := chgCarry ticked (csAffected cs) plan d
    let d := imageSwitch rev cs cmd d
    let d := forEach (servicePiers d) (fun p d =>
      prSet p (fun u => (csAffected cs).foldl (fun u c => exchangeCarried d.mode.forces tick c plan.2.2 u) u) d) d
    let e : LogEntry := .change d.mode.generation cmd rev false cs
    let d := loenpa (.image e) (logPut e d)
    let d := resyncSwitched (if rev then [] else csBlocks d.img cs) d
    chgSet (fun c => { c with state := 0, cs := none, reverting := false, fetched := false, ready := 0, failed := 0, stampBad := false
                              lastNs := c.ns, lastMeasured := c.measured
                              await := c.await ++ [(sw, c.ns, cmd, rev, d.mode.generation)] }) d
  | _, _ => d
/-- The switch due at a tick of the scheduling count: the switch class is due and starts its cycle n_s (R207 step 7). -/
def chgTick (tick : Nat) (due : List Nat) (d : Dev) : Dev :=
  match chgCs d with
  | none => d
  | some cs =>
    if d.chg.state = 3 ∧ csSwitch d cs ∈ due ∧ nextCycle d (csSwitch d cs) = d.chg.ns then chgSwitch true tick d else d

/-! ## Staging and arming (R207, R209, R211) -/

/-- The ENUM item of R207 step 4. -/
def chgItem : ImgItem := ⟨.reg 0, 6, 8, 0, false, 0, 0, none⟩
/-- What the agreed change states of the Piers decide in cycle `n` of the switch class (R207 steps 4 and 5, R209); `vals` are the
states contributed, by Pier, `partner` the partner item of the frame. -/
def chgAgree (n partner : Nat) (vals : List (Nat × Nat)) (d : Dev) : Dev :=
  if d.chg.state = 0 ∨ d.chg.state = 3 then d
  else if d.chg.reverting then chgArm (n + d.chg.lead) d
  else
    let r := agreeItem chgItem 0 (vals.map (·.2))
    let d := chgSet (fun c => { c with shown := maskOf ((vals.filter fun e => e.2 == 1).map (·.1)) }) d
    if r.2 = asMINORITY ∧ (r.1 = 0 ∨ r.1 = 2) then
      forEach (vals.filter fun e => e.2 != r.1) (fun e d =>
        pierError (pierOf e.1) (recordP Ev.CHANGE_PIER_FAILED (pierOf e.1) [.w e.1, .w e.2] d)) d
    else if r.1 = 2 ∧ (r.2 = asUNANIMOUS ∨ r.2 = asPAIR) then chgFail (if d.chg.stampBad then St.CHANGE_STAMP else St.CHANGE_LOAD_FAIL) 2 d
    else if r.1 = 1 ∧ partner ≠ 1 then chgArm (n + d.chg.lead) d else d

/-- CHANGE_PAYLOAD_FETCHED (R207 step 1): the hash holds, so the change set enters the image log and goes to a partner in STANDBY
(step 3); or the LOAD ends with CHANGE_HASH. -/
def chgFetched (hashOk : Bool) (d : Dev) : Dev :=
  match d.chg.cs with
  | none => d
  | some cs =>
    if d.chg.state ≠ 1 ∨ d.chg.fetched then d
    else if !hashOk then chgFail St.CHANGE_HASH 2 d
    else
      let relay := linkUp d && flag d Reg.DX_PEER_VALID && rd d Reg.DX_PEER_MODE == mSTANDBY && !simplex d
      let d := chgSet (fun c => { c with fetched := true, partner := b2n relay }) d
      let d := logPut (.change 0 d.chg.cmd false false cs) d
      if relay then loenpa (.changeSet d.chg.cmd false cs) d else d
/-- CHANGE_STAGED (R207 step 2): a Pier has staged the new versions, which stand in its memory beside the old; 0 READY, 1 the stamp check failed,
2 another check failed. Code pages carry no dirty marks (R149). -/
def chgStaged (p : Pier) (result : Nat) (d : Dev) : Dev :=
  if d.chg.state ≠ 1 ∨ !d.chg.fetched ∨ !inService d p then d
  else
    let i := pierIdx p
    let d := chgSet (fun c => if result = 0 then { c with ready := bitSet c.ready i }
      else { c with failed := bitSet c.failed i, stampBad := c.stampBad || result == 1 }) d
    let code := (d.chg.cs.map (·.init)).getD []
    let d := if result = 0 then prSet p (fun u => { pierFill code u with dirty := u.dirty }) d else d
    if (servicePiers d).all fun q => bitOf d.chg.ready (pierIdx q) then chgSet (fun c => { c with state := 2 }) d else d
/-- CHANGE_PARTNER_STORED and CHANGE_PARTNER_TIMEOUT (R207 step 3). -/
def chgPartner (item : Nat) (d : Dev) : Dev :=
  if d.chg.state ≠ 0 ∧ d.chg.partner = 1 then chgSet (fun c => { c with partner := item }) d else d
/-- The first tick above `t` at which a class is due (R168). -/
def nextDue (d : Dev) (c t : Nat) : Nat :=
  t + 1 + (rd d (Reg.CYC_CLS_OFFSET_OFFSET c) + period d c * (t + 1) - (t + 1)) % max 1 (period d c)
/-- The tick of the scheduling count that was issued last. -/
def tickNow (d : Dev) : Nat := if cycState d = 3 then rd d Reg.CYC_VTICK - 1 else rd d Reg.CYC_VTICK
/-- The switch tick of an armed change (R207 step 7). -/
def switchTick (d : Dev) (sw : Nat) : Nat := nextDue d sw (tickNow d) + (d.chg.ns - nextCycle d sw) * period d sw
/-- The Pier has posted the end word of the last old cycle of an affected class (R205); while no cycles run, there is none (R211). -/
def lastOldEnded (d : Dev) (p : Pier) (sw cls : Nat) : Bool :=
  !cyclesRun d ||
    (decide (switchTick d sw ≤ nextDue d cls (tickNow d)) &&
      ((runOf d cls (rd d (Reg.CYC_CLS_CYC cls))).map fun r => bitOf r.ended (pierIdx p)).getD true)
/-- CARRYOVER_DONE (R202, R205, R210): the carry-over of an affected class ends in a Pier in service; one that the switch tick found running
records event 0x2035 with its overrun. -/
def carryoverDone (p : Pier) (cls : Nat) (done : CarryRun) (d : Dev) : Dev :=
  let k := cls * 4 + pierIdx p
  if !inService d p then d
  else match (if d.chg.state = 3 then chgCs d else none), mget d.chg.late k with
    | some cs, _ =>
      match carryPlan d with
      | none => d
      | some plan =>
        if !(csAffected cs).contains cls ∨ !lastOldEnded d p (csSwitch d cs) cls then d
        else chgSet (fun c => { c with carried := mput c.carried k done.us, measured := max c.measured done.us })
          (prSet p (carryClass plan.2.1 plan.2.2 plan.1 cls done.conv) d)
    | none, some t =>
      let d := chgSet (fun c => { c with late := mdel c.late k, lastMeasured := max c.lastMeasured done.us }) d
      let d := match d.chg.carrying with
        | none => d
        | some plan => prSet p (carryClass plan.2.1 plan.2.2 plan.1 cls done.conv) d
      match t with
      | none => d
      | some t => recordP Ev.CARRYOVER_LATE p [.w cls, .w (pierIdx p), .w ((d.clk - t) / 1000)] d
    | none, none => d

/-! ## COMMIT and CANCEL (R214, R215) -/

/-- COMMIT performed (R214). -/
def chgCommit (d : Dev) : Dev :=
  if d.chg.switched.isSome then record Ev.CHANGE_COMMITTED [.w d.mode.generation] (commitFinal d) else d
/-- CANCEL agreed before the switch withdraws the pending change set, which then ends CHANGE_CANCELLED (R215). -/
def chgCancel (d : Dev) : Nat × Dev := if chgPending d then (St.OK, chgFail St.CHANGE_CANCELLED 0 d) else (St.CANCEL_TOO_LATE, d)
/-- A COMMIT that finds a REVERT pending takes it away: nothing is revertible any more, and the REVERT ends (R213, R214; DESIGN CHOICE,
log 153). -/
def revertLost (d : Dev) : Dev :=
  if d.chg.state ≠ 0 ∧ d.chg.reverting then
    let cmd := d.chg.cmd
    let d := chgDrop d
    cmdFinal cmd St.REVERT_UNAVAILABLE (changeStatus d) d
  else d
/-- An agreed COMMIT or CANCEL performed and completed (R214, R215). -/
def chgAct (c : HiCmd) (d : Dev) : Dev :=
  if argB c.desc 0 = 2 then
    let d := chgCommit (revertLost d)
    cmdFinal c.seq St.OK (changeStatus d) d
  else
    let r := chgCancel d
    cmdFinal c.seq r.1 (changeStatus r.2) r.2
/-- The switch class that COMMIT and CANCEL go to: that of the pending change, else that of the revertible one. -/
def chgClass (d : Dev) : Option Nat :=
  match chgCs d with
  | some cs => some (csSwitch d cs)
  | none => d.chg.switched.map fun s => csSwitch d s.cs
/-- The change states at a control exchange, where COMMIT and CANCEL have been agreed before: while no cycles run an armed change set
switches at the next exchange after arming with the next cycle number of the switch class (R211). -/
def controlExchange (vals : List (Nat × Nat)) (d : Dev) : Dev :=
  if cyclesRun d ∨ !(modeIs d mSTOP ∨ modeIs d mHOLD) then d
  else match chgCs d with
    | none => d
    | some cs =>
      let n := nextCycle d (csSwitch d cs)
      if d.chg.state = 3 then
        chgReleased (csSwitch d cs) n (chgSwitch false (rd d Reg.CYC_VTICK) (chgSet (fun c => { c with ns := n }) d))
      else chgAgree n d.chg.partner vals d

end Sys2Proof.Machine
end

