-- ==== Sys2Proof/Machine/HostFlow.lean ====
section
/-!
DEFINITION. What becomes of commands that are not final after a module reset or a takeover (R89, R212, R223, R355, R356), and
the journal entries that arrive from the partner (R348, R382).
-/
namespace Sys2Proof.Machine

/-- A command as its ACCEPT entry gives it, with the payload of the command store. -/
def cmdOfEntry (s : Nat) (e : JEntry) (lost : Bool) (d : Dev) : HiCmd :=
  ⟨s, e.ring, descOf e, mgetD d.hi.payloads s [], e.partner, true, .queued, St.OK, [], false, lost⟩
/-- A command put among those not final, in journal order. -/
def cmdInsert (c : HiCmd) : List HiCmd → List HiCmd
  | [] => [c]
  | x :: r => if c.seq < x.seq then c :: x :: r else if c.seq = x.seq then c :: r else x :: cmdInsert c r
/-- A command among those not final. -/
def cmdPut (c : HiCmd) (d : Dev) : Dev := openReview (hiSet (fun h => { h with cmds := cmdInsert c h.cmds }) d)
/-- A command ended with a status by the journal's recovery. -/
def cmdEnd (s : Nat) (e : JEntry) (lost : Bool) (status : Nat) (result : List Byte) (d : Dev) : Dev :=
  let d := if (cmdOf d s).isSome then cmdSet s (fun c => { c with lost := lost, again := false }) d else cmdPut (cmdOfEntry s e lost d) d
  cmdFinal s status result d
/-- A completion put among those that wait for their rings, in journal order. -/
def lateInsert (c : Completion) : List Completion → List Completion
  | [] => [c]
  | x :: r => if c.seq < x.seq then c :: x :: r else x :: lateInsert c r
/-- A command ended by the recovery of a boot: its completion waits for its ring (R357). -/
def cmdEndLate (s : Nat) (e : JEntry) (status : Nat) (result : List Byte) (d : Dev) : Dev :=
  let x := descOf e
  let c : Completion := ⟨e.id, truncStatus status result.length x.resLen, 1, 0, 0, e.ring, result.length, s, bitOf x.flags 2⟩
  let on := flag d (Reg.HI_SQ_CFG_EN e.ring) && flag d (Reg.HI_CQ_CFG_EN (rd d (Reg.HI_SQ_CFG_CQ e.ring)))
  let d := cmdEnd s e false status result d
  if on then d else hiSet (fun h => { h with late := lateInsert c h.late }) d
/-- The commands without a FINAL entry, in journal order. -/
def openEntries (d : Dev) : List (Nat × JEntry) := d.hi.journal.filter fun e => e.2.kind == 0 && (jFinal d e.1).isNone

/-- A command after a module reset (R355). -/
def recoverOne (s : Nat) (e : JEntry) (d : Dev) : Dev :=
  let x := descOf e
  let fin (st : Nat) (r : List Byte) : Dev := if e.partner then cmdEnd s e false st r d else cmdEndLate s e st r d
  let run : Dev := cmdPut (cmdOfEntry s e false d) d
  if x.op = 1 then
    if (argB x 0 = 6 ∨ argB x 0 = 7) ∧ jStart d s then fin St.OK (modeResult d) else fin St.MODE_PREEMPTED (modeResult d)
  else if x.op = 4 then
    if argB x 0 ≤ 1 then
      (if e.partner then cmdEnd s e false else cmdEndLate s e) St.CHANGE_CANCELLED (changeStatus d) (record Ev.CHANGE_CANCELLED [.q e.id, .w 1] d)
    else fin St.RESET_DISCARDED (changeStatus d)
  else if x.op = 3 then
    if d.bp.imageId = argN x 0 4 ∧ d.store.current.isSome then fin St.OK (leBytes 4 d.bp.imageId ++ leBytes 4 d.bp.generation)
    else fin St.RESET_DISCARDED []
  else if x.op = 0x0C ∨ x.op = 0x0D then if jStart d s then fin St.PERFORM_UNKNOWN [] else run
  else if x.op = 2 ∨ x.op = 0x08 ∨ x.op = 0x0A ∨ x.op = 0x0B ∨ x.op = 0x0E ∨ (x.op = 0x0F ∧ argB x 0 = 1) then run
  else fin St.RESET_DISCARDED []
/-- The active commands of the journal that are not final, dealt with once the module knows that it is the executing one (R85, R355). -/
def activeRecover (d : Dev) : Dev :=
  cqFlush (jReview (forEach ((openEntries d).filter fun e => !cmdLocal (descOf e.2)) (fun e d => recoverOne e.1 e.2 d) d))
/-- The journal recovered at boot step 9: the module's own local commands that are not final dealt with, RECOVERED, event 0x5001 with HEAD,
TAIL and the commands not final (R334, R355, R521). -/
def journalRecover (d : Dev) : Dev :=
  let l := openEntries d
  let d := jReview (forEach (l.filter fun e => cmdLocal (descOf e.2) && !e.2.partner) (fun e d => recoverOne e.1 e.2 d) d)
  let d := wrB d Reg.HI_STATUS_RECOVERED true
  let d := record Ev.JOURNAL_RECOVERED [.q (jHead d), .q (rd d Reg.HI_JOURNAL_TAIL), .w l.length] d
  cqFlush (hiRoleReview d)

/-- A command after a takeover (R223, R355), `p` the journal position of the checkpoint. -/
def takeoverOne (p : Nat) (s : Nat) (e : JEntry) (d : Dev) : Dev :=
  let x := descOf e
  let lost := e.partner
  let fin (st : Nat) (r : List Byte) : Dev := cmdEnd s e lost st r d
  let c := cmdOfEntry s e lost d
  if (jFinal d s).isSome then
    if p < s ∧ (x.op = 5 ∨ x.op = 9 ∨ x.op = 0x11 ∨ (x.op = 0x0F ∧ argB x 0 = 0)) then cmdPut { c with again := true } d else d
  else if cmdLocal x ∧ !lost then d
  else if x.op = 1 then
    if argB x 0 = 6 ∨ argB x 0 = 7 then (if jStart d s then fin St.PERFORM_UNKNOWN [] else fin St.ORIGIN_LOST [])
    else fin St.MODE_PREEMPTED (modeResult d)
  else if x.op = 3 then
    if rd d Reg.DX_PEER_IMAGE = argN x 0 4 then fin St.OK (leBytes 4 (argN x 0 4) ++ leBytes 4 d.mode.generation)
    else fin St.RESET_DISCARDED []
  else if x.op = 0x10 then
    if s < d.dx.epochSeq then
      fin St.OK (leBytes 4 (rd d Reg.TU_EPOCH_NUM) ++ leBytes 4 0 ++ leBytes 8 (rd d Reg.TU_EPOCH) ++ leBytes 8 0 ++ leBytes 8 0)
    else cmdPut c d
  else if x.op = 0x0C ∨ x.op = 0x0D then if jStart d s then fin St.PERFORM_UNKNOWN [] else fin St.ORIGIN_LOST []
  else if cmdLocal x then fin St.ORIGIN_LOST []
  else if x.op = 4 ∧ s = d.chg.cmd ∧ d.chg.state ≠ 0 then cmdPut { c with phase := .waiting } d
  else if x.op = 4 ∧ argB x 0 = 0 ∧ (d.chg.switched.map (·.cmd)) = some s then fin St.OK (changeStatus d)
  else cmdPut c d
/-- The commands of the lost module dealt with, its forces applied again, and its unconsumed final completions repeated (R355,
R356). -/
def journalTakeover (p : Nat) (d : Dev) : Dev :=
  let l := d.hi.journal.filter fun e => e.2.kind == 0
  let d := forEach l (fun e d => takeoverOne p e.1 e.2 d) (forcesReplay p d)
  forEach (List.range 8) (fun r d => replay r true d) d

/-- What a FINAL entry of the partner means for the image log of a standby (R214, R222): a command that did not end OK leaves no entry, an
edit's result gives its generation, a COMMIT makes the switched change set final. -/
def logFinal (ref status : Nat) (body : List Byte) (d : Dev) : Dev :=
  match jEntry d ref with
  | none => d
  | some a =>
    if rd d Reg.MCTL_MODE_ROLE ≠ 2 then d
    else if status ≠ St.OK then logDrop ref d
    else if a.code = 5 then
      storeSet (fun t => { t with log := mapIf (fun e => logCmd e == ref) (logAt (ofBytes (body.take 4))) t.log }) d
    else if a.code = 4 ∧ argB (descOf a) 0 = 2 then commitFinal d
    else d
/-- A journal entry from the partner written at its sequence and confirmed (R348); the entry of a command submitted here brings
that command's acceptance or completion. -/
def journalArrive (s : Nat) (e : JEntry) (payload : List Byte) (d : Dev) : Dev :=
  let e := { e with partner := !e.partner }
  let d := loenpa (.journalConfirm s) (jPut s e d)
  if e.kind = 0 then
    let d := hiSet (fun h => { h with payloads := if payload.isEmpty then h.payloads else mput h.payloads s payload
                                      forwarded := h.forwarded.filter fun f => !(f.1 == e.ring && f.2.id == e.id) }) d
    let d := if e.code = 5 then logPut (.edit 0 s (items16 (argN (descOf e) 0 2) payload)) d else d
    if e.partner then wr d (Reg.HI_SQ_LASTID e.ring) (max e.id (rd d (Reg.HI_SQ_LASTID e.ring)))
    else cmdAccept s false (cmdPut { cmdOfEntry s e false d with accepted := false } d)
  else if e.kind = 2 then
    let d := logFinal e.ref e.code e.body d
    match cmdOf d e.ref with
    | none => d
    | some c => cmdDone c e.code e.body (cmdLeave e.ref d)
  else d

end Sys2Proof.Machine
end

