-- ==== Sys2Proof/Machine/Duplex.lean ====
section
/-!
DEFINITION. The Duplex unit's commands (spec/13): Loenpa link, lease, checkpoints, output comparison, takeover.
-/
namespace Sys2Proof.Machine

/-! ## Takeover (R386 to R390) -/

/-- AGE_MS: milliseconds since the last checkpoint was completed. -/
def cpAge (d : Dev) : Nat :=
  match d.dx.doneAt with
  | none => 0xFFFF
  | some t => min ((d.clk - t) / msec) 0xFFFF
/-- The cycle of the named checkpoint, 0 for none. -/
def cpCycle (d : Dev) : Nat := ((cpNamed d).map (·.cycle)).getD 0
/-- Steps 1 and 2 of a takeover with a cause: only in STANDBY, none in progress, no position conflict (R386, R387). -/
def takeoverStart (cause : Nat) (d : Dev) : Dev :=
  if !modeIs d mSTANDBY ∨ rd d Reg.DX_STATUS_TK_PHASE ≠ 0 ∨ flag d Reg.DX_STATUS_POS_CONFLICT ∨ simplex d then d
  else
    let age := cpAge d
    let d := msix 11 (record Ev.TAKEOVER_DECIDED [.w cause, .q (cpCycle d), .w age] d)
    let d := dxSet (fun x => { x with tkCause := cause, tkStart := d.clk, tkAge := age, loaded := false, assembled := none
                                      waitEnd := d.clk + (x.leaseMs + x.guardMs) * msec }) d
    loenpa .takeover (pinReview (wr d Reg.DX_STATUS_TK_PHASE 1))
/-- The triggers that are states: RUN at MISMATCH_N and the partner's DX_ALIVE_N deasserted (R386). -/
def takeoverTriggers (d : Dev) : Dev :=
  let n := rd d Reg.DX_CMP_CFG_MISMATCH_N
  if n ≠ 0 ∧ n ≤ rd d Reg.DX_CMP_STAT_RUN then takeoverStart 1 d
  else if !flag d Reg.MCTL_PINS_PEER_ALIVE then takeoverStart 2 d else d
/-- A takeover aborted in its wait, and the triggers evaluated again (R388). -/
def takeoverAbort (notice_ : Bool) (d : Dev) : Dev :=
  let d := pinReview (inc (wr d Reg.DX_STATUS_TK_PHASE 0) Reg.DX_TAKEOVER_ABORTS)
  let pins := rd d Reg.MCTL_PINS_PEER_ALIVE + 2 * rd d Reg.MCTL_PINS_PEER_STANDBY
  takeoverTriggers (msix 11 (record Ev.TAKEOVER_ABORTED [.w pins, .w (b2n notice_)] d))
/-- REQUESTS_STOPPED_TIMEOUT: cause 3, with a lane up (R386). -/
def requestsStopped (d : Dev) : Dev := if linkUp d then takeoverStart 3 d else d
/-- PEER_STANDING_BY_TIMEOUT: cause 4, both lanes down and the partner standing by (R386). -/
def peerStandingBy (d : Dev) : Dev := if !linkUp d && flag d Reg.MCTL_PINS_PEER_STANDBY then takeoverStart 4 d else d
/-- TAKEOVER_NOTICE: a module at position 1 aborts its wait (R388). -/
def takeoverNotice (d : Dev) : Dev :=
  if rd d Reg.DX_STATUS_TK_PHASE = 1 ∧ rd d Reg.MCTL_PINS_POS = 1 then takeoverAbort true d else d
/-- HANDOVER_NOTICE: the standby takes over with cause 5 (R390). -/
def handoverNotice (d : Dev) : Dev :=
  if modeIs d mSTANDBY ∧ rd d Reg.DX_STATUS_TK_PHASE = 0 ∧ !flag d Reg.DX_STATUS_POS_CONFLICT then
    takeoverStart 5 (record Ev.HANDOVER [.q (cpCycle d)] d)
  else d
/-- TAKEOVER_WAIT_END: the check of R388, then step 4 of R387: the lease TAKEN or SOLO, the claim raised; without a valid
checkpoint of the same image nothing is loaded and the module goes to STOP (R389). -/
def takeoverWaitEnd (d : Dev) : Dev :=
  if rd d Reg.DX_STATUS_TK_PHASE ≠ 1 then d
  else if flag d Reg.MCTL_PINS_PEER_ALIVE && !flag d Reg.MCTL_PINS_PEER_STANDBY then takeoverAbort false d
  else
    let d := wr (wr d Reg.DX_STATUS_TK_PHASE 2) Reg.DX_TAKEOVER_CAUSE d.dx.tkCause
    let d := forEach allPiers (fun p d => sliceRun p (d.clk + leaseNs d) d) d
    let d := leaseObtain (if partnerAbsent d then 3 else 4) (trigDisarmAll d)
    if flag d Reg.DX_STATUS_CP_VALID && flag d Reg.DX_STATUS_IMAGE_MATCH then
      dxSet (fun x => { x with tkMode := if x.peerMode == some mRUN then mRUN else mSTOP }) d
    else
      let d := journalTakeover (jHead d - 1) (modeSet (fun m => { m with coldOnly := true, started := false }) d)
      wr (dxSet (fun x => { x with tkMode := mSTOP, loaded := true }) d) Reg.DX_TAKEOVER_TIME_LOAD_MS 0
/-- The lead in force of a command: 0 means 2 (R200). -/
def leadOf (x : Desc) : Nat := if argB x 1 = 0 then 2 else argB x 1
/-- The change state that a checkpoint carries taken up by the new active module (R223): armed with n_s above the checkpoint's cycle number of
the switch class, or pending and staged again; a switched one stands in the stored image already. -/
def changeTakeover (c : Checkpoint) (d : Dev) : Dev :=
  match d.store.log.find? fun e => logCmd e == c.chCmd && logGen e == 0 with
  | some (.change _ s rev _ cs) =>
    let lead := ((jEntry d s).map fun e => leadOf (descOf e)).getD 2
    let u : ChgUnit := { d.chg with cs := some cs, reverting := rev, cmd := s, lead := lead, fetched := true, ready := 0, failed := 0
                                    stampBad := false, partner := 0, agreed := 0 }
    if c.chState = 3 ∧ mgetD c.cycles (csSwitch d cs) 0 < c.chNs then chgSet (fun _ => { u with state := 3, ns := c.chNs }) d
    else if c.chState = 1 ∨ c.chState = 3 then chgSet (fun _ => { u with state := if rev then 2 else 1 }) d
    else d
  | _ => d
/-- CHECKPOINT_LOADED: step 5 of R387 ends after `ms` ms with the Piers' load signatures compared; change state, forces, commands and
completions follow the checkpoint (R223, R275, R355, R356). -/
def checkpointLoaded (sigs : Tri Nat) (ms : Nat) (d : Dev) : Dev :=
  match (if rd d Reg.DX_STATUS_TK_PHASE = 2 ∧ !d.dx.loaded then cpNamed d else none) with
  | none => d
  | some c =>
    let d := loadSignatures sigs d
    if modeIs d mSAFE then wr d Reg.DX_STATUS_TK_PHASE 0
    else
      let d := modeSet (fun m => { m with started := true, generation := c.generation }) (cpRestore c d)
      let d := journalTakeover c.jpos (changeTakeover c d)
      wrSat (dxSet (fun x => { x with loaded := true }) d) Reg.DX_TAKEOVER_TIME_LOAD_MS ms
/-- Step 6 of R387 at a boundary: the mode of R90, event 0x6022, vectors 9 and 11. RUN needs a class due. -/
def takeoverEnter (anyDue : Bool) (d : Dev) : Dev :=
  if rd d Reg.DX_STATUS_TK_PHASE ≠ 2 ∨ !d.dx.loaded ∨ !modeIs d mSTANDBY then d
  else if !anyDue then d
  else
    let d := modeEnter d.dx.tkMode d
    let total := (d.clk - d.dx.tkStart) / msec
    let d := inc (wrSat (wr d Reg.DX_STATUS_TK_PHASE 0) Reg.DX_TAKEOVER_TIME_TOTAL_MS total) Reg.DX_TAKEOVER_COUNT
    msix 11 (record Ev.TAKEOVER_DONE
      [.w d.dx.tkCause, .w total, .w (rd d Reg.DX_TAKEOVER_TIME_LOAD_MS), .q (cpCycle d), .w d.dx.tkAge] d)

/-! ## The role of boot step 9 (R85) -/

/-- The duplex role, or none while position 1 waits; `expired` says that its 8 s have passed. A partner in STOP, RUN or HOLD is
active (DEDUCED, log 31). Two cases that R85 has no row for: a lane is up and no valid status of the partner is held, where the pins decide
as with the link down, and both pins asserted with the link down, which gives active-eligible (DESIGN CHOICE, log 148). -/
def roleDecide (expired : Bool) (d : Dev) : Option Nat :=
  let alive := flag d Reg.MCTL_PINS_PEER_ALIVE
  let standby := flag d Reg.MCTL_PINS_PEER_STANDBY
  let booting : Option Nat := if !flag d Reg.MCTL_PINS_POS || expired then some 3 else none
  if simplex d then some 1
  else if flag d Reg.DX_STATUS_POS_CONFLICT then some 0
  else if linkUp d && flag d Reg.DX_PEER_VALID then
    let m := rd d Reg.DX_PEER_MODE
    if rd d Reg.DX_PEER_ROLE = 4 ∨ m = mSTOP ∨ m = mRUN ∨ m = mHOLD then some 2
    else if m = mBOOT then booting else some 3
  else if alive && !standby then some 2
  else if !alive && standby then booting
  else some 3
/-- A standby-bound module reports its highest journal sequence and the CRC of its last 64 entries (R382). -/
def journalReport (d : Dev) : Dev := loenpa (.report (jHead d - 1) (jCrc d (jHead d - 1) false)) d
/-- The role taken; in simplex the lease timers are held satisfied. The executing module deals with the active commands of the journal, a
standby-bound one reports its journal (R85, R355, R382). -/
def roleTake (role : Nat) (d : Dev) : Dev :=
  let d := wr d Reg.MCTL_MODE_ROLE role
  let d := if role = 1 then wr d Reg.FIO_STATUS_LEASE_OK 7 else d
  let d := modeSet (fun m => { m with waiting := false }) d
  let d := if role = 2 then journalReport d else activeRecover d
  wr (hiRoleReview d) Reg.MCTL_BOOT_STEP 9
/-- The decision of step 9, made again while position 1 waits whenever its partner's state or pins change, and after the wait. -/
def bootRole (expired : Bool) (d : Dev) : Dev :=
  match roleDecide expired d with
  | none => modeSet (fun m => { m with waiting := true }) d
  | some r => roleTake r d
/-- A module that waits for its partner to leave BOOT decides again. -/
def roleAgain (d : Dev) : Dev := if d.mode.waiting ∧ !d.mode.halted ∧ modeIs d mBOOT then bootRole false d else d

/-! ## The link (R366 to R369) -/

/-- A position equal to the module's own: neither lease nor takeover, the role undecided (R366). -/
def posCheck (pos : Nat) (d : Dev) : Dev :=
  if pos = rd d Reg.MCTL_PINS_POS ∧ !flag d Reg.DX_STATUS_POS_CONFLICT ∧ !simplex d then
    let d := wrB (wrB d Reg.DX_STATUS_POS_CONFLICT true) Reg.DX_STATUS_REQUESTING false
    record Ev.POS_CONFLICT [.w pos] (pinReview (wr d Reg.MCTL_MODE_ROLE 0))
  else d
/-- Solo ends at the first sign of the partner: the slices' leases run LEASE_MS from now and are renewed (R374). -/
def soloEnd (d : Dev) : Dev :=
  if rd d Reg.DX_STATUS_LEASE = 3 then
    forEach allPiers (fun p d => sliceRun p (d.clk + leaseNs d) d) (leaseBasis (if linkUp d then 1 else 2) d)
  else d
/-- The flag of a lane: false A, true B. -/
def laneFld (lane : Bool) : Fld := if lane then Reg.DX_STATUS_LK_B_UP else Reg.DX_STATUS_LK_A_UP
/-- IMAGE_MATCH judged against an identity and generation: the stored image can reach them under R222 (R381). -/
def imageMatches (image gen : Nat) (d : Dev) : Bool :=
  let new := d.store.log.filter fun e => logGen e == 0 || decide (d.mode.generation < logGen e)
  d.mode.imageId == image && decide (d.mode.generation ≤ gen) && decide (gen ≤ d.mode.generation + new.length)
/-- IMAGE_MATCH of a standby follows; a mismatch records event 0x6041, ends CP_VALID and asks for the image (R381). -/
def imageReview (image gen : Nat) (d : Dev) : Dev :=
  if imageMatches image gen d then wrB d Reg.DX_STATUS_IMAGE_MATCH true
  else
    let d := wrB (wrB d Reg.DX_STATUS_IMAGE_MATCH false) Reg.DX_STATUS_CP_VALID false
    loenpa .sync (record Ev.IMAGE_MISMATCH [.w d.mode.imageId, .w d.mode.generation, .w image, .w gen] d)
/-- LANE_UP: training and handshake of a lane are complete (R367, R369): the larger LEASE_MS and GUARD_MS of the pair, solo ends,
a standby judges its image and reports its journal (R381, R382); in BOOT its image is not known before step 11 (R86). -/
def laneUp (lane : Bool) (pos leaseMs guardMs image gen : Nat) (d : Dev) : Dev :=
  let own := rd d Reg.DX_LEASE_CFG_LEASE_MS
  let ownG := rd d Reg.DX_LEASE_CFG_GUARD_MS
  let first := !linkUp d
  let d := record Ev.LANE_UP [.w (b2n lane)] (wrB d (laneFld lane) true)
  let d := if own ≠ leaseMs ∨ ownG ≠ guardMs then record Ev.LEASE_CFG_DIFF [.w own, .w leaseMs, .w ownG, .w guardMs] d else d
  let d := dxSet (fun x => { x with leaseMs := max own leaseMs, guardMs := max ownG guardMs, handshake := true }) d
  let d := pinReview (posCheck pos (soloEnd d))
  let d := wr (wr d Reg.DX_PEER_IMAGE image) Reg.DX_PEER_GEN gen
  if first ∧ rd d Reg.MCTL_MODE_ROLE = 2 then journalReport (if modeIs d mBOOT then d else imageReview image gen d) else d
/-- LANE_DOWN: no valid frame on a lane for 1 ms (R367); with both lanes down the partner is no longer there for the journal and a
checkpoint in transfer is lost. -/
def laneDown (lane : Bool) (d : Dev) : Dev :=
  if !flag d (laneFld lane) then d
  else
    let d := inc (wrB d (laneFld lane) false) (if lane then Reg.DX_LINK_DOWN_LK_B else Reg.DX_LINK_DOWN_LK_A)
    let d := record Ev.LANE_DOWN [.w (b2n lane)] d
    if linkUp d then d
    else
      let d := dxSet (fun x => { x with handshake := false, sending := none }) (wrB d Reg.DX_STATUS_JOURNAL_LEVEL false)
      hiRoleReview (pinReview d)
/-- LOENPA_IDLE_TIMER: an idle frame on each lane (R367). -/
def loenpaIdle (d : Dev) : Dev := loenpa .idle d
/-- STATUS_FRAME_TIMER: a status frame (R368). -/
def statusFrame (d : Dev) : Dev :=
  loenpa (.status (modeOf d) (rd d Reg.MCTL_MODE_ROLE) (rd d Reg.MCTL_PINS_POS) (rd d Reg.DX_CLAIM_OWN) d.mode.imageId d.mode.generation) d
/-- DX_PEER.VALID ends 2 ms after the last status frame. -/
def peerReview (d : Dev) : Dev :=
  match d.dx.statusAt with
  | none => d
  | some t => if flag d Reg.DX_PEER_VALID ∧ t + 2 * msec < d.clk then hiRoleReview (wrB d Reg.DX_PEER_VALID false) else d
/-- A module outside BOOT that finds its partner active while it holds no lease itself becomes the standby (R391): one that was still
active-eligible withdraws its request and goes to STANDBY at the next boundary; its journal is to be brought level, and its image compared,
again (R381, R382; DEDUCED, log 172). -/
def standbyJoin (d : Dev) : Dev :=
  let r := rd d Reg.MCTL_MODE_ROLE
  if modeIs d mBOOT ∨ modeIs d mSAFE ∨ rd d Reg.DX_STATUS_LEASE ≠ 0 ∨ rd d Reg.DX_STATUS_TK_PHASE ≠ 0 ∨ (r ≠ 2 ∧ r ≠ 3) then d
  else
    let d := if r = 3 then
        modeSet (fun m => { m with leaseLost := true }) (pinReview (wrB (wr d Reg.MCTL_MODE_ROLE 2) Reg.DX_STATUS_REQUESTING false))
      else d
    journalReport (imageReview (rd d Reg.DX_PEER_IMAGE) (rd d Reg.DX_PEER_GEN) (wrB d Reg.DX_STATUS_JOURNAL_LEVEL false))
/-- A status frame of the partner (R366, R368, R393). -/
def peerStatus (mode role pos claim image gen : Nat) (d : Dev) : Dev :=
  let took := role = 4 ∧ rd d Reg.DX_PEER_ROLE ≠ 4
  let finds := role = 4 ∧ (took ∨ rd d Reg.MCTL_MODE_ROLE = 3)
  let d := wr (wr (wr (wrB d Reg.DX_PEER_VALID true) Reg.DX_PEER_MODE mode) Reg.DX_PEER_ROLE role) Reg.DX_PEER_POS pos
  let d := wr (wr (wr d Reg.DX_CLAIM_PEER claim) Reg.DX_PEER_IMAGE image) Reg.DX_PEER_GEN gen
  let d := dxSet (fun x => { x with statusAt := some d.clk, claimKnown := true
                                    peerMode := if mode = mBOOT ∨ mode = mSAFE then x.peerMode else some mode }) d
  let d := if took then
      wr (gbSet (fun g => { g with snoop := [], snoopDead := false }) (dxSet (fun x => { x with gbSeen := 0, gbCrc := 0xFFFFFFFF }) d))
        Reg.GB_SNOOP_HELD 0
    else d
  let d := posCheck pos (claimReview d)
  roleAgain (hiRoleReview (if finds then standbyJoin d else d))

/-! ## The lease (R24, R370 to R375) -/

/-- An active-eligible module begins to ask for a lease (R372). -/
def leaseAcquire (d : Dev) : Dev :=
  if rd d Reg.MCTL_MODE_ROLE = 3 ∧ rd d Reg.DX_STATUS_LEASE = 0 ∧ !flag d Reg.DX_STATUS_POS_CONFLICT ∧ !simplex d then
    leaseRequest (pinReview (wrB d Reg.DX_STATUS_REQUESTING true))
  else d
/-- LEASE_RENEW_TIMER: a request every RENEW, or with both lanes down a reload of each slice that has seen the partner stand by
since its last one (R370, R373). -/
def leaseRenew (d : Dev) : Dev :=
  let k := rd d Reg.DX_STATUS_LEASE
  if simplex d ∨ k = 3 then d
  else if linkUp d then
    (if (k ≠ 0 ∨ flag d Reg.DX_STATUS_REQUESTING) ∧ !flag d Reg.DX_STATUS_POS_CONFLICT then leaseRequest d else d)
  else if k = 0 then d
  else
    let peer := flag d Reg.MCTL_PINS_PEER_STANDBY
    let l := (servicePiers d).filter fun p => (triGet d.dx.slices p).steady && peer
    let d := forEach l (fun p d => sliceRun p (d.clk + leaseNs d) d) d
    let d := dxSet (fun x => { x with slices := triMap (fun s => { s with steady := peer }) x.slices }) d
    if l.isEmpty then d else leaseBasis 2 d
/-- LEASE_REQUEST: the partner's request, granted while DX_STANDBY_N is asserted; a module at position 1 withdraws its own
(R371, R372). -/
def leaseAsked (counters : List (Nat × Nat)) (d : Dev) : Dev :=
  let d := dxSet (fun x => { x with lastReq := some d.clk }) d
  let d := if flag d Reg.DX_STATUS_REQUESTING ∧ rd d Reg.DX_STATUS_LEASE = 0 ∧ rd d Reg.MCTL_PINS_POS = 1 then
      pinReview (wrB d Reg.DX_STATUS_REQUESTING false) else d
  if grantsNow d then
    let d := dxSet (fun x => { x with grantSeq := x.grantSeq + 1, lastGrant := some d.clk }) (inc d Reg.DX_GRANT_CNT_GRANTED)
    loenpa (.grant d.dx.grantSeq counters) d
  else d
/-- LEASE_GRANT: each slice checks its counter, the age of that request and the CRC; the first grant that a majority accepts
gives the lease (R370, R372). -/
def leaseGranted (counters : List (Nat × Nat)) (crcOk : Bool) (d : Dev) : Dev :=
  let k := rd d Reg.DX_STATUS_LEASE
  let sentAt (p : Pier) : Option Nat :=
    match counters.find? fun e => e.1 == pierIdx p with
    | none => none
    | some e => ((triGet d.dx.slices p).sent.find? fun s => s.1 == e.2 && decide (d.clk ≤ s.2 + leaseNs d)).map (·.2)
  if !crcOk ∨ simplex d ∨ k = 3 ∨ (k = 0 ∧ !flag d Reg.DX_STATUS_REQUESTING) then d
  else
    let ok := majority d fun p => (sentAt p).isSome
    let peer := flag d Reg.MCTL_PINS_PEER_STANDBY
    let d := if k = 0 ∧ !ok then d
      else forEach (servicePiers d) (fun p d => match sentAt p with
        | none => d
        | some t =>
          dxSet (fun x => { x with slices := triSet x.slices p { triGet x.slices p with steady := peer } }) (sliceRun p (t + leaseNs d) d)) d
    if !ok then d
    else
      let d := inc d Reg.DX_GRANT_CNT_RENEWED
      if k = 0 then leaseObtain 1 d else leaseBasis 1 d
/-- µs left of a slice's lease. -/
def sliceLeft (d : Dev) (p : Pier) : Nat := if sliceLease d p then ((triGet d.dx.slices p).deadline - d.clk) / 1000 else 0
/-- SLICE_LEASE_EXPIRY: the slice's legs go off (R24); a majority of the slices in service expired ends the module's lease: requests
discarded, event 0x6002, vector 11, STANDBY at the next boundary (R143, R375, R412). -/
def sliceExpiry (p : Pier) (d : Dev) : Dev :=
  if simplex d ∨ rd d Reg.DX_STATUS_LEASE = 3 ∨ !sliceLease d p then d
  else
    let d := legsOff p (clrBitF d Reg.FIO_STATUS_LEASE_OK (pierIdx p))
    if rd d Reg.DX_STATUS_LEASE ≠ 0 ∧ majority d (fun q => !sliceLease d q) then
      let left := allPiers.map fun q => Item.w (sliceLeft d q)
      let d := gbDropQueued Reg.GB_DISCARD_LEASE (leaseDrop d)
      modeSet (fun m => { m with leaseLost := true }) (msix 11 (record Ev.LEASE_EXPIRED left d))
    else d
/-- PARTNER_ABSENT_GUARD: absence has lasted GUARD_MS, so an active-eligible module or a lease holder goes solo (R374). -/
def absentGuard (d : Dev) : Dev :=
  let k := rd d Reg.DX_STATUS_LEASE
  if simplex d ∨ !partnerAbsent d ∨ flag d Reg.DX_STATUS_POS_CONFLICT ∨ k = 3 then d
  else if k ≠ 0 then leaseBasis 3 (wr d Reg.FIO_STATUS_LEASE_OK 7)
  else if rd d Reg.MCTL_MODE_ROLE = 3 then leaseObtain 3 (wr d Reg.FIO_STATUS_LEASE_OK 7)
  else d
/-- PEER_PIN_CHANGE: the filtered peer pins; a pin asserted ends solo, DX_PEER_ALIVE_N deasserted is a trigger in STANDBY
(R373, R374, R386). -/
def peerPins (alive standby : Bool) (d : Dev) : Dev :=
  let d := wrB (wrB d Reg.MCTL_PINS_PEER_ALIVE alive) Reg.MCTL_PINS_PEER_STANDBY standby
  let d := if standby then d else dxSet (fun x => { x with slices := triMap (fun s => { s with steady := false }) x.slices }) d
  roleAgain (takeoverTriggers (if alive || standby then soloEnd d else d))

/-! ## Checkpoints and image (R378 to R382) -/

/-- The planned handover ends once the standby has confirmed the last checkpoint: notice, no more requests, event 0x6023 (R390). -/
def handoverEnd (d : Dev) : Dev :=
  if d.dx.handover ∧ d.dx.sending.isNone ∧ d.dx.taking.isNone then
    let d := dxSet (fun x => { x with handover := false }) (record Ev.HANDOVER [.q (cpCycle d)] (loenpa .handover d))
    leaseDrop d
  else d
/-- CHECKPOINT_COMPLETE: the checkpoint is in Deck SDRAM and the MRAM header names it (R79, R378); it goes to a partner in STANDBY,
and a CHECKPOINT_NOW that asked for it completes. -/
def checkpointComplete (d : Dev) : Dev :=
  match d.dx.taking with
  | none => d
  | some c =>
    let c := { c with time := schedTime d }
    let d := cpName c (dxSet (fun x => { x with taking := none }) d)
    let d := if linkUp d ∧ !simplex d ∧ flag d Reg.DX_PEER_VALID ∧ rd d Reg.DX_PEER_MODE = mSTANDBY then
        loenpa (.checkpoint c) (dxSet (fun x => { x with sending := some c.cycle }) d) else d
    forEach (d.hi.cmds.filter fun x => x.phase == .waiting && x.desc.op == 0x000F) (fun x d => cmdFinal x.seq St.OK (cpHeader c) d) d
/-- The standby's confirmation of a checkpoint (R379, R380). -/
def checkpointConfirmed (cycle : Nat) (d : Dev) : Dev :=
  if d.dx.sending = some cycle then handoverEnd (dxSet (fun x => { x with sending := none, confirmed := some cycle }) d) else d
/-- A checkpoint of the matching image named and confirmed by the standby, with the image log applied up to its generation (R222, R380). -/
def cpConfirm (c : Checkpoint) (d : Dev) : Dev :=
  loenpa (.confirm c.cycle) (wrB (cpName c (logUpTo c d.store.log.length d)) Reg.DX_STATUS_CP_VALID true)
/-- CHECKPOINT_DATA: a checkpoint received whole by the standby; with a correct trailer and a matching image it is named and confirmed; one
received while the image does not match waits, assembled, until it does (R222, R224, R380, R381). -/
def checkpointData (c : Checkpoint) (trailerOk : Bool) (d : Dev) : Dev :=
  if !modeIs d mSTANDBY ∨ rd d Reg.DX_STATUS_TK_PHASE ≠ 0 ∨ !trailerOk then d
  else
    let d := if flag d Reg.DX_STATUS_IMAGE_MATCH || imageMatches c.imageId c.generation d then imageReview c.imageId c.generation d else d
    if flag d Reg.DX_STATUS_IMAGE_MATCH then cpConfirm c d else dxSet (fun x => { x with assembled := some c }) d
/-- IMAGE_SYNCED: image synchronisation has ended, and the checkpoint assembled meanwhile is confirmed (R381). -/
def imageSynced (image gen : Nat) (img : Image) (seconds : Nat) (d : Dev) : Dev :=
  if rd d Reg.MCTL_MODE_ROLE ≠ 2 then d
  else
    let wait := d.dx.assembled.filter fun c => modeIs d mSTANDBY && rd d Reg.DX_STATUS_TK_PHASE == 0 && c.imageId == image && c.generation == gen
    let d := storeSet (fun s => { s with log := [], consts := [], current := some img, images := mput s.images image img }) { d with img := img }
    let d := bpSet (fun b => { b with imageId := image, generation := gen }) d
    let d := modeSet (fun m => { m with imageId := image, generation := gen, imageValid := true }) d
    let d := record Ev.IMAGE_SYNCED [.w image, .w gen, .w seconds] (wrB d Reg.DX_STATUS_IMAGE_MATCH true)
    let d := dxSet (fun x => { x with assembled := none }) d
    match wait with
    | none => d
    | some c => cpConfirm c d
/-- JOURNAL_LEVELLED: the journals of the pair are level (R382). A standby whose entries differ from `diverged` on discards them
with event 0x6044 and takes the active module's. -/
def journalLevelled (diverged : Option Nat) (entries : List (Nat × JEntry)) (d : Dev) : Dev :=
  let d := if executing d then d
    else
      let d := match diverged with
        | none => d
        | some s =>
          let gone := d.hi.journal.filter fun e => decide (s ≤ e.1)
          let ids := (gone.filter fun e => e.2.kind == 0).map fun e => Item.q e.2.id
          let d := record Ev.JOURNAL_DIVERGED (.q s :: ids) d
          wr (openReview (hiSet (fun h => { h with journal := h.journal.filter (fun e => decide (e.1 < s))
                                                   cmds := h.cmds.filter fun c => decide (c.seq < s) }) d)) Reg.HI_JOURNAL_HEAD (min s (jHead d))
      forEach entries (fun e d => jPut e.1 { e.2 with partner := !e.2.partner } d) d
  hiRoleReview (record Ev.JOURNAL_LEVELLED [.w entries.length] (wrB d Reg.DX_STATUS_JOURNAL_LEVEL true))

/-! ## Output comparison (R383 to R385) -/

/-- A mask of the outputs for which a majority of the slices report 1. -/
def sliceMask (d : Dev) (f : Nat → Fld) : Nat := maskOf ((List.range 16).filter fun i => majority d fun p => bitF d (f (sl p)) i)
/-- The CRC register of a list of backplane writes: 4 B of target and 4 B of data each (R416). -/
def writesCrc (c : Nat) (l : List (Nat × Nat)) : Nat := l.foldl (fun c e => (leBytes 4 e.1 ++ leBytes 4 e.2).foldl crc32Byte c) c
/-- The declaration of a cycle of the checkpoint class sent after its release in RUN (R383). -/
def declare_ (cls cycle due : Nat) (d : Dev) : Dev :=
  if cls = rd d Reg.DX_CP_CFG_CLASS ∧ inRun d ∧ !simplex d ∧ leaseHeld d then
    let pubs := (d.img.pubs.filter (·.2.observed)).filterMap fun e =>
      (mget d.te.pubs e.1).bind fun t => if t.cycle = cycle then some (e.1, crc32 t.payload) else none
    loenpa (.declaration
      { cycle := cycle, due := due, outputs := sliceMask d Reg.FIO_LEG_STATE_APPLIED, readback := sliceMask d Reg.FIO_RB_STATE_DEB
        pubs := pubs, gbCount := d.gb.own.length, gbCrc := writesCrc 0xFFFFFFFF d.gb.own ^^^ 0xFFFFFFFF }) d
  else d
/-- OUTPUT_DECLARATION: a standby keeps a declaration until its comparison (R383, R384). -/
def outputDeclaration (x : Declaration) (d : Dev) : Dev :=
  if modeIs d mSTANDBY then dxSet (fun u => { u with decls := mput u.decls x.cycle x }) d else d
/-- A mismatch of a source reported, at most once per second per source (R384). -/
def cmpReport (src cycle declared observed : Nat) (d : Dev) : Dev :=
  recordOnce Ev.OUTPUT_MISMATCH src [.w src, .q cycle, .w declared, .w observed] d
/-- The lines of R385 that count as mismatches: commanded on and seen off, or commanded off and seen on but declared off. -/
def doMismatch (common outputs readback seen : Nat) : List Nat :=
  (bitsOf 16 common).filter fun i => if bitOf outputs i then !bitOf seen i else bitOf seen i && !bitOf readback i
/-- The publications whose last copy differs or has not come since a time (R384). -/
def pubMismatch (x : Declaration) (d : Dev) : List (Nat × Nat) :=
  x.pubs.filter fun e => match mget d.dx.obs e.1 with
    | none => true
    | some o => o.2 != e.2 || decide (o.1 < x.due * 125000)
/-- The comparison of one declaration (R384, R385). -/
def outputCompare (x : Declaration) (d : Dev) : Dev :=
  let d := dxSet (fun u => { u with decls := mdel u.decls x.cycle }) d
  let seen := sliceMask d Reg.FIO_RB_STATE_DEB
  let do_ := flag d Reg.DX_CMP_CFG_DO_EN && !(doMismatch (rd d Reg.DX_CMP_CFG_DO_COMMON) x.outputs x.readback seen).isEmpty
  let d := if do_ then cmpReport 0 x.cycle x.outputs seen d else d
  let tlg := if flag d Reg.DX_CMP_CFG_TLG_EN then (pubMismatch x d).head? else none
  let d := match tlg with
    | none => d
    | some e => cmpReport 1 x.cycle e.2 (((mget d.dx.obs e.1).map (·.2)).getD 0) d
  let n := x.gbCount - d.dx.gbSeen
  let crc := writesCrc d.dx.gbCrc (d.gb.snoop.take n)
  let on := flag d Reg.DX_CMP_CFG_GB_EN && !d.gb.snoopDead
  let few := decide (d.gb.snoop.length < n)
  let gb := on && (few || crc ^^^ 0xFFFFFFFF != x.gbCrc)
  let d := if on && !few then
      let d := dxSet (fun u => { u with gbSeen := x.gbCount, gbCrc := crc }) (gbSet (fun g => { g with snoop := g.snoop.drop n }) d)
      wr d Reg.GB_SNOOP_HELD d.gb.snoop.length
    else d
  let d := if gb then cmpReport 2 x.cycle x.gbCrc (crc ^^^ 0xFFFFFFFF) d else d
  let src := b2n do_ + 2 * b2n tlg.isSome + 4 * b2n gb
  if src = 0 then wr d Reg.DX_CMP_STAT_RUN 0
  else takeoverTriggers (inc (inc (wr d Reg.DX_CMP_STAT_SRC src) Reg.DX_CMP_STAT_MISMATCHES) Reg.DX_CMP_STAT_RUN)
/-- The declarations compared at a tick: those whose cycle was due two periods of the checkpoint class before (R384). -/
def comparesAt (tick : Nat) (d : Dev) : Dev :=
  let p := period d (rd d Reg.DX_CP_CFG_CLASS)
  if modeIs d mSTANDBY ∧ rd d Reg.DX_STATUS_TK_PHASE = 0 then
    forEach (d.dx.decls.filter fun e => e.2.due + 2 * p == tick) (fun e d => outputCompare e.2 d) d
  else d

end Sys2Proof.Machine
end

