-- ==== Sys2Proof/Machine/Rings.lean ====
section
/-!
DEFINITION. Rings of the host interface (spec/12): configuration, doorbells, errors of DMA, message intervals, and the windows of
BAR2 that show journal and variables.
-/
namespace Sys2Proof.Machine

/-- An error bit of HI_ERR set with its ring. -/
def hiErr (f : Fld) (cqSide : Bool) (n : Nat) (d : Dev) : Dev := wrB (wr (wrB d f true) Reg.HI_ERR_RING n) Reg.HI_ERR_CQ_SIDE cqSide

/-! ## Configuration (R334, R357) -/

/-- The submission rings that feed a completion ring. -/
def cqRings (d : Dev) (q : Nat) : List Nat := (List.range 8).filter fun n => rd d (Reg.HI_SQ_CFG_CQ n) == q
/-- A submission ring and its completion ring are both enabled, so the ring's final completions above ACKID are repeated, and the
completions that recovery left waiting follow them (R357). -/
def ringServe (n : Nat) (d : Dev) : Dev :=
  if flag d (Reg.HI_SQ_CFG_EN n) && flag d (Reg.HI_CQ_CFG_EN (rd d (Reg.HI_SQ_CFG_CQ n))) then
    let late := d.hi.late.filter fun c => c.sring == n
    let d := replay n false d
    forEach late cqPut (hiSet (fun h => { h with late := h.late.filter fun c => !(c.sring == n) }) d)
  else d
/-- A submission ring enabled: head and tail 0, no longer stopped. -/
def sqEnable (n : Nat) (d : Dev) : Dev :=
  let d := wrB (wr (wr d (Reg.HI_SQ_STATE_HEAD n) 0) (Reg.HI_SQ_STATE_TAIL n) 0) (Reg.HI_SQ_STATE_STOPPED n) false
  ringServe n (wrB (hiSet (fun h => { h with rung := h.rung.filter fun e => e.1 / 4096 != n }) d) (Reg.HI_SQ_CFG_EN n) true)
/-- A submission ring disabled: what waits to be written for it is dropped, since its enable repeats it. -/
def sqDisable (n : Nat) (d : Dev) : Dev :=
  hiSet (fun h => { h with held := h.held.filter fun e => !(e.2.sring == n), rejects := h.rejects.filter fun r => !(r.2.sring == n) })
    (wrB d (Reg.HI_SQ_CFG_EN n) false)
/-- A completion ring enabled: head and tail 0, phase 1. -/
def cqEnable (q : Nat) (d : Dev) : Dev :=
  let d := wr (wr (wr d (Reg.HI_CQ_STATE_HEAD q) 0) (Reg.HI_CQ_STATE_TAIL q) 0) (Reg.HI_CQ_STATE_PHASE q) 1
  let d := hiSet (fun h => { h with unread := mdel h.unread q, imodHeld := bitClr h.imodHeld q }) (wrB d (Reg.HI_CQ_CFG_EN q) true)
  forEach (cqRings d q) ringServe d
/-- A completion ring disabled. -/
def cqDisable (q : Nat) (d : Dev) : Dev :=
  hiSet (fun h => { h with held := h.held.filter fun e => !(e.1 == q) }) (wrB d (Reg.HI_CQ_CFG_EN q) false)

/-- Whether a write of a ring's configuration is refused (R334): `same` says that nothing but EN changes. -/
def cfgRefused (d : Dev) (old new same : Bool) (size : Nat) : Bool :=
  decide (size < 4) || decide (12 < size) || (old && new && !same) || (!old && new && !flag d Reg.HI_STATUS_READY)
/-- SQ_CFG_WRITE: a word written to HI_SQ_CFG_n by the host. -/
def sqCfgWrite (n word : Nat) (d : Dev) : Dev :=
  let new := bitOf word 31
  let old := flag d (Reg.HI_SQ_CFG_EN n)
  let cq := bitField word 16 3
  let size := bitField word 0 4
  if cfgRefused d old new (rd d (Reg.HI_SQ_CFG_CQ n) == cq && rd d (Reg.HI_SQ_CFG_SIZE n) == size) size then
    hiErr Reg.HI_ERR_CFG_REJ false n d
  else if old && new then d
  else
    let d := if old then sqDisable n d else d
    let d := wr (wr d (Reg.HI_SQ_CFG_CQ n) cq) (Reg.HI_SQ_CFG_SIZE n) size
    if new then sqEnable n d else d
/-- CQ_CFG_WRITE: a word written to HI_CQ_CFG_n by the host. -/
def cqCfgWrite (q word : Nat) (d : Dev) : Dev :=
  let new := bitOf word 31
  let old := flag d (Reg.HI_CQ_CFG_EN q)
  let imod := bitField word 16 10
  let size := bitField word 0 4
  if cfgRefused d old new (rd d (Reg.HI_CQ_CFG_IMOD q) == imod && rd d (Reg.HI_CQ_CFG_SIZE q) == size) size then
    hiErr Reg.HI_ERR_CFG_REJ true q d
  else if old && new then d
  else
    let d := if old then cqDisable q d else d
    let d := wr (wr d (Reg.HI_CQ_CFG_IMOD q) imod) (Reg.HI_CQ_CFG_SIZE q) size
    if new then cqEnable q d else d
/-- A base or buffer-region field of a ring written: refused while the ring is enabled and stays so, and where the word of a ring
base has one of its low 12 bits set (R334). -/
def ringFieldWrite (f en : Fld) (cqSide base : Bool) (n word : Nat) (d : Dev) : Dev :=
  let v := bitField word f.lo f.w
  if (flag d en && rd d f != v) || (base && word % 4096 != 0) then hiErr Reg.HI_ERR_CFG_REJ cqSide n d else wr d f v

/-! ## Doorbells (R336, R337, R356) -/

/-- A refused doorbell. -/
def dbRefuse (cqSide : Bool) (n : Nat) (d : Dev) : Dev := inc (hiErr Reg.HI_ERR_DB_RANGE cqSide n d) Reg.HI_ERR_COUNT_DB_ERR
/-- SQ_TAIL_DOORBELL: a value written to the doorbell of a submission ring, or a 32-bit write of its upper word. The words 'and the ring is not
stopped' of R336 say what a refusal leaves undone (DEDUCED, log 105). -/
def sqDoorbell (n : Nat) (upper : Bool) (v : Nat) (d : Dev) : Dev :=
  if upper || !flag d (Reg.HI_SQ_CFG_EN n) || decide (2 ^ rd d (Reg.HI_SQ_CFG_SIZE n) ≤ v) then dbRefuse false n d
  else
    let old := rd d (Reg.HI_SQ_STATE_TAIL n)
    hiSet (fun h => { h with rung := if old = v then h.rung else mput h.rung (4096 * n + old) d.clk }) (wr d (Reg.HI_SQ_STATE_TAIL n) v)
/-- ACKID of a logical ring raised, and mirrored to the partner within 1 ms (R356). -/
def ackRaise (ring id : Nat) (d : Dev) : Dev :=
  if rd d (Reg.HI_SQ_ACKID ring) < id then
    let d := wr d (Reg.HI_SQ_ACKID ring) id
    if linkUp d && !simplex d then emit (.ackMirror ring id) d else d
  else d
/-- CQ_HEAD_DOORBELL: the entries before the one named are released, with the final completions among them consumed; a value that names no
entry unread and not the tail releases none (R337; DEDUCED, log 105). -/
def cqDoorbell (q : Nat) (upper : Bool) (v : Nat) (d : Dev) : Dev :=
  if upper || !flag d (Reg.HI_CQ_CFG_EN q) || decide (cqSize d q ≤ v) then dbRefuse true q d
  else
    let l := mgetD d.hi.unread q []
    let n := l.length - (rd d (Reg.HI_CQ_STATE_TAIL q) + cqSize d q - v) % cqSize d q
    let d := hiSet (fun h => { h with unread := mput h.unread q (l.drop n) }) (wr d (Reg.HI_CQ_STATE_HEAD q) v)
    let d := forEach ((l.take n).filter fun c => c.kind == 1 && decide (c.sring < 8)) (fun c d => ackRaise c.sring c.id d) d
    cqFlush (jReview d)

/-! ## Errors and power states of the function (R331, R332, R339) -/

/-- The rings of a list stopped, each with event 0x5004 and what failed: 0 a fetch, 1 a completion write (R521). -/
def ringsStop (l : List Nat) (what : Nat) (d : Dev) : Dev :=
  forEach l (fun n d =>
    if flag d (Reg.HI_SQ_STATE_STOPPED n) then d
    else record Ev.RING_STOPPED [.w n, .w what] (wrB d (Reg.HI_SQ_STATE_STOPPED n) true)) d
/-- DMA_ERROR and DMA_COMPLETION_TIMEOUT: the fetch of a descriptor or payload of a submission ring fails, or the write of a completion
into a completion ring. -/
def dmaError (cplWrite : Bool) (n : Nat) (d : Dev) : Dev :=
  let d := hiErr (if cplWrite then Reg.HI_ERR_CPL_WRITE else Reg.HI_ERR_DESC_FETCH) cplWrite n d
  msix 15 (ringsStop (if cplWrite then cqRings d n else [n]) (b2n cplWrite) d)
/-- BUS_MASTER_ENABLE_CHANGE (R331). -/
def bmeChange (v : Bool) (d : Dev) : Dev := cqFlush (wrB d Reg.HI_LINK_BME v)
/-- D3HOT_ENTRY: no DMA, completions held (R332). -/
def d3Entry (d : Dev) : Dev := hiSet (fun h => { h with d3 := true }) d

/-! ## Messages (R42, R360) -/

/-- MSIX_IMOD_EXPIRY: a held message leaves at the end of its interval, if completions remain unread. -/
def imodExpiry (q : Nat) (d : Dev) : Dev :=
  if bitOf d.hi.imodHeld q then
    let d := hiSet (fun h => { h with imodHeld := bitClr h.imodHeld q }) d
    if (mgetD d.hi.unread q []).isEmpty then d else msix q (hiSet (fun h => { h with imodAt := mput h.imodAt q d.clk }) d)
  else d
/-- MSIX_UNMASK: a vector unmasked; one message for its pending bit. -/
def msixUnmask (v : Nat) (d : Dev) : Dev :=
  let pend := bitOf d.msix.pend v
  let d := { d with msix := { d.msix with mask := bitClr d.msix.mask v, pend := bitClr d.msix.pend v } }
  if pend then msixMessage v d else d
/-- RESERVED_BAR_ACCESS (R38): a read returns zeros, a write is discarded; both are counted. -/
def reservedAccess (read : Bool) (addr : Nat) (d : Dev) : Dev :=
  let d := inc d Reg.HI_ERR_COUNT_RSVD
  if read then emit (.read addr 0) d else d

/-! ## Journal window (R358, R364) -/

/-- JW_SEL_WRITE: the upper half waits for the lower, which takes effect. -/
def jwSelWrite (high : Bool) (v : Nat) (d : Dev) : Dev :=
  if high then hiSet (fun h => { h with jwHi := v % 2 ^ 32 }) d else wr d Reg.HI_JW_SEL (d.hi.jwHi * 2 ^ 32 + v % 2 ^ 32)
/-- The entry selected, if the journal holds it (R358). -/
def jwEntry (d : Dev) : Option JEntry :=
  let s := rd d Reg.HI_JW_SEL
  if s < rd d Reg.HI_JOURNAL_TAIL then none else jEntry d s
/-- The sequence number of the selected command's final entry, 0 for none. -/
def jwFinal (d : Dev) : Nat :=
  match jwEntry d with
  | none => 0
  | some e => ((jFinal d (if e.kind = 0 then rd d Reg.HI_JW_SEL else e.ref)).map (·.1)).getD 0
/-- JW_NEXT_READ: the low word of SEL, which then advances. -/
def jwNextRead (d : Dev) : Dev :=
  let s := rd d Reg.HI_JW_SEL
  wr (emit (.read Reg.HI_JW_NEXT.addr (s % 2 ^ 32)) d) Reg.HI_JW_SEL (s + 1)

/-! ## Variable window (R362) -/

/-- The committed value of a variable at its offset in a copy of the process image (R176), at most 8 bytes. -/
def varBytes (m : Memory) (v : ImgVar) : Nat := ofBytes (Memory.bytes m (imageBase + v.off) (min v.size 8))
/-- The agreement status of an input variable in a copy of the process image, 0 for another variable (R117, R176). -/
def varAgree (m : Memory) (v : ImgVar) : Nat :=
  match v.stat with
  | none => 0
  | some o => (Memory.byte m (imageBase + o)).toNat % 4
/-- The BAR4 snapshot the host reads. -/
def snapShown (d : Dev) : Memory := if d.cyc.snapBuf = 0 then d.snap.1 else d.snap.2
/-- Value of a variable in the snapshot, 0 for an identifier not in the image. -/
def vwValue (d : Dev) (id : Nat) : Nat := ((mget d.img.vars id).map (varBytes (snapShown d))).getD 0
/-- HI_VW_STATUS captured for an identifier. -/
def vwStatus (id : Nat) (d : Dev) : Dev :=
  match mget d.img.vars id with
  | none => wrB (wrB (wr (wr d Reg.HI_VW_STATUS_CLASS 0) Reg.HI_VW_STATUS_AGREE 0) Reg.HI_VW_STATUS_FORCED false) Reg.HI_VW_STATUS_VALID false
  | some v =>
    let d := wr (wr d Reg.HI_VW_STATUS_CLASS v.cls) Reg.HI_VW_STATUS_AGREE (varAgree (snapShown d) v)
    wrB (wrB d Reg.HI_VW_STATUS_FORCED (mget d.mode.forces id).isSome) Reg.HI_VW_STATUS_VALID true
/-- VW_VALUE_READ: the low word, with the high word and the status captured. -/
def vwValueRead (d : Dev) : Dev :=
  let v := vwValue d (rd d Reg.HI_VW_ID_ID)
  vwStatus (rd d Reg.HI_VW_ID_ID) (emit (.read Reg.HI_VW_VALUE.addr (v % 2 ^ 32)) (wr d Reg.HI_VW_VALUE v))
/-- The list position in force: one at or above LEN reads as 0. -/
def vwPos (d : Dev) : Nat := if rd d Reg.HI_VW_LIST_CTL_LEN ≤ rd d Reg.HI_VW_LIST_CTL_POS then 0 else rd d Reg.HI_VW_LIST_CTL_POS
/-- VW_LIST_READ: the low word of the entry at POS captures the high one; reading that advances POS. -/
def vwListRead (high : Bool) (d : Dev) : Dev :=
  if high then
    let p := vwPos d + 1
    wr (emit (.read (Reg.HI_VW_LIST.addr + 4) (rd d Reg.HI_VW_LIST / 2 ^ 32)) d) Reg.HI_VW_LIST_CTL_POS
      (if rd d Reg.HI_VW_LIST_CTL_LEN ≤ p then 0 else p)
  else
    let v := vwValue d (rd d (Reg.HI_VW_LIST_ID (vwPos d)))
    emit (.read Reg.HI_VW_LIST.addr (v % 2 ^ 32)) (wr d Reg.HI_VW_LIST v)

end Sys2Proof.Machine
end

