-- ==== Sys2Proof/Machine/Caisson.lean ====
section
/-!
DEFINITION. The Caisson (spec/18): stores, STORE_SETTINGS, the choice of a bank at boot; the burning of anti-rollback fuses (R485).
-/
namespace Sys2Proof.Machine

/-- The Caisson changed. -/
def csSet (f : CsUnit → CsUnit) (d : Dev) : Dev := { d with cs := f d.cs }
/-- A bank; one never written is invalid. -/
def csBank (d : Dev) (k : Nat) : CsBank := mgetD d.cs.banks k ⟨false, 2, 0, [], 0, 0⟩
/-- The bank that the next store writes (R473, R478). -/
def csTarget (d : Dev) : Nat := if d.cs.inForce then 1 - rd d Reg.CS_STATUS_ACTIVE else 0
/-- The records of the copy in force. -/
def csRecs (d : Dev) : NMap Nat := if d.cs.inForce then (csBank d (rd d Reg.CS_STATUS_ACTIVE)).recs else []
/-- The sequence number of the next store: one above the bank in force, or above the highest found (R472, R478). -/
def csNextSeq (d : Dev) : Nat :=
  if d.cs.inForce then (csBank d (rd d Reg.CS_STATUS_ACTIVE)).seq + 1 else max (csBank d 0).seq (csBank d 1).seq + 1

/-! ## Fuses (R485) -/

/-- Anti-rollback fuses burned up to a number; N follows. -/
def fuseBurn (n : Nat) (d : Dev) : Dev :=
  let d := wr d Reg.UP_ROLLBACK_FUSES (max n (rd d Reg.UP_ROLLBACK_FUSES))
  wr d Reg.UP_ROLLBACK_EFFECTIVE (max (rd d Reg.UP_ROLLBACK_EFFECTIVE) (rd d Reg.UP_ROLLBACK_FUSES))
/-- COMMIT of RELAY_CONTROL ends: the fuses burned, event 0x830B with the old and the new N (R501). -/
def commitEnd (n cmd : Nat) (d : Dev) : Dev :=
  let old := rd d Reg.UP_ROLLBACK_EFFECTIVE
  let d := fuseBurn n d
  cmdFinal cmd St.OK [] (record Ev.UPD_ROLLBACK_ADVANCED [.w old, .w (rd d Reg.UP_ROLLBACK_EFFECTIVE)] d)

/-! ## Stores (R473) -/

/-- The 24 B result of STORE_SETTINGS (R476). -/
def settingsResult (seq bank n count bad : Nat) : List Byte :=
  leBytes 8 seq ++ leBytes 1 bank ++ leBytes 3 0 ++ leBytes 4 n ++ leBytes 4 count ++ leBytes 4 bad
/-- The result of a STORE_SETTINGS that stored nothing: sequence, bank and count are free values, since the spec gives none. -/
def settingsNone (s status n bad : Nat) (d : Dev) : Dev :=
  let r := settingsResult (freeNat d) (freeNat (nextFree d)) n (freeNat (nextFree (nextFree d))) bad
  cmdFinal s status r (nextFree (nextFree (nextFree d)))
/-- The first store leaves the controller. -/
def csPop (d : Dev) : Dev := wrB (csSet (fun c => { c with queue := c.queue.drop 1, again := false }) d) Reg.CS_STATUS_BUSY false
/-- The first store fails: counted, and the command it belongs to completed; a COMMIT burns its fuses without the copy (R473, R501). -/
def csFail (s : CsStore) (d : Dev) : Dev :=
  let d := inc (csPop d) Reg.CS_STORES_FAILED
  match s.cmd with
  | none => d
  | some c => match s.rollback with
    | some n => commitEnd n c d
    | none => settingsNone c St.SETTINGS_NV_FAIL s.recs.length 0xFFFFFFFF d
/-- A store arrives at the controller. -/
def csArrive (s : CsStore) (d : Dev) : Dev := csSet (fun c => { c with queue := c.queue ++ [s] }) d
/-- CAISSON_STORE_START: the first store that waits starts: BUSY, and the inactive bank's check is cleared; while FROZEN it fails
without writing (R473). It waits during a halt of pair 6 and does not start after step 3 of R52. -/
def csStart (d : Dev) : Dev :=
  match d.cs.queue.head? with
  | none => d
  | some s =>
    if flag d Reg.CS_STATUS_BUSY ∨ pairHalted d 6 ∨ d.hm.powerFail then d
    else if flag d Reg.CS_STATUS_FROZEN then csFail s d
    else
      let k := csTarget d
      let b := csBank d k
      wrB (csSet (fun c => { c with banks := mput c.banks k { b with valid := false, reason := 2 } }) d) Reg.CS_STATUS_BUSY true
/-- The bank that a store writes. -/
def csBuild (s : CsStore) (d : Dev) : CsBank :=
  ⟨true, 0, csNextSeq d, s.recs.foldl (fun m e => mput m e.1 e.2) (csRecs d), s.rollback.getD (rd d Reg.CS_ROLLBACK),
    min (rd d Reg.CS_LOSS + s.loss) 0xFFFFFFFF⟩
/-- A store has been read back without a difference: its bank comes into force (R473 step 5). -/
def csGood (s : CsStore) (d : Dev) : Dev :=
  let k := csTarget d
  let b := csBuild s d
  let d := csPop (csSet (fun c => { c with banks := mput c.banks k b, inForce := true }) d)
  let d := wr (wr (wr d Reg.CS_STATUS_ACTIVE k) Reg.CS_SEQ b.seq) Reg.CS_RECORDS_COUNT b.recs.length
  let d := wr (wr (wr d Reg.CS_ROLLBACK b.rollback) Reg.UP_ROLLBACK_COPY b.rollback) Reg.CS_LOSS b.loss
  let d := incW (setBitF d Reg.CS_STATUS_VALID k) Reg.CS_STORES_DONE
  let d := record Ev.CS_STORED [.q b.seq, .w k, .w b.recs.length, .w s.origin] d
  match s.cmd with
  | none => d
  | some c => match s.rollback with
    | some n => commitEnd n c d
    | none => cmdFinal c St.OK (settingsResult b.seq k s.recs.length b.recs.length 0xFFFFFFFF) d
/-- A read-back differs at an offset: recorded; the store is repeated once, then its bank is marked failed and stores are frozen
(R473). -/
def csBad (s : CsStore) (off : Nat) (d : Dev) : Dev :=
  let k := csTarget d
  let d := wr (wr d Reg.CS_FAIL_ADDR_BANK k) Reg.CS_FAIL_ADDR_OFFSET off
  let d := record Ev.CS_STORE_FAIL [.w k, .w off, .w s.origin] d
  if d.cs.again then
    let d := wrB (setBitF (clrBitF d Reg.CS_STATUS_VALID k) Reg.CS_STATUS_FAILED k) Reg.CS_STATUS_FROZEN true
    csFail s (record Ev.CS_BANK_FAILED [.w k] d)
  else csSet (fun c => { c with again := true }) d
/-- CAISSON_STORE_DONE: the running store has been read back, with the offset of the first differing word if one differs. -/
def csDone (failAt : Option Nat) (d : Dev) : Dev :=
  match d.cs.queue.head? with
  | none => d
  | some s =>
    if !flag d Reg.CS_STATUS_BUSY ∨ pairHalted d 6 then d
    else match failAt with
      | none => csGood s d
      | some off => csBad s off d

/-! ## STORE_SETTINGS and Caisson requests (R475, R476) -/

/-- The records of a payload. -/
def recordsOf : Nat → List Byte → List (Nat × Nat)
  | 0, _ => []
  | n + 1, l => (ofBytes (l.take 4), ofBytes ((l.drop 4).take 4)) :: recordsOf n (l.drop 8)
/-- The records of a STORE_SETTINGS. -/
def cmdRecords (c : HiCmd) : List (Nat × Nat) := recordsOf (c.payload.length / 8) c.payload
/-- The index of the first record out of range, 0xFFFF_FFFF for none. -/
def firstBad (l : List (Nat × Nat)) : Nat := (l.findIdx? fun e => !recordInRange e.1 e.2).getD 0xFFFFFFFF
/-- STORE_SETTINGS executed (R476): every value checked against its ranges; a store without voted records goes to the controller, one
with them to the lowest-numbered enabled class or the next control exchange. -/
def settingsRun (c : HiCmd) (d : Dev) : Dev :=
  let l := cmdRecords c
  let bad := firstBad l
  if bad ≠ 0xFFFFFFFF then settingsNone c.seq St.SETTINGS_RANGE l.length bad d
  else if !bitOf (argB c.desc 0) 0 then settingsNone c.seq St.OK l.length bad d
  else if l.any fun e => recordVoted e.1 then cmdSet c.seq (fun c => { c with phase := .toClass ((lowestClass d).getD 0) }) d
  else csArrive ⟨0, l, some c.seq, none, 0⟩ (cmdSet c.seq (fun c => { c with phase := .waiting }) d)
/-- The records of STORE_SETTINGS commands agreed at a control exchange: posted, released and arrived as one store each (R476). -/
def settingsExchange (d : Dev) : Dev :=
  let l := d.hi.cmds.filter fun c => c.desc.op == 0x000A && match c.phase with
    | .toClass _ => true
    | _ => false
  forEach l (fun c d => csArrive ⟨0, cmdRecords c, some c.seq, none, 0⟩ (cmdSet c.seq (fun c => { c with phase := .waiting }) d)) d
/-- A released request of unit 4: a record of its class cycle's store (R475). -/
def csRequest (cls cycle key value : Nat) (d : Dev) : Dev :=
  let old := match mget d.cs.forming cls with
    | some (n, l) => if n = cycle then l else []
    | none => []
  csSet (fun c => { c with forming := mput c.forming cls (cycle, old ++ [(key, value)]) }) d
/-- The STORE_SETTINGS that waits for the records of a store. -/
def csOwner (d : Dev) (l : List (Nat × Nat)) : Option Nat :=
  (d.hi.cmds.find? fun c => c.desc.op == 0x000A && c.phase == .waiting && !(d.cs.queue.any fun q => q.cmd == some c.seq) &&
    (cmdRecords c).all fun e => l.contains e).map (·.seq)
/-- The requests of a class cycle are all released: their store arrives (R475). -/
def csFormed (cls cycle : Nat) (d : Dev) : Dev :=
  match mget d.cs.forming cls with
  | none => d
  | some (n, l) =>
    if n ≠ cycle then d
    else
      let owner := csOwner d l
      csArrive ⟨if owner.isSome then 0 else 1, l, owner, none, 0⟩ (csSet (fun c => { c with forming := mdel c.forming cls }) d)

/-! ## Bank choice at boot (R471, R478) -/

/-- A field loaded from its record, or its default where the value is out of range (R471). -/
def csLoadField (key word : Nat) (f : Fld) (d : Dev) : Dev :=
  let v := bitField word f.lo f.w
  if inRange f.w f.rng v then wr d f v
  else wr (inc (record Ev.CS_VALUE_DEFAULT [.w key, .w word] (wr d f f.rst)) Reg.CS_DEFAULTED_COUNT) Reg.CS_DEFAULT_KEY key
/-- The records of a bank loaded. -/
def csLoad (b : CsBank) (d : Dev) : Dev :=
  forEach b.recs (fun e d =>
    if dataKey e.1 then csSet (fun c => { c with data := mput c.data e.1 e.2 }) d
    else forEach (keyFields e.1) (csLoadField e.1 e.2) d) d
/-- A bank found invalid, with event 0x8201. -/
def csInvalid (k reason : Nat) (d : Dev) : Dev := record Ev.CS_BANK_INVALID [.w k, .w reason] (clrBitF d Reg.CS_STATUS_VALID k)
/-- A bank comes into force at boot. -/
def csTake (k : Nat) (d : Dev) : Dev :=
  let b := csBank d k
  let d := wr (wr (wr d Reg.CS_STATUS_ACTIVE k) Reg.CS_SEQ b.seq) Reg.CS_RECORDS_COUNT b.recs.length
  let d := wr (wr (wr d Reg.CS_ROLLBACK b.rollback) Reg.UP_ROLLBACK_COPY b.rollback) Reg.CS_LOSS b.loss
  csLoad b (csSet (fun c => { c with inForce := true }) d)
/-- Boot step 6: a bank chosen and every Caisson field loaded (R478). A bank marked failed is not read. -/
def csChoose (d : Dev) : Dev :=
  let usable (k : Nat) : Bool := !bitF d Reg.CS_STATUS_FAILED k
  let ok (k : Nat) : Bool := usable k && (csBank d k).valid
  let d := wr (wrB (csSet (fun c => { c with inForce := false, data := [] }) d) Reg.CS_STATUS_DEFAULTS false) Reg.CS_STATUS_VALID
    (b2n (ok 0) + 2 * b2n (ok 1))
  let bad (k : Nat) (d : Dev) : Dev := if usable k then csInvalid k (csBank d k).reason d else d
  if ok 0 ∧ ok 1 then
    if (csBank d 0).seq = (csBank d 1).seq then csTake 0 (csInvalid 1 3 d)
    else csTake (if (csBank d 0).seq < (csBank d 1).seq then 1 else 0) d
  else if ok 0 then csTake 0 (bad 1 d)
  else if ok 1 then csTake 1 (bad 0 d)
  else
    let high := max (if usable 0 then (csBank d 0).seq else 0) (if usable 1 then (csBank d 1).seq else 0)
    let d := wr (wr (wr (wr (wr d Reg.CS_SEQ 0) Reg.CS_RECORDS_COUNT 0) Reg.CS_ROLLBACK 0) Reg.UP_ROLLBACK_COPY 0) Reg.CS_LOSS 0
    record Ev.CS_DEFAULTS_LOADED [.q high] (wrB d Reg.CS_STATUS_DEFAULTS true)

end Sys2Proof.Machine
end

