-- ==== Sys2Proof/Machine/Recorder.lean ====
section
/-!
DEFINITION. The event recorder (spec/17) behind its intake: storing records, failed areas, notification, selection, recovery at boot, and the
event window of the host (R361).
-/
namespace Sys2Proof.Machine

/-- The recorder changed. -/
def evSet (f : EvUnit → EvUnit) (d : Dev) : Dev := { d with ev := f d.ev }
/-- Slots of the main area and of the reserve. -/
def evSlots (reserve : Bool) : Nat := if reserve then 1024 else 16384
/-- Records are written to the reserve. -/
def evInReserve (d : Dev) : Bool := flag d Reg.EV_STATUS_IN_RESERVE

/-! ## Records as they read (R453, R459) -/

/-- The first 60 bytes of a record. -/
def recHead (r : EvRec) : List Byte :=
  let e := r.e
  if r.unreadable then leBytes 8 r.num ++ List.replicate 21 0 ++ leBytes 1 8 ++ List.replicate 30 0
  else
    let flags := b2n e.summary + 2 * b2n r.reserve + 4 * b2n e.timeInvalid
    leBytes 8 r.num ++ leBytes 8 e.time ++ leBytes 4 e.opSeconds ++ leBytes 4 e.powerCycles ++ leBytes 2 e.code ++ leBytes 1 e.sev ++
      leBytes 1 e.src ++ leBytes 1 e.pier ++ leBytes 1 flags ++ leBytes 2 e.count ++ (e.data ++ List.replicate 28 0).take 28
/-- The 64 bytes of a record. -/
def recBytes (r : EvRec) : List Byte := recHead r ++ leBytes 4 (crc32 (recHead r))
/-- The record of a number, if it is held (R462). -/
def evHeld (d : Dev) (n : Nat) : Option EvRec :=
  if n < rd d Reg.EV_OLDEST ∨ rd d Reg.EV_NEXT ≤ n then none
  else if evInReserve d ∧ d.ev.reserveFirst ≤ n then mget d.ev.reserve n else mget d.ev.main n
/-- Word `k` of a record's number; zeros where it is not held (R465). -/
def evWord (d : Dev) (n k : Nat) : Nat :=
  match evHeld d n with
  | none => 0
  | some r => ofBytes (((recBytes r).drop (4 * k)).take 4)
/-- The lowest number held in either area, NEXT if none. -/
def evLowest (d : Dev) : Nat :=
  let old := rd d Reg.EV_OLDEST
  match (d.ev.main ++ d.ev.reserve).find? fun e => decide (old ≤ e.1) with
  | none => rd d Reg.EV_NEXT
  | some e => e.1

/-! ## Storing (R455, R458, R462 to R464) -/

/-- The floor of record numbers raised where needed (R458). -/
def evFloor (r : Nat) (d : Dev) : Dev :=
  if d.bp.evFloor < r + 512 then bpSet (fun b => { b with evFloor := r + 1024 }) d else d
/-- Vector 8 and the 1 ms hold after it (R464). -/
def evMessage (d : Dev) : Dev := msix 8 (evSet (fun e => { e with hold := true, holdPend := false }) d)
/-- The notification of a stored record. -/
def evNotify (sev : Nat) (d : Dev) : Dev :=
  if sev < rd d Reg.EV_CFG_NOTIFY_SEV then d
  else if d.ev.hold then evSet (fun e => { e with holdPend := true }) d
  else evMessage d
/-- A record of the next number written into the area in use, over the slot's old one. -/
def evWrite (e : EvEntry) (d : Dev) : Dev :=
  let r := rd d Reg.EV_NEXT
  let res := evInReserve d
  let d := evFloor r d
  let put (m : NMap EvRec) : NMap EvRec := mput (mdel m (r - evSlots res)) r ⟨r, e, res, false⟩
  let d := evSet (fun u => if res then { u with reserve := put u.reserve } else { u with main := put u.main }) d
  let d := wr d Reg.EV_NEXT (r + 1)
  wr d Reg.EV_OLDEST (evLowest d)
/-- The first entry leaves the intake; where drops came before, record 0x8103 takes the space (R455). -/
def evPop (d : Dev) : Dev := intakeOverflow (evSet (fun u => { u with intake := u.intake.drop 1, retry := false }) d)
/-- The first entry stored. -/
def evStored (e : EvEntry) (d : Dev) : Dev := evNotify e.sev (evPop (evWrite e d))
/-- The main area fails (R462): read-only, records go to the reserve, the failure itself first, vector 8 at once. -/
def evMainFail (d : Dev) : Dev :=
  let r := rd d Reg.EV_NEXT
  let off := r % 16384 * 64
  let d := wrB (wrB d Reg.EV_STATUS_MAIN_FAIL true) Reg.EV_STATUS_IN_RESERVE true
  let d := wr (wr d Reg.EV_FAIL_ADDR_AREA 0) Reg.EV_FAIL_ADDR_OFFSET off
  let e := stamp d Ev.EV_MEM_FAIL 4 13 3 1 false (evData [.w 0, .w off, .q r])
  let d := evSet (fun u => { u with intake := e :: u.intake, retry := false, reserveFirst := r, main := mdel u.main (r - 16384) }) d
  evMessage (wr d Reg.EV_OLDEST (evLowest d))
/-- An event that finds both areas failed (R463). -/
def evLose (d : Dev) : Dev := evPop (inc d Reg.EV_LOST)
/-- The reserve fails too (R463): the Caisson's loss count, a notice, vector 8. -/
def evReserveFail (d : Dev) : Dev :=
  let off := rd d Reg.EV_NEXT % 1024 * 64
  let d := wr (wr (wrB d Reg.EV_STATUS_RESERVE_FAIL true) Reg.EV_FAIL_ADDR_AREA 1) Reg.EV_FAIL_ADDR_OFFSET off
  let d := csArrive ⟨2, [], none, none, 1⟩ d
  evLose (evMessage (notice St.RECORDER_LOST d))
/-- The recorder can write: recovery has ended, pair 6 is not halted, step 3 of R52 has not come. -/
def evReady (d : Dev) : Bool := flag d Reg.EV_STATUS_RECOVERED && !pairHalted d 6 && !d.hm.powerFail
/-- RECORD_STORE: the next record written and read back; 0 equal, 1 the verify fails, 2 an uncorrectable error in the slot (R455,
R462, R463). -/
def recordStore (outcome : Nat) (d : Dev) : Dev :=
  match d.ev.intake.head? with
  | none => d
  | some e =>
    if !evReady d then d
    else if flag d Reg.EV_STATUS_RESERVE_FAIL then evLose d
    else if outcome = 0 then evStored e d
    else if outcome = 1 ∧ !d.ev.retry then evSet (fun u => { u with retry := true }) (evFloor (rd d Reg.EV_NEXT) d)
    else if evInReserve d then evReserveFail d else evMainFail d
/-- The power-fail record of R461: a record begun is finished, the rest of the intake is discarded, record 0x9001 is written. -/
def evPowerFail (vin : Nat) (d : Dev) : Dev :=
  let live := flag d Reg.EV_STATUS_RECOVERED && !flag d Reg.EV_STATUS_RESERVE_FAIL
  let d := match (if d.ev.retry ∧ live then d.ev.intake.head? else none) with
    | none => d
    | some e => evWrite e (evSet (fun u => { u with intake := u.intake.drop 1, retry := false }) d)
  let n := d.ev.intake.length
  let d := evSet (fun u => { u with intake := [], dropN := 0, retry := false }) d
  if live then
    evNotify 4 (evWrite (stamp d Ev.POWER_FAIL 4 16 3 1 false
      (leBytes 2 vin ++ leBytes 2 0 ++ leBytes 4 n ++ leBytes 4 (rd d Reg.MCTL_OP_SECONDS))) d)
  else if flag d Reg.EV_STATUS_RESERVE_FAIL then inc d Reg.EV_LOST else d

/-! ## Limits, hold, selection (R456, R457, R464, R465) -/

/-- TOKEN_REFILL: a token for a code's bucket; a full one stores the code's summary (R456, R457). -/
def tokenRefill (code : Nat) (d : Dev) : Dev :=
  match mget d.ev.buckets code, bucketBurst d code with
  | some t, some burst =>
    if t + 1 < burst then evSet (fun u => { u with buckets := mput u.buckets code (t + 1) }) d
    else summarize code (evSet (fun u => { u with buckets := mdel u.buckets code }) d)
  | _, _ => d
/-- NOTIFY_HOLD_EXPIRY (R464). -/
def notifyExpiry (d : Dev) : Dev :=
  if !d.ev.hold then d else if d.ev.holdPend then evMessage d else evSet (fun u => { u with hold := false }) d
/-- EV_SEL_WRITE: the upper half waits for the lower, which takes effect (R465). -/
def evSelWrite (high : Bool) (v : Nat) (d : Dev) : Dev :=
  if high then evSet (fun u => { u with selHi := trunc 32 v }) d else wr d Reg.EV_SEL (d.ev.selHi * 2 ^ 32 + trunc 32 v)
/-- EVENT_INTAKE: a source delivers an event of a system code with its Pier number (R455). -/
def eventIntake (code pier : Nat) (items : List Item) (d : Dev) : Dev := recordSev (sevOf code) code pier items d

/-! ## Recovery at boot (R458, R463) -/

/-- The number at which the unbroken run that ends below `n` begins, in a table whose numbers rise. -/
def runStart (n : Nat) : List (Nat × EvRec) → Nat
  | [] => n
  | e :: r =>
    let s := runStart n r
    if e.1 + 1 = s then e.1 else s
/-- The recovery of boot step 3; the records of the given numbers are found corrupt, or hold an uncorrectable error behind their
number. -/
def evRecover (corrupt unreadable : List Nat) (d : Dev) : Dev :=
  let keep (failed : Bool) (m : NMap EvRec) : NMap EvRec :=
    if failed then []
    else (m.filter fun e => !corrupt.contains e.1).map fun e => (e.1, if unreadable.contains e.1 then { e.2 with unreadable := true } else e.2)
  let main := keep (flag d Reg.EV_STATUS_MAIN_FAIL) d.ev.main
  let res := keep (flag d Reg.EV_STATUS_RESERVE_FAIL) d.ev.reserve
  let bad := (if flag d Reg.EV_STATUS_MAIN_FAIL then 0 else (d.ev.main.filter fun e => corrupt.contains e.1).length) +
    (if flag d Reg.EV_STATUS_RESERVE_FAIL then 0 else (d.ev.reserve.filter fun e => corrupt.contains e.1).length)
  let all := main ++ res
  let next := match all.getLast? with
    | none => d.bp.evFloor
    | some e => e.1 + 1
  let old := runStart next all
  let d := evSet (fun u => { u with main := main, reserve := res }) d
  let d := wr (wr (wr d Reg.EV_NEXT next) Reg.EV_OLDEST old) Reg.EV_CORRUPT_COUNT bad
  wrB (record Ev.EV_RECOVERED [.q next, .q old, .w bad] d) Reg.EV_STATUS_RECOVERED true

/-! ## The event window (R361, R460) -/

/-- The next record held at or above a number, NEXT if none. -/
def evNextHeld (d : Dev) (n : Nat) : Nat :=
  match (d.ev.main ++ d.ev.reserve).find? fun e => decide (n ≤ e.1) && (evHeld d e.1).isSome with
  | none => rd d Reg.EV_NEXT
  | some e => e.1
/-- EVW_CURSOR_WRITE: the upper half waits; the lower sets the cursor, clamped to NEXT. -/
def evwWrite (high : Bool) (v : Nat) (d : Dev) : Dev :=
  if high then hiSet (fun h => { h with evwHi := trunc 32 v }) d
  else
    let n := d.hi.evwHi * 2 ^ 32 + trunc 32 v
    if rd d Reg.EV_NEXT < n then wrB (wr d Reg.HI_EVW_CURSOR (rd d Reg.EV_NEXT)) Reg.HI_EVW_STATUS_CLAMPED true
    else wr d Reg.HI_EVW_CURSOR n
/-- The cursor moved from a number that is not held to the next that is, with the records passed over counted. -/
def evwMove (d : Dev) : Dev :=
  let c := rd d Reg.HI_EVW_CURSOR
  let n := evNextHeld d c
  if c < n then incBy (wr d Reg.HI_EVW_CURSOR n) Reg.HI_EVW_STATUS_SKIPPED (n - c) else d
/-- EVW_READ: words of the record at the cursor from a byte offset of the window, PEEK at 0x040 or READ at 0x080; a READ of the last
word advances the cursor. -/
def evwRead (off words : Nat) (d : Dev) : Dev :=
  if off < 0x040 ∨ 0x0C0 < off + 4 * words ∨ off % 4 ≠ 0 ∨ words = 0 then d
  else
    let d := evwMove d
    let c := rd d Reg.HI_EVW_CURSOR
    let d := forEach (List.range words) (fun i d =>
      emit (.read (0xB2400000 + off + 4 * i) (evWord d c ((off + 4 * i) / 4 % 16))) d) d
    if 0x080 ≤ off ∧ off + 4 * words = 0x0C0 ∧ c < rd d Reg.EV_NEXT then wr d Reg.HI_EVW_CURSOR (c + 1) else d

end Sys2Proof.Machine
end

