-- ==== Sys2Proof/Machine/UpdateOps.lean ====
section
/-!
DEFINITION. Firmware update (spec/19): slots, package entries, the hops of a package's forwarding, the decision to install.
-/
namespace Sys2Proof.Machine

/-- The Update unit changed. -/
def updSet (f : UpdUnit → UpdUnit) (d : Dev) : Dev := { d with upd := f d.upd }
/-- An event of the update unit with vector 13 (R503). -/
def updEvent (code : Nat) (items : List Item) (d : Dev) : Dev := msix 13 (record code items d)
/-- Boot step 11 has ended, so installs may start (R496). -/
def bootDone (d : Dev) : Bool := decide (11 ≤ rd d Reg.MCTL_BOOT_STEP)
/-- Relay and staging run from boot step 8 on (R496). -/
def relayRuns (d : Dev) : Bool := decide (8 ≤ rd d Reg.MCTL_BOOT_STEP)

/-! ## Slots (R481, R484) -/

/-- The longest image of a slot (R481). -/
def imageMost : Nat := 67104768
/-- A header with no content. -/
def hdrNone : SlotHdr := ⟨0, 0, 0, 0, 0, 0, 0⟩
/-- A slot. -/
def upSlot (d : Dev) (s : Nat) : UpSlot := mgetD d.upd.slots s ⟨hdrNone, false, false, false, []⟩
/-- The slot that booted. -/
def slotBooted (d : Dev) : Nat := rd d Reg.MCTL_BOOT_SLOT
/-- The other slot. -/
def slotOther (d : Dev) : Nat := 1 - slotBooted d
/-- A slot changed, with its registers. -/
def slotPut (s : Nat) (x : UpSlot) (d : Dev) : Dev :=
  let d := updSet (fun u => { u with slots := mput u.slots s x }) d
  let v (n : Nat) : Nat := if x.valid then n else 0
  let d := wrB (wr d (Reg.UP_SLOT_REL s) (v x.hdr.release)) (Reg.UP_SLOT_INFO_VALID s) x.valid
  let d := wrB (wr d (Reg.UP_SLOT_INFO_PROTO s) (v x.hdr.proto)) (Reg.UP_SLOT_INFO_REFUSED s) x.refused
  wr (wr d (Reg.UP_SLOT_INFO_KEY s) (v x.hdr.key)) (Reg.UP_SLOT_INFO_SEC s) (v x.hdr.sec)

/-! ## Package entries (R487, R488, R490) -/

/-- A manifest follows R487. -/
def manifestOk (m : Manifest) : Bool :=
  m.fixedOk && decide (1 ≤ m.chunks) && decide (m.chunks ≤ 1024) && decide (1 ≤ m.dataLen) && decide (m.dataLen ≤ 33554432) &&
    m.chunks == ceilDiv m.dataLen 32768 && m.hdr.hash == m.targetHash
/-- The tag of an identity. -/
def tagOf (identity : Nat) : Nat := identity % 2 ^ 32
/-- A package entry. -/
def pkgOf (d : Dev) (k : Nat) : Option UpPkg := mget d.upd.pkgs k
/-- The entry that holds an identity. -/
def pkgFind (d : Dev) (identity : Nat) : Option Nat := (d.upd.pkgs.find? fun e => e.2.man.identity == identity).map (·.1)
/-- Chunks held. -/
def heldCount (p : UpPkg) : Nat := (bitsOf p.man.chunks p.held).length
/-- Every chunk is held. -/
def heldAll (p : UpPkg) : Bool := heldCount p == p.man.chunks
/-- The bytes of a chunk held. -/
def chunkBytes (p : UpPkg) (i : Nat) : List Byte := mgetD p.data i []
/-- A chunk held with its bytes; one held already keeps them (R491). -/
def chunkHold (i : Nat) (b : List Byte) (p : UpPkg) : UpPkg :=
  { p with held := bitSet p.held i, data := if bitOf p.held i then p.data else mput p.data i b }
/-- The delta data of a package: its chunks in order (R487). -/
def deltaData (p : UpPkg) : List Byte := (List.range p.man.chunks).flatMap (chunkBytes p)
/-- The lowest chunk not held; the chunk count where all are. -/
def nextWanted (p : UpPkg) : Nat := ((List.range p.man.chunks).find? fun i => !bitOf p.held i).getD p.man.chunks
/-- A hop: 0 UP, 1 DOWN, 2 partner. -/
def hopOf (p : UpPkg) (h : Nat) : UpHop := if h = 0 then p.up else if h = 1 then p.down else p.partner
/-- A hop replaced. -/
def hopPut (h : Nat) (x : UpHop) (p : UpPkg) : UpPkg :=
  if h = 0 then { p with up := x } else if h = 1 then { p with down := x } else { p with partner := x }
/-- A hop not wanted. -/
def hopNone : UpHop := ⟨false, false, 0, 0, 0, 0, 0, 0, 0, false⟩
/-- Forwarding along the ETB has ended in every direction wanted. -/
def etbDone (p : UpPkg) : Bool := (p.up.want || p.down.want) && (!p.up.want || p.up.done) && (!p.down.want || p.down.done)
/-- The partner holds the package, or there is none. -/
def partnerDone (d : Dev) (p : UpPkg) : Bool := simplex d || p.partner.done
/-- The hop that the registers show: the one still at work, else the one wanted. -/
def hopShown (p : UpPkg) : UpHop :=
  if p.up.want && !p.up.done then p.up else if p.down.want && !p.down.done then p.down else if p.up.want then p.up else p.down
/-- The registers of an entry. -/
def pkgShow (k : Nat) (d : Dev) : Dev :=
  let put (st dir ins org ch tag fwd held nd pd w fp np rel : Nat) (d : Dev) : Dev :=
    let d := wr (wr (wr d (Reg.UP_PKG_STATE_STATE k) st) (Reg.UP_PKG_STATE_DIR k) dir) (Reg.UP_PKG_STATE_INSTALL k) ins
    let d := wr (wr (wr d (Reg.UP_PKG_STATE_ORIGIN k) org) (Reg.UP_PKG_STATE_CHUNKS k) ch) (Reg.UP_PKG_TAG k) tag
    let d := wr (wr (wr d (Reg.UP_PKG_PROG_FWD k) fwd) (Reg.UP_PKG_PROG_HELD k) held) (Reg.UP_PKG_NEXT_NEXT_DONE k) nd
    let d := wr (wr (wr d (Reg.UP_PKG_NEXT_PARTNER_DONE k) pd) (Reg.UP_PKG_NEXT_WAITING k) w) (Reg.UP_PKG_NEXT_FROM_POS k) fp
    wr (wr d (Reg.UP_PKG_NEXT_NEXT_POS k) np) (Reg.UP_PKG_REL k) rel
  match pkgOf d k with
  | none => put 0 0 0 0 0 0 0 0 0 0 0 0 0 0 d
  | some p =>
    let h := hopShown p
    put p.state p.dir p.install (b2n p.origin) p.man.chunks (tagOf p.man.identity) h.acked (heldCount p) (b2n (etbDone p))
      (b2n (partnerDone d p)) (b2n (p.up.waiting || p.down.waiting)) p.from_ h.pos p.man.hdr.release d
/-- An entry set. -/
def pkgPut (k : Nat) (p : UpPkg) (d : Dev) : Dev := pkgShow k (updSet (fun u => { u with pkgs := mput u.pkgs k p }) d)
/-- An entry changed, if it is not EMPTY. -/
def pkgSet (k : Nat) (f : UpPkg → UpPkg) (d : Dev) : Dev :=
  match pkgOf d k with
  | none => d
  | some p => pkgPut k (f p) d
/-- An entry made EMPTY. -/
def pkgDrop (k : Nat) (d : Dev) : Dev := pkgShow k (updSet (fun u => { u with pkgs := mdel u.pkgs k }) d)
/-- An entry is being installed or waits for that. -/
def pkgInstalling (d : Dev) (k : Nat) : Bool :=
  (d.upd.installing.map fun x => x.1 == k).getD false || d.upd.waiting.any fun x => x.1 == k
/-- The entry a new package takes (R490). -/
def pkgChoose (d : Dev) : Option Nat :=
  match (List.range 4).find? fun k => (pkgOf d k).isNone with
  | some k => some k
  | none =>
    let l := d.upd.pkgs.filter fun e => e.2.state == 2 && etbDone e.2 && partnerDone d e.2 && !pkgInstalling d e.1
    let old := l.foldl (fun (m : Option (Nat × UpPkg)) e => match m with
      | none => some e
      | some x => if e.2.age < x.2.age then some e else some x) none
    old.map (·.1)
/-- A new package in an entry, nothing of it held. -/
def pkgNew (k : Nat) (m : Manifest) (origin : Bool) (from_ : Nat) (dir : Nat) (sender : Option Nat) (d : Dev) : Dev :=
  let n := d.upd.count
  pkgPut k ⟨m, 0, 1, dir, 0, origin, from_, sender, hopNone, hopNone, hopNone, n, []⟩ (updSet (fun u => { u with count := n + 1 }) d)

/-! ## Hops (R493 to R495) -/

/-- The consist position of a hop UP or DOWN `n` consists away, none beyond the train's end or without a directory. -/
def hopPos (d : Dev) (h n : Nat) : Option Nat :=
  let own := rd d Reg.TE_STATUS_OWN_POS
  if own = 0 then none
  else if h = 0 then (if own + n ≤ rd d Reg.TE_STATUS_CONSISTS then some (own + n) else none)
  else if n < own then some (own - n) else none
/-- A hop of an entry changed. -/
def hopSet (k h : Nat) (f : UpHop → UpHop) (d : Dev) : Dev := pkgSet k (fun p => hopPut h (f (hopOf p h)) p) d
/-- An offer sent to the position of a hop; to the partner while a lane is up. -/
def hopOffer (k h : Nat) (d : Dev) : Dev :=
  match pkgOf d k with
  | none => d
  | some p =>
    let x := hopOf p h
    let d := hopSet k h (fun x => { x with phase := 1, unans := 0, waiting := false }) d
    if h = 2 ∧ !linkUp d then d else emit (.upOffer h x.pos (h + 1) p.man.identity) d
/-- Forwarding in one direction started or resumed (R493): the nearest consist is offered the package; without one the hop is done. -/
def hopStart (k h : Nat) (d : Dev) : Dev :=
  match pkgOf d k with
  | none => d
  | some p =>
    let old := hopOf p h
    if old.want ∧ old.done then d
    else match hopPos d h 1 with
      | none => hopSet k h (fun x => { x with want := true, done := true, pos := 0, phase := 0, waiting := false }) d
      | some pos =>
        let d := hopSet k h (fun x => { x with want := true, pos := pos, repeats := 0, skipped := 0 }) d
        hopOffer k h (updEvent Ev.UPD_RELAY_START [.w (tagOf p.man.identity), .w (h + 1), .w pos, .w p.from_] d)
/-- The partner offered the package (R493). -/
def hopPartner (k : Nat) (d : Dev) : Dev :=
  if simplex d then d
  else match pkgOf d k with
    | none => d
    | some p =>
      if p.partner.done then d else hopOffer k 2 (hopSet k 2 (fun x => { x with want := true, repeats := 0 }) d)
/-- Forwarding in the directions of a code 1 UP, 2 DOWN, 3 BOTH, and to the partner. -/
def pkgForward (k dir : Nat) (d : Dev) : Dev :=
  let d := if bitOf dir 0 then hopStart k 0 d else d
  let d := if bitOf dir 1 then hopStart k 1 d else d
  hopPartner k d
/-- A hop done. -/
def hopDone (k h : Nat) (d : Dev) : Dev :=
  match pkgOf d k with
  | none => d
  | some p =>
    let x := hopOf p h
    let d := hopSet k h (fun x => { x with done := true, phase := 0, unans := 0, waiting := false, acked := p.man.chunks }) d
    if h = 2 then d else updEvent Ev.UPD_RELAY_DONE [.w (tagOf p.man.identity), .w x.pos, .w x.skipped] d
/-- A hop waits 30 s before the nearest consist is offered the package again (R494); event 0x8305 where an attempt has ended. -/
def hopWait (ended : Bool) (k h : Nat) (d : Dev) : Dev :=
  match pkgOf d k with
  | none => d
  | some p =>
    let x := hopOf p h
    let d := hopSet k h (fun x => { x with phase := 0, unans := 0, repeats := 0, waiting := true }) d
    if h = 2 ∨ !ended then d else updEvent Ev.UPD_HOP_WAIT [.w (tagOf p.man.identity), .w x.pos] d
/-- An attempt ends: the consist after that one is offered the package, while SKIP_MAX allows and there is one; else the wait (R494). -/
def hopNext (k h : Nat) (d : Dev) : Dev :=
  match pkgOf d k with
  | none => d
  | some p =>
    let x := hopOf p h
    match (if h < 2 ∧ x.skipped < rd d Reg.UP_CFG_SKIP_MAX then hopPos d h (x.skipped + 2) else none) with
    | none => hopWait true k h d
    | some pos => hopOffer k h (hopSet k h (fun x => { x with pos := pos, skipped := x.skipped + 1, repeats := 0, next := 0, acked := 0 }) d)

/-! ## The delta (R489) -/

/-- A record of delta data, with what follows it: the bytes of the base that a COPY appends or the bytes that a DATA carries; none for a
record of another kind or with bytes 1 to 3 not zero, a COPY beyond the base, or data that end within the record. -/
def deltaRecord (base l : List Byte) : Option (List Byte × List Byte) :=
  let n := ofBytes ((l.drop 4).take 4)
  let off := ofBytes ((l.drop 8).take 4)
  match ofBytes (l.take 4) with
  | 1 => if l.length < 12 ∨ base.length < off + n then none else some ((base.drop off).take n, l.drop 12)
  | 2 => if l.length < 8 + ceilDiv n 8 * 8 then none else some ((l.drop 8).take n, l.drop (8 + ceilDiv n 8 * 8))
  | _ => none
/-- The records of delta data applied in order to a base image; `done` is the target so far, and every record takes at least 8 bytes, so
that a bound of the data's length serves them all. None where the install fails. -/
def deltaApply (base : List Byte) : Nat → List Byte → List Byte → Option (List Byte)
  | _, done, [] => some done
  | 0, _, _ :: _ => none
  | n + 1, done, b :: l =>
    match deltaRecord base (b :: l) with
    | none => none
    | some (t, rest) => if imageMost < done.length + t.length then none else deltaApply base n (done ++ t) rest
/-- The target image that a package gives on the base of the slot that booted (R489, R498 step 2). -/
def targetImage (p : UpPkg) (d : Dev) : Option (List Byte) :=
  deltaApply (upSlot d (slotBooted d)).image p.man.dataLen [] (deltaData p)

/-! ## Installing (R497, R498) -/

/-- The end of an INSTALL command. -/
def installCmd (cmd : Option Nat) (status : Nat) (d : Dev) : Dev :=
  match cmd with
  | none => d
  | some s => cmdFinal s status [] d
/-- The decision of R497: 0 not started, 1 waits, 2 INSTALLED without writing, 3 the install runs, 4 NOT_APPLICABLE. -/
def installChoice (p : UpPkg) (auto : Bool) (d : Dev) : Nat :=
  let o := upSlot d (slotOther d)
  if d.bp.slotPref = slotOther d then 0
  else if d.upd.installing.isSome ∨ !bootDone d then 1
  else if o.valid ∧ o.hdr.hash = p.man.targetHash then 2
  else if auto ∧ o.valid ∧ o.written then 0
  else if (upSlot d (slotBooted d)).hdr.hash = p.man.baseHash then 3
  else 4
/-- The install of R498 begins: the header of the slot that did not boot is erased. -/
def installBegin (k : Nat) (cmd : Option Nat) (d : Dev) : Dev :=
  let s := slotOther d
  let d := slotPut s { upSlot d s with hdr := hdrNone, valid := false, image := [] } d
  let d := wr (wrB d Reg.UP_STATUS_INSTALLING true) Reg.UP_STATUS_INSTALL_PKG k
  updSet (fun u => { u with installing := some (k, d.clk, cmd) }) d
/-- A package considered for installing, automatically or by INSTALL (R497). -/
def installDecide (k : Nat) (cmd : Option Nat) (auto : Bool) (d : Dev) : Dev :=
  match pkgOf d k with
  | none => installCmd cmd St.UPDATE_NO_PACKAGE d
  | some p =>
    let c := installChoice p auto d
    if c = 0 then installCmd cmd St.UPDATE_SLOT_BUSY d
    else if c = 1 then updSet (fun u => { u with waiting := u.waiting ++ [(k, cmd, auto)] }) d
    else if c = 2 then installCmd cmd St.OK (pkgSet k (fun p => { p with install := 1 }) d)
    else if c = 3 then installBegin k cmd d
    else
      let d := pkgSet k (fun p => { p with install := 2 }) d
      let d := updEvent Ev.UPD_NOT_APPLICABLE
        [.w (tagOf p.man.identity), .w p.man.baseRel, .w (upSlot d (slotBooted d)).hdr.release] d
      installCmd cmd St.UPDATE_NOT_APPLICABLE d
/-- The installs and deletions that waited for the end of one. -/
def installResume (d : Dev) : Dev :=
  let w := d.upd.waiting
  let dels := d.upd.deletes
  let d := updSet (fun u => { u with waiting := [], deletes := [] }) d
  let d := forEach dels (fun e d => cmdFinal e.2 St.OK [] (pkgDrop e.1 d)) d
  forEach w (fun e d => installDecide e.1 e.2.1 e.2.2 d) d
/-- A package has become complete (R497). -/
def pkgComplete (k : Nat) (d : Dev) : Dev :=
  let d := pkgSet k (fun p => { p with state := if p.state = 1 then 2 else p.state, sender := none }) d
  if flag d Reg.UP_CFG_AUTO_INSTALL then installDecide k none true d else d

end Sys2Proof.Machine
end

