-- ==== Sys2Proof/Machine/Update.lean ====
section
/-!
DEFINITION. The commands of firmware update (spec/19): staging, relay, install, RELAY_CONTROL.
-/
namespace Sys2Proof.Machine

/-! ## Relay received (R492) -/

/-- A reply to an offer or chunk. -/
def upReply (dest identity code next : Nat) (d : Dev) : Dev := emit (.upReply dest identity code next) d
/-- An offer refused with BUSY, NO_SPACE or FORM. -/
def offerRefuse (dest identity code : Nat) (d : Dev) : Dev := upReply dest identity code 0 (inc d Reg.UP_ERR_OFFERS_REFUSED)
/-- Forwarding of a package received from a sender: in its direction with AUTO_FWD, and to the partner; from the partner, none (R493,
R496). -/
def offerForward (k dest dir : Nat) (d : Dev) : Dev :=
  if dest = 0 then d else pkgForward k (if flag d Reg.UP_CFG_AUTO_FWD then dir else 0) d
/-- OFFER_RECEIVED from the module at a consist position, 0 for the partner. -/
def offerReceived (dest dir : Nat) (m : Manifest) (d : Dev) : Dev :=
  if !relayRuns d then d
  else if !manifestOk m ∨ !(dir = 1 ∨ dir = 2) then offerRefuse dest m.identity 4 d
  else match pkgFind d m.identity with
    | some k =>
      match pkgOf d k with
      | none => d
      | some p =>
        if heldAll p then
          offerForward k dest dir (upReply dest m.identity 1 p.man.chunks d)
        else if p.sender.isSome ∧ p.sender ≠ some dest then offerRefuse dest m.identity 2 d
        else
          let d := pkgSet k (fun p => { p with sender := some dest, from_ := dest, dir := dir, state := if p.state = 3 then 3 else 1 }) d
          offerForward k dest dir (upReply dest m.identity 0 (nextWanted p) d)
    | none =>
      match pkgChoose d with
      | none => offerRefuse dest m.identity 3 d
      | some k => offerForward k dest dir (upReply dest m.identity 0 0 (pkgNew k m false dest dir (some dest) d))
/-- CHUNK_RECEIVED: a chunk whose hash agrees, with its data, is held; a package whose last chunk came is complete. -/
def chunkReceived (dest identity index : Nat) (data : Option (List Byte)) (d : Dev) : Dev :=
  match (pkgFind d identity).bind fun k => (pkgOf d k).map fun p => (k, p) with
  | none => d
  | some (k, p) =>
    if !relayRuns d ∨ p.man.chunks ≤ index ∨ p.sender ≠ some dest then d
    else match data with
    | none =>
      let d := updEvent Ev.UPD_CHUNK_BAD [.w (tagOf identity), .w index, .w dest] (inc d Reg.UP_ERR_CHUNK_BAD)
      upReply dest identity 4 (nextWanted p) d
    | some b =>
      let q := chunkHold index b p
      let d := upReply dest identity 0 (nextWanted q) (pkgPut k q d)
      if heldAll q then pkgComplete k d else d

/-! ## Relay sent (R494, R495) -/

/-- Bytes sent on the ETB counted into UP_RATE, whose LAST takes each full second. -/
def rateCount (bytes : Nat) (d : Dev) : Dev :=
  let u := d.upd
  if d.clk < u.rateAt + second then updSet (fun u => { u with rateBytes := u.rateBytes + bytes }) d
  else
    let last := if d.clk < u.rateAt + 2 * second then u.rateBytes / 1024 else 0
    let d := maxTo (wrSat d Reg.UP_RATE_LAST last) Reg.UP_RATE_PEAK last
    updSet (fun u => { u with rateAt := d.clk, rateBytes := bytes }) d
/-- RELAY_RATE_INTERVAL: the next chunk goes to a hop, once this module has verified it and within WINDOW. -/
def rateInterval (k h : Nat) (d : Dev) : Dev :=
  match pkgOf d k with
  | none => d
  | some p =>
    let x := hopOf p h
    if !relayRuns d ∨ x.phase ≠ 2 ∨ p.state = 3 ∨ p.man.chunks ≤ x.next ∨ !bitOf p.held x.next ∨ rd d Reg.UP_CFG_WINDOW ≤ x.unans then d
    else
      let d := hopSet k h (fun x => { x with next := x.next + 1, unans := x.unans + 1 }) d
      let d := emit (.upChunk h x.pos p.man.identity x.next (chunkBytes p x.next)) d
      if h = 2 then d else rateCount (min 32768 (p.man.dataLen - 32768 * x.next)) d
/-- RELAY_REPLY of a hop: code 0 ACCEPT or the chunk's acknowledgement, 1 COMPLETE, 2 BUSY, 3 NO_SPACE, 4 FORM or a chunk of wrong
hash, 5 no listener (Me). -/
def relayReply (k h code next : Nat) (d : Dev) : Dev :=
  match pkgOf d k with
  | none => d
  | some p =>
    let x := hopOf p h
    if x.phase = 0 ∨ x.done ∨ p.state = 3 then d
    else if x.phase = 1 then
      if code = 0 then hopSet k h (fun x => { x with phase := 2, next := next, acked := next, unans := 0, repeats := 0 }) d
      else if code = 1 then hopDone k h d
      else if code = 2 ∨ code = 3 then hopWait false k h d
      else hopNext k h d
    else if code = 5 then hopNext k h d
    else if code = 0 then
      let d := hopSet k h (fun x => { x with acked := max x.acked next, unans := x.unans - 1, repeats := 0 }) d
      if p.man.chunks ≤ next then hopDone k h d else d
    else hopSet k h (fun x => { x with next := next, acked := next, unans := 0, repeats := 0 }) d
/-- RELAY_REQUEST_TIMEOUT: the request repeated; after five repeats in a row the attempt ends. -/
def relayTimeout (k h : Nat) (d : Dev) : Dev :=
  match pkgOf d k with
  | none => d
  | some p =>
    let x := hopOf p h
    if x.phase = 0 ∨ x.done ∨ p.state = 3 ∨ (x.phase = 2 ∧ x.unans = 0) then d
    else if 5 ≤ x.repeats then hopNext k h d
    else
      let d := inc (hopSet k h (fun x => { x with repeats := x.repeats + 1 }) d) Reg.UP_ERR_RETRIES
      if x.phase = 1 then emit (.upOffer h x.pos (h + 1) p.man.identity) d
      else emit (.upChunk h x.pos p.man.identity (x.next - x.unans) (chunkBytes p (x.next - x.unans))) d
/-- RELAY_WAIT_EXPIRY: after 30 s the package is offered to the nearest consist, or the partner, again. -/
def relayWaitExpiry (k h : Nat) (d : Dev) : Dev :=
  match pkgOf d k with
  | none => d
  | some p =>
    if !(hopOf p h).waiting ∨ p.state = 3 then d
    else if h = 2 then hopOffer k 2 d
    else match hopPos d h 1 with
      | none => hopSet k h (fun x => { x with done := true, pos := 0, waiting := false }) d
      | some pos => hopOffer k h (hopSet k h (fun x => { x with pos := pos, skipped := 0, repeats := 0 }) d)
/-- A change of etbTopoCnt (R495): every offer and chunk in progress is abandoned and offered to the next hop of the new directory. -/
def upTopo (d : Dev) : Dev :=
  let restart (k h : Nat) (d : Dev) : Dev :=
    match pkgOf d k with
    | none => d
    | some p =>
      let x := hopOf p h
      if !x.want ∨ x.done ∨ p.state = 3 then d
      else
        let d := inc d Reg.UP_ERR_TOPO_RESTARTS
        match hopPos d h 1 with
        | none => hopSet k h (fun x => { x with done := true, pos := 0, phase := 0, waiting := false }) d
        | some pos => hopOffer k h (hopSet k h (fun x => { x with pos := pos, skipped := 0, repeats := 0, next := 0 }) d)
  forEach (List.range 4) (fun k d =>
    restart k 1 (restart k 0 (pkgSet k (fun p => { p with sender := if p.sender = some 0 then p.sender else none }) d))) d
/-- A lane of the Loenpa link comes up: packages the partner does not hold are offered to it (R493). -/
def upLink (d : Dev) : Dev :=
  forEach (List.range 4) (fun k d => match pkgOf d k with
    | none => d
    | some p => if p.partner.want ∧ !p.partner.done then hopOffer k 2 d else d) d

/-! ## Staging (R491) -/

/-- A staging fails: its entry is discarded. -/
def stageFail (s status : Nat) (d : Dev) : Dev :=
  let d := match d.upd.stage.bind (·.entry) with
    | none => d
    | some k => pkgDrop k d
  cmdFinal s status [] (updSet (fun u => { u with stage := none }) d)
/-- The entry of a staging, once the manifest is complete: the one that holds it, or a new one. -/
def stageEntry (m : Manifest) (d : Dev) : Option (Nat × Dev) :=
  match pkgFind d m.identity with
  | some k => some (k, pkgSet k (fun p => { p with origin := true, from_ := 0 }) d)
  | none => (pkgChoose d).map fun k => (k, pkgNew k m true 0 0 none d)
/-- The chunks that a staging has brought whole once the file is taken up to an offset. -/
def stagedChunks (m : Manifest) (upto : Nat) : Nat :=
  if 1024 + 32 * m.chunks + m.dataLen ≤ upto then m.chunks else (upto - (1024 + 32 * m.chunks)) / 32768
/-- Chunk i of the package file's bytes. -/
def fileChunk (m : Manifest) (bytes : List Byte) (i : Nat) : List Byte :=
  (bytes.drop (1024 + 32 * m.chunks + 32768 * i)).take (min 32768 (m.dataLen - 32768 * i))
/-- The chunks that a staging has brought whole, held with their bytes. -/
def stageHold (bytes : List Byte) (upto : Nat) (p : UpPkg) : UpPkg :=
  (List.range (stagedChunks p.man upto)).foldl (fun p i => chunkHold i (fileChunk p.man bytes i) p) p
/-- The chunks of a part stored, and the end of the LAST part. -/
def stageStore (c : HiCmd) (k : Nat) (upto : Nat) (last bad : Bool) (d : Dev) : Dev :=
  match pkgOf d k with
  | none => stageFail c.seq St.UPDATE_FORM d
  | some p =>
    let bytes := ((d.upd.stage.map fun s => s.bytes).getD []) ++ c.payload
    let p := stageHold bytes upto p
    if bad ∨ (last ∧ !heldAll p) then stageFail c.seq St.UPDATE_FORM d
    else
      let d := pkgPut k p (updSet (fun u => { u with stage := u.stage.map fun s => { s with entry := some k, taken := upto, bytes := bytes } }) d)
      if !last then cmdFinal c.seq St.OK [] d
      else
        let d := updEvent Ev.UPD_PKG_STAGED [.w k, .w (tagOf p.man.identity), .w p.man.chunks] d
        let d := pkgSet k (fun p => { p with state := 2 }) (updSet (fun u => { u with stage := none }) d)
        let d := hopPartner k (pkgComplete k d)
        cmdFinal c.seq St.OK (leBytes 32 p.man.identity ++ leBytes 1 k ++ leBytes 3 0 ++ leBytes 4 p.man.chunks) d
/-- STAGE_UPDATE executed: a part of the file, the manifest if it is complete with this part, and whether a chunk that this part
completes fails its hash. -/
def stageRun (c : HiCmd) (man : Option Manifest) (bad : Bool) (d : Dev) : Dev :=
  let off := argN c.desc 4 8
  let total := argN c.desc 12 8
  let tag := argN c.desc 0 4
  let last := bitOf (argB c.desc 20) 0
  let upto := off + c.desc.payLen
  let st : UpStage := d.upd.stage.getD ⟨upto, total, tag, none, 0, []⟩
  let st := if off = 0 then { st with tag := tag, entry := none, taken := 0, bytes := [] } else st
  let d := updSet (fun u => { u with stage := some st }) d
  if st.taken ≠ off then stageFail c.seq St.UPDATE_FORM d
  else match st.entry, man with
    | some k, _ => stageStore c k upto last bad d
    | none, none =>
      if last ∨ 33792 ≤ upto then stageFail c.seq St.UPDATE_FORM d
      else cmdFinal c.seq St.OK [] (updSet (fun u => { u with stage := some { st with taken := upto, bytes := st.bytes ++ c.payload } }) d)
    | none, some m =>
      if !manifestOk m ∨ total ≠ 1024 + 32 * m.chunks + m.dataLen then stageFail c.seq St.UPDATE_FORM d
      else if tag ≠ 0 ∧ tag ≠ tagOf m.identity then stageFail c.seq St.UPDATE_TAG d
      else match stageEntry m d with
        | none => stageFail c.seq St.UPDATE_NO_SPACE d
        | some (k, d) => stageStore c k upto last bad d

/-! ## Install ends (R498) -/

/-- Whether the writes, the read-back and its hash and the header write of an install were good, or the step that failed; delta data
that cannot be applied fail in step 2 (R489). -/
def installEnds (p : UpPkg) (fail : Option Nat) (d : Dev) : Nat ⊕ List Byte :=
  match targetImage p d, fail with
  | _, some 1 => .inl 1
  | none, _ => .inl 2
  | some _, some step => .inl step
  | some t, none => .inr t
/-- INSTALL_DONE: the running install ends well, the slot holding the target image, or fails in a step. -/
def installDone (fail : Option Nat) (d : Dev) : Dev :=
  match d.upd.installing with
  | none => d
  | some (k, t, cmd) =>
    let s := slotOther d
    let d := wrB (updSet (fun u => { u with installing := none }) d) Reg.UP_STATUS_INSTALLING false
    match pkgOf d k with
    | none => installResume (installCmd cmd St.UPDATE_INSTALL_FAIL d)
    | some p =>
      let tag := tagOf p.man.identity
      match installEnds p fail d with
      | .inr t' =>
        let d := slotPut s ⟨p.man.hdr, true, false, true, t'⟩ d
        let d := pkgSet k (fun p => { p with install := 1 }) d
        let d := updEvent Ev.UPD_INSTALLED [.w tag, .w s, .w p.man.hdr.release, .w ((d.clk - t) / second)] d
        installResume (installCmd cmd St.OK d)
      | .inl step =>
        let d := pkgSet k (fun p => { p with install := 3 }) d
        let d := updEvent Ev.UPD_INSTALL_FAIL [.w tag, .w s, .w step] d
        installResume (installCmd cmd St.UPDATE_INSTALL_FAIL d)
/-- Boot step 11 has ended (R485, R486, R499): a trial has succeeded, a copy below the fuses is stored, an interrupted install starts again,
and installs that waited are decided. -/
def upAfterBoot (d : Dev) : Dev :=
  let d := bpSet (fun b => { b with trial := none }) d
  let f := rd d Reg.UP_ROLLBACK_FUSES
  let d := if rd d Reg.UP_ROLLBACK_COPY < f then csArrive ⟨2, [], none, some f, 0⟩ d else d
  let again := d.upd.installing
  let d := updSet (fun u => { u with installing := none }) d
  let d := match again with
    | none => d
    | some (k, _, _) => if flag d Reg.UP_CFG_AUTO_INSTALL ∧ (pkgOf d k).isSome then installDecide k none true d else d
  installResume d

/-! ## RELAY_CONTROL (R501, R502) -/

/-- The identity a RELAY_CONTROL names. -/
def cmdIdentity (c : HiCmd) : Nat := ofBytes c.payload
/-- The entry of the identity that a RELAY_CONTROL names, or its end with UPDATE_NO_PACKAGE. -/
def withPackage (c : HiCmd) (f : Nat → Dev → Dev) (d : Dev) : Dev :=
  match pkgFind d (cmdIdentity c) with
  | none => cmdFinal c.seq St.UPDATE_NO_PACKAGE [] d
  | some k => f k d
/-- START: forwarding of a complete package starts or resumes. -/
def relayStart (c : HiCmd) (d : Dev) : Dev :=
  withPackage c (fun k d =>
    let d := pkgSet k (fun p => { p with state := if p.state = 3 then (if heldAll p then 2 else 1) else p.state
                                         up := { p.up with waiting := false }, down := { p.down with waiting := false } }) d
    let ready := ((pkgOf d k).map heldAll).getD false
    let dir := argB c.desc 1
    let d := if ready then pkgForward k dir (pkgSet k (fun p => { p with dir := dir }) d) else d
    cmdFinal c.seq St.OK [] d) d
/-- STOP: forwarding ends, the package is kept. -/
def relayStop (c : HiCmd) (d : Dev) : Dev :=
  withPackage c (fun k d =>
    let rest (x : UpHop) : UpHop := { x with phase := 0, unans := 0, waiting := false }
    cmdFinal c.seq St.OK [] (pkgSet k (fun p =>
      { p with state := 3, up := rest p.up, down := rest p.down, partner := rest p.partner }) d)) d
/-- INSTALL: decided and installed under R497. -/
def relayInstall (c : HiCmd) (d : Dev) : Dev :=
  withPackage c (fun k d => installDecide k (some c.seq) false (cmdSet c.seq (fun c => { c with phase := .waiting }) d)) d
/-- DELETE: waits for an install of the package (R499). -/
def relayDelete (c : HiCmd) (d : Dev) : Dev :=
  withPackage c (fun k d =>
    if (d.upd.installing.map fun x => x.1 == k).getD false then
      updSet (fun u => { u with deletes := u.deletes ++ [(k, c.seq)] }) (cmdSet c.seq (fun c => { c with phase := .waiting }) d)
    else cmdFinal c.seq St.OK [] (pkgDrop k d)) d
/-- ACTIVATE: the other slot becomes preferred on trial, or a pending activation is withdrawn (R486). -/
def relayActivate (c : HiCmd) (d : Dev) : Dev :=
  let s := argB c.desc 1
  let x := upSlot d s
  if s = slotBooted d then
    let d := bpSet (fun b => { b with slotPref := s, trial := none }) d
    cmdFinal c.seq St.OK [] (updEvent Ev.UPD_ACTIVATED [.w s, .w x.hdr.release, .w 0] d)
  else if d.upd.installing.isSome then cmdFinal c.seq St.UPDATE_SLOT_BUSY [] d
  else if !x.valid ∨ x.refused then cmdFinal c.seq St.UPDATE_NOT_INSTALLED [] d
  else
    let d := bpSet (fun b => { b with slotPref := s, trial := some 0 }) d
    cmdFinal c.seq St.OK [] (updEvent Ev.UPD_ACTIVATED [.w s, .w x.hdr.release, .w 1] d)
/-- COMMIT: the copy is stored and the fuses burned up to the security version of the slot that booted (R485, R501). -/
def relayCommit (c : HiCmd) (d : Dev) : Dev :=
  let sec := (upSlot d (slotBooted d)).hdr.sec
  if sec ≤ rd d Reg.UP_ROLLBACK_EFFECTIVE then cmdFinal c.seq St.OK [] d
  else if flag d Reg.CS_STATUS_FROZEN then commitEnd sec c.seq d
  else csArrive ⟨2, [], some c.seq, some sec, 0⟩ (cmdSet c.seq (fun c => { c with phase := .waiting }) d)
/-- The record of a slot (R502). -/
def slotRecord (d : Dev) (s : Nat) : List Byte :=
  let x := upSlot d s
  let flags := b2n x.valid + 2 * b2n x.refused + 4 * b2n (slotBooted d == s) + 8 * b2n (d.bp.slotPref == s) +
    16 * b2n (d.bp.slotPref == s && d.bp.trial.isSome)
  leBytes 4 x.hdr.release ++ leBytes 1 x.hdr.sec ++ leBytes 1 x.hdr.key ++ leBytes 1 x.hdr.proto ++ leBytes 1 flags ++
    leBytes 4 x.hdr.len ++ leBytes 4 0
/-- The record of an entry (R502). -/
def pkgRecord (d : Dev) (p : UpPkg) : List Byte :=
  leBytes 32 p.man.identity ++ leBytes 1 p.state ++ leBytes 1 p.dir ++ leBytes 1 p.install ++ leBytes 1 0 ++ leBytes 2 p.man.chunks ++
    leBytes 2 (heldCount p) ++ leBytes 2 (hopShown p).acked ++ leBytes 1 (hopShown p).pos ++ leBytes 1 (b2n (partnerDone d p)) ++
    leBytes 4 p.man.hdr.release ++ leBytes 1 p.man.hdr.sec ++ leBytes 3 0 ++ leBytes 4 p.man.baseRel ++ leBytes 8 0
/-- STATUS: the slot records and the records of the entries that are not EMPTY. -/
def relayStatus (c : HiCmd) (d : Dev) : Dev :=
  cmdFinal c.seq St.OK (slotRecord d 0 ++ slotRecord d 1 ++ d.upd.pkgs.flatMap fun e => pkgRecord d e.2) d

/-- TTDP_FRAME: the train directory follows, and with a new etbTopoCnt what is being relayed (R288, R495). -/
def ttdpFrame (r : TtdpResult) (d : Dev) : Dev :=
  let e := ttdpApply r d
  if rd e Reg.TE_ETB_TOPO = rd d Reg.TE_ETB_TOPO then e else upTopo e

end Sys2Proof.Machine
end

