-- ==== Sys2Proof/Machine/Accept.lean ====
section
/-!
DEFINITION. Checks before acceptance and acceptance (spec/12), with the pre-acceptance checks of spec/07, spec/08, spec/18 and spec/19;
frames of the Loenpa link.
-/
namespace Sys2Proof.Machine

/-! ## Opcodes, lengths, arguments (R340, R345, R352, R353) -/

/-- The payload range of an opcode, none for an unknown one; items are whole. -/
def payloadRange (x : Desc) : Option (Nat × Nat × Nat) :=
  match x.op with
  | 0x01 => some (0, 0, 1)
  | 0x02 => some (1, 16777216, 1)
  | 0x03 => some (0, 0, 1)
  | 0x04 => some (if argB x 0 = 0 then (1, 16777216, 1) else (0, 0, 1))
  | 0x05 => some (16, 1024, 16)
  | 0x06 => some (16, 4096, 16)
  | 0x07 => some (if bitOf (argB x 2) 0 then (0, 2048, 8) else (8, 2048, 8))
  | 0x08 => some (8, 32768, 8)
  | 0x09 => some (16, 65536, 16)
  | 0x0A => some (8, 65536, 1)
  | 0x0B => some (1, 16777216, 1)
  | 0x0C => some (0, 4096, 1)
  | 0x0D => some (0, 65388, 1)
  | 0x0E => some (0, 0, 1)
  | 0x0F => some (0, 0, 1)
  | 0x10 => some (0, 0, 1)
  | 0x11 => some (0, 0, 1)
  | _ => none
/-- Step 5 of R345. -/
def lengthOk (x : Desc) : Bool :=
  match payloadRange x with
  | none => false
  | some r => decide (r.1 ≤ x.payLen) && decide (x.payLen ≤ r.2.1) && x.payLen % r.2.2 == 0 && decide (x.resLen ≤ 16777216)
/-- A range of host memory inside the buffer region of a ring (R341); an empty one always is. -/
def inBuffer (d : Dev) (ring addr len : Nat) : Bool :=
  let base := rd d (Reg.HI_SQ_BUF_HI ring) * 2 ^ 32 + rd d (Reg.HI_SQ_BUF_LO_BASE ring) * 2 ^ 12
  len == 0 || (decide (base ≤ addr) && decide (addr + len ≤ base + rd d (Reg.HI_SQ_BUF_SIZE ring) * 4096) && decide (addr + len ≤ 2 ^ 64))
/-- The payload is fetched before acceptance (R347). -/
def fetchedBefore (x : Desc) : Bool := !([0x02, 0x04, 0x0B, 0x0D].contains x.op)
/-- Argument bytes outside the listed runs are 0 (R340). -/
def argsZero (x : Desc) (used : List (Nat × Nat)) : Bool :=
  (List.range 28).all fun i => argB x i == 0 || used.any fun r => decide (r.1 ≤ i) && decide (i < r.1 + r.2)
/-- Items of `size` bytes: as many as the count says, 1 to `most`, their reserved words 0, their identifiers in the image. -/
def itemsOk (d : Dev) (x : Desc) (payload : List Byte) (size most : Nat) : Bool :=
  let n := argN x 0 2
  decide (1 ≤ n) && decide (n ≤ most) && payload.length == size * n &&
    (List.range n).all fun i =>
      ofBytes ((payload.drop (size * i + 4)).take 4) == 0 && (mget d.img.vars (ofBytes ((payload.drop (size * i)).take 4))).isSome
/-- A part of an image follows the one before it (R352). -/
def loadPartOk (d : Dev) (x : Desc) : Bool :=
  let total := argN x 12 8
  let off := argN x 4 8
  let follows := off == 0 || d.hi.load == some (argN x 0 4, off, total)
  follows && decide (total ≤ 67108864) && decide (off + x.payLen ≤ total) && decide (argB x 20 ≤ 1) &&
    (argB x 20 == 1) == (off + x.payLen == total)
/-- A part of a package follows the one before it, and the part at offset 0 holds the header (R491). -/
def stagePartOk (d : Dev) (x : Desc) : Bool :=
  let total := argN x 12 8
  let off := argN x 4 8
  let follows := if off = 0 then decide (1024 ≤ x.payLen) else (d.upd.stage.map fun s => (s.next, s.total)) == some (off, total)
  follows && decide (1057 ≤ total) && decide (total ≤ 33588224) && decide (off + x.payLen ≤ total) && decide (argB x 20 ≤ 1) &&
    (argB x 20 == 1) == (off + x.payLen == total)
/-- The actions of RELAY_CONTROL and their bytes (R501). -/
def relayArgsOk (x : Desc) : Bool :=
  let a := argB x 0
  decide (a ≤ 6) && argsZero x [(0, 2)] && x.payLen == (if a ≤ 3 then 32 else 0) &&
    (if a = 0 then decide (1 ≤ argB x 1) && decide (argB x 1 ≤ 3) else if a = 4 then decide (argB x 1 ≤ 1) else argB x 1 == 0)
/-- The arguments of MODE_REQUEST (R353). -/
def modeArgsOk (x : Desc) : Bool :=
  let t := argB x 0
  if t = 1 then decide (argB x 1 ≤ 1) && argsZero x [(0, 2)]
  else if t = 2 ∧ argB x 3 = 1 then decide (argB x 2 ≤ 15) && argsZero x [(0, 1), (2, 2), (4, 8)]
  else if t = 8 then decide (argB x 2 ≤ 15) && decide (1 ≤ argN x 12 2) && decide (argN x 12 2 ≤ 1000) && argsZero x [(0, 1), (2, 1), (12, 2)]
  else decide (t ≤ 7) && argsZero x [(0, 1)]
/-- Step 8 of R345: the arguments of every opcode (R340, R352, R353, R491, R501). -/
def argsOk (d : Dev) (x : Desc) (payload : List Byte) : Bool :=
  match x.op with
  | 0x01 => modeArgsOk x
  | 0x02 => loadPartOk d x && argsZero x [(0, 21)]
  | 0x03 => argsZero x [(0, 4)] &&
      ((mget d.store.images (argN x 0 4)).isSome || d.hi.cmds.any fun c => c.desc.op == 2 && argN c.desc 0 4 == argN x 0 4)
  | 0x04 =>
    if argB x 0 = 0 then argB x 1 != 1 && argsZero x [(0, 2), (4, 8)]
    else if argB x 0 = 1 then argB x 1 != 1 && argsZero x [(0, 2)]
    else decide (argB x 0 ≤ 4) && argsZero x [(0, 1)]
  | 0x05 => itemsOk d x payload 16 64 && argsZero x [(0, 2)]
  | 0x06 => itemsOk d x payload 16 256 && argsZero x [(0, 2)]
  | 0x07 =>
    if argB x 2 = 1 then argN x 0 2 == 0 && payload.isEmpty && argsZero x [(2, 1)]
    else itemsOk d x payload 8 256 && argsZero x [(0, 2)]
  | 0x08 => itemsOk d x payload 8 4096 && argsZero x [(0, 2)]
  | 0x09 => itemsOk d x payload 16 4096 && argsZero x [(0, 2)]
  | 0x0A => decide (argB x 0 ≤ 1) && argsZero x [(0, 1)]
  | 0x0B => stagePartOk d x && argsZero x [(0, 21)]
  | 0x0C => relayArgsOk x
  | 0x0D =>
    if argB x 8 = 0 then argsZero x [(0, 9)]
    else decide (argB x 8 ≤ 2) && decide (1 ≤ argN x 12 4) && decide (argN x 12 4 ≤ 60000) && argsZero x [(0, 9), (12, 4)]
  | 0x0E => decide (1 ≤ argN x 8 2) && decide (argN x 8 2 ≤ 4096) && argsZero x [(0, 10)]
  | 0x0F => decide (argB x 0 ≤ 1) && argsZero x [(0, 1)]
  | 0x10 => if argB x 0 = 1 then argsZero x [(0, 1), (4, 8)] else argB x 0 == 0 && argsZero x [(0, 1)]
  | 0x11 =>
    mget d.img.armable (argB x 0) == some (argB x 1) && decide (argB x 2 < 64) && argB x 3 / 4 % 4 == 0 && decide (argB x 8 ≤ 1) &&
      argsZero x [(0, 9)]
  | _ => false

/-! ## The opcodes' own checks (R206, R213, R216, R219, R244, R352, R476, R501) -/

/-- A LOAD or REVERT is accepted and not yet over. -/
def changeHeld (d : Dev) : Bool :=
  chgPending d || d.hi.cmds.any fun c => c.desc.op == 4 && decide (argB c.desc 0 ≤ 1) && c.phase == .queued
/-- A variable is forced, or named by a FORCE accepted and not yet in effect. -/
def forcedOrNamed (d : Dev) (v : Nat) : Bool :=
  (mget d.mode.forces v).isSome ||
    d.hi.cmds.any fun c => c.desc.op == 6 && !c.again && (items16 (argN c.desc 0 2) c.payload).any fun e => e.1 == v
/-- The variables that a pending change removes or converts (R216, R219). -/
def pendingTouched (d : Dev) : List Nat :=
  match d.chg.accepted with
  | some a => csTouched d.img a.2
  | none => if chgPending d then ((chgCs d).map fun cs => if d.chg.reverting then csReverse cs else csTouched d.img cs).getD [] else []
/-- The variables that the reverse map of a revertible change set removes or converts. -/
def reverseTouched (d : Dev) : List Nat := (d.chg.switched.map fun s => csReverse s.cs).getD []
/-- The limits of R198. -/
def limitRefusal (cs : ChangeSet) : Option Nat :=
  if 65536 < cs.manifest then some St.LENGTH_RANGE
  else if cs.segs.isEmpty ∨ 256 < cs.segs.length ∨ cs.map.isEmpty ∨ 65536 < cs.map.length then some St.CHANGE_FORM
  else if 67108864 < cs.codeBytes ∨ 268435456 < cs.stateBytes ∨ 262144 < cs.varCount then some St.CHANGE_NO_ROOM
  else none
/-- The mode check of R206. -/
def changeModeRefusal (d : Dev) : Option Nat :=
  if modeIs d mSAFE then some St.IN_SAFE
  else if modeIs d mRUN ∨ modeIs d mSTOP ∨ modeIs d mHOLD then none else some St.CHANGE_MODE
/-- The checks of a LOAD (R206). -/
def loadRefusal (d : Dev) (x : Desc) (cs : ChangeSet) : Option Nat :=
  match changeModeRefusal d with
  | some s => some s
  | none =>
    let gen := argN x 8 4
    if argN x 4 4 ≠ d.mode.imageId ∨ (gen ≠ d.mode.generation ∧ !(changeHeld d ∧ gen = d.mode.generation + 1)) then some St.CHANGE_BASE
    else if changeHeld d then some St.CHANGE_BUSY
    else match limitRefusal cs with
      | some s => some s
      | none =>
        if (csTouched d.img cs).any (forcedOrNamed d) then some St.FORCE_CONFLICT
        else if 0xFFFFFFFE ≤ d.mode.generation then some St.GENERATION_EXHAUSTED else none
/-- The checks of a REVERT (R213). -/
def revertRefusal (d : Dev) : Option Nat :=
  match changeModeRefusal d with
  | some s => some s
  | none =>
    if changeHeld d then some St.CHANGE_BUSY
    else if d.chg.switched.isNone then some St.REVERT_UNAVAILABLE
    else if (reverseTouched d).any (forcedOrNamed d) then some St.FORCE_CONFLICT
    else if 0xFFFFFFFE ≤ d.mode.generation then some St.GENERATION_EXHAUSTED else none
/-- The place of a value in the order of its kind. -/
def kindOrder (kind v : Nat) : Int := if kind = 3 then toSigned 64 v else if kind = 4 then fOrder v else (v : Int)
/-- A value of a variable's kind and within its range (R216). -/
def editInRange (v : ImgVar) (x : Nat) : Bool :=
  !(v.kind == 4 && fNan x) && decide (kindOrder v.kind v.lo ≤ kindOrder v.kind x) && decide (kindOrder v.kind x ≤ kindOrder v.kind v.hi)
/-- The checks of an EDIT_VALUE (R216). -/
def editRefusal (d : Dev) (l : List (Nat × Nat)) : Option Nat :=
  let vs := l.filterMap fun e => (mget d.img.vars e.1).map fun v => (e.1, e.2, v)
  let cls := (vs.head?.map fun e => e.2.2.cls).getD 0
  if vs.any fun e => !e.2.2.editable || e.2.2.cls != cls then some St.EDIT_NOT_EDITABLE
  else if vs.any fun e => !editInRange e.2.2 e.2.1 then some St.EDIT_RANGE
  else if vs.any (fun e => e.2.2.safety) && !flag d Reg.MCTL_PINS_SVC_PERMIT then some St.EDIT_PERMIT
  else if vs.any fun e => (pendingTouched d).contains e.1 then some St.CHANGE_BUSY
  else if 0xFFFFFFFF ≤ d.mode.generation then some St.GENERATION_EXHAUSTED else none
/-- The checks of a FORCE (R219, R352). -/
def forceRefusal (d : Dev) (l : List (Nat × Nat)) : Option Nat :=
  if !holdAllowed d then some St.FORCE_PERMIT
  else if l.any fun e => (pendingTouched d ++ reverseTouched d).contains e.1 then some St.FORCE_CONFLICT else none
/-- The records of a setting payload: 8 bytes each, key and value. -/
def settingPairs : Nat → List Byte → List (Nat × Nat)
  | 0, _ => []
  | n + 1, l => (ofBytes (l.take 4), ofBytes ((l.drop 4).take 4)) :: settingPairs n (l.drop 8)
/-- The checks of a STORE_SETTINGS (R476). -/
def settingsRefusal (d : Dev) (x : Desc) (payload : List Byte) : Option Nat :=
  let l := settingPairs (payload.length / 8) payload
  let voted := l.any fun e => recordVoted e.1
  if payload.length % 8 ≠ 0 then some St.LENGTH_RANGE
  else if l.any fun e => !recordForm e.1 e.2 then some St.SETTINGS_FORM
  else if voted && !flag d Reg.MCTL_PINS_SVC_PERMIT then some St.SETTINGS_PERMIT
  else if voted && !(modeIs d mSTOP || modeIs d mHOLD || modeIs d mSERVICE) then some St.SETTINGS_MODE
  else if bitOf (argB x 0) 0 && flag d Reg.CS_STATUS_FROZEN then some St.SETTINGS_NV_FAIL else none
/-- The checks of a RELAY_CONTROL (R501). -/
def relayRefusal (d : Dev) (x : Desc) (payload : List Byte) : Option Nat :=
  if argB x 0 ≤ 3 ∧ (pkgFind d (ofBytes payload)).isNone then some St.UPDATE_NO_PACKAGE
  else if argB x 0 = 5 ∧ !flag d Reg.MCTL_PINS_SVC_PERMIT then some St.UPDATE_PERMIT else none
/-- Step 10 of R345. A LOAD whose manifest cannot be read as a change set is refused CHANGE_FORM ahead of the other checks of R206, whose order
names no place for it (DESIGN CHOICE, log 154). -/
def ownRefusal (d : Dev) (x : Desc) (payload : List Byte) (cs : Option ChangeSet) : Option Nat :=
  match x.op with
  | 0x04 =>
    if argB x 0 = 0 then (match cs with
      | none => some St.CHANGE_FORM
      | some cs => loadRefusal d x cs)
    else if argB x 0 = 1 then revertRefusal d else none
  | 0x05 => editRefusal d (items16 (argN x 0 2) payload)
  | 0x06 => forceRefusal d (items16 (argN x 0 2) payload)
  | 0x09 =>
    if (items16 (argN x 0 2) payload).any fun e => ((mget d.img.vars e.1).map (·.safety)).getD false then some St.VAR_SAFETY else none
  | 0x0A => settingsRefusal d x payload
  | 0x0C => relayRefusal d x payload
  | 0x10 => epochRefusal d (argB x 0 == 1)
  | _ => none

/-! ## Journal space and acceptance (R348, R350, R351) -/

/-- The command writes a START entry (R351). -/
def needsStart (x : Desc) : Bool := x.op == 0x0C || x.op == 0x0D || (x.op == 1 && (argB x 0 == 6 || argB x 0 == 7))
/-- The entries that the commands not yet final will still write. -/
def entriesDue (d : Dev) : Nat :=
  ((d.hi.cmds.filter fun c => !c.again).map fun c => 1 + b2n (needsStart c.desc && !jStart d c.seq)).sum
/-- Step 11 of R345 (R350). -/
def journalRefusal (d : Dev) (x : Desc) : Option Nat :=
  if jRoom d (entriesDue d + 2 + b2n (needsStart x)) then none else some St.JOURNAL_FULL
/-- What an accepted command announces for the parts and change sets that follow it. -/
def acceptNote (s : Nat) (x : Desc) (cs : Option ChangeSet) (d : Dev) : Dev :=
  if x.op = 2 then
    hiSet (fun h => { h with load := if argB x 20 = 1 then none else some (argN x 0 4, argN x 4 8 + x.payLen, argN x 12 8) }) d
  else if x.op = 0x0B then
    let off := argN x 4 8
    let old : UpStage := d.upd.stage.getD ⟨off, argN x 12 8, argN x 0 4, none, 0, []⟩
    let st : UpStage := { old with next := off + x.payLen, total := argN x 12 8 }
    updSet (fun u => { u with stage := some st }) d
  else if x.op = 4 ∧ argB x 0 = 0 then chgSet (fun c => { c with accepted := cs.map fun y => (s, y) }) d
  else d
/-- Steps 2 to 4 of R348 on the executing module: the accept entry, its payload in the command store, mirroring, or acceptance at
once. -/
def hostAccept (ring : Nat) (x : Desc) (payload : List Byte) (cs : Option ChangeSet) (partner : Bool) (d : Dev) : Dev :=
  let s := jHead d
  let wait := mirroring d
  let d := jAppend ⟨0, x.id, x.op, x.flags, ring, partner, 0, 0, descBody x⟩ d
  let d := hiSet (fun h => { h with payloads := if payload.isEmpty then h.payloads else mput h.payloads s payload }) d
  let d := cmdPut ⟨s, ring, x, payload, partner, false, .queued, St.OK, [], false, false⟩ d
  let d := if partner && cmdLocal x then d else acceptNote s x cs d
  if wait then d else cmdAccept s true d
/-- A REJECTED completion: nothing is journalled and LASTID stays. It follows the final completions of the commands submitted to the ring before
it (R343). -/
def hostReject (ring : Nat) (x : Desc) (status : Nat) (d : Dev) : Dev :=
  let c : Completion := ⟨x.id, status, 2, 0, 0, ring, 0, 0, bitOf x.flags 2⟩
  let before := ringOpen d ring
  let d := hiSet (fun h => { h with timed := h.timed.filter fun e => !(e.1 == ring && e.2.1 == x.id) }) d
  if before.isEmpty then cqPut c d else hiSet (fun h => { h with rejects := h.rejects ++ [(before, c)] }) d

/-! ## Descriptors (R338, R345, R346) -/

/-- The commands fetched from the rings of a completion ring that are not final. -/
def cqOwed (d : Dev) (q : Nat) : Nat :=
  (d.hi.cmds.filter fun c => !c.partner && !c.again && rd d (Reg.HI_SQ_CFG_CQ c.ring) == q).length +
    (d.hi.forwarded.filter fun f => rd d (Reg.HI_SQ_CFG_CQ f.1) == q).length
/-- A ring from which a descriptor can be fetched. -/
def ringReady (d : Dev) (n : Nat) : Bool :=
  let q := rd d (Reg.HI_SQ_CFG_CQ n)
  flag d (Reg.HI_SQ_CFG_EN n) && flag d (Reg.HI_CQ_CFG_EN q) && !flag d (Reg.HI_SQ_STATE_STOPPED n) &&
    rd d (Reg.HI_SQ_STATE_HEAD n) != rd d (Reg.HI_SQ_STATE_TAIL n) && decide (2 * (cqOwed d q + 1) ≤ cqFree d q)
/-- The ring whose turn it is. -/
def fetchRing (d : Dev) : Option Nat :=
  if cplOk d && !pairHalted d 1 && !pairHalted d 6 && !d.hm.powerFail then ((List.range 8).map fun i => (d.hi.rr + 1 + i) % 8).find? (ringReady d) else none
/-- The highest id of a logical ring that is accepted or on its way. -/
def ringLast (d : Dev) (n : Nat) : Nat :=
  let l := (d.hi.cmds.filter fun c => c.ring == n).map (·.desc.id) ++ (d.hi.forwarded.filter fun f => f.1 == n).map (·.2.id)
  l.foldl max (rd d (Reg.HI_SQ_LASTID n))
/-- A resubmission (R346). -/
def resubmitted (n : Nat) (x : Desc) (d : Dev) : Dev :=
  match jFind d n x.id with
  | none => if d.hi.forwarded.any fun f => f.1 == n && f.2 == x then d else hostReject n x St.ID_ORDER d
  | some (s, e) =>
    let o := descOf e
    if o.op ≠ x.op ∨ o.payLen ≠ x.payLen ∨ o.resLen ≠ x.resLen ∨ o.args ≠ x.args then hostReject n x St.ID_CONFLICT d
    else match jFinal d s with
      | none => d
      | some (_, f) =>
        let held : Option (List Byte) := if f.resLen ≤ 48 then some (f.body.take f.resLen) else mget d.hi.results s
        let out := (held.getD []).take x.resLen
        let status := if held.isNone then St.OK_RESULT_EXPIRED else truncStatus f.code f.resLen x.resLen
        cqPut ⟨x.id, status, 1, 4 + 32 * b2n f.partner, 0, n, f.resLen, s, bitOf x.flags 2⟩ (resultWrite x.resAddr out d)
/-- A module in STANDBY forwards what it takes to the executing module (R348 step 2). -/
def forwards (d : Dev) : Bool := modeIs d mSTANDBY && linkUp d && !simplex d
/-- Steps 3 to 9 of R345; `payload` is none where a fetch that step 7 asks for failed. -/
def earlyRefusal (d : Dev) (n : Nat) (x : Desc) (payload : Option (List Byte)) : Option Nat :=
  if (payloadRange x).isNone then some St.BAD_OPCODE
  else if 8 ≤ x.flags then some St.BAD_FLAGS
  else if !lengthOk x ∨ !inBuffer d n x.payAddr x.payLen ∨ !inBuffer d n x.resAddr x.resLen then some St.LENGTH_RANGE
  else if payload.isNone then some St.FETCH_ERROR
  else if !argsOk d x (payload.getD []) then some St.ARG_INVALID
  else if modeIs d mSTANDBY && !cmdLocal x && !linkUp d then some St.PARTNER_UNREACHABLE else none
/-- A descriptor checked and accepted, forwarded, or rejected. -/
def descTake (n : Nat) (x : Desc) (payload : Option (List Byte)) (cs : Option ChangeSet) (d : Dev) : Dev :=
  if x.id = 0 then hostReject n x St.ARG_INVALID d
  else if x.id ≤ ringLast d n then resubmitted n x d
  else match earlyRefusal d n x payload with
    | some st => hostReject n x st (if st = St.FETCH_ERROR then dmaError false n d else d)
    | none =>
      let p := if fetchedBefore x then payload.getD [] else []
      let own := if forwards d && !cmdLocal x then none else ownRefusal d x p cs
      match own with
      | some st => hostReject n x st d
      | none =>
        if forwards d then
          let d := if x.op = 2 ∨ x.op = 0x0B then acceptNote 0 x none d else d
          emit (.forward n x p) (hiSet (fun h => { h with forwarded := h.forwarded ++ [(n, x)] }) d)
        else match journalRefusal d x with
          | some st => hostReject n x st d
          | none => hostAccept n x p cs false d
/-- A descriptor fetched from a ring: the head moves on, the turn is noted, and the time of the doorbell that announced it (R338, R359). -/
def descMove (n : Nat) (x : Desc) (d : Dev) : Dev :=
  let slot := rd d (Reg.HI_SQ_STATE_HEAD n)
  let key := 4096 * n + slot
  let first := if x.id ≤ ringLast d n then [] else ((mget d.hi.rung key).map fun t => (n, x.id, t)).toList
  let d := hiSet (fun h => { h with rr := n, rung := mdel h.rung key, timed := h.timed ++ first }) d
  wr d (Reg.HI_SQ_STATE_HEAD n) ((slot + 1) % 2 ^ rd d (Reg.HI_SQ_CFG_SIZE n))
/-- DESCRIPTOR_FETCH: the next descriptor in turn, with its payload or manifest as fetched. -/
def descFetch (x : Desc) (payload : Option (List Byte)) (cs : Option ChangeSet) (d : Dev) : Dev :=
  match fetchRing d with
  | none => d
  | some n => descTake n x payload cs (descMove n x d)

/-! ## Mirroring and late payloads (R347, R348) -/

/-- MIRROR_CONFIRM: the partner holds the accept entry of a sequence. -/
def mirrorConfirm (s : Nat) (d : Dev) : Dev :=
  match cmdOf d s with
  | none => d
  | some c => if c.accepted then d else cmdAccept s false d
/-- MIRROR_TIMEOUT: no confirmation within 2 ms, so the partner counts as absent and what waits is accepted locally. -/
def mirrorTimeout (s : Nat) (d : Dev) : Dev :=
  match cmdOf d s with
  | none => d
  | some c =>
    if c.accepted then d
    else
      let d := hiRoleReview (wrB d Reg.DX_STATUS_JOURNAL_LEVEL false)
      forEach (d.hi.cmds.filter fun c => !c.accepted) (fun c d => cmdAccept c.seq true d) d
/-- PAYLOAD_FETCH_DONE: the payload of an accepted LOAD_IMAGE, CHANGE_SET, STAGE_UPDATE or SEND_MD has arrived, or any payload that a
power-on reset has lost is fetched again (R347). -/
def payloadDone (s : Nat) (payload : List Byte) (d : Dev) : Dev :=
  match cmdOf d s with
  | none => d
  | some c =>
    if payload.length ≠ c.desc.payLen ∨ !c.accepted then d
    else hiSet (fun h => { h with payloads := mput h.payloads s payload }) (cmdSet s (fun c => { c with payload := payload }) d)

/-! ## Loenpa frames -/

/-- A descriptor forwarded by the standby: its remaining checks, then acceptance or rejection (R348). -/
def forwardedTake (n : Nat) (x : Desc) (payload : List Byte) (cs : Option ChangeSet) (d : Dev) : Dev :=
  let no (st : Nat) : Dev := loenpa (.rejected n x.id st) d
  if x.id ≤ ringLast d n then no St.ID_ORDER
  else
    let own := if cmdLocal x then none else ownRefusal d x payload cs
    match own with
    | some st => no st
    | none => match journalRefusal d x with
      | some st => no st
      | none => hostAccept n x payload cs true d
/-- The rejection of a forwarded command completes it on its ring. -/
def forwardedRejected (n id status : Nat) (d : Dev) : Dev :=
  match d.hi.forwarded.find? fun f => f.1 == n && f.2.id == id with
  | none => d
  | some f =>
    let d := hiSet (fun h => { h with forwarded := h.forwarded.erase f }) d
    let d := hiSet (fun h => { h with timed := h.timed.filter fun e => !(e.1 == n && e.2.1 == id) }) d
    let before := (ringOpen d n).filter (· < id)
    let c : Completion := ⟨id, status, 2, 0, 0, n, 0, 0, bitOf f.2.flags 2⟩
    let ahead (r : List Nat × Completion) : Bool := !(r.2.sring == n && r.1.contains id)
    rejectsFlush (hiSet (fun h => { h with rejects := h.rejects.takeWhile ahead ++ (before, c) :: h.rejects.dropWhile ahead }) d)
/-- The partner's journal report: mirrored acceptance waits until the journals are level again (R382). Entries that agree are followed by the
later ones; where they differ the whole range held is sent, from which the standby takes what follows its first difference. -/
def journalReported (s crc : Nat) (d : Dev) : Dev :=
  if executing d then
    let d := hiRoleReview (wrB d Reg.DX_STATUS_JOURNAL_LEVEL false)
    let same := decide (s < jHead d) && jCrc d s true == crc
    forEach (d.hi.journal.filter fun e => !same || decide (s < e.1)) (fun e d => emit (.mirror e.1 e.2) d) d
  else d
/-- LOENPA_FRAME: a frame of another type (R366 to R368, R207, R222, R247, R348, R352, R356, R382). An epoch of the active module changes E and
the epoch number of the standby and nothing else (DESIGN CHOICE, log 169). -/
def loenpaFrame (f : LoenpaFrame) (d : Dev) : Dev :=
  match f with
  | .bad lane => inc d (if lane then Reg.DX_LINK_ERR_LK_B else Reg.DX_LINK_ERR_LK_A)
  | .idle => d
  | .status mode role pos claim image gen => peerStatus mode role pos claim image gen d
  | .journal s e payload => journalArrive s e payload d
  | .ackid ring id => jReview (wr d (Reg.HI_SQ_ACKID ring) (max id (rd d (Reg.HI_SQ_ACKID ring))))
  | .command ring desc payload cs => if executing d then forwardedTake ring desc payload cs d else d
  | .epoch e num => if executing d then d else dxSet (fun x => { x with epochSeq := jHead d }) (epochPut e num d)
  | .changeSet cmd rev cs =>
    if modeIs d mSTANDBY then loenpa (.stored cmd) (logPut (.change 0 cmd rev false cs) d) else d
  | .stored cmd => if cmd = d.chg.cmd then chgPartner 2 d else d
  | .confirm cycle => checkpointConfirmed cycle d
  | .rejected ring id status => forwardedRejected ring id status d
  | .image e => if rd d Reg.MCTL_MODE_ROLE = 2 then logPut e d else d
  | .report s crc => journalReported s crc d
  | .loaded identity img => if executing d then d else storeSet (fun s => { s with images := mput s.images identity img }) d

end Sys2Proof.Machine
end

