-- ==== Sys2Proof/Machine/Execute.lean ====
section
/-!
DEFINITION. The opcodes performed (R352): what an accepted command does when its turn comes, and what its agreement as an input does.
-/
namespace Sys2Proof.Machine

/-- An accepted command performed when its turn has come (R348, R354): `p` recognises the opcode and arguments of its row. Commands of
the other module's rings are performed only where they are active; in SAFE all but those of R93 end with IN_SAFE; while the Deck
controller's pair is halted they wait (R160), and for a payload that is not there (R347). -/
def cmdRun (s : Nat) (p : Desc → Bool) (f : HiCmd → Dev → Dev) (d : Dev) : Dev :=
  match cmdOf d s with
  | none => d
  | some c =>
    let mine := if cmdLocal c.desc then !c.partner || c.lost else executing d || modeIs d mSAFE
    if !p c.desc || !cmdReady d c || !mine || pairHalted d 1 || d.hm.powerFail || (c.desc.op != 4 && c.payload.length != c.desc.payLen) then d
    else if modeIs d mSAFE && !safePermits c.desc then cmdFinal s St.IN_SAFE [] d
    else f c d
/-- An opcode with a first argument byte. -/
def isOp (op arg : Nat) (x : Desc) : Bool := x.op == op && argB x 0 == arg
/-- A command begun that waits for something else. -/
def cmdWait (s : Nat) (d : Dev) : Dev := cmdSet s (fun c => { c with phase := .waiting }) d
/-- A command handed to the next input phase of a class, or to the next control exchange while no cycles run. -/
def cmdToClass (s cls : Nat) (d : Dev) : Dev := cmdSet s (fun c => { c with phase := .toClass cls }) d
/-- The lowest-numbered enabled class, 0 if there is none. -/
def anyClass (d : Dev) : Nat := (lowestClass d).getD 0

/-! ## CHANGE_SET (R200, R206, R213 to R215, R225) -/


/-- The content of a LOAD whose staging begins: its manifest as accepted, or as fetched again after a takeover. -/
def loadContent (d : Dev) (s : Nat) (again : Option ChangeSet) : Option ChangeSet :=
  match d.chg.accepted with
  | some a => if a.1 = s then some a.2 else again
  | none => again
/-- LOAD: staging begins (R207). -/
def changeLoad (again : Option ChangeSet) (c : HiCmd) (d : Dev) : Dev :=
  match loadContent d c.seq again with
  | none => d
  | some cs =>
    cmdWait c.seq (chgSet (fun u =>
      { u with state := 1, cs := some cs, reverting := false, cmd := c.seq, lead := leadOf c.desc, partner := 0, fetched := false
               ready := 0, failed := 0, stampBad := false, shown := 0, agreed := 1, accepted := none }) d)
/-- REVERT: armed at the next switch-class input phase (R213). One that finds at its turn that nothing is revertible any more, since a
COMMIT went before it, ends with REVERT_UNAVAILABLE (DESIGN CHOICE, log 153). -/
def changeRevert (c : HiCmd) (d : Dev) : Dev :=
  match d.chg.switched with
  | none => cmdFinal c.seq St.REVERT_UNAVAILABLE (changeStatus d) d
  | some s =>
    let d := logPut (.change 0 c.seq true false s.cs) d
    let d := if modeIs d mSTANDBY then d else loenpa (.changeSet c.seq true s.cs) d
    cmdWait c.seq (chgSet (fun u =>
      { u with state := 2, cs := none, reverting := true, cmd := c.seq, lead := leadOf c.desc, partner := 0, fetched := true
               ready := 0, failed := 0, stampBad := false, shown := 0 }) d)
/-- COMMIT or CANCEL: an agreed input of the next switch-class input phase or control exchange (R214, R215); performed at once where nothing
is pending or revertible, so that no switch class is known. -/
def changeAct (c : HiCmd) (d : Dev) : Dev :=
  match chgClass d with
  | some k => cmdToClass c.seq k d
  | none => chgAct c d
/-- STATUS. -/
def changeStatusRun (c : HiCmd) (d : Dev) : Dev := cmdFinal c.seq St.OK (changeStatus d) d
/-- CHANGE_PAYLOAD_FETCHED: the payload of the pending LOAD is in Deck SDRAM and its hash is checked. -/
def changeFetched (hashOk : Bool) (d : Dev) : Dev :=
  match cmdOf d d.chg.cmd with
  | none => d
  | some c => if c.payload.length = c.desc.payLen then chgFetched hashOk d else d

/-! ## Images (R352) -/

/-- LOAD_IMAGE: a part stored and relayed; LAST checks the whole: `check` is 0 where all holds, 2 where the hash fails and 3 where the
determinism stamp is absent or does not match it (R102). The spec names no status for the stamp; IMAGE_HASH serves (DESIGN CHOICE, log 155). -/
def loadImage (check : Nat) (img : Image) (c : HiCmd) (d : Dev) : Dev :=
  let d := if linkUp d && !simplex d then emit (.imagePart c.desc c.payload) d else d
  let ident := argN c.desc 0 4
  if argB c.desc 20 ≠ 1 then cmdFinal c.seq St.OK [] d
  else if check = 0 then
    cmdFinal c.seq St.OK (leBytes 4 ident ++ leBytes 4 0 ++ leBytes 8 (argN c.desc 12 8))
      (storeSet (fun s => { s with images := mput s.images ident img }) d)
  else cmdFinal c.seq St.IMAGE_HASH [] d
/-- ACTIVATE_IMAGE: the image in force from now on, at the next generation; the application starts cold (R187). Only an image whose hash and
stamp held is stored (R102). No generation follows 0xFFFFFFFF: GENERATION_EXHAUSTED (R221; DESIGN CHOICE, log 156). -/
def activateImage (c : HiCmd) (d : Dev) : Dev :=
  let ident := argN c.desc 0 4
  if !(modeIs d mSTOP || modeIs d mSERVICE) then cmdFinal c.seq St.MODE_CONDITION [] d
  else if 0xFFFFFFFF ≤ d.mode.generation then cmdFinal c.seq St.GENERATION_EXHAUSTED [] d
  else match mget d.store.images ident with
    | none => cmdFinal c.seq St.IMAGE_HASH [] d
    | some img =>
      let gen := d.mode.generation + 1
      let d := imageTake img d
      let d := modeSet (fun m => { m with imageValid := true, generation := gen, imageId := ident, started := false, coldOnly := false }) d
      let d := chgSet (fun u => { u with switched := none }) (storeSet (fun s => { s with log := [], consts := [] }) d)
      cmdFinal c.seq St.OK (leBytes 4 ident ++ leBytes 4 gen) (generationSave d)

/-! ## Variables, journal, checkpoints, messages (R352) -/

/-- The class that owns the first item of a payload. -/
def itemClass (d : Dev) (c : HiCmd) : Nat :=
  if c.payload.isEmpty then anyClass d else ((mget d.img.vars (ofBytes (c.payload.take 4))).map (·.cls)).getD (anyClass d)
/-- EDIT_VALUE, FORCE, UNFORCE, WRITE_VARS: an agreed input of the class of the first item. -/
def varsToClass (c : HiCmd) (d : Dev) : Dev := cmdToClass c.seq (itemClass d c) d
/-- A result item of READ_VARS. -/
def readItem (d : Dev) (id : Nat) : List Byte :=
  let of_ (f : ImgVar → Nat) : Nat := ((mget d.img.vars id).map f).getD 0
  leBytes 4 id ++ leBytes 1 (of_ (varAgree d.mem)) ++ leBytes 1 (b2n (mget d.mode.forces id).isSome) ++ leBytes 2 0 ++
    leBytes 8 (of_ (varBytes d.mem))
/-- READ_VARS. -/
def readVars (c : HiCmd) (d : Dev) : Dev :=
  cmdFinal c.seq St.OK ((items8 (argN c.desc 0 2) c.payload).flatMap (readItem d)) d
/-- JOURNAL_QUERY. -/
def journalQuery (c : HiCmd) (d : Dev) : Dev :=
  let one (s : Nat) : List Byte := match jEntry d s with
    | none => List.replicate 64 0
    | some e => jBytes e
  cmdFinal c.seq St.OK ((List.range (argN c.desc 8 2)).flatMap fun i => one (argN c.desc 0 8 + i)) d
/-- CHECKPOINT_NOW take: the checkpoint's completion completes the command. While the image does not enable the checkpoint class none is taken
(R378), and the command ends with a header of zeros (DESIGN CHOICE, log 174). -/
def checkpointNow (c : HiCmd) (d : Dev) : Dev :=
  let cls := rd d Reg.DX_CP_CFG_CLASS
  if flag d (Reg.CYC_CLS_CFG_EN cls) then cpTake cls (rd d (Reg.CYC_CLS_CYC cls)) (cmdWait c.seq d)
  else cmdFinal c.seq St.OK (List.replicate 32 0) d
/-- CHECKPOINT_NOW read: the header that the MRAM names, zeros while it names none. -/
def checkpointRead (c : HiCmd) (d : Dev) : Dev :=
  cmdFinal c.seq St.OK (match cpNamed d with
    | none => List.replicate 32 0
    | some p => cpHeader p) d
/-- SEND_MD: sent once its START entry is written; Mr and Mq wait for their answer (R298). -/
def sendMd (c : HiCmd) (d : Dev) : Dev :=
  if !netActive d then d
  else
    let d := cmdStart c.seq d
    let t := argB c.desc 8
    let d := emit (.mdSent (if t = 0 then 3 else if t = 1 then 4 else 6) (argN c.desc 0 4) (argN c.desc 4 4) c.seq c.payload) d
    if t = 0 then cmdFinal c.seq St.OK [] d
    else cmdWait c.seq (teSet (fun x => { x with sessions := mput x.sessions c.seq c.seq }) d)
/-- RELAY_CONTROL: its START entry, then the action (R351, R501). -/
def relayRun (f : HiCmd → Dev → Dev) (c : HiCmd) (d : Dev) : Dev := f c (cmdStart c.seq d)
/-- STAGE_UPDATE: performed once its payload has arrived (R491). -/
def stageUpdate (man : Option Manifest) (bad : Bool) (c : HiCmd) (d : Dev) : Dev :=
  stageRun c man bad d
/-- SET_TIME_EPOCH: applied at the first tick boundary from now (R245). -/
def setEpoch (c : HiCmd) (d : Dev) : Dev :=
  let t := if argB c.desc 0 = 1 then some (argN c.desc 4 8) else none
  cmdWait c.seq (tuSet (fun u => { u with epochs := u.epochs ++ [⟨c.seq, t⟩] }) d)

/-! ## Agreement (R117, R352) -/

/-- A trigger armed or disarmed on one slice as ARM_POSITION says (R264, R352), with STATE and ARM_SEQ as the result. -/
def armSlice (p : Pier) (x : Desc) (d : Dev) : Dev :=
  let k := argB x 0
  if bitOf (argB x 8) 0 then
    triggerArm p k (bitOf (argB x 2) 2) (argB x 2 % 4) (argB x 3 % 4) (bitField (argB x 2) 3 3) (argB x 3 / 16)
      (wr d (Reg.PT_TRIG_TGT (sl p) k) (argN x 4 4))
  else triggerDisarm p k d
/-- The result of ARM_POSITION on a slice. -/
def armResult (d : Dev) (p : Pier) (k : Nat) : List Byte :=
  leBytes 1 (rd d (Reg.PT_TRIG_CTL_STATE (sl p) k)) ++ leBytes 1 (rd d (Reg.PT_TRIG_CTL_ARM_SEQ (sl p) k)) ++ leBytes 6 0
/-- The ARM_POSITION commands agreed in a class cycle. -/
def armCmds (d : Dev) (cls n : Nat) : List HiCmd := d.hi.cmds.filter fun c => c.phase == .agreed cls n && c.desc.op == 0x11
/-- The words that ARM_POSITION writes into the slice: the target and the control word of its trigger, which keeps its fields at a disarming. -/
def armWrites (d : Dev) (p : Pier) (x : Desc) : List (Nat × Nat) :=
  let k := argB x 0
  let ctl := 0x204 + 8 * k
  let s := sl p
  if bitOf (argB x 8) 0 then
    [(0x200 + 8 * k, argN x 4 4),
     (ctl, 2 ^ 31 + b2n (bitOf (argB x 2) 2) * 2 ^ 23 + argB x 2 % 4 * 2 ^ 21 + argB x 3 % 4 * 2 ^ 19 + bitField (argB x 2) 3 3 * 2 ^ 16 +
       argB x 3 / 16)]
  else
    [(ctl, b2n (flag d (Reg.PT_TRIG_CTL_IF_PASSED s k)) * 2 ^ 23 + rd d (Reg.PT_TRIG_CTL_DIR s k) * 2 ^ 21 +
       rd d (Reg.PT_TRIG_CTL_REF s k) * 2 ^ 19 + rd d (Reg.PT_TRIG_CTL_ACTION s k) * 2 ^ 16 + rd d (Reg.PT_TRIG_CTL_OUTPUT s k))]
/-- The output phase of a Pier performs the ARM_POSITION commands agreed in a cycle on its own slice. -/
def armOutputs (p : Pier) (cls n : Nat) (d : Dev) : Dev :=
  forEach (armCmds d cls n) (fun c d =>
    let d := armSlice p c.desc d
    cmdHold c.seq St.OK (armResult d p (argB c.desc 0)) (.agreed cls n) d) d
/-- A MODE_REQUEST agreed (R90, R93): SAFE is entered at once, the others wait for the tick boundary. -/
def modeAgreed (c : HiCmd) (d : Dev) : Dev :=
  if argB c.desc 0 = 5 then
    let d := safeEnter scREQUESTED 0 (cmdWait c.seq d)
    cmdFinal c.seq St.OK (modeResult d) d
  else modeSet (fun m => { m with reqs := m.reqs ++ [c.seq] }) (cmdWait c.seq d)
/-- Forces in effect, and the cycle of effect. -/
def forceResult (d : Dev) (n : Nat) : List Byte := leBytes 4 d.mode.forces.length ++ leBytes 4 0 ++ leBytes 8 n
/-- The items of an edit written by every Pier in service (R217); a constant's page is marked as the others are. -/
def itemsWrite (items : List (Nat × Nat)) (d : Dev) : Dev :=
  let one (u : PierUnit) (e : Nat × Nat) : PierUnit := match mget d.img.vars e.1 with
    | none => u
    | some v => varPutN v e.2 u
  forEach (servicePiers d) (fun p d => prSet p (fun u => items.foldl one u) d) d
/-- An edit agreed (R217, R221, R227): the items written, the generation one higher and recorded with the edit's entry in the image log, and
event 0x2036 with class, generation, the number of items and the first ones that fit. -/
def editAgreed (cls : Nat) (c : HiCmd) (d : Dev) : Dev :=
  let items := items16 (argN c.desc 0 2) c.payload
  let d := constsEdit items (itemsWrite items (modeSet (fun m => { m with generation := m.generation + 1 }) d))
  let d := generationSave (logPut (.edit d.mode.generation c.seq items) d)
  record Ev.VALUE_EDITED ([.w cls, .w d.mode.generation, .w items.length] ++ (items.take 4).map fun e => .w e.1) d
/-- A command agreed in cycle `n` of a class (R214, R215, R217, R352): it completes with the release of that cycle, a COMMIT or CANCEL at
once. The forces of a cycle and the items of WRITE_VARS act on what the Piers compute. -/
def cmdAgreed (cls n : Nat) (c : HiCmd) (d : Dev) : Dev :=
  let hold (r : List Byte) (d : Dev) : Dev := if c.again then cmdLeave c.seq d else cmdHold c.seq St.OK r (.agreed cls n) d
  match c.desc.op with
  | 0x01 => modeAgreed c d
  | 0x04 => chgAct c d
  | 0x05 =>
    let d := editAgreed cls c d
    hold (leBytes 4 d.mode.generation ++ leBytes 4 0 ++ leBytes 8 n) d
  | 0x06 =>
    let d := modeSet (fun m => { m with forces := forceApply c.desc c.payload m.forces }) d
    hold (forceResult d n) d
  | 0x07 =>
    let d := modeSet (fun m => { m with forces := forceApply c.desc c.payload m.forces }) d
    hold (forceResult d n) d
  | 0x09 => hold (forceResult d n) (itemsWrite (items16 (argN c.desc 0 2) c.payload) d)
  | 0x0A => cmdWait c.seq d
  | 0x11 => cmdHold c.seq St.OK (List.replicate 8 0) (.agreed cls n) d
  | _ => d
/-- The commands in the frame of a cycle agreed, in journal order (R354). -/
def cmdsAgree (cls n : Nat) (d : Dev) : Dev :=
  forEach (d.hi.cmds.filter fun c => c.phase == .inFrame cls n) (fun c d => if modeIs d mSAFE then d else cmdAgreed cls n c d) d
/-- The commands of a frame that could not be agreed go into the class's next frame (R117). -/
def cmdsReturn (cls n : Nat) (d : Dev) : Dev :=
  hiSet (fun h => { h with cmds := mapIf (fun c => c.phase == .inFrame cls n) (fun c => { c with phase := .toClass cls }) h.cmds }) d
/-- Whether a command waits for an input phase. -/
def awaitsClass (c : HiCmd) : Bool :=
  match c.phase with
  | .toClass _ => true
  | _ => false
/-- The commands of a kind agreed at a control exchange, while no cycles run (R211): they take effect and complete at once. STORE_SETTINGS is
the Caisson's. -/
def exchangeAgree (kind : HiCmd → Bool) (d : Dev) : Dev :=
  forEach (d.hi.cmds.filter fun c => awaitsClass c && c.desc.op != 0x0A && kind c) (fun c d =>
    if modeIs d mSAFE then d
    else
      let cls := match c.phase with
        | .toClass k => k
        | _ => 0
      let n := nextCycle d cls
      let d := cmdAgreed cls n c d
      hostReleased cls n (if c.desc.op = 0x11 then forEach (servicePiers d) (fun p d => armOutputs p cls n d) d else d)) d
/-- The commands of a takeover that are only applied again, handed to their classes (R355). -/
def cmdsAgain (d : Dev) : Dev :=
  forEach (d.hi.cmds.filter fun c => c.again && c.phase == .queued) (fun c d =>
    if c.desc.op = 0x0F then cmdLeave c.seq (cpTake (rd d Reg.DX_CP_CFG_CLASS) (rd d (Reg.CYC_CLS_CYC (rd d Reg.DX_CP_CFG_CLASS))) d)
    else if c.desc.op = 0x11 then cmdToClass c.seq (argB c.desc 1) d
    else varsToClass c d) d
/-- A MODE_REQUEST goes to the Piers as an agreed input of the lowest-numbered enabled class or of the next control exchange (R90, R117). -/
def modeToClass (c : HiCmd) (d : Dev) : Dev := cmdToClass c.seq (anyClass d) d
/-- ARM_POSITION goes to the class in its byte 37 (R352). -/
def armToClass (c : HiCmd) (d : Dev) : Dev := cmdToClass c.seq (argB c.desc 1) d
/-- CONTROL_EXCHANGE (R211, R476): every 8 ticks while no cycles run, COMMIT and CANCEL, change states, the other commands and settings are
agreed. -/
def exchange (vals : List (Nat × Nat)) (d : Dev) : Dev :=
  if cyclesRun d ∨ modeIs d mBOOT ∨ modeIs d mSAFE then d
  else
    let d := controlExchange vals (exchangeAgree (fun c => c.desc.op == 4) (cmdsAgain d))
    let d := exchangeAgree (fun _ => true) d
    if modeIs d mSTOP ∨ modeIs d mHOLD ∨ modeIs d mSERVICE then settingsExchange d else d

end Sys2Proof.Machine
end

