-- ==== Sys2Proof/Machine/Power.lean ====
section
/-!
DEFINITION. Power input, hold-up store and health monitor (spec/02): R52, R63 to R71, and the pins of R57 to R59.
-/
namespace Sys2Proof.Machine

/-- The power part changed. -/
def hmSet (f : HmUnit → HmUnit) (d : Dev) : Dev := { d with hm := f d.hm }

/-! ## Power input (R52, R76) -/

/-- VIN_LOW: the module runs from the hold-up store, with event 0x9002 and its VIN in mV; after step 3 it stays in SAFE, and the count of
the power-on reset ends. -/
def vinLow (mv : Nat) (d : Dev) : Dev :=
  if flag d Reg.HM_STATUS_HOLDUP then d
  else
    let d := hmSet (fun h => { h with counting := false }) d
    let d := setBitF (setBitF (wrB d Reg.HM_STATUS_HOLDUP true) Reg.HM_ALARM_VOLT 0) Reg.HM_LIVE_VOLT 0
    msix 10 (record Ev.HOLDUP [.w mv] d)
/-- VIN is back: the module no longer runs from the hold-up store, and V0 is no longer low (R52, R71). -/
def holdupEnd (d : Dev) : Dev :=
  if flag d Reg.HM_STATUS_HOLDUP then clrBitF (wrB d Reg.HM_STATUS_HOLDUP false) Reg.HM_LIVE_VOLT 0 else d
/-- HOLDUP_VIN_RESTORED: VIN above 8.5 V. -/
def holdupRestored (d : Dev) : Dev := holdupEnd d
/-- HOLDUP_TIMEOUT: step 3 of R52: SAFE, then the power-fail record, and no MRAM write from here on (R461). -/
def holdupTimeout (mv : Nat) (d : Dev) : Dev :=
  if flag d Reg.HM_STATUS_HOLDUP ∧ !d.hm.powerFail then
    evPowerFail mv (safeEnter scPOWER_FAIL 0 (hmSet (fun h => { h with powerFail := true }) d))
  else d
/-- RAILS_OFF: the hold-up store has reached 10 V; the pins are no longer driven and the legs are off. -/
def railsOff (d : Dev) : Dev :=
  if flag d Reg.HM_STATUS_HOLDUP ∨ d.hm.powerFail then
    let d := wrB (switchPins 0 (allLegsOff d)) Reg.MCTL_PINS_STANDBY false
    hmSet (fun h => { h with rails := false, counting := false }) d
  else d
/-- VIN_9V_THRESHOLD: the 100 ms count of the power-on reset starts above 9.0 V after an absence or step 3 of R52, and starts again
after a fall to 9.0 V or below. VIN above 9.0 V ends a hold-up after step 3 (R52 step 5, R71). -/
def vinThreshold (above : Bool) (d : Dev) : Dev :=
  if d.hm.rails && !d.hm.powerFail then d else hmSet (fun h => { h with counting := above }) (if above && d.hm.rails then holdupEnd d else d)

/-! ## Warnings (R63, R69, R70) -/

/-- A warning condition of a bit of HM_WARN: notified under its own mark when it appears, armed again by `inside`. -/
def warnOne (bit mark reading : Nat) (met inside : Bool) (d : Dev) : Dev :=
  if met then
    let d := if bit < 8 then setBitF d Reg.HM_WARN_TEMP bit
      else if bit < 22 then setBitF d Reg.HM_WARN_VOLT (bit - 8) else setBitF d Reg.HM_WARN_PROC (bit - 22)
    if bitOf d.hm.warned mark then d
    else
      let d := record Ev.HM_WARNING [.w bit, .w reading] (hmSet (fun h => { h with warned := bitSet h.warned mark }) d)
      if flag d Reg.HM_CTRL_WARN_NOTIFY then msix 10 d else d
  else if inside then hmSet (fun h => { h with warned := bitClr h.warned mark }) d else d
/-- The nominal voltages of the rails in mV (R65). -/
def railNominal (n : Nat) : Nat :=
  ([12000, 800, 800, 800, 800, 800, 800, 1100, 1100, 1100, 1100, 1800, 3300, 28000] : List Nat).getD n 0
/-- A temperature read: NOW, PEAK, its warning. Readings are in 1/16 °C. -/
def tempRead (n v : Nat) (d : Dev) : Dev :=
  let peak := if toSigned 16 (rd d (Reg.HM_TEMP_PEAK n)) < toSigned 16 v then v else rd d (Reg.HM_TEMP_PEAK n)
  let d := wr (wr d (Reg.HM_TEMP_NOW n) v) (Reg.HM_TEMP_PEAK n) peak
  let lim := toSigned 8 (rd d (Reg.HM_TLIM_WARN n)) * 16
  let hyst : Int := rd d (Reg.HM_TLIM_HYST n) * 16
  warnOne n n v (decide (lim ≤ toSigned 16 v)) (decide (toSigned 16 v < lim - hyst)) d
/-- A rail read: NOW, MIN, the warnings of its two thresholds, each armed again by itself; the marks of the lower ones start at 32. -/
def railRead (n v : Nat) (d : Dev) : Dev :=
  let d := wr (wr d (Reg.HM_VOLT_NOW n) v) (Reg.HM_VOLT_MIN n) (min v (rd d (Reg.HM_VOLT_MIN n)))
  let hi := rd d (Reg.HM_VLIM_WARN_HI n)
  let lo := rd d (Reg.HM_VLIM_WARN_LO n)
  let nom := railNominal n
  let d := warnOne (8 + n) (8 + n) v (decide (hi ≤ v)) (decide (200 * v + nom < 200 * hi)) d
  warnOne (8 + n) (32 + n) v (decide (v ≤ lo)) (decide (200 * lo + nom < 200 * v)) d
/-- The warning of a process monitor: ten evaluations in a row below WARN_PCT. -/
def procWarn (n : Nat) (d : Dev) : Dev :=
  let c := rd d (Reg.HM_PROC_COUNT n)
  warnOne (22 + n) (22 + n) c (decide (10 ≤ mgetD d.hm.procRuns n 0))
    (decide (rd d (Reg.HM_PROC_BASE n) * (rd d Reg.HM_PLIM_WARN_PCT + 1) ≤ c * 100)) d
/-- HM_ROUND: a round of the ADC with its reference, temperatures and rails; a bad reference discards the readings (R63, R69, R70). -/
def hmRound (refOk : Bool) (reference : Nat) (temps volts : List Nat) (d : Dev) : Dev :=
  let d := incW d Reg.HM_STATUS_ROUND
  if !refOk then
    if flag d Reg.HM_STATUS_SELF_FAIL then d
    else msix 10 (record Ev.HM_SELF_FAIL [.w reference] (wrB d Reg.HM_STATUS_SELF_FAIL true))
  else
    let d := wrB d Reg.HM_STATUS_SELF_FAIL false
    let d := forEach (List.range 8) (fun n d => tempRead n (temps.getD n 0) d) d
    let d := forEach (List.range 14) (fun n d => railRead n (volts.getD n 0) d) d
    if flag d Reg.HM_CTRL_PROC_EN then forEach (List.range 6) procWarn d else d
/-- HM_PROC_EVAL: the process monitors counted and compared (R65, R69). -/
def hmProcEval (counts : List Nat) (d : Dev) : Dev :=
  if flag d Reg.HM_CTRL_PROC_EN then
    forEach (List.range 6) (fun n d =>
      let c := counts.getD n 0
      let d := wr d (Reg.HM_PROC_COUNT n) c
      let below := decide (c * 100 < rd d (Reg.HM_PROC_BASE n) * rd d Reg.HM_PLIM_WARN_PCT)
      let runs := if below then min 10 (mgetD d.hm.procRuns n 0 + 1) else 0
      procWarn n (hmSet (fun h => { h with procRuns := mput h.procRuns n runs }) d)) d
  else d

/-! ## Alarms (R63 to R67) -/

/-- An alarm of a bit of HM_ALARM, as yet not live: recorded with its reading and reaction (0 Pier-local, 1 critical), then the
reaction (R66). -/
def alarmRaise (bit reading : Nat) (pier : Option Pier) (d : Dev) : Dev :=
  let d := msix 10 (record Ev.HM_ALARM [.w bit, .w reading, .w (b2n pier.isNone)] d)
  match pier with
  | some p => pierError p d
  | none => safeEnter scHEALTH bit d
/-- TEMP_ALARM of a sensor. -/
def tempAlarm (n : Nat) (d : Dev) : Dev :=
  if bitF d Reg.HM_LIVE_TEMP n then d
  else
    alarmRaise n (rd d (Reg.HM_TEMP_NOW n)) (if n < 3 then some (pierOf n) else none)
      (setBitF (setBitF d Reg.HM_ALARM_TEMP n) Reg.HM_LIVE_TEMP n)
/-- The Pier of a rail, if the reaction to its alarm is Pier-local. -/
def railPier (n : Nat) : Option Pier :=
  if 1 ≤ n ∧ n ≤ 3 then some (pierOf (n - 1)) else if 7 ≤ n ∧ n ≤ 9 then some (pierOf (n - 7)) else none
/-- RAIL_ALARM of a rail; V0 above 18 V is critical, V13 has no alarm. -/
def railAlarm (n : Nat) (d : Dev) : Dev :=
  if 12 < n ∨ bitF d Reg.HM_LIVE_VOLT n then d
  else
    alarmRaise (8 + n) (rd d (Reg.HM_VOLT_NOW n)) (railPier n) (setBitF (setBitF d Reg.HM_ALARM_VOLT n) Reg.HM_LIVE_VOLT n)
/-- HM_LIVE_CLEARED: the condition of a bit is gone; V0 low ends with HOLDUP. -/
def liveCleared (bit : Nat) (d : Dev) : Dev :=
  if bit < 8 then clrBitF d Reg.HM_LIVE_TEMP bit
  else if bit = 8 ∧ flag d Reg.HM_STATUS_HOLDUP then d
  else clrBitF d Reg.HM_LIVE_VOLT (bit - 8)

/-! ## Thresholds (R68) -/

/-- A word written to a threshold register: refused whole where a field lies outside its range. -/
def limitWrite (l : List Fld) (word : Nat) (d : Dev) : Dev :=
  if l.all fun f => inRange f.w f.rng (bitField word f.lo f.w) then l.foldl (fun d f => wr d f (bitField word f.lo f.w)) d
  else wrB d Reg.HM_STATUS_THR_REJ true
/-- HM_THRESHOLD_WRITE: kind 0 HM_TLIM_n, 1 HM_VLIM_n, 2 HM_PLIM. -/
def thresholdWrite (kind n word : Nat) (d : Dev) : Dev :=
  if kind = 0 then (if n < 8 then limitWrite [Reg.HM_TLIM_HYST n, Reg.HM_TLIM_WARN n] word d else d)
  else if kind = 1 then (if n < 14 then limitWrite [Reg.HM_VLIM_WARN_HI n, Reg.HM_VLIM_WARN_LO n] word d else d)
  else limitWrite [Reg.HM_PLIM_WARN_PCT] word d

/-! ## Pins and operating seconds -/

/-- DX_POS_CHANGED: the sampled position stays (R59). -/
def posChanged (now : Bool) (d : Dev) : Dev :=
  if modeIs d mBOOT then d else record Ev.DX_POS_CHANGED [.w (rd d Reg.MCTL_PINS_POS), .w (b2n now)] d
/-- SVC_PERMIT_CHANGE: the filtered pin; deasserted in HOLD it leads to STOP at the next boundary (R90, R91). -/
def permitChange (v : Bool) (d : Dev) : Dev :=
  let d := wrB d Reg.MCTL_PINS_SVC_PERMIT v
  if !v ∧ modeIs d mHOLD then modeSet (fun m => { m with permitLost := true }) d else d
/-- OP_SECONDS_SAVE (R78). -/
def opSecondsSave (d : Dev) : Dev := bpSet (fun b => { b with opSeconds := rd d Reg.MCTL_OP_SECONDS }) d
/-- AUTORUN_START: RUN is entered where the conditions of the STOP-to-RUN row hold (R90), unless a trigger or a request of this boundary
takes effect (R91). -/
def autorunStart (d : Dev) : Dev :=
  if autorunReady d ∧ (boundaryTrigger d).isNone ∧ (requestsOvertaken d d.mode.reqs).isEmpty then modeEnter mRUN d else d

end Sys2Proof.Machine
end

