-- ==== Sys2Proof/Machine/Reset.lean ====
section
/-!
DEFINITION. Module resets and what acts as PE_PERST_N (R60, R76 to R79, R332), and the reset handshake of a crossing (R514).
-/
namespace Sys2Proof.Machine

/-! ## Module resets (R76, R77) -/

/-- The fields that a Reset value does not restore: those held in MRAM, fuses or at the pins, and over EXT and CMD the SAFE cause, the
reset counters and the hold-up flag (R77; DEDUCED, log 9). -/
def keptOver (warm : Bool) (key : Nat) : Bool :=
  let own : Bool := match (regFind (key / 32)).bind fun h => h.flds.find? fun f => fldKey f == key with
    | none => false
    | some f => [Src.mram, Src.kept, Src.factory, Src.otp, Src.fixed, Src.pin].contains f.src
  own || (warm && ([Reg.MCTL_SAFE_CAUSE_CAUSE, Reg.MCTL_SAFE_CAUSE_DETAIL, Reg.MCTL_RESET_CAUSE_EXT_COUNT, Reg.MCTL_RESET_CAUSE_CMD_COUNT,
    Reg.HM_STATUS_HOLDUP].map fldKey).contains key)
/-- First address of Deck SDRAM (R32). -/
def deckSdram : Nat := 0x100000000
/-- A module reset of a kind: 0 POR, 1 EXT, 2 CMD. MRAM, eMMC, boot NOR and fuses are kept, Deck SDRAM over EXT and CMD; everything else
starts again. A hold-up that goes on sets its bits of HM_LIVE and HM_ALARM again. -/
def moduleReset (kind : Nat) (d : Dev) : Dev :=
  let warm := kind != 0
  let keepW {α : Type} (x y : α) : α := if warm then x else y
  let r := Dev.rest
  let n : Dev :=
    { r with
      regs := d.regs.filter fun e => keptOver warm e.1
      clk := d.clk, free := d.free, out := d.out, bp := d.bp, store := d.store
      ev := { r.ev with main := d.ev.main, reserve := d.ev.reserve, corruptMain := d.ev.corruptMain, corruptReserve := d.ev.corruptReserve
                        reserveFirst := d.ev.reserveFirst }
      cs := { r.cs with banks := d.cs.banks }
      hi := { r.hi with journal := d.hi.journal, results := keepW d.hi.results [], payloads := keepW d.hi.payloads [] }
      ks := { r.ks with stamps := d.ks.stamps }
      dx := { r.dx with bufs := keepW d.dx.bufs [] }
      mem := keepW (d.mem.filter fun c => decide (deckSdram ≤ c.1)) []
      upd := { r.upd with slots := d.upd.slots.map fun e => (e.1, { e.2 with written := false })
                          pkgs := d.upd.pkgs, count := d.upd.count, stage := d.upd.stage, installing := d.upd.installing
                          revoked := d.upd.revoked }
      hm := keepW d.hm r.hm
      mode := { r.mode with resetAt := d.clk, posrst := !warm } }
  let n := wr n Reg.MCTL_RESET_CAUSE_KIND kind
  let n := if kind = 1 then inc n Reg.MCTL_RESET_CAUSE_EXT_COUNT else if kind = 2 then inc n Reg.MCTL_RESET_CAUSE_CMD_COUNT else n
  if flag n Reg.HM_STATUS_HOLDUP then setBitF (setBitF n Reg.HM_LIVE_VOLT 0) Reg.HM_ALARM_VOLT 0 else n
/-- POWER_ON_RESET: at the end of the 100 ms count the module enters BOOT, step 1 done (R76, R80). -/
def powerOnReset (d : Dev) : Dev := if d.hm.counting then wr (moduleReset 0 d) Reg.MCTL_BOOT_STEP 1 else d
/-- EXTERNAL_RESET (R76). -/
def externalReset (d : Dev) : Dev := if d.mode.posrst then d else moduleReset 1 d
/-- A command reset, with SERVICE_NEXT or without (R76, R95); after step 3 of R52 the module stays in SAFE. -/
def commandReset (service : Bool) (d : Dev) : Dev :=
  if d.mode.posrst ∨ d.hm.powerFail then d else moduleReset 2 (bpSet (fun b => { b with serviceNext := b.serviceNext || service }) d)
/-- MODE_REQUEST RESET or RESET_SERVICE performed: a START entry, then the reset (R89). -/
def resetRun (service : Bool) (c : HiCmd) (d : Dev) : Dev := commandReset service (cmdStart c.seq d)

/-- The operating seconds of the last power-fail record (R78, R461). -/
def powerFailSeconds (d : Dev) : Nat :=
  let l := (d.ev.main ++ d.ev.reserve).filter fun e => e.2.e.code == Ev.POWER_FAIL
  let best := l.foldl (fun b e => if b.1 ≤ e.1 then (e.1, ofBytes ((e.2.e.data.drop 8).take 4)) else b) (0, 0)
  best.2
/-- POR_RELEASE_RETRY: POR is released once V1 to V12 lie inside their alarm windows; operating seconds and power cycles follow (R78,
R80). -/
def porRelease (railsOk : Bool) (d : Dev) : Dev :=
  if d.mode.posrst && railsOk then
    let d := wr (incW d Reg.MCTL_POWER_CYCLES) Reg.MCTL_OP_SECONDS (max d.bp.opSeconds (powerFailSeconds d))
    let d := bpSet (fun b => { b with powerCycles := rd d Reg.MCTL_POWER_CYCLES }) d
    wr (modeSet (fun m => { m with posrst := false }) d) Reg.MCTL_BOOT_STEP 2
  else d

/-! ## Crossings and PE_PERST_N (R60, R332, R363, R514, R515) -/

/-- The reset handshake of a crossing ends: side 0 is the first domain of its row of R509, 1 the second; the words its running side
dropped, counted, and event 0x9013 (R514). -/
def crossingResync (c side dropped : Nat) (d : Dev) : Dev :=
  record Ev.CROSSING_RESYNC [.w c, .w side, .w dropped] (incBy (inc d Reg.CKR_RST_CNT_HANDSHAKES) Reg.CKR_RST_CNT_DROPPED dropped)
/-- The set-up registers of a ring pair at their Reset values. -/
def ringRest (n : Nat) (d : Dev) : Dev :=
  let z (d : Dev) (f : Fld) : Dev := wr d f f.rst
  let d := [Reg.HI_SQ_BASE_LO_BASE n, Reg.HI_SQ_BASE_HI n, Reg.HI_SQ_CFG_EN n, Reg.HI_SQ_CFG_CQ n, Reg.HI_SQ_CFG_SIZE n, Reg.HI_SQ_BUF_LO_BASE n,
    Reg.HI_SQ_BUF_HI n, Reg.HI_SQ_BUF_SIZE n, Reg.HI_SQ_STATE_STOPPED n, Reg.HI_SQ_STATE_TAIL n, Reg.HI_SQ_STATE_HEAD n].foldl z d
  [Reg.HI_CQ_BASE_LO_BASE n, Reg.HI_CQ_BASE_HI n, Reg.HI_CQ_CFG_EN n, Reg.HI_CQ_CFG_IMOD n, Reg.HI_CQ_CFG_SIZE n, Reg.HI_CQ_STATE_PHASE n,
    Reg.HI_CQ_STATE_HEAD n, Reg.HI_CQ_STATE_TAIL n].foldl z d
/-- The BAR2 windows at their Reset values, the cursor at the oldest record (R364). -/
def windowsRest (d : Dev) : Dev :=
  let d := { d with regs := d.regs.filter fun e => blockOf (e.1 / 32) != 18 }
  wr (hiSet (fun h => { h with evwHi := 0, jwHi := 0 }) d) Reg.HI_EVW_CURSOR (evLowest d)
/-- The endpoint with its MSI-X table, link, rings and windows starts again; mode, journal and accepted commands stay. What waited to be
written is repeated at the rings' next enable (R357). -/
def pcieRest (d : Dev) : Dev :=
  let d := forEach (List.range 8) (fun n d => ringRest n (sqDisable n d)) d
  let d := [Reg.HI_CTRL_NOTICE_EN, Reg.HI_CTRL_NOTICE_CQ, Reg.HI_LINK_BME, Reg.HI_LINK_WIDTH, Reg.HI_LINK_SPEED].foldl (fun d f => wr d f f.rst) d
  let d := hiSet (fun h =>
    { h with held := [], unread := [], rejects := [], writes := [], rr := 7, imodAt := [], imodHeld := 0, rung := [], timed := [], d3 := false }) d
  windowsRest { d with msix := Msix.rest }
/-- PCIE_RESET: the endpoint starts again; `dropped` words were lost in crossing 17. -/
def pcieReset (dropped : Nat) (d : Dev) : Dev := crossingResync 17 1 dropped (pcieRest d)
/-- D3HOT_RETURN acts so from D3hot only. -/
def d3Return (dropped : Nat) (d : Dev) : Dev := if d.hi.d3 then pcieReset dropped d else d

end Sys2Proof.Machine
end

