-- ==== Sys2Proof/Machine/Clocks.lean ====
section
/-!
DEFINITION. Clocks and crossings (spec/20): loss and return of a domain's clock, tolerance, the reset handshakes of R515, cycle counts.
-/
namespace Sys2Proof.Machine

/-- The clocks changed. -/
def ckrSet (f : CkrUnit → CkrUnit) (d : Dev) : Dev := { d with ckr := f d.ckr }
/-- The crossings of R509 that a domain has a side in, with that side: 0 the first domain of the row, 1 the second. -/
def domainCrossings (dom : Nat) : List (Nat × Nat) :=
  if dom < 3 then [(1, 1), (3, 0), (4, 1), (8, 1), (9, 0)]
  else match dom with
    | 3 => [(0, 0), (1, 0), (2, 0), (5, 1), (6, 0), (10, 1), (11, 0), (12, 1), (16, 0), (17, 0), (18, 0), (19, 0), (20, 0), (21, 0), (22, 0), (23, 0)]
    | 4 => [(2, 1), (3, 1), (4, 0), (5, 0), (6, 1), (7, 0)]
    | 6 => [(13, 0), (16, 1)]
    | 7 => [(12, 0), (13, 1), (14, 0), (15, 0)]
    | 8 => [(17, 1)]
    | 9 => [(18, 1)]
    | 10 => [(19, 1)]
    | 11 => [(0, 1), (8, 0), (9, 1), (10, 0), (11, 1), (14, 1)]
    | 12 => [(20, 1)]
    | 13 => [(21, 1)]
    | 14 => [(23, 1)]
    | 15 => [(15, 1), (22, 1)]
    | _ => []
/-- The handshakes of a list of crossings end, with the words that each dropped. -/
def crossingsResync (l : List (Nat × Nat)) (dropped : List Nat) (d : Dev) : Dev :=
  forEach (l.zip (List.range l.length)) (fun x d =>
    crossingResync x.1.1 x.1.2 (dropped.getD x.2 0) (clrBitF d Reg.CKR_RST_HS_BUSY x.1.1)) d
/-- The number by which event 0x9010 names the reaction to a domain's loss: 0 Pier local error, 1 SAFE, 2 half broken, 3 links lost, 4 as
PE_PERST_N, 5 legacy ports stop, 6 R412, 7 Causeway ports stop, 8 lanes down, 9 none. -/
def lossReaction (dom : Nat) : Nat :=
  match dom with
  | 0 | 1 | 2 | 11 => 0
  | 3 | 5 | 7 | 15 => 1
  | 4 => 2
  | 6 => 3
  | 8 => 4
  | 9 => 5
  | 10 => 6
  | 12 => 7
  | 13 => 8
  | _ => 9
/-- The loss reaction of a domain's instance (R505); `gm` and `r` are what the best master clock algorithm selects where the slave port
loses its link. -/
def lossReact (dom inst gm : Nat) (r : BmcResult) (d : Dev) : Dev :=
  match dom with
  | 0 | 1 | 2 => pierError (pierOf dom) d
  | 3 | 5 => safeEnter scPAIR_FAIL 1 d
  | 4 => halfBroken (2 ^ inst) d
  | 6 => forEach (List.range 6) (fun p d => linkChange p false 0 gm r d) d
  | 7 => safeEnter scPAIR_FAIL 3 d
  | 8 => pcieRest d
  | 9 => wr d Reg.LB_STATUS_UP 0
  | 10 => gbClockLost d
  | 11 => pierError (pierOf inst) d
  | 12 => cwStop 1 (cwStop 0 d)
  | 13 => laneDown true (laneDown false d)
  | 15 => safeEnter scPAIR_FAIL 6 d
  | _ => d
/-- CLOCK_LOSS: a half finds an instance of a domain lost, with the frequency it measures in units of 10 Hz; the domain is held in reset
(R506, R515). -/
def clockLoss (dom inst freq gm : Nat) (r : BmcResult) (d : Dev) : Dev :=
  let m := mgetD d.ckr.lost dom 0
  if 16 ≤ dom ∨ bitOf m inst then d
  else
    let d := ckrSet (fun c => { c with lost := mput c.lost dom (bitSet m inst) }) d
    let d := clrBitF (setBitF d Reg.CKR_STATUS_LOST dom) Reg.CKR_STATUS_CLK_OK dom
    let d := wr (wrB (wrB d (Reg.CKR_DOM_LOST dom) true) (Reg.CKR_DOM_OK dom) false) (Reg.CKR_DOM_FREQ dom) freq
    let d := wr d Reg.CKR_RST_HS_BUSY (rd d Reg.CKR_RST_HS_BUSY ||| maskOf ((domainCrossings dom).map (·.1)))
    lossReact dom inst gm r (record Ev.CLOCK_LOSS [.w dom, .w inst, .w (lossReaction dom)] d)
/-- CLOCK_TOLERANCE: a frequency more than 200 ppm from nominal over 1 s, with the deviation and the measured frequency (R506). -/
def clockTolerance (dom inst : Nat) (ppm : Int) (freq : Nat) (d : Dev) : Dev :=
  if ppm.natAbs ≤ 200 ∨ 16 ≤ dom then d
  else record Ev.CLOCK_TOLERANCE [.w dom, .w inst, Item.s ppm] (wr d (Reg.CKR_DOM_FREQ dom) freq)
/-- CLOCK_RETURN: a lost clock has run within 1 % for 100 µs: its domain leaves reset over the handshakes of its crossings (R515); the
legacy ports start again. -/
def clockReturn (dom inst freq : Nat) (dropped : List Nat) (d : Dev) : Dev :=
  let m := mgetD d.ckr.lost dom 0
  if !bitOf m inst then d
  else
    let left := bitClr m inst
    let d := ckrSet (fun c => { c with lost := if left = 0 then mdel c.lost dom else mput c.lost dom left }) d
    let d := crossingsResync (domainCrossings dom) dropped (wr d (Reg.CKR_DOM_FREQ dom) freq)
    if left ≠ 0 then d
    else
      let d := wrB (setBitF d Reg.CKR_STATUS_CLK_OK dom) (Reg.CKR_DOM_OK dom) true
      if dom = 9 ∧ 8 ≤ rd d Reg.MCTL_BOOT_STEP then lbStart d else if dom = 10 then wrB d Reg.GB_STATUS_CLK_OK true else d

/-! ## Cycle counts (R516) -/

/-- SNAPSHOT_GO: a Deck-controller write of GO with DOMAINS; while a capture runs GO is ignored. -/
def snapshotGo (domains : Nat) (d : Dev) : Dev :=
  let d := wr d Reg.CKR_SNAP_CTL_DOMAINS domains
  if flag d Reg.CKR_SNAP_CTL_GO then d
  else
    let d := wr (wrB (wrB d Reg.CKR_SNAP_CTL_GO true) Reg.CKR_SNAP_CTL_DONE false) Reg.CKR_SNAP_TIME (schedTime d)
    ckrSet (fun c => { c with snap := trunc 16 domains }) d
/-- SNAPSHOT_DONE: every selected count has returned; domains not selected read 0. -/
def snapshotDone (counts : List Nat) (d : Dev) : Dev :=
  if flag d Reg.CKR_SNAP_CTL_GO then
    let d := forEach (List.range 16) (fun n d =>
      wr d (Reg.CKR_SNAP_CYC n) (if bitOf d.ckr.snap n then counts.getD n 0 else 0)) d
    wrB (wrB d Reg.CKR_SNAP_CTL_GO false) Reg.CKR_SNAP_CTL_DONE true
  else d

/-! ## Commands with a handshake of R515 -/

/-- RESYNC_SELFTEST_DONE with the Pier's own reset: its crossings shake hands (R146, R515). -/
def resyncSelftestDone (fail : Option Nat) (dropped : List Nat) (d : Dev) : Dev :=
  if resyncPh d = 3 then resyncSelftest fail (crossingsResync (domainCrossings 0) dropped d) else d
/-- LANE_UP: a lane has trained; where it had trained before, crossing 21 shakes hands (R515). A partner of another protocol number leaves
the lane down (R500). A package the partner does not hold is offered to it (R493). -/
def laneTrained (lane : Bool) (pos leaseMs guardMs image gen proto dropped : Nat) (d : Dev) : Dev :=
  let i := b2n lane
  let d := if bitOf d.ckr.lanes i then crossingsResync [(21, 1)] [dropped] d
    else ckrSet (fun c => { c with lanes := bitSet c.lanes i }) d
  if proto ≠ (upSlot d (slotBooted d)).hdr.proto then d
  else if flag d (laneFld lane) then d
  else upLink (laneUp lane pos leaseMs guardMs image gen d)

end Sys2Proof.Machine
end

