-- ==== Sys2Proof/Machine/FieldIo.lean ====
section
/-!
DEFINITION. What the field I/O commands do (spec/15).
-/
namespace Sys2Proof.Machine

/-- A debounce count after one sample: samples in a row that differ from the state, 0 when the raw level equals it. -/
def debounceCount (count : NMap Nat) (i : Nat) (differs : Bool) : NMap Nat :=
  if differs then mput count i (mgetD count i 0 + 1) else mdel count i

/-- A captured change of an input: the stamp register and the capture counts of every class (R422, R423). -/
def diCapture (p : Pier) (i stamp : Nat) (d : Dev) : Dev :=
  let d := wr d (Reg.FIO_EDGE (sl p) i) stamp
  forEach (d.img.classes.map (·.1)) (fun c d =>
    if bitOf (imgClass d c).edgeInputs i then
      fioSet p (fun s => { s with edges := mput s.edges (c * 32 + i) ((mgetD s.edges (c * 32 + i) (0, 0)).1 + 1, stamp) }) d
    else d) d

/-- One sample of one input of a slice: the debounced state takes a level the raw level has held for DEBOUNCE µs
(R421), and a change in the selected direction is captured with the time of its first sample less 3 µs (R422). -/
def diSampleOne (p : Pier) (raw i : Nat) (d : Dev) : Dev :=
  let s := sl p
  let lvl := bitOf raw i
  let differs := lvl != bitF d (Reg.FIO_DI_STATE s) i
  let f := triGet d.fio p
  let first := if differs && (mget f.diCount i).isNone then mput f.diFirst i (schedTime d)
    else if differs then f.diFirst else mdel f.diFirst i
  let count := debounceCount f.diCount i differs
  let d := fioSet p (fun x => { x with diCount := count, diFirst := first }) d
  if differs ∧ rd d (Reg.FIO_DI_CFG_DEBOUNCE s i) < mgetD count i 0 then
    let t := mgetD first i (schedTime d) - 3000
    let d := fioSet p (fun x => { x with diCount := mdel x.diCount i, diFirst := mdel x.diFirst i }) d
    let d := putBitF d (Reg.FIO_DI_STATE s) i lvl
    let e := rd d (Reg.FIO_DI_CFG_EDGE s i)
    if (lvl ∧ (e = 1 ∨ e = 3)) ∨ (!lvl ∧ (e = 2 ∨ e = 3)) then diCapture p i t d else d
  else d

/-- One sample of one readback: debounced like an input (R428); EXT_DRIVEN clears as soon as SW_ON is 1 or the
debounced readback is off (R429). -/
def rbSampleOne (p : Pier) (raw n : Nat) (d : Dev) : Dev :=
  let s := sl p
  let lvl := bitOf raw n
  let differs := lvl != bitF d (Reg.FIO_RB_STATE_DEB s) n
  let count := debounceCount (triGet d.fio p).rbCount n differs
  let d := fioSet p (fun x => { x with rbCount := count }) d
  let d := if differs ∧ rd d (Reg.FIO_DO_CFG_RB_DEBOUNCE s n) < mgetD count n 0 then
      putBitF (fioSet p (fun x => { x with rbCount := mdel x.rbCount n }) d) (Reg.FIO_RB_STATE_DEB s) n lvl
    else d
  if bitF d (Reg.FIO_DO_SW_SW_ON s) n || !bitF d (Reg.FIO_RB_STATE_DEB s) n then
    clrBitF d (Reg.FIO_DO_FAULT_EXT_DRIVEN s) n
  else d

/-- The 2oo3 switch of an output is closed: two legs on, and its output stage not shut down (R22, R432). -/
def switchClosed (d : Dev) (n : Nat) : Bool :=
  decide (2 ≤ (allPiers.filter fun p => bitF d (Reg.FIO_LEG_STATE_APPLIED (sl p)) n).length) &&
    !(allPiers.any fun p => bitF d (Reg.FIO_DO_THERM_THERMAL (sl p)) n || bitF d (Reg.FIO_DO_THERM_LOCKED (sl p)) n)
/-- DI_SAMPLE: each slice samples its inputs, readback levels and switch sensors (R421, R422, R428, R429), and the
Field I/O controller follows the majority (R434). A sensor sees current only through a closed switch (R22). -/
def diSample (di rb sw : Tri Nat) (d : Dev) : Dev :=
  let closed := maskOf ((List.range 16).filter (switchClosed d))
  let one (p : Pier) (d : Dev) : Dev :=
    let d := wr d (Reg.FIO_DI_RAW (sl p)) (triGet di p)
    let d := wr (wr d (Reg.FIO_RB_STATE_RAW (sl p)) (triGet rb p)) (Reg.FIO_DO_SW_SW_ON (sl p)) (triGet sw p &&& closed)
    let d := forEach (List.range 32) (diSampleOne p (triGet di p)) d
    forEach (List.range 16) (rbSampleOne p (triGet rb p)) d
  forEach (List.range 16) fioReview (forEach allPiers one d)

/-- The LOW threshold of a slice in mV, 18.0 V ± 0.5 V (R424). -/
def fsLow (p : Pier) : Nat := 17500 + (Config.fsLowTrim (pierIdx p)).toNat % 1001
/-- The MISSING threshold of a slice in mV, 9.0 V ± 0.5 V (R424). -/
def fsMissing (p : Pier) : Nat := 8500 + (Config.fsMissingTrim (pierIdx p)).toNat % 1001

/-- The status of a supply after a measurement, from the last ten (R424): 0 OK, 1 LOW, 2 MISSING. -/
def fsNext (low missing st : Nat) (hist : List Nat) : Nat :=
  let full := hist.length == 10
  let all (f : Nat → Bool) : Bool := full && hist.all f
  if st = 2 then (if all (fun v => decide (missing + 500 < v)) then 1 else 2)
  else if all (fun v => decide (v < missing)) then 2
  else if st = 0 then (if all (fun v => decide (v < low) && decide (missing ≤ v)) then 1 else 0)
  else if all (fun v => decide (low + 500 < v)) then 0 else 1

/-- One supply of one slice measured, in steps of 10 mV (R424). -/
def fsMeasureOne (p : Pier) (k mv : Nat) (d : Dev) : Dev :=
  let v := mv / 10 * 10
  let hist := (v :: mgetD (triGet d.fio p).fs k []).take 10
  let d := fioSet p (fun s => { s with fs := mput s.fs k hist }) d
  wr (wr d (Reg.FIO_FS_MV (sl p) k) v) (Reg.FIO_FS_STATE (sl p) k)
    (fsNext (fsLow p) (fsMissing p) (rd d (Reg.FIO_FS_STATE (sl p) k)) hist)

/-- Event 0x7010 where the majority status of a supply differs from the one last recorded and the one-second limit
allows it (R434). -/
def fsReview (k : Nat) (d : Dev) : Dev :=
  match fsMajority d k with
  | none => d
  | some st =>
    if st ≠ mgetD d.io.fsMaj k 2 ∧ oncePerSecond d (Ev.FS_STATE * 0x10000 + k) then fsRecord k st d else d

/-- FS_MEASUREMENT: each slice measures FS1 and FS2 (R424), and a changed majority status is recorded (R434). -/
def fsMeasurement (fs1 fs2 : Tri Nat) (d : Dev) : Dev :=
  let d := forEach allPiers (fun p d => fsMeasureOne p 1 (triGet fs2 p) (fsMeasureOne p 0 (triGet fs1 p) d)) d
  fsReview 1 (fsReview 0 d)

/-- FS_STATE_DEFERRED: at the end of the one-second limit a still differing majority status is recorded (R434). -/
def fsDeferred (k : Nat) (d : Dev) : Dev :=
  match fsMajority d k with
  | none => d
  | some st => if st ≠ mgetD d.io.fsMaj k 2 then fsRecord k st d else d

/-- FIO_LEG_WR with AT_LAUNCH 0: VALUE applied to every output whose MASK bit is 1 (R427). -/
def fioLegWr (p : Pier) (value : Nat) (d : Dev) : Dev :=
  forEach (bitsOf 16 (rd d (Reg.FIO_LEG_MASK_MASK (sl p)))) (fun n d => legWrite p n (bitOf value n) d) d
/-- The launch tick of the cycle whose outputs a Pier now posts, its oldest one of the class that is in progress, has passed (R175). -/
def launchMissed (d : Dev) (p : Pier) (cls : Nat) : Bool :=
  ((d.cyc.runs.find? fun r => r.cls == cls && !bitOf r.ended (pierIdx p)).map (·.launchPassed)).getD false
/-- FIO_LEG_WR with AT_LAUNCH 1: the masked legs held until the launch tick of the class, or applied on receipt after it (R175, R427). -/
def fioLegWrAtLaunch (p : Pier) (cls value : Nat) (d : Dev) : Dev :=
  if launchMissed d p cls then fioLegWr p value d
  else forEach (bitsOf 16 (rd d (Reg.FIO_LEG_MASK_MASK (sl p)))) (fun n d => legHold p cls n (bitOf value n) d) d

/-- EXT_DRIVEN_TIMEOUT: SW_ON 0 with the debounced readback on for EXT_MS sets EXT_DRIVEN (R429). -/
def extTimeout (p : Pier) (n : Nat) (d : Dev) : Dev :=
  if !bitF d (Reg.FIO_DO_SW_SW_ON (sl p)) n && bitF d (Reg.FIO_RB_STATE_DEB (sl p)) n then
    fioReview n (setBitF d (Reg.FIO_DO_FAULT_EXT_DRIVEN (sl p)) n)
  else d

/-- OVERLOAD_SET: the limiter of an output has been active for 500 µs, so each slice sets OVERLOAD (R431). -/
def overloadSet (n : Nat) (d : Dev) : Dev :=
  fioReview n (forEach allPiers (fun p d => setBitF d (Reg.FIO_DO_FAULT_OVERLOAD (sl p)) n) d)
/-- OVERLOAD_CLEAR: the limiter has been inactive for 10 ms (R431). -/
def overloadClear (n : Nat) (d : Dev) : Dev :=
  fioReview n (forEach allPiers (fun p d => clrBitF d (Reg.FIO_DO_FAULT_OVERLOAD (sl p)) n) d)

/-- THERMAL_SHUTDOWN: the stage switches off and sets THERMAL in every slice; the eighth shutdown within 60 s sets
LOCKED (R432). -/
def thermalShutdown (n : Nat) (d : Dev) : Dev :=
  let times := shutdownsOf d n ++ [d.clk]
  let d := inc { d with io := { d.io with shutdowns := mput d.io.shutdowns n times } } Reg.FIO_EVT_CNT_THERMAL
  let d := forEach allPiers (fun p d =>
    let d := setBitF d (Reg.FIO_DO_THERM_THERMAL (sl p)) n
    if 8 ≤ times.length then setBitF d (Reg.FIO_DO_THERM_LOCKED (sl p)) n else d) d
  fioThermReview n d

/-- Whether at least two legs of an output are on. -/
def twoLegsOn (d : Dev) (n : Nat) : Bool :=
  decide (2 ≤ (allPiers.filter fun p => bitF d (Reg.FIO_LEG_STATE_APPLIED (sl p)) n).length)
/-- THERMAL_REARM: no two legs have been on together for 100 ms, so the stage re-arms, unless it is LOCKED (R432). -/
def thermalRearm (n : Nat) (d : Dev) : Dev :=
  if twoLegsOn d n || bitF d (Reg.FIO_DO_THERM_LOCKED 0) n then d
  else fioThermReview n (forEach allPiers (fun p d => clrBitF d (Reg.FIO_DO_THERM_THERMAL (sl p)) n) d)

/-- SLICE_CLOCK_STOP: the legs of the slice go off (R507). -/
def sliceClockStop (p : Pier) (d : Dev) : Dev := legsOff p d

end Sys2Proof.Machine
end

