-- ==== Sys2Proof/Machine/Flags.lean ====
section
/-!
DEFINITION. The register fields that show other state: what each reads as (the Meaning columns of spec/02 to spec/20). Every other field
reads as the register table holds it.
-/
namespace Sys2Proof.Machine

/-- A field held in MRAM or in the OTP fuses, before the boot step that restores it, reads 0 (R17). -/
def mramAbsent (d : Dev) (f : Fld) : Bool :=
  (f.src == .otp && decide (rd d Reg.MCTL_BOOT_STEP < 3)) ||
  (f.src == .mram &&
    (let b := blockOf f.addr
     decide (rd d Reg.MCTL_BOOT_STEP < (if b = 14 then 6 else if b = 7 then 9 else 3))))

/-- The priorities of complete packets, as a bit mask. -/
def prioMask (l : List CwPacket) : Nat := l.foldl (fun m p => bitSet m p.prio) 0
/-- The packet that a Deck read of a Causeway port takes next. -/
def cwHead (p : CwPort) : Option CwPacket := match p.rxCur with
  | some c => some c
  | none => cwBest p.rxq
/-- The packets of an optional one. -/
def optList (o : Option CwPacket) : List CwPacket := match o with
  | none => []
  | some p => [p]

/-- MCTL and KS: Piers in service, the time of a resynchronisation while it runs, the namings and transients of the last operating hour, which
leave it as it passes (R138, R158, R159, R162). -/
def viewMctl (d : Dev) (f : Fld) : Option Nat :=
  let hour (k : Nat) : Option Nat := some (hourStamps d k).length
  if f = Reg.MCTL_MODE_PIERS then some (rd d Reg.KS_STATUS_IN_SERVICE)
  else if f = Reg.KS_RESYNC_TIME ∧ d.ks.odd.isSome ∧ resyncPh d ≠ 0 then some (resyncMs d)
  else if f = Reg.KS_ODD_HOUR_A then hour 0
  else if f = Reg.KS_ODD_HOUR_B then hour 1
  else if f = Reg.KS_ODD_HOUR_C then hour 2
  else if f = Reg.KS_HALF_TRANSIENTS 0 then hour 3
  else if f = Reg.KS_HALF_TRANSIENTS 1 then hour 4
  else [1, 2, 3, 4, 5, 6].findSome? fun u => if f = Reg.KS_PAIR_HOUR u then hour (4 + u) else none
/-- TU: the link of a port, and whether a timestamp waits. -/
def viewTu (d : Dev) (f : Fld) : Option Nat :=
  (List.range 6).findSome? fun p =>
    if f = Reg.TU_PORT_STATE_LINK p then some (rd d (Reg.SW_PORT_STAT_LINK p))
    else if f = Reg.TU_TXTS_ID_VALID p then some (b2n !(mgetD d.tu.txts p []).isEmpty)
    else if f = Reg.TU_TXTS_ID_ID p then some (((mgetD d.tu.txts p []).head?.map fun e => e.1).getD 0)
    else none
/-- FIO and PT: slices of Piers in service, slices whose hits count, whether LAUNCH actions can be performed. -/
def viewSlices (d : Dev) (f : Fld) : Option Nat :=
  if f = Reg.FIO_STATUS_IN_SERVICE ∨ f = Reg.PT_STATUS_VOTERS then some (rd d Reg.KS_STATUS_IN_SERVICE)
  else if f = Reg.PT_STATUS_LAUNCH_OK then some (b2n (inRun d && leaseHeld d))
  else none
/-- CW: open packets, queue levels, priorities present, the packet read next (R441, R443). -/
def viewCw (d : Dev) (f : Fld) : Option Nat :=
  (List.range 2).findSome? fun n =>
    let p := cwPort d n
    let tx := p.txq ++ optList p.sending
    let rx := p.rxq ++ optList p.rxCur
    if f = Reg.CW_STATUS_DECK_OPEN n then some (b2n p.deckOpen.isSome)
    else if f = Reg.CW_STATUS_APP_OPEN n then some (b2n p.appOpen.isSome)
    else if f = Reg.CW_TX_LEVEL_PKTS n then some tx.length
    else if f = Reg.CW_TX_LEVEL_WORDS n then some (cwTxFill p)
    else if f = Reg.CW_RX_LEVEL_PKTS n then some rx.length
    else if f = Reg.CW_RX_LEVEL_WORDS n then some (cwRxFill p)
    else if f = Reg.CW_PRIO_TX n then some (prioMask tx)
    else if f = Reg.CW_PRIO_RX n then some (prioMask rx)
    else if f = Reg.CW_RX_HEAD_VALID n then some (b2n (cwHead p).isSome)
    else if f = Reg.CW_RX_HEAD_PRIO n then some (((cwHead p).map fun c => c.prio).getD 0)
    else if f = Reg.CW_RX_HEAD_LEN n then some (((cwHead p).map fun c => c.words.length).getD 0)
    else if f = Reg.CW_RX_DATA n then some (((cwHead p).map fun c => c.words.getD p.rxPos 0).getD 0)
    else none
/-- EV: entries of the intake, the record that EV_SEL selects (R465). -/
def viewEv (d : Dev) (f : Fld) : Option Nat :=
  if f = Reg.EV_STATUS_INTAKE then some d.ev.intake.length
  else if f.addr < 0x400D0140 then none
  else (List.range 16).findSome? fun k => if f = Reg.EV_REC k then some (evWord d (rd d Reg.EV_SEL) k) else none
/-- HM: whether any warning or alarm bit is set. -/
def viewHm (d : Dev) (f : Fld) : Option Nat :=
  if f = Reg.HM_STATUS_ANY_ALARM then some (b2n (rd d Reg.HM_ALARM_VOLT != 0 || rd d Reg.HM_ALARM_TEMP != 0))
  else if f = Reg.HM_STATUS_ANY_WARN then
    some (b2n (rd d Reg.HM_WARN_PROC != 0 || rd d Reg.HM_WARN_VOLT != 0 || rd d Reg.HM_WARN_TEMP != 0))
  else none
/-- DX: what is left of the lease, the age of the last checkpoint. -/
def viewDx (d : Dev) (f : Fld) : Option Nat :=
  if f = Reg.DX_LEASE_LEFT_REMAIN_US then
    if simplex d ∨ rd d Reg.DX_STATUS_LEASE = 3 then some 0x7FFFF
    else some ((servicePiers d).foldl (fun m p => min m (sliceLeft d p)) (if (servicePiers d).isEmpty then 0 else 0x7FFFF))
  else if f = Reg.DX_CP_STAT_AGE_MS then some (cpAge d)
  else none
/-- UP: the preferred slot and its trial (R486). -/
def viewUp (d : Dev) (f : Fld) : Option Nat :=
  if f = Reg.UP_STATUS_TRIAL then some (b2n d.bp.trial.isSome)
  else if f = Reg.UP_STATUS_ACT_PENDING then some (b2n (d.bp.slotPref != slotBooted d))
  else if f = Reg.UP_STATUS_PREFERRED then some d.bp.slotPref
  else if f = Reg.UP_STATUS_BOOTED then some (slotBooted d)
  else none
/-- HI: whether an error bit is set; vector 15's sources and refused doorbells are among them. -/
def viewHi (d : Dev) (f : Fld) : Option Nat :=
  if f = Reg.HI_STATUS_ERR then
    some (b2n ([Reg.HI_ERR_NOTICE_LOST, Reg.HI_ERR_CFG_REJ, Reg.HI_ERR_DB_RANGE, Reg.HI_ERR_CPL_WRITE, Reg.HI_ERR_DESC_FETCH].any (flag d)))
  else none
/-- The KIND code of the journal window. -/
def jwKind (d : Dev) : Nat := ((jwEntry d).map fun e => e.kind + 1).getD 0
/-- BAR2: the event window's bounds and record, the journal entry selected, the list position (R358, R362, R364). -/
def viewBar2 (d : Dev) (f : Fld) : Option Nat :=
  if f = Reg.HI_EVW_OLDEST then some (rd d Reg.EV_OLDEST)
  else if f = Reg.HI_EVW_NEXT then some (rd d Reg.EV_NEXT)
  else if f = Reg.HI_EVW_STATUS_EMPTY then some (b2n (rd d Reg.HI_EVW_CURSOR == rd d Reg.EV_NEXT))
  else if f = Reg.HI_JW_STATUS_HAS_FINAL then some (b2n (jwKind d == 1 && jwFinal d != 0))
  else if f = Reg.HI_JW_STATUS_PARTNER_ORIGIN then some (((jwEntry d).map fun e => b2n e.partner).getD 0)
  else if f = Reg.HI_JW_STATUS_RING then some (((jwEntry d).map fun e => e.ring).getD 0)
  else if f = Reg.HI_JW_STATUS_KIND then some (jwKind d)
  else if f = Reg.HI_JW_FINAL then some (jwFinal d)
  else if f = Reg.HI_JW_NEXT then some (rd d Reg.HI_JW_SEL % 2 ^ 32)
  else if f = Reg.HI_VW_LIST_CTL_POS then some (vwPos d)
  else (List.range 16).findSome? fun k =>
    if f = Reg.HI_EVW_PEEK k ∨ f = Reg.HI_EVW_READ k then some (evWord d (evNextHeld d (rd d Reg.HI_EVW_CURSOR)) k)
    else if f = Reg.HI_JW_ENTRY k then
      some (((jwEntry d).map fun e => ofBytes ((jBytes e).drop (4 * k) |>.take 4)).getD 0)
    else none

/-- What a field that shows other state reads as, by block. -/
def shownOther (d : Dev) (f : Fld) : Option Nat :=
  match blockOf f.addr with
  | 0 => viewMctl d f
  | 1 => viewMctl d f
  | 3 => viewTu d f
  | 7 => viewHi d f
  | 8 => viewDx d f
  | 10 => viewSlices d f
  | 11 => viewSlices d f
  | 12 => viewCw d f
  | 13 => viewEv d f
  | 15 => viewUp d f
  | 16 => viewHm d f
  | 18 => viewBar2 d f
  | _ => none
/-- What a field reads as (R13, R17). -/
def regView (d : Dev) (f : Fld) : Nat :=
  if f.acc = .wo ∨ mramAbsent d f then 0
  else match shownOther d f with
    | some v => v % 2 ^ f.w
    | none => rd d f

end Sys2Proof.Machine
end

