-- ==== Sys2Proof/Machine/Access.lean ====
section
/-!
DEFINITION. Accesses to registers from every side: which address names which register (R11, R30, R37, R278, R435), what a write does where
the register has a meaning of its own, the access codes elsewhere (R13 to R16), reads that clear or capture (R12, R15), and accesses
that are not performed (R11, R35, R38).
-/
namespace Sys2Proof.Machine

/-! ## Addresses by side -/

/-- The register address that an access of a side names; 0, which names none, outside its view. From a Pier, slice offsets are its own
slice's (R278, R435). -/
def sideAddr (side : RegSide) (a : Nat) : Nat :=
  match side with
  | .bar0 => if a < 0x1000 then 0x40070000 + a else 0
  | .bar2 => if a < 0x1000000 then 0xB2000000 + a else 0
  | .deck => if blockOf a < 18 then a else 0
  | .voted => if blockOf a < 18 then a else 0
  | .pier p =>
    if 17 < blockOf a then 0
    else if [10, 11].contains (blockOf a) ∧ 0x100 ≤ a % 0x10000 then
      (if a % 0x10000 < 0x1000 then a + 0x1000 * (pierIdx p + 1) else 0)
    else a
/-- Whether an address lies in the slice part of a slice block. -/
def sliceAddr (a : Nat) : Bool := [10, 11].contains (blockOf a) && decide (0x100 ≤ a % 0x10000)
/-- The register that an access of a side names. -/
def sideReg (side : RegSide) (a : Nat) : Option RegHit := regFind (sideAddr side a)
/-- The host interface answers the host: from boot step 8 on, and where the boot sequence has ended before it (R80, R84). -/
def hostServes (d : Dev) : Bool := decide (8 ≤ rd d Reg.MCTL_BOOT_STEP) || d.mode.halted
/-- What answers after an end of the boot sequence before step 8: HI_STATUS, HI_PCI_ID and the event window (R84). -/
def hostReduced (d : Dev) : Bool := d.mode.halted && decide (rd d Reg.MCTL_BOOT_STEP < 8)
/-- A host access to a register that the host interface serves even while reduced. -/
def hostAny (f : Dev → Dev) (d : Dev) : Dev := if hostServes d then f d else d
/-- A host access to any other register. -/
def hostWhole (f : Dev → Dev) (d : Dev) : Dev := if hostServes d && !hostReduced d then f d else d
/-- Whether an offset of a BAR is reserved (R37, R38), or answers as reserved while the host interface is reduced (R84). An offset inside a
range of R37 at which no register is implemented counts as reserved (DESIGN CHOICE, log 147). -/
def barReserved (d : Dev) (bar off : Nat) : Bool :=
  if bar = 0 then
    if hostReduced d then !([0x000, 0x014].contains off)
    else !((sideReg .bar0 off).isSome || (decide (0x1000 ≤ off) && decide (off < 0x1040)) || (decide (0x1080 ≤ off) && decide (off < 0x10C0)) ||
      (decide (0x2000 ≤ off) && decide (off < 0x2200)) || (decide (0x3000 ≤ off) && decide (off < 0x3008)))
  else if bar = 2 then (sideReg .bar2 off).isNone || (hostReduced d && decide (0x401000 ≤ off))
  else decide (0x400000 ≤ off)
/-- RESERVED_BAR_ACCESS: a host access to a reserved offset, or a write anywhere in BAR4 (R38). -/
def barAccess (bar off : Nat) (read : Bool) (d : Dev) : Dev :=
  if hostServes d ∧ (barReserved d bar off ∨ (bar = 4 ∧ !read)) then reservedAccess read off d else d

/-! ## Writes -/

/-- A value stored into a field as its access code says (R13). -/
def fldStore (f : Fld) (v : Nat) (d : Dev) : Dev :=
  match f.acc with
  | .rw => wr d f v
  | .w1c => wr d f (bitsOf f.w (rd d f)|>.foldl (fun m i => if bitOf v i then m else bitSet m i) 0)
  | .w1s => wr d f (bitsOf f.w v |>.foldl bitSet (rd d f))
  | _ => d
/-- A word written to a register that has no meaning of its own. -/
def plainWrite (h : RegHit) (w : Nat) (d : Dev) : Dev := forEach h.flds (fun f d => fldStore f (fldJoin h (rd d f) w f) d) d

/-- A key write of MCTL_RESET (R76, R95). -/
def resetWrite (w : Nat) (d : Dev) : Dev :=
  if bitField w 16 16 ≠ 0x5A5A then d
  else if bitField w 0 2 = 1 then commandReset false d
  else if bitField w 0 2 = 2 then commandReset true d
  else d
/-- A write into the Time unit: a setting, or a field of no meaning of its own (R259). -/
def tuWrite (off w : Nat) (h : RegHit) (d : Dev) : Dev :=
  if off = 0x10 then tuSettingWrite .slewLimit w d
  else if off = 0x14 then tuSettingWrite .jumpThresh w d
  else if off = 0x18 then tuSettingWrite .pdStep w d
  else if 0x100 ≤ off ∧ off % 0x40 = 0x10 then tuSettingWrite (.asym ((off - 0x100) / 0x40)) w d
  else if 0x100 ≤ off ∧ off % 0x40 = 0x14 then tuSettingWrite (.launch ((off - 0x100) / 0x40)) w d
  else plainWrite h w d
/-- A write into the Health monitor (R68, R69). -/
def hmWrite (off w : Nat) (h : RegHit) (d : Dev) : Dev :=
  if 0x140 ≤ off ∧ off < 0x160 then thresholdWrite 0 ((off - 0x140) / 4) w d
  else if 0x240 ≤ off ∧ off < 0x278 then thresholdWrite 1 ((off - 0x240) / 4) w d
  else if off = 0x340 then thresholdWrite 2 0 w d
  else plainWrite h w d
/-- A Deck-controller write into a Causeway port (R443, R448, R452). -/
def cwWrite (off w : Nat) (h : RegHit) (d : Dev) : Dev :=
  let n := off / 0x100
  let o := off % 0x100
  if o = 0x04 then cwWmWrite n (bitField w 16 14) (bitField w 0 14) d
  else if o = 0x30 then cwTxOpen n (bitField w 16 3) (bitField w 0 13) d
  else if o = 0x34 then cwTxData n w d
  else if 0x40 ≤ o ∧ o < 0x80 then cwForm n d
  else plainWrite h w d
/-- A Deck-controller write of a register; the HI set-up registers take none from the Deck (R363). -/
def deckWrite (a w : Nat) (h : RegHit) (d : Dev) : Dev :=
  let off := a % 0x10000
  match blockOf a with
  | 0 => if off = 0x18 then resetWrite w d else plainWrite h w d
  | 1 => if off = 0x40 then copyShareWrite (bitField w 0 8) d else plainWrite h w d
  | 3 => tuWrite off w h d
  | 7 => d
  | 12 => cwWrite off w h d
  | 13 => if off = 0x100 then evSelWrite false w d else if off = 0x104 then evSelWrite true w d else plainWrite h w d
  | 16 => hmWrite off w h d
  | 17 => if off = 0x10 ∧ bitOf w 31 then snapshotGo (bitField w 0 16) d else plainWrite h w d
  | _ => plainWrite h w d
/-- A released register write of unit 6: it has an effect in KS, TU, HM and GB only (R68, R124, R164, R259 and the rules that deny one
elsewhere). The pushes of the Causeway are `cwTxPush`. -/
def votedWrite (a w : Nat) (h : RegHit) (d : Dev) : Dev :=
  let off := a % 0x10000
  match blockOf a with
  | 1 => if off = 0x40 then copyShareWrite (bitField w 0 8) d else plainWrite h w d
  | 3 => tuWrite off w h d
  | 9 => plainWrite h w d
  | 16 => hmWrite off w h d
  | _ => d
/-- A Pier's write into its field I/O slice (R422, R427 to R429, R435). -/
def fioWrite (p : Pier) (off w : Nat) (h : RegHit) (d : Dev) : Dev :=
  if off = 0x404 then
    (if bitOf w 31 then fioLegWrAtLaunch p (bitField w 24 4) (bitField w 0 16) d else fioLegWr p (bitField w 0 16) d)
  else if 0x300 ≤ off ∧ off < 0x340 ∧ bitField w 16 8 = 0 then
    forEach h.flds (fun f d => if f.lo = 16 then d else fldStore f (fldJoin h (rd d f) w f) d) d
  else plainWrite h w d
/-- A write of a trigger's control word (R265). One of ARM 0 disarms, whatever its DIR and ACTION; a code that is not used keeps the old value
of its field and sets WREJ (R267; DESIGN CHOICE, log 165). -/
def trigCtlWrite (p : Pier) (k w : Nat) (h : RegHit) (d : Dev) : Dev :=
  if bitOf w 31 then triggerArm p k (bitOf w 23) (bitField w 21 2) (bitField w 19 2) (bitField w 16 3) (bitField w 0 4) d
  else
    let badDir := bitField w 21 2 == 3
    let badAct := decide (3 < bitField w 16 3)
    let d := triggerDisarm p k d
    let d := if badDir || badAct then wrB d (Reg.PT_REF_STAT_WREJ (sl p) 0) true else d
    plainWrite { h with flds := h.flds.filter fun f => !(badDir && f.lo == 21) && !(badAct && f.lo == 16) } w d
/-- A Pier's write into its position slice (R262, R263, R265, R273). -/
def ptWrite (p : Pier) (off w : Nat) (h : RegHit) (d : Dev) : Dev :=
  if off < 0x140 ∧ off % 16 = 0 then
    refCfgWrite p ((off - 0x100) / 16) (bitOf w 31) (bitOf w 30) (bitField w 28 2) (bitField w 26 2) (bitOf w 25) (bitField w 14 9)
      (bitField w 0 14) d
  else if off < 0x140 ∧ off % 16 = 4 then scaleWrite p ((off - 0x100) / 16) w d
  else if off = 0x188 then
    let d := plainWrite { h with flds := h.flds.filter fun f => f.acc == .w1c } w d
    if bitOf w 31 then rebaseGo p (bitOf w 30) (bitField w 0 2) d
    else plainWrite { h with flds := h.flds.filter fun f => f.acc == .rw } w d
  else if 0x200 ≤ off ∧ off < 0x400 ∧ off % 8 = 4 then trigCtlWrite p ((off - 0x200) / 8) w h d
  else plainWrite h w d
/-- A Pier's own write acts in its slice only; elsewhere it is an outbound request (R20, R34). -/
def pierWrite (p : Pier) (a w : Nat) (h : RegHit) (d : Dev) : Dev :=
  if !sliceAddr a then d
  else if blockOf a = 10 then fioWrite p (a % 0x1000) w h d
  else ptWrite p (a % 0x1000) w h d
/-- A host write of a ring register (R334). -/
def sqWrite (n o w : Nat) (d : Dev) : Dev :=
  if o = 0x08 then sqCfgWrite n w d
  else if o = 0x00 then ringFieldWrite (Reg.HI_SQ_BASE_LO_BASE n) (Reg.HI_SQ_CFG_EN n) false true n w d
  else if o = 0x04 then ringFieldWrite (Reg.HI_SQ_BASE_HI n) (Reg.HI_SQ_CFG_EN n) false false n w d
  else if o = 0x0C then ringFieldWrite (Reg.HI_SQ_BUF_LO_BASE n) (Reg.HI_SQ_CFG_EN n) false true n w d
  else if o = 0x10 then ringFieldWrite (Reg.HI_SQ_BUF_HI n) (Reg.HI_SQ_CFG_EN n) false false n w d
  else if o = 0x14 then ringFieldWrite (Reg.HI_SQ_BUF_SIZE n) (Reg.HI_SQ_CFG_EN n) false false n w d
  else d
/-- The same of a completion ring. -/
def cqWriteReg (n o w : Nat) (d : Dev) : Dev :=
  if o = 0x08 then cqCfgWrite n w d
  else if o = 0x00 then ringFieldWrite (Reg.HI_CQ_BASE_LO_BASE n) (Reg.HI_CQ_CFG_EN n) true true n w d
  else if o = 0x04 then ringFieldWrite (Reg.HI_CQ_BASE_HI n) (Reg.HI_CQ_CFG_EN n) true false n w d
  else d
/-- A word of an MSI-X table entry written by the host (R42). -/
def msixWrite (v j w : Nat) (d : Dev) : Dev :=
  let e := mgetD d.msix.entries v ⟨0, 0⟩
  let put (e : MsixEntry) : Dev := { d with msix := { d.msix with entries := mput d.msix.entries v e } }
  match j with
  | 0 => put { e with addr := e.addr / 2 ^ 32 * 2 ^ 32 + w }
  | 1 => put { e with addr := w * 2 ^ 32 + e.addr % 2 ^ 32 }
  | 2 => put { e with data := w }
  | _ => if bitOf w 0 then { d with msix := { d.msix with mask := bitSet d.msix.mask v } } else msixUnmask v d
/-- A host write through BAR0 (R37). -/
def bar0Write (off w : Nat) (d : Dev) : Dev :=
  if barReserved d 0 off then reservedAccess false off d
  else if 0x1000 ≤ off ∧ off < 0x1040 then sqDoorbell ((off - 0x1000) / 8) (off % 8 == 4) w d
  else if 0x1080 ≤ off ∧ off < 0x10C0 then cqDoorbell ((off - 0x1080) / 8) (off % 8 == 4) w d
  else if 0x2000 ≤ off ∧ off < 0x2200 then msixWrite ((off - 0x2000) / 16) (off % 16 / 4) w d
  else if 0x100 ≤ off ∧ off < 0x300 then sqWrite ((off - 0x100) / 0x40) (off % 0x40) w d
  else if 0x400 ≤ off ∧ off < 0x500 then cqWriteReg ((off - 0x400) / 0x20) (off % 0x20) w d
  else match sideReg .bar0 off with
    | none => d
    | some h => plainWrite h w d
/-- A host write of a BAR2 window register (R362, R364). -/
def bar2Write (off w : Nat) (d : Dev) : Dev :=
  if barReserved d 2 off then reservedAccess false off d
  else if off = 0x400000 then evwWrite false w d
  else if off = 0x400004 then evwWrite true w d
  else if off = 0x401000 then jwSelWrite false w d
  else if off = 0x401004 then jwSelWrite true w d
  else match sideReg .bar2 off with
    | none => d
    | some h =>
      if off = 0x402500 ∧ 256 < bitField w 0 9 then plainWrite { h with flds := h.flds.filter fun f => f.lo != 0 } w d else plainWrite h w d
/-- REGISTER_WRITE: an aligned 32-bit write from a side (R13, R16); at an address that names no register it is not this command's. -/
def registerWrite (side : RegSide) (a word : Nat) (d : Dev) : Dev :=
  let w := trunc 32 word
  if a % 4 ≠ 0 then d
  else match side with
    | .bar0 => if hostServes d then bar0Write a w d else d
    | .bar2 => if hostServes d then bar2Write a w d else d
    | .deck => if sliceAddr a then d else match sideReg .deck a with
      | none => d
      | some h => deckWrite a w h d
    | .voted => if sliceAddr a then d else match sideReg .voted a with
      | none => d
      | some h => votedWrite a w h d
    | .pier p => match sideReg (.pier p) a with
      | none => d
      | some h => pierWrite p a w h d

/-! ## Reads -/

/-- The key under which the upper half of a pair is captured: a Deck read of a slice leaves the slice's own capture alone (R20). -/
def captureKey (side : RegSide) (a : Nat) : Nat := if side = .deck ∧ sliceAddr a then 2 ^ 40 + a else a
/-- The word that a read of a register returns; an upper half as captured (R12). An upper half read without a read of its lower half just
before it, against what R12 asks of the reader, returns the last captured value however old, or the live one where none was captured
(DESIGN CHOICE, log 146). -/
def readWord (side : RegSide) (a : Nat) (h : RegHit) (d : Dev) : Nat :=
  let live := hitWord h (regView d)
  if h.high ∨ blockOf a = 3 ∧ a % 0x10000 = 0x30 then (mget d.captured (captureKey side a)).getD live else live
/-- A halved value captured. -/
def capture (side : RegSide) (a v : Nat) (d : Dev) : Dev :=
  { d with captured := mput d.captured (captureKey side a) (v / 2 ^ 32 % 2 ^ 32) }
/-- What the read of a lower half captures: the upper half; the read of TU_SCHED_LO captures train time and epoch with it. -/
def captureLow (side : RegSide) (a : Nat) (h : RegHit) (d : Dev) : Dev :=
  let d := if h.pair ∧ !h.high ∧ !(blockOf a = 3 ∧ a % 0x10000 = 0x30) then
      capture side (a + 4) (((h.flds.map (regView d)).headD 0)) d else d
  if blockOf a = 3 ∧ a % 0x10000 = 0x20 then
    let e := rd d Reg.TU_EPOCH
    capture side (a + 0x14) e (capture side (a + 0x10) (e % 2 ^ 32 * 2 ^ 32) (wr d Reg.TU_TRAIN (trainTime d)))
  else d
/-- The fields that a read clears to their Reset value, which PEAK and MIN of R71 show for "no reading since then": a slice's by its own
Pier only (R278), and not those whose read has a meaning of its own. -/
def readClear (side : RegSide) (a : Nat) (h : RegHit) (d : Dev) : Dev :=
  if sliceAddr a ∧ side = .deck then d else forEach (h.flds.filter fun f => f.acc == .rc) (fun f d => wr d f f.rst) d
/-- A read that returns a word, captures and clears. -/
def plainRead (side : RegSide) (a : Nat) (h : RegHit) (d : Dev) : Dev :=
  readClear side a h (captureLow side a h (emit (.read a (readWord side a h d)) d))
/-- A read of a register that has a meaning of its own, none where it has not: timestamps (R257), packets (R452). -/
def ownRead (side : RegSide) (a : Nat) (d : Dev) : Option Dev :=
  let off := a % 0x10000
  if blockOf a = 3 ∧ 0x100 ≤ off ∧ off % 0x40 = 0x20 then
    some (if side = .deck then txtsIdRead ((off - 0x100) / 0x40) d else emit (.read a 0) d)
  else if blockOf a = 12 ∧ off % 0x100 = 0x3C then
    some (if side = .deck then cwRxDataRead (off / 0x100) false d else emit (.read a 0) d)
  else none
/-- A host read of a BAR2 window register with its side effects (R364). -/
def bar2Read (off : Nat) (d : Dev) : Option Dev :=
  if 0x400040 ≤ off ∧ off < 0x4000C0 then some (evwRead (off - 0x400000) 1 d)
  else if off = 0x401080 then some (jwNextRead d)
  else if off = 0x402008 then some (vwValueRead d)
  else if off = 0x402508 then some (vwListRead false d)
  else if off = 0x40250C then some (vwListRead true d)
  else none
/-- A word of the MSI-X table or the pending-bit array as the host reads it (R42). -/
def msixRead (d : Dev) (off : Nat) : Nat :=
  if 0x3000 ≤ off then (if off = 0x3000 then d.msix.pend else 0)
  else
    let v := (off - 0x2000) / 16
    let e := mgetD d.msix.entries v ⟨0, 0⟩
    match off % 16 / 4 with
    | 0 => e.addr % 2 ^ 32
    | 1 => e.addr / 2 ^ 32
    | 2 => e.data
    | _ => b2n (bitOf d.msix.mask v)
/-- A host read through BAR0 or BAR2. -/
def barRead (side : RegSide) (off : Nat) (d : Dev) : Dev :=
  let bar := if side = .bar0 then 0 else 2
  if barReserved d bar off then reservedAccess true off d
  else match (if bar = 2 then bar2Read off d else none) with
    | some e => e
    | none => match sideReg side off with
      | some h => plainRead side (sideAddr side off) h d
      | none => emit (.read off (if 0x2000 ≤ off then msixRead d off else 0)) d
/-- An aligned 32-bit read from a side; at an address that names no register it is no read of a register. -/
def registerRead (side : RegSide) (a : Nat) (d : Dev) : Dev :=
  if a % 4 ≠ 0 then d
  else if side = .bar0 ∨ side = .bar2 then (if hostServes d then barRead side a d else d)
  else match ownRead side a d with
    | some e => e
    | none => match sideReg side a with
      | none => d
      | some h => plainRead side (sideAddr side a) h d
/-- REG64_LO_READ: the read of the lower half of a pair, which captures its upper half (R12, R512). -/
def reg64LoRead (side : RegSide) (a : Nat) (d : Dev) : Dev :=
  match sideReg side a with
  | none => d
  | some h => if h.pair ∧ !h.high then registerRead side a d else d

/-! ## Accesses that are not performed (R11, R35, R36) -/

/-- The number of an initiator in an event's data. -/
def initiatorIdx : Initiator → Nat
  | .pier p => pierIdx p
  | .deck => 3
  | .dma => 4
  | .master => 5
  | .host => 6
/-- ACCESS_WIDTH_VIOLATION: an access to a register block of another width or alignment than a 32-bit word (R11). -/
def widthViolation (who : Initiator) (a width : Nat) (read : Bool) (d : Dev) : Dev :=
  if 18 < blockOf a ∨ (width = 4 ∧ a % 4 = 0) then d
  else
    let d := if read then emit (.read a 0) d else d
    recordFrom (if blockOf a = 18 then 7 else blockOf a) Ev.ACCESS_WIDTH [.q a, .w width, .w (initiatorIdx who)] d
/-- A memory access is aligned (R36). -/
def memAligned (a width : Nat) : Bool := [1, 2, 4, 8, 64].contains width && a % width == 0
/-- Whether an access decodes for a Pier (R28, R30, R35). -/
def pierDecodes (p : Pier) (a width : Nat) (read : Bool) : Bool :=
  if pierPrivate a ∨ (imageBase ≤ a ∧ a < deckSramEnd) then memAligned a width
  else if 0x80000000 ≤ a ∧ a < 0xC0000000 then !read
  else (sideReg (.pier p) a).isSome
/-- Whether an access decodes for the Deck's view (R30, R36, R278). -/
def deckDecodes (a width : Nat) (read : Bool) : Bool :=
  if (imageBase ≤ a ∧ a < deckSramEnd) ∨ (0x100000000 ≤ a ∧ a < 0x140000000) then memAligned a width
  else if 0x80000000 ≤ a ∧ a < 0xC0000000 then true
  else (sideReg .deck a).isSome && !(sliceAddr a && !read)
/-- Whether an access decodes for its initiator. -/
def accessDecodes (who : Initiator) (a width : Nat) (read : Bool) : Bool :=
  match who with
  | .pier p => pierDecodes p a width read
  | _ => deckDecodes a width read
/-- DECODE_ERROR: an access that does not decode is discarded, a read returns 0, the event names address and initiator; a Pier takes the
synchronous fault of R26 with its segment, cycle, fault kind and core. A misaligned memory access of a Pier is that fault alone (R36). -/
def decodeError (who : Initiator) (a width : Nat) (read : Bool) (seg cycle kind core : Nat) (d : Dev) : Dev :=
  if accessDecodes who a width read then d
  else
    let d := if read then emit (.read a 0) d else d
    let src := if blockOf a < 18 then blockOf a else 0xFF
    match who with
    | .pier p =>
      let alone := memAligned a width == false && pierDecodes p (a - a % 64) 64 read && decide (17 < blockOf a)
      let d := if alone then d else recordFrom src Ev.DECODE_ERROR [.q a, .w (initiatorIdx who)] d
      syncFault p seg cycle kind a core false d
    | _ => recordFrom src Ev.DECODE_ERROR [.q a, .w (initiatorIdx who)] d

end Sys2Proof.Machine
end

