-- ==== Sys2Proof/Machine/Act.lean ====
section
/-!
DEFINITION. How the effect of a command on the device becomes a step's outcome. No command faults and none is refused; the queue is the
step's own.
-/
namespace Sys2Proof.Machine

/-- A command's effect on the device, whatever its supply does. -/
def actAlways (f : Dev → Dev) (s : State) : Host.Outcome State Fault Refusal := .next { s with dev := f s.dev }
/-- A command's effect on the device while its rails are on and no power-up count holds it; else nothing happens (R52, R76). -/
def actPowered (f : Dev → Dev) (s : State) : Host.Outcome State Fault Refusal :=
  .next (if s.dev.hm.rails then { s with dev := f s.dev } else s)

end Sys2Proof.Machine
end

