-- ==== Sys2Proof/Machine/AccessCmds.lean ====
section
/-!
DEFINITION. The commands of register accesses (spec/00, spec/01) and register writes with a row of their own: one meaning each.
-/
namespace Sys2Proof.Machine

/-- HM_THRESHOLD_WRITE (R68). -/
def execHmThresholdWrite (kind : Nat) (n : Nat) (word : Nat) (s : State) : Host.Outcome State Fault Refusal :=
  actPowered (thresholdWrite kind n word) s
/-- COPY_SHARE_WRITE (R164). -/
def execCopyShareWrite (v : Nat) (s : State) : Host.Outcome State Fault Refusal := actPowered (copyShareWrite v) s
/-- REGISTER_WRITE (R13). -/
def execRegisterWrite (side : RegSide) (addr : Nat) (word : Nat) (s : State) : Host.Outcome State Fault Refusal :=
  actPowered (registerWrite side addr word) s
/-- READ_TO_CLEAR (R15). -/
def execReadToClear (side : RegSide) (addr : Nat) (s : State) : Host.Outcome State Fault Refusal := actPowered (registerRead side addr) s
/-- REG64_LO_READ (R12). -/
def execReg64LoRead (side : RegSide) (addr : Nat) (s : State) : Host.Outcome State Fault Refusal := actPowered (reg64LoRead side addr) s
/-- ACCESS_WIDTH_VIOLATION (R11). -/
def execAccessWidthViolation (who : Initiator) (addr : Nat) (width : Nat) (read : Bool) (s : State) : Host.Outcome State Fault Refusal :=
  actPowered (widthViolation who addr width read) s
/-- DECODE_ERROR (R35). -/
def execDecodeError (who : Initiator) (addr : Nat) (width : Nat) (read : Bool) (seg : Nat) (cycle : Nat) (kind : Nat) (core : Nat) (s : State) : Host.Outcome State Fault Refusal :=
  actPowered (decodeError who addr width read seg cycle kind core) s
/-- TU_SETTING_WRITE (R259). -/
def execTuSettingWrite (r : TuSetting) (w : Nat) (s : State) : Host.Outcome State Fault Refusal := actPowered (tuSettingWrite r w) s

end Sys2Proof.Machine
end

