-- ==== Sys2Proof/Machine/Piers.lean ====
section
/-!
DEFINITION. What the Piers post (spec/04 to spec/06): mailbox contributions with their two exchanges (R106 to R117), the agreed inputs in the
Piers' memory, and the execute and output phases (R100, R125, R126, R173 to R176).
-/
namespace Sys2Proof.Machine

/-! ## The frozen frame and the agreed frame as words (R107, R112) -/

/-- A frame item as 64-bit words: a number for its form, its fields, runs of bytes after their length (DESIGN CHOICE, log 152). -/
def itemWords : FrameItem → List Nat
  | .time tick train epoch state => [1, tick, train, epoch, state]
  | .sub n time l => [2, n, time, l.length] ++ words64 l
  | .legacy port obj time l => [3, port, obj, time, l.length] ++ words64 l
  | .train etb op inaug pos consists orient => [4, etb, op, inaug, pos, consists, orient]
  | .wtb state switch topo addr nodes master => [5, state, switch, topo, addr, nodes, master]
  | .j1939 port addr claimed => [6, port, addr, b2n claimed]
  | .cw port lost l => [7, port, lost, l.length] ++ l.flatMap fun k => [k.prio, k.time, k.words.length] ++ k.words
  | .results l => [8, l.length] ++ l.flatMap fun r => [r.cycle, r.target, r.data, r.seg, r.cls, r.kind, r.status, r.be]
  | .scan station word data => [9, station, word, data]
  | .station n status => [10, n, status]
  | .backplane edges level => [11, edges, b2n level]
  | .host seq op l => [12, seq, op, l.length] ++ words64 l
  | .partner state => [13, state]
/-- The words of the frozen frame that a class cycle reads. -/
def frameWords (d : Dev) (cls cycle : Nat) : List Nat :=
  (((frameOf d cls cycle).map (·.items)).getD []).flatMap itemWords |>.map (trunc 64)
/-- The digest of the whole agreed frame, values and status, seeded like the frame digest (R112). -/
def agreedDigest (d : Dev) (cls cycle : Nat) : Nat :=
  sigWords (trunc 64 cycle) (((mgetD d.ks.agreed cls []).flatMap fun e => [trunc 64 e.1, e.2]) ++ frameWords d cls cycle ++
    [mgetD d.ks.frameStatus cls asNONE])

/-! ## Contributions (R106 to R108, R114) -/

/-- The direction of a speed input as a slice latched it: that of the lowest enabled reference that selects it, UNKNOWN where none does. -/
def dirOf (d : Dev) (p : Pier) (l : SliceLatch) (n : Nat) : Nat :=
  match (List.range 4).find? fun r => flag d (Reg.PT_REF_CFG_EN (sl p) r) && rd d (Reg.PT_REF_CFG_SOURCE (sl p) r) == n with
  | none => 3
  | some r => l.dir.getD r 3
/-- A Pier's own value of a source, and whether its slice has captured it: from the latch of the class, or from a register as the Pier reads
it. -/
def srcValue (d : Dev) (p : Pier) (cls : Nat) (src : ItemSrc) : Bool × Nat :=
  let reg (a : Nat) : Nat := match sideReg (.pier p) a with
    | none => 0
    | some h => hitWord h (regView d)
  match src, mget (triGet d.fio p).latches cls with
  | .reg a, _ => (true, reg a)
  | _, none => (false, 0)
  | .di, some l => (true, l.di)
  | .flags k, some l => (true, [l.ext, l.overload, l.thermal].getD k 0)
  | .edge n, some l => ((mget l.edges n).isSome, mgetD l.edges n 0)
  | .readback, some l => (true, l.rb)
  | .fs k, some l => (true, l.fs.getD k 2)
  | .pulses n, some l => (true, l.pulses.getD n 0)
  | .dir n, some l => (true, dirOf d p l n)
  | .pos r, some l => (true, ofSigned 64 (toSigned 32 (l.pos.getD r 0)))
  | .hits, some l => (true, l.hits)
  | .hitTime k, some l => (bitOf l.hits k, mgetD l.hitTime k 0)
/-- What a Pier posts for a cycle of a class: what a sound Pier posts, and how this one departs from it. -/
def contribution (d : Dev) (p : Pier) (cls : Nat) (c : Contribution) : MbPost :=
  let ic := imgClass d cls
  let one (i : Nat) (it : ImgItem) : Bool × Nat :=
    let v := srcValue d p cls it.src
    let e := mgetD c.errs i (false, 0)
    (v.1 != e.1, trunc 64 (v.2 ^^^ e.2))
  { cycle := c.cycle
    generation := (((runOf d cls c.cycle).map (·.gen)).getD d.mode.generation) ^^^ c.xGen
    mapId := ic.mapId ^^^ c.xMap
    cls := cls ^^^ c.xCls
    count := ic.items.length ^^^ c.xCount
    reread := c.reread
    digest := sigWords (trunc 64 c.cycle) (frameWords d cls c.cycle) ^^^ c.misread
    items := ic.items.zipIdx.map fun e => one e.2 e.1
    change := c.change }

/-! ## The mailbox (R110, R111, R117) -/

/-- The Piers that a mailbox slot of a class cycle expects, as a bit mask. -/
def mbExpect (d : Dev) (cls cycle : Nat) : Nat := maskOf ([0, 1, 2].filter (winExpects d cls cycle))
/-- How many Piers a mask names. -/
def mbCount (mask : Nat) : Nat := (bitsOf 3 mask).length
/-- The slot of a class set. -/
def mbPut (cls : Nat) (s : MbSlot) (d : Dev) : Dev := ksSet (fun k => { k with slots := mput k.slots cls s }) d
/-- The cycle that a new slot of a class belongs to: the one the contribution names if it runs, else the oldest running one whose slot has
not closed. -/
def mbCycle (d : Dev) (cls cycle : Nat) : Option Nat :=
  let open_ := d.cyc.runs.filter fun r => r.cls == cls && !d.ks.closedSlots.contains (cls, r.cycle)
  if open_.any fun r => r.cycle == cycle then some cycle else open_.head?.map fun r => r.cycle

/-- The value that an input phase gives a variable: a forced one (R218), an agreed item, a station's data, none for a variable that segments
write. -/
def inputValue (d : Dev) (id : Nat) (v : ImgVar) : Option (List Byte) :=
  let own : Option (List Byte) := match v.src with
    | .own => none
    | .item i => some (leBytes v.size ((mgetD d.ks.agreed v.cls []).getD i (0, 0)).1)
    | .station n k =>
      let x := mgetD d.cyc.stations n stationRest
      ((mget d.img.stations n).bind fun s => s.vars[k]?).map fun f => leBytes v.size (ofBytes ((x.shown.drop f.off).take f.len))
  match own, mget d.mode.forces id with
  | some _, some f => some (leBytes v.size f)
  | x, _ => x
/-- The agreed inputs of a class as every Pier that the cycle expects stores them (R112, R173). -/
def inputsStore (cls cycle : Nat) (d : Dev) : Dev :=
  let l := d.img.vars.filterMap fun e => if e.2.cls == cls then (inputValue d e.1 e.2).map fun b => (e.2, b) else none
  forEach ([0, 1, 2].filter (winExpects d cls cycle)) (fun i d =>
    prSet (pierOf i) (fun u => l.foldl (fun u e => varPut e.1 e.2 u) u) d) d
/-- The streams of output words of a class cycle opened with the digest of the agreed frame (R112, R125). -/
def streamsOpen (cls cycle : Nat) (d : Dev) : Dev :=
  let g := agreedDigest d cls cycle
  forEach ([0, 1, 2].filter (winExpects d cls cycle)) (fun i d => prSet (pierOf i) (streamOpen cls cycle g) d) d

/-- The switch class of the change in progress agrees the change states (R207). -/
def mbChange (cls cycle partner : Nat) (changes : List (Nat × Nat)) (d : Dev) : Dev :=
  if chgClass d = some cls then chgAgree cycle partner changes d else d
/-- The partner item of the frame of a class cycle, if it has one. -/
def partnerItem (d : Dev) (cls cycle : Nat) : Option Nat :=
  (((frameOf d cls cycle).map (·.items)).getD []).findSome? fun x => match x with
    | .partner v => some v
    | _ => none
/-- What follows the judgement of a frame with a status for its single-received items (R112, R117, R173): inputs stored, streams opened. -/
def mbInputs (cls cycle status : Nat) (d : Dev) : Dev :=
  streamsOpen cls cycle (inputsStore cls cycle (ksSet (fun k => { k with frameStatus := mput k.frameStatus cls status }) d))
/-- The input frame of a cycle accepted with a status for its single-received items (R117): NONE while pair 1 is halted (R160). The
host's commands of the frame are agreed, and in the switch class the change states. -/
def mbAccept (cls cycle status : Nat) (changes : List (Nat × Nat)) (d : Dev) : Dev :=
  let d := mbInputs cls cycle (if pairHalted d 1 then asNONE else status) d
  let d := cmdsAgree cls cycle d
  let d := match partnerItem d cls cycle with
    | none => d
    | some v => chgSet (fun c => { c with agreed := v }) d
  if modeIs d mSAFE then d else mbChange cls cycle d.chg.agreed changes d
/-- The digests have no majority after the second exchange: nothing single-received is refreshed, the partner item among it, event 0x1103
(R117). -/
def mbSplit (cls cycle : Nat) (changes : List (Nat × Nat)) (d : Dev) : Dev :=
  let d := record Ev.FRAME_DIGEST_SPLIT [.w cls, .q cycle] (stationsUnfresh cls cycle d)
  let d := cmdsReturn cls cycle (mbInputs cls cycle asNONE d)
  mbChange cls cycle d.chg.agreed changes d

/-- The digest that at least two contributions share. -/
def mbMajority (l : List (Nat × MbPost)) : Option Nat :=
  ((l.find? fun e => l.any fun x => x.1 != e.1 && x.2.digest == e.2.digest).map (·.2.digest))
/-- The first exchange closed: absent contributions judged, inputs agreed, digests compared (R110 to R112, R117). -/
def mbFirst (cls : Nat) (s : MbSlot) (d : Dev) : Dev :=
  let l := slotPresent s
  let d := slotAbsent cls s l (slotClose cls s d)
  if l.length < 2 then safeNoMajority d
  else
    let d := inputsAgree cls l d
    let changes := l.filterMap fun e => e.2.change.map fun c => (e.1, c)
    let again (expect : Nat) (timer : Bool) (dig : Option Nat) : Dev :=
      mbPut cls ⟨s.cycle, true, expect, [], timer, dig, changes, false⟩ d
    match mbMajority l with
    | none => again (mbExpect d cls s.cycle) false none
    | some dig =>
      let odd := (l.filter fun e => e.2.digest != dig).map (·.1)
      if odd.isEmpty then mbAccept cls s.cycle (if l.length = 3 then asUNANIMOUS else asPAIR) changes d
      else again (maskOf odd) true (some dig)
/-- MINORITY with three Piers in service, PAIR with two: the frame was accepted only after a second exchange. -/
def mbSecondStatus (d : Dev) : Nat := if 3 ≤ (servicePiers d).length then asMINORITY else asPAIR
/-- The second exchange closed: a Pier whose new digest differs, or that did not post, withdraws; the status is that of the Piers in
service at the closure (R117). Where all Piers read again, one whose header differs from both others has not posted (R110); with no two equal
digests left the frame is not refreshed (DEDUCED, log 158). -/
def mbSecond (cls : Nat) (s : MbSlot) (d : Dev) : Dev :=
  let d := slotClose cls s d
  let st := mbSecondStatus d
  let l := if s.majority.isSome then s.posts else slotPresent s
  let dig := match s.majority with
    | some x => some x
    | none => mbMajority l
  match dig with
  | none => mbSplit cls s.cycle s.changes d
  | some x =>
    let bad := (bitsOf 3 s.expect).filter fun i => ((mget l i).map (·.digest)) != some x
    let d := forEach bad (fun i d => pierError (pierOf i) d) d
    if modeIs d mSAFE then d else mbAccept cls s.cycle st s.changes d
/-- A slot closes; halves whose CRCs over the release differ disagree, and hold the slot until their self-test has passed (R110 step 5, R155,
R156). -/
def mbClose (cls : Nat) (crcOk : Bool) (s : MbSlot) (d : Dev) : Dev :=
  if !crcOk then halvesDisagree 2 (mbPut cls { s with held := true } d)
  else if s.second then mbSecond cls s d else mbFirst cls s d
/-- A contribution entered into a slot: the timer starts at the last but one posting, the slot closes at the last (R110, R111). -/
def mbEnter (p : Pier) (cls : Nat) (c : MbPost) (crcOk : Bool) (s : MbSlot) (d : Dev) : Dev :=
  let s := { s with posts := mput s.posts (pierIdx p) c }
  let n := s.posts.length
  let s := { s with timer := s.timer || decide (mbCount s.expect ≤ n + 1) }
  let d := mbPut cls s d
  if mbCount s.expect ≤ n && !s.held then mbClose cls crcOk s d else d
/-- Whether a slot takes a Pier's contribution: expected, not yet posted, and in a second exchange a re-read one. -/
def mbTakes (s : MbSlot) (p : Pier) (c : Contribution) : Bool :=
  bitOf s.expect (pierIdx p) && (mget s.posts (pierIdx p)).isNone && (!s.second || c.reread)
/-- A posting after the closure of its cycle's slot: discarded, counted and recorded (event 0x1107, R110). -/
def mbLate (p : Pier) (cls cycle : Nat) (d : Dev) : Dev :=
  if (cls, cycle) ∈ d.ks.closedSlots then
    recordP Ev.MAILBOX_LATE p [.w cls, .q cycle, .w (pierIdx p)] (inc d Reg.KS_MINORITY_COUNT_MAILBOX_LATE)
  else d
/-- MAILBOX_CONTRIBUTION: a Pier in service posts to its class's slot, the second exchange of a cycle included; a posting for a cycle whose slot
has closed is late, whatever slot is open. `crcOk` says whether the halves' CRCs agree should this posting close the slot. -/
def mailboxPost (p : Pier) (cls : Nat) (c : Contribution) (crcOk : Bool) (d : Dev) : Dev :=
  let x := contribution d p cls c
  if !inService d p ∨ modeIs d mSAFE then d
  else match mget d.ks.slots cls with
    | some s =>
      if (s.cycle = c.cycle ∨ (cls, c.cycle) ∉ d.ks.closedSlots) ∧ mbTakes s p c then mbEnter p cls x crcOk s d
      else mbLate p cls c.cycle d
    | none =>
      if (cls, c.cycle) ∈ d.ks.closedSlots then mbLate p cls c.cycle d
      else match mbCycle d cls c.cycle with
        | none => d
        | some n =>
          let s : MbSlot := ⟨n, false, mbExpect d cls n, [], false, none, [], false⟩
          if mbTakes s p c then mbEnter p cls x crcOk s d else d
/-- MAILBOX_WAIT_EXPIRY: the wait timer of a class's slot expires. -/
def mailboxWait (cls : Nat) (crcOk : Bool) (d : Dev) : Dev :=
  match mget d.ks.slots cls with
  | none => d
  | some s => if s.timer && !s.held then mbClose cls crcOk s d else d
/-- MAILBOX_DEADLINE: the deadline of a class cycle passes with fewer than two postings, or none (R110 step 3). The exchange of a Pier that
alone reads again ends with its timer only (R117). -/
def mailboxDeadline (cls cycle : Nat) (d : Dev) : Dev :=
  match mget d.ks.slots cls with
  | some s => if s.cycle = cycle ∧ s.posts.length < 2 ∧ s.majority = none ∧ !s.held then mbClose cls true s d else d
  | none =>
    if (runOf d cls cycle).isSome ∧ (cls, cycle) ∉ d.ks.closedSlots then
      mbFirst cls ⟨cycle, false, mbExpect d cls cycle, [], false, none, [], false⟩ d
    else d
/-- The slots evaluated again after a change of service or a freeze: held ones once the self-test has passed, and those that hold a posting of
every Pier they expect now (R111, R113, R156). -/
def slotsReview (d : Dev) : Dev :=
  forEach (d.ks.slots.map (·.1)) (fun cls d =>
    match mget d.ks.slots cls with
    | none => d
    | some s =>
      if modeIs d mSAFE then d
      else if s.held then (if flag d Reg.KS_STATUS_FROZEN then d else mbClose cls true { s with held := false } d)
      else if !s.posts.isEmpty ∧ mbCount s.expect ≤ s.posts.length then mbClose cls true s d
      else d) d

/-! ## The execute phase (R99, R126, R170, R174) -/

/-- A message longer than a request split into requests in order; all but the last have the last-part flag clear (R119). -/
def reqSplit (unit target attr : Nat) : Nat → List Byte → List PierOut
  | 0, l => [.req unit target attr l]
  | n + 1, l =>
    if l.length ≤ 1536 then [.req unit target attr l]
    else .req unit target (bitClr attr 6) (l.take 1536) :: reqSplit unit target attr n (l.drop 1536)
/-- The etbTopoCnt of the input frame of a class cycle. -/
def frameEtb (d : Dev) (cls cycle : Nat) : Nat :=
  ((frameOf d cls cycle).bind fun f => f.items.findSome? fun x => match x with
    | .train etb _ _ _ _ _ => some etb
    | _ => none).getD 0
/-- The safety publication that a Trestle request of the application is for. -/
def safetyPub (d : Dev) (unit target : Nat) : Option (Nat × ImgPub) :=
  if unit = 2 ∧ bitField target 28 4 = 0 then
    match mget d.img.pubs (bitField target 0 16) with
    | some p => if p.safety then some (bitField target 0 16, p) else none
    | none => none
  else none
/-- What the runtime makes of a payload for a safety publication: the etbTopoCnt of the frame, then the vital data with its 16-byte trailer,
four bytes and two reserved, user data version, safe sequence counter, safety code, the higher byte first (R299, R301; the order of the trailer
PRESUMED from IEC 61375-2-3, log 170). -/
def vitalData (etb ssc : Nat) (p : ImgPub) (l : List Byte) : List Byte :=
  let body := l ++ List.replicate 6 0 ++ (leBytes 2 p.udv).reverse ++ (leBytes 4 ssc).reverse
  leBytes 4 etb ++ body ++ (leBytes 4 (Config.safetyCode p.sid etb body).toNat).reverse
/-- What a segment does in program order until it ends or faults: the outputs it leaves, whether it faulted, the machine after it. -/
def actsRun (p : Pier) (g : ImgSeg) (cycle : Nat) : List SegAct → List PierOut → Dev → List PierOut × Bool × Dev
  | [], out, d => (out, false, d)
  | a :: r, out, d =>
    let stop (kind addr : Nat) (trap : Bool) : List PierOut × Bool × Dev :=
      (out ++ [.fault g.num kind addr], true, syncFault p g.num cycle kind addr g.core trap d)
    match a with
    | .store addr l =>
      match accessFault d.img true addr l.length with
      | some k => stop k addr (k == 1)
      | none => actsRun p g cycle r out (prSet p (pierStore g.core addr l) d)
    | .load addr width =>
      match accessFault d.img false addr width with
      | some k => stop k addr (k == 1)
      | none => actsRun p g cycle r out d
    | .trap kind addr => stop kind addr true
    | .req unit target attr l =>
      match safetyPub d unit target with
      | none => actsRun p g cycle r (out ++ reqSplit unit target attr (l.length / 1536) l) d
      | some (n, pub) =>
        let ssc := trunc 32 (mgetD (triGet d.prs p).sscOut n 0 + 1)
        actsRun p g cycle r (out ++ [.req unit target attr (vitalData (frameEtb d g.cls cycle) ssc pub l)])
          (prSet p (fun u => { u with sscOut := mput u.sscOut n ssc }) d)
    | .slice off value => actsRun p g cycle r (out ++ [.slice off value]) d
/-- The segments of a class cycle in their order: by core, on a core as the image has them (R101, R126). A fault, one reported before among
them, ends the outputs of the cycle. -/
def segsRun (p : Pier) (cycle : Nat) (runs : List SegRun) : List ImgSeg → List PierOut → Dev → List PierOut × Bool × Dev
  | [], out, d => (out, false, d)
  | g :: r, out, d =>
    match (triGet d.prs p).faulted.find? fun f => f.1 == g.num && f.2.1 == cycle with
    | some f => (out ++ [.fault g.num f.2.2.1 f.2.2.2], true, d)
    | none =>
      let acts := ((runs.find? fun x => x.seg == g.num).map (·.acts)).getD []
      let x := actsRun p g cycle acts out d
      if x.2.1 then x else segsRun p cycle runs r x.1 x.2.2
/-- The segments of a class by ascending core index, in image order on each. -/
def classSegs (d : Dev) (cls : Nat) : List ImgSeg :=
  [0, 1, 2, 3].flatMap fun c => d.img.segs.filter fun g => g.cls == cls && g.core == c

/-! ## The output phase (R100, R125, R126, R173 to R176) -/

/-- The agreement status that goes with an input variable (R109, R117). -/
def varStatus (d : Dev) (v : ImgVar) : Nat :=
  match v.src with
  | .own => 0
  | .item i => ((mgetD d.ks.agreed v.cls []).getD i (0, asNONE)).2
  | .station _ _ => mgetD d.ks.frameStatus v.cls asNONE
/-- The process-image writes of a class (R176): every variable it owns, in the order of their identifiers, its value and, for an input, its
status. -/
def imageWrites (d : Dev) (p : Pier) (cls : Nat) : List PierOut :=
  (d.img.vars.filter fun e => e.2.cls == cls).flatMap fun e =>
    let value := PierOut.req 7 (imageBase + e.2.off) 0 (leBytes e.2.size (varShown d.mode.forces e.1 e.2 (triGet d.prs p)))
    match e.2.stat with
    | none => [value]
    | some o => [value, .req 7 (imageBase + o) 0 (leBytes 1 (varStatus d e.2))]
/-- The drive-leg writes of a class (R175, R427): the mask of the outputs it drives, then their states, at once or for the launch tick. -/
def legWrites (d : Dev) (cls legs : Nat) : List PierOut :=
  let at_ := flag d (Reg.CYC_CLS_CFG_DO_AT_LAUNCH cls) || flag d (Reg.CYC_CLS_CFG_COUPLED cls)
  let m := (imgClass d cls).drives % 65536
  [.slice 0xA0400 m, .slice 0xA0404 (b2n at_ * 2 ^ 31 + cls % 16 * 2 ^ 24 + (legs &&& m))]
/-- A setting of a Pier's own slice: its offset counts from the register space, block 10 for field I/O and 11 for position (log 157). -/
def sliceSet (p : Pier) (off value : Nat) (d : Dev) : Dev := registerWrite (.pier p) (0x40000000 + off) value d
/-- What a class puts out after its segments: the ARM_POSITION writes, the process image, the legs where it writes them. -/
def classOuts (d : Dev) (p : Pier) (cls cycle : Nat) (drive : Bool) (legs : Nat) : List PierOut :=
  ((armCmds d cls cycle).flatMap fun c => (armWrites d p c.desc).map fun w => PierOut.slice (0xB0000 + w.1) w.2) ++
    imageWrites d p cls ++ (if drive then legWrites d cls legs else [])
/-- The end word posted: the cycle's outputs are complete, its exchanged values wait for the end of its period (R100), and its cores go on. -/
def outEnd (p : Pier) (s : OutStream) (d : Dev) : Dev :=
  match runOf d s.cls s.cycle with
  | none => d
  | some r =>
    let d := prSet p (streamFeed endFeed { s with todo := [] }) d
    let d := prSet p (fun u => workEnd s.cls s.cycle (exchangePost d.img d.mode.forces s.cls (r.due + period d s.cls) u)) d
    let d := forEach (armCmds d s.cls s.cycle) (fun c d =>
      cmdHold c.seq St.OK (armResult d p (argB c.desc 0)) (.agreed s.cls s.cycle) d) d
    runsReview (runSet s.cls s.cycle (fun x => { x with ended := bitSet x.ended (pierIdx p) }) d)
/-- The outputs of a class cycle posted in order as far as the Pier's buffer takes them; where it is full the core stalls (R123). -/
def outPost (p : Pier) (cls cycle : Nat) : Nat → Dev → Dev
  | 0, d => d
  | n + 1, d =>
    match streamOf (triGet d.prs p) cls cycle with
    | none => d
    | some s => match s.todo with
      | [] => d
      | o :: rest =>
        let next (f : OutStream × PierUnit → OutStream × PierUnit) : Dev := prSet p (streamFeed f { s with todo := rest }) d
        match o with
        | .req unit target attr l =>
          let q : OutReq := ⟨cycle, cls, unit, s.reqs, target, attr, l⟩
          if reqRoom d p q then outPost p cls cycle n (reqPost p q (next (reqFeed q))) else d
        | .slice off v => outPost p cls cycle n (sliceSet p off v (next fun x => (sliceWords off v).foldl wordFeed x))
        | .fault seg kind addr => outPost p cls cycle n (next fun x => wordFeed x (faultWord seg kind addr))
        | .done => outEnd p s d
/-- CYCLE_OUTPUT_PHASE: every core of the class has finished what `runs` says its segments do, so the lead core, if it has no work of a higher
priority, posts the outputs and the end word. `legs` are the states of the outputs that the class drives, written where `drive`. -/
def outputPhase (p : Pier) (cls cycle : Nat) (runs : List SegRun) (drive : Bool) (legs : Nat) (d : Dev) : Dev :=
  match runOf d cls cycle, streamOf (triGet d.prs p) cls cycle with
  | some r, some s =>
    if !inService d p || bitOf r.ended (pierIdx p) || !s.todo.isEmpty || modeIs d mSAFE ||
        !workRuns (rd d (Reg.CYC_CLS_CFG_CORES cls)) cls cycle (triGet d.prs p) then d
    else
      let x := segsRun p cycle runs (classSegs d cls) [] d
      let d := x.2.2
      if modeIs d mSAFE then d
      else
        let out := x.1 ++ (if x.2.1 then [] else classOuts d p cls cycle drive legs) ++ [.done]
        outPost p cls cycle out.length (prSet p (streamPut { s with todo := out }) d)
  | _, _ => d
/-- OUTBOUND_REQUEST: a Pier posts a request copy, its words with it while the cycle's stream is open; with its buffer full it waits (R120, R123,
R125). -/
def outboundPost (p : Pier) (q : OutReq) (d : Dev) : Dev :=
  if !inService d p then d
  else if !reqRoom d p q then prSet p (fun u => { u with waiting := u.waiting ++ [q] }) d
  else match streamOf (triGet d.prs p) q.cls q.cycle with
    | none => reqPost p q d
    | some s => reqPost p q (prSet p (streamFeed (reqFeed q) s) d)
/-- The requests of a Pier that waited for space posted in their order as far as there is room, then the outputs of its cycles (R123). -/
def outResume (p : Pier) (d : Dev) : Dev :=
  let one (d : Dev) (q : OutReq) : Dev :=
    if (triGet d.prs p).waiting.head? = some q ∧ reqRoom d p q then
      outboundPost p q (prSet p (fun u => { u with waiting := u.waiting.drop 1 }) d)
    else d
  let d := (triGet d.prs p).waiting.foldl one d
  forEach (triGet d.prs p).streams (fun s d => if s.todo.isEmpty then d else outPost p s.cls s.cycle s.todo.length d) d

end Sys2Proof.Machine
end

