-- ==== Sys2Proof/Machine/ReleaseOps.lean ====
section
/-!
DEFINITION. Release of outbound requests: the tokens of the two halves (R142), what each unit does with a released request (R21, R119,
R124, R143, R185, R404), and what follows the release of a final window. The coding of targets and attributes that R119 leaves to the units
is the model's (DESIGN CHOICE, log 13).
-/
namespace Sys2Proof.Machine

/-! ## What each unit does (R119) -/

/-- A request of a window part discarded at its release, with event 0x1040 and its reason: 1 lease, 2 mode. -/
def reqDiscard (part : Nat) (q : OutReq) (reason : Nat) (d : Dev) : Dev :=
  let items : List Item := [.q (winId q.cls q.cycle part), .q q.cycle, .w q.cls, .w q.seq, .w reason]
  if reason = 1 then record Ev.REQUEST_DISCARDED items (inc d Reg.KS_REQ_DISCARD_LEASE)
  else recordOnce Ev.REQUEST_DISCARDED 2 items (inc d Reg.KS_REQ_DISCARD_MODE_MODE)
/-- Unit 1 (R143, R185, R403, R404): none while the Girder queue has no room. -/
def relGirder (part : Nat) (q : OutReq) (d : Dev) : Option Dev :=
  if !leaseHeld d then some (reqDiscard part q 1 d)
  else if modeIs d mSTOP ∨ modeIs d mHOLD then some (reqDiscard part q 2 d)
  else if gbRoom d then some (gbEnqueue (gbOfReq q) d)
  else none
/-- Message data of the application (R298): the parts of a message are joined up to the last, which sends it in RUN. -/
def relMd (q : OutReq) (d : Dev) : Dev :=
  let l := mgetD d.te.mdParts q.cls [] ++ q.payload
  if !bitOf q.attr 6 then teSet (fun t => { t with mdParts := mput t.mdParts q.cls l }) d
  else
    let d := teSet (fun t => { t with mdParts := mdel t.mdParts q.cls }) d
    if inRun d ∧ netActive d then
      emit (.mdSent (bitField q.target 24 4) (bitField q.target 32 32) (0x0A000000 + bitField q.attr 8 24) (bitField q.target 0 16) l) d
    else d
/-- Unit 2 by the kind in bits [31:28] of the target: 0 publication, 1 message data, 2 legacy send object, 3 the frame staged for the trigger
in bits [5:0] of the attributes (R270), 4 the request to inhibit inauguration (R290). -/
def relTrestle (part : Nat) (q : OutReq) (d : Dev) : Dev :=
  if !leaseHeld d then reqDiscard part q 1 d
  else match bitField q.target 28 4 with
    | 0 => pubRelease (bitField q.target 0 16) q.cycle q.payload d
    | 1 => relMd q d
    | 2 => lbRelease (bitField q.target 24 4) (bitField q.target 0 16) q.payload d
    | 3 => { d with staged := mput d.staged (bitField q.attr 0 6) q.payload }
    | 4 => inhibitReview (teSet (fun t => { t with inhibit := q.payload.headD 0 != 0 }) d)
    | _ => d
/-- Unit 3: the application's status and result of a host command agreed in the cycle; it completes with the cycle's release. -/
def relHost (q : OutReq) (d : Dev) : Dev :=
  match d.hi.cmds.find? fun c => c.ring == bitField q.target 60 4 && c.desc.id % 2 ^ 60 == q.target % 2 ^ 60 &&
      c.phase == .agreed q.cls q.cycle with
  | none => d
  | some c => cmdHold c.seq (ofBytes (q.payload.take 4)) (q.payload.drop 4) c.phase d
/-- Unit 5: an application event with the severity of the image (R454); a code the image does not define records nothing. -/
def relEvent (q : OutReq) (d : Dev) : Dev :=
  match mget d.img.events q.target with
  | none => d
  | some sev => intake (stamp d q.target sev 0xFF 3 1 false (q.payload.take 28)) d
/-- Unit 6: a push of a Causeway packet part (R442), or a voted register write (R124). -/
def relRegister (q : OutReq) (d : Dev) : Dev :=
  let a := q.target
  if blockOf a = 12 ∧ 0x40 ≤ a % 0x100 ∧ a % 0x100 < 0x80 ∧ a % 0x10000 < 0x200 then cwTxPush (a % 0x10000 / 0x100) q.attr q.payload d
  else registerWrite .voted a (ofBytes (q.payload.take 4)) d
/-- A released request performed by its unit, none while the Girder has no room for it. -/
def relPerform (part : Nat) (q : OutReq) (d : Dev) : Option Dev :=
  match q.unit with
  | 1 => relGirder part q d
  | 2 => some (relTrestle part q d)
  | 3 => some (relHost q d)
  | 4 => some (csRequest q.cls q.cycle q.target (ofBytes (q.payload.take 4)) d)
  | 5 => some (relEvent q d)
  | 6 => some (relRegister q d)
  | 7 => some (if imageBase ≤ q.target ∧ q.target + q.payload.length ≤ deckSramEnd then stageWrite q.cls q.target q.payload d else d)
  | _ => some d

/-! ## The run of releases (R141, R142) -/

/-- What follows the release of a cycle's final window: its store, its commit and late launch, its commands, a switch it completes, a
checkpoint and the declaration (R177, R194, R207, R352, R378, R383, R475). -/
def relFinal (cls cycle : Nat) (d : Dev) : Dev :=
  let due := ((runOf d cls cycle).map fun r => r.realDue).getD 0
  let d := cycleReleased cls cycle (csFormed cls cycle d)
  declare_ cls cycle due (cpDue cls cycle (chgReleased cls cycle (hostReleased cls cycle d)))
/-- The first item left release order. -/
def relPop (d : Dev) : Dev := ksSet (fun k => { k with releasing := k.releasing.drop 1, holding := false }) d
/-- Releases from the front while both tokens are there and agree, and the Girder has room; a hold for want of room is counted once. -/
def relRun : Nat → Dev → Dev
  | 0, d => d
  | n + 1, d =>
    if flag d Reg.KS_STATUS_FROZEN then d
    else match d.ks.releasing with
      | [] => d
      | .window c y _ final :: _ => relRun n (if final then relFinal c y (relPop d) else relPop d)
      | .req q part t1 t2 :: _ =>
        match t1, t2 with
        | some a, some b =>
          if a ≠ b then halvesDisagree 1 d
          else match relPerform part q (relPop d) with
            | some e => relRun n e
            | none => if d.ks.holding then d else inc (ksSet (fun k => { k with holding := true }) d) Reg.GB_QUEUE_FULL
        | _, _ => d
/-- A signature enters the stages (R127 to R129): that of the window as the Pier closed it, XORed with `flip`, with the requests posted by then;
of a window that the Pier has not closed, `flip` alone, with the extent `upto` and `final` that the posting claims. -/
def sigTake (p : Pier) (cls cycle part flip t upto : Nat) (final agree : Bool) (d : Dev) : Dev :=
  let mine (w : ClosedWin) : Bool := w.cls == cls && w.cycle == cycle && w.part == part
  match closedOf (triGet d.prs p) cls cycle part with
  | none => sigPost p cls cycle part flip t upto final agree d
  | some w =>
    let d := prSet p (fun u => { u with closed := mapIf mine (fun w => { w with posted := true }) u.closed }) d
    sigPost p cls cycle part (w.sig ^^^ flip) t w.upto w.final agree d
/-- The time now in units of 2.5 ns from the due tick of a class cycle. -/
def sigNow (d : Dev) (cls cycle : Nat) : Nat := (schedTime d - ((runOf d cls cycle).map (·.realDue)).getD 0 * 125000) * 2 / 5
/-- The first stalled posting of a Pier, once its stage has room: it arrives now (R129). -/
def sigResume (p : Pier) (d : Dev) : Dev :=
  match (triGet d.prs p).stalled with
  | [] => d
  | s :: r =>
    if stageFull d p then d
    else sigTake p s.cls s.cycle s.part s.flip (max s.t (sigNow d s.cls s.cycle)) 0 false true (prSet p (fun u => { u with stalled := r }) d)
/-- One pass over slots, windows and what waits in release order. -/
def settleOnce (d : Dev) : Dev :=
  if flag d Reg.KS_STATUS_FROZEN then d
  else
    let d := winOrder (slotsReview d)
    relRun d.ks.releasing.length d
/-- Nothing of a Pier stalls. -/
def pierIdle (u : PierUnit) : Bool := u.stalled.isEmpty && u.waiting.isEmpty && u.streams.all fun s => s.todo.isEmpty
/-- What stalls at a Pier goes on as far as there is room (R123, R129). -/
def piersResume (d : Dev) : Dev := forEach allPiers (fun p d => sigResume p (outResume p d)) d
/-- Passes over what is to be resolved and released, between which stalled Piers go on. -/
def settleN : Nat → Dev → Dev
  | 0, d => settleOnce d
  | n + 1, d =>
    let d := settleOnce d
    if allPiers.all fun p => pierIdle (triGet d.prs p) then d else settleN n (piersResume d)
/-- Slots that are complete close, windows whose release point has come enter release order, what can be released is, and Piers that stalled go
on. -/
def settle (d : Dev) : Dev := settleN ((allPiers.map fun p => (triGet d.prs p).stalled.length).foldl max 1) d

/-! ## Commands -/

/-- SIGNATURE_POSTED: a Pier posts the signature of a window at an arrival time; with eight unresolved windows in its stage the posting stalls
(R129). `flip` is what a faulty Pier's signature departs by, `agree` says whether the halves come to the same verdict. -/
def signaturePosted (p : Pier) (cls cycle part flip t upto : Nat) (final agree : Bool) (d : Dev) : Dev :=
  let expected := winExpects d cls cycle (pierIdx p)
  if expected && stageFull d p then settle (prSet p (fun u => { u with stalled := u.stalled ++ [⟨cls, cycle, part, flip, t⟩] }) d)
  else
    let d := sigTake p cls cycle part flip t upto final agree d
    settle (if expected && !agree then halvesDisagree 0 d else d)
/-- The token of a request: its window and the CRC-32 of its header and payload (R142; the polynomial PRESUMED, log 52). -/
def tokenOf (q : OutReq) (part : Nat) : Nat × Nat :=
  (winId q.cls q.cycle part, crc32 (((reqHeader q).flatMap (leBytes 8)) ++ q.payload))
/-- A token noted in the first item of its key that has none of that half yet; `err` is what a faulty half's CRC departs by. -/
def tokenPut (second : Bool) (cls cycle seq err : Nat) : List RelItem → List RelItem
  | [] => []
  | .req q part t1 t2 :: r =>
    let t : Nat × Nat := ((tokenOf q part).1, (tokenOf q part).2 ^^^ err)
    if q.cls = cls ∧ q.cycle = cycle ∧ q.seq = seq then
      (if second then .req q part t1 (some (t2.getD t)) else .req q part (some (t1.getD t)) t2) :: r
    else .req q part t1 t2 :: tokenPut second cls cycle seq err r
  | x :: r => x :: tokenPut second cls cycle seq err r
/-- RELEASE_TOKEN: the token of KS-1 (false) or KS-2 for a request; two that differ hold the request. -/
def releaseToken (second : Bool) (cls cycle seq err : Nat) (d : Dev) : Dev :=
  settle (ksSet (fun k => { k with releasing := tokenPut second cls cycle seq err k.releasing }) d)
/-- A request of a key that one half has released and the other not. -/
def tokenAlone (d : Dev) (cls cycle seq : Nat) : Bool :=
  d.ks.releasing.any fun x => match x with
    | .req q _ t1 t2 => q.cls == cls && q.cycle == cycle && q.seq == seq && t1.isSome != t2.isSome
    | .window _ _ _ _ => false
/-- RELEASE_TOKEN_TIMEOUT: the other half's token has not come within 10 µs. -/
def tokenTimeout (cls cycle seq : Nat) (d : Dev) : Dev := if tokenAlone d cls cycle seq then halvesDisagree 1 d else d

end Sys2Proof.Machine
end

