-- ==== Sys2Proof/Machine/BackplaneCmds.lean ====
section
/-!
DEFINITION. The commands of the Girder (spec/14): one meaning each.
-/
namespace Sys2Proof.Machine

/-- GIRDER_REQUEST_START (R397). -/
def execGirderRequestStart (s : State) : Host.Outcome State Fault Refusal := actPowered gbStart s
/-- GRANT_RECEIVED (R397). -/
def execGrantReceived (s : State) : Host.Outcome State Fault Refusal := actPowered gbGrant s
/-- GRANT_TIMEOUT (R397). -/
def execGrantTimeout (s : State) : Host.Outcome State Fault Refusal := actPowered gbGrantTimeout s
/-- DATA_PHASE_END (R397). -/
def execDataPhaseEnd (e : PhaseEnd) (s : State) : Host.Outcome State Fault Refusal := actPowered (gbDataPhaseEnd e) s
/-- DATA_PHASE_TIMEOUT (R412). -/
def execDataPhaseTimeout (s : State) : Host.Outcome State Fault Refusal := actPowered gbDataTimeout s
/-- GRANT_WITHDRAWN (R399). -/
def execGrantWithdrawn (s : State) : Host.Outcome State Fault Refusal := actPowered gbGrantWithdrawn s
/-- BUS_OWNERSHIP_LIMIT (R399). -/
def execBusOwnershipLimit (s : State) : Host.Outcome State Fault Refusal := actPowered gbOwnershipLimit s
/-- GIRDER_QUEUE_FREED (R404). -/
def execGirderQueueFreed (s : State) : Host.Outcome State Fault Refusal := actPowered settle s
/-- BP_RESET (R412). -/
def execBpReset (s : State) : Host.Outcome State Fault Refusal := actPowered gbBpReset s
/-- BP_CLOCK_LOST (R412). -/
def execBpClockLost (s : State) : Host.Outcome State Fault Refusal := actPowered gbClockLost s
/-- SNOOP_WRITE (R416). -/
def execSnoopWrite (win : Nat) (off : Nat) (be : Nat) (data : Nat) (s : State) : Host.Outcome State Fault Refusal :=
  actPowered (gbSnoopWrite win off be data) s
/-- BP_INTERRUPT (R417). -/
def execBpInterrupt (level : Bool) (s : State) : Host.Outcome State Fault Refusal := actPowered (gbInterrupt level) s
/-- DECK_WINDOW_ACCESS (R405). -/
def execDeckWindowAccess (kind : Nat) (win : Nat) (off : Nat) (be : Nat) (data : Nat) (mask : Nat) (s : State) : Host.Outcome State Fault Refusal :=
  actPowered (gbDeckAccess kind win off be data mask) s
/-- BP_RESET_RELEASED (R412). -/
def execBpResetReleased (s : State) : Host.Outcome State Fault Refusal := actPowered gbBpReleased s

end Sys2Proof.Machine
end

