-- ==== Sys2Proof/Machine/ClockCmds.lean ====
section
/-!
DEFINITION. The commands of clock domains (spec/20): one meaning each.
-/
namespace Sys2Proof.Machine

/-- CLOCK_LOSS (R506). -/
def execClockLoss (dom : Nat) (inst : Nat) (freq : Nat) (gm : Nat) (r : BmcResult) (s : State) : Host.Outcome State Fault Refusal :=
  actPowered (fun d => settle (clockLoss dom inst freq gm r d)) s
/-- CLOCK_TOLERANCE (R506). -/
def execClockTolerance (dom : Nat) (inst : Nat) (ppm : Int) (freq : Nat) (s : State) : Host.Outcome State Fault Refusal :=
  actPowered (clockTolerance dom inst ppm freq) s
/-- CLOCK_RETURN (R515). -/
def execClockReturn (dom : Nat) (inst : Nat) (freq : Nat) (dropped : List Nat) (s : State) : Host.Outcome State Fault Refusal :=
  actPowered (clockReturn dom inst freq dropped) s
/-- SNAPSHOT_GO (R516). -/
def execSnapshotGo (domains : Nat) (s : State) : Host.Outcome State Fault Refusal := actPowered (snapshotGo domains) s
/-- SNAPSHOT_DONE (R516). -/
def execSnapshotDone (counts : List Nat) (s : State) : Host.Outcome State Fault Refusal := actPowered (snapshotDone counts) s

end Sys2Proof.Machine
end

