-- ==== Sys2Proof/Machine/Cycle.lean ====
section
/-!
DEFINITION. The Cycle scheduler (spec/06): ticks and housekeeping boundaries, what takes effect at one, breakpoints and steps, the
watchdog, snapshots while no cycles run.
-/
namespace Sys2Proof.Machine

/-! ## What takes effect at a tick (R100, R188, R189, R245, R273) -/

/-- The first accepted epoch applied at a tick, or its command ended where the state no longer permits it; one tick takes one (R245). -/
def epochTick (t : Nat) (d : Dev) : Dev :=
  match d.tu.epochs with
  | [] => d
  | q :: r =>
    let d := tuSet (fun u => { u with epochs := r }) d
    match cmdOf d q.cmd, epochRefusal d q.trainTime.isSome with
    | none, _ => d
    | some _, some st => cmdFinal q.cmd st [] d
    | some _, none =>
      let dE : Int := match q.trainTime with
        | none => roundMicro d.tu.theta
        | some x => (x : Int) - (t * 125000 : Nat) - epochE d
      let d := epochApply dE t d
      let d := loenpa (.epoch (epochE d) (rd d Reg.TU_EPOCH_NUM)) d
      cmdFinal q.cmd St.OK (leBytes 4 (rd d Reg.TU_EPOCH_NUM) ++ leBytes 4 0 ++ leBytes 8 (ofSigned 64 (epochE d)) ++
        leBytes 8 (ofSigned 64 dE) ++ leBytes 8 t) d

/-- The breakpoint's cycle would start at a tick of the scheduling count (R188). -/
def breakHit (d : Dev) (st : Nat) : Bool :=
  let c := rd d Reg.CYC_BRK_CLASS
  flag d Reg.CYC_BRK_EN && classDue d c st && nextCycle d c == rd d Reg.CYC_BRK_CYC && (!inRun d || holdAllowed d)
/-- The breakpoint is hit: cleared, event 0x2020, HOLD entered; a step ends with it. -/
def breakTake (d : Dev) : Dev :=
  let d := record Ev.BREAKPOINT_HIT [.w (rd d Reg.CYC_BRK_CLASS), .q (rd d Reg.CYC_BRK_CYC)] (wrB d Reg.CYC_BRK_EN false)
  if inRun d then modeEnter mHOLD d else stepPreempt (wr d Reg.CYC_STATUS_STATE 2)
/-- The step ends: its last cycle has started and that cycle's final window is released, with event 0x2021 (R189). The cycles in progress
complete, and their launches are not performed (R186). -/
def stepEnd (d : Dev) : Dev :=
  let s := rd d Reg.CYC_STEP_CLASS
  match (if cycState d = 3 then d.cyc.stepLast else none) with
  | none => d
  | some n =>
    if ((runOf d s n).map (·.released)).getD true then
      let d := cycSet (fun x => { x with stepLast := none }) d
      let d := launchesDrop (record Ev.STEP_DONE [.w s, .q n] (wr d Reg.CYC_STATUS_STATE 2))
      match d.mode.stepCmd with
      | none => d
      | some c => modeSet (fun m => { m with stepCmd := none }) (cmdFinal c St.OK (modeResult d) d)
    else d

/-- The tick of the scheduling count that is issued at a real tick, if one is: the real tick in RUN, CYC_VTICK while stepping, which then
advances (R189, R190). -/
def schedTick (t : Nat) (d : Dev) : Option Nat × Dev :=
  if cycState d = 1 then (some t, wr d Reg.CYC_VTICK t)
  else if cycState d = 3 then (some (rd d Reg.CYC_VTICK), incW d Reg.CYC_VTICK)
  else (none, if modeIs d mSTOP then wr d Reg.CYC_VTICK t else d)
/-- A cycle of the stepped class counted; the last one of the count ends the step (R189). -/
def stepCount (c : Nat) (d : Dev) : Dev :=
  let n := rd d Reg.CYC_STEP_REMAIN
  if cycState d = 3 ∧ rd d Reg.CYC_STEP_CLASS = c ∧ n ≠ 0 then
    let d := wr d Reg.CYC_STEP_REMAIN (n - 1)
    if n = 1 then cycSet (fun x => { x with stepLast := some (rd d (Reg.CYC_CLS_CYC c)) }) d else d
  else d
/-- A cycle of a due class starts with what its frame carries (R169, R173); the partner item goes to the switch class (R207). -/
def classStart (st t c : Nat) (d : Dev) : Dev :=
  let host := if pairHalted d 1 then ([], d) else hostToFrame c (nextCycle d c) d
  let partner : List FrameItem := if chgPending d && chgClass d == some c then [.partner d.chg.partner] else []
  stepCount c (cycleStart c st t (host.1 ++ partner) host.2)
/-- A switch due at a tick of the scheduling count, the publications (R100, R204), then the launches and cycle starts, launches first (R181,
R186). -/
def cyclesTick (st t : Nat) (d : Dev) : Dev :=
  let due := dueAt d st
  let d := prsAll (publish st) (chgTick st due (cmdsAgain d))
  let d := launchesAt st (scansStart st d)
  let d := forEach due (classStart st t) d
  canSyncs due (if due.isEmpty then d else resyncRejoin d)
/-- The positions of every reference at a tick boundary (R274). -/
def positionsLatch (d : Dev) : Dev :=
  forEach allPiers (fun p d =>
    let l := (List.range 4).map fun r => (r, ptPos d p r)
    ptSet p (fun s => { s with tickPos := l }) d) d
/-- Schedule time is at tick `t` at the least (R165). -/
def tickClock (t : Nat) (d : Dev) : Dev :=
  let s := max (schedTime d) (t * 125000)
  let gone := clkAdvance (clockFor (s - schedTime d) d) (if schedTime d < s then tuSet (fun t => { t with frac := 0 }) d else d)
  macsRealign (wr (wr gone Reg.TU_SCHED s) Reg.CYC_TICK t)
/-- What follows a tick in the other units: claims, comparisons, sending instants, gates, bus periods, line buffers. -/
def tickUnits (t : Nat) (d : Dev) : Dev :=
  let d := if classDue d (rd d Reg.DX_CLAIM_CFG_CLASS) t then claimWrites d else d
  let d := ptRebases t (positionsLatch (linesDiscard (comparesAt t (peerReview d))))
  mvbPeriods t (gatesRestart t (pubsDue t (teLoad d)))
/-- TICK: the tick number increments (R165). A mode change precedes the launches and cycle starts of its tick (R186); a takeover enters
RUN when a class is due. -/
def tick (d : Dev) : Dev :=
  if !schedValid d then d
  else
    let t := rd d Reg.CYC_TICK + 1
    let d := stepEnd (filtersPass (tickClock t d))
    let d := takeoverEnter (!(dueAt d t).isEmpty || (lowestClass d).isNone) (modeBoundary (epochTick t d))
    let d := tickUnits t d
    let hit := (inRun d && breakHit d t) || (cycState d == 3 && breakHit d (rd d Reg.CYC_VTICK))
    let d := if hit then breakTake d else d
    let st := schedTick t d
    match st.1 with
    | none => st.2
    | some n => cyclesTick n t st.2
/-- HOUSEKEEPING_BOUNDARY: while schedule time is not valid, every 125 µs from the end of boot step 8 (R166). -/
def housekeeping (d : Dev) : Dev :=
  if schedValid d ∨ rd d Reg.MCTL_BOOT_STEP < 8 then d
  else
    let d := cycSet (fun x => { x with hk := x.hk + 1 }) (clkAdvance 125000 d)
    teLoad (linesDiscard (peerReview (takeoverEnter (d.dx.tkMode != mRUN) (modeBoundary d))))

/-! ## The watchdog (R191 to R195) -/

/-- The final window of a class cycle. -/
def finalWindow (d : Dev) (cls cycle : Nat) : Option KsWindow :=
  d.ks.windows.find? fun w => w.cls == cls && w.cycle == cycle && w.final
/-- The signatures of a window that count for the watchdog: those of its majority once it has one, else those of the Piers expected. -/
def watchArrivals (d : Dev) (w : KsWindow) : List (Nat × Nat × Nat) :=
  if w.majority = 0 then winArrivals d w
  else (w.sigs.filter fun e => bitOf w.majority e.1).foldl (fun l x => arrInsert x l) []
/-- A program overrun: event 0x2003 with the Piers that posted, SAFE with cause WATCHDOG; a cause of the same clock cycle comes later
(R191, R195). -/
def programOverrun (cls cycle : Nat) (w : Option KsWindow) (posted : Nat) (other : Option (Nat × Nat)) (d : Dev) : Dev :=
  let d := overrunNote 3 cls cycle w d
  let d := safeEnter scWATCHDOG cls (recordSev 4 Ev.PROGRAM_OVERRUN 3 [.w cls, .q cycle, .w posted] d)
  match other with
  | none => d
  | some c => safeEnter c.1 c.2 d
/-- WATCHDOG_DEADLINE: D + SKEW_US of a class cycle passes; `other` is another SAFE cause, with its detail, of the same clock cycle. -/
def watchdog (cls cycle : Nat) (other : Option (Nat × Nat)) (d : Dev) : Dev :=
  let w := finalWindow d cls cycle
  if (runOf d cls cycle).isNone && w.isNone || (w.map fun x => x.judged).getD false || modeIs d mSAFE then d
  else
    let due := deadlineOf d cls cycle
    let arr := ((w.map (watchArrivals d)).getD []).filter fun a => decide (a.2.2 ≤ due + skewUnits d)
    match arr with
    | _ :: b :: _ =>
      let d := match w with
        | none => d
        | some x => winPut { x with judged := true } d
      if due < b.2.2 then
        record Ev.CYCLE_LATE [.w cls, .q cycle, .w ((b.2.2 - due) / 400)] (overrunNote 1 cls cycle w (inc d (Reg.CYC_CLS_OVR_LATE cls)))
      else d
    | _ => programOverrun cls cycle w (maskOf (arr.map (·.1))) other d

/-! ## Snapshots while no cycles run (R179) -/

/-- SNAPSHOT_TIMER: in STOP, and in HOLD while halted, the snapshot is written where the image asks for snapshots; while stepping, once
none has been written for 100 ms. -/
def snapshotTimer (d : Dev) : Dev :=
  let idle := cycState d != 3 || decide (d.cyc.snapSince + 100 * msec ≤ d.clk)
  if (modeIs d mSTOP ∨ modeIs d mHOLD) ∧ idle ∧ flag d Reg.CYC_CFG_SNAP_EN then snapshotWrite d else d

end Sys2Proof.Machine
end

