-- ==== Sys2Proof/Machine/CycleCmds.lean ====
section
/-!
DEFINITION. The commands of the tick, the modes and the cyclic program (spec/03, spec/06): one meaning each.
-/
namespace Sys2Proof.Machine

/-- MODE_CHANGE (R90). -/
def execModeChange (s : State) : Host.Outcome State Fault Refusal := actPowered modeBoundary s
/-- TICK (R165). -/
def execTick (s : State) : Host.Outcome State Fault Refusal := actPowered tick s
/-- HOUSEKEEPING_BOUNDARY (R166). -/
def execHousekeepingBoundary (s : State) : Host.Outcome State Fault Refusal := actPowered housekeeping s
/-- SNAPSHOT_TIMER (R179). -/
def execSnapshotTimer (s : State) : Host.Outcome State Fault Refusal := actPowered snapshotTimer s
/-- WATCHDOG_DEADLINE (R191). -/
def execWatchdogDeadline (cls : Nat) (cycle : Nat) (other : Option (Nat × Nat)) (s : State) : Host.Outcome State Fault Refusal :=
  actPowered (watchdog cls cycle other) s

end Sys2Proof.Machine
end

