-- ==== Sys2Proof/Machine/DuplexCmds.lean ====
section
/-!
DEFINITION. The commands of the pair of modules (spec/13): one meaning each.
-/
namespace Sys2Proof.Machine

/-- LOENPA_FRAME (R367). -/
def execLoenpaFrame (f : LoenpaFrame) (s : State) : Host.Outcome State Fault Refusal := actPowered (loenpaFrame f) s
/-- LANE_DOWN (R367). -/
def execLaneDown (lane : Bool) (s : State) : Host.Outcome State Fault Refusal := actPowered (laneDown lane) s
/-- LANE_UP (R367). -/
def execLaneUp (lane : Bool) (pos : Nat) (leaseMs : Nat) (guardMs : Nat) (image : Nat) (gen : Nat) (proto : Nat) (dropped : Nat) (s : State) : Host.Outcome State Fault Refusal :=
  actPowered (laneTrained lane pos leaseMs guardMs image gen proto dropped) s
/-- LOENPA_IDLE_TIMER (R367). -/
def execLoenpaIdleTimer (s : State) : Host.Outcome State Fault Refusal := actPowered loenpaIdle s
/-- STATUS_FRAME_TIMER (R368). -/
def execStatusFrameTimer (s : State) : Host.Outcome State Fault Refusal := actPowered statusFrame s
/-- LEASE_RENEW_TIMER (R370). -/
def execLeaseRenewTimer (s : State) : Host.Outcome State Fault Refusal := actPowered leaseRenew s
/-- LEASE_REQUEST (R371). -/
def execLeaseRequest (counters : List (Nat × Nat)) (s : State) : Host.Outcome State Fault Refusal := actPowered (leaseAsked counters) s
/-- LEASE_GRANT (R370). -/
def execLeaseGrant (counters : List (Nat × Nat)) (crcOk : Bool) (s : State) : Host.Outcome State Fault Refusal :=
  actPowered (leaseGranted counters crcOk) s
/-- SLICE_LEASE_EXPIRY (R24). -/
def execSliceLeaseExpiry (p : Pier) (s : State) : Host.Outcome State Fault Refusal := actPowered (sliceExpiry p) s
/-- PARTNER_ABSENT_GUARD (R374). -/
def execPartnerAbsentGuard (s : State) : Host.Outcome State Fault Refusal := actPowered absentGuard s
/-- PEER_PIN_CHANGE (R374). -/
def execPeerPinChange (alive : Bool) (standby : Bool) (s : State) : Host.Outcome State Fault Refusal :=
  actPowered (peerPins alive standby) s
/-- REQUESTS_STOPPED_TIMEOUT (R386). -/
def execRequestsStoppedTimeout (s : State) : Host.Outcome State Fault Refusal := actPowered requestsStopped s
/-- PEER_STANDING_BY_TIMEOUT (R386). -/
def execPeerStandingByTimeout (s : State) : Host.Outcome State Fault Refusal := actPowered peerStandingBy s
/-- TAKEOVER_NOTICE (R388). -/
def execTakeoverNotice (s : State) : Host.Outcome State Fault Refusal := actPowered takeoverNotice s
/-- HANDOVER_NOTICE (R390). -/
def execHandoverNotice (s : State) : Host.Outcome State Fault Refusal := actPowered handoverNotice s
/-- TAKEOVER_WAIT_END (R388). -/
def execTakeoverWaitEnd (s : State) : Host.Outcome State Fault Refusal := actPowered takeoverWaitEnd s
/-- CHECKPOINT_LOADED (R387). -/
def execCheckpointLoaded (sigs : Tri Nat) (ms : Nat) (s : State) : Host.Outcome State Fault Refusal :=
  actPowered (checkpointLoaded sigs ms) s
/-- CHECKPOINT_COMPLETE (R378). -/
def execCheckpointComplete (s : State) : Host.Outcome State Fault Refusal := actPowered checkpointComplete s
/-- CHECKPOINT_DATA (R380). -/
def execCheckpointData (c : Checkpoint) (trailerOk : Bool) (s : State) : Host.Outcome State Fault Refusal :=
  actPowered (checkpointData c trailerOk) s
/-- IMAGE_SYNCED (R381). -/
def execImageSynced (image : Nat) (gen : Nat) (img : Image) (seconds : Nat) (s : State) : Host.Outcome State Fault Refusal :=
  actPowered (imageSynced image gen img seconds) s
/-- JOURNAL_LEVELLED (R382). -/
def execJournalLevelled (diverged : Option Nat) (entries : List (Nat × JEntry)) (s : State) : Host.Outcome State Fault Refusal :=
  actPowered (journalLevelled diverged entries) s
/-- OUTPUT_DECLARATION (R383). -/
def execOutputDeclaration (x : Declaration) (s : State) : Host.Outcome State Fault Refusal := actPowered (outputDeclaration x) s

end Sys2Proof.Machine
end

