-- ==== Sys2Proof/Machine/EventCmds.lean ====
section
/-!
DEFINITION. The commands of the event recorder (spec/17): one meaning each.
-/
namespace Sys2Proof.Machine

/-- EVENT_INTAKE (R455). -/
def execEventIntake (code : Nat) (pier : Nat) (items : List Item) (s : State) : Host.Outcome State Fault Refusal :=
  actPowered (eventIntake code pier items) s
/-- RECORD_STORE (R455). -/
def execRecordStore (outcome : Nat) (s : State) : Host.Outcome State Fault Refusal := actPowered (recordStore outcome) s
/-- TOKEN_REFILL (R456). -/
def execTokenRefill (code : Nat) (s : State) : Host.Outcome State Fault Refusal := actPowered (tokenRefill code) s
/-- SUMMARY_TIMEOUT (R457). -/
def execSummaryTimeout (code : Nat) (s : State) : Host.Outcome State Fault Refusal := actPowered (summarize code) s
/-- NOTIFY_HOLD_EXPIRY (R464). -/
def execNotifyHoldExpiry (s : State) : Host.Outcome State Fault Refusal := actPowered notifyExpiry s
/-- EV_SEL_WRITE (R465). -/
def execEvSelWrite (high : Bool) (v : Nat) (s : State) : Host.Outcome State Fault Refusal := actPowered (evSelWrite high v) s

end Sys2Proof.Machine
end

