-- ==== Sys2Proof/Machine/HostCmds.lean ====
section
/-!
DEFINITION. The commands of the host interface (spec/12): one meaning each.
-/
namespace Sys2Proof.Machine

/-- SQ_TAIL_DOORBELL (R336). -/
def execSqTailDoorbell (n : Nat) (upper : Bool) (v : Nat) (s : State) : Host.Outcome State Fault Refusal :=
  actPowered (hostWhole (sqDoorbell n upper v)) s
/-- CQ_HEAD_DOORBELL (R337). -/
def execCqHeadDoorbell (q : Nat) (upper : Bool) (v : Nat) (s : State) : Host.Outcome State Fault Refusal :=
  actPowered (hostWhole (cqDoorbell q upper v)) s
/-- SQ_CFG_WRITE (R334). -/
def execSqCfgWrite (n : Nat) (word : Nat) (s : State) : Host.Outcome State Fault Refusal := actPowered (hostWhole (sqCfgWrite n word)) s
/-- CQ_CFG_WRITE (R334). -/
def execCqCfgWrite (q : Nat) (word : Nat) (s : State) : Host.Outcome State Fault Refusal := actPowered (hostWhole (cqCfgWrite q word)) s
/-- DESCRIPTOR_FETCH (R345). -/
def execDescriptorFetch (x : Desc) (payload : Option (List Byte)) (cs : Option ChangeSet) (s : State) : Host.Outcome State Fault Refusal :=
  actPowered (descFetch x payload cs) s
/-- MIRROR_CONFIRM (R348). -/
def execMirrorConfirm (seq : Nat) (s : State) : Host.Outcome State Fault Refusal := actPowered (mirrorConfirm seq) s
/-- MIRROR_TIMEOUT (R348). -/
def execMirrorTimeout (seq : Nat) (s : State) : Host.Outcome State Fault Refusal := actPowered (mirrorTimeout seq) s
/-- PAYLOAD_FETCH_DONE (R347). -/
def execPayloadFetchDone (seq : Nat) (payload : List Byte) (s : State) : Host.Outcome State Fault Refusal :=
  actPowered (payloadDone seq payload) s
/-- DMA_ERROR (R339). -/
def execDmaError (cplWrite : Bool) (n : Nat) (s : State) : Host.Outcome State Fault Refusal := actPowered (dmaError cplWrite n) s
/-- DMA_COMPLETION_TIMEOUT (R339). -/
def execDmaCompletionTimeout (n : Nat) (s : State) : Host.Outcome State Fault Refusal := actPowered (dmaError false n) s
/-- MSIX_IMOD_EXPIRY (R360). -/
def execMsixImodExpiry (q : Nat) (s : State) : Host.Outcome State Fault Refusal := actPowered (imodExpiry q) s
/-- MSIX_UNMASK (R42). -/
def execMsixUnmask (v : Nat) (s : State) : Host.Outcome State Fault Refusal := actPowered (hostWhole (msixUnmask v)) s
/-- RESERVED_BAR_ACCESS (R38). -/
def execReservedBarAccess (bar : Nat) (off : Nat) (read : Bool) (s : State) : Host.Outcome State Fault Refusal :=
  actPowered (barAccess bar off read) s
/-- EVW_CURSOR_WRITE (R361). -/
def execEvwCursorWrite (high : Bool) (v : Nat) (s : State) : Host.Outcome State Fault Refusal := actPowered (hostAny (evwWrite high v)) s
/-- EVW_READ (R361). -/
def execEvwRead (off : Nat) (words : Nat) (s : State) : Host.Outcome State Fault Refusal := actPowered (hostAny (evwRead off words)) s
/-- JW_SEL_WRITE (R358). -/
def execJwSelWrite (high : Bool) (v : Nat) (s : State) : Host.Outcome State Fault Refusal := actPowered (hostWhole (jwSelWrite high v)) s
/-- JW_NEXT_READ (R364). -/
def execJwNextRead (s : State) : Host.Outcome State Fault Refusal := actPowered (hostWhole jwNextRead) s
/-- VW_VALUE_READ (R362). -/
def execVwValueRead (s : State) : Host.Outcome State Fault Refusal := actPowered (hostWhole vwValueRead) s
/-- VW_LIST_READ (R362). -/
def execVwListRead (high : Bool) (s : State) : Host.Outcome State Fault Refusal := actPowered (hostWhole (vwListRead high)) s
/-- D3HOT_ENTRY (R332). -/
def execD3hotEntry (s : State) : Host.Outcome State Fault Refusal := actPowered d3Entry s

end Sys2Proof.Machine
end

