-- ==== Sys2Proof/Machine/KeystoneCmds.lean ====
section
/-!
DEFINITION. The commands of the Piers, the mailbox, the Keystone and recovery (spec/04, spec/05): one meaning each.
-/
namespace Sys2Proof.Machine

/-- START_MARK (R105). -/
def execStartMark (p : Pier) (cls : Nat) (cycle : Nat) (t : Nat) (s : State) : Host.Outcome State Fault Refusal :=
  actPowered (startMark p cls cycle t) s
/-- MAILBOX_CONTRIBUTION (R110). -/
def execMailboxContribution (p : Pier) (cls : Nat) (c : Contribution) (crcOk : Bool) (s : State) : Host.Outcome State Fault Refusal :=
  actPowered (fun d => settle (mailboxPost p cls c crcOk d)) s
/-- MAILBOX_WAIT_EXPIRY (R110). -/
def execMailboxWaitExpiry (cls : Nat) (crcOk : Bool) (s : State) : Host.Outcome State Fault Refusal :=
  actPowered (fun d => settle (mailboxWait cls crcOk d)) s
/-- MAILBOX_DEADLINE (R110). -/
def execMailboxDeadline (cls : Nat) (cycle : Nat) (s : State) : Host.Outcome State Fault Refusal :=
  actPowered (fun d => settle (mailboxDeadline cls cycle d)) s
/-- CONTROL_EXCHANGE (R211). -/
def execControlExchange (vals : List (Nat × Nat)) (s : State) : Host.Outcome State Fault Refusal := actPowered (exchange vals) s
/-- OUTBOUND_REQUEST (R120). -/
def execOutboundRequest (p : Pier) (q : OutReq) (s : State) : Host.Outcome State Fault Refusal := actPowered (outboundPost p q) s
/-- CYCLE_OUTPUT_PHASE (R173). -/
def execCycleOutputPhase (p : Pier) (cls : Nat) (cycle : Nat) (runs : List SegRun) (drive : Bool) (legs : Nat) (s : State) : Host.Outcome State Fault Refusal :=
  actPowered (outputPhase p cls cycle runs drive legs) s
/-- SIGNATURE_POSTED (R131). -/
def execSignaturePosted (p : Pier) (cls : Nat) (cycle : Nat) (part : Nat) (flip : Nat) (t : Nat) (upto : Nat) (final : Bool) (agree : Bool) (s : State) : Host.Outcome State Fault Refusal :=
  actPowered (signaturePosted p cls cycle part flip t upto final agree) s
/-- SKEW_TIMER_EXPIRY (R130). -/
def execSkewTimerExpiry (cls : Nat) (cycle : Nat) (part : Nat) (s : State) : Host.Outcome State Fault Refusal :=
  actPowered (fun d => settle (skewExpire cls cycle part d)) s
/-- RELEASE_TOKEN (R142). -/
def execReleaseToken (second : Bool) (cls : Nat) (cycle : Nat) (seq : Nat) (err : Nat) (s : State) : Host.Outcome State Fault Refusal :=
  actPowered (releaseToken second cls cycle seq err) s
/-- RELEASE_TOKEN_TIMEOUT (R142). -/
def execReleaseTokenTimeout (cls : Nat) (cycle : Nat) (seq : Nat) (s : State) : Host.Outcome State Fault Refusal :=
  actPowered (tokenTimeout cls cycle seq) s
/-- PIER_LOCAL_ERROR (R137). -/
def execPierLocalError (p : Pier) (s : State) : Host.Outcome State Fault Refusal := actPowered (fun d => settle (pierError p d)) s
/-- SYNC_FAULT (R26). -/
def execSyncFault (p : Pier) (seg : Nat) (cycle : Nat) (kind : Nat) (addr : Nat) (core : Nat) (trap : Bool) (s : State) : Host.Outcome State Fault Refusal :=
  actPowered (syncFault p seg cycle kind addr core trap) s
/-- KS_STAGE_PARITY (R155). -/
def execKsStageParity (h : Nat) (p : Pier) (again : Bool) (s : State) : Host.Outcome State Fault Refusal :=
  actPowered (stageParity h p again) s
/-- KS_SELFTEST_DONE (R156). -/
def execKsSelftestDone (pass1 : Bool) (pass2 : Bool) (dur : Nat) (agree : Bool) (s : State) : Host.Outcome State Fault Refusal :=
  actPowered (fun d => settle (selftestDone pass1 pass2 dur agree d)) s
/-- KS_ONLINE_TEST (R157). -/
def execKsOnlineTest (fail1 : Option Nat) (fail2 : Option Nat) (s : State) : Host.Outcome State Fault Refusal :=
  actPowered (onlineTest fail1 fail2) s
/-- RESYNC_START (R145). -/
def execResyncStart (s : State) : Host.Outcome State Fault Refusal := actPowered resyncStart s
/-- RESYNC_HEALTH_WAIT_EXPIRY (R145). -/
def execResyncHealthWaitExpiry (s : State) : Host.Outcome State Fault Refusal := actPowered healthWaitExpiry s
/-- RESYNC_SELFTEST_DONE (R146). -/
def execResyncSelftestDone (fail : Option Nat) (dropped : List Nat) (s : State) : Host.Outcome State Fault Refusal :=
  actPowered (resyncSelftestDone fail dropped) s
/-- RESYNC_CODE_CHECK_DONE (R146). -/
def execResyncCodeCheckDone (upset : List Nat) (ecc : List Nat) (s : State) : Host.Outcome State Fault Refusal :=
  actPowered (codeCheckDone upset ecc) s
/-- RESYNC_COPY_TICK (R148). -/
def execResyncCopyTick (slack : Nat) (written : List Nat) (ecc : Bool) (s : State) : Host.Outcome State Fault Refusal :=
  actPowered (copyTick slack written ecc) s
/-- RESYNC_PASS_END (R149). -/
def execResyncPassEnd (written : List Nat) (s : State) : Host.Outcome State Fault Refusal := actPowered (passEnd written) s
/-- RESYNC_FINAL (R150). -/
def execResyncFinal (idle : Bool) (gap : Nat) (written : List Nat) (s : State) : Host.Outcome State Fault Refusal :=
  actPowered (resyncFinal idle gap written) s
/-- RESYNC_FINAL_WAIT_EXPIRY (R146). -/
def execResyncFinalWaitExpiry (s : State) : Host.Outcome State Fault Refusal := actPowered finalWaitExpiry s
/-- RESYNC_TIME_LIMIT (R151). -/
def execResyncTimeLimit (s : State) : Host.Outcome State Fault Refusal := actPowered resyncTimeLimit s
/-- RESYNC_RETRY_WAIT_EXPIRY (R151). -/
def execResyncRetryWaitExpiry (s : State) : Host.Outcome State Fault Refusal := actPowered retryEnd s
/-- PAIR_MISMATCH (R159). -/
def execPairMismatch (u : Nat) (s : State) : Host.Outcome State Fault Refusal := actPowered (pairMismatch u) s
/-- PAIR_SELFTEST_DONE (R159). -/
def execPairSelftestDone (u : Nat) (pass1 : Bool) (pass2 : Bool) (s : State) : Host.Outcome State Fault Refusal :=
  actPowered (pairSelftest u pass1 pass2) s

end Sys2Proof.Machine
end

