-- ==== Sys2Proof/Machine/Legacy.lean ====
section
/-!
DEFINITION. What the commands of the legacy buses do (spec/11).
-/
namespace Sys2Proof.Machine

/-- A valid MVB frame received on the current line (R316, R317): a source port answered, the device status answered, a
sink port's frame into the FIFO, or a transfer of mastership. -/
def mvbContent (m : Nat) (f : MvbFrame) (d : Dev) : Dev :=
  match f with
  | .bad => d
  | .master fcode addr =>
    if fcode ≤ 4 then
      match (imgLb d m).tx.find? fun e => e.2.ident == addr with
      | none => d
      | some e =>
        match lbForm d m e.1 with
        | none => d
        | some p => emit (.legacy m addr (if inRun d then mgetD (lbPort d m).store e.1 p else p)) d
    else if fcode = 15 ∧ addr = rd d (Reg.LB_MVB_CFG_DEV_ADDR m) then
      emit (.legacy m addr (leBytes 2 (rd d (Reg.LB_MVB_DEVST_DEVST m)))) d
    else d
  | .slave addr payload =>
    match lbRxOf d m addr false with
    | none => d
    | some obj => lbReceive m obj payload d
  | .mastership gained master =>
    if flag d (Reg.LB_MVB_CFG_BA m) then
      record Ev.MVB_MASTERSHIP [.w m, .w (b2n (!gained)), .w master] (wr d (Reg.LB_MVB_STAT_MASTER m) (b2n gained))
    else d

/-- MVB_FRAME: a frame on line A (false) or B of an MVB port (R316 to R318). -/
def mvbFrame (m : Nat) (line : Bool) (f : MvbFrame) (d : Dev) : Dev :=
  if !lbActive d m then d
  else
    let d := mvbReview m d
    match f with
    | .bad => mvbBad m line d
    | _ =>
      let d := mvbGood m line d
      if flag d (Reg.LB_MVB_STAT_RX_LINE m) = line then mvbContent m f d else d

/-- MVB_SINK_TIMEOUT: a sink port was not refreshed within its timeout (R318). -/
def mvbSinkTimeout (m : Nat) (d : Dev) : Dev :=
  if lbActive d m then inc (mvbReview m d) (Reg.LB_MVB_TO_SINK_TO m) else d

/-- WTB_NODE_FRAME (R319 to R321). -/
def wtbFrame (f : WtbFrame) (d : Dev) : Dev :=
  if !lbActive d 2 then d
  else match f with
    | .bad line => inc d (if line then Reg.LB_WTB_ERR_LINE_B else Reg.LB_WTB_ERR_LINE_A)
    | .data node payload =>
      match lbRxOf d 2 node false with
      | none => d
      | some obj => lbReceive 2 obj payload d
    | .poll =>
      let own := (imgLb d 2).tx.head?.bind fun e => (lbForm d 2 e.1).map fun p => if inRun d then mgetD (lbPort d 2).store e.1 p else p
      if leaseHeld d then emit (.legacy 2 0 (own.getD [])) d else d
    | .setting s =>
      if leaseHeld d then lbSet 2 (fun p => { p with want := some s }) (emit (.wtbSwitch s) d) else d
    | .inaugurating => if leaseHeld d then wr d Reg.LB_WTB_STAT_STATE 1 else d
    | .inaugurated topo nodes own master =>
      if leaseHeld d then
        let d := incW (wr (wr d Reg.LB_WTB_STAT_STATE 2) Reg.LB_WTB_TOPO_TOPO topo) Reg.LB_WTB_TOPO_INAUG
        let d := wrB (wr (wr d Reg.LB_WTB_STAT_NODES nodes) Reg.LB_WTB_STAT_NODE_ADDR own) Reg.LB_WTB_STAT_MASTER master
        record Ev.WTB_INAUGURATION [.w topo, .w nodes, .w own, .w (b2n master)] d
      else d

/-- WTB_SWITCH_WAIT_EXPIRY: the new coupler setting is taken as done; the termination is on in the END settings (R320). -/
def wtbSwitchWait (d : Dev) : Dev :=
  match (lbPort d 2).want with
  | none => d
  | some s =>
    lbSet 2 (fun p => { p with want := none }) (wrB (wr d Reg.LB_WTB_STAT_SWITCH s) Reg.LB_WTB_STAT_TERM (s == 1 || s == 2))

/-- WTB_SWITCH_TIMEOUT: detect frames stay unanswered through a new setting; the inauguration is repeated (R321). -/
def wtbSwitchTimeout (d : Dev) : Dev :=
  if lbActive d 2 && leaseHeld d then
    let s := ((lbPort d 2).want).getD (rd d Reg.LB_WTB_STAT_SWITCH)
    record Ev.WTB_SWITCH_TIMEOUT [.w s] (wr d Reg.LB_WTB_STAT_STATE 1)
  else d

/-- The error counters of a CAN port after an error: error passive and bus-off with their events; the fourth bus-off
within 60 s stops the port until reset (R325). -/
def canErrors (n tec rec_ : Nat) (d : Dev) : Dev :=
  let c := n - 3
  let d := wrSat (wrSat d (Reg.LB_CAN_STAT_TEC c) tec) (Reg.LB_CAN_STAT_REC c) rec_
  let st := canState d n
  if 2 ≤ st then d
  else if 256 ≤ tec then
    let times := (lbPort d n).busOff.filter (fun t => decide (d.clk < t + 60 * second)) ++ [d.clk]
    let d := lbSet n (fun p => { p with busOff := times }) (inc (wr d (Reg.LB_CAN_STAT_STATE c) 2) (Reg.LB_CAN_DROP_BUSOFF c))
    let d := record Ev.CAN_BUS_OFF [.w n, .w (rd d (Reg.LB_CAN_DROP_BUSOFF c))] d
    if 4 ≤ times.length then clrBitF (setBitF d Reg.LB_STATUS_FAULT n) Reg.LB_STATUS_UP n else d
  else if 128 ≤ tec ∨ 128 ≤ rec_ then
    if st = 1 then d
    else record Ev.CAN_ERROR_PASSIVE [.w n, .w (rd d (Reg.LB_CAN_STAT_TEC c)), .w (rd d (Reg.LB_CAN_STAT_REC c))]
      (wr d (Reg.LB_CAN_STAT_STATE c) 1)
  else wr d (Reg.LB_CAN_STAT_STATE c) 0

/-- Whether a frame passes one of a port's acceptance filters (R323). -/
def canFilter (d : Dev) (n ident : Nat) (ext : Bool) : Bool :=
  (imgLb d n).filters.any fun f => (f.1 ^^^ ident) &&& f.2.1 == 0 && f.2.2 == ext

/-- CAN_FRAME: a frame received and filtered, a change of the error counters, or what the J1939 address claim comes to
(R322 to R326). `c` is the CAN port 0 to 3. -/
def canFrame (c : Nat) (f : CanFrame) (d : Dev) : Dev :=
  let n := c + 3
  if !lbActive d n then d
  else match f with
    | .errors tec rec_ => canErrors n tec rec_ d
    | .claimed addr =>
      if rd d (Reg.LB_CAN_CFG_HL c) = 2 then lbSet n (fun p => { p with claimed := true }) (wr d (Reg.LB_CAN_STAT_ADDR c) addr) else d
    | .claimLost winner =>
      if rd d (Reg.LB_CAN_CFG_HL c) = 2 then
        let old := rd d (Reg.LB_CAN_STAT_ADDR c)
        let d := lbSet n (fun p => { p with claimed := false, mute := true }) (wr d (Reg.LB_CAN_STAT_ADDR c) 0xFE)
        record Ev.J1939_ADDRESS_LOST [.w n, .w old, .q winner] (emit (.j1939 n 0xFE) d)
      else d
    | .data ident ext fd payload =>
      if canState d n = 2 ∨ (fd ∧ !flag d (Reg.LB_CAN_CFG_FD c)) then d
      else
        let d := match (if rd d (Reg.LB_CAN_CFG_HL c) = 1 ∧ !ext then mget (imgLb d n).heartbeats (ident - 0x700) else none) with
          | some st => if 0x700 < ident then stationCopy st (schedTime d) payload d else d
          | none => d
        if !canFilter d n ident ext then inc d (Reg.LB_CAN_FILT_REJECTED c)
        else match lbRxOf d n ident ext with
          | none => inc d (Reg.LB_CAN_FILT_REJECTED c)
          | some obj => lbReceive n obj payload d

/-- The held frame of an object with a launch time. -/
def canHeld (d : Dev) (n obj : Nat) : Option CanSend := (lbPort d n).hold.find? fun s => s.obj == obj && s.launch.isSome
/-- A frame withdrawn: LAUNCH_DROP and event 0x4037 at most once per second per port (R324). -/
def canWithdraw (n : Nat) (s : CanSend) (late : Nat) (d : Dev) : Dev :=
  recordOnce Ev.CAN_LAUNCH_DROPPED n [.w n, .w s.obj, .w late]
    (inc (lbSet n (fun p => { p with hold := p.hold.erase s }) d) (Reg.LB_CAN_DROP_LAUNCH_DROP (n - 3)))

/-- CAN_LAUNCH: arbitration for a frame that has reached its launch time, with its lateness in µs at its start of frame, or
none while the bus is busy (R324). -/
def canLaunch (c obj : Nat) (late : Option Nat) (d : Dev) : Dev :=
  let n := c + 3
  match canHeld d n obj, late with
  | some s, some l =>
    if !canMaySend d n then d
    else
      let isLate := decide (rd d (Reg.LB_CAN_LATE_LATE_US c) ≤ l)
      if isLate && flag d (Reg.LB_CAN_LATE_POLICY c) then canWithdraw n s l d
      else
        let d := canSent n s (lbSet n (fun p => { p with hold := p.hold.erase s }) d)
        if isLate then inc d (Reg.LB_CAN_DROP_LATE c) else d
  | _, _ => d

/-- CAN_LATE_LIMIT: the lateness of a held frame reaches LATE_US: withdrawn with POLICY 1, kept in arbitration with POLICY 0
(R324). -/
def canLateLimit (c obj : Nat) (d : Dev) : Dev :=
  match canHeld d (c + 3) obj with
  | none => d
  | some s =>
    if flag d (Reg.LB_CAN_LATE_POLICY c) then canWithdraw (c + 3) s (rd d (Reg.LB_CAN_LATE_LATE_US c)) d else d

/-- CAN_BUSOFF_RECOVERY: 128 occurrences of 11 recessive bits; a port stopped for good stays off (R325). -/
def canRecover (c : Nat) (d : Dev) : Dev :=
  if canState d (c + 3) = 2 ∧ lbActive d (c + 3) then
    canFlush (c + 3) (wr (wr (wr d (Reg.LB_CAN_STAT_STATE c) 0) (Reg.LB_CAN_STAT_TEC c) 0) (Reg.LB_CAN_STAT_REC c) 0)
  else d

/-- CANOPEN_HEARTBEAT_TIMEOUT: the station a heartbeat feeds has no copy that could be fresh (R182, R326). -/
def heartbeatTimeout (c node : Nat) (d : Dev) : Dev :=
  match mget (imgLb d (c + 3)).heartbeats node with
  | none => d
  | some st =>
    match mget d.cyc.stations st with
    | none => d
    | some x => { d with cyc := { d.cyc with stations := mput d.cyc.stations st { x with seen := none } } }

end Sys2Proof.Machine
end

