-- ==== Sys2Proof/Machine/LegacyCmds.lean ====
section
/-!
DEFINITION. The commands of the MVB, WTB and CAN ports (spec/11): one meaning each.
-/
namespace Sys2Proof.Machine

/-- MVB_FRAME (R318). -/
def execMvbFrame (m : Nat) (line : Bool) (f : MvbFrame) (s : State) : Host.Outcome State Fault Refusal := actPowered (mvbFrame m line f) s
/-- MVB_SINK_TIMEOUT (R318). -/
def execMvbSinkTimeout (m : Nat) (s : State) : Host.Outcome State Fault Refusal := actPowered (mvbSinkTimeout m) s
/-- WTB_NODE_FRAME (R319). -/
def execWtbNodeFrame (f : WtbFrame) (s : State) : Host.Outcome State Fault Refusal := actPowered (wtbFrame f) s
/-- WTB_SWITCH_WAIT_EXPIRY (R320). -/
def execWtbSwitchWaitExpiry (s : State) : Host.Outcome State Fault Refusal := actPowered wtbSwitchWait s
/-- WTB_SWITCH_TIMEOUT (R321). -/
def execWtbSwitchTimeout (s : State) : Host.Outcome State Fault Refusal := actPowered wtbSwitchTimeout s
/-- CAN_FRAME (R323). -/
def execCanFrame (c : Nat) (f : CanFrame) (s : State) : Host.Outcome State Fault Refusal := actPowered (canFrame c f) s
/-- CAN_LAUNCH (R324). -/
def execCanLaunch (c : Nat) (obj : Nat) (late : Option Nat) (s : State) : Host.Outcome State Fault Refusal :=
  actPowered (canLaunch c obj late) s
/-- CAN_LATE_LIMIT (R324). -/
def execCanLateLimit (c : Nat) (obj : Nat) (s : State) : Host.Outcome State Fault Refusal := actPowered (canLateLimit c obj) s
/-- CAN_BUSOFF_RECOVERY (R325). -/
def execCanBusoffRecovery (c : Nat) (s : State) : Host.Outcome State Fault Refusal := actPowered (canRecover c) s
/-- CANOPEN_HEARTBEAT_TIMEOUT (R326). -/
def execCanopenHeartbeatTimeout (c : Nat) (node : Nat) (s : State) : Host.Outcome State Fault Refusal :=
  actPowered (heartbeatTimeout c node) s

end Sys2Proof.Machine
end

