-- ==== Sys2Proof/Machine/NetCmds.lean ====
section
/-!
DEFINITION. The commands of the switch and the Trestle (spec/10): one meaning each.
-/
namespace Sys2Proof.Machine

/-- SWITCH_FRAME_RECEIVED (R281). -/
def execSwitchFrameReceived (port : Nat) (f : EthFrame) (s : State) : Host.Outcome State Fault Refusal := actPowered (switchFrame port f) s
/-- GATE_CONTROL_ENTRY (R284). -/
def execGateControlEntry (port : Nat) (s : State) : Host.Outcome State Fault Refusal := actPowered (gateEntry port) s
/-- MAC_AGE_OUT (R282). -/
def execMacAgeOut (mac : Nat) (s : State) : Host.Outcome State Fault Refusal := actPowered (macAgeOut mac) s
/-- FRER_RECOVERY_RESET (R286). -/
def execFrerRecoveryReset (n : Nat) (s : State) : Host.Outcome State Fault Refusal := actPowered (frerReset n) s
/-- BPDU_RECEIVED (R287). -/
def execBpduReceived (port : Nat) (role : Nat) (st : Nat) (s : State) : Host.Outcome State Fault Refusal :=
  actPowered (bpduReceived port role st) s
/-- TTDP_FRAME (R288). -/
def execTtdpFrame (r : TtdpResult) (s : State) : Host.Outcome State Fault Refusal := actPowered (ttdpFrame r) s
/-- LINK_CHANGE (R279). -/
def execLinkChange (port : Nat) (up : Bool) (speed : Nat) (gm : Nat) (r : BmcResult) (s : State) : Host.Outcome State Fault Refusal :=
  actPowered (linkChange port up speed gm r) s
/-- TRESTLE_UNIT (R305). -/
def execTrestleUnit (s : State) : Host.Outcome State Fault Refusal := actPowered trestleUnit s
/-- MD_REASSEMBLY_TIMEOUT (R293). -/
def execMdReassemblyTimeout (key : Nat) (s : State) : Host.Outcome State Fault Refusal := actPowered (reassemblyTimeout key) s
/-- MD_REPLY_TIMEOUT (R298). -/
def execMdReplyTimeout (session : Nat) (s : State) : Host.Outcome State Fault Refusal := actPowered (mdReplyTimeout session) s
/-- SUBSCRIPTION_TIMEOUT (R294). -/
def execSubscriptionTimeout (n : Nat) (s : State) : Host.Outcome State Fault Refusal := actPowered (subTimeout n) s

end Sys2Proof.Machine
end

