-- ==== Sys2Proof/Machine/OpcodeCmds.lean ====
section
/-!
DEFINITION. The commands of accepted host commands and the changes of the program (spec/03, spec/07, spec/12, spec/19): one meaning each.
-/
namespace Sys2Proof.Machine

/-- CHANGE_SET_LOAD (R206). -/
def execChangeSetLoad (seq : Nat) (again : Option ChangeSet) (s : State) : Host.Outcome State Fault Refusal :=
  actPowered (cmdRun seq (isOp 4 0) (changeLoad again)) s
/-- CHANGE_SET_REVERT (R213). -/
def execChangeSetRevert (seq : Nat) (s : State) : Host.Outcome State Fault Refusal := actPowered (cmdRun seq (isOp 4 1) changeRevert) s
/-- CHANGE_SET_COMMIT (R214). -/
def execChangeSetCommit (seq : Nat) (s : State) : Host.Outcome State Fault Refusal := actPowered (cmdRun seq (isOp 4 2) changeAct) s
/-- CHANGE_SET_CANCEL (R215). -/
def execChangeSetCancel (seq : Nat) (s : State) : Host.Outcome State Fault Refusal := actPowered (cmdRun seq (isOp 4 3) changeAct) s
/-- CHANGE_SET_STATUS (R225). -/
def execChangeSetStatus (seq : Nat) (s : State) : Host.Outcome State Fault Refusal := actPowered (cmdRun seq (isOp 4 4) changeStatusRun) s
/-- CHANGE_PAYLOAD_FETCHED (R207). -/
def execChangePayloadFetched (hashOk : Bool) (s : State) : Host.Outcome State Fault Refusal := actPowered (changeFetched hashOk) s
/-- CHANGE_STAGED (R207). -/
def execChangeStaged (p : Pier) (result : Nat) (s : State) : Host.Outcome State Fault Refusal := actPowered (chgStaged p result) s
/-- CHANGE_PARTNER_STORED (R207). -/
def execChangePartnerStored (s : State) : Host.Outcome State Fault Refusal := actPowered (chgPartner 2) s
/-- CHANGE_PARTNER_TIMEOUT (R207). -/
def execChangePartnerTimeout (s : State) : Host.Outcome State Fault Refusal := actPowered (chgPartner 3) s
/-- CARRYOVER_DONE (R205). -/
def execCarryoverDone (p : Pier) (cls : Nat) (done : CarryRun) (s : State) : Host.Outcome State Fault Refusal :=
  actPowered (carryoverDone p cls done) s
/-- EDIT_VALUE (R216). -/
def execEditValue (seq : Nat) (s : State) : Host.Outcome State Fault Refusal := actPowered (cmdRun seq (fun x => x.op == 5) varsToClass) s
/-- MODE_REQUEST_STOP (R90). -/
def execModeRequestStop (seq : Nat) (s : State) : Host.Outcome State Fault Refusal := actPowered (cmdRun seq (isOp 1 0) modeToClass) s
/-- MODE_REQUEST_RUN (R187). -/
def execModeRequestRun (seq : Nat) (s : State) : Host.Outcome State Fault Refusal := actPowered (cmdRun seq (isOp 1 1) modeToClass) s
/-- MODE_REQUEST_HOLD (R188). -/
def execModeRequestHold (seq : Nat) (s : State) : Host.Outcome State Fault Refusal := actPowered (cmdRun seq (isOp 1 2) modeToClass) s
/-- MODE_REQUEST_STANDBY (R390). -/
def execModeRequestStandby (seq : Nat) (s : State) : Host.Outcome State Fault Refusal := actPowered (cmdRun seq (isOp 1 3) modeToClass) s
/-- MODE_REQUEST_SERVICE (R90). -/
def execModeRequestService (seq : Nat) (s : State) : Host.Outcome State Fault Refusal := actPowered (cmdRun seq (isOp 1 4) modeToClass) s
/-- MODE_REQUEST_SAFE (R93). -/
def execModeRequestSafe (seq : Nat) (s : State) : Host.Outcome State Fault Refusal := actPowered (cmdRun seq (isOp 1 5) modeToClass) s
/-- MODE_REQUEST_RESET (R89). -/
def execModeRequestReset (seq : Nat) (s : State) : Host.Outcome State Fault Refusal := actPowered (cmdRun seq (isOp 1 6) (resetRun false)) s
/-- MODE_REQUEST_RESET_SERVICE (R89). -/
def execModeRequestResetService (seq : Nat) (s : State) : Host.Outcome State Fault Refusal :=
  actPowered (cmdRun seq (isOp 1 7) (resetRun true)) s
/-- MODE_REQUEST_STEP (R189). -/
def execModeRequestStep (seq : Nat) (s : State) : Host.Outcome State Fault Refusal := actPowered (cmdRun seq (isOp 1 8) modeToClass) s
/-- LOAD_IMAGE (R352). -/
def execLoadImage (seq : Nat) (check : Nat) (img : Image) (s : State) : Host.Outcome State Fault Refusal :=
  actPowered (cmdRun seq (fun x => x.op == 2) (loadImage check img)) s
/-- ACTIVATE_IMAGE (R352). -/
def execActivateImage (seq : Nat) (s : State) : Host.Outcome State Fault Refusal :=
  actPowered (cmdRun seq (fun x => x.op == 3) activateImage) s
/-- FORCE (R352). -/
def execForce (seq : Nat) (s : State) : Host.Outcome State Fault Refusal := actPowered (cmdRun seq (fun x => x.op == 6) varsToClass) s
/-- UNFORCE (R219). -/
def execUnforce (seq : Nat) (s : State) : Host.Outcome State Fault Refusal := actPowered (cmdRun seq (fun x => x.op == 7) varsToClass) s
/-- READ_VARS (R352). -/
def execReadVars (seq : Nat) (s : State) : Host.Outcome State Fault Refusal := actPowered (cmdRun seq (fun x => x.op == 8) readVars) s
/-- WRITE_VARS (R352). -/
def execWriteVars (seq : Nat) (s : State) : Host.Outcome State Fault Refusal := actPowered (cmdRun seq (fun x => x.op == 9) varsToClass) s
/-- STORE_SETTINGS_STORE (R476). -/
def execStoreSettingsStore (seq : Nat) (s : State) : Host.Outcome State Fault Refusal :=
  actPowered (cmdRun seq (fun x => x.op == 10 && bitOf (argB x 0) 0) settingsRun) s
/-- STORE_SETTINGS_VALIDATE (R476). -/
def execStoreSettingsValidate (seq : Nat) (s : State) : Host.Outcome State Fault Refusal :=
  actPowered (cmdRun seq (fun x => x.op == 10 && !bitOf (argB x 0) 0) settingsRun) s
/-- STAGE_UPDATE (R491). -/
def execStageUpdate (seq : Nat) (man : Option Manifest) (bad : Bool) (s : State) : Host.Outcome State Fault Refusal :=
  actPowered (cmdRun seq (fun x => x.op == 11) (stageUpdate man bad)) s
/-- RELAY_CONTROL_START (R501). -/
def execRelayControlStart (seq : Nat) (s : State) : Host.Outcome State Fault Refusal :=
  actPowered (cmdRun seq (isOp 12 0) (relayRun relayStart)) s
/-- RELAY_CONTROL_STOP (R501). -/
def execRelayControlStop (seq : Nat) (s : State) : Host.Outcome State Fault Refusal :=
  actPowered (cmdRun seq (isOp 12 1) (relayRun relayStop)) s
/-- RELAY_CONTROL_INSTALL (R501). -/
def execRelayControlInstall (seq : Nat) (s : State) : Host.Outcome State Fault Refusal :=
  actPowered (cmdRun seq (isOp 12 2) (relayRun relayInstall)) s
/-- RELAY_CONTROL_DELETE (R501). -/
def execRelayControlDelete (seq : Nat) (s : State) : Host.Outcome State Fault Refusal :=
  actPowered (cmdRun seq (isOp 12 3) (relayRun relayDelete)) s
/-- RELAY_CONTROL_ACTIVATE (R501). -/
def execRelayControlActivate (seq : Nat) (s : State) : Host.Outcome State Fault Refusal :=
  actPowered (cmdRun seq (isOp 12 4) (relayRun relayActivate)) s
/-- RELAY_CONTROL_COMMIT (R501). -/
def execRelayControlCommit (seq : Nat) (s : State) : Host.Outcome State Fault Refusal :=
  actPowered (cmdRun seq (isOp 12 5) (relayRun relayCommit)) s
/-- RELAY_CONTROL_STATUS (R502). -/
def execRelayControlStatus (seq : Nat) (s : State) : Host.Outcome State Fault Refusal :=
  actPowered (cmdRun seq (isOp 12 6) (relayRun relayStatus)) s
/-- SEND_MD (R298). -/
def execSendMd (seq : Nat) (s : State) : Host.Outcome State Fault Refusal := actPowered (cmdRun seq (fun x => x.op == 13) sendMd) s
/-- JOURNAL_QUERY (R352). -/
def execJournalQuery (seq : Nat) (s : State) : Host.Outcome State Fault Refusal :=
  actPowered (cmdRun seq (fun x => x.op == 14) journalQuery) s
/-- CHECKPOINT_NOW_TAKE (R352). -/
def execCheckpointNowTake (seq : Nat) (s : State) : Host.Outcome State Fault Refusal := actPowered (cmdRun seq (isOp 15 0) checkpointNow) s
/-- CHECKPOINT_NOW_READ (R352). -/
def execCheckpointNowRead (seq : Nat) (s : State) : Host.Outcome State Fault Refusal := actPowered (cmdRun seq (isOp 15 1) checkpointRead) s
/-- SET_TIME_EPOCH_ADOPT (R244). -/
def execSetTimeEpochAdopt (seq : Nat) (s : State) : Host.Outcome State Fault Refusal := actPowered (cmdRun seq (isOp 16 0) setEpoch) s
/-- SET_TIME_EPOCH_SET (R244). -/
def execSetTimeEpochSet (seq : Nat) (s : State) : Host.Outcome State Fault Refusal := actPowered (cmdRun seq (isOp 16 1) setEpoch) s
/-- ARM_POSITION (R352). -/
def execArmPosition (seq : Nat) (s : State) : Host.Outcome State Fault Refusal := actPowered (cmdRun seq (fun x => x.op == 17) armToClass) s

end Sys2Proof.Machine
end

