-- ==== Sys2Proof/Machine/Boot.lean ====
section
/-!
DEFINITION. The boot sequence (R80 to R88, R485, R486, R524): what each step does once its work is done.
-/
namespace Sys2Proof.Machine

/-! ## Step 3 (R57, R458, R486) -/

/-- The trial count of a preferred slot on trial; the third boot prefers the other slot (R486). -/
def trialCount (d : Dev) : Dev :=
  match d.bp.trial with
  | none => d
  | some n =>
    if n + 1 < 3 then bpSet (fun b => { b with trial := some (n + 1) }) d
    else
      let old := d.bp.slotPref
      updEvent Ev.UPD_TRIAL_FALLBACK [.w old, .w (1 - old)] (bpSet (fun b => { b with trial := none, slotPref := 1 - old }) d)
/-- Boot parameters read, position sampled, recorder recovered; the clocks run. -/
def bootParams (pos : Bool) (corrupt unreadable : List Nat) (d : Dev) : Dev :=
  let d := evRecover corrupt unreadable (wrB d Reg.MCTL_PINS_POS pos)
  let d := forEach (List.range 16) (fun n d => wrB d (Reg.CKR_DOM_OK n) true) (wr d Reg.CKR_STATUS_CLK_OK 0xFFFF)
  trialCount d

/-! ## Steps 4 and 5 (R82, R83) -/

/-- Failed Pier tests recorded; Piers whose repeat failed are out of service, two or more of them lead to SAFE. -/
def bootPiers (l : Tri (List Nat)) (d : Dev) : Dev :=
  let d := forEach allPiers (fun p d =>
    forEach ((triGet l p).take 2) (fun b d => recordP Ev.PIER_SELFTEST_FAIL p [.w (pierIdx p), .w b] d) d) d
  let new := allPiers.filter fun p => decide (2 ≤ (triGet l p).length) && !bitF d Reg.MCTL_BOOT_PIER_FAIL (pierIdx p)
  let d := forEach new (fun p d => pierOut p 0 (setBitF d Reg.MCTL_BOOT_PIER_FAIL (pierIdx p))) d
  let m := rd d Reg.MCTL_BOOT_PIER_FAIL
  if !new.isEmpty ∧ 2 ≤ (bitsOf 3 m).length then safeEnter scBOOT_SELFTEST (0x100 + m) d else d
/-- Failing copies of a lockstep pair: the unit degrades, or fails. -/
def bootPair (u m : Nat) (d : Dev) : Dev :=
  if m = 3 then safeEnter scBOOT_SELFTEST u (record Ev.PAIR_FAILED [.w u, .w 0] (pairPut u 4 d))
  else if m = 1 ∨ m = 2 then degradedReview (record Ev.PAIR_DEGRADED [.w u, .w (3 - m)] (pairPut u (3 - m) d))
  else d
/-- The self-tests of a step judged. -/
def bootTests (t : SelfTest) (d : Dev) : Dev :=
  let d := bootPiers t.piers d
  let d := if t.halves % 4 = 0 then d else halfBroken (t.halves % 4) d
  let d := forEach (t.pairs.filter fun e => 1 ≤ e.1 && decide (e.1 ≤ 6)) (fun e d => bootPair e.1 e.2 d) d
  let d := if t.deckSdram then safeEnter scBOOT_SELFTEST 7 d else d
  match t.injection with
  | none => d
  | some k => safeEnter scKS_INJECTION k d

/-! ## Step 6 (R369, R478) -/

/-- Every Caisson field loaded; the lease times are the module's own until the link's handshake. -/
def bootSettings (d : Dev) : Dev :=
  let d := csChoose d
  dxSet (fun x => { x with leaseMs := rd d Reg.DX_LEASE_CFG_LEASE_MS, guardMs := rd d Reg.DX_LEASE_CFG_GUARD_MS }) d

/-! ## Step 7 (R483 to R485) -/

/-- Why a slot is refused, 0 if it is accepted: what the boot ROM found of its header and image, the keys revoked (R482), the
anti-rollback counter N (R483). -/
def slotReason (d : Dev) (s check : Nat) : Nat :=
  let x := upSlot d s
  if !x.valid ∨ check = 1 then 1
  else if bitOf d.upd.revoked x.hdr.key then 2
  else if check ≠ 0 then check
  else if x.hdr.sec < rd d Reg.UP_ROLLBACK_EFFECTIVE then 5
  else 0
/-- A slot refused (R484); R503 sends no vector for it. -/
def slotRefuse (s reason : Nat) (d : Dev) : Dev :=
  let x := upSlot d s
  let d := wr (slotPut s { x with refused := true } d) (Reg.UP_SLOT_INFO_REASON s) reason
  record Ev.UPD_SLOT_REFUSED [.w s, .w reason, .w x.hdr.release, .w x.hdr.sec] d
/-- A slot booted from. -/
def slotBoot (s : Nat) (d : Dev) : Dev := wr (wr d Reg.MCTL_BOOT_SLOT s) Reg.UP_STATUS_BOOTED s
/-- Owed fuses burned, then the preferred slot checked, and the other one where it is refused. -/
def bootFirmware (a b : Nat) (d : Dev) : Dev :=
  let d := if d.cs.inForce then fuseBurn (min 64 (rd d Reg.UP_ROLLBACK_COPY)) d else d
  let d := wr d Reg.UP_ROLLBACK_EFFECTIVE (rd d Reg.UP_ROLLBACK_FUSES)
  let d := slotPut 1 (upSlot d 1) (slotPut 0 (upSlot d 0) d)
  let check (s : Nat) : Nat := if s = 0 then a else b
  let p := d.bp.slotPref
  if slotReason d p (check p) = 0 then slotBoot p d
  else
    let d := slotRefuse p (slotReason d p (check p)) d
    let q := 1 - p
    if slotReason d q (check q) = 0 then
      bpSet (fun x => { x with slotPref := q }) (slotBoot q (wrB (wrB d Reg.MCTL_BOOT_FALLBACK true) Reg.UP_STATUS_FALLBACK true))
    else safeEnter scNO_FIRMWARE 0 (slotRefuse q (slotReason d q (check q)) d)

/-! ## Step 8 (R233, R281, R334) -/

/-- Firmware loaded: rings ready, legacy ports started, package entries shown, schedule time started where no master is asked for. -/
def bootUnits (d : Dev) : Dev :=
  let d := lbStart (wrB d Reg.HI_STATUS_READY true)
  let d := forEach (List.range 4) pkgShow d
  if tuSource d = 3 then becomeGm 0 d
  else if tuSource d = 0 then timeStart tsFREE (timeFloor d) d else d

/-! ## Step 9 (R85) -/

/-- Step 9: the journal recovered and, in parallel, the role decided. -/
def bootStep9 (d : Dev) : Dev := bootRole false (if flag d Reg.HI_STATUS_RECOVERED then d else journalRecover d)

/-! ## Steps 10 and 11 (R86 to R88, R212) -/

/-- The image named in the boot parameters loaded at its recorded generation, or the reason why not: 0 none activated, 1 absent, or what
its checks found (R86, R102). The entries of the image log that a reset found pending, or switched but not yet recorded, are discarded (R212). -/
def bootImage (check : Nat) (d : Dev) : Dev :=
  let kept (e : LogEntry) : Bool := logGen e != 0 && decide (logGen e ≤ d.bp.generation)
  let d := if rd d Reg.MCTL_MODE_ROLE = 2 then d else storeSet (fun s => { s with log := s.log.filter kept }) d
  let bad (r : Nat) : Dev := modeSet (fun m => { m with noImage := some (d.bp.imageId, d.bp.generation, r) }) d
  if d.bp.generation = 0 then bad 0
  else match d.store.current with
    | none => bad 1
    | some img =>
      if check ≠ 0 then bad check
      else modeSet (fun m => { m with imageValid := true, generation := d.bp.generation, imageId := d.bp.imageId }) { d with img := img }
/-- Two of the Piers that vote have equal load signatures. -/
def sigMajority (d : Dev) (sigs : Tri Nat) : Bool :=
  match (votingPiers d).map (triGet sigs) with
  | [a, b, c] => a == b || a == c || b == c
  | [a, b] => a == b
  | _ => false
/-- The first mode (R87). -/
def bootMode (sigs : Tri Nat) (d : Dev) : Dev :=
  let service := d.bp.serviceNext || !d.mode.imageValid
  let d := if d.mode.imageValid && (!service || sigMajority d sigs) then loadSignatures sigs d else d
  if modeIs d mSAFE then d
  else if service then modeEnter mSERVICE (bpSet (fun b => { b with serviceNext := false }) d)
  else if rd d Reg.MCTL_MODE_ROLE = 2 then modeEnter mSTANDBY d
  else modeSet (fun m => { m with autorun := flag d Reg.MCTL_CFG_AUTORUN }) (modeEnter mSTOP d)
/-- Step 11: times, trial, image, mode, the comparison of a standby-bound module's image with its partner's, and what starts after boot
(R81, R86, R87, R372, R485, R496). -/
def bootEnd (sigs : Tri Nat) (d : Dev) : Dev :=
  let d := wrSat (wr d Reg.MCTL_BOOT_STEP 11) Reg.MCTL_BOOT_TIME_TO_READY_MS ((d.clk - d.mode.resetAt) / msec)
  let d := if d.mode.imageValid && d.mode.bootSafe.isNone then imageTake d.img d else d
  let d := match d.mode.noImage with
    | none => d
    | some (i, g, r) => record Ev.BOOT_NO_IMAGE [.w i, .w g, .w r] d
  let d := if d.mode.bootSafe.isSome then safeNow d else cursorOldest (bootMode sigs d)
  let d := if rd d Reg.MCTL_MODE_ROLE = 2 && linkUp d then imageReview (rd d Reg.DX_PEER_IMAGE) (rd d Reg.DX_PEER_GEN) d else d
  let d := upAfterBoot d
  if modeIs d mSAFE then d else leaseAcquire d

/-! ## The sequence (R80, R524) -/

/-- The step that a result belongs to. -/
def bootStepOf : BootResult → Nat
  | .step3 .. => 3
  | .step4 .. => 4
  | .step5 .. => 5
  | .step6 => 6
  | .step7 .. => 7
  | .step8 => 8
  | .step9 => 9
  | .step10 .. => 10
  | .step11 .. => 11
/-- The step that is to be done next: step 3 after the release of POR or after EXT and CMD, step 11 after step 9 where a SAFE cause omits
step 10. -/
def bootNext (d : Dev) : Nat :=
  let s := rd d Reg.MCTL_BOOT_STEP
  if s < 3 then 3 else if s = 9 ∧ d.mode.bootSafe.isSome then 11 else s + 1
/-- The work of a step. -/
def bootWork (r : BootResult) (d : Dev) : Dev :=
  match r with
  | .step3 pos corrupt unreadable => bootParams pos corrupt unreadable d
  | .step4 t => bootTests t d
  | .step5 t => bootTests t d
  | .step6 => bootSettings d
  | .step7 a b => bootFirmware a b d
  | .step8 => bootUnits d
  | .step9 => bootStep9 d
  | .step10 check => bootImage check d
  | .step11 sigs => bootEnd sigs d
/-- BOOT_STEP_DONE: the step that is next does its work and is shown as completed, unless the sequence has ended. -/
def bootStep (r : BootResult) (d : Dev) : Dev :=
  let n := bootStepOf r
  if !modeIs d mBOOT ∨ d.mode.halted ∨ d.mode.posrst ∨ d.hm.powerFail ∨ bootNext d ≠ n then d
  else
    let d := bootWork r d
    if d.mode.halted ∨ n = 9 ∨ n = 11 then d
    else if n = 8 then cwHold 1 (cwHold 0 (wr d Reg.MCTL_BOOT_STEP n))
    else wr d Reg.MCTL_BOOT_STEP n
/-- DUPLEX_ROLE_WAIT_EXPIRY: 8 s have passed, so position 1 decides again. -/
def roleWaitExpiry (d : Dev) : Dev := if d.mode.waiting ∧ !d.mode.halted ∧ modeIs d mBOOT then bootRole true d else d

end Sys2Proof.Machine
end

