-- ==== Sys2Proof/Machine/PowerCmds.lean ====
section
/-!
DEFINITION. The commands of supply, resets, boot, pins and the Health monitor (spec/02, spec/03): one meaning each.
-/
namespace Sys2Proof.Machine

/-- VIN_LOW (R52). -/
def execVinLow (mv : Nat) (s : State) : Host.Outcome State Fault Refusal := actPowered (vinLow mv) s
/-- HOLDUP_VIN_RESTORED (R52). -/
def execHoldupVinRestored (s : State) : Host.Outcome State Fault Refusal := actPowered holdupRestored s
/-- HOLDUP_TIMEOUT (R52). -/
def execHoldupTimeout (mv : Nat) (s : State) : Host.Outcome State Fault Refusal := actPowered (holdupTimeout mv) s
/-- RAILS_OFF (R52). -/
def execRailsOff (s : State) : Host.Outcome State Fault Refusal := actPowered railsOff s
/-- POWER_ON_RESET (R76). -/
def execPowerOnReset (s : State) : Host.Outcome State Fault Refusal := actAlways powerOnReset s
/-- POR_RELEASE_RETRY (R80). -/
def execPorReleaseRetry (railsOk : Bool) (s : State) : Host.Outcome State Fault Refusal := actPowered (porRelease railsOk) s
/-- EXTERNAL_RESET (R76). -/
def execExternalReset (s : State) : Host.Outcome State Fault Refusal := actPowered externalReset s
/-- MCTL_RESET_CMD (R76). -/
def execMctlResetCmd (s : State) : Host.Outcome State Fault Refusal := actPowered (commandReset false) s
/-- MCTL_RESET_SERVICE (R76). -/
def execMctlResetService (s : State) : Host.Outcome State Fault Refusal := actPowered (commandReset true) s
/-- PCIE_RESET (R60). -/
def execPcieReset (dropped : Nat) (s : State) : Host.Outcome State Fault Refusal := actPowered (pcieReset dropped) s
/-- FUNCTION_LEVEL_RESET (R332). -/
def execFunctionLevelReset (dropped : Nat) (s : State) : Host.Outcome State Fault Refusal := actPowered (pcieReset dropped) s
/-- D3HOT_RETURN (R332). -/
def execD3hotReturn (dropped : Nat) (s : State) : Host.Outcome State Fault Refusal := actPowered (d3Return dropped) s
/-- BUS_MASTER_ENABLE_CHANGE (R331). -/
def execBusMasterEnableChange (v : Bool) (s : State) : Host.Outcome State Fault Refusal := actPowered (bmeChange v) s
/-- DX_POS_CHANGED (R59). -/
def execDxPosChanged (now : Bool) (s : State) : Host.Outcome State Fault Refusal := actPowered (posChanged now) s
/-- SVC_PERMIT_CHANGE (R90). -/
def execSvcPermitChange (v : Bool) (s : State) : Host.Outcome State Fault Refusal := actPowered (permitChange v) s
/-- OP_SECONDS_SAVE (R78). -/
def execOpSecondsSave (s : State) : Host.Outcome State Fault Refusal := actPowered opSecondsSave s
/-- BOOT_STEP_DONE (R80). -/
def execBootStepDone (r : BootResult) (s : State) : Host.Outcome State Fault Refusal := actPowered (bootStep r) s
/-- DUPLEX_ROLE_WAIT_EXPIRY (R85). -/
def execDuplexRoleWaitExpiry (s : State) : Host.Outcome State Fault Refusal := actPowered roleWaitExpiry s
/-- AUTORUN_START (R90). -/
def execAutorunStart (s : State) : Host.Outcome State Fault Refusal := actPowered autorunStart s
/-- HM_ROUND (R63). -/
def execHmRound (refOk : Bool) (reference : Nat) (temps : List Nat) (volts : List Nat) (s : State) : Host.Outcome State Fault Refusal :=
  actPowered (hmRound refOk reference temps volts) s
/-- HM_PROC_EVAL (R65). -/
def execHmProcEval (counts : List Nat) (s : State) : Host.Outcome State Fault Refusal := actPowered (hmProcEval counts) s
/-- TEMP_ALARM (R63). -/
def execTempAlarm (n : Nat) (s : State) : Host.Outcome State Fault Refusal := actPowered (fun d => settle (tempAlarm n d)) s
/-- RAIL_ALARM (R63). -/
def execRailAlarm (n : Nat) (s : State) : Host.Outcome State Fault Refusal := actPowered (fun d => settle (railAlarm n d)) s
/-- VIN_9V_THRESHOLD (R52). -/
def execVin9vThreshold (above : Bool) (s : State) : Host.Outcome State Fault Refusal := actAlways (vinThreshold above) s
/-- HM_LIVE_CLEARED (R71). -/
def execHmLiveCleared (bit : Nat) (s : State) : Host.Outcome State Fault Refusal := actPowered (liveCleared bit) s

end Sys2Proof.Machine
end

