-- ==== Sys2Proof/Machine/SliceCmds.lean ====
section
/-!
DEFINITION. The commands of field I/O and position (spec/09, spec/15): one meaning each.
-/
namespace Sys2Proof.Machine

/-- SPEED_EDGE (R261). -/
def execSpeedEdge (p : Pier) (sp : Nat) (a : Bool) (b : Bool) (s : State) : Host.Outcome State Fault Refusal :=
  actPowered (speedEdge p sp a b) s
/-- STANDSTILL_TIMEOUT (R262). -/
def execStandstillTimeout (p : Pier) (r : Nat) (s : State) : Host.Outcome State Fault Refusal := actPowered (standstill p r) s
/-- TRIGGER_ARM (R265). -/
def execTriggerArm (p : Pier) (k : Nat) (ifPassed : Bool) (dir : Nat) (ref : Nat) (action : Nat) (out : Nat) (s : State) : Host.Outcome State Fault Refusal :=
  actPowered (triggerArm p k ifPassed dir ref action out) s
/-- TRIGGER_DISARM (R265). -/
def execTriggerDisarm (p : Pier) (k : Nat) (s : State) : Host.Outcome State Fault Refusal := actPowered (triggerDisarm p k) s
/-- SCALE_WRITE (R263). -/
def execScaleWrite (p : Pier) (r : Nat) (v : Nat) (s : State) : Host.Outcome State Fault Refusal := actPowered (scaleWrite p r v) s
/-- REF_CFG_WRITE (R262). -/
def execRefCfgWrite (p : Pier) (r : Nat) (en : Bool) (sign : Bool) (mode : Nat) (source : Nat) (sdir : Bool) (filt : Nat) (still : Nat) (s : State) : Host.Outcome State Fault Refusal :=
  actPowered (refCfgWrite p r en sign mode source sdir filt still) s
/-- REBASE_GO (R273). -/
def execRebaseGo (p : Pier) (shift : Bool) (ref : Nat) (s : State) : Host.Outcome State Fault Refusal := actPowered (rebaseGo p shift ref) s
/-- POS_HIT_REPORT (R270). -/
def execPosHitReport (p : Pier) (k : Nat) (seq : Nat) (s : State) : Host.Outcome State Fault Refusal := actPowered (posHitReport p k seq) s
/-- DI_SAMPLE (R421). -/
def execDiSample (di : Tri Nat) (rb : Tri Nat) (sw : Tri Nat) (s : State) : Host.Outcome State Fault Refusal :=
  actPowered (diSample di rb sw) s
/-- FS_MEASUREMENT (R424). -/
def execFsMeasurement (fs1 : Tri Nat) (fs2 : Tri Nat) (s : State) : Host.Outcome State Fault Refusal := actPowered (fsMeasurement fs1 fs2) s
/-- FS_STATE_DEFERRED (R434). -/
def execFsStateDeferred (k : Nat) (s : State) : Host.Outcome State Fault Refusal := actPowered (fsDeferred k) s
/-- FIO_LEG_WR (R427). -/
def execFioLegWr (p : Pier) (value : Nat) (s : State) : Host.Outcome State Fault Refusal := actPowered (fioLegWr p value) s
/-- FIO_LEG_WR_AT_LAUNCH (R427). -/
def execFioLegWrAtLaunch (p : Pier) (cls : Nat) (value : Nat) (s : State) : Host.Outcome State Fault Refusal :=
  actPowered (fioLegWrAtLaunch p cls value) s
/-- EXT_DRIVEN_TIMEOUT (R429). -/
def execExtDrivenTimeout (p : Pier) (n : Nat) (s : State) : Host.Outcome State Fault Refusal := actPowered (extTimeout p n) s
/-- OVERLOAD_SET (R431). -/
def execOverloadSet (n : Nat) (s : State) : Host.Outcome State Fault Refusal := actPowered (overloadSet n) s
/-- OVERLOAD_CLEAR (R431). -/
def execOverloadClear (n : Nat) (s : State) : Host.Outcome State Fault Refusal := actPowered (overloadClear n) s
/-- THERMAL_SHUTDOWN (R432). -/
def execThermalShutdown (n : Nat) (s : State) : Host.Outcome State Fault Refusal := actPowered (thermalShutdown n) s
/-- THERMAL_REARM (R432). -/
def execThermalRearm (n : Nat) (s : State) : Host.Outcome State Fault Refusal := actPowered (thermalRearm n) s
/-- SLICE_CLOCK_STOP (R507). -/
def execSliceClockStop (p : Pier) (s : State) : Host.Outcome State Fault Refusal := actPowered (sliceClockStop p) s

end Sys2Proof.Machine
end

