-- ==== Sys2Proof/Machine/StoreCmds.lean ====
section
/-!
DEFINITION. The commands of Caisson stores and the update relay (spec/18, spec/19): one meaning each.
-/
namespace Sys2Proof.Machine

/-- CAISSON_STORE_START (R473). -/
def execCaissonStoreStart (s : State) : Host.Outcome State Fault Refusal := actPowered csStart s
/-- CAISSON_STORE_DONE (R473). -/
def execCaissonStoreDone (failAt : Option Nat) (s : State) : Host.Outcome State Fault Refusal := actPowered (csDone failAt) s
/-- OFFER_RECEIVED (R492). -/
def execOfferReceived (dest : Nat) (dir : Nat) (m : Manifest) (s : State) : Host.Outcome State Fault Refusal :=
  actPowered (offerReceived dest dir m) s
/-- CHUNK_RECEIVED (R492). -/
def execChunkReceived (dest : Nat) (identity : Nat) (index : Nat) (data : Option (List Byte)) (s : State) : Host.Outcome State Fault Refusal :=
  actPowered (chunkReceived dest identity index data) s
/-- RELAY_REPLY (R494). -/
def execRelayReply (k : Nat) (h : Nat) (code : Nat) (next : Nat) (s : State) : Host.Outcome State Fault Refusal :=
  actPowered (relayReply k h code next) s
/-- RELAY_REQUEST_TIMEOUT (R494). -/
def execRelayRequestTimeout (k : Nat) (h : Nat) (s : State) : Host.Outcome State Fault Refusal := actPowered (relayTimeout k h) s
/-- RELAY_WAIT_EXPIRY (R494). -/
def execRelayWaitExpiry (k : Nat) (h : Nat) (s : State) : Host.Outcome State Fault Refusal := actPowered (relayWaitExpiry k h) s
/-- INSTALL_DONE (R498). -/
def execInstallDone (fail : Option Nat) (s : State) : Host.Outcome State Fault Refusal := actPowered (installDone fail) s
/-- RELAY_RATE_INTERVAL (R494). -/
def execRelayRateInterval (k : Nat) (h : Nat) (s : State) : Host.Outcome State Fault Refusal := actPowered (rateInterval k h) s

end Sys2Proof.Machine
end

