-- ==== Sys2Proof/Machine/StreamCmds.lean ====
section
/-!
DEFINITION. The commands of the Causeway ports (spec/16): one meaning each.
-/
namespace Sys2Proof.Machine

/-- CW_TX_OPEN (R443). -/
def execCwTxOpen (n : Nat) (prio : Nat) (len : Nat) (s : State) : Host.Outcome State Fault Refusal := actPowered (cwTxOpen n prio len) s
/-- CW_TX_DATA (R444). -/
def execCwTxData (n : Nat) (w : Nat) (s : State) : Host.Outcome State Fault Refusal := actPowered (cwTxData n w) s
/-- CW_TX_PUSH (R442). -/
def execCwTxPush (n : Nat) (attr : Nat) (payload : List Byte) (s : State) : Host.Outcome State Fault Refusal :=
  actPowered (cwTxPush n attr payload) s
/-- CW_PACKET_TX_START (R440). -/
def execCwPacketTxStart (n : Nat) (parityBad : Bool) (s : State) : Host.Outcome State Fault Refusal := actPowered (cwTxStart n parityBad) s
/-- CW_PACKET_TX_DONE (R437). -/
def execCwPacketTxDone (n : Nat) (s : State) : Host.Outcome State Fault Refusal := actPowered (cwTxDone n) s
/-- CW_PACKET_RECEIVED (R441). -/
def execCwPacketReceived (n : Nat) (header : Nat) (words : List Nat) (codeError : Bool) (crcGood : Bool) (s : State) : Host.Outcome State Fault Refusal :=
  actPowered (cwReceived n header words codeError crcGood) s
/-- CW_LINK_UP (R438). -/
def execCwLinkUp (n : Nat) (s : State) : Host.Outcome State Fault Refusal := actPowered (cwLinkUp n) s
/-- CW_LINK_LOSS (R438). -/
def execCwLinkLoss (n : Nat) (s : State) : Host.Outcome State Fault Refusal := actPowered (cwLinkLoss n) s
/-- CW_HOLD_IN_CHANGE (R447). -/
def execCwHoldInChange (n : Nat) (level : Bool) (s : State) : Host.Outcome State Fault Refusal := actPowered (cwHoldIn n level) s
/-- CW_RX_DATA_READ (R452). -/
def execCwRxDataRead (n : Nat) (parityBad : Bool) (s : State) : Host.Outcome State Fault Refusal := actPowered (cwRxDataRead n parityBad) s
/-- CW_WM_WRITE (R448). -/
def execCwWmWrite (n : Nat) (high : Nat) (low : Nat) (s : State) : Host.Outcome State Fault Refusal := actPowered (cwWmWrite n high low) s
/-- CW_RX_FILL_HIGH (R447). -/
def execCwRxFillHigh (n : Nat) (wordsSoFar : Nat) (s : State) : Host.Outcome State Fault Refusal := actPowered (cwRxFillHigh n wordsSoFar) s

end Sys2Proof.Machine
end

