-- ==== Sys2Proof/Machine/TimeCmds.lean ====
section
/-!
DEFINITION. The commands of the Time unit (spec/08): one meaning each.
-/
namespace Sys2Proof.Machine

/-- SYNC_RECEIVED (R239). -/
def execSyncReceived (port : Nat) (origin : Nat) (rxS : Nat) (s : State) : Host.Outcome State Fault Refusal :=
  actPowered (syncReceived port origin rxS) s
/-- PATH_DELAY_MEASURED (R252). -/
def execPathDelayMeasured (port : Nat) (ns : Nat) (s : State) : Host.Outcome State Fault Refusal := actPowered (pathDelayMeasured port ns) s
/-- ANNOUNCE_RECEIVED (R236). -/
def execAnnounceReceived (port : Nat) (gm : Nat) (r : BmcResult) (s : State) : Host.Outcome State Fault Refusal :=
  actPowered (announceReceived port gm r) s
/-- ANNOUNCE_TIMEOUT (R241). -/
def execAnnounceTimeout (gm : Nat) (r : BmcResult) (s : State) : Host.Outcome State Fault Refusal := actPowered (announceTimeout gm r) s
/-- PTP_INTERVAL_TIMER (R238). -/
def execPtpIntervalTimer (port : Nat) (kind : Nat) (s : State) : Host.Outcome State Fault Refusal :=
  actPowered (ptpIntervalTimer port kind) s
/-- SCHED_TIME_SAVE (R231). -/
def execSchedTimeSave (s : State) : Host.Outcome State Fault Refusal := actPowered schedTimeSave s
/-- TIME_REALIGN (R510). -/
def execTimeRealign (overruns : Nat) (s : State) : Host.Outcome State Fault Refusal :=
  actPowered (fun d => filtersPass (timeRealign overruns d)) s
/-- FRAME_LAUNCH (R253). -/
def execFrameLaunch (port : Nat) (queue : Nat) (now : Nat) (s : State) : Host.Outcome State Fault Refusal :=
  actPowered (frameLaunch port queue now) s
/-- TXTS_APPEND (R255). -/
def execTxtsAppend (port : Nat) (id : Nat) (ts : Nat) (s : State) : Host.Outcome State Fault Refusal := actPowered (txtsNote port id ts) s
/-- TXTS_ID_READ (R257). -/
def execTxtsIdRead (port : Nat) (s : State) : Host.Outcome State Fault Refusal := actPowered (txtsIdRead port) s
/-- DELAY_REQ_RECEIVED (R236). -/
def execDelayReqReceived (port : Nat) (kind : Nat) (rxS : Nat) (s : State) : Host.Outcome State Fault Refusal :=
  actPowered (delayReqReceived port kind rxS) s

end Sys2Proof.Machine
end

