-- ==== Sys2Proof/Machine/Dispatch.lean ====
section
/-!
DEFINITION. One arm for each command: a direct call of its meaning.
-/
namespace Sys2Proof.Machine

def exec (i : Instr) (s : State) : Host.Outcome State Fault Refusal :=
  match i with
  | .vinLow mv => Sys2Proof.Machine.execVinLow mv s
  | .holdupVinRestored => Sys2Proof.Machine.execHoldupVinRestored s
  | .holdupTimeout mv => Sys2Proof.Machine.execHoldupTimeout mv s
  | .railsOff => Sys2Proof.Machine.execRailsOff s
  | .powerOnReset => Sys2Proof.Machine.execPowerOnReset s
  | .porReleaseRetry railsOk => Sys2Proof.Machine.execPorReleaseRetry railsOk s
  | .externalReset => Sys2Proof.Machine.execExternalReset s
  | .mctlResetCmd => Sys2Proof.Machine.execMctlResetCmd s
  | .mctlResetService => Sys2Proof.Machine.execMctlResetService s
  | .pcieReset dropped => Sys2Proof.Machine.execPcieReset dropped s
  | .functionLevelReset dropped => Sys2Proof.Machine.execFunctionLevelReset dropped s
  | .d3hotReturn dropped => Sys2Proof.Machine.execD3hotReturn dropped s
  | .busMasterEnableChange v => Sys2Proof.Machine.execBusMasterEnableChange v s
  | .dxPosChanged now => Sys2Proof.Machine.execDxPosChanged now s
  | .svcPermitChange v => Sys2Proof.Machine.execSvcPermitChange v s
  | .opSecondsSave => Sys2Proof.Machine.execOpSecondsSave s
  | .bootStepDone r => Sys2Proof.Machine.execBootStepDone r s
  | .duplexRoleWaitExpiry => Sys2Proof.Machine.execDuplexRoleWaitExpiry s
  | .autorunStart => Sys2Proof.Machine.execAutorunStart s
  | .modeChange => Sys2Proof.Machine.execModeChange s
  | .hmRound refOk reference temps volts => Sys2Proof.Machine.execHmRound refOk reference temps volts s
  | .hmProcEval counts => Sys2Proof.Machine.execHmProcEval counts s
  | .tempAlarm n => Sys2Proof.Machine.execTempAlarm n s
  | .railAlarm n => Sys2Proof.Machine.execRailAlarm n s
  | .hmThresholdWrite kind n word => Sys2Proof.Machine.execHmThresholdWrite kind n word s
  | .tick => Sys2Proof.Machine.execTick s
  | .housekeepingBoundary => Sys2Proof.Machine.execHousekeepingBoundary s
  | .startMark p cls cycle t => Sys2Proof.Machine.execStartMark p cls cycle t s
  | .mailboxContribution p cls c crcOk => Sys2Proof.Machine.execMailboxContribution p cls c crcOk s
  | .mailboxWaitExpiry cls crcOk => Sys2Proof.Machine.execMailboxWaitExpiry cls crcOk s
  | .mailboxDeadline cls cycle => Sys2Proof.Machine.execMailboxDeadline cls cycle s
  | .controlExchange vals => Sys2Proof.Machine.execControlExchange vals s
  | .outboundRequest p q => Sys2Proof.Machine.execOutboundRequest p q s
  | .cycleOutputPhase p cls cycle runs drive legs => Sys2Proof.Machine.execCycleOutputPhase p cls cycle runs drive legs s
  | .signaturePosted p cls cycle part flip t upto final agree => Sys2Proof.Machine.execSignaturePosted p cls cycle part flip t upto final agree s
  | .skewTimerExpiry cls cycle part => Sys2Proof.Machine.execSkewTimerExpiry cls cycle part s
  | .snapshotTimer => Sys2Proof.Machine.execSnapshotTimer s
  | .releaseToken second cls cycle seq err => Sys2Proof.Machine.execReleaseToken second cls cycle seq err s
  | .releaseTokenTimeout cls cycle seq => Sys2Proof.Machine.execReleaseTokenTimeout cls cycle seq s
  | .pierLocalError p => Sys2Proof.Machine.execPierLocalError p s
  | .syncFault p seg cycle kind addr core trap => Sys2Proof.Machine.execSyncFault p seg cycle kind addr core trap s
  | .ksStageParity h p again => Sys2Proof.Machine.execKsStageParity h p again s
  | .ksSelftestDone pass1 pass2 dur agree => Sys2Proof.Machine.execKsSelftestDone pass1 pass2 dur agree s
  | .ksOnlineTest fail1 fail2 => Sys2Proof.Machine.execKsOnlineTest fail1 fail2 s
  | .watchdogDeadline cls cycle other => Sys2Proof.Machine.execWatchdogDeadline cls cycle other s
  | .resyncStart => Sys2Proof.Machine.execResyncStart s
  | .resyncHealthWaitExpiry => Sys2Proof.Machine.execResyncHealthWaitExpiry s
  | .resyncSelftestDone fail dropped => Sys2Proof.Machine.execResyncSelftestDone fail dropped s
  | .resyncCodeCheckDone upset ecc => Sys2Proof.Machine.execResyncCodeCheckDone upset ecc s
  | .resyncCopyTick slack written ecc => Sys2Proof.Machine.execResyncCopyTick slack written ecc s
  | .resyncPassEnd written => Sys2Proof.Machine.execResyncPassEnd written s
  | .resyncFinal idle gap written => Sys2Proof.Machine.execResyncFinal idle gap written s
  | .resyncFinalWaitExpiry => Sys2Proof.Machine.execResyncFinalWaitExpiry s
  | .resyncTimeLimit => Sys2Proof.Machine.execResyncTimeLimit s
  | .resyncRetryWaitExpiry => Sys2Proof.Machine.execResyncRetryWaitExpiry s
  | .copyShareWrite v => Sys2Proof.Machine.execCopyShareWrite v s
  | .pairMismatch u => Sys2Proof.Machine.execPairMismatch u s
  | .pairSelftestDone u pass1 pass2 => Sys2Proof.Machine.execPairSelftestDone u pass1 pass2 s
  | .changeSetLoad seq again => Sys2Proof.Machine.execChangeSetLoad seq again s
  | .changeSetRevert seq => Sys2Proof.Machine.execChangeSetRevert seq s
  | .changeSetCommit seq => Sys2Proof.Machine.execChangeSetCommit seq s
  | .changeSetCancel seq => Sys2Proof.Machine.execChangeSetCancel seq s
  | .changeSetStatus seq => Sys2Proof.Machine.execChangeSetStatus seq s
  | .changePayloadFetched hashOk => Sys2Proof.Machine.execChangePayloadFetched hashOk s
  | .changeStaged p result => Sys2Proof.Machine.execChangeStaged p result s
  | .changePartnerStored => Sys2Proof.Machine.execChangePartnerStored s
  | .changePartnerTimeout => Sys2Proof.Machine.execChangePartnerTimeout s
  | .carryoverDone p cls done => Sys2Proof.Machine.execCarryoverDone p cls done s
  | .editValue seq => Sys2Proof.Machine.execEditValue seq s
  | .modeRequestStop seq => Sys2Proof.Machine.execModeRequestStop seq s
  | .modeRequestRun seq => Sys2Proof.Machine.execModeRequestRun seq s
  | .modeRequestHold seq => Sys2Proof.Machine.execModeRequestHold seq s
  | .modeRequestStandby seq => Sys2Proof.Machine.execModeRequestStandby seq s
  | .modeRequestService seq => Sys2Proof.Machine.execModeRequestService seq s
  | .modeRequestSafe seq => Sys2Proof.Machine.execModeRequestSafe seq s
  | .modeRequestReset seq => Sys2Proof.Machine.execModeRequestReset seq s
  | .modeRequestResetService seq => Sys2Proof.Machine.execModeRequestResetService seq s
  | .modeRequestStep seq => Sys2Proof.Machine.execModeRequestStep seq s
  | .loadImage seq check img => Sys2Proof.Machine.execLoadImage seq check img s
  | .activateImage seq => Sys2Proof.Machine.execActivateImage seq s
  | .force seq => Sys2Proof.Machine.execForce seq s
  | .unforce seq => Sys2Proof.Machine.execUnforce seq s
  | .readVars seq => Sys2Proof.Machine.execReadVars seq s
  | .writeVars seq => Sys2Proof.Machine.execWriteVars seq s
  | .storeSettingsStore seq => Sys2Proof.Machine.execStoreSettingsStore seq s
  | .storeSettingsValidate seq => Sys2Proof.Machine.execStoreSettingsValidate seq s
  | .stageUpdate seq man bad => Sys2Proof.Machine.execStageUpdate seq man bad s
  | .relayControlStart seq => Sys2Proof.Machine.execRelayControlStart seq s
  | .relayControlStop seq => Sys2Proof.Machine.execRelayControlStop seq s
  | .relayControlInstall seq => Sys2Proof.Machine.execRelayControlInstall seq s
  | .relayControlDelete seq => Sys2Proof.Machine.execRelayControlDelete seq s
  | .relayControlActivate seq => Sys2Proof.Machine.execRelayControlActivate seq s
  | .relayControlCommit seq => Sys2Proof.Machine.execRelayControlCommit seq s
  | .relayControlStatus seq => Sys2Proof.Machine.execRelayControlStatus seq s
  | .sendMd seq => Sys2Proof.Machine.execSendMd seq s
  | .journalQuery seq => Sys2Proof.Machine.execJournalQuery seq s
  | .checkpointNowTake seq => Sys2Proof.Machine.execCheckpointNowTake seq s
  | .checkpointNowRead seq => Sys2Proof.Machine.execCheckpointNowRead seq s
  | .setTimeEpochAdopt seq => Sys2Proof.Machine.execSetTimeEpochAdopt seq s
  | .setTimeEpochSet seq => Sys2Proof.Machine.execSetTimeEpochSet seq s
  | .armPosition seq => Sys2Proof.Machine.execArmPosition seq s
  | .sqTailDoorbell n upper v => Sys2Proof.Machine.execSqTailDoorbell n upper v s
  | .cqHeadDoorbell q upper v => Sys2Proof.Machine.execCqHeadDoorbell q upper v s
  | .sqCfgWrite n word => Sys2Proof.Machine.execSqCfgWrite n word s
  | .cqCfgWrite q word => Sys2Proof.Machine.execCqCfgWrite q word s
  | .descriptorFetch x payload cs => Sys2Proof.Machine.execDescriptorFetch x payload cs s
  | .mirrorConfirm seq => Sys2Proof.Machine.execMirrorConfirm seq s
  | .mirrorTimeout seq => Sys2Proof.Machine.execMirrorTimeout seq s
  | .payloadFetchDone seq payload => Sys2Proof.Machine.execPayloadFetchDone seq payload s
  | .dmaError cplWrite n => Sys2Proof.Machine.execDmaError cplWrite n s
  | .dmaCompletionTimeout n => Sys2Proof.Machine.execDmaCompletionTimeout n s
  | .msixImodExpiry q => Sys2Proof.Machine.execMsixImodExpiry q s
  | .msixUnmask v => Sys2Proof.Machine.execMsixUnmask v s
  | .reservedBarAccess bar off read => Sys2Proof.Machine.execReservedBarAccess bar off read s
  | .evwCursorWrite high v => Sys2Proof.Machine.execEvwCursorWrite high v s
  | .evwRead off words => Sys2Proof.Machine.execEvwRead off words s
  | .jwSelWrite high v => Sys2Proof.Machine.execJwSelWrite high v s
  | .jwNextRead => Sys2Proof.Machine.execJwNextRead s
  | .vwValueRead => Sys2Proof.Machine.execVwValueRead s
  | .vwListRead high => Sys2Proof.Machine.execVwListRead high s
  | .registerWrite side addr word => Sys2Proof.Machine.execRegisterWrite side addr word s
  | .readToClear side addr => Sys2Proof.Machine.execReadToClear side addr s
  | .reg64LoRead side addr => Sys2Proof.Machine.execReg64LoRead side addr s
  | .accessWidthViolation who addr width read => Sys2Proof.Machine.execAccessWidthViolation who addr width read s
  | .decodeError who addr width read seg cycle kind core => Sys2Proof.Machine.execDecodeError who addr width read seg cycle kind core s
  | .syncReceived port origin rxS => Sys2Proof.Machine.execSyncReceived port origin rxS s
  | .pathDelayMeasured port ns => Sys2Proof.Machine.execPathDelayMeasured port ns s
  | .announceReceived port gm r => Sys2Proof.Machine.execAnnounceReceived port gm r s
  | .announceTimeout gm r => Sys2Proof.Machine.execAnnounceTimeout gm r s
  | .ptpIntervalTimer port kind => Sys2Proof.Machine.execPtpIntervalTimer port kind s
  | .schedTimeSave => Sys2Proof.Machine.execSchedTimeSave s
  | .timeRealign overruns => Sys2Proof.Machine.execTimeRealign overruns s
  | .frameLaunch port queue now => Sys2Proof.Machine.execFrameLaunch port queue now s
  | .txtsAppend port id ts => Sys2Proof.Machine.execTxtsAppend port id ts s
  | .txtsIdRead port => Sys2Proof.Machine.execTxtsIdRead port s
  | .tuSettingWrite r w => Sys2Proof.Machine.execTuSettingWrite r w s
  | .speedEdge p sp a b => Sys2Proof.Machine.execSpeedEdge p sp a b s
  | .standstillTimeout p r => Sys2Proof.Machine.execStandstillTimeout p r s
  | .triggerArm p k ifPassed dir ref action out => Sys2Proof.Machine.execTriggerArm p k ifPassed dir ref action out s
  | .triggerDisarm p k => Sys2Proof.Machine.execTriggerDisarm p k s
  | .scaleWrite p r v => Sys2Proof.Machine.execScaleWrite p r v s
  | .refCfgWrite p r en sign mode source sdir filt still => Sys2Proof.Machine.execRefCfgWrite p r en sign mode source sdir filt still s
  | .rebaseGo p shift ref => Sys2Proof.Machine.execRebaseGo p shift ref s
  | .posHitReport p k seq => Sys2Proof.Machine.execPosHitReport p k seq s
  | .switchFrameReceived port f => Sys2Proof.Machine.execSwitchFrameReceived port f s
  | .gateControlEntry port => Sys2Proof.Machine.execGateControlEntry port s
  | .macAgeOut mac => Sys2Proof.Machine.execMacAgeOut mac s
  | .frerRecoveryReset n => Sys2Proof.Machine.execFrerRecoveryReset n s
  | .bpduReceived port role st => Sys2Proof.Machine.execBpduReceived port role st s
  | .ttdpFrame r => Sys2Proof.Machine.execTtdpFrame r s
  | .linkChange port up speed gm r => Sys2Proof.Machine.execLinkChange port up speed gm r s
  | .trestleUnit => Sys2Proof.Machine.execTrestleUnit s
  | .mdReassemblyTimeout key => Sys2Proof.Machine.execMdReassemblyTimeout key s
  | .mdReplyTimeout session => Sys2Proof.Machine.execMdReplyTimeout session s
  | .subscriptionTimeout n => Sys2Proof.Machine.execSubscriptionTimeout n s
  | .mvbFrame m line f => Sys2Proof.Machine.execMvbFrame m line f s
  | .mvbSinkTimeout m => Sys2Proof.Machine.execMvbSinkTimeout m s
  | .wtbNodeFrame f => Sys2Proof.Machine.execWtbNodeFrame f s
  | .wtbSwitchWaitExpiry => Sys2Proof.Machine.execWtbSwitchWaitExpiry s
  | .wtbSwitchTimeout => Sys2Proof.Machine.execWtbSwitchTimeout s
  | .canFrame c f => Sys2Proof.Machine.execCanFrame c f s
  | .canLaunch c obj late => Sys2Proof.Machine.execCanLaunch c obj late s
  | .canLateLimit c obj => Sys2Proof.Machine.execCanLateLimit c obj s
  | .canBusoffRecovery c => Sys2Proof.Machine.execCanBusoffRecovery c s
  | .canopenHeartbeatTimeout c node => Sys2Proof.Machine.execCanopenHeartbeatTimeout c node s
  | .loenpaFrame f => Sys2Proof.Machine.execLoenpaFrame f s
  | .laneDown lane => Sys2Proof.Machine.execLaneDown lane s
  | .laneUp lane pos leaseMs guardMs image gen proto dropped => Sys2Proof.Machine.execLaneUp lane pos leaseMs guardMs image gen proto dropped s
  | .loenpaIdleTimer => Sys2Proof.Machine.execLoenpaIdleTimer s
  | .statusFrameTimer => Sys2Proof.Machine.execStatusFrameTimer s
  | .leaseRenewTimer => Sys2Proof.Machine.execLeaseRenewTimer s
  | .leaseRequest counters => Sys2Proof.Machine.execLeaseRequest counters s
  | .leaseGrant counters crcOk => Sys2Proof.Machine.execLeaseGrant counters crcOk s
  | .sliceLeaseExpiry p => Sys2Proof.Machine.execSliceLeaseExpiry p s
  | .partnerAbsentGuard => Sys2Proof.Machine.execPartnerAbsentGuard s
  | .peerPinChange alive standby => Sys2Proof.Machine.execPeerPinChange alive standby s
  | .requestsStoppedTimeout => Sys2Proof.Machine.execRequestsStoppedTimeout s
  | .peerStandingByTimeout => Sys2Proof.Machine.execPeerStandingByTimeout s
  | .takeoverNotice => Sys2Proof.Machine.execTakeoverNotice s
  | .handoverNotice => Sys2Proof.Machine.execHandoverNotice s
  | .takeoverWaitEnd => Sys2Proof.Machine.execTakeoverWaitEnd s
  | .checkpointLoaded sigs ms => Sys2Proof.Machine.execCheckpointLoaded sigs ms s
  | .checkpointComplete => Sys2Proof.Machine.execCheckpointComplete s
  | .checkpointData c trailerOk => Sys2Proof.Machine.execCheckpointData c trailerOk s
  | .imageSynced image gen img seconds => Sys2Proof.Machine.execImageSynced image gen img seconds s
  | .journalLevelled diverged entries => Sys2Proof.Machine.execJournalLevelled diverged entries s
  | .outputDeclaration x => Sys2Proof.Machine.execOutputDeclaration x s
  | .girderRequestStart => Sys2Proof.Machine.execGirderRequestStart s
  | .grantReceived => Sys2Proof.Machine.execGrantReceived s
  | .grantTimeout => Sys2Proof.Machine.execGrantTimeout s
  | .dataPhaseEnd e => Sys2Proof.Machine.execDataPhaseEnd e s
  | .dataPhaseTimeout => Sys2Proof.Machine.execDataPhaseTimeout s
  | .grantWithdrawn => Sys2Proof.Machine.execGrantWithdrawn s
  | .busOwnershipLimit => Sys2Proof.Machine.execBusOwnershipLimit s
  | .girderQueueFreed => Sys2Proof.Machine.execGirderQueueFreed s
  | .bpReset => Sys2Proof.Machine.execBpReset s
  | .bpClockLost => Sys2Proof.Machine.execBpClockLost s
  | .snoopWrite win off be data => Sys2Proof.Machine.execSnoopWrite win off be data s
  | .bpInterrupt level => Sys2Proof.Machine.execBpInterrupt level s
  | .deckWindowAccess kind win off be data mask => Sys2Proof.Machine.execDeckWindowAccess kind win off be data mask s
  | .diSample di rb sw => Sys2Proof.Machine.execDiSample di rb sw s
  | .fsMeasurement fs1 fs2 => Sys2Proof.Machine.execFsMeasurement fs1 fs2 s
  | .fsStateDeferred k => Sys2Proof.Machine.execFsStateDeferred k s
  | .fioLegWr p value => Sys2Proof.Machine.execFioLegWr p value s
  | .fioLegWrAtLaunch p cls value => Sys2Proof.Machine.execFioLegWrAtLaunch p cls value s
  | .extDrivenTimeout p n => Sys2Proof.Machine.execExtDrivenTimeout p n s
  | .overloadSet n => Sys2Proof.Machine.execOverloadSet n s
  | .overloadClear n => Sys2Proof.Machine.execOverloadClear n s
  | .thermalShutdown n => Sys2Proof.Machine.execThermalShutdown n s
  | .thermalRearm n => Sys2Proof.Machine.execThermalRearm n s
  | .sliceClockStop p => Sys2Proof.Machine.execSliceClockStop p s
  | .cwTxOpen n prio len => Sys2Proof.Machine.execCwTxOpen n prio len s
  | .cwTxData n w => Sys2Proof.Machine.execCwTxData n w s
  | .cwTxPush n attr payload => Sys2Proof.Machine.execCwTxPush n attr payload s
  | .cwPacketTxStart n parityBad => Sys2Proof.Machine.execCwPacketTxStart n parityBad s
  | .cwPacketTxDone n => Sys2Proof.Machine.execCwPacketTxDone n s
  | .cwPacketReceived n header words codeError crcGood => Sys2Proof.Machine.execCwPacketReceived n header words codeError crcGood s
  | .cwLinkUp n => Sys2Proof.Machine.execCwLinkUp n s
  | .cwLinkLoss n => Sys2Proof.Machine.execCwLinkLoss n s
  | .cwHoldInChange n level => Sys2Proof.Machine.execCwHoldInChange n level s
  | .cwRxDataRead n parityBad => Sys2Proof.Machine.execCwRxDataRead n parityBad s
  | .cwWmWrite n high low => Sys2Proof.Machine.execCwWmWrite n high low s
  | .eventIntake code pier items => Sys2Proof.Machine.execEventIntake code pier items s
  | .recordStore outcome => Sys2Proof.Machine.execRecordStore outcome s
  | .tokenRefill code => Sys2Proof.Machine.execTokenRefill code s
  | .summaryTimeout code => Sys2Proof.Machine.execSummaryTimeout code s
  | .notifyHoldExpiry => Sys2Proof.Machine.execNotifyHoldExpiry s
  | .evSelWrite high v => Sys2Proof.Machine.execEvSelWrite high v s
  | .caissonStoreStart => Sys2Proof.Machine.execCaissonStoreStart s
  | .caissonStoreDone failAt => Sys2Proof.Machine.execCaissonStoreDone failAt s
  | .offerReceived dest dir m => Sys2Proof.Machine.execOfferReceived dest dir m s
  | .chunkReceived dest identity index data => Sys2Proof.Machine.execChunkReceived dest identity index data s
  | .relayReply k h code next => Sys2Proof.Machine.execRelayReply k h code next s
  | .relayRequestTimeout k h => Sys2Proof.Machine.execRelayRequestTimeout k h s
  | .relayWaitExpiry k h => Sys2Proof.Machine.execRelayWaitExpiry k h s
  | .installDone fail => Sys2Proof.Machine.execInstallDone fail s
  | .clockLoss dom inst freq gm r => Sys2Proof.Machine.execClockLoss dom inst freq gm r s
  | .clockTolerance dom inst ppm freq => Sys2Proof.Machine.execClockTolerance dom inst ppm freq s
  | .clockReturn dom inst freq dropped => Sys2Proof.Machine.execClockReturn dom inst freq dropped s
  | .snapshotGo domains => Sys2Proof.Machine.execSnapshotGo domains s
  | .snapshotDone counts => Sys2Proof.Machine.execSnapshotDone counts s
  | .vin9vThreshold above => Sys2Proof.Machine.execVin9vThreshold above s
  | .hmLiveCleared bit => Sys2Proof.Machine.execHmLiveCleared bit s
  | .delayReqReceived port kind rxS => Sys2Proof.Machine.execDelayReqReceived port kind rxS s
  | .bpResetReleased => Sys2Proof.Machine.execBpResetReleased s
  | .cwRxFillHigh n wordsSoFar => Sys2Proof.Machine.execCwRxFillHigh n wordsSoFar s
  | .d3hotEntry => Sys2Proof.Machine.execD3hotEntry s
  | .relayRateInterval k h => Sys2Proof.Machine.execRelayRateInterval k h s

end Sys2Proof.Machine
end

