-- ==== Sys2Proof/Safety.lean ====
section
/-!
DEFINITION. The words in which the statements speak: a command that runs, what it leaves alone, the forms the state keeps in every run.
-/
namespace Sys2Proof.Machine

/-- The rails are on and no power-up count holds the module (R52, R76): the module takes commands. -/
def Running (s : State) : Prop := s.dev.hm.rails = true
/-- The command answers a next state, with the queue as it was, in which the device is as `P` says. -/
def Answers (i : Instr) (s : State) (P : Dev → Prop) : Prop := ∃ t, exec i s = .next t ∧ t.pending = s.pending ∧ P t.dev

/-- The host interface answers every host access (R80, R84). -/
def hostOpen (d : Dev) : Prop := hostServes d = true ∧ hostReduced d = false
/-- Nothing of a Pier stalls: no posting waits for space (R123, R129). -/
def piersIdle (d : Dev) : Prop := ∀ p, pierIdle (triGet d.prs p) = true
/-- No window is held, no request waits in release order, no Pier stalls (R123, R129, R141). -/
def noWindows (d : Dev) : Prop := d.ks.windows = [] ∧ d.ks.releasing = [] ∧ piersIdle d
/-- The same, and no mailbox slot is open (R110). -/
def nothingHeld (d : Dev) : Prop := noWindows d ∧ d.ks.slots = []
/-- Every open mailbox slot waits for more postings (R110): none is complete or held for a disagreement. -/
def slotsWait (d : Dev) : Prop := ∀ e ∈ d.ks.slots, e.2.held = false ∧ e.2.posts.length < mbCount e.2.expect
/-- The donor's pages that are dirty once those that its Pier has written are marked (R149). -/
def donorDirty (d : Dev) (written : List Nat) : Nat := (written.foldl pageMark (triGet d.prs (donorNow d))).dirty.length
/-- BOOT_STEP_DONE brings the result of the step of the boot sequence that is next (R80, R524). -/
def bootDue (d : Dev) (r : BootResult) : Prop :=
  modeOf d = mBOOT ∧ d.mode.halted = false ∧ d.mode.posrst = false ∧ d.hm.powerFail = false ∧ bootNext d = bootStepOf r
/-- A step of the boot sequence is shown as completed, but where a SAFE cause has halted the sequence (R524). -/
def bootShown (n : Nat) (t : Dev) : Prop := if t.mode.halted = true then modeOf t = mSAFE else rd t Reg.MCTL_BOOT_STEP = n
/-- An entry into SAFE takes effect at once: the module is out of BOOT, not in SAFE, and no SAFE cause of BOOT is put off (R92, R524). -/
def safeOpen (d : Dev) : Prop := modeOf d ≠ mSAFE ∧ modeOf d ≠ mBOOT ∧ d.mode.bootSafe = none
/-- The module has entered SAFE with a cause and its detail (R92, R94). -/
def enteredSafe (d : Dev) (cause detail : Nat) : Prop :=
  modeOf d = mSAFE ∧ rd d Reg.MCTL_SAFE_CAUSE_CAUSE = trunc 16 cause ∧ rd d Reg.MCTL_SAFE_CAUSE_DETAIL = trunc 16 detail

/-! ## What a command leaves alone -/

/-- Every register field but those listed reads as before. -/
def regsBut (l : List Fld) (d d' : Dev) : Prop := ∀ g : Fld, (∀ f ∈ l, fldKey f ≠ fldKey g) → rd d' g = rd d g
/-- The counters that the recorder's intake may raise when an event is delivered (R455, R456). -/
def evCounts : List Fld := [Reg.EV_COUNT_DROPPED, Reg.EV_COUNT_SUPPRESSED]
/-- Every byte of the Deck's memory reads as before. -/
def memSame (d d' : Dev) : Prop := ∀ a, Memory.byte d'.mem a = Memory.byte d.mem a
/-- Nothing but registers changes. -/
def regsOnly (d d' : Dev) : Prop := d' = { d with regs := d'.regs }
/-- Nothing changes but registers, the recorder, the messages sent or pending, and the times of reports limited to one a second. -/
def reportsOnly (d d' : Dev) : Prop :=
  d' = { d with regs := d'.regs, ev := d'.ev, out := d'.out, msix := d'.msix, once := d'.once }

/-- What every module reset keeps (R77): image store, journal, stored records, Caisson banks, update packages. -/
def resetKeeps (d t : Dev) : Prop :=
  t.store = d.store ∧ t.hi.journal = d.hi.journal ∧ t.ev.main = d.ev.main ∧ t.ev.reserve = d.ev.reserve ∧ t.cs.banks = d.cs.banks ∧
    t.upd.pkgs = d.upd.pkgs
/-- What a reset other than POR keeps besides (R77): the SAFE cause and Deck SDRAM; Deck SRAM reads 0. -/
def warmKeeps (d t : Dev) : Prop :=
  rd t Reg.MCTL_SAFE_CAUSE_CAUSE = rd d Reg.MCTL_SAFE_CAUSE_CAUSE ∧ rd t Reg.MCTL_SAFE_CAUSE_DETAIL = rd d Reg.MCTL_SAFE_CAUSE_DETAIL ∧
    ∀ a, Memory.byte t.mem a = if deckSdram ≤ a then Memory.byte d.mem a else 0

/-- The endpoint has started again (R332, R363, R514): rings disabled, the message table at rest, no completion waiting, D3hot left; mode,
journal, accepted commands and memory stay. -/
def endpointRests (d t : Dev) : Prop :=
  (∀ k < 8, flag t (Reg.HI_SQ_CFG_EN k) = false ∧ flag t (Reg.HI_CQ_CFG_EN k) = false) ∧ t.msix = Msix.rest ∧ t.hi.held = [] ∧
    t.hi.d3 = false ∧ rd t Reg.CKR_RST_CNT_HANDSHAKES = satAdd Reg.CKR_RST_CNT_HANDSHAKES.w (rd d Reg.CKR_RST_CNT_HANDSHAKES) 1 ∧
    modeOf t = modeOf d ∧ t.hi.journal = d.hi.journal ∧ t.hi.cmds = d.hi.cmds ∧ memSame d t
/-- The fetch of a descriptor or payload of a submission ring has failed (R339): the ring is stopped and named. -/
def fetchFailed (n : Nat) (d t : Dev) : Prop :=
  flag t Reg.HI_ERR_DESC_FETCH = true ∧ rd t Reg.HI_ERR_RING = trunc Reg.HI_ERR_RING.w n ∧ flag t Reg.HI_ERR_CQ_SIDE = false ∧
    flag t (Reg.HI_SQ_STATE_STOPPED n) = true ∧ reportsOnly d t ∧ memSame d t ∧
    regsBut ([Reg.HI_ERR_DESC_FETCH, Reg.HI_ERR_RING, Reg.HI_ERR_CQ_SIDE, Reg.HI_SQ_STATE_STOPPED n] ++ evCounts) d t
/-- A doorbell has been refused (R336, R337): its ring and side named and counted, nothing but those registers changed. -/
def doorbellRefused (cqSide : Bool) (n : Nat) (d t : Dev) : Prop :=
  flag t Reg.HI_ERR_DB_RANGE = true ∧ rd t Reg.HI_ERR_RING = trunc Reg.HI_ERR_RING.w n ∧ flag t Reg.HI_ERR_CQ_SIDE = cqSide ∧
    rd t Reg.HI_ERR_COUNT_DB_ERR = satAdd Reg.HI_ERR_COUNT_DB_ERR.w (rd d Reg.HI_ERR_COUNT_DB_ERR) 1 ∧ regsOnly d t ∧
    regsBut [Reg.HI_ERR_DB_RANGE, Reg.HI_ERR_RING, Reg.HI_ERR_CQ_SIDE, Reg.HI_ERR_COUNT_DB_ERR] d t
/-- A ring's configuration has been refused (R334): its ring and side named, nothing else changed. -/
def configRefused (cqSide : Bool) (n : Nat) (d t : Dev) : Prop :=
  flag t Reg.HI_ERR_CFG_REJ = true ∧ rd t Reg.HI_ERR_RING = trunc Reg.HI_ERR_RING.w n ∧ flag t Reg.HI_ERR_CQ_SIDE = cqSide ∧
    regsBut [Reg.HI_ERR_CFG_REJ, Reg.HI_ERR_RING, Reg.HI_ERR_CQ_SIDE] d t ∧ regsOnly d t

/-! ## Events -/

/-- An event of a code would enter the intake now: no drop waits for its record, the intake has room, the code's bucket has a token or
none is asked of it (R455, R456). -/
def intakeOpen (d : Dev) (code sev : Nat) : Prop :=
  d.ev.dropN = 0 ∧ intakeRoom d sev = true ∧
    (match limitedBurst d (stamp d code sev 0 3 1 false []) with
      | none => True
      | some burst => mgetD d.ev.buckets code burst ≠ 0)
/-- One event entered the intake, behind what was there. -/
def entered (d d' : Dev) (code sev src pier : Nat) (items : List Item) : Prop :=
  d'.ev.intake = d.ev.intake ++ [stamp d code sev src pier 1 false (evData items)]

/-! ## Host commands -/

/-- The turn of an accepted command has come in a module that performs it (R347, R348, R352, R354): nothing of the mode is said. -/
def dueOf (d : Dev) (c : HiCmd) : Prop :=
  cmdOf d c.seq = some c ∧ cmdReady d c = true ∧ c.again = false ∧ pairHalted d 1 = false ∧ d.hm.powerFail = false ∧
  (if cmdLocal c.desc = true then c.partner = false ∨ c.lost = true else executing d = true) ∧
  (c.desc.op ≠ 4 → c.payload.length = c.desc.payLen)
/-- The same, where the mode lets the command be performed (R93). -/
def turnOf (d : Dev) (c : HiCmd) : Prop := dueOf d c ∧ (modeOf d ≠ mSAFE ∨ safePermits c.desc = true)
/-- A command is final: the journal holds at a sequence number its FINAL entry, and it is no longer among the open ones (R349, R351). -/
def finalAt (t : Dev) (h : Nat) (c : HiCmd) (status : Nat) (result : List Byte) : Prop :=
  mget t.hi.journal h = some ⟨2, c.desc.id, status, 0, c.ring, c.partner, c.seq, result.length, result.take 48⟩ ∧ cmdOf t c.seq = none
/-- The journal holds a command's START entry at a sequence number (R349, R351). -/
def startAt (t : Dev) (h : Nat) (c : HiCmd) : Prop :=
  mget t.hi.journal h = some ⟨1, c.desc.id, c.desc.op, 0, c.ring, c.partner, c.seq, 0, []⟩
/-- A command has come to a phase and nothing else has changed. -/
def phaseOnly (d : Dev) (c : HiCmd) (ph : CmdPhase) (t : Dev) : Prop :=
  cmdOf t c.seq = some { c with phase := ph } ∧ t = { d with hi := { d.hi with cmds := t.hi.cmds } }
/-- Nothing changes but registers, the recorder, the messages sent or pending, and the host interface. -/
def answersOnly (d t : Dev) : Prop :=
  t = { d with regs := t.regs, ev := t.ev, out := t.out, msix := t.msix, once := t.once, hi := t.hi }
/-- The numbers of the next two journal entries do not wrap. -/
def jOpen (d : Dev) : Prop := jHead d + 2 < 2 ^ 64

/-- A command that waited for something has become final with a status and some result. -/
def waiterFinal (cmd : Option Nat) (status : Nat) (d t : Dev) : Prop :=
  ∀ c x, cmd = some c → cmdOf d c = some x → x.again = false → d.hm.powerFail = false → ∃ r, finalAt t (jHead d) x status r
/-- The command that a Caisson store belongs to has ended with it (R473, R476, R501): a COMMIT has burned its fuses in any case, a
STORE_SETTINGS has the status. -/
def storeEnded (x : CsStore) (status : Nat) (d t : Dev) : Prop :=
  match x.rollback with
  | none => waiterFinal x.cmd status d t
  | some n => waiterFinal x.cmd St.OK d t ∧ (x.cmd.isSome = true → rd t Reg.UP_ROLLBACK_FUSES = trunc 7 (max n (rd d Reg.UP_ROLLBACK_FUSES)))
/-- An attempt to send a package over a hop has ended (R494): the consist after that one is offered it, while SKIP_MAX allows and there is
one; else the hop waits. -/
def hopEnded (k h : Nat) (p : UpPkg) (d t : Dev) : Prop :=
  let x := hopOf p h
  match (if h < 2 ∧ x.skipped < rd d Reg.UP_CFG_SKIP_MAX then hopPos d h (x.skipped + 2) else none) with
  | some pos =>
    pkgOf t k = some (hopPut h { x with
      pos := pos, skipped := x.skipped + 1, repeats := 0, next := 0, acked := 0, phase := 1, unans := 0, waiting := false } p) ∧
    t.out = d.out ++ [.upOffer h pos (h + 1) p.man.identity]
  | none => pkgOf t k = some (hopPut h { x with phase := 0, unans := 0, repeats := 0, waiting := true } p)

/-- A unit of the Trestle takes the common work of R305: the network is up, no halt of its pair, no reserved turn with work. -/
def commonTurn (d : Dev) : Prop :=
  netActive d = true ∧ pairHalted d 2 = false ∧ (d.te.unitNo ≠ 15 ∨ lbNext d d.te.turn = none)

/-! ## The forms that every step keeps -/

/-- Deck memory and both snapshot buffers are in canonical form: addresses strictly rise, no cell holds 0. -/
def memoryForm (d : Dev) : Prop := Memory.wf d.mem = true ∧ Memory.wf d.snap.1 = true ∧ Memory.wf d.snap.2 = true

end Sys2Proof.Machine
end

