-- ==== Sys2Proof/Certificates/Slice0/Obligations.lean ====
section
/-!
DEFINITION. The statements for the provers: each says, for every state, what one or more commands of the table do.
-/
open Sys2Proof Sys2Proof.Machine

/-- A step is exec of the front command with the queue's rest; with no command waiting it changes nothing (log 1) (12_host_interface.md, 95_what_each_step_holds.md). -/
def Obligations.StepRunsFrontCommand : Prop :=
  (∀ (c : Instr) (s : State) (r : List Instr),
     Sys2Proof.Machine.step { s with pending := c :: r } = Sys2Proof.Machine.exec c { s with pending := r }) ∧
  (∀ s : State, s.pending = [] → Sys2Proof.Machine.step s = .next s)

/-- Every command of the table, all 248 of them, answers a next state in every state, with the waiting commands as they were (95_what_each_step_holds.md, R10, R52). -/
def Obligations.EveryCommandCompletes : Prop :=
  ∀ (c : Instr) (s : State), ∃ t, Sys2Proof.Machine.exec c s = .next t ∧ t.pending = s.pending

/-- From every state a run of as many steps as commands wait answers a next state whose queue is empty (95_what_each_step_holds.md). -/
def Obligations.EveryQueueDrains : Prop :=
  ∀ s : State, ∃ t, Sys2Proof.core.run s.pending.length s = .next t ∧ t.pending = []

/-- While the rails are off, nothing but the 9.0 V threshold and the power-on reset changes the module (R52, R76). -/
def Obligations.UnpoweredModuleStays : Prop :=
  ∀ (c : Instr) (s : State), s.dev.hm.rails = false → c ≠ .powerOnReset → (∀ above, c ≠ .vin9vThreshold above) →
    Sys2Proof.Machine.exec c s = .next s

/-- After reset the module is in BOOT with every register at its Reset value; the first-boot values of MRAM and memories are the model's (log 8) (R17, R76, R77, R80, R10, R40). -/
def Obligations.ResetValues : Prop :=
  (modeOf State.reset.dev = mBOOT ∧ rd State.reset.dev Reg.MCTL_BOOT_STEP = 0 ∧ State.reset.pending = [] ∧
     (∀ a, Memory.byte State.reset.dev.mem a = 0) ∧ State.reset.dev.hi.journal = [] ∧ State.reset.dev.ev.main = [] ∧
     State.reset.dev.store.current = none ∧ (∀ p, inService State.reset.dev p = true) ∧
     rd State.reset.dev Reg.HI_JOURNAL_HEAD = 1 ∧ rd State.reset.dev Reg.HI_JOURNAL_TAIL = 1 ∧
     rd State.reset.dev Reg.HI_JOURNAL_FREE_ENTRIES = 32768 ∧
     regsBut [Reg.HI_JOURNAL_HEAD, Reg.HI_JOURNAL_TAIL, Reg.HI_JOURNAL_FREE_ENTRIES] { State.reset.dev with regs := [] } State.reset.dev ∧
     ∀ f : Fld, rd { State.reset.dev with regs := [] } f = f.rst) ∧
  (memoryForm State.reset.dev)

/-- Every step keeps Deck memory and both snapshot buffers in canonical form (R10, R40, R77, R177, R179). -/
def Obligations.MemoryFormKept : Prop :=
  ∀ s t : State, memoryForm s.dev → Sys2Proof.Machine.step s = .next t → memoryForm t.dev

/-- VIN_LOW, its return, the end of the hold-up time, the rails going off and the 9.0 V threshold (R52, R63, R461, 02_module_hardware.md). -/
def Obligations.SupplyLossRunsFromHoldUp : Prop :=
  (∀ s : State, Running s →
    (∀ mv, flag s.dev Reg.HM_STATUS_HOLDUP = false → Answers (.vinLow mv) s fun t =>
      flag t Reg.HM_STATUS_HOLDUP = true ∧ bitF t Reg.HM_ALARM_VOLT 0 = true ∧ bitF t Reg.HM_LIVE_VOLT 0 = true ∧
      regsBut ([Reg.HM_STATUS_HOLDUP, Reg.HM_ALARM_VOLT, Reg.HM_LIVE_VOLT] ++ evCounts) s.dev t ∧
      reportsOnly { s.dev with hm := { s.dev.hm with counting := false } } t ∧ memSame s.dev t ∧
      (intakeOpen s.dev Ev.HOLDUP (sevOf Ev.HOLDUP) → entered s.dev t Ev.HOLDUP (sevOf Ev.HOLDUP) (srcOf Ev.HOLDUP) 3 [.w mv])) ∧
    (∀ mv, flag s.dev Reg.HM_STATUS_HOLDUP = true → Answers (.vinLow mv) s fun t => t = s.dev) ∧
    (Answers .holdupVinRestored s fun t =>
      if flag s.dev Reg.HM_STATUS_HOLDUP = true then
        flag t Reg.HM_STATUS_HOLDUP = false ∧ bitF t Reg.HM_LIVE_VOLT 0 = false ∧
        regsBut [Reg.HM_STATUS_HOLDUP, Reg.HM_LIVE_VOLT] s.dev t ∧ regsOnly s.dev t
      else t = s.dev) ∧
    (∀ mv, Answers (.holdupTimeout mv) s fun t =>
      if flag s.dev Reg.HM_STATUS_HOLDUP = true ∧ s.dev.hm.powerFail = false then
        t.hm.powerFail = true ∧ modeOf t = mSAFE ∧ (safeOpen s.dev → enteredSafe t scPOWER_FAIL 0)
      else t = s.dev) ∧
    (Answers .railsOff s fun t =>
      if flag s.dev Reg.HM_STATUS_HOLDUP = true ∨ s.dev.hm.powerFail = true then
        t.hm.rails = false ∧ t.hm.counting = false ∧ flag t Reg.MCTL_PINS_SAFE_OUT = false ∧ flag t Reg.MCTL_PINS_ALIVE = false ∧
        flag t Reg.MCTL_PINS_STANDBY = false ∧ (∀ p, rd t (Reg.FIO_LEG_STATE_APPLIED (pierIdx p)) = 0) ∧ memSame s.dev t
      else t = s.dev)) ∧
  ∀ (s : State) (above : Bool), Answers (.vin9vThreshold above) s fun t =>
    if s.dev.hm.rails = false ∨ s.dev.hm.powerFail = true then
      t.hm = { s.dev.hm with counting := above } ∧ regsOnly { s.dev with hm := { s.dev.hm with counting := above } } t ∧
      (if above = true ∧ s.dev.hm.rails = true ∧ flag s.dev Reg.HM_STATUS_HOLDUP = true then
        flag t Reg.HM_STATUS_HOLDUP = false ∧ bitF t Reg.HM_LIVE_VOLT 0 = false ∧ regsBut [Reg.HM_STATUS_HOLDUP, Reg.HM_LIVE_VOLT] s.dev t
      else t.regs = s.dev.regs)
    else t = s.dev

/-- POWER_ON_RESET, EXTERNAL_RESET, MCTL_RESET_CMD and MCTL_RESET_SERVICE: kind, counters, what is kept (R76, R77, R80, R89). -/
def Obligations.ModuleResets : Prop :=
  ∀ s : State,
    (s.dev.hm.counting = true → Answers .powerOnReset s fun t =>
      modeOf t = mBOOT ∧ rd t Reg.MCTL_BOOT_STEP = 1 ∧ rd t Reg.MCTL_RESET_CAUSE_KIND = 0 ∧ t.hm.rails = true ∧ t.mem = [] ∧
      t.mode.posrst = true ∧ t.bp = s.dev.bp ∧ resetKeeps s.dev t) ∧
    (s.dev.hm.counting = false → Answers .powerOnReset s fun t => t = s.dev) ∧
    (Running s → s.dev.mode.posrst = true → Answers .externalReset s fun t => t = s.dev) ∧
    (Running s → s.dev.mode.posrst = true ∨ s.dev.hm.powerFail = true →
      (Answers .mctlResetCmd s fun t => t = s.dev) ∧ (Answers .mctlResetService s fun t => t = s.dev)) ∧
    (Running s → s.dev.mode.posrst = false →
      (Answers .externalReset s fun t =>
        modeOf t = mBOOT ∧ rd t Reg.MCTL_RESET_CAUSE_KIND = 1 ∧
        rd t Reg.MCTL_RESET_CAUSE_EXT_COUNT = satAdd 8 (rd s.dev Reg.MCTL_RESET_CAUSE_EXT_COUNT) 1 ∧
        rd t Reg.MCTL_RESET_CAUSE_CMD_COUNT = rd s.dev Reg.MCTL_RESET_CAUSE_CMD_COUNT ∧ t.bp = s.dev.bp ∧
        resetKeeps s.dev t ∧ warmKeeps s.dev t) ∧
      (s.dev.hm.powerFail = false →
        (Answers .mctlResetCmd s fun t =>
          modeOf t = mBOOT ∧ rd t Reg.MCTL_RESET_CAUSE_KIND = 2 ∧
          rd t Reg.MCTL_RESET_CAUSE_CMD_COUNT = satAdd 8 (rd s.dev Reg.MCTL_RESET_CAUSE_CMD_COUNT) 1 ∧ t.bp = s.dev.bp ∧
          resetKeeps s.dev t ∧ warmKeeps s.dev t) ∧
        (Answers .mctlResetService s fun t =>
          modeOf t = mBOOT ∧ rd t Reg.MCTL_RESET_CAUSE_KIND = 2 ∧
          rd t Reg.MCTL_RESET_CAUSE_CMD_COUNT = satAdd 8 (rd s.dev Reg.MCTL_RESET_CAUSE_CMD_COUNT) 1 ∧
          t.bp = { s.dev.bp with serviceNext := true } ∧ resetKeeps s.dev t ∧ warmKeeps s.dev t)))

/-- POR_RELEASE_RETRY, BOOT_STEP_DONE and DUPLEX_ROLE_WAIT_EXPIRY carry the boot sequence on (R78, R80, R85, R86, R87, R90, R334, R485, R524). -/
def Obligations.BootSequenceSteps : Prop :=
  ∀ s : State, Running s →
    (Answers (.porReleaseRetry true) s fun t =>
      if s.dev.mode.posrst = true then
        t.mode.posrst = false ∧ rd t Reg.MCTL_BOOT_STEP = 2 ∧
        rd t Reg.MCTL_POWER_CYCLES = trunc 32 (rd s.dev Reg.MCTL_POWER_CYCLES + 1) ∧
        rd t Reg.MCTL_OP_SECONDS = trunc 32 (max s.dev.bp.opSeconds (powerFailSeconds s.dev)) ∧
        t.bp = (if s.dev.hm.powerFail = true then s.dev.bp else { s.dev.bp with powerCycles := rd t Reg.MCTL_POWER_CYCLES }) ∧
        regsBut [Reg.MCTL_BOOT_STEP, Reg.MCTL_POWER_CYCLES, Reg.MCTL_OP_SECONDS] s.dev t ∧ memSame s.dev t
      else t = s.dev) ∧
    (Answers (.porReleaseRetry false) s fun t => t = s.dev) ∧
    (∀ r : BootResult, ¬ bootDue s.dev r → Answers (.bootStepDone r) s fun t => t = s.dev) ∧
    (∀ pos corrupt unreadable, bootDue s.dev (.step3 pos corrupt unreadable) → Answers (.bootStepDone (.step3 pos corrupt unreadable)) s fun t =>
      rd t Reg.MCTL_BOOT_STEP = 3 ∧ flag t Reg.MCTL_PINS_POS = pos ∧ flag t Reg.EV_STATUS_RECOVERED = true ∧
      rd t Reg.CKR_STATUS_CLK_OK = 0xFFFF ∧ modeOf t = mBOOT) ∧
    (∀ x : SelfTest, bootDue s.dev (.step4 x) → Answers (.bootStepDone (.step4 x)) s (bootShown 4)) ∧
    (∀ x : SelfTest, bootDue s.dev (.step5 x) → Answers (.bootStepDone (.step5 x)) s (bootShown 5)) ∧
    (∀ x : SelfTest, x = ⟨triAll [], 0, [], false, none⟩ →
      (bootDue s.dev (.step4 x) → Answers (.bootStepDone (.step4 x)) s fun t => t = wr s.dev Reg.MCTL_BOOT_STEP 4) ∧
      (bootDue s.dev (.step5 x) → Answers (.bootStepDone (.step5 x)) s fun t => t = wr s.dev Reg.MCTL_BOOT_STEP 5)) ∧
    (bootDue s.dev .step6 → Answers (.bootStepDone .step6) s fun t =>
      rd t Reg.MCTL_BOOT_STEP = 6 ∧ t.dx.leaseMs = rd t Reg.DX_LEASE_CFG_LEASE_MS ∧ t.dx.guardMs = rd t Reg.DX_LEASE_CFG_GUARD_MS) ∧
    (∀ a b, bootDue s.dev (.step7 a b) → Answers (.bootStepDone (.step7 a b)) s fun t =>
      bootShown 7 t ∧ (t.mode.halted = false → rd t Reg.UP_STATUS_BOOTED = rd t Reg.MCTL_BOOT_SLOT)) ∧
    (bootDue s.dev .step8 → Answers (.bootStepDone .step8) s fun t =>
      rd t Reg.MCTL_BOOT_STEP = 8 ∧ flag t Reg.HI_STATUS_READY = true) ∧
    (bootDue s.dev .step9 → Answers (.bootStepDone .step9) s fun t =>
      flag t Reg.HI_STATUS_RECOVERED = true ∧
      match roleDecide false s.dev with
      | none => t.mode.waiting = true ∧ rd t Reg.MCTL_BOOT_STEP = 8
      | some role => t.mode.waiting = false ∧ rd t Reg.MCTL_BOOT_STEP = 9 ∧ rd t Reg.MCTL_MODE_ROLE = role) ∧
    (∀ check, bootDue s.dev (.step10 check) → Answers (.bootStepDone (.step10 check)) s fun t =>
      rd t Reg.MCTL_BOOT_STEP = 10 ∧
      ∀ img, s.dev.store.current = some img →
        if s.dev.bp.generation ≠ 0 ∧ check = 0 then
          t.mode.imageValid = true ∧ t.img = img ∧ t.mode.generation = s.dev.bp.generation ∧ t.mode.imageId = s.dev.bp.imageId
        else t.mode.imageValid = s.dev.mode.imageValid ∧ t.img = s.dev.img ∧ t.mode.noImage.isSome = true) ∧
    (∀ sigs, bootDue s.dev (.step11 sigs) → Answers (.bootStepDone (.step11 sigs)) s fun t =>
      rd t Reg.MCTL_BOOT_STEP = 11 ∧ (s.dev.mode.bootSafe.isSome = true → modeOf t = mSAFE) ∧
      (s.dev.mode.bootSafe = none → s.dev.mode.imageValid = false → modeOf t = mSERVICE) ∧
      (s.dev.mode.bootSafe = none → s.dev.mode.imageValid = true → s.dev.bp.serviceNext = false → 2 ≤ (votingPiers s.dev).length →
        (∀ p ∈ votingPiers s.dev, ∀ q ∈ votingPiers s.dev, triGet sigs p = triGet sigs q) →
        modeOf t = if rd s.dev Reg.MCTL_MODE_ROLE = 2 then mSTANDBY else mSTOP)) ∧
    (if s.dev.mode.waiting = true ∧ modeOf s.dev = mBOOT ∧ s.dev.mode.halted = false then
      Answers .duplexRoleWaitExpiry s fun t =>
        rd t Reg.MCTL_BOOT_STEP = 9 ∧ t.mode.waiting = false ∧ roleDecide true s.dev = some (rd t Reg.MCTL_MODE_ROLE)
    else Answers .duplexRoleWaitExpiry s fun t => t = s.dev)

/-- SVC_PERMIT_CHANGE and OP_SECONDS_SAVE: a pin's level and its loss in HOLD, the saved operating seconds (R78, R90, R91). -/
def Obligations.PermitAndOperatingSeconds : Prop :=
  ∀ s : State, Running s →
    (∀ v, Answers (.svcPermitChange v) s fun t =>
      flag t Reg.MCTL_PINS_SVC_PERMIT = v ∧ regsBut [Reg.MCTL_PINS_SVC_PERMIT] s.dev t ∧
      (v = false ∧ modeOf s.dev = mHOLD → t.mode.permitLost = true) ∧ (¬ (v = false ∧ modeOf s.dev = mHOLD) → t.mode = s.dev.mode) ∧
      memSame s.dev t) ∧
    (Answers .opSecondsSave s fun t =>
      if s.dev.hm.powerFail = true then t = s.dev
      else t = { s.dev with bp := { s.dev.bp with opSeconds := rd s.dev Reg.MCTL_OP_SECONDS } })

/-- HM_ROUND, HM_PROC_EVAL and HM_LIVE_CLEARED: readings stored, a bad reference, the end of a condition (R63, R65, R69, R70, R71). -/
def Obligations.HealthMonitorReadings : Prop :=
  ∀ s : State, Running s →
    (∀ ref temps volts, Answers (.hmRound true ref temps volts) s fun t =>
      rd t Reg.HM_STATUS_ROUND = trunc Reg.HM_STATUS_ROUND.w (rd s.dev Reg.HM_STATUS_ROUND + 1) ∧ flag t Reg.HM_STATUS_SELF_FAIL = false ∧
      (∀ n < 8, rd t (Reg.HM_TEMP_NOW n) = trunc 16 (temps.getD n 0)) ∧ (∀ n < 14, rd t (Reg.HM_VOLT_NOW n) = trunc 16 (volts.getD n 0))) ∧
    (∀ ref temps volts, Answers (.hmRound false ref temps volts) s fun t =>
      rd t Reg.HM_STATUS_ROUND = trunc Reg.HM_STATUS_ROUND.w (rd s.dev Reg.HM_STATUS_ROUND + 1) ∧ flag t Reg.HM_STATUS_SELF_FAIL = true ∧
      regsBut ([Reg.HM_STATUS_ROUND, Reg.HM_STATUS_SELF_FAIL] ++ evCounts) s.dev t ∧ reportsOnly s.dev t) ∧
    (∀ counts, Answers (.hmProcEval counts) s fun t =>
      if flag s.dev Reg.HM_CTRL_PROC_EN = true then
        ∀ n < 6, rd t (Reg.HM_PROC_COUNT n) = trunc (Reg.HM_PROC_COUNT n).w (counts.getD n 0)
      else t = s.dev) ∧
    (∀ bit, bit < 8 → Answers (.hmLiveCleared bit) s fun t =>
      bitF t Reg.HM_LIVE_TEMP bit = false ∧ regsBut [Reg.HM_LIVE_TEMP] s.dev t ∧ regsOnly s.dev t) ∧
    (∀ n, Answers (.hmLiveCleared (8 + n)) s fun t =>
      if n = 0 ∧ flag s.dev Reg.HM_STATUS_HOLDUP = true then t = s.dev
      else bitF t Reg.HM_LIVE_VOLT n = false ∧ regsBut [Reg.HM_LIVE_VOLT] s.dev t ∧ regsOnly s.dev t)

/-- TEMP_ALARM and RAIL_ALARM: a critical alarm enters SAFE with cause HEALTH, a Pier-local one isolates its Pier (R66, R67, R71, R92). -/
def Obligations.AlarmReactions : Prop :=
  (∀ s : State, Running s → safeOpen s.dev →
    (∀ n, 3 ≤ n → n < 8 → bitF s.dev Reg.HM_LIVE_TEMP n = false → Answers (.tempAlarm n) s fun t =>
      bitF t Reg.HM_ALARM_TEMP n = true ∧ bitF t Reg.HM_LIVE_TEMP n = true ∧ enteredSafe t scHEALTH n) ∧
    (∀ n, n ∈ [0, 4, 5, 6, 10, 11, 12] → bitF s.dev Reg.HM_LIVE_VOLT n = false → Answers (.railAlarm n) s fun t =>
      bitF t Reg.HM_ALARM_VOLT n = true ∧ bitF t Reg.HM_LIVE_VOLT n = true ∧ enteredSafe t scHEALTH (8 + n)) ∧
    (nothingHeld s.dev → servicePiers s.dev = allPiers →
      (∀ n, n < 3 → bitF s.dev Reg.HM_LIVE_TEMP n = false → Answers (.tempAlarm n) s fun t =>
        bitF t Reg.HM_ALARM_TEMP n = true ∧ bitF t Reg.HM_LIVE_TEMP n = true ∧ isolated t (pierOf n) = true ∧ inService t (pierOf n) = false) ∧
      (∀ n p, railPier n = some p → bitF s.dev Reg.HM_LIVE_VOLT n = false → Answers (.railAlarm n) s fun t =>
        bitF t Reg.HM_ALARM_VOLT n = true ∧ bitF t Reg.HM_LIVE_VOLT n = true ∧ isolated t p = true ∧ inService t p = false))) ∧
  ∀ s : State, Running s → nothingHeld s.dev → s.dev.ks.reqs = [] →
    (Answers (.railAlarm 13) s fun t => t = s.dev) ∧
    (∀ n, bitF s.dev Reg.HM_LIVE_TEMP n = true → Answers (.tempAlarm n) s fun t => t = s.dev) ∧
    (∀ n, bitF s.dev Reg.HM_LIVE_VOLT n = true → Answers (.railAlarm n) s fun t => t = s.dev)

/-- EVENT_INTAKE and SUMMARY_TIMEOUT: an event enters an open intake as stamped, a code's suppressions enter as one summary (R453, R454, R455, R456, R457). -/
def Obligations.EventsEnterTheIntake : Prop :=
  ∀ s : State, Running s →
    (∀ code pier items, intakeOpen s.dev code (sevOf code) → Answers (.eventIntake code pier items) s fun t =>
      entered s.dev t code (sevOf code) (srcOf code) pier items ∧ t.regs = s.dev.regs ∧ t = { s.dev with ev := t.ev } ∧
      t.ev.main = s.dev.ev.main ∧ t.ev.reserve = s.dev.ev.reserve) ∧
    (∀ code pier items burst, s.dev.ev.dropN = 0 → limitedBurst s.dev (stamp s.dev code (sevOf code) 0 3 1 false []) = some burst →
      (mgetD s.dev.ev.buckets code burst = 0 → Answers (.eventIntake code pier items) s fun t =>
        rd t Reg.EV_COUNT_SUPPRESSED = satAdd Reg.EV_COUNT_SUPPRESSED.w (rd s.dev Reg.EV_COUNT_SUPPRESSED) 1 ∧
        regsBut [Reg.EV_COUNT_SUPPRESSED] s.dev t ∧ t.ev.intake = s.dev.ev.intake ∧
        (mget t.ev.suppr code).map (·.count) = some (((mget s.dev.ev.suppr code).map (·.count)).getD 0 + 1)) ∧
      (mgetD s.dev.ev.buckets code burst ≠ 0 → intakeRoom s.dev (sevOf code) = false → Answers (.eventIntake code pier items) s fun t =>
        rd t Reg.EV_COUNT_DROPPED = satAdd Reg.EV_COUNT_DROPPED.w (rd s.dev Reg.EV_COUNT_DROPPED) 1 ∧
        regsBut [Reg.EV_COUNT_DROPPED] s.dev t ∧ t.ev.intake = s.dev.ev.intake ∧ t.ev.dropN = 1)) ∧
    (∀ code, mget s.dev.ev.suppr code = none → Answers (.summaryTimeout code) s fun t => t = s.dev) ∧
    (∀ code x, mget s.dev.ev.suppr code = some x → intakeRoom s.dev x.sev = true → Answers (.summaryTimeout code) s fun t =>
      t.ev.intake = s.dev.ev.intake ++ [summaryEntry s.dev code x] ∧ mget t.ev.suppr code = none ∧ t.regs = s.dev.regs ∧
      t = { s.dev with ev := t.ev })

/-- RECORDER_WRITE and what follows it, and the buckets' tokens: records move on, suppressions become summaries (R455, R458, R460, R464, R456, R457). -/
def Obligations.RecordsAreStored : Prop :=
  (∀ s : State, Running s →
     (∀ e r, s.dev.ev.intake = e :: r → evReady s.dev = true → s.dev.ev.dropN = 0 →
       (flag s.dev Reg.EV_STATUS_RESERVE_FAIL = false →
         (Answers (.recordStore 0) s fun t =>
           t.ev.intake = r ∧ rd t Reg.EV_NEXT = trunc 64 (rd s.dev Reg.EV_NEXT + 1) ∧
           (evInReserve s.dev = false → mget t.ev.main (rd s.dev Reg.EV_NEXT) = some ⟨rd s.dev Reg.EV_NEXT, e, false, false⟩) ∧
           (evInReserve s.dev = true → mget t.ev.reserve (rd s.dev Reg.EV_NEXT) = some ⟨rd s.dev Reg.EV_NEXT, e, true, false⟩) ∧
           regsBut [Reg.EV_NEXT, Reg.EV_OLDEST] s.dev t ∧ memSame s.dev t) ∧
         (s.dev.ev.retry = false → Answers (.recordStore 1) s fun t =>
           t.ev = { s.dev.ev with retry := true } ∧ t.regs = s.dev.regs ∧ memSame s.dev t) ∧
         (∀ o, 2 ≤ o ∨ (o = 1 ∧ s.dev.ev.retry = true) →
           (evInReserve s.dev = false → Answers (.recordStore o) s fun t =>
             flag t Reg.EV_STATUS_MAIN_FAIL = true ∧ evInReserve t = true ∧ t.ev.intake.drop 1 = e :: r ∧
             (t.ev.intake.head?.map (·.code)) = some Ev.EV_MEM_FAIL ∧ memSame s.dev t) ∧
           (evInReserve s.dev = true → Answers (.recordStore o) s fun t =>
             flag t Reg.EV_STATUS_RESERVE_FAIL = true ∧ rd t Reg.EV_FAIL_ADDR_AREA = 1))) ∧
       (∀ o, flag s.dev Reg.EV_STATUS_RESERVE_FAIL = true → Answers (.recordStore o) s fun t =>
         t.ev.intake = r ∧ rd t Reg.EV_LOST = satAdd Reg.EV_LOST.w (rd s.dev Reg.EV_LOST) 1 ∧ regsBut [Reg.EV_LOST] s.dev t ∧ memSame s.dev t)) ∧
     (∀ o, s.dev.ev.intake = [] ∨ evReady s.dev = false → Answers (.recordStore o) s fun t => t = s.dev) ∧
     (s.dev.ev.hold = false → Answers .notifyHoldExpiry s fun t => t = s.dev) ∧
     (s.dev.ev.hold = true → Answers .notifyHoldExpiry s fun t =>
       t.ev.hold = s.dev.ev.holdPend ∧ t.ev.holdPend = false ∧ t.ev.intake = s.dev.ev.intake ∧ t.regs = s.dev.regs ∧ reportsOnly s.dev t) ∧
     (∀ v, Answers (.evSelWrite true v) s fun t => t = { s.dev with ev := { s.dev.ev with selHi := trunc 32 v } }) ∧
     (∀ v, Answers (.evSelWrite false v) s fun t =>
       rd t Reg.EV_SEL = trunc 64 (s.dev.ev.selHi * 2 ^ 32 + trunc 32 v) ∧ regsBut [Reg.EV_SEL] s.dev t ∧ regsOnly s.dev t)) ∧
  (∀ (s : State) (code : Nat), Running s →
     (mget s.dev.ev.buckets code = none ∨ bucketBurst s.dev code = none → Answers (.tokenRefill code) s fun t => t = s.dev) ∧
     (∀ tok burst, mget s.dev.ev.buckets code = some tok → bucketBurst s.dev code = some burst →
       (tok + 1 < burst → Answers (.tokenRefill code) s fun t =>
         t = { s.dev with ev := { s.dev.ev with buckets := mput s.dev.ev.buckets code (tok + 1) } }) ∧
       (burst ≤ tok + 1 → mget s.dev.ev.suppr code = none → Answers (.tokenRefill code) s fun t =>
         mget t.ev.buckets code = none ∧ t = { s.dev with ev := { s.dev.ev with buckets := t.ev.buckets } }) ∧
       (∀ x, burst ≤ tok + 1 → mget s.dev.ev.suppr code = some x → intakeRoom s.dev x.sev = true → Answers (.tokenRefill code) s fun t =>
         mget t.ev.buckets code = none ∧ mget t.ev.suppr code = none ∧ t.regs = s.dev.regs ∧
         t.ev.intake = s.dev.ev.intake ++ [summaryEntry s.dev code x])))

/-- PCIE_RESET, FUNCTION_LEVEL_RESET, D3HOT_ENTRY, D3HOT_RETURN and BUS_MASTER_ENABLE_CHANGE (R60, R331, R332, R363, R514). -/
def Obligations.EndpointRestarts : Prop :=
  ∀ s : State, Running s →
    (∀ n, Answers (.pcieReset n) s fun t => endpointRests s.dev t) ∧
    (∀ n, Answers (.functionLevelReset n) s fun t => endpointRests s.dev t) ∧
    (∀ n, s.dev.hi.d3 = true → Answers (.d3hotReturn n) s fun t => endpointRests s.dev t) ∧
    (∀ n, s.dev.hi.d3 = false → Answers (.d3hotReturn n) s fun t => t = s.dev) ∧
    (Answers .d3hotEntry s fun t => t = { s.dev with hi := { s.dev.hi with d3 := true } }) ∧
    (∀ v, Answers (.busMasterEnableChange v) s fun t => flag t Reg.HI_LINK_BME = v ∧ modeOf t = modeOf s.dev ∧ memSame s.dev t)

/-- Doorbells and ring configurations in range are taken, any other is refused and counted (R336, R337, R334, R357). -/
def Obligations.DoorbellsAndRings : Prop :=
  (∀ s : State, Running s →
     (¬ hostOpen s.dev → (∀ n up v, Answers (.sqTailDoorbell n up v) s fun t => t = s.dev) ∧
       ∀ q up v, Answers (.cqHeadDoorbell q up v) s fun t => t = s.dev) ∧
     (hostOpen s.dev → ∀ n v, n < 8 → flag s.dev (Reg.HI_SQ_CFG_EN n) = true → v < 2 ^ rd s.dev (Reg.HI_SQ_CFG_SIZE n) →
       Answers (.sqTailDoorbell n false v) s fun t =>
         rd t (Reg.HI_SQ_STATE_TAIL n) = trunc (Reg.HI_SQ_STATE_TAIL n).w v ∧ regsBut [Reg.HI_SQ_STATE_TAIL n] s.dev t ∧ memSame s.dev t) ∧
     (hostOpen s.dev → ∀ n up v, n < 8 → (up = true ∨ flag s.dev (Reg.HI_SQ_CFG_EN n) = false ∨ 2 ^ rd s.dev (Reg.HI_SQ_CFG_SIZE n) ≤ v) →
       Answers (.sqTailDoorbell n up v) s fun t => doorbellRefused false n s.dev t) ∧
     (hostOpen s.dev → ∀ q v, q < 8 → flag s.dev (Reg.HI_CQ_CFG_EN q) = true → v < cqSize s.dev q →
       Answers (.cqHeadDoorbell q false v) s fun t =>
         rd t (Reg.HI_CQ_STATE_HEAD q) = trunc (Reg.HI_CQ_STATE_HEAD q).w v ∧ memSame s.dev t) ∧
     (hostOpen s.dev → ∀ q up v, q < 8 → (up = true ∨ flag s.dev (Reg.HI_CQ_CFG_EN q) = false ∨ cqSize s.dev q ≤ v) →
       Answers (.cqHeadDoorbell q up v) s fun t => doorbellRefused true q s.dev t)) ∧
  (∀ s : State, Running s → ∀ n word, n < 8 →
     (¬ hostOpen s.dev → (Answers (.sqCfgWrite n word) s fun t => t = s.dev) ∧ Answers (.cqCfgWrite n word) s fun t => t = s.dev) ∧
     (hostOpen s.dev →
       (cfgRefused s.dev (flag s.dev (Reg.HI_SQ_CFG_EN n)) (bitOf word 31)
           (rd s.dev (Reg.HI_SQ_CFG_CQ n) == bitField word 16 3 && rd s.dev (Reg.HI_SQ_CFG_SIZE n) == bitField word 0 4) (bitField word 0 4) = false →
         (Answers (.sqCfgWrite n word) s fun t =>
           flag t (Reg.HI_SQ_CFG_EN n) = bitOf word 31 ∧ rd t (Reg.HI_SQ_CFG_CQ n) = bitField word 16 3 ∧
           rd t (Reg.HI_SQ_CFG_SIZE n) = bitField word 0 4 ∧ memSame s.dev t) ∧
         ((flag s.dev (Reg.HI_SQ_CFG_EN n) && bitOf word 31) = true → Answers (.sqCfgWrite n word) s fun t => t = s.dev)) ∧
       (cfgRefused s.dev (flag s.dev (Reg.HI_CQ_CFG_EN n)) (bitOf word 31)
           (rd s.dev (Reg.HI_CQ_CFG_IMOD n) == bitField word 16 10 && rd s.dev (Reg.HI_CQ_CFG_SIZE n) == bitField word 0 4) (bitField word 0 4) = false →
         (Answers (.cqCfgWrite n word) s fun t =>
           flag t (Reg.HI_CQ_CFG_EN n) = bitOf word 31 ∧ rd t (Reg.HI_CQ_CFG_IMOD n) = bitField word 16 10 ∧
           rd t (Reg.HI_CQ_CFG_SIZE n) = bitField word 0 4 ∧ memSame s.dev t) ∧
         ((flag s.dev (Reg.HI_CQ_CFG_EN n) && bitOf word 31) = true → Answers (.cqCfgWrite n word) s fun t => t = s.dev)) ∧
       (cfgRefused s.dev (flag s.dev (Reg.HI_SQ_CFG_EN n)) (bitOf word 31)
           (rd s.dev (Reg.HI_SQ_CFG_CQ n) == bitField word 16 3 && rd s.dev (Reg.HI_SQ_CFG_SIZE n) == bitField word 0 4) (bitField word 0 4) = true →
         Answers (.sqCfgWrite n word) s fun t => configRefused false n s.dev t) ∧
       (cfgRefused s.dev (flag s.dev (Reg.HI_CQ_CFG_EN n)) (bitOf word 31)
           (rd s.dev (Reg.HI_CQ_CFG_IMOD n) == bitField word 16 10 && rd s.dev (Reg.HI_CQ_CFG_SIZE n) == bitField word 0 4) (bitField word 0 4) = true →
         Answers (.cqCfgWrite n word) s fun t => configRefused true n s.dev t) ∧
       (bitField word 0 4 < 4 ∨ 12 < bitField word 0 4 →
         (Answers (.sqCfgWrite n word) s fun t => configRefused false n s.dev t) ∧
         Answers (.cqCfgWrite n word) s fun t => configRefused true n s.dev t)))

/-- A descriptor or payload is fetched and checked in its turn; an error of DMA stops its ring (R338, R345, R348, R349, 12_host_interface.md, R339). -/
def Obligations.DescriptorsAndDmaErrors : Prop :=
  (∀ (s : State) (x : Desc) (payload : Option (List Byte)) (cs : Option ChangeSet), Running s →
     (fetchRing s.dev = none → Answers (.descriptorFetch x payload cs) s fun t => t = s.dev) ∧
     ∀ n, fetchRing s.dev = some n →
       (Answers (.descriptorFetch x payload cs) s fun t =>
         rd t (Reg.HI_SQ_STATE_HEAD n) =
           trunc (Reg.HI_SQ_STATE_HEAD n).w ((rd s.dev (Reg.HI_SQ_STATE_HEAD n) + 1) % 2 ^ rd s.dev (Reg.HI_SQ_CFG_SIZE n)) ∧ memSame s.dev t) ∧
       ∀ d, d = descMove n x s.dev →
         (x.id ≠ 0 → ringLast d n < x.id → earlyRefusal d n x payload = none → forwards d = false →
           ownRefusal d x (if fetchedBefore x then payload.getD [] else []) cs = none → journalRefusal d x = none →
           Answers (.descriptorFetch x payload cs) s fun t =>
             mget t.hi.journal (jHead s.dev) = some ⟨0, x.id, x.op, x.flags, n, false, 0, 0, descBody x⟩ ∧
             rd t Reg.HI_JOURNAL_HEAD = trunc 64 (jHead s.dev + 1) ∧
             ((cmdOf t (jHead s.dev)).map fun c => (c.ring, c.desc)) = some (n, x)) ∧
         ((x.id = 0 ∨ x.id ≤ ringLast d n ∨ (earlyRefusal d n x payload).isSome = true ∨ forwards d = true ∨
             (ownRefusal d x (if fetchedBefore x then payload.getD [] else []) cs).isSome = true ∨ (journalRefusal d x).isSome = true) →
           Answers (.descriptorFetch x payload cs) s fun t => t.hi.journal = s.dev.hi.journal ∧ t.hi.cmds = s.dev.hi.cmds)) ∧
  (∀ (s : State) (n : Nat), Running s → n < 8 →
     (Answers (.dmaError false n) s fun t => fetchFailed n s.dev t) ∧
     (Answers (.dmaCompletionTimeout n) s fun t => fetchFailed n s.dev t) ∧
     (Answers (.dmaError true n) s fun t =>
       flag t Reg.HI_ERR_CPL_WRITE = true ∧ rd t Reg.HI_ERR_RING = trunc Reg.HI_ERR_RING.w n ∧ flag t Reg.HI_ERR_CQ_SIDE = true ∧
       (∀ k < 8, rd s.dev (Reg.HI_SQ_CFG_CQ k) = n → flag t (Reg.HI_SQ_STATE_STOPPED k) = true) ∧ reportsOnly s.dev t ∧ memSame s.dev t))

/-- MIRROR_CONFIRM, MIRROR_TIMEOUT and PAYLOAD_FETCH_DONE complete what acceptance waits for (R347, R348). -/
def Obligations.AcceptanceCompletes : Prop :=
  ∀ (s : State) (seq : Nat), Running s →
    (cmdOf s.dev seq = none → (Answers (.mirrorConfirm seq) s fun t => t = s.dev) ∧ (Answers (.mirrorTimeout seq) s fun t => t = s.dev) ∧
      ∀ payload, Answers (.payloadFetchDone seq payload) s fun t => t = s.dev) ∧
    ∀ c : HiCmd, cmdOf s.dev seq = some c → c.ring < 8 →
    (c.accepted = true → (Answers (.mirrorConfirm seq) s fun t => t = s.dev) ∧ Answers (.mirrorTimeout seq) s fun t => t = s.dev) ∧
    (∀ payload, c.accepted = false ∨ payload.length ≠ c.desc.payLen → Answers (.payloadFetchDone seq payload) s fun t => t = s.dev) ∧
    (c.accepted = false → Answers (.mirrorConfirm seq) s fun t =>
      (cmdOf t seq).map (·.accepted) = some true ∧
      rd t (Reg.HI_SQ_LASTID c.ring) = trunc (Reg.HI_SQ_LASTID c.ring).w (max c.desc.id (rd s.dev (Reg.HI_SQ_LASTID c.ring))) ∧ memSame s.dev t) ∧
    (c.accepted = false → Answers (.mirrorTimeout seq) s fun t =>
      (∀ x ∈ t.hi.cmds, x.accepted = true) ∧ flag t Reg.DX_STATUS_JOURNAL_LEVEL = false ∧ memSame s.dev t) ∧
    (∀ payload, c.accepted = true → payload.length = c.desc.payLen → Answers (.payloadFetchDone seq payload) s fun t =>
      (cmdOf t seq).map (·.payload) = some payload ∧ mget t.hi.payloads seq = some payload ∧ t.regs = s.dev.regs ∧
      t = { s.dev with hi := t.hi })

/-- MSIX_IMOD_EXPIRY and MSIX_UNMASK send what their vectors hold (R42, R360). -/
def Obligations.HeldMessagesAreSent : Prop :=
  ∀ s : State, Running s →
    (∀ q, q < 8 → bitOf s.dev.hi.imodHeld q = true → mgetD s.dev.hi.unread q [] ≠ [] → bitOf s.dev.msix.mask q = false →
      Answers (.msixImodExpiry q) s fun t =>
        t.out = s.dev.out ++ [.msix q (mgetD s.dev.msix.entries q ⟨0, 0⟩).addr (mgetD s.dev.msix.entries q ⟨0, 0⟩).data] ∧
        bitOf t.hi.imodHeld q = false ∧ t.regs = s.dev.regs ∧ t = { s.dev with out := t.out, hi := t.hi }) ∧
    (∀ q, q < 8 → bitOf s.dev.hi.imodHeld q = true → mgetD s.dev.hi.unread q [] ≠ [] → bitOf s.dev.msix.mask q = true →
      Answers (.msixImodExpiry q) s fun t =>
        bitOf t.msix.pend q = true ∧ bitOf t.hi.imodHeld q = false ∧ t = { s.dev with msix := t.msix, hi := t.hi }) ∧
    (∀ q, bitOf s.dev.hi.imodHeld q = true → mgetD s.dev.hi.unread q [] = [] → Answers (.msixImodExpiry q) s fun t =>
      t = { s.dev with hi := { s.dev.hi with imodHeld := bitClr s.dev.hi.imodHeld q } }) ∧
    (∀ q, bitOf s.dev.hi.imodHeld q = false → Answers (.msixImodExpiry q) s fun t => t = s.dev) ∧
    (∀ v, ¬ hostOpen s.dev → Answers (.msixUnmask v) s fun t => t = s.dev) ∧
    (∀ v, v < 32 → hostOpen s.dev → Answers (.msixUnmask v) s fun t =>
      bitOf t.msix.mask v = false ∧ bitOf t.msix.pend v = false ∧ t = { s.dev with out := t.out, msix := t.msix } ∧
      t.out = s.dev.out ++ (if bitOf s.dev.msix.pend v then
        [.msix v (mgetD s.dev.msix.entries v ⟨0, 0⟩).addr (mgetD s.dev.msix.entries v ⟨0, 0⟩).data] else []))

/-- The windows on records, journal and variables show what is selected and move on as they are read (R361, R364, R358, R362). -/
def Obligations.HostWindows : Prop :=
  (∀ s : State, Running s →
     (hostServes s.dev = false → (∀ up v, Answers (.evwCursorWrite up v) s fun t => t = s.dev) ∧
       ∀ off words, Answers (.evwRead off words) s fun t => t = s.dev) ∧
     (∀ off words, off < 0x040 ∨ 0x0C0 < off + 4 * words ∨ off % 4 ≠ 0 ∨ words = 0 → Answers (.evwRead off words) s fun t => t = s.dev) ∧
     (hostServes s.dev = true →
     (∀ v, Answers (.evwCursorWrite true v) s fun t => t = { s.dev with hi := { s.dev.hi with evwHi := trunc 32 v } }) ∧
     (∀ v, Answers (.evwCursorWrite false v) s fun t =>
       (s.dev.hi.evwHi * 2 ^ 32 + trunc 32 v ≤ rd s.dev Reg.EV_NEXT →
         rd t Reg.HI_EVW_CURSOR = trunc 64 (s.dev.hi.evwHi * 2 ^ 32 + trunc 32 v) ∧ regsBut [Reg.HI_EVW_CURSOR] s.dev t) ∧
       (rd s.dev Reg.EV_NEXT < s.dev.hi.evwHi * 2 ^ 32 + trunc 32 v →
         rd t Reg.HI_EVW_CURSOR = trunc 64 (rd s.dev Reg.EV_NEXT) ∧ flag t Reg.HI_EVW_STATUS_CLAMPED = true ∧
         regsBut [Reg.HI_EVW_CURSOR, Reg.HI_EVW_STATUS_CLAMPED] s.dev t) ∧ regsOnly s.dev t) ∧
     (∀ off words c, 0x040 ≤ off → off + 4 * words ≤ 0x0C0 → off % 4 = 0 → words ≠ 0 →
       c = (if rd s.dev Reg.HI_EVW_CURSOR < evNextHeld s.dev (rd s.dev Reg.HI_EVW_CURSOR)
         then trunc 64 (evNextHeld s.dev (rd s.dev Reg.HI_EVW_CURSOR)) else rd s.dev Reg.HI_EVW_CURSOR) → Answers (.evwRead off words) s fun t =>
         t.out = s.dev.out ++ (List.range words).map (fun i => .read (0xB2400000 + off + 4 * i) (evWord s.dev c ((off + 4 * i) / 4 % 16))) ∧
         rd t Reg.HI_EVW_CURSOR = (if 0x080 ≤ off ∧ off + 4 * words = 0x0C0 ∧ c < rd s.dev Reg.EV_NEXT then trunc 64 (c + 1) else c) ∧
         rd t Reg.HI_EVW_STATUS_SKIPPED = (if rd s.dev Reg.HI_EVW_CURSOR < evNextHeld s.dev (rd s.dev Reg.HI_EVW_CURSOR)
           then satAdd Reg.HI_EVW_STATUS_SKIPPED.w (rd s.dev Reg.HI_EVW_STATUS_SKIPPED)
             (evNextHeld s.dev (rd s.dev Reg.HI_EVW_CURSOR) - rd s.dev Reg.HI_EVW_CURSOR)
           else rd s.dev Reg.HI_EVW_STATUS_SKIPPED) ∧
         regsBut [Reg.HI_EVW_CURSOR, Reg.HI_EVW_STATUS_SKIPPED] s.dev t))) ∧
  (∀ s : State, Running s →
     (¬ hostOpen s.dev → (∀ up v, Answers (.jwSelWrite up v) s fun t => t = s.dev) ∧ (Answers .jwNextRead s fun t => t = s.dev) ∧
       (Answers .vwValueRead s fun t => t = s.dev) ∧ ∀ up, Answers (.vwListRead up) s fun t => t = s.dev) ∧
     (hostOpen s.dev →
     (∀ v, Answers (.jwSelWrite true v) s fun t => t = { s.dev with hi := { s.dev.hi with jwHi := v % 2 ^ 32 } }) ∧
     (∀ v, Answers (.jwSelWrite false v) s fun t =>
       rd t Reg.HI_JW_SEL = trunc 64 (s.dev.hi.jwHi * 2 ^ 32 + v % 2 ^ 32) ∧ regsBut [Reg.HI_JW_SEL] s.dev t ∧ regsOnly s.dev t) ∧
     (Answers .jwNextRead s fun t =>
       t.out = s.dev.out ++ [.read Reg.HI_JW_NEXT.addr (rd s.dev Reg.HI_JW_SEL % 2 ^ 32)] ∧
       rd t Reg.HI_JW_SEL = trunc 64 (rd s.dev Reg.HI_JW_SEL + 1) ∧ regsBut [Reg.HI_JW_SEL] s.dev t) ∧
     (Answers .vwValueRead s fun t =>
       t.out = s.dev.out ++ [.read Reg.HI_VW_VALUE.addr (vwValue s.dev (rd s.dev Reg.HI_VW_ID_ID) % 2 ^ 32)] ∧
       rd t Reg.HI_VW_VALUE = trunc 64 (vwValue s.dev (rd s.dev Reg.HI_VW_ID_ID)) ∧
       flag t Reg.HI_VW_STATUS_VALID = (mget s.dev.img.vars (rd s.dev Reg.HI_VW_ID_ID)).isSome ∧
       regsBut [Reg.HI_VW_VALUE, Reg.HI_VW_STATUS_CLASS, Reg.HI_VW_STATUS_AGREE, Reg.HI_VW_STATUS_FORCED, Reg.HI_VW_STATUS_VALID] s.dev t) ∧
     (Answers (.vwListRead false) s fun t =>
       t.out = s.dev.out ++ [.read Reg.HI_VW_LIST.addr (vwValue s.dev (rd s.dev (Reg.HI_VW_LIST_ID (vwPos s.dev))) % 2 ^ 32)] ∧
       rd t Reg.HI_VW_LIST = trunc 64 (vwValue s.dev (rd s.dev (Reg.HI_VW_LIST_ID (vwPos s.dev)))) ∧ regsBut [Reg.HI_VW_LIST] s.dev t) ∧
     (Answers (.vwListRead true) s fun t =>
       t.out = s.dev.out ++ [.read (Reg.HI_VW_LIST.addr + 4) (rd s.dev Reg.HI_VW_LIST / 2 ^ 32)] ∧
       rd t Reg.HI_VW_LIST_CTL_POS = (if rd s.dev Reg.HI_VW_LIST_CTL_LEN ≤ vwPos s.dev + 1 then 0
         else trunc Reg.HI_VW_LIST_CTL_POS.w (vwPos s.dev + 1)) ∧
       regsBut [Reg.HI_VW_LIST_CTL_POS] s.dev t)))

/-- REGISTER_WRITE: a write acts on every field of the register it names as the field's access code says, or on none (R13, R16, R30, R36, R80, R124). -/
def Obligations.RegisterWritesFollowAccessCodes : Prop :=
  (∀ (s : State) (a word : Nat) (h : RegHit), Running s → a % 4 = 0 → sliceAddr a = false → sideReg .deck a = some h →
    blockOf a ∈ [2, 4, 5, 6, 8, 9, 10, 11, 14, 15] → Answers (.registerWrite .deck a word) s fun t =>
      t = plainWrite h (trunc 32 word) s.dev ∧ regsOnly s.dev t ∧
      ∀ g : Fld, (∀ f ∈ h.flds, fldKey f ≠ fldKey g) → rd t g = rd s.dev g) ∧
  (∀ (s : State) (a word : Nat) (h : RegHit), Running s → a % 4 = 0 → sliceAddr a = false → sideReg .voted a = some h → blockOf a = 9 →
    Answers (.registerWrite .voted a word) s fun t =>
      t = plainWrite h (trunc 32 word) s.dev ∧ regsOnly s.dev t ∧
      ∀ g : Fld, (∀ f ∈ h.flds, fldKey f ≠ fldKey g) → rd t g = rd s.dev g) ∧
  (∀ (s : State) (side : RegSide) (a word : Nat), Running s →
    (a % 4 ≠ 0 ∨ ((side = .deck ∨ side = .voted) ∧ sliceAddr a = true) ∨ (side = .deck ∧ blockOf a = 7) ∨
      (side = .voted ∧ blockOf a ∉ [1, 3, 9, 16]) ∨ ((side = .bar0 ∨ side = .bar2) ∧ hostServes s.dev = false)) →
    Answers (.registerWrite side a word) s fun t => t = s.dev) ∧
  ∀ (d : Dev) (f : Fld) (v i : Nat), i < f.w →
    (f.acc = .rw → bitF (fldStore f v d) f i = bitOf v i) ∧
    (f.acc = .w1c → bitF (fldStore f v d) f i = (bitF d f i && !bitOf v i)) ∧
    (f.acc = .w1s → bitF (fldStore f v d) f i = (bitF d f i || bitOf v i)) ∧
    (f.acc = .ro ∨ f.acc = .wo ∨ f.acc = .rc → fldStore f v d = d)

/-- READ_TO_CLEAR and REG64_LO_READ: what a read returns, clears and captures (R12, R13, R15, R71, R278). -/
def Obligations.ReadsCaptureAndClear : Prop :=
  (∀ (s : State) (a : Nat) (h : RegHit), Running s → a % 4 = 0 → sideReg .deck a = some h → ownRead .deck a s.dev = none →
    (Answers (.readToClear .deck a) s fun t =>
      t.out = s.dev.out ++ [.read a (readWord .deck a h s.dev)] ∧
      t = { s.dev with regs := t.regs, captured := t.captured, out := t.out } ∧
      (∀ f, h.flds = [f] → f.acc = .rc → sliceAddr a = false → rd t f = trunc f.w f.rst)) ∧
    (h.pair = true → h.high = false → Answers (.reg64LoRead .deck a) s fun t =>
      t.out = s.dev.out ++ [.read a (readWord .deck a h s.dev)] ∧
      (blockOf a ≠ 3 →
        mget t.captured (captureKey .deck (a + 4)) = some (((h.flds.map (regView s.dev)).headD 0) / 2 ^ 32 % 2 ^ 32)) ∧
      t = { s.dev with regs := t.regs, captured := t.captured, out := t.out })) ∧
  ∀ (s : State) (side : RegSide) (a : Nat), Running s →
    (a % 4 ≠ 0 ∨ (side = .deck ∧ sideReg .deck a = none ∧ ownRead .deck a s.dev = none) ∨
      ((side = .bar0 ∨ side = .bar2) ∧ hostServes s.dev = false) → Answers (.readToClear side a) s fun t => t = s.dev) ∧
    (sideReg side a = none ∨ (∃ h, sideReg side a = some h ∧ (h.pair = false ∨ h.high = true)) →
      Answers (.reg64LoRead side a) s fun t => t = s.dev)

/-- ACCESS_WIDTH_VIOLATION and DECODE_ERROR: discarded, a read returns 0, the event names address and initiator (R11, R26, R35, R36). -/
def Obligations.RefusedAccessesAreRecorded : Prop :=
  ∀ (s : State) (who : Initiator) (a width : Nat) (read : Bool), Running s →
    (blockOf a ≤ 18 → ¬ (width = 4 ∧ a % 4 = 0) → Answers (.accessWidthViolation who a width read) s fun t =>
      t = { s.dev with regs := t.regs, ev := t.ev, out := s.dev.out ++ (if read then [.read a 0] else []) } ∧ regsBut evCounts s.dev t ∧
      (intakeOpen s.dev Ev.ACCESS_WIDTH (sevOf Ev.ACCESS_WIDTH) →
        entered s.dev t Ev.ACCESS_WIDTH (sevOf Ev.ACCESS_WIDTH) (if blockOf a = 18 then 7 else blockOf a) 3
          [.q a, .w width, .w (initiatorIdx who)])) ∧
    (18 < blockOf a ∨ (width = 4 ∧ a % 4 = 0) → Answers (.accessWidthViolation who a width read) s fun t => t = s.dev) ∧
    (∀ seg cycle kind core, (∀ p, who ≠ .pier p) → accessDecodes who a width read = false →
      Answers (.decodeError who a width read seg cycle kind core) s fun t =>
        t = { s.dev with regs := t.regs, ev := t.ev, out := s.dev.out ++ (if read then [.read a 0] else []) } ∧ regsBut evCounts s.dev t ∧
        (intakeOpen s.dev Ev.DECODE_ERROR (sevOf Ev.DECODE_ERROR) →
          entered s.dev t Ev.DECODE_ERROR (sevOf Ev.DECODE_ERROR) (if blockOf a < 18 then blockOf a else 0xFF) 3
            [.q a, .w (initiatorIdx who)])) ∧
    (∀ p seg cycle kind core, who = .pier p → accessDecodes who a width read = false → inService s.dev p = true →
      (s.dev.ks.faults.any fun x => x.pier != pierIdx p && sameFault x ⟨pierIdx p, seg, cycle, kind, a⟩) = false →
      Answers (.decodeError who a width read seg cycle kind core) s fun t =>
        t.out = s.dev.out ++ (if read then [.read a 0] else []) ∧ regsBut evCounts s.dev t ∧ memSame s.dev t ∧
        t.ks = { s.dev.ks with faults := ((⟨pierIdx p, seg, cycle, kind, a⟩ :: s.dev.ks.faults) : List FaultReport).take 64 } ∧
        t.prs = (prSet p (fun u => { u with faulted := ((seg, cycle, kind, a) :: u.faulted).take 64 }) s.dev).prs ∧
        (memAligned a width = true ∨ blockOf a < 18 → intakeOpen s.dev Ev.DECODE_ERROR (sevOf Ev.DECODE_ERROR) →
          entered s.dev t Ev.DECODE_ERROR (sevOf Ev.DECODE_ERROR) (if blockOf a < 18 then blockOf a else 0xFF) 3
            [.q a, .w (initiatorIdx who)])) ∧
    (∀ seg cycle kind core, accessDecodes who a width read = true →
      Answers (.decodeError who a width read seg cycle kind core) s fun t => t = s.dev)

/-- HM_THRESHOLD_WRITE, COPY_SHARE_WRITE and TU_SETTING_WRITE: a value in range is taken, any other is refused with its flag (R68, R164, R251, R253, R259). -/
def Obligations.CheckedSettings : Prop :=
  ∀ s : State, Running s →
    (∀ (kind n word : Nat) (f g : Fld),
      ((kind = 0 ∧ n < 8 ∧ f = Reg.HM_TLIM_HYST n ∧ g = Reg.HM_TLIM_WARN n) ∨
        (kind = 1 ∧ n < 14 ∧ f = Reg.HM_VLIM_WARN_HI n ∧ g = Reg.HM_VLIM_WARN_LO n)) → Answers (.hmThresholdWrite kind n word) s fun t =>
      (([f, g].all fun f => inRange f.w f.rng (bitField word f.lo f.w)) = true →
        rd t f = bitField word f.lo f.w ∧ rd t g = bitField word g.lo g.w ∧ regsBut [f, g] s.dev t) ∧
      (([f, g].all fun f => inRange f.w f.rng (bitField word f.lo f.w)) = false →
        flag t Reg.HM_STATUS_THR_REJ = true ∧ regsBut [Reg.HM_STATUS_THR_REJ] s.dev t) ∧ regsOnly s.dev t) ∧
    (∀ n word, Answers (.hmThresholdWrite 2 n word) s fun t =>
      (inRange Reg.HM_PLIM_WARN_PCT.w Reg.HM_PLIM_WARN_PCT.rng (bitField word Reg.HM_PLIM_WARN_PCT.lo Reg.HM_PLIM_WARN_PCT.w) = true →
        rd t Reg.HM_PLIM_WARN_PCT = bitField word Reg.HM_PLIM_WARN_PCT.lo Reg.HM_PLIM_WARN_PCT.w ∧ regsBut [Reg.HM_PLIM_WARN_PCT] s.dev t) ∧
      (inRange Reg.HM_PLIM_WARN_PCT.w Reg.HM_PLIM_WARN_PCT.rng (bitField word Reg.HM_PLIM_WARN_PCT.lo Reg.HM_PLIM_WARN_PCT.w) = false →
        flag t Reg.HM_STATUS_THR_REJ = true ∧ regsBut [Reg.HM_STATUS_THR_REJ] s.dev t) ∧ regsOnly s.dev t) ∧
    (∀ kind n word, (kind = 0 ∧ 8 ≤ n) ∨ (kind = 1 ∧ 14 ≤ n) → Answers (.hmThresholdWrite kind n word) s fun t => t = s.dev) ∧
    (∀ v, 5 ≤ v → v ≤ 40 → Answers (.copyShareWrite v) s fun t =>
      rd t Reg.KS_RESYNC_CFG_COPY_SHARE = v ∧ regsBut [Reg.KS_RESYNC_CFG_COPY_SHARE] s.dev t ∧ regsOnly s.dev t) ∧
    (∀ v, v < 5 ∨ 40 < v → Answers (.copyShareWrite v) s fun t =>
      rd t Reg.KS_RESYNC_CFG_COPY_SHARE = rd s.dev Reg.KS_RESYNC_CFG_COPY_SHARE ∧ flag t Reg.KS_RESYNC_STATUS_SHARE_REJ = true ∧
      regsBut [Reg.KS_RESYNC_STATUS_SHARE_REJ] s.dev t ∧ regsOnly s.dev t) ∧
    (∀ (r : TuSetting) (f : Fld) (w v : Nat),
      ((r = .slewLimit ∧ f = Reg.TU_SLEW_LIMIT_LIMIT ∧ v = bitField w 0 7) ∨ (r = .jumpThresh ∧ f = Reg.TU_JUMP_THRESH_US ∧ v = bitField w 0 20) ∨
        ∃ p, r = .asym p ∧ f = Reg.TU_ASYM p ∧ v = w) → Answers (.tuSettingWrite r w) s fun t =>
      (inRange f.w f.rng v = true → rd t f = trunc f.w v ∧ regsBut [f] s.dev t) ∧
      (inRange f.w f.rng v = false → flag t Reg.TU_STATUS_THR_REJ = true ∧ regsBut [Reg.TU_STATUS_THR_REJ] s.dev t) ∧ regsOnly s.dev t) ∧
    (∀ (r : TuSetting) (f g : Fld) (w : Nat),
      ((r = .pdStep ∧ f = Reg.TU_PD_STEP_HOLD_N ∧ g = Reg.TU_PD_STEP_STEP_NS) ∨
        ∃ p, r = .launch p ∧ f = Reg.TU_LAUNCH_POLICY p ∧ g = Reg.TU_LAUNCH_LATE_TOL p) → Answers (.tuSettingWrite r w) s fun t =>
      rd t f = (if inRange f.w f.rng (bitField w f.lo f.w) then bitField w f.lo f.w else rd s.dev f) ∧
      rd t g = (if inRange g.w g.rng (bitField w g.lo g.w) then bitField w g.lo g.w else rd s.dev g) ∧
      (([f, g].all fun f => inRange f.w f.rng (bitField w f.lo f.w)) = false → flag t Reg.TU_STATUS_THR_REJ = true) ∧
      regsBut [f, g, Reg.TU_STATUS_THR_REJ] s.dev t ∧ regsOnly s.dev t)

/-- START_MARK, OUTBOUND_REQUEST and CYCLE_OUTPUT_PHASE: a Pier's postings of a running cycle are kept, or stall (R105, R120, R123, R125, R128, R173). -/
def Obligations.MarksRequestsAndOutputs : Prop :=
  ∀ (s : State) (p : Pier), Running s → inService s.dev p = true →
    (∀ cls cycle t0,
      (∀ r, runOf s.dev cls cycle = some r → mget r.marks (pierIdx p) = none → Answers (.startMark p cls cycle t0) s fun t =>
        ((runOf t cls cycle).bind fun x => mget x.marks (pierIdx p)) = some t0 ∧
        (cls < 16 → rd t (Reg.KS_START_SKEW_LAST cls) =
          min ((mput r.marks (pierIdx p) t0).foldl (fun m e => max m e.2) t0 - (mput r.marks (pierIdx p) t0).foldl (fun m e => min m e.2) t0)
            (2 ^ (Reg.KS_START_SKEW_LAST cls).w - 1)) ∧ memSame s.dev t) ∧
      ((runOf s.dev cls cycle = none ∨ ∃ r, runOf s.dev cls cycle = some r ∧ (mget r.marks (pierIdx p)).isSome = true) →
        Answers (.startMark p cls cycle t0) s fun t => t = s.dev)) ∧
    (∀ q,
      (reqRoom s.dev p q = false → Answers (.outboundRequest p q) s fun t =>
        t = prSet p (fun u => { u with waiting := u.waiting ++ [q] }) s.dev) ∧
      (reqRoom s.dev p q = true → (s.dev.ks.reqs.find? fun r => r.cls == q.cls && r.cycle == q.cycle && r.seq == q.seq) = none →
        Answers (.outboundRequest p q) s fun t =>
          t = { s.dev with
            prs := t.prs
            ks := { s.dev.ks with reqs := s.dev.ks.reqs ++ [⟨q.cls, q.cycle, q.seq, [(pierIdx p, q)], none, false⟩] } } ∧
          (streamOf (triGet s.dev.prs p) q.cls q.cycle = none → t.prs = s.dev.prs) ∧
          (∀ x, streamOf (triGet s.dev.prs p) q.cls q.cycle = some x → t.prs = (prSet p (streamFeed (reqFeed q) x) s.dev).prs)) ∧
      (∀ r, reqRoom s.dev p q = true → (s.dev.ks.reqs.find? fun r => r.cls == q.cls && r.cycle == q.cycle && r.seq == q.seq) = some r →
        mget r.copies (pierIdx p) = none → Answers (.outboundRequest p q) s fun t =>
          (t.ks.reqs.find? fun r => r.cls == q.cls && r.cycle == q.cycle && r.seq == q.seq) =
            some { r with copies := mput r.copies (pierIdx p) q } ∧
          rd t Reg.KS_MINORITY_COUNT_OUTBOUND = (if r.closed = true ∧ r.performed.isSome = true ∧ r.performed ≠ some q then
            satAdd Reg.KS_MINORITY_COUNT_OUTBOUND.w (rd s.dev Reg.KS_MINORITY_COUNT_OUTBOUND) 1
            else if r.closed = false ∧ r.copies.length = 2 ∧ (r.copies.map (·.2)).head? = (r.copies.map (·.2)).getLast? ∧
                (r.copies.map (·.2)).head? ≠ some q then
              satAdd Reg.KS_MINORITY_COUNT_OUTBOUND.w (rd s.dev Reg.KS_MINORITY_COUNT_OUTBOUND) 1
            else rd s.dev Reg.KS_MINORITY_COUNT_OUTBOUND))) ∧
    (∀ cls cycle runs drive legs r x, runOf s.dev cls cycle = some r → bitOf r.ended (pierIdx p) = false → r.released = false →
      modeOf s.dev ≠ mSAFE → streamOf (triGet s.dev.prs p) cls cycle = some x → x.todo = [] →
      workRuns (rd s.dev (Reg.CYC_CLS_CFG_CORES cls)) cls cycle (triGet s.dev.prs p) = true → classSegs s.dev cls = [] →
      (classOuts s.dev p cls cycle drive legs = [] → Answers (.cycleOutputPhase p cls cycle runs drive legs) s fun t =>
        ((runOf t cls cycle).map fun x => bitOf x.ended (pierIdx p)) = some true ∧ memSame s.dev t ∧
        closedOf (triGet t.prs p) cls cycle x.part = (match closedOf (triGet s.dev.prs p) cls cycle x.part with
          | some w => some w
          | none => some ⟨cls, cycle, x.part, sigWord x.crc (endWord x.words), x.reqs, true, false⟩)) ∧
      (∀ u target attr l, classOuts s.dev p cls cycle drive legs = [.req u target attr l] →
        (reqRoom s.dev p ⟨cycle, cls, u, x.reqs, target, attr, l⟩ = true →
          (s.dev.ks.reqs.find? fun r => r.cls == cls && r.cycle == cycle && r.seq == x.reqs) = none →
          Answers (.cycleOutputPhase p cls cycle runs drive legs) s fun t =>
            t.ks.reqs = s.dev.ks.reqs ++ [⟨cls, cycle, x.reqs, [(pierIdx p, ⟨cycle, cls, u, x.reqs, target, attr, l⟩)], none, false⟩] ∧
            ((runOf t cls cycle).map fun x => bitOf x.ended (pierIdx p)) = some true ∧ memSame s.dev t) ∧
        (reqRoom s.dev p ⟨cycle, cls, u, x.reqs, target, attr, l⟩ = false →
          Answers (.cycleOutputPhase p cls cycle runs drive legs) s fun t =>
            t = prSet p (streamPut { x with todo := [.req u target attr l, .done] }) s.dev)))

/-- MAILBOX_CONTRIBUTION, MAILBOX_WAIT_EXPIRY and MAILBOX_DEADLINE: postings are kept or late, a slot closes once (R106, R107, R110, R111, R112, R117, R155). -/
def Obligations.MailboxSlotsTakeAndClose : Prop :=
  ∀ s : State, Running s → noWindows s.dev → slotsWait s.dev → s.dev.ks.slots.length ≤ 16 →
    (∀ p cls c crcOk, inService s.dev p = true → modeOf s.dev ≠ mSAFE → mget s.dev.ks.slots cls = none →
      (∀ r, (cls, c.cycle) ∉ s.dev.ks.closedSlots → runOf s.dev cls c.cycle = some r → bitOf (mbExpect s.dev cls c.cycle) (pierIdx p) = true →
        2 ≤ mbCount (mbExpect s.dev cls c.cycle) → Answers (.mailboxContribution p cls c crcOk) s fun t =>
          ((mget t.ks.slots cls).map fun x => (x.cycle, x.second, mget x.posts (pierIdx p))) =
            some (c.cycle, false, some (contribution s.dev p cls c)) ∧ t.regs = s.dev.regs ∧ memSame s.dev t) ∧
      ((cls, c.cycle) ∈ s.dev.ks.closedSlots → Answers (.mailboxContribution p cls c crcOk) s fun t =>
        rd t Reg.KS_MINORITY_COUNT_MAILBOX_LATE =
          satAdd Reg.KS_MINORITY_COUNT_MAILBOX_LATE.w (rd s.dev Reg.KS_MINORITY_COUNT_MAILBOX_LATE) 1 ∧
        regsBut ([Reg.KS_MINORITY_COUNT_MAILBOX_LATE] ++ evCounts) s.dev t ∧ t.ks = s.dev.ks ∧ reportsOnly s.dev t)) ∧
    (∀ cls x, mget s.dev.ks.slots cls = some x → x.timer = true →
      (Answers (.mailboxWaitExpiry cls true) s fun t => (cls, x.cycle) ∈ t.ks.closedSlots) ∧
      (Answers (.mailboxWaitExpiry cls false) s fun t =>
        flag t Reg.KS_STATUS_FROZEN = true ∧ (mget t.ks.slots cls) = some { x with held := true } ∧ memSame s.dev t)) ∧
    (∀ cls crcOk, (mget s.dev.ks.slots cls = none ∨ ∃ x, mget s.dev.ks.slots cls = some x ∧ x.timer = false) →
      Answers (.mailboxWaitExpiry cls crcOk) s fun t => t = s.dev) ∧
    (∀ cls cycle,
      (safeOpen s.dev → ((∃ x, mget s.dev.ks.slots cls = some x ∧ x.cycle = cycle ∧ x.posts.length < 2 ∧ x.second = false ∧ x.majority = none) ∨
          (mget s.dev.ks.slots cls = none ∧ (runOf s.dev cls cycle).isSome = true ∧ (cls, cycle) ∉ s.dev.ks.closedSlots)) →
        Answers (.mailboxDeadline cls cycle) s fun t =>
          (cls, cycle) ∈ t.ks.closedSlots ∧ enteredSafe t scNO_MAJORITY (rd s.dev Reg.KS_STATUS_IN_SERVICE)) ∧
      (((∃ x, mget s.dev.ks.slots cls = some x ∧ (x.cycle ≠ cycle ∨ 2 ≤ x.posts.length ∨ x.majority.isSome = true)) ∨
          (mget s.dev.ks.slots cls = none ∧ ((runOf s.dev cls cycle).isSome = false ∨ (cls, cycle) ∈ s.dev.ks.closedSlots))) →
        Answers (.mailboxDeadline cls cycle) s fun t => t = s.dev))

/-- SIGNATURE_POSTED opens a window, stalls or is late; SKEW_TIMER_EXPIRY names the missing Pier, or finds no majority (R127, R128, R129, R130, R131, R132, R134, R136). -/
def Obligations.WindowsAreJudged : Prop :=
  ∀ s : State, Running s → flag s.dev Reg.KS_STATUS_FROZEN = false → servicePiers s.dev = allPiers → s.dev.ks.unexpected = [] →
    (∀ p cls cycle part flip t0 upto final agree, nothingHeld s.dev → s.dev.ks.missed = [] →
      Answers (.signaturePosted p cls cycle part flip t0 upto final agree) s fun t =>
        (∃ w ∈ t.ks.windows, w.cls = cls ∧ w.cycle = cycle ∧ w.part = part ∧ w.resolved = false ∧
          mget w.sigs (pierIdx p) = some ((match closedOf (triGet s.dev.prs p) cls cycle part with
            | none => flip
            | some x => x.sig ^^^ flip), t0)) ∧
        flag t Reg.KS_STATUS_FROZEN = !agree ∧ memSame s.dev t) ∧
    (∀ w a b, safeOpen s.dev → s.dev.ks.windows = [w] → s.dev.ks.releasing = [] → s.dev.ks.reqs = [] → s.dev.ks.slots = [] → piersIdle s.dev →
      w.resolved = false → w.expiry.isSome = true → w.final = false → winArrivals s.dev w = [a, b] → a.1 < 3 → b.1 < 3 → a.1 ≠ b.1 →
      (a.2.1 = b.2.1 → Answers (.skewTimerExpiry w.cls w.cycle w.part) s fun t =>
        rd t Reg.KS_VERDICT_LAST_KIND = 2 ∧ rd t Reg.KS_VERDICT_LAST_ODD = 3 - a.1 - b.1 ∧ isolated t (pierOf (3 - a.1 - b.1)) = true ∧
        inService t (pierOf (3 - a.1 - b.1)) = false) ∧
      (a.2.1 ≠ b.2.1 → Answers (.skewTimerExpiry w.cls w.cycle w.part) s fun t =>
        enteredSafe t scNO_MAJORITY (rd s.dev Reg.KS_STATUS_IN_SERVICE))) ∧
    (∀ cls cycle part, s.dev.ks.releasing = [] → s.dev.ks.slots = [] → piersIdle s.dev → s.dev.ks.windows = [] →
      Answers (.skewTimerExpiry cls cycle part) s fun t => t = s.dev)

/-- RELEASE_TOKEN and RELEASE_TOKEN_TIMEOUT: one token waits, two equal ones release, two that differ or a lone one freeze the releases (R142, R155, R177). -/
def Obligations.TokensRelease : Prop :=
  ∀ (s : State) (q : OutReq) (part : Nat) (r : List RelItem), Running s → flag s.dev Reg.KS_STATUS_FROZEN = false → s.dev.ks.windows = [] →
    s.dev.ks.slots = [] → piersIdle s.dev →
    (∀ second err, s.dev.ks.releasing = .req q part none none :: r → Answers (.releaseToken second q.cls q.cycle q.seq err) s fun t =>
      t.ks.releasing = (if second then .req q part none (some ((tokenOf q part).1, (tokenOf q part).2 ^^^ err))
        else .req q part (some ((tokenOf q part).1, (tokenOf q part).2 ^^^ err)) none) :: r ∧ t.regs = s.dev.regs ∧ memSame s.dev t) ∧
    (s.dev.ks.releasing = [.req q part (some (tokenOf q part)) none] → q.unit = 7 → imageBase ≤ q.target →
      q.target + q.payload.length ≤ imageBase + 0x800000 → Answers (.releaseToken true q.cls q.cycle q.seq 0) s fun t =>
        t.ks.releasing = [] ∧ mget t.cyc.staged q.cls = some (mgetD s.dev.cyc.staged q.cls [] ++ [(q.target, q.payload)]) ∧
        t.regs = s.dev.regs ∧ memSame s.dev t) ∧
    (∀ a err, s.dev.ks.releasing = .req q part (some a) none :: r → a ≠ ((tokenOf q part).1, (tokenOf q part).2 ^^^ err) →
      Answers (.releaseToken true q.cls q.cycle q.seq err) s fun t =>
        t.ks.releasing = .req q part (some a) (some ((tokenOf q part).1, (tokenOf q part).2 ^^^ err)) :: r ∧
        flag t Reg.KS_STATUS_FROZEN = true ∧
        rd t Reg.KS_HALF_DISAGREE_COUNT = satAdd Reg.KS_HALF_DISAGREE_COUNT.w (rd s.dev Reg.KS_HALF_DISAGREE_COUNT) 1 ∧ memSame s.dev t) ∧
    (∀ a, s.dev.ks.releasing = .req q part (some a) none :: r → Answers (.releaseTokenTimeout q.cls q.cycle q.seq) s fun t =>
      flag t Reg.KS_STATUS_FROZEN = true ∧ flag t (Reg.KS_HALF_SELFTEST_RUN 0) = true ∧ flag t (Reg.KS_HALF_SELFTEST_RUN 1) = true ∧
      rd t Reg.KS_HALF_DISAGREE_COUNT = satAdd Reg.KS_HALF_DISAGREE_COUNT.w (rd s.dev Reg.KS_HALF_DISAGREE_COUNT) 1 ∧
      t.ks = s.dev.ks ∧ reportsOnly s.dev t ∧
      regsBut ([Reg.KS_STATUS_FROZEN, Reg.KS_HALF_SELFTEST_RUN 0, Reg.KS_HALF_SELFTEST_RUN 1, Reg.KS_HALF_DISAGREE_COUNT] ++ evCounts) s.dev t) ∧
    (∀ cls cycle seq, tokenAlone s.dev cls cycle seq = false → Answers (.releaseTokenTimeout cls cycle seq) s fun t => t = s.dev)

/-- Faults of a Pier and tests of a Keystone half: isolation, a broken half, SAFE (R26, R103, R136, R137, R144, R155, R156, R157, R158). -/
def Obligations.PierAndHalfFaults : Prop :=
  (∀ (s : State) (p : Pier), Running s → safeOpen s.dev →
     (inService s.dev p = true → nothingHeld s.dev → 3 ≤ (servicePiers s.dev).length → Answers (.pierLocalError p) s fun t =>
       rd t Reg.KS_VERDICT_LAST_KIND = 4 ∧ rd t Reg.KS_VERDICT_LAST_ODD = pierIdx p ∧ isolated t p = true ∧ inService t p = false) ∧
     (inService s.dev p = true → nothingHeld s.dev → (servicePiers s.dev).length = 2 → Answers (.pierLocalError p) s fun t =>
       rd t Reg.KS_VERDICT_LAST_KIND = 4 ∧ inService t p = false ∧
       enteredSafe t scNO_MAJORITY (trunc 3 (bitClr (rd s.dev Reg.KS_STATUS_IN_SERVICE) (pierIdx p)))) ∧
     (inService s.dev p = false → nothingHeld s.dev → Answers (.pierLocalError p) s fun t => t = s.dev) ∧
     (∀ seg cycle kind addr core trap,
       (inService s.dev p = false → Answers (.syncFault p seg cycle kind addr core trap) s fun t => t = s.dev) ∧
       (inService s.dev p = true →
         ((s.dev.ks.faults.any fun x => x.pier != pierIdx p && sameFault x ⟨pierIdx p, seg, cycle, kind, addr⟩) = false →
           (Answers (.syncFault p seg cycle kind addr core false) s fun t => t.regs = s.dev.regs) ∧
           Answers (.syncFault p seg cycle kind addr core trap) s fun t =>
             t.ks = { s.dev.ks with faults := ((⟨pierIdx p, seg, cycle, kind, addr⟩ :: s.dev.ks.faults) : List FaultReport).take 64 } ∧
             t.prs = (prSet p (fun u => { u with faulted := ((seg, cycle, kind, addr) :: u.faulted).take 64 }) s.dev).prs ∧
             regsBut evCounts s.dev t ∧ memSame s.dev t ∧
             (trap = true → intakeOpen s.dev Ev.DETERMINISM_TRAP (sevOf Ev.DETERMINISM_TRAP) →
               entered s.dev t Ev.DETERMINISM_TRAP (sevOf Ev.DETERMINISM_TRAP) (srcOf Ev.DETERMINISM_TRAP) (pierIdx p)
                 [.w seg, .w core, .q cycle, .q addr])) ∧
         ((s.dev.ks.faults.any fun x => x.pier != pierIdx p && sameFault x ⟨pierIdx p, seg, cycle, kind, addr⟩) = true →
           Answers (.syncFault p seg cycle kind addr core trap) s fun t => enteredSafe t scPROGRAM_FAULT seg)))) ∧
  (∀ s : State, Running s → safeOpen s.dev → nothingHeld s.dev →
     (∀ h p, h < 2 → (hourStamps s.dev (3 + h)).length < 2 → Answers (.ksStageParity h p false) s fun t =>
       rd t (Reg.KS_HALF_PARITY h) = satAdd (Reg.KS_HALF_PARITY h).w (rd s.dev (Reg.KS_HALF_PARITY h)) 1 ∧ modeOf t = modeOf s.dev) ∧
     (∀ h p, h < 2 → Answers (.ksStageParity h p true) s fun t =>
       flag t (Reg.KS_HALF_BROKEN h) = true ∧ enteredSafe t scKS_HALF (2 ^ h)) ∧
     (∀ dur, flag s.dev Reg.KS_STATUS_FROZEN = true → (hourStamps s.dev 3).length < 2 → (hourStamps s.dev 4).length < 2 →
       (Answers (.ksSelftestDone true true dur true) s fun t =>
         flag t Reg.KS_STATUS_FROZEN = false ∧ flag t (Reg.KS_HALF_SELFTEST_PASS 0) = true ∧ flag t (Reg.KS_HALF_SELFTEST_PASS 1) = true ∧
         flag t (Reg.KS_HALF_SELFTEST_RUN 0) = false ∧ flag t (Reg.KS_HALF_SELFTEST_RUN 1) = false ∧ modeOf t = modeOf s.dev) ∧
       Answers (.ksSelftestDone true true dur false) s fun t =>
         flag t (Reg.KS_HALF_BROKEN 0) = true ∧ flag t (Reg.KS_HALF_BROKEN 1) = true ∧ enteredSafe t scKS_HALF 3) ∧
     (∀ p1 p2 dur agree, flag s.dev Reg.KS_STATUS_FROZEN = false → Answers (.ksSelftestDone p1 p2 dur agree) s fun t => t = s.dev) ∧
     (∀ p1 p2 dur agree, flag s.dev Reg.KS_STATUS_FROZEN = true → (p1 && p2) = false → Answers (.ksSelftestDone p1 p2 dur agree) s fun t =>
       enteredSafe t scKS_HALF (b2n (!p1) + 2 * b2n (!p2))) ∧
     (Answers (.ksOnlineTest none none) s fun t =>
       flag t (Reg.KS_HALF_ONLINE_OK 0) = true ∧ flag t (Reg.KS_HALF_ONLINE_OK 1) = true ∧
       rd t Reg.KS_ONLINE_COUNT = trunc Reg.KS_ONLINE_COUNT.w (rd s.dev Reg.KS_ONLINE_COUNT + 1) ∧ regsOnly s.dev t ∧
       regsBut [Reg.KS_HALF_ONLINE_OK 0, Reg.KS_HALF_ONLINE_OK 1, Reg.KS_ONLINE_COUNT] s.dev t) ∧
     (∀ f1 f2, f1 ≠ none ∨ f2 ≠ none → Answers (.ksOnlineTest f1 f2) s fun t =>
       enteredSafe t scKS_HALF (b2n f1.isSome + 2 * b2n f2.isSome)))

/-- The phases of a resynchronisation, and what a mismatch and a self-test do to a lockstep pair (R145, R146, R148, R149, R150, R151, R153, R159, R160, R161, R162). -/
def Obligations.ResyncAndPairs : Prop :=
  (∀ (s : State) (p : Pier), Running s → s.dev.ks.odd = some (pierIdx p) →
     (resyncPh s.dev ≤ 2 → (resyncDonor s.dev).isSome = true →
       (flag s.dev Reg.KS_CFG_RESYNC_EN = true → bitOf s.dev.ks.outOfService (pierIdx p) = false →
         (modeOf s.dev = mRUN ∨ modeOf s.dev = mSTOP ∨ modeOf s.dev = mHOLD) →
         Answers .resyncStart s fun t => resyncPh t = if pierHealth s.dev p then 2 else 3) ∧
       (flag s.dev Reg.KS_CFG_RESYNC_EN = false ∨ bitOf s.dev.ks.outOfService (pierIdx p) = true ∨
         ¬(modeOf s.dev = mRUN ∨ modeOf s.dev = mSTOP ∨ modeOf s.dev = mHOLD) → Answers .resyncStart s fun t => t.regs = s.dev.regs)) ∧
     (resyncPh s.dev = 2 ∧ pierHealth s.dev p = true → Answers .resyncHealthWaitExpiry s fun t =>
       resyncPh t = 0 ∧ rd t Reg.KS_RESYNC_STATUS_RESULT = 8 ∧ inService t p = false ∧ isolated t p = true ∧ t.ks.odd = none) ∧
     (¬(resyncPh s.dev = 2 ∧ pierHealth s.dev p = true) → Answers .resyncHealthWaitExpiry s fun t => t = s.dev) ∧
     (∀ dropped, resyncPh s.dev = 3 → (Answers (.resyncSelftestDone none dropped) s fun t => resyncPh t = 4) ∧
       ∀ block, Answers (.resyncSelftestDone (some block) dropped) s fun t =>
         resyncPh t = 0 ∧ rd t Reg.KS_RESYNC_STATUS_RESULT = 2 ∧ inService t p = false ∧ isolated t p = true ∧ t.ks.odd = none) ∧
     (∀ f dropped, resyncPh s.dev ≠ 3 → Answers (.resyncSelftestDone f dropped) s fun t => t = s.dev) ∧
     (∀ upset ecc, (resyncPh s.dev = 4 → Answers (.resyncCodeCheckDone upset ecc) s fun t =>
         resyncPh t = 5 ∧ rd t Reg.KS_RESYNC_STATUS_PASS = 1 ∧ t.ks.passLeft = s.dev.img.stateBytes + 1048576 * t.ks.copyList.length ∧
         (∀ b, b < ceilDiv s.dev.img.codeBytes 1048576 → (b ∈ upset ∨ b ∈ ecc) → b ∈ t.ks.copyList) ∧ memSame s.dev t) ∧
       (resyncPh s.dev ≠ 4 → Answers (.resyncCodeCheckDone upset ecc) s fun t => t = s.dev)) ∧
     (∀ slack written, resyncPh s.dev = 5 → Answers (.resyncCopyTick slack written false) s fun t =>
       t.ks.copied = s.dev.ks.copied + min s.dev.ks.passLeft ((if modeOf s.dev = mSTOP ∨ modeOf s.dev = mHOLD then 125000 else min slack 125000) *
         rd s.dev Reg.KS_RESYNC_CFG_COPY_SHARE / 100 * 4) ∧
       rd t Reg.KS_RESYNC_COPIED = trunc Reg.KS_RESYNC_COPIED.w (t.ks.copied / 1024) ∧ regsBut [Reg.KS_RESYNC_COPIED] s.dev t) ∧
     (∀ slack written, 3 ≤ resyncPh s.dev → resyncPh s.dev ≤ 7 → Answers (.resyncCopyTick slack written true) s fun t =>
       if s.dev.ks.aborts < 2 then resyncPh t = 9 ∧ rd t Reg.KS_RESYNC_STATUS_RESULT = 6 ∧ t.ks.odd = some (pierIdx p)
       else resyncPh t = 0 ∧ rd t Reg.KS_RESYNC_STATUS_RESULT = 7 ∧ inService t p = false) ∧
     (∀ slack written ecc, resyncPh s.dev ≠ 5 → (ecc = false ∨ resyncPh s.dev < 3 ∨ 7 < resyncPh s.dev) →
       Answers (.resyncCopyTick slack written ecc) s fun t => t = s.dev) ∧
     (∀ written, resyncPh s.dev = 5 → s.dev.ks.passLeft = 0 → donorNow s.dev ≠ p →
       (s.dev.ks.badPasses < 2 ∨ 2 * donorDirty s.dev written ≤ ceilDiv s.dev.ks.passBytes 4096 → Answers (.resyncPassEnd written) s fun t =>
         t.ks.pages = donorDirty s.dev written ∧ memSame s.dev t ∧
         (if donorDirty s.dev written ≤ rd s.dev Reg.KS_RESYNC_CFG_FINAL_PAGES then resyncPh t = 6
           else resyncPh t = 5 ∧ t.ks.passLeft = 4096 * donorDirty s.dev written ∧
             rd t Reg.KS_RESYNC_STATUS_PASS = satAdd Reg.KS_RESYNC_STATUS_PASS.w (rd s.dev Reg.KS_RESYNC_STATUS_PASS) 1)) ∧
       (2 ≤ s.dev.ks.badPasses → ceilDiv s.dev.ks.passBytes 4096 < 2 * donorDirty s.dev written → Answers (.resyncPassEnd written) s fun t =>
         if s.dev.ks.aborts < 2 then resyncPh t = 9 ∧ rd t Reg.KS_RESYNC_STATUS_RESULT = 3 ∧ t.ks.odd = some (pierIdx p)
         else resyncPh t = 0 ∧ rd t Reg.KS_RESYNC_STATUS_RESULT = 7 ∧ inService t p = false)) ∧
     (∀ written, resyncPh s.dev ≠ 5 ∨ s.dev.ks.passLeft ≠ 0 → Answers (.resyncPassEnd written) s fun t => t = s.dev) ∧
     (resyncPh s.dev = 6 → Answers .resyncFinalWaitExpiry s fun t =>
       resyncPh t = 5 ∧ rd t Reg.KS_RESYNC_STATUS_PASS = satAdd Reg.KS_RESYNC_STATUS_PASS.w (rd s.dev Reg.KS_RESYNC_STATUS_PASS) 1) ∧
     (resyncPh s.dev ≠ 6 → Answers .resyncFinalWaitExpiry s fun t => t = s.dev) ∧
     (1 ≤ resyncPh s.dev ∧ resyncPh s.dev ≤ 7 ∧ s.dev.ks.attemptAt + rd s.dev Reg.KS_RESYNC_CFG_LIMIT_S * second ≤ s.dev.clk →
       Answers .resyncTimeLimit s fun t =>
         if s.dev.ks.aborts < 2 then resyncPh t = 9 ∧ rd t Reg.KS_RESYNC_STATUS_RESULT = 4 ∧ t.ks.odd = some (pierIdx p)
         else resyncPh t = 0 ∧ rd t Reg.KS_RESYNC_STATUS_RESULT = 7 ∧ inService t p = false) ∧
     (¬(1 ≤ resyncPh s.dev ∧ resyncPh s.dev ≤ 7 ∧ s.dev.ks.attemptAt + rd s.dev Reg.KS_RESYNC_CFG_LIMIT_S * second ≤ s.dev.clk) →
       Answers .resyncTimeLimit s fun t => t = s.dev) ∧
     (resyncPh s.dev = 9 → flag s.dev Reg.KS_CFG_RESYNC_EN = true → bitOf s.dev.ks.outOfService (pierIdx p) = false →
       (modeOf s.dev = mRUN ∨ modeOf s.dev = mSTOP ∨ modeOf s.dev = mHOLD) → (resyncDonor s.dev).isSome = true →
       Answers .resyncRetryWaitExpiry s fun t => resyncPh t = if pierHealth s.dev p then 2 else 3) ∧
     (resyncPh s.dev ≠ 9 → Answers .resyncRetryWaitExpiry s fun t => t = s.dev) ∧
     (∀ idle gap written, resyncPh s.dev = 6 →
       (idle = true ∧ donorDirty s.dev written * 4096 / 4 + 25000 ≤ gap ∧ s.dev.chg.state ≠ 3 → Answers (.resyncFinal idle gap written) s fun t =>
         inService t p = true ∧ isolated t p = false ∧ resyncPh t = 8) ∧
       (¬(idle = true ∧ donorDirty s.dev written * 4096 / 4 + 25000 ≤ gap ∧ s.dev.chg.state ≠ 3) →
         Answers (.resyncFinal idle gap written) s fun t => t.regs = s.dev.regs ∧ t.ks = s.dev.ks)) ∧
     (∀ idle gap written, resyncPh s.dev ≠ 6 → Answers (.resyncFinal idle gap written) s fun t => t = s.dev)) ∧
  (∀ (s : State) (u : Nat), Running s → 1 ≤ u → u ≤ 6 →
     (pairState s.dev u = 0 → Answers (.pairMismatch u) s fun t =>
       pairState t u = 3 ∧ rd t (Reg.KS_PAIR_MISMATCHES u) = satAdd (Reg.KS_PAIR_MISMATCHES u).w (rd s.dev (Reg.KS_PAIR_MISMATCHES u)) 1 ∧
       memSame s.dev t) ∧
     (pairState s.dev u ≠ 0 → Answers (.pairMismatch u) s fun t => t = s.dev) ∧
     (∀ a b, pairState s.dev u ≠ 3 → Answers (.pairSelftestDone u a b) s fun t => t = s.dev) ∧
     (pairState s.dev u = 3 →
       ((hourStamps s.dev (4 + u)).length < 2 → Answers (.pairSelftestDone u true true) s fun t =>
         pairState t u = 0 ∧ rd t (Reg.KS_PAIR_TRANSIENTS u) = satAdd (Reg.KS_PAIR_TRANSIENTS u).w (rd s.dev (Reg.KS_PAIR_TRANSIENTS u)) 1 ∧
         modeOf t = modeOf s.dev) ∧
       (2 ≤ (hourStamps s.dev (4 + u)).length → s.dev.hm.powerFail = false → safeOpen s.dev → Answers (.pairSelftestDone u true true) s fun t =>
         pairState t u = 0 ∧ enteredSafe t scTRANSIENTS u) ∧
       (Answers (.pairSelftestDone u true false) s fun t => pairState t u = 1) ∧
       (Answers (.pairSelftestDone u false true) s fun t => pairState t u = 2) ∧
       (safeOpen s.dev → Answers (.pairSelftestDone u false false) s fun t => pairState t u = 4 ∧ enteredSafe t scPAIR_FAIL u)))

/-- TICK raises the tick number and brings the clock to its boundary; HOUSEKEEPING_BOUNDARY replaces it without valid time (R165, R166). -/
def Obligations.TicksAndHousekeeping : Prop :=
  ∀ s : State, Running s →
    (schedValid s.dev = true → Answers .tick s fun t =>
      t.clk = s.dev.clk + clockFor (max (schedTime s.dev) ((rd s.dev Reg.CYC_TICK + 1) * 125000) - schedTime s.dev) s.dev ∧
      rd t Reg.TU_SCHED = trunc 64 (max (schedTime s.dev) ((rd s.dev Reg.CYC_TICK + 1) * 125000)) ∧
      rd t Reg.CYC_TICK = trunc 64 (rd s.dev Reg.CYC_TICK + 1)) ∧
    (schedValid s.dev = false → 8 ≤ rd s.dev Reg.MCTL_BOOT_STEP → Answers .housekeepingBoundary s fun t =>
      t.clk = s.dev.clk + 125000 ∧ t.cyc.hk = s.dev.cyc.hk + 1)

/-- MODE_CHANGE enters the mode of the trigger that is first; AUTORUN_START enters RUN where its conditions hold (R90, R91, R94). -/
def Obligations.ModesChangeAtBoundaries : Prop :=
  ∀ s : State, Running s →
    (s.dev.mode.leaseLost = true → (modeOf s.dev = mRUN ∨ modeOf s.dev = mSTOP ∨ modeOf s.dev = mHOLD) → Answers .modeChange s fun t =>
      modeOf t = mSTANDBY ∧ rd t Reg.MCTL_MODE_PREV = modeOf s.dev ∧
      rd t Reg.MCTL_MODE_MODE_SEQ = trunc 16 (rd s.dev Reg.MCTL_MODE_MODE_SEQ + 1)) ∧
    (s.dev.mode.leaseLost = false → s.dev.mode.permitLost = true → modeOf s.dev = mHOLD → flag s.dev Reg.MCTL_PINS_SVC_PERMIT = false →
      Answers .modeChange s fun t =>
        modeOf t = mSTOP ∧ rd t Reg.MCTL_MODE_PREV = mHOLD ∧ rd t Reg.MCTL_MODE_MODE_SEQ = trunc 16 (rd s.dev Reg.MCTL_MODE_MODE_SEQ + 1)) ∧
    (∀ c m, boundaryTrigger s.dev = none → s.dev.mode.reqs = [c.seq] → cmdOf s.dev c.seq = some c → c.desc.op = 1 →
      ((argB c.desc 0 = 0 ∧ m = mSTOP ∧ (modeOf s.dev = mRUN ∨ modeOf s.dev = mHOLD)) ∨
        (argB c.desc 0 = 2 ∧ bitOf (argB c.desc 3) 0 = false ∧ m = mHOLD ∧ modeOf s.dev = mSTOP ∧ holdAllowed s.dev = true) ∨
        (argB c.desc 0 = 4 ∧ m = mSERVICE ∧ modeOf s.dev = mSTOP ∧ flag s.dev Reg.MCTL_PINS_SVC_PERMIT = true)) →
      Answers .modeChange s fun t =>
        modeOf t = m ∧ rd t Reg.MCTL_MODE_PREV = modeOf s.dev ∧
        rd t Reg.MCTL_MODE_MODE_SEQ = trunc 16 (rd s.dev Reg.MCTL_MODE_MODE_SEQ + 1)) ∧
    (s.dev.mode.autorun = true → modeOf s.dev = mSTOP → s.dev.mode.leaseLost = false → s.dev.mode.reqs = [] → runAllowed s.dev = true →
      Answers .autorunStart s fun t =>
      modeOf t = mRUN ∧ rd t Reg.MCTL_MODE_PREV = mSTOP ∧ rd t Reg.MCTL_MODE_MODE_SEQ = trunc 16 (rd s.dev Reg.MCTL_MODE_MODE_SEQ + 1))

/-- SNAPSHOT_TIMER writes the buffer the host does not read; WATCHDOG_DEADLINE finds a late cycle or enters SAFE (R40, R179, R191, R195). -/
def Obligations.SnapshotsAndWatchdog : Prop :=
  ∀ s : State, Running s →
    (flag s.dev Reg.CYC_CFG_SNAP_EN = true →
      (modeOf s.dev = mSTOP ∨ modeOf s.dev = mHOLD) → (cycState s.dev ≠ 3 ∨ s.dev.cyc.snapSince + 100 * msec ≤ s.dev.clk) →
      Answers .snapshotTimer s fun t =>
        t.cyc.snapBuf = 1 - s.dev.cyc.snapBuf ∧ snapShown t = imageCells s.dev ∧ t.mem = s.dev.mem ∧
        rd t Reg.HI_SNAP_SEQ = trunc Reg.HI_SNAP_SEQ.w (rd s.dev Reg.HI_SNAP_SEQ + 1) ∧ regsBut [Reg.HI_SNAP_SEQ] s.dev t) ∧
    (flag s.dev Reg.CYC_CFG_SNAP_EN = false ∨ (modeOf s.dev ≠ mSTOP ∧ modeOf s.dev ≠ mHOLD) → Answers .snapshotTimer s fun t => t = s.dev) ∧
    (∀ cls cycle other, safeOpen s.dev → ((runOf s.dev cls cycle).isSome = true ∨ (finalWindow s.dev cls cycle).isSome = true) →
      (∀ w, finalWindow s.dev cls cycle = some w → w.judged = false ∧
        ((watchArrivals s.dev w).filter fun x => decide (x.2.2 ≤ deadlineOf s.dev cls cycle + skewUnits s.dev)).length < 2) →
      Answers (.watchdogDeadline cls cycle other) s fun t => enteredSafe t scWATCHDOG cls) ∧
    (∀ cls cycle other w a b l, cls < 16 → modeOf s.dev ≠ mSAFE → finalWindow s.dev cls cycle = some w → w.judged = false →
      ((watchArrivals s.dev w).filter fun x => decide (x.2.2 ≤ deadlineOf s.dev cls cycle + skewUnits s.dev)) = a :: b :: l →
      Answers (.watchdogDeadline cls cycle other) s fun t =>
        rd t (Reg.CYC_CLS_OVR_LATE cls) =
          (if deadlineOf s.dev cls cycle < b.2.2 then satAdd (Reg.CYC_CLS_OVR_LATE cls).w (rd s.dev (Reg.CYC_CLS_OVR_LATE cls)) 1
          else rd s.dev (Reg.CYC_CLS_OVR_LATE cls)) ∧
        modeOf t = modeOf s.dev ∧ memSame s.dev t)

/-- CHANGE_SET_LOAD to CARRYOVER_DONE: a change set is staged, stored, confirmed by each Pier, and its state carried over (R201, R202, R205, R206, R207, R210). -/
def Obligations.ChangeSetStages : Prop :=
  ∀ s : State, Running s →
    (∀ c again, turnOf s.dev c → isOp 4 0 c.desc = true →
      match loadContent s.dev c.seq again with
      | none => Answers (.changeSetLoad c.seq again) s fun t => t = s.dev
      | some cs => Answers (.changeSetLoad c.seq again) s fun t =>
        t.chg.state = 1 ∧ t.chg.cs = some cs ∧ t.chg.cmd = c.seq ∧ t.chg.lead = leadOf c.desc ∧ t.chg.reverting = false ∧
        t.chg.fetched = false ∧ t.chg.ready = 0 ∧ cmdOf t c.seq = some { c with phase := .waiting } ∧
        t = { s.dev with hi := { s.dev.hi with cmds := t.hi.cmds }, chg := t.chg }) ∧
    (∀ c cs, s.dev.chg.state = 1 → s.dev.chg.fetched = false → s.dev.chg.cs = some cs → cmdOf s.dev s.dev.chg.cmd = some c →
      c.payload.length = c.desc.payLen →
      (Answers (.changePayloadFetched true) s fun t =>
        t.chg.fetched = true ∧ t.chg.state = 1 ∧ t.chg.cs = some cs ∧ .change 0 s.dev.chg.cmd false false cs ∈ t.store.log ∧
        t.regs = s.dev.regs ∧ t.img = s.dev.img) ∧
      (c.again = false → s.dev.hm.powerFail = false → Answers (.changePayloadFetched false) s fun t =>
        t.chg.state = 0 ∧ t.chg.cs = none ∧ t.img = s.dev.img ∧ ∃ r, finalAt t (jHead s.dev) c St.CHANGE_HASH r)) ∧
    (s.dev.chg.state ≠ 1 ∨ s.dev.chg.fetched = true → ∀ good, Answers (.changePayloadFetched good) s fun t => t = s.dev) ∧
    (∀ p result, if s.dev.chg.state = 1 ∧ s.dev.chg.fetched = true ∧ inService s.dev p = true then
        if result = 0 then Answers (.changeStaged p result) s fun t =>
          t.chg = { s.dev.chg with
            ready := bitSet s.dev.chg.ready (pierIdx p)
            state := if ((servicePiers s.dev).all fun q => bitOf (bitSet s.dev.chg.ready (pierIdx p)) (pierIdx q)) = true then 2 else 1 } ∧
          t = { s.dev with chg := t.chg, prs := t.prs } ∧ ∀ q, q ≠ p → triGet t.prs q = triGet s.dev.prs q
        else Answers (.changeStaged p result) s fun t =>
          t = { s.dev with chg := { s.dev.chg with
            failed := bitSet s.dev.chg.failed (pierIdx p)
            stampBad := s.dev.chg.stampBad || result == 1
            state := if ((servicePiers s.dev).all fun q => bitOf s.dev.chg.ready (pierIdx q)) = true then 2 else 1 } }
      else Answers (.changeStaged p result) s fun t => t = s.dev) ∧
    (if s.dev.chg.state ≠ 0 ∧ s.dev.chg.partner = 1 then
      (Answers .changePartnerStored s fun t => t = { s.dev with chg := { s.dev.chg with partner := 2 } }) ∧
      (Answers .changePartnerTimeout s fun t => t = { s.dev with chg := { s.dev.chg with partner := 3 } })
    else (Answers .changePartnerStored s fun t => t = s.dev) ∧ (Answers .changePartnerTimeout s fun t => t = s.dev)) ∧
    (∀ p cls done, inService s.dev p = false → Answers (.carryoverDone p cls done) s fun t => t = s.dev) ∧
    (∀ p cls done cs plan, inService s.dev p = true → s.dev.chg.state = 3 → chgCs s.dev = some cs → carryPlan s.dev = some plan →
      if cls ∈ csAffected cs ∧ lastOldEnded s.dev p (csSwitch s.dev cs) cls = true then Answers (.carryoverDone p cls done) s fun t =>
        t.chg = { s.dev.chg with
          carried := mput s.dev.chg.carried (cls * 4 + pierIdx p) done.us
          measured := max s.dev.chg.measured done.us } ∧
        triGet t.prs p = carryClass plan.2.1 plan.2.2 plan.1 cls done.conv (triGet s.dev.prs p) ∧
        t = { s.dev with chg := t.chg, prs := t.prs } ∧ ∀ q, q ≠ p → triGet t.prs q = triGet s.dev.prs q
      else Answers (.carryoverDone p cls done) s fun t => t = s.dev) ∧
    (∀ p cls done, inService s.dev p = true → s.dev.chg.state ≠ 3 →
      match mget s.dev.chg.late (cls * 4 + pierIdx p) with
      | none => Answers (.carryoverDone p cls done) s fun t => t = s.dev
      | some at_ => Answers (.carryoverDone p cls done) s fun t =>
        t.chg = { s.dev.chg with
          late := mdel s.dev.chg.late (cls * 4 + pierIdx p)
          lastMeasured := max s.dev.chg.lastMeasured done.us } ∧
        (∀ t0, at_ = some t0 → intakeOpen s.dev Ev.CARRYOVER_LATE (sevOf Ev.CARRYOVER_LATE) →
          entered s.dev t Ev.CARRYOVER_LATE (sevOf Ev.CARRYOVER_LATE) (srcOf Ev.CARRYOVER_LATE) (pierIdx p)
            [.w cls, .w (pierIdx p), .w ((s.dev.clk - t0) / 1000)]) ∧
        regsBut evCounts s.dev t ∧ reportsOnly { s.dev with chg := t.chg, prs := t.prs } t)

/-- CHANGE_SET_REVERT, COMMIT, CANCEL and STATUS: what each answers with and without a change set to act on (R201, R213, R214, R215, R225). -/
def Obligations.ChangeSetEnds : Prop :=
  ∀ (s : State) (c : HiCmd), Running s → turnOf s.dev c →
    (isOp 4 1 c.desc = true → s.dev.chg.switched = none → Answers (.changeSetRevert c.seq) s fun t =>
      finalAt t (jHead s.dev) c St.REVERT_UNAVAILABLE (changeStatus s.dev) ∧ answersOnly s.dev t) ∧
    (∀ w, isOp 4 1 c.desc = true → s.dev.chg.switched = some w → Answers (.changeSetRevert c.seq) s fun t =>
      t.chg.state = 2 ∧ t.chg.reverting = true ∧ t.chg.cmd = c.seq ∧ t.chg.lead = leadOf c.desc ∧ t.chg.switched = some w ∧
      .change 0 c.seq true false w.cs ∈ t.store.log ∧ cmdOf t c.seq = some { c with phase := .waiting } ∧
      t.regs = s.dev.regs ∧ t.img = s.dev.img ∧ t.prs = s.dev.prs ∧ memSame s.dev t) ∧
    (chgClass s.dev = none → chgPending s.dev = false →
      (isOp 4 2 c.desc = true → Answers (.changeSetCommit c.seq) s fun t =>
        finalAt t (jHead s.dev) c St.OK (changeStatus s.dev) ∧ answersOnly s.dev t) ∧
      (isOp 4 3 c.desc = true → Answers (.changeSetCancel c.seq) s fun t =>
        finalAt t (jHead s.dev) c St.CANCEL_TOO_LATE (changeStatus s.dev) ∧ answersOnly s.dev t)) ∧
    (∀ k, chgClass s.dev = some k →
      (isOp 4 2 c.desc = true → Answers (.changeSetCommit c.seq) s (phaseOnly s.dev c (.toClass k))) ∧
      (isOp 4 3 c.desc = true → Answers (.changeSetCancel c.seq) s (phaseOnly s.dev c (.toClass k)))) ∧
    (isOp 4 4 c.desc = true → Answers (.changeSetStatus c.seq) s fun t =>
      finalAt t (jHead s.dev) c St.OK (changeStatus s.dev) ∧ answersOnly s.dev t)

/-- EDIT_VALUE, FORCE, UNFORCE, WRITE_VARS, MODE_REQUESTs and ARM_POSITION become inputs of their class; SAFE ends them (R90, R93, R216, R219, R348, R352, R354). -/
def Obligations.CommandsReachTheirClass : Prop :=
  ∀ (s : State) (c : HiCmd), Running s → dueOf s.dev c →
    (modeOf s.dev ≠ mSAFE →
      (c.desc.op = 5 → Answers (.editValue c.seq) s (phaseOnly s.dev c (.toClass (itemClass s.dev c)))) ∧
      (c.desc.op = 6 → Answers (.force c.seq) s (phaseOnly s.dev c (.toClass (itemClass s.dev c)))) ∧
      (c.desc.op = 7 → Answers (.unforce c.seq) s (phaseOnly s.dev c (.toClass (itemClass s.dev c)))) ∧
      (c.desc.op = 9 → Answers (.writeVars c.seq) s (phaseOnly s.dev c (.toClass (itemClass s.dev c)))) ∧
      (isOp 1 0 c.desc = true → Answers (.modeRequestStop c.seq) s (phaseOnly s.dev c (.toClass (anyClass s.dev)))) ∧
      (isOp 1 1 c.desc = true → Answers (.modeRequestRun c.seq) s (phaseOnly s.dev c (.toClass (anyClass s.dev)))) ∧
      (isOp 1 2 c.desc = true → Answers (.modeRequestHold c.seq) s (phaseOnly s.dev c (.toClass (anyClass s.dev)))) ∧
      (isOp 1 3 c.desc = true → Answers (.modeRequestStandby c.seq) s (phaseOnly s.dev c (.toClass (anyClass s.dev)))) ∧
      (isOp 1 4 c.desc = true → Answers (.modeRequestService c.seq) s (phaseOnly s.dev c (.toClass (anyClass s.dev)))) ∧
      (isOp 1 5 c.desc = true → Answers (.modeRequestSafe c.seq) s (phaseOnly s.dev c (.toClass (anyClass s.dev)))) ∧
      (isOp 1 8 c.desc = true → Answers (.modeRequestStep c.seq) s (phaseOnly s.dev c (.toClass (anyClass s.dev)))) ∧
      (c.desc.op = 17 → Answers (.armPosition c.seq) s (phaseOnly s.dev c (.toClass (argB c.desc 1))))) ∧
    (modeOf s.dev = mSAFE →
      (c.desc.op = 5 → Answers (.editValue c.seq) s fun t => finalAt t (jHead s.dev) c St.IN_SAFE [] ∧ answersOnly s.dev t) ∧
      (c.desc.op = 6 → Answers (.force c.seq) s fun t => finalAt t (jHead s.dev) c St.IN_SAFE [] ∧ answersOnly s.dev t) ∧
      (c.desc.op = 7 → Answers (.unforce c.seq) s fun t => finalAt t (jHead s.dev) c St.IN_SAFE [] ∧ answersOnly s.dev t) ∧
      (c.desc.op = 9 → Answers (.writeVars c.seq) s fun t => finalAt t (jHead s.dev) c St.IN_SAFE [] ∧ answersOnly s.dev t) ∧
      (isOp 1 0 c.desc = true → Answers (.modeRequestStop c.seq) s fun t => finalAt t (jHead s.dev) c St.IN_SAFE [] ∧ answersOnly s.dev t) ∧
      (isOp 1 1 c.desc = true → Answers (.modeRequestRun c.seq) s fun t => finalAt t (jHead s.dev) c St.IN_SAFE [] ∧ answersOnly s.dev t) ∧
      (isOp 1 2 c.desc = true → Answers (.modeRequestHold c.seq) s fun t => finalAt t (jHead s.dev) c St.IN_SAFE [] ∧ answersOnly s.dev t) ∧
      (isOp 1 3 c.desc = true → Answers (.modeRequestStandby c.seq) s fun t => finalAt t (jHead s.dev) c St.IN_SAFE [] ∧ answersOnly s.dev t) ∧
      (isOp 1 4 c.desc = true → Answers (.modeRequestService c.seq) s fun t => finalAt t (jHead s.dev) c St.IN_SAFE [] ∧ answersOnly s.dev t) ∧
      (isOp 1 5 c.desc = true → Answers (.modeRequestSafe c.seq) s fun t => finalAt t (jHead s.dev) c St.IN_SAFE [] ∧ answersOnly s.dev t) ∧
      (isOp 1 8 c.desc = true → Answers (.modeRequestStep c.seq) s fun t => finalAt t (jHead s.dev) c St.IN_SAFE [] ∧ answersOnly s.dev t) ∧
      (c.desc.op = 17 → Answers (.armPosition c.seq) s fun t => finalAt t (jHead s.dev) c St.IN_SAFE [] ∧ answersOnly s.dev t))

/-- CONTROL_EXCHANGE performs the one command that waits for its class while no cycles run, and does nothing while they run (R90, R92, R93, R211, R217, R219, R352, R476). -/
def Obligations.ControlExchangeAgrees : Prop :=
  ∀ (s : State) (vals : List (Nat × Nat)), Running s →
    (cyclesRun s.dev = true ∨ modeOf s.dev = mBOOT ∨ modeOf s.dev = mSAFE → Answers (.controlExchange vals) s fun t => t = s.dev) ∧
    (chgCs s.dev = none → s.dev.hi.cmds = [] → Answers (.controlExchange vals) s fun t => t = s.dev) ∧
    (∀ c k, cyclesRun s.dev = false → modeOf s.dev ≠ mBOOT → modeOf s.dev ≠ mSAFE → s.dev.hm.powerFail = false → chgCs s.dev = none →
      s.dev.hi.cmds = [c] → c.phase = .toClass k → c.again = false →
      ((c.desc.op = 6 ∨ c.desc.op = 7) → Answers (.controlExchange vals) s fun t =>
        t.mode.forces = forceApply c.desc c.payload s.dev.mode.forces ∧
        finalAt t (jHead s.dev) c St.OK (leBytes 4 t.mode.forces.length ++ leBytes 4 0 ++ leBytes 8 (nextCycle s.dev k))) ∧
      (c.desc.op = 9 → Answers (.controlExchange vals) s fun t =>
        t.prs = (itemsWrite (items16 (argN c.desc 0 2) c.payload) s.dev).prs ∧ t.mode = s.dev.mode ∧
        finalAt t (jHead s.dev) c St.OK (leBytes 4 s.dev.mode.forces.length ++ leBytes 4 0 ++ leBytes 8 (nextCycle s.dev k))) ∧
      (c.desc.op = 5 → Answers (.controlExchange vals) s fun t =>
        t.mode.generation = s.dev.mode.generation + 1 ∧ t.bp.generation = s.dev.mode.generation + 1 ∧
        finalAt t (jHead s.dev) c St.OK (leBytes 4 (s.dev.mode.generation + 1) ++ leBytes 4 0 ++ leBytes 8 (nextCycle s.dev k))) ∧
      (c.desc.op = 10 → (modeOf s.dev = mSTOP ∨ modeOf s.dev = mHOLD ∨ modeOf s.dev = mSERVICE) → Answers (.controlExchange vals) s fun t =>
        t.cs.queue = s.dev.cs.queue ++ [⟨0, cmdRecords c, some c.seq, none, 0⟩] ∧ cmdOf t c.seq = some { c with phase := .waiting } ∧
        t = { s.dev with hi := { s.dev.hi with cmds := t.hi.cmds }, cs := t.cs }) ∧
      (c.desc.op = 1 → argB c.desc 0 ≠ 5 → Answers (.controlExchange vals) s fun t =>
        t.mode.reqs = s.dev.mode.reqs ++ [c.seq] ∧ cmdOf t c.seq = some { c with phase := .waiting } ∧ t.regs = s.dev.regs) ∧
      (c.desc.op = 1 → argB c.desc 0 = 5 → safeOpen s.dev → s.dev.mode.reqs = [] → Answers (.controlExchange vals) s fun t =>
        enteredSafe t scREQUESTED 0 ∧ cmdOf t c.seq = none))

/-- Host commands performed at once, resets among them, answer with the status and result of their rule (R76, R77, R89, R349, R351, R348, R352, R476). -/
def Obligations.CommandsAnswerAtOnce : Prop :=
  (∀ (s : State) (c : HiCmd), Running s → turnOf s.dev c → s.dev.mode.posrst = false →
     (isOp 1 6 c.desc = true → Answers (.modeRequestReset c.seq) s fun t =>
       modeOf t = mBOOT ∧ rd t Reg.MCTL_BOOT_STEP = 0 ∧ rd t Reg.MCTL_RESET_CAUSE_KIND = 2 ∧
       rd t Reg.MCTL_RESET_CAUSE_CMD_COUNT = satAdd Reg.MCTL_RESET_CAUSE_CMD_COUNT.w (rd s.dev Reg.MCTL_RESET_CAUSE_CMD_COUNT) 1 ∧
       startAt t (jHead s.dev) c ∧ t.hi.cmds = [] ∧ t.bp.serviceNext = s.dev.bp.serviceNext ∧ t.store = s.dev.store) ∧
     (isOp 1 7 c.desc = true → Answers (.modeRequestResetService c.seq) s fun t =>
       modeOf t = mBOOT ∧ rd t Reg.MCTL_BOOT_STEP = 0 ∧ rd t Reg.MCTL_RESET_CAUSE_KIND = 2 ∧
       rd t Reg.MCTL_RESET_CAUSE_CMD_COUNT = satAdd Reg.MCTL_RESET_CAUSE_CMD_COUNT.w (rd s.dev Reg.MCTL_RESET_CAUSE_CMD_COUNT) 1 ∧
       startAt t (jHead s.dev) c ∧ t.hi.cmds = [] ∧ t.bp.serviceNext = true ∧ t.store = s.dev.store)) ∧
  (∀ (s : State) (c : HiCmd), Running s → turnOf s.dev c →
     (c.desc.op = 8 → Answers (.readVars c.seq) s fun t =>
       finalAt t (jHead s.dev) c St.OK ((items8 (argN c.desc 0 2) c.payload).flatMap (readItem s.dev)) ∧ answersOnly s.dev t) ∧
     (c.desc.op = 14 → Answers (.journalQuery c.seq) s fun t =>
       finalAt t (jHead s.dev) c St.OK ((List.range (argN c.desc 8 2)).flatMap fun i =>
         ((jEntry s.dev (argN c.desc 0 8 + i)).map jBytes).getD (List.replicate 64 0)) ∧ answersOnly s.dev t) ∧
     (isOp 15 1 c.desc = true → Answers (.checkpointNowRead c.seq) s fun t =>
       finalAt t (jHead s.dev) c St.OK (((cpNamed s.dev).map cpHeader).getD (List.replicate 32 0)) ∧ answersOnly s.dev t) ∧
     (c.desc.op = 10 → bitOf (argB c.desc 0) 0 = false → Answers (.storeSettingsValidate c.seq) s fun t =>
       (∃ r, r.length = 24 ∧ finalAt t (jHead s.dev) c
         (if firstBad (cmdRecords c) = 0xFFFFFFFF then St.OK else St.SETTINGS_RANGE) r) ∧
       answersOnly { s.dev with free := t.free } t))

/-- LOAD_IMAGE stores the image that its last part completes; ACTIVATE_IMAGE puts a stored one in force (R102, R187, R221, R352). -/
def Obligations.Images : Prop :=
  ∀ (s : State) (c : HiCmd), Running s → turnOf s.dev c →
    (∀ check img, c.desc.op = 2 → argB c.desc 20 ≠ 1 → Answers (.loadImage c.seq check img) s fun t =>
      finalAt t (jHead s.dev) c St.OK [] ∧ t.store = s.dev.store) ∧
    (∀ img, c.desc.op = 2 → argB c.desc 20 = 1 → Answers (.loadImage c.seq 0 img) s fun t =>
      mget t.store.images (argN c.desc 0 4) = some img ∧
      finalAt t (jHead s.dev) c St.OK (leBytes 4 (argN c.desc 0 4) ++ leBytes 4 0 ++ leBytes 8 (argN c.desc 12 8))) ∧
    (∀ check img, c.desc.op = 2 → argB c.desc 20 = 1 → check ≠ 0 → Answers (.loadImage c.seq check img) s fun t =>
      finalAt t (jHead s.dev) c St.IMAGE_HASH [] ∧ t.store = s.dev.store) ∧
    (∀ img, c.desc.op = 3 → (modeOf s.dev = mSTOP ∨ modeOf s.dev = mSERVICE) → s.dev.mode.generation < 0xFFFFFFFF → mget s.dev.store.images (argN c.desc 0 4) = some img →
      Answers (.activateImage c.seq) s fun t =>
        t.img = img ∧ t.mode.imageId = argN c.desc 0 4 ∧ t.mode.generation = s.dev.mode.generation + 1 ∧ t.mode.imageValid = true ∧
        t.mode.started = false ∧ t.chg.switched = none ∧ t.store.current = some img ∧
        ∃ h, finalAt t h c St.OK (leBytes 4 (argN c.desc 0 4) ++ leBytes 4 (s.dev.mode.generation + 1))) ∧
    (c.desc.op = 3 → (modeOf s.dev = mSTOP ∨ modeOf s.dev = mSERVICE) → s.dev.mode.generation < 0xFFFFFFFF →
      mget s.dev.store.images (argN c.desc 0 4) = none → Answers (.activateImage c.seq) s fun t =>
        finalAt t (jHead s.dev) c St.IMAGE_HASH [] ∧ answersOnly s.dev t) ∧
    (c.desc.op = 3 → (modeOf s.dev = mSTOP ∨ modeOf s.dev = mSERVICE) → 0xFFFFFFFF ≤ s.dev.mode.generation →
      Answers (.activateImage c.seq) s fun t => finalAt t (jHead s.dev) c St.GENERATION_EXHAUSTED [] ∧ answersOnly s.dev t) ∧
    (c.desc.op = 3 → modeOf s.dev ≠ mSTOP → modeOf s.dev ≠ mSERVICE → Answers (.activateImage c.seq) s fun t =>
      finalAt t (jHead s.dev) c St.MODE_CONDITION [] ∧ answersOnly s.dev t)

/-- Commands that wait for another unit, staged updates and RELAY_CONTROL end with the status and result of their rule (R244, R245, R298, R349, R352, R378, R475, R476, R486, R490, R491, R497). -/
def Obligations.WaitingAndRelayCommands : Prop :=
  (∀ (s : State) (c : HiCmd), Running s → turnOf s.dev c →
     (isOp 15 0 c.desc = true → flag s.dev (Reg.CYC_CLS_CFG_EN (rd s.dev Reg.DX_CP_CFG_CLASS)) = false → Answers (.checkpointNowTake c.seq) s fun t =>
       finalAt t (jHead s.dev) c St.OK (List.replicate 32 0) ∧ answersOnly s.dev t) ∧
     (isOp 15 0 c.desc = true → flag s.dev (Reg.CYC_CLS_CFG_EN (rd s.dev Reg.DX_CP_CFG_CLASS)) = true → s.dev.dx.taking = none → s.dev.dx.sending = none → Answers (.checkpointNowTake c.seq) s fun t =>
       (∃ k, t.dx.taking = some k ∧ k.cls = rd s.dev Reg.DX_CP_CFG_CLASS ∧ k.cycle = rd s.dev (Reg.CYC_CLS_CYC (rd s.dev Reg.DX_CP_CFG_CLASS)) ∧
         k.generation = s.dev.mode.generation ∧ k.forces = s.dev.mode.forces ∧ k.jpos = journalPos s.dev) ∧
       cmdOf t c.seq = some { c with phase := .waiting } ∧ t.regs = s.dev.regs ∧ memSame s.dev t) ∧
     (isOp 16 0 c.desc = true → Answers (.setTimeEpochAdopt c.seq) s fun t =>
       t.tu.epochs = s.dev.tu.epochs ++ [⟨c.seq, none⟩] ∧ cmdOf t c.seq = some { c with phase := .waiting } ∧
       t = { s.dev with hi := { s.dev.hi with cmds := t.hi.cmds }, tu := { s.dev.tu with epochs := t.tu.epochs } }) ∧
     (isOp 16 1 c.desc = true → Answers (.setTimeEpochSet c.seq) s fun t =>
       t.tu.epochs = s.dev.tu.epochs ++ [⟨c.seq, some (argN c.desc 4 8)⟩] ∧ cmdOf t c.seq = some { c with phase := .waiting } ∧
       t = { s.dev with hi := { s.dev.hi with cmds := t.hi.cmds }, tu := { s.dev.tu with epochs := t.tu.epochs } }) ∧
     (c.desc.op = 13 → netActive s.dev = false → Answers (.sendMd c.seq) s fun t => t = s.dev) ∧
     (c.desc.op = 13 → netActive s.dev = true → jOpen s.dev →
       (argB c.desc 8 = 0 → Answers (.sendMd c.seq) s fun t =>
         startAt t (jHead s.dev) c ∧ finalAt t (jHead s.dev + 1) c St.OK [] ∧ answersOnly s.dev t) ∧
       (argB c.desc 8 ≠ 0 → Answers (.sendMd c.seq) s fun t =>
         startAt t (jHead s.dev) c ∧ mget t.te.sessions c.seq = some c.seq ∧ cmdOf t c.seq = some { c with phase := .waiting } ∧
         t.out.getLast? = some (.mdSent (if argB c.desc 8 = 1 then 4 else 6) (argN c.desc 0 4) (argN c.desc 4 4) c.seq c.payload))) ∧
     (c.desc.op = 10 → bitOf (argB c.desc 0) 0 = true →
       (firstBad (cmdRecords c) = 0xFFFFFFFF → ((cmdRecords c).any fun e => recordVoted e.1) = false → Answers (.storeSettingsStore c.seq) s fun t =>
         t.cs.queue = s.dev.cs.queue ++ [⟨0, cmdRecords c, some c.seq, none, 0⟩] ∧ cmdOf t c.seq = some { c with phase := .waiting } ∧
         t = { s.dev with hi := { s.dev.hi with cmds := t.hi.cmds }, cs := t.cs }) ∧
       (firstBad (cmdRecords c) = 0xFFFFFFFF → ((cmdRecords c).any fun e => recordVoted e.1) = true →
         Answers (.storeSettingsStore c.seq) s (phaseOnly s.dev c (.toClass (anyClass s.dev)))) ∧
       (firstBad (cmdRecords c) ≠ 0xFFFFFFFF → Answers (.storeSettingsStore c.seq) s fun t =>
         (∃ r, r.length = 24 ∧ finalAt t (jHead s.dev) c St.SETTINGS_RANGE r) ∧ t.cs = s.dev.cs))) ∧
  (∀ (s : State) (c : HiCmd), Running s → turnOf s.dev c →
     (∀ bad, c.desc.op = 11 → argN c.desc 4 8 = 0 → bitOf (argB c.desc 20) 0 = false → c.desc.payLen < 33792 →
       Answers (.stageUpdate c.seq none bad) s fun t =>
         (∃ st, t.upd = { s.dev.upd with stage := some st } ∧ st.tag = argN c.desc 0 4 ∧ st.entry = none ∧ st.taken = c.desc.payLen ∧
           st.bytes = c.payload) ∧ finalAt t (jHead s.dev) c St.OK []) ∧
     (∀ m bad, c.desc.op = 11 → argN c.desc 4 8 = 0 → manifestOk m = false →
       Answers (.stageUpdate c.seq (some m) bad) s fun t =>
         t.upd = { s.dev.upd with stage := none } ∧ finalAt t (jHead s.dev) c St.UPDATE_FORM []) ∧
     (∀ st man bad, c.desc.op = 11 → s.dev.upd.stage = some st → st.entry = none → argN c.desc 4 8 ≠ 0 → st.taken ≠ argN c.desc 4 8 →
       Answers (.stageUpdate c.seq man bad) s fun t =>
         t.upd = { s.dev.upd with stage := none } ∧ finalAt t (jHead s.dev) c St.UPDATE_FORM []) ∧
     (jOpen s.dev →
       (∀ k p, pkgFind s.dev (cmdIdentity c) = some k → pkgOf s.dev k = some p →
         (isOp 12 0 c.desc = true → Answers (.relayControlStart c.seq) s fun t =>
           startAt t (jHead s.dev) c ∧ finalAt t (jHead s.dev + 1) c St.OK [] ∧ (pkgOf t k).isSome = true) ∧
         (isOp 12 1 c.desc = true → Answers (.relayControlStop c.seq) s fun t =>
           startAt t (jHead s.dev) c ∧ finalAt t (jHead s.dev + 1) c St.OK [] ∧ ((pkgOf t k).map fun x => x.state) = some 3) ∧
         (isOp 12 2 c.desc = true → installChoice p false s.dev = 3 → Answers (.relayControlInstall c.seq) s fun t =>
           startAt t (jHead s.dev) c ∧ t.upd.installing = some (k, s.dev.clk, some c.seq) ∧
           cmdOf t c.seq = some { c with phase := .waiting }) ∧
         (isOp 12 3 c.desc = true → s.dev.upd.installing = none → Answers (.relayControlDelete c.seq) s fun t =>
           startAt t (jHead s.dev) c ∧ finalAt t (jHead s.dev + 1) c St.OK [] ∧ pkgOf t k = none)) ∧
       (pkgFind s.dev (cmdIdentity c) = none →
         (isOp 12 0 c.desc = true → Answers (.relayControlStart c.seq) s fun t =>
           startAt t (jHead s.dev) c ∧ finalAt t (jHead s.dev + 1) c St.UPDATE_NO_PACKAGE [] ∧ t.upd = s.dev.upd) ∧
         (isOp 12 1 c.desc = true → Answers (.relayControlStop c.seq) s fun t =>
           startAt t (jHead s.dev) c ∧ finalAt t (jHead s.dev + 1) c St.UPDATE_NO_PACKAGE [] ∧ t.upd = s.dev.upd) ∧
         (isOp 12 2 c.desc = true → Answers (.relayControlInstall c.seq) s fun t =>
           startAt t (jHead s.dev) c ∧ finalAt t (jHead s.dev + 1) c St.UPDATE_NO_PACKAGE [] ∧ t.upd = s.dev.upd) ∧
         (isOp 12 3 c.desc = true → Answers (.relayControlDelete c.seq) s fun t =>
           startAt t (jHead s.dev) c ∧ finalAt t (jHead s.dev + 1) c St.UPDATE_NO_PACKAGE [] ∧ t.upd = s.dev.upd)) ∧
       (isOp 12 4 c.desc = true → argB c.desc 1 = slotBooted s.dev → Answers (.relayControlActivate c.seq) s fun t =>
         startAt t (jHead s.dev) c ∧ finalAt t (jHead s.dev + 1) c St.OK [] ∧
         t.bp = { s.dev.bp with slotPref := argB c.desc 1, trial := none }) ∧
       (isOp 12 4 c.desc = true → argB c.desc 1 ≠ slotBooted s.dev → s.dev.upd.installing.isSome = true →
         Answers (.relayControlActivate c.seq) s fun t =>
           startAt t (jHead s.dev) c ∧ finalAt t (jHead s.dev + 1) c St.UPDATE_SLOT_BUSY [] ∧ t.bp = s.dev.bp) ∧
       (isOp 12 4 c.desc = true → argB c.desc 1 ≠ slotBooted s.dev → s.dev.upd.installing = none →
         (upSlot s.dev (argB c.desc 1)).valid = false ∨ (upSlot s.dev (argB c.desc 1)).refused = true → Answers (.relayControlActivate c.seq) s fun t =>
           startAt t (jHead s.dev) c ∧ finalAt t (jHead s.dev + 1) c St.UPDATE_NOT_INSTALLED [] ∧ t.bp = s.dev.bp) ∧
       (isOp 12 4 c.desc = true → argB c.desc 1 ≠ slotBooted s.dev → s.dev.upd.installing = none → (upSlot s.dev (argB c.desc 1)).valid = true →
         (upSlot s.dev (argB c.desc 1)).refused = false → Answers (.relayControlActivate c.seq) s fun t =>
           startAt t (jHead s.dev) c ∧ finalAt t (jHead s.dev + 1) c St.OK [] ∧
           t.bp = { s.dev.bp with slotPref := argB c.desc 1, trial := some 0 }) ∧
       (isOp 12 5 c.desc = true → (upSlot s.dev (slotBooted s.dev)).hdr.sec ≤ rd s.dev Reg.UP_ROLLBACK_EFFECTIVE →
         Answers (.relayControlCommit c.seq) s fun t =>
           startAt t (jHead s.dev) c ∧ finalAt t (jHead s.dev + 1) c St.OK [] ∧
           rd t Reg.UP_ROLLBACK_EFFECTIVE = rd s.dev Reg.UP_ROLLBACK_EFFECTIVE) ∧
       (isOp 12 5 c.desc = true → rd s.dev Reg.UP_ROLLBACK_EFFECTIVE < (upSlot s.dev (slotBooted s.dev)).hdr.sec →
         (flag s.dev Reg.CS_STATUS_FROZEN = false → Answers (.relayControlCommit c.seq) s fun t =>
           startAt t (jHead s.dev) c ∧ cmdOf t c.seq = some { c with phase := .waiting } ∧
           t.cs.queue = s.dev.cs.queue ++ [⟨2, [], some c.seq, some (upSlot s.dev (slotBooted s.dev)).hdr.sec, 0⟩]) ∧
         (flag s.dev Reg.CS_STATUS_FROZEN = true → Answers (.relayControlCommit c.seq) s fun t =>
           startAt t (jHead s.dev) c ∧ finalAt t (jHead s.dev + 1) c St.OK [] ∧ t.cs.queue = s.dev.cs.queue)) ∧
       (isOp 12 6 c.desc = true → Answers (.relayControlStatus c.seq) s fun t =>
         startAt t (jHead s.dev) c ∧ t.upd = s.dev.upd ∧
         finalAt t (jHead s.dev + 1) c St.OK (slotRecord s.dev 0 ++ slotRecord s.dev 1 ++ s.dev.upd.pkgs.flatMap fun e => pkgRecord s.dev e.2))))

/-- SYNC_RECEIVED and the master rules move the clock's state; messages, timestamps and launches go through their queues (R228, R229, R231, R232, R233, R236, R239, R241, R242, R243, R252, R258). -/
def Obligations.TimeServoAndQueues : Prop :=
  (∀ s : State, Running s →
     (∀ port origin rxS,
       if ptpPort s.dev port = true ∧ rd s.dev Reg.TU_STATUS_SLAVE_PORT = port ∧ tuSource s.dev ≠ 3 then
         (tuState s.dev = tsUNSET → Answers (.syncReceived port origin rxS) s fun t =>
           tuState t = tsACQUIRE ∧ t.tu = { s.dev.tu with acqSyncs := 1, acqAt := (origin, s.dev.clk) } ∧
           t.out = s.dev.out ++ [.ptp port (if rd s.dev Reg.TU_CFG_PROFILE = 0 then 2 else 3) (trainTime s.dev)] ∧
           regsBut [Reg.TU_STATUS_STATE] s.dev t) ∧
         (tuState s.dev = tsACQUIRE →
           (s.dev.tu.acqSyncs < 3 ∨ flag s.dev (Reg.TU_PORT_STATE_PD_VALID port) = false → Answers (.syncReceived port origin rxS) s fun t =>
             t = { s.dev with tu := { s.dev.tu with acqSyncs := s.dev.tu.acqSyncs + 1, acqAt := (origin, s.dev.clk) } }) ∧
           (3 ≤ s.dev.tu.acqSyncs → flag s.dev (Reg.TU_PORT_STATE_PD_VALID port) = true → port < 6 → Answers (.syncReceived port origin rxS) s fun t =>
             schedValid t = true ∧
             if (timeFloor s.dev : Int) ≤ (origin : Int) + (rd s.dev (Reg.TU_PORT_PD port) : Int) - epochE s.dev then
               tuState t = tsTRACKING ∧
               schedTime t = trunc 64 ((origin : Int) + (rd s.dev (Reg.TU_PORT_PD port) : Int) - epochE s.dev).toNat
             else tuState t = tsDISCONTINUITY ∧ schedTime t = trunc 64 (timeFloor s.dev))) ∧
         (tuState s.dev = tsTRACKING ∨ tuState s.dev = tsHOLDOVER ∨ (tuState s.dev = tsGRANDMASTER ∧ s.dev.tu.judging = true) →
           flag s.dev Reg.TU_STATUS_HOLD_PD = false →
           (thetaSmall s.dev (syncTheta s.dev port origin rxS) = true → Answers (.syncReceived port origin rxS) s fun t =>
             tuState t = tsTRACKING ∧ t.tu.outliers = 0 ∧ t.tu.theta = syncTheta s.dev port origin rxS ∧ schedTime t = schedTime s.dev ∧
             (toSigned 32 (rd t Reg.TU_FREQ)).natAbs ≤ 200000000 ∧ flag t Reg.TU_STATUS_GM = false ∧
             reportsOnly { s.dev with tu := t.tu, free := t.free } t) ∧
           (thetaSmall s.dev (syncTheta s.dev port origin rxS) = false → s.dev.tu.outliers < 2 → Answers (.syncReceived port origin rxS) s fun t =>
             tuState t = tuState s.dev ∧ t.tu.outliers = s.dev.tu.outliers + 1 ∧ schedTime t = schedTime s.dev ∧
             rd t Reg.TU_FREQ = rd s.dev Reg.TU_FREQ ∧
             rd t Reg.TU_SAMPLES_OUTLIERS = satAdd Reg.TU_SAMPLES_OUTLIERS.w (rd s.dev Reg.TU_SAMPLES_OUTLIERS) 1) ∧
           (thetaSmall s.dev (syncTheta s.dev port origin rxS) = false → 2 ≤ s.dev.tu.outliers → Answers (.syncReceived port origin rxS) s fun t =>
             tuState t = tsDISCONTINUITY ∧ rd t Reg.TU_SLEW_NOW = 0 ∧ schedTime t = schedTime s.dev)) ∧
         (tuState s.dev ≠ tsUNSET → tuState s.dev ≠ tsACQUIRE →
           flag s.dev Reg.TU_STATUS_HOLD_PD = true ∨
             (tuState s.dev ≠ tsTRACKING ∧ tuState s.dev ≠ tsHOLDOVER ∧ (tuState s.dev ≠ tsGRANDMASTER ∨ s.dev.tu.judging = false)) →
           Answers (.syncReceived port origin rxS) s fun t => t = showTheta (syncTheta s.dev port origin rxS) s.dev)
       else Answers (.syncReceived port origin rxS) s fun t => t = s.dev) ∧
     (∀ port ns, ptpPort s.dev port = false → Answers (.pathDelayMeasured port ns) s fun t => t = s.dev) ∧
     (∀ port ns, port < 6 → ptpPort s.dev port = true →
       if flag s.dev (Reg.TU_PORT_STATE_PD_VALID port) = false then Answers (.pathDelayMeasured port ns) s fun t =>
         rd t (Reg.TU_PORT_PD port) = trunc (Reg.TU_PORT_PD port).w ns ∧ flag t (Reg.TU_PORT_STATE_PD_VALID port) = true ∧
         (tuState s.dev ≠ tsACQUIRE → regsBut [Reg.TU_PORT_PD port, Reg.TU_PORT_STATE_PD_VALID port, Reg.TU_PATH_DELAY] s.dev t)
       else match mget s.dev.tu.holds port with
       | none => Answers (.pathDelayMeasured port ns) s fun t =>
         if rd s.dev Reg.TU_PD_STEP_STEP_NS < ((ns : Int) - (rd s.dev (Reg.TU_PORT_PD port) : Int)).natAbs then
           mget t.tu.holds port = some ⟨ns, 1, ns⟩ ∧ rd t (Reg.TU_PORT_PD port) = rd s.dev (Reg.TU_PORT_PD port) ∧
           flag t Reg.TU_STATUS_HOLD_PD = true ∧ rd t Reg.TU_SLEW_NOW = 0 ∧
           rd t Reg.TU_SAMPLES_PD_STEPS = satAdd Reg.TU_SAMPLES_PD_STEPS.w (rd s.dev Reg.TU_SAMPLES_PD_STEPS) 1
         else rd t (Reg.TU_PORT_PD port) = trunc (Reg.TU_PORT_PD port).w (freeNat s.dev) ∧ mget t.tu.holds port = none
       | some h => Answers (.pathDelayMeasured port ns) s fun t =>
         if ((ns : Int) - (rd s.dev (Reg.TU_PORT_PD port) : Int)).natAbs ≤ rd s.dev Reg.TU_PD_STEP_STEP_NS then
           mget t.tu.holds port = none ∧ rd t (Reg.TU_PORT_PD port) = rd s.dev (Reg.TU_PORT_PD port)
         else ∀ h', h' = (if rd s.dev Reg.TU_PD_STEP_STEP_NS < 4 * ((ns : Int) - (h.first : Int)).natAbs then ⟨ns, 1, ns⟩
             else ⟨h.first, h.count + 1, h.sum + ns⟩ : PdHold) →
           if rd s.dev Reg.TU_PD_STEP_HOLD_N ≤ h'.count then
             mget t.tu.holds port = none ∧ rd t (Reg.TU_PORT_PD port) = trunc (Reg.TU_PORT_PD port).w (h'.sum / h'.count)
           else mget t.tu.holds port = some h' ∧ rd t (Reg.TU_PORT_PD port) = rd s.dev (Reg.TU_PORT_PD port)) ∧
     (∀ port gm r, ptpPort s.dev port = false ∨ tuSource s.dev = 3 ∨ r = .same → Answers (.announceReceived port gm r) s fun t => t = s.dev) ∧
     (∀ port gm slave passive, ptpPort s.dev port = true → tuSource s.dev ≠ 3 → slave < 6 →
       Answers (.announceReceived port gm (.slave slave passive)) s fun t =>
         rd t Reg.TU_STATUS_SLAVE_PORT = slave ∧ t.tu.master = gm ∧
         (flag s.dev Reg.TU_STATUS_GM = false → rd t Reg.TU_GM_ID = trunc 64 gm) ∧
         (flag s.dev Reg.TU_STATUS_GM = true → rd t Reg.TU_GM_ID = rd s.dev Reg.TU_GM_ID) ∧
         tuState t = (if tuState s.dev = tsACQUIRE ∧ (s.dev.tu.master ≠ gm ∨ rd s.dev Reg.TU_STATUS_SLAVE_PORT ≠ slave) then tsUNSET
           else tuState s.dev) ∧
         (tuState s.dev = tsGRANDMASTER → t.tu.judging = true ∧ t.tu.outliers = 0) ∧ schedTime t = schedTime s.dev) ∧
     (∀ port gm passive, ptpPort s.dev port = true → tuSource s.dev ≠ 3 → Answers (.announceReceived port gm (.self passive)) s fun t =>
       if tuSource s.dev = 2 ∧ tuState s.dev ∈ [tsTRACKING, tsHOLDOVER, tsDISCONTINUITY, tsGRANDMASTER] then
         tuState t = tsGRANDMASTER ∧ flag t Reg.TU_STATUS_GM = true ∧ rd t Reg.TU_STATUS_SLAVE_PORT = 7 ∧ rd t Reg.TU_SLEW_NOW = 0 ∧
         schedTime t = schedTime s.dev
       else t = s.dev) ∧
     (∀ gm r, tuSource s.dev = 0 ∨ tuSource s.dev = 3 → Answers (.announceTimeout gm r) s fun t => t = s.dev) ∧
     (∀ gm, tuSource s.dev ≠ 0 → tuSource s.dev ≠ 3 →
       (tuState s.dev = tsTRACKING → Answers (.announceTimeout gm .same) s fun t =>
         tuState t = tsHOLDOVER ∧ rd t Reg.TU_HOLDOVER = 0 ∧ rd t Reg.TU_SLEW_NOW = 0 ∧ rd t Reg.TU_FREQ = rd s.dev Reg.TU_FREQ ∧
         flag t Reg.TU_STATUS_OFFSET_VALID = false ∧ schedTime t = schedTime s.dev) ∧
       (tuState s.dev = tsACQUIRE → Answers (.announceTimeout gm .same) s fun t =>
         tuState t = tsUNSET ∧ t.tu.acqSyncs = 0 ∧ rd t Reg.TU_STATUS_SLAVE_PORT = 7 ∧ flag t Reg.TU_STATUS_OFFSET_VALID = false ∧
         schedTime t = schedTime s.dev) ∧
       (tuState s.dev ≠ tsTRACKING → tuState s.dev ≠ tsACQUIRE → Answers (.announceTimeout gm .same) s fun t =>
         t = wrB s.dev Reg.TU_STATUS_OFFSET_VALID false)) ∧
     (∀ gm passive, tuSource s.dev = 2 →
       (tuState s.dev = tsUNSET → Answers (.announceTimeout gm (.self passive)) s fun t =>
         tuState t = tsGRANDMASTER ∧ flag t Reg.TU_STATUS_GM = true ∧ schedValid t = true ∧ schedTime t = trunc 64 (timeFloor s.dev) ∧
         (flag s.dev Reg.TU_STATUS_GM = false → rd t Reg.TU_GM_ID = trunc 64 s.dev.bp.clockId)) ∧
       (tuState s.dev ∈ [tsTRACKING, tsHOLDOVER, tsDISCONTINUITY, tsGRANDMASTER] → Answers (.announceTimeout gm (.self passive)) s fun t =>
         tuState t = tsGRANDMASTER ∧ flag t Reg.TU_STATUS_GM = true ∧ rd t Reg.TU_SLEW_NOW = 0 ∧ schedTime t = schedTime s.dev)) ∧
     (∀ gm slave passive, tuSource s.dev ≠ 0 → tuSource s.dev ≠ 3 → slave < 6 → Answers (.announceTimeout gm (.slave slave passive)) s fun t =>
       rd t Reg.TU_STATUS_SLAVE_PORT = slave ∧ t.tu.master = gm ∧ flag t Reg.TU_STATUS_OFFSET_VALID = false ∧
       (tuState s.dev = tsACQUIRE → tuState t = tsUNSET) ∧ schedTime t = schedTime s.dev)) ∧
  (∀ s : State, Running s →
     (∀ port,
       (Answers (.ptpIntervalTimer port 0) s fun t =>
         if ptpPort s.dev port = true ∧ rd s.dev (Reg.TU_PORT_STATE_PORT_STATE port) = 6 ∧ schedValid s.dev = true then
           t = { s.dev with out := s.dev.out ++ [.ptp port 0 (trainTime s.dev)] ++ [.ptp port 6 (txTrain s.dev port)] }
         else t = s.dev) ∧
       (Answers (.ptpIntervalTimer port 1) s fun t =>
         if ptpPort s.dev port = true ∧ rd s.dev (Reg.TU_PORT_STATE_PORT_STATE port) = 6 ∧ schedValid s.dev = true then
           if flag s.dev Reg.TU_STATUS_GM = true then
             t = { s.dev with out := s.dev.out ++ [.announce port (rd s.dev Reg.TU_GM_ID) (rd s.dev Reg.TU_PRIO_PRIORITY1)
               (rd s.dev Reg.TU_PRIO_CLOCK_CLASS) (rd s.dev Reg.TU_PRIO_PRIORITY2) 0xA0 true false] }
           else t = { s.dev with out := s.dev.out ++ [.ptp port 1 (trainTime s.dev)] }
         else t = s.dev) ∧
       (Answers (.ptpIntervalTimer port 2) s fun t =>
         if ptpPort s.dev port = true ∧ rd s.dev Reg.TU_STATUS_SLAVE_PORT = port ∧ rd s.dev Reg.TU_CFG_PROFILE = 0 then
           t = { s.dev with out := s.dev.out ++ [.ptp port 2 (trainTime s.dev)] }
         else t = s.dev) ∧
       (∀ kind, 3 ≤ kind → Answers (.ptpIntervalTimer port kind) s fun t =>
         if ptpPort s.dev port = true ∧ rd s.dev Reg.TU_CFG_PROFILE ≠ 0 then
           t = { s.dev with out := s.dev.out ++ [.ptp port 3 (trainTime s.dev)] }
         else t = s.dev)) ∧
     (∀ port rxS,
       (Answers (.delayReqReceived port 0 rxS) s fun t =>
         if ptpPort s.dev port = true ∧ rd s.dev (Reg.TU_PORT_STATE_PORT_STATE port) = 6 ∧ rd s.dev Reg.TU_CFG_PROFILE = 0 then
           t = { s.dev with out := s.dev.out ++ [.ptp port 4 (ofSigned 64 ((rxStamp s.dev port rxS : Int) + epochE s.dev))] }
         else t = s.dev) ∧
       (Answers (.delayReqReceived port 1 rxS) s fun t =>
         if ptpPort s.dev port = true ∧ rd s.dev Reg.TU_CFG_PROFILE ≠ 0 then
           t = { s.dev with out := s.dev.out ++ [.ptp port 5 (ofSigned 64 ((rxStamp s.dev port rxS : Int) + epochE s.dev))] ++
             [.ptp port 7 (txTrain s.dev port)] }
         else t = s.dev) ∧
       (∀ kind, 2 ≤ kind → Answers (.delayReqReceived port kind rxS) s fun t =>
         if ptpPort s.dev port = true then
           rd t (Reg.TE_MALF 3) = satAdd (Reg.TE_MALF 3).w (rd s.dev (Reg.TE_MALF 3)) 1 ∧ reportsOnly s.dev t ∧
           regsBut ([Reg.TE_MALF 3] ++ evCounts) s.dev t
         else t = s.dev)) ∧
     (Answers .schedTimeSave s fun t =>
       if schedValid s.dev = true then
         t.bp = (if s.dev.hm.powerFail = true then s.dev.bp else { s.dev.bp with savedS := schedTime s.dev }) ∧
         (tuState s.dev = tsHOLDOVER → rd t Reg.TU_HOLDOVER = trunc Reg.TU_HOLDOVER.w (rd s.dev Reg.TU_HOLDOVER + 1)) ∧
         regsBut [Reg.TU_HOLDOVER] s.dev t ∧ (tuState s.dev ≠ tsHOLDOVER → t.regs = s.dev.regs)
       else t = s.dev) ∧
     (Answers (.timeRealign 0) s fun t =>
       t.clk = s.dev.clk + 1000 ∧
       (schedValid s.dev = true → schedTime t = trunc 64 (schedAfter 1000 s.dev).1 ∧ ∀ p < 6, macTime t p = schedTime t) ∧
       (schedValid s.dev = false → schedTime t = schedTime s.dev)) ∧
     (∀ c, c < 24 → Answers (.timeRealign (2 ^ c)) s fun t =>
       if c ∈ [0, 1, 2, 3, 4, 5, 6, 9, 11] then
         bitF t Reg.CKR_OVR_OVR c = bitF s.dev Reg.CKR_OVR_OVR c ∧ rd t (Reg.CKR_OVR_CNT_COUNT c) = rd s.dev (Reg.CKR_OVR_CNT_COUNT c)
       else bitF t Reg.CKR_OVR_OVR c = true ∧
         rd t (Reg.CKR_OVR_CNT_COUNT c) = satAdd (Reg.CKR_OVR_CNT_COUNT c).w (rd s.dev (Reg.CKR_OVR_CNT_COUNT c)) 1) ∧
     (∀ port queue now, port < 6 → match (launchQ s.dev port).find? fun x => x.queue == queue with
       | none => Answers (.frameLaunch port queue now) s fun t => t = s.dev
       | some f => Answers (.frameLaunch port queue now) s fun t =>
         if ((swQueue s.dev port queue).any fun e => e.behind == 0) = true ∨ gateOpen s.dev port queue = false ∨
             (macNow s.dev port now < f.launch ∧ f.launch ≤ macNow s.dev port now + second) then t = s.dev
         else launchQ t port = (launchQ s.dev port).erase f ∧
           if macNow s.dev port now + second < f.launch ∨
               (rd s.dev (Reg.TU_LAUNCH_LATE_TOL port) < macNow s.dev port now - f.launch ∧ flag s.dev (Reg.TU_LAUNCH_POLICY port) = true) then
             rd t (Reg.TU_LAUNCH_CNT_DROPPED port) = satAdd (Reg.TU_LAUNCH_CNT_DROPPED port).w (rd s.dev (Reg.TU_LAUNCH_CNT_DROPPED port)) 1
           else
             (∃ r, t.out = s.dev.out ++ [.launched port (macNow s.dev port now - f.launch) f] ++ r) ∧
             (rd s.dev (Reg.TU_LAUNCH_LATE_TOL port) < macNow s.dev port now - f.launch →
               rd t (Reg.TU_LAUNCH_CNT_LATE port) = satAdd (Reg.TU_LAUNCH_CNT_LATE port).w (rd s.dev (Reg.TU_LAUNCH_CNT_LATE port)) 1)) ∧
     (∀ port id ts, port < 6 →
       (id = 0 → Answers (.txtsAppend port id ts) s fun t => t = s.dev) ∧
       (id ≠ 0 → (txtsOf s.dev port).length < 16 → Answers (.txtsAppend port id ts) s fun t =>
         txtsOf t port = txtsOf s.dev port ++ [(id, txStamp s.dev port ts)] ∧ rd t (Reg.TU_TXTS_STATUS_COUNT port) = (txtsOf s.dev port).length + 1 ∧
         regsBut [Reg.TU_TXTS_STATUS_COUNT port] s.dev t) ∧
       (id ≠ 0 → 16 ≤ (txtsOf s.dev port).length → Answers (.txtsAppend port id ts) s fun t =>
         t.tu = s.dev.tu ∧ t.out = s.dev.out ∧ flag t (Reg.TU_TXTS_STATUS_OVF port) = true ∧
         rd t (Reg.TU_TXTS_STATUS_OVF_COUNT port) = satAdd (Reg.TU_TXTS_STATUS_OVF_COUNT port).w (rd s.dev (Reg.TU_TXTS_STATUS_OVF_COUNT port)) 1 ∧
         regsBut ([Reg.TU_TXTS_STATUS_OVF port, Reg.TU_TXTS_STATUS_OVF_COUNT port] ++ evCounts) s.dev t)) ∧
     (∀ port, port < 6 →
       (∀ e r, txtsOf s.dev port = e :: r → Answers (.txtsIdRead port) s fun t =>
         txtsOf t port = r ∧ rd t (Reg.TU_TXTS port) = trunc 64 e.2 ∧
         t.out = s.dev.out ++ [.read (Reg.TU_TXTS_ID_ID port).addr (2 ^ 31 + e.1)] ∧
         regsBut [Reg.TU_TXTS_STATUS_COUNT port, Reg.TU_TXTS port] s.dev t) ∧
       (txtsOf s.dev port = [] → Answers (.txtsIdRead port) s fun t =>
         t = { s.dev with out := s.dev.out ++ [.read (Reg.TU_TXTS_ID_ID port).addr 0] })))

/-- Counted edges and crossings of a reference; triggers arm, hit and launch what the image defines (R260, R261, R262, R263, R273, R264, R265, R266, R267, R269, R270). -/
def Obligations.PositionsAndTriggers : Prop :=
  (∀ (s : State) (p : Pier) (r : Nat), Running s → r < 4 →
     (∀ sp a b, sp < 4 → (∀ x < 4, flag s.dev (Reg.PT_REF_CFG_EN (sl p) x) = true → rd s.dev (Reg.PT_REF_CFG_SOURCE (sl p) x) ≠ sp) →
       Answers (.speedEdge p sp a b) s fun t =>
         t = { s.dev with pt := t.pt } ∧ bitOf (triGet t.pt p).tracks (2 * sp) = a ∧ bitOf (triGet t.pt p).tracks (2 * sp + 1) = b ∧
         (triGet t.pt p).acc = (triGet s.dev.pt p).acc) ∧
     (∀ sp a b, sp < 4 →
       (∀ x < 4, (flag s.dev (Reg.PT_REF_CFG_EN (sl p) x) && rd s.dev (Reg.PT_REF_CFG_SOURCE (sl p) x) == sp) = (x == r)) →
       (∀ k < 64, rd s.dev (Reg.PT_TRIG_CTL_STATE (sl p) k) ≠ 1) →
       bitOf (refLevel s.dev p r) 0 = bitOf (triGet s.dev.pt p).tracks (2 * sp) →
       bitOf (refLevel s.dev p r) 1 = bitOf (triGet s.dev.pt p).tracks (2 * sp + 1) →
       (0 < rd s.dev (Reg.PT_REF_CFG_FILT (sl p) r) → Answers (.speedEdge p sp a b) s fun t =>
         t = { s.dev with pt := t.pt } ∧ bitOf (triGet t.pt p).tracks (2 * sp) = a ∧ bitOf (triGet t.pt p).tracks (2 * sp + 1) = b ∧
         (triGet t.pt p).acc = (triGet s.dev.pt p).acc) ∧
       (rd s.dev (Reg.PT_REF_CFG_FILT (sl p) r) = 0 → bitOf (triGet s.dev.pt p).tracks (2 * sp) = false → a = true →
         bitOf (triGet s.dev.pt p).tracks (2 * sp + 1) = b →
         Answers (.speedEdge p sp a b) s fun t =>
           (∀ up, up = ptUp (rd s.dev (Reg.PT_REF_CFG_MODE (sl p) r)) (flag s.dev (Reg.PT_REF_CFG_SDIR (sl p) r))
               (flag s.dev (Reg.PT_REF_CFG_SIGN (sl p) r)) true a b →
             ptAcc t p r = (if up = true then trunc 48 (ptAcc s.dev p r + rd s.dev (Reg.PT_REF_SCALE (sl p) r))
               else trunc 48 (ptAcc s.dev p r + 2 ^ 48 - rd s.dev (Reg.PT_REF_SCALE (sl p) r))) ∧
             rd t (Reg.PT_REF_STAT_DIR (sl p) r) = (if up = true then 0 else 1)) ∧
           rd t (Reg.PT_REF_POS (sl p) r) = ptPos t p r ∧
           rd t (Reg.PT_REF_STAT_QERR (sl p) r) = rd s.dev (Reg.PT_REF_STAT_QERR (sl p) r)) ∧
       (rd s.dev (Reg.PT_REF_CFG_FILT (sl p) r) = 0 → rd s.dev (Reg.PT_REF_CFG_MODE (sl p) r) ≠ 3 → bitOf (triGet s.dev.pt p).tracks (2 * sp) ≠ a →
         bitOf (triGet s.dev.pt p).tracks (2 * sp + 1) ≠ b → Answers (.speedEdge p sp a b) s fun t =>
           rd t (Reg.PT_REF_STAT_QERR (sl p) r) = satAdd (Reg.PT_REF_STAT_QERR (sl p) r).w (rd s.dev (Reg.PT_REF_STAT_QERR (sl p) r)) 1 ∧
           ptAcc t p r = ptAcc s.dev p r ∧ rd t (Reg.PT_REF_POS (sl p) r) = rd s.dev (Reg.PT_REF_POS (sl p) r))) ∧
     (Answers (.standstillTimeout p r) s fun t =>
       rd t (Reg.PT_REF_STAT_DIR (sl p) r) = (if rd s.dev (Reg.PT_REF_STAT_DIR (sl p) r) = 3 then 3 else 2) ∧ regsOnly s.dev t ∧
       regsBut [Reg.PT_REF_STAT_DIR (sl p) r] s.dev t) ∧
     (∀ v, v ≠ 0 → Answers (.scaleWrite p r v) s fun t =>
       rd t (Reg.PT_REF_SCALE (sl p) r) = trunc (Reg.PT_REF_SCALE (sl p) r).w v ∧ regsOnly s.dev t ∧
       regsBut [Reg.PT_REF_SCALE (sl p) r] s.dev t) ∧
     (Answers (.scaleWrite p r 0) s fun t =>
       flag t (Reg.PT_REF_STAT_WREJ (sl p) r) = true ∧ regsOnly s.dev t ∧ regsBut [Reg.PT_REF_STAT_WREJ (sl p) r] s.dev t) ∧
     (∀ en sign mode source sdir filt still, mode < 4 → source < 4 → Answers (.refCfgWrite p r en sign mode source sdir filt still) s fun t =>
       flag t (Reg.PT_REF_CFG_EN (sl p) r) = en ∧ flag t (Reg.PT_REF_CFG_SIGN (sl p) r) = sign ∧ rd t (Reg.PT_REF_CFG_MODE (sl p) r) = mode ∧
       rd t (Reg.PT_REF_CFG_SOURCE (sl p) r) = source ∧ flag t (Reg.PT_REF_CFG_SDIR (sl p) r) = sdir ∧
       rd t (Reg.PT_REF_CFG_FILT (sl p) r) = (if filt ≤ 500 then filt else rd s.dev (Reg.PT_REF_CFG_FILT (sl p) r)) ∧
       rd t (Reg.PT_REF_CFG_STILL_MS (sl p) r) = (if 1 ≤ still ∧ still ≤ 10000 then still else rd s.dev (Reg.PT_REF_CFG_STILL_MS (sl p) r)) ∧
       ((500 < filt ∨ still = 0 ∨ 10000 < still) → flag t (Reg.PT_REF_STAT_WREJ (sl p) r) = true) ∧
       (triGet t.pt p).acc = (triGet s.dev.pt p).acc ∧ regsOnly { s.dev with pt := t.pt } t) ∧
     (∀ shift, Answers (.rebaseGo p shift r) s fun t =>
       flag t (Reg.PT_REBASE_CTL_GO (sl p)) = decide (0 < posDiff (rd s.dev (Reg.PT_REBASE_TICK (sl p))) (rd s.dev Reg.CYC_TICK)) ∧
       (posDiff (rd s.dev (Reg.PT_REBASE_TICK (sl p))) (rd s.dev Reg.CYC_TICK) ≤ 0 → flag t (Reg.PT_REBASE_CTL_REJ (sl p)) = true) ∧
       flag t (Reg.PT_REBASE_CTL_SHIFT (sl p)) = shift ∧ rd t (Reg.PT_REBASE_CTL_REF (sl p)) = r ∧ regsOnly s.dev t)) ∧
  (∀ (s : State) (p : Pier) (k : Nat), Running s → k < 64 →
     (∀ ifPassed dir ref action out, dir ≤ 2 → action ≤ 3 → ref < 4 → Answers (.triggerArm p k ifPassed dir ref action out) s fun t =>
       rd t (Reg.PT_TRIG_CTL_STATE (sl p) k) =
         (if trigPassed dir (posDiff (ptPos s.dev p ref) (rd s.dev (Reg.PT_TRIG_TGT (sl p) k))) = true then (if ifPassed = true then 3 else 2) else 1) ∧
       rd t (Reg.PT_TRIG_CTL_ARM_SEQ (sl p) k) =
         trunc (Reg.PT_TRIG_CTL_ARM_SEQ (sl p) k).w (rd s.dev (Reg.PT_TRIG_CTL_ARM_SEQ (sl p) k) + 1) ∧
       flag t (Reg.PT_TRIG_CTL_ARM (sl p) k) = true ∧ ptTarget t p k = rd s.dev (Reg.PT_TRIG_TGT (sl p) k) ∧
       rd t (Reg.PT_TRIG_CTL_DIR (sl p) k) = dir ∧ rd t (Reg.PT_TRIG_CTL_REF (sl p) k) = ref ∧ rd t (Reg.PT_TRIG_CTL_ACTION (sl p) k) = action ∧
       (rd t (Reg.PT_TRIG_CTL_STATE (sl p) k) = 2 → action = 3 →
         k * 16 + rd t (Reg.PT_TRIG_CTL_ARM_SEQ (sl p) k) ∈ (triGet t.pt p).signals)) ∧
     (∀ ifPassed dir ref action out, (2 < dir ∨ 3 < action) → Answers (.triggerArm p k ifPassed dir ref action out) s fun t =>
       flag t (Reg.PT_REF_STAT_WREJ (sl p) 0) = true ∧ regsOnly s.dev t ∧ regsBut [Reg.PT_REF_STAT_WREJ (sl p) 0] s.dev t) ∧
     (Answers (.triggerDisarm p k) s fun t =>
       rd t (Reg.PT_TRIG_CTL_STATE (sl p) k) = 0 ∧ flag t (Reg.PT_TRIG_CTL_ARM (sl p) k) = false ∧ bitF t (Reg.PT_HIT (sl p)) k = false ∧
       t.out = s.dev.out ∧ t.fio = s.dev.fio ∧ (∀ x ∈ (triGet t.pt p).signals, x / 16 ≠ k) ∧
       (triGet t.pt p).acc = (triGet s.dev.pt p).acc ∧ memSame s.dev t) ∧
     (∀ seq, k * 16 + seq ∉ (triGet s.dev.pt p).signals → Answers (.posHitReport p k seq) s fun t => t = s.dev) ∧
     (∀ seq, k * 16 + seq ∈ (triGet s.dev.pt p).signals → inService s.dev p = false ∨ isolated s.dev p = true →
       Answers (.posHitReport p k seq) s fun t =>
         (triGet t.pt p).signals = (triGet s.dev.pt p).signals.erase (k * 16 + seq) ∧ t = { s.dev with pt := t.pt }) ∧
     (∀ seq, k * 16 + seq ∈ (triGet s.dev.pt p).signals → inService s.dev p = true → isolated s.dev p = false →
       (((votingPiers s.dev).filter fun q => bitOf (bitSet (mgetD s.dev.io.ptHits (k * 16 + seq) 0) (pierIdx p)) (pierIdx q)).length < 2 →
         Answers (.posHitReport p k seq) s fun t =>
           mget t.io.ptHits (k * 16 + seq) = some (bitSet (mgetD s.dev.io.ptHits (k * 16 + seq) 0) (pierIdx p)) ∧ t.out = s.dev.out ∧
           t.staged = s.dev.staged) ∧
       (∀ f, 2 ≤ ((votingPiers s.dev).filter fun q => bitOf (bitSet (mgetD s.dev.io.ptHits (k * 16 + seq) 0) (pierIdx p)) (pierIdx q)).length →
         bitOf (bitSet (mgetD s.dev.io.ptHits (k * 16 + seq) 0) (pierIdx p)) 3 = false → mget s.dev.staged k = some f → leaseHeld s.dev = true →
         inRun s.dev = true → Answers (.posHitReport p k seq) s fun t =>
           t.out = s.dev.out ++ [.posFrame k f] ∧ mget t.staged k = none ∧
           rd t Reg.PT_LAUNCH_CNT_LAUNCHED = satAdd Reg.PT_LAUNCH_CNT_LAUNCHED.w (rd s.dev Reg.PT_LAUNCH_CNT_LAUNCHED) 1) ∧
       (2 ≤ ((votingPiers s.dev).filter fun q => bitOf (bitSet (mgetD s.dev.io.ptHits (k * 16 + seq) 0) (pierIdx p)) (pierIdx q)).length →
         bitOf (bitSet (mgetD s.dev.io.ptHits (k * 16 + seq) 0) (pierIdx p)) 3 = false →
         mget s.dev.staged k = none ∨ leaseHeld s.dev = false ∨ inRun s.dev = false → Answers (.posHitReport p k seq) s fun t =>
           t.out = s.dev.out ∧ t.staged = s.dev.staged ∧
           rd t Reg.PT_LAUNCH_CNT_DROPPED = satAdd Reg.PT_LAUNCH_CNT_DROPPED.w (rd s.dev Reg.PT_LAUNCH_CNT_DROPPED) 1) ∧
       (bitOf (bitSet (mgetD s.dev.io.ptHits (k * 16 + seq) 0) (pierIdx p)) 3 = true → Answers (.posHitReport p k seq) s fun t =>
         t.out = s.dev.out ∧ t.staged = s.dev.staged ∧ rd t Reg.PT_LAUNCH_CNT_LAUNCHED = rd s.dev Reg.PT_LAUNCH_CNT_LAUNCHED)))

/-- DI_SAMPLE debounces each input; FS_MEASUREMENT shows each supply and its status; a deferred status is recorded (R22, R421, R422, R424, R428, R434). -/
def Obligations.FieldInputs : Prop :=
  ∀ (s : State) (p : Pier), Running s →
    (∀ di rb sw, Answers (.diSample di rb sw) s fun t =>
      rd t (Reg.FIO_DI_RAW (sl p)) = trunc (Reg.FIO_DI_RAW (sl p)).w (triGet di p) ∧
      rd t (Reg.FIO_RB_STATE_RAW (sl p)) = trunc (Reg.FIO_RB_STATE_RAW (sl p)).w (triGet rb p) ∧
      rd t (Reg.FIO_DO_SW_SW_ON (sl p)) =
        trunc (Reg.FIO_DO_SW_SW_ON (sl p)).w (triGet sw p &&& maskOf ((List.range 16).filter (switchClosed s.dev))) ∧
      (∀ i < 32, bitOf (triGet di p) i ≠ bitF s.dev (Reg.FIO_DI_STATE (sl p)) i →
        bitF t (Reg.FIO_DI_STATE (sl p)) i =
          (if rd s.dev (Reg.FIO_DI_CFG_DEBOUNCE (sl p) i) < mgetD (triGet s.dev.fio p).diCount i 0 + 1 then bitOf (triGet di p) i
            else bitF s.dev (Reg.FIO_DI_STATE (sl p)) i)) ∧
      (∀ i < 32, bitOf (triGet di p) i = bitF s.dev (Reg.FIO_DI_STATE (sl p)) i →
        bitF t (Reg.FIO_DI_STATE (sl p)) i = bitF s.dev (Reg.FIO_DI_STATE (sl p)) i)) ∧
    (∀ fs1 fs2, Answers (.fsMeasurement fs1 fs2) s fun t =>
      ∀ k v, (k = 0 ∧ v = triGet fs1 p / 10 * 10) ∨ (k = 1 ∧ v = triGet fs2 p / 10 * 10) →
        rd t (Reg.FIO_FS_MV (sl p) k) = trunc (Reg.FIO_FS_MV (sl p) k).w v ∧
        rd t (Reg.FIO_FS_STATE (sl p) k) = fsNext (fsLow p) (fsMissing p) (rd s.dev (Reg.FIO_FS_STATE (sl p) k))
          ((v :: mgetD (triGet s.dev.fio p).fs k []).take 10) ∧
        (rd s.dev (Reg.FIO_FS_STATE (sl p) k) = 0 → 18500 ≤ v → rd t (Reg.FIO_FS_STATE (sl p) k) = 0)) ∧
    (∀ k, fsMajority s.dev k = none → Answers (.fsStateDeferred k) s fun t => t = s.dev) ∧
    (∀ k st, fsMajority s.dev k = some st →
      (st ≠ mgetD s.dev.io.fsMaj k 2 → Answers (.fsStateDeferred k) s fun t =>
        mget t.io.fsMaj k = some st ∧ regsBut evCounts s.dev t ∧
        (intakeOpen s.dev Ev.FS_STATE (sevOf Ev.FS_STATE) → entered s.dev t Ev.FS_STATE (sevOf Ev.FS_STATE) (srcOf Ev.FS_STATE) 3
          [.w k, .w (mgetD s.dev.io.fsMaj k 2), .w st, .w (rd s.dev (Reg.FIO_FS_MV 0 k)), .w (rd s.dev (Reg.FIO_FS_MV 1 k)),
            .w (rd s.dev (Reg.FIO_FS_MV 2 k))])) ∧
      (st = mgetD s.dev.io.fsMaj k 2 → Answers (.fsStateDeferred k) s fun t => t = s.dev))

/-- FIO_LEG_WR, EXT_DRIVEN, OVERLOAD, THERMAL and a stopped slice clock: what each does to legs and flags (R75, R175, R268, R427, R429, R431, R432, R507). -/
def Obligations.LegsAndStages : Prop :=
  ∀ (s : State) (p : Pier) (n : Nat), Running s → n < 16 →
    (∀ v, triggerHolds s.dev p n = false → Answers (.fioLegWr p v) s fun t =>
      bitF t (Reg.FIO_LEG_STATE_APPLIED (sl p)) n =
        (if bitF s.dev (Reg.FIO_LEG_MASK_MASK (sl p)) n = true then bitOf v n && !legOverride s.dev p && outputDriven s.dev n
          else bitF s.dev (Reg.FIO_LEG_STATE_APPLIED (sl p)) n) ∧ regsOnly s.dev t) ∧
    (∀ v, triggerHolds s.dev p n = true → Answers (.fioLegWr p v) s fun t =>
      bitF t (Reg.FIO_LEG_STATE_APPLIED (sl p)) n = bitF s.dev (Reg.FIO_LEG_STATE_APPLIED (sl p)) n) ∧
    (∀ cls v, launchMissed s.dev p cls = true → Answers (.fioLegWrAtLaunch p cls v) s fun t =>
      bitF t (Reg.FIO_LEG_STATE_APPLIED (sl p)) n =
        (if bitF s.dev (Reg.FIO_LEG_MASK_MASK (sl p)) n = true ∧ triggerHolds s.dev p n = false then
          bitOf v n && !legOverride s.dev p && outputDriven s.dev n
        else bitF s.dev (Reg.FIO_LEG_STATE_APPLIED (sl p)) n) ∧ regsOnly s.dev t) ∧
    (∀ cls v, launchMissed s.dev p cls = false → legOverride s.dev p = true → Answers (.fioLegWrAtLaunch p cls v) s fun t =>
      rd t (Reg.FIO_LEG_STATE_APPLIED (sl p)) = rd s.dev (Reg.FIO_LEG_STATE_APPLIED (sl p)) ∧ regsOnly s.dev t) ∧
    (∀ cls v, launchMissed s.dev p cls = false → triggerHolds s.dev p n = false → legOverride s.dev p = false →
      bitF s.dev (Reg.FIO_LEG_MASK_MASK (sl p)) n = true →
      Answers (.fioLegWrAtLaunch p cls v) s fun t =>
        mget (triGet t.fio p).pending n = some (cls, bitOf v n) ∧
        rd t (Reg.FIO_LEG_STATE_APPLIED (sl p)) = rd s.dev (Reg.FIO_LEG_STATE_APPLIED (sl p))) ∧
    (bitF s.dev (Reg.FIO_DO_SW_SW_ON (sl p)) n = false → bitF s.dev (Reg.FIO_RB_STATE_DEB (sl p)) n = true →
      Answers (.extDrivenTimeout p n) s fun t => bitF t (Reg.FIO_DO_FAULT_EXT_DRIVEN (sl p)) n = true) ∧
    (bitF s.dev (Reg.FIO_DO_SW_SW_ON (sl p)) n = true ∨ bitF s.dev (Reg.FIO_RB_STATE_DEB (sl p)) n = false →
      Answers (.extDrivenTimeout p n) s fun t => t = s.dev) ∧
    (Answers (.overloadSet n) s fun t => bitF t (Reg.FIO_DO_FAULT_OVERLOAD (sl p)) n = true ∧ t.fio = s.dev.fio) ∧
    (Answers (.overloadClear n) s fun t => bitF t (Reg.FIO_DO_FAULT_OVERLOAD (sl p)) n = false ∧ t.fio = s.dev.fio) ∧
    (Answers (.thermalShutdown n) s fun t =>
      bitF t (Reg.FIO_DO_THERM_THERMAL (sl p)) n = true ∧
      rd t Reg.FIO_EVT_CNT_THERMAL = satAdd Reg.FIO_EVT_CNT_THERMAL.w (rd s.dev Reg.FIO_EVT_CNT_THERMAL) 1 ∧
      bitF t (Reg.FIO_DO_THERM_LOCKED (sl p)) n =
        (decide (7 ≤ (shutdownsOf s.dev n).length) || bitF s.dev (Reg.FIO_DO_THERM_LOCKED (sl p)) n)) ∧
    (twoLegsOn s.dev n = false → bitF s.dev (Reg.FIO_DO_THERM_LOCKED 0) n = false → Answers (.thermalRearm n) s fun t =>
      bitF t (Reg.FIO_DO_THERM_THERMAL (sl p)) n = false) ∧
    (twoLegsOn s.dev n = true ∨ bitF s.dev (Reg.FIO_DO_THERM_LOCKED 0) n = true → Answers (.thermalRearm n) s fun t => t = s.dev) ∧
    (Answers (.sliceClockStop p) s fun t =>
      rd t (Reg.FIO_LEG_STATE_APPLIED (sl p)) = 0 ∧ (triGet t.fio p).pending = [] ∧
      regsBut [Reg.FIO_LEG_STATE_APPLIED (sl p), Reg.FIO_LEG_STATE_PENDING (sl p)] s.dev t)

/-- SWITCH_FRAME_RECEIVED, gates, ageing, recovery reset, BPDU, TTDP and LINK_CHANGE act on their port and table (R279, R281, R282, R283, R284, R286, R287, R288, R289). -/
def Obligations.SwitchForwards : Prop :=
  ∀ s : State, Running s →
    (∀ p f, p < 7 →
      (netActive s.dev = false ∨ portUp s.dev p = false → Answers (.switchFrameReceived p f) s fun t => t = s.dev) ∧
      (netActive s.dev = true → portUp s.dev p = true →
        (Answers (.switchFrameReceived p f) s fun t =>
          rd t (Reg.SW_PORT_RX p) = trunc 32 (rd s.dev (Reg.SW_PORT_RX p) + 1) ∧ memSame s.dev t ∧ modeOf t = modeOf s.dev) ∧
        ((if f.rtag.isSome = true then 1528 else 1522) < f.len → Answers (.switchFrameReceived p f) s fun t =>
          rd t (Reg.SW_PORT_DROP_A_OVERSIZE p) = satAdd 16 (rd s.dev (Reg.SW_PORT_DROP_A_OVERSIZE p)) 1 ∧ regsOnly s.dev t ∧
          regsBut [Reg.SW_PORT_RX p, Reg.SW_PORT_DROP_A_OVERSIZE p] s.dev t) ∧
        (f.len ≤ (if f.rtag.isSome = true then 1528 else 1522) → (f.len < 64 ∨ f.fcsOk = false) → Answers (.switchFrameReceived p f) s fun t =>
          rd t (Reg.SW_PORT_DROP_A_FCS p) = satAdd 16 (rd s.dev (Reg.SW_PORT_DROP_A_FCS p)) 1 ∧ regsOnly s.dev t ∧
          regsBut [Reg.SW_PORT_RX p, Reg.SW_PORT_DROP_A_FCS p] s.dev t) ∧
        (64 ≤ f.len → f.len ≤ 1522 → f.fcsOk = true →
          (∀ vid, (f.tag = none ∧ vid = rd s.dev (Reg.SW_PORT_CFG_PVID p) ∨ ∃ pcp, f.tag = some (vid, pcp) ∧ vid ≠ 0) →
            (flag s.dev (Reg.SW_PORT_CFG_TAGGED_ONLY p) = true ∧ f.tag = none ∨
              (∀ n < 64, flag s.dev (Reg.SW_VLAN_VALID n) = true → rd s.dev (Reg.SW_VLAN_VID n) ≠ vid) ∨
              ∃ n, swVlan s.dev vid = some n ∧ bitF s.dev (Reg.SW_VLAN_MEMBERS n) p = false) → Answers (.switchFrameReceived p f) s fun t =>
              rd t (Reg.SW_PORT_DROP_B_VLAN p) = satAdd 16 (rd s.dev (Reg.SW_PORT_DROP_B_VLAN p)) 1 ∧ regsOnly s.dev t ∧
              regsBut [Reg.SW_PORT_RX p, Reg.SW_PORT_DROP_B_VLAN p] s.dev t) ∧
          (∀ n g, p < 6 → f.tag = none → flag s.dev (Reg.SW_PORT_CFG_TAGGED_ONLY p) = false →
            swVlan s.dev (rd s.dev (Reg.SW_PORT_CFG_PVID p)) = some n →
            bitF s.dev (Reg.SW_VLAN_MEMBERS n) p = true → bitF s.dev (Reg.SW_VLAN_MEMBERS n) 6 = true → portForwards s.dev p n = true →
            portForwards s.dev 6 n = true → flag s.dev Reg.SW_CFG_FRER_EN = false → f.rtag = none → f.ipDst = none → bitOf f.dst 40 = false →
            f.src ≠ f.dst → mget s.dev.sw.macs f.dst = some 6 → s.dev.sw.macs.length < 8192 → f.content = .trestle g → isMd g = true →
            s.dev.te.mdq.length < rd s.dev Reg.TE_CFG_MD_DEPTH → Answers (.switchFrameReceived p f) s fun t =>
              mget t.sw.macs f.src = some p ∧ t.te.mdq = s.dev.te.mdq ++ [g] ∧ t.sw.egress = s.dev.sw.egress ∧ t.out = s.dev.out ∧
              memSame s.dev t)))) ∧
    (∀ p role st, p < 6 → role < 4 → st < 4 →
      if netActive s.dev = true ∧ portUp s.dev p = true then
        if 2 ≤ p ∧ flag s.dev Reg.SW_CFG_RSTP_EN = true ∧ flag s.dev (Reg.SW_PORT_CFG_RSTP p) = true then
          Answers (.bpduReceived p role st) s fun t =>
            rd t (Reg.SW_PORT_STAT_RSTP_ROLE p) = role ∧ rd t (Reg.SW_PORT_STAT_RSTP_STATE p) = st ∧
            rd t (Reg.SW_PORT_RX p) = trunc 32 (rd s.dev (Reg.SW_PORT_RX p) + 1) ∧ reportsOnly s.dev t
        else Answers (.bpduReceived p role st) s fun t =>
          rd t (Reg.SW_PORT_RX p) = trunc 32 (rd s.dev (Reg.SW_PORT_RX p) + 1) ∧ regsOnly s.dev t ∧ regsBut [Reg.SW_PORT_RX p] s.dev t
      else Answers (.bpduReceived p role st) s fun t => t = s.dev) ∧
    (∀ r, netActive s.dev = false ∨ r = .nothing → Answers (.ttdpFrame r) s fun t => t = s.dev) ∧
    (netActive s.dev = true →
      (Answers (.ttdpFrame .running) s fun t => rd t Reg.TE_STATUS_INAUG = 1 ∧ regsOnly s.dev t ∧ regsBut [Reg.TE_STATUS_INAUG] s.dev t) ∧
      (Answers (.ttdpFrame .inhibited) s fun t => rd t Reg.TE_STATUS_INAUG = 3 ∧ regsOnly s.dev t ∧ regsBut [Reg.TE_STATUS_INAUG] s.dev t) ∧
      (∀ etb op consists pos orient rnat, Answers (.ttdpFrame (.done etb op consists pos orient rnat)) s fun t =>
        rd t Reg.TE_ETB_TOPO = trunc 32 etb ∧ rd t Reg.TE_OPTRN_TOPO = trunc 32 op ∧ rd t Reg.TE_STATUS_INAUG = 2 ∧
        rd t Reg.TE_STATUS_CONSISTS = trunc 6 consists ∧ rd t Reg.TE_STATUS_OWN_POS = trunc 6 pos ∧ rd t Reg.TE_STATUS_ORIENT = trunc 2 orient ∧
        t.sw.rnat = (rnat.take 256).foldl (fun m e => mput m e.1 e.2) [] ∧ t.sw.macs = s.dev.sw.macs)) ∧
    (∀ p, p < 6 →
      if flag s.dev (Reg.SW_GCL_CTRL_EN p) = true ∧ swGateIdx s.dev p + 1 < rd s.dev (Reg.SW_GCL_CTRL_LEN p) then
        Answers (.gateControlEntry p) s fun t => swGateIdx t p = swGateIdx s.dev p + 1 ∧ t.te = s.dev.te ∧ memSame s.dev t
      else Answers (.gateControlEntry p) s fun t => t = s.dev) ∧
    (∀ mac, Answers (.macAgeOut mac) s fun t =>
      t = { s.dev with sw := { s.dev.sw with macs := t.sw.macs } } ∧ ∀ m, mget t.sw.macs m = if m = mac then none else mget s.dev.sw.macs m) ∧
    (∀ n, n < 256 →
      if flag s.dev (Reg.SW_FRER_ID_VALID n) = true then Answers (.frerRecoveryReset n) s fun t =>
        mget t.sw.frer n = some ⟨0, 0, true⟩ ∧ rd t (Reg.SW_FRER_STAT_RESETS n) = satAdd 8 (rd s.dev (Reg.SW_FRER_STAT_RESETS n)) 1 ∧
        regsBut [Reg.SW_FRER_STAT_RESETS n] s.dev t
      else Answers (.frerRecoveryReset n) s fun t => t = s.dev) ∧
    (∀ p up speed gm r, p < 6 → speed < 4 →
      if flag s.dev (Reg.SW_PORT_STAT_LINK p) = up ∧ (up = false ∨ rd s.dev (Reg.SW_PORT_STAT_SPEED p) = speed) then
        Answers (.linkChange p up speed gm r) s fun t => t = s.dev
      else Answers (.linkChange p up speed gm r) s fun t =>
        flag t (Reg.SW_PORT_STAT_LINK p) = up ∧ rd t (Reg.SW_PORT_STAT_SPEED p) = (if up then speed else 0) ∧ memSame s.dev t ∧
        ((up = true ∨ rd s.dev Reg.TU_STATUS_SLAVE_PORT ≠ p) → reportsOnly s.dev t ∧
          regsBut ([Reg.SW_PORT_STAT_LINK p, Reg.SW_PORT_STAT_SPEED p] ++ evCounts) s.dev t ∧
          (intakeOpen s.dev Ev.LINK_CHANGE (sevOf Ev.LINK_CHANGE) →
            entered s.dev t Ev.LINK_CHANGE (sevOf Ev.LINK_CHANGE) (srcOf Ev.LINK_CHANGE) 3
              [.w p, .w (if up then 1 else 0), .w (if up then speed else 0)])))

/-- TRESTLE_UNIT takes the first pending work; its timeouts end a reassembly, a request and a subscription's freshness (R293, R294, R295, R296, R298, R302, R304, R305). -/
def Obligations.TrestleUnits : Prop :=
  ∀ s : State, Running s →
    (netActive s.dev = false ∨ pairHalted s.dev 2 = true → Answers .trestleUnit s fun t => t = s.dev) ∧
    (∀ k, netActive s.dev = true → pairHalted s.dev 2 = false → s.dev.te.unitNo = 15 → lbNext s.dev s.dev.te.turn = some k →
      Answers .trestleUnit s fun t =>
        t.te = { s.dev.te with
          unitNo := 0
          turn := (k + 1) % 7 } ∧ memSame s.dev t) ∧
    (commonTurn s.dev →
      (Answers .trestleUnit s fun t => t.te.unitNo = (s.dev.te.unitNo + 1) % 16 ∧ memSame s.dev t ∧ modeOf t = modeOf s.dev) ∧
      (∀ f since r, s.dev.te.pdq = (f, since) :: r →
        (Answers .trestleUnit s fun t =>
          t.te.pdq = r ∧ t.te.sendq = s.dev.te.sendq ∧ t.te.mdq = s.dev.te.mdq ∧ t.sw = s.dev.sw ∧ t.out = s.dev.out) ∧
        (∀ k, malformKind s.dev f = some k → k < 8 → Answers .trestleUnit s fun t =>
          rd t (Reg.TE_MALF k) = satAdd 32 (rd s.dev (Reg.TE_MALF k)) 1 ∧ t.te.subs = s.dev.te.subs ∧ t.te.seqs = s.dev.te.seqs) ∧
        (malformKind s.dev f = none →
          (∀ n, f.msg = 1 → tePubOf s.dev f.comId = some n → Answers .trestleUnit s fun t =>
            t.te.replies = s.dev.te.replies ++ [(n, f.src)] ∧ t.te.subs = s.dev.te.subs) ∧
          (∀ n e, f.msg ≠ 1 → teMatch s.dev f = some (n, e) →
            (pdStale s.dev f = false → Answers .trestleUnit s fun t =>
              (∃ x, mget t.te.subs n = some x ∧ x.payload = f.payload ∧ x.time = f.time ∧ x.sdt = f.sdt) ∧
              mget t.te.seqs (seqKey f) = some f.seq ∧ rd t (Reg.TE_SUB_STAT_STATE n) = 1) ∧
            (pdStale s.dev f = true → Answers .trestleUnit s fun t => t.te.subs = s.dev.te.subs ∧ t.te.seqs = s.dev.te.seqs)))) ∧
      (s.dev.te.pdq = [] →
        (∀ n tick since r p, s.dev.te.sendq = (n, tick, since) :: r → mget s.dev.img.pubs n = some p →
          (pubForm s.dev p = .none → Answers .trestleUnit s fun t =>
            t.te.sendq = r ∧ t.out = s.dev.out ∧ rd t (Reg.TE_PUB_STAT_STATE n) = 2) ∧
          (∀ x, pubForm s.dev p = .released → mget s.dev.te.pubs n = some x → (p.safety = true → x.etb = rd s.dev Reg.TE_ETB_TOPO) →
            Answers .trestleUnit s fun t =>
              t.te.sendq = r ∧ mget t.te.pubs n = some { x with seq := trunc 32 (x.seq + 1) } ∧ rd t (Reg.TE_PUB_STAT_STATE n) = 1 ∧
              ∃ l, t.out = s.dev.out ++
                [.pd n (trunc 32 (x.seq + 1)) (rd s.dev Reg.TE_ETB_TOPO) (rd s.dev Reg.TE_OPTRN_TOPO) false false x.payload] ++ l)) ∧
        (s.dev.te.sendq = [] →
          (∀ n dst r, s.dev.te.replies = (n, dst) :: r → Answers .trestleUnit s fun t =>
            t.te.replies = r ∧ t.te.sendq = [] ∧ t.te.mdq = s.dev.te.mdq) ∧
          (s.dev.te.replies = [] →
            (∀ k, lbNext s.dev s.dev.te.lbTurn = some k → Answers .trestleUnit s fun t =>
              t.te.lbTurn = (k + 1) % 7 ∧ t.te.mdq = s.dev.te.mdq ∧
              ∀ f r, (lbPort s.dev k).fifo = f :: r → (lbPort t k).fifo = r ∧ mget (lbPort t k).rx f.obj = some f) ∧
            (lbNext s.dev s.dev.te.lbTurn = none →
              (∀ f r, s.dev.te.mdq = f :: r → f.frag = none →
                (Answers .trestleUnit s fun t => t.te.mdq = r) ∧
                (malformKind s.dev f = none → f.msg < 5 → Answers .trestleUnit s fun t =>
                  t.out = s.dev.out ++ [.mdReceived f.src f.comId f.session f.payload]) ∧
                (∀ q c, malformKind s.dev f = none → 5 ≤ f.msg → mget s.dev.te.sessions f.session = some q → cmdOf s.dev q = some c →
                  c.again = false → s.dev.hm.powerFail = false → Answers .trestleUnit s fun t =>
                    mget t.te.sessions f.session = none ∧ finalAt t (jHead s.dev) c St.OK f.payload)) ∧
              (s.dev.te.mdq = [] → Answers .trestleUnit s fun t =>
                t = { s.dev with te := { s.dev.te with
                        unitNo := (s.dev.te.unitNo + 1) % 16
                        ctlq := s.dev.te.ctlq - 1 } })))))) ∧
    (∀ key,
      match mget s.dev.te.reasm key with
      | none => Answers (.mdReassemblyTimeout key) s fun t => t = s.dev
      | some r => Answers (.mdReassemblyTimeout key) s fun t =>
        mget t.te.reasm key = none ∧ rd t (Reg.TE_MALF 6) = satAdd 32 (rd s.dev (Reg.TE_MALF 6)) 1 ∧
        (isPd r.first = false → regsBut ([Reg.TE_MALF 6] ++ evCounts) s.dev t)) ∧
    (∀ session,
      match mget s.dev.te.sessions session with
      | none => Answers (.mdReplyTimeout session) s fun t => t = s.dev
      | some q => Answers (.mdReplyTimeout session) s fun t =>
        mget t.te.sessions session = none ∧
        ∀ c, cmdOf s.dev q = some c → c.again = false → s.dev.hm.powerFail = false → finalAt t (jHead s.dev) c St.MD_TIMEOUT []) ∧
    (∀ n,
      if rd s.dev (Reg.TE_SUB_STAT_STATE n) = 1 ∧
          ((mget s.dev.te.subs n).map (·.time)).getD 0 + ((mget s.dev.img.subs n).map (·.timeout)).getD 0 * 1000000 ≤ schedTime s.dev then
        Answers (.subscriptionTimeout n) s fun t =>
          rd t (Reg.TE_SUB_STAT_STATE n) = 2 ∧ regsOnly s.dev t ∧ regsBut [Reg.TE_SUB_STAT_STATE n] s.dev t
      else Answers (.subscriptionTimeout n) s fun t => t = s.dev)

/-- MVB, WTB and CAN commands: received frames queued, errors counted, lines changed, launches, bus-off and timeouts (R313, R314, R315, R316, R318, R319, R320, R321, R322, R324, R325, R326). -/
def Obligations.LegacyPorts : Prop :=
  ∀ s : State, Running s →
    (∀ m line f, m < 2 → lbActive s.dev m = false →
      (Answers (.mvbFrame m line f) s fun t => t = s.dev) ∧ (Answers (.mvbSinkTimeout m) s fun t => t = s.dev)) ∧
    (∀ m line, m < 2 → lbActive s.dev m = true →
      (Answers (.mvbFrame m line .bad) s fun t =>
        rd t (mvbErrFld m line) = satAdd 16 (rd s.dev (mvbErrFld m line)) 1 ∧ (lbPort t m).fifo = (lbPort s.dev m).fifo ∧
        if flag s.dev (Reg.LB_MVB_STAT_RX_LINE m) = line then
          flag t (Reg.LB_MVB_STAT_RX_LINE m) = (if 1 ≤ (lbPort s.dev m).errs then !line else line) ∧
          (lbPort t m).errs = (if 1 ≤ (lbPort s.dev m).errs then 0 else 1)
        else flag t (Reg.LB_MVB_STAT_RX_LINE m) = !line ∧ (lbPort t m).errs = (lbPort s.dev m).errs) ∧
      (∀ f, f ≠ .bad → Answers (.mvbFrame m line f) s fun t => flag t (mvbOkFld m line) = true ∧ memSame s.dev t) ∧
      (flag s.dev (Reg.LB_MVB_STAT_RX_LINE m) = line →
        (∀ addr payload, Answers (.mvbFrame m line (.slave addr payload)) s fun t =>
          (lbPort t m).errs = 0 ∧ t.out = s.dev.out ∧
          match lbRxOf s.dev m addr false with
          | none => (lbPort t m).fifo = (lbPort s.dev m).fifo
          | some obj =>
            if (lbPort s.dev m).fifo.length < 64 then (lbPort t m).fifo = (lbPort s.dev m).fifo ++ [⟨obj, schedTime s.dev, payload⟩]
            else (lbPort t m).fifo = (lbPort s.dev m).fifo ∧
              rd t (Reg.LB_MVB_TO_RX_OVF m) = satAdd 16 (rd s.dev (Reg.LB_MVB_TO_RX_OVF m)) 1) ∧
        (∀ fcode addr e p, fcode ≤ 4 → ((imgLb s.dev m).tx.find? fun e => e.2.ident == addr) = some e → lbForm s.dev m e.1 = some p →
          Answers (.mvbFrame m line (.master fcode addr)) s fun t =>
            t.out = s.dev.out ++ [.legacy m addr (if inRun s.dev then mgetD (lbPort s.dev m).store e.1 p else p)]) ∧
        (∀ gained master, Answers (.mvbFrame m line (.mastership gained master)) s fun t =>
          rd t (Reg.LB_MVB_STAT_MASTER m) =
            (if flag s.dev (Reg.LB_MVB_CFG_BA m) then if gained then 1 else 0 else rd s.dev (Reg.LB_MVB_STAT_MASTER m)) ∧
          (lbPort t m).fifo = (lbPort s.dev m).fifo)) ∧
      (Answers (.mvbSinkTimeout m) s fun t =>
        rd t (Reg.LB_MVB_TO_SINK_TO m) = satAdd 16 (rd s.dev (Reg.LB_MVB_TO_SINK_TO m)) 1 ∧ t.lb = s.dev.lb)) ∧
    (lbActive s.dev 2 = false → (∀ f, Answers (.wtbNodeFrame f) s fun t => t = s.dev) ∧ (Answers .wtbSwitchTimeout s fun t => t = s.dev)) ∧
    (lbActive s.dev 2 = true →
      (∀ node payload, lbRxOf s.dev 2 node false = none → Answers (.wtbNodeFrame (.data node payload)) s fun t => t = s.dev) ∧
      (∀ node payload obj, lbRxOf s.dev 2 node false = some obj → Answers (.wtbNodeFrame (.data node payload)) s fun t =>
        if (lbPort s.dev 2).fifo.length < 32 then
          (lbPort t 2).fifo = (lbPort s.dev 2).fifo ++ [⟨obj, schedTime s.dev, payload⟩] ∧ t.regs = s.dev.regs
        else (lbPort t 2).fifo = (lbPort s.dev 2).fifo ∧ (lbPort t 2).dropped = (lbPort s.dev 2).dropped + 1) ∧
      (∀ line, Answers (.wtbNodeFrame (.bad line)) s fun t =>
        rd t (if line then Reg.LB_WTB_ERR_LINE_B else Reg.LB_WTB_ERR_LINE_A) =
          satAdd 16 (rd s.dev (if line then Reg.LB_WTB_ERR_LINE_B else Reg.LB_WTB_ERR_LINE_A)) 1 ∧ regsOnly s.dev t) ∧
      (leaseHeld s.dev = true →
        (Answers (.wtbNodeFrame .poll) s fun t =>
          ∃ l, t = { s.dev with out := s.dev.out ++ [.legacy 2 0 l] }) ∧
        (∀ v, Answers (.wtbNodeFrame (.setting v)) s fun t =>
          (lbPort t 2).want = some v ∧ t.out = s.dev.out ++ [.wtbSwitch v] ∧ t.regs = s.dev.regs) ∧
        (Answers (.wtbNodeFrame .inaugurating) s fun t =>
          rd t Reg.LB_WTB_STAT_STATE = 1 ∧ regsOnly s.dev t ∧ regsBut [Reg.LB_WTB_STAT_STATE] s.dev t) ∧
        (∀ topo nodes own master, Answers (.wtbNodeFrame (.inaugurated topo nodes own master)) s fun t =>
          rd t Reg.LB_WTB_STAT_STATE = 2 ∧ rd t Reg.LB_WTB_TOPO_TOPO = trunc 6 topo ∧ rd t Reg.LB_WTB_STAT_NODES = trunc 6 nodes ∧
          rd t Reg.LB_WTB_STAT_NODE_ADDR = trunc 6 own ∧ flag t Reg.LB_WTB_STAT_MASTER = master ∧ reportsOnly s.dev t) ∧
        (Answers .wtbSwitchTimeout s fun t => rd t Reg.LB_WTB_STAT_STATE = 1 ∧ t.lb = s.dev.lb ∧ reportsOnly s.dev t)) ∧
      (leaseHeld s.dev = false →
        (∀ f, (∃ v, f = .setting v) ∨ f = .poll ∨ f = .inaugurating ∨ (∃ topo nodes own master, f = .inaugurated topo nodes own master) →
          Answers (.wtbNodeFrame f) s fun t => t = s.dev) ∧
        (Answers .wtbSwitchTimeout s fun t => t = s.dev))) ∧
    (match (lbPort s.dev 2).want with
      | none => Answers .wtbSwitchWaitExpiry s fun t => t = s.dev
      | some v => Answers .wtbSwitchWaitExpiry s fun t =>
        rd t Reg.LB_WTB_STAT_SWITCH = trunc 2 v ∧ flag t Reg.LB_WTB_STAT_TERM = (v == 1 || v == 2) ∧ (lbPort t 2).want = none ∧
        regsBut [Reg.LB_WTB_STAT_SWITCH, Reg.LB_WTB_STAT_TERM] s.dev t) ∧
    (∀ c, c < 4 →
      (lbActive s.dev (c + 3) = false → ∀ f, Answers (.canFrame c f) s fun t => t = s.dev) ∧
      (lbActive s.dev (c + 3) = true →
        (∀ tec rec_, Answers (.canFrame c (.errors tec rec_)) s fun t =>
          rd t (Reg.LB_CAN_STAT_TEC c) = min tec 255 ∧ rd t (Reg.LB_CAN_STAT_REC c) = min rec_ 255 ∧
          canState t (c + 3) =
            (if 2 ≤ canState s.dev (c + 3) then canState s.dev (c + 3) else if 256 ≤ tec then 2 else if 128 ≤ tec ∨ 128 ≤ rec_ then 1 else 0) ∧
          (canState s.dev (c + 3) < 2 → 256 ≤ tec →
            rd t (Reg.LB_CAN_DROP_BUSOFF c) = satAdd 8 (rd s.dev (Reg.LB_CAN_DROP_BUSOFF c)) 1 ∧
            bitF t Reg.LB_STATUS_FAULT (c + 3) =
              decide (3 ≤ ((lbPort s.dev (c + 3)).busOff.filter fun x => decide (s.dev.clk < x + 60 * second)).length))) ∧
        (∀ f, (∃ addr, f = .claimed addr) ∨ (∃ winner, f = .claimLost winner) → rd s.dev (Reg.LB_CAN_CFG_HL c) ≠ 2 →
          Answers (.canFrame c f) s fun t => t = s.dev) ∧
        (rd s.dev (Reg.LB_CAN_CFG_HL c) = 2 →
          (∀ addr, Answers (.canFrame c (.claimed addr)) s fun t =>
            rd t (Reg.LB_CAN_STAT_ADDR c) = trunc 8 addr ∧ (lbPort t (c + 3)).claimed = true ∧ regsBut [Reg.LB_CAN_STAT_ADDR c] s.dev t) ∧
          (∀ winner, Answers (.canFrame c (.claimLost winner)) s fun t =>
            rd t (Reg.LB_CAN_STAT_ADDR c) = 0xFE ∧ (lbPort t (c + 3)).mute = true ∧ canMaySend t (c + 3) = false ∧
            t.out = s.dev.out ++ [.j1939 (c + 3) 0xFE])) ∧
        (∀ ident ext fd payload,
          (canState s.dev (c + 3) = 2 ∨ (fd = true ∧ flag s.dev (Reg.LB_CAN_CFG_FD c) = false) →
            Answers (.canFrame c (.data ident ext fd payload)) s fun t => t = s.dev) ∧
          (canState s.dev (c + 3) ≠ 2 → (fd = false ∨ flag s.dev (Reg.LB_CAN_CFG_FD c) = true) →
            (canFilter s.dev (c + 3) ident ext = false ∨ lbRxOf s.dev (c + 3) ident ext = none →
              Answers (.canFrame c (.data ident ext fd payload)) s fun t =>
                rd t (Reg.LB_CAN_FILT_REJECTED c) = satAdd 16 (rd s.dev (Reg.LB_CAN_FILT_REJECTED c)) 1 ∧ t.lb = s.dev.lb) ∧
            (∀ obj, canFilter s.dev (c + 3) ident ext = true → lbRxOf s.dev (c + 3) ident ext = some obj →
              (lbPort s.dev (c + 3)).fifo.length < 256 → Answers (.canFrame c (.data ident ext fd payload)) s fun t =>
                (lbPort t (c + 3)).fifo = (lbPort s.dev (c + 3)).fifo ++ [⟨obj, schedTime s.dev, payload⟩] ∧ t.regs = s.dev.regs)))) ∧
      (∀ obj late, canHeld s.dev (c + 3) obj = none ∨ late = none ∨ canMaySend s.dev (c + 3) = false →
        Answers (.canLaunch c obj late) s fun t => t = s.dev) ∧
      (∀ obj h l, canHeld s.dev (c + 3) obj = some h → canMaySend s.dev (c + 3) = true → Answers (.canLaunch c obj (some l)) s fun t =>
        (lbPort t (c + 3)).hold = (lbPort s.dev (c + 3)).hold.erase h ∧
        if rd s.dev (Reg.LB_CAN_LATE_LATE_US c) ≤ l ∧ flag s.dev (Reg.LB_CAN_LATE_POLICY c) = true then
          t.out = s.dev.out ∧ rd t (Reg.LB_CAN_DROP_LAUNCH_DROP c) = satAdd 8 (rd s.dev (Reg.LB_CAN_DROP_LAUNCH_DROP c)) 1
        else t.out = s.dev.out ++ [.legacy (c + 3) h.obj h.payload] ∧
          rd t (Reg.LB_CAN_CNT_TX c) = trunc 16 (rd s.dev (Reg.LB_CAN_CNT_TX c) + 1)) ∧
      (∀ obj h, canHeld s.dev (c + 3) obj = some h → flag s.dev (Reg.LB_CAN_LATE_POLICY c) = true → Answers (.canLateLimit c obj) s fun t =>
        (lbPort t (c + 3)).hold = (lbPort s.dev (c + 3)).hold.erase h ∧ t.out = s.dev.out ∧
        rd t (Reg.LB_CAN_DROP_LAUNCH_DROP c) = satAdd 8 (rd s.dev (Reg.LB_CAN_DROP_LAUNCH_DROP c)) 1) ∧
      (∀ obj, canHeld s.dev (c + 3) obj = none ∨ flag s.dev (Reg.LB_CAN_LATE_POLICY c) = false →
        Answers (.canLateLimit c obj) s fun t => t = s.dev) ∧
      (if canState s.dev (c + 3) = 2 ∧ lbActive s.dev (c + 3) = true then Answers (.canBusoffRecovery c) s fun t =>
        canState t (c + 3) = 0 ∧ rd t (Reg.LB_CAN_STAT_TEC c) = 0 ∧ rd t (Reg.LB_CAN_STAT_REC c) = 0 ∧
        (lbPort t (c + 3)).hold = (if (lbPort s.dev (c + 3)).mute then (lbPort s.dev (c + 3)).hold
          else (lbPort s.dev (c + 3)).hold.filter (·.launch.isSome))
      else Answers (.canBusoffRecovery c) s fun t => t = s.dev) ∧
      (∀ node,
        match (mget (imgLb s.dev (c + 3)).heartbeats node).bind fun st => (mget s.dev.cyc.stations st).map fun x => (st, x) with
        | none => Answers (.canopenHeartbeatTimeout c node) s fun t => t = s.dev
        | some (st, x) => Answers (.canopenHeartbeatTimeout c node) s fun t =>
          mget t.cyc.stations st = some { x with seen := none } ∧ t = { s.dev with cyc := { s.dev.cyc with stations := t.cyc.stations } }))

/-- Frames and lanes of the Loenpa link, and how a lease is asked for, granted, kept alone and lost (R24, R367, R368, R369, R370, R371, R372, R373, R374, R375). -/
def Obligations.LinkAndLease : Prop :=
  ∀ s : State, Running s →
    (∀ lane, Answers (.loenpaFrame (.bad lane)) s fun t =>
      rd t (if lane then Reg.DX_LINK_ERR_LK_B else Reg.DX_LINK_ERR_LK_A) =
        satAdd 16 (rd s.dev (if lane then Reg.DX_LINK_ERR_LK_B else Reg.DX_LINK_ERR_LK_A)) 1 ∧ regsOnly s.dev t) ∧
    (Answers (.loenpaFrame .idle) s fun t => t = s.dev) ∧
    (∀ f, (∃ ring desc payload cs, f = .command ring desc payload cs ∧ executing s.dev = false) ∨
        (∃ e num, f = .epoch e num ∧ executing s.dev = true) ∨ (∃ id img, f = .loaded id img ∧ executing s.dev = true) ∨
        (∃ cmd rev cs, f = .changeSet cmd rev cs ∧ modeOf s.dev ≠ mSTANDBY) ∨ (∃ cmd, f = .stored cmd ∧ cmd ≠ s.dev.chg.cmd) ∨
        (∃ cycle, f = .confirm cycle ∧ s.dev.dx.sending ≠ some cycle) ∨ (∃ e, f = .image e ∧ rd s.dev Reg.MCTL_MODE_ROLE ≠ 2) ∨
        (∃ q crc, f = .report q crc ∧ executing s.dev = false) → Answers (.loenpaFrame f) s fun t => t = s.dev) ∧
    (∀ e num, executing s.dev = false → Answers (.loenpaFrame (.epoch e num)) s fun t =>
      rd t Reg.TU_EPOCH = trunc 64 (ofSigned 64 e) ∧ rd t Reg.TU_EPOCH_NUM = trunc 32 num ∧ t.dx.epochSeq = jHead s.dev ∧
      regsBut [Reg.TU_EPOCH, Reg.TU_EPOCH_NUM] s.dev t) ∧
    (∀ mode role pos claim image gen, Answers (.loenpaFrame (.status mode role pos claim image gen)) s fun t =>
      flag t Reg.DX_PEER_VALID = true ∧ rd t Reg.DX_PEER_MODE = trunc 4 mode ∧ rd t Reg.DX_PEER_ROLE = trunc 3 role ∧
      rd t Reg.DX_PEER_POS = trunc 1 pos ∧ rd t Reg.DX_PEER_IMAGE = trunc 32 image ∧ rd t Reg.DX_PEER_GEN = trunc 32 gen ∧
      t.dx.statusAt = some s.dev.clk) ∧
    (∀ lane, flag s.dev (laneFld lane) = true → Answers (.laneDown lane) s fun t =>
      flag t (laneFld lane) = false ∧ rd t (if lane then Reg.DX_LINK_DOWN_LK_B else Reg.DX_LINK_DOWN_LK_A) =
        satAdd 16 (rd s.dev (if lane then Reg.DX_LINK_DOWN_LK_B else Reg.DX_LINK_DOWN_LK_A)) 1) ∧
    (∀ lane, flag s.dev (laneFld lane) = false → Answers (.laneDown lane) s fun t => t = s.dev) ∧
    (∀ lane pos leaseMs guardMs image gen proto dropped,
      (flag s.dev (laneFld lane) = true ∨ proto ≠ (upSlot s.dev (slotBooted s.dev)).hdr.proto) →
        Answers (.laneUp lane pos leaseMs guardMs image gen proto dropped) s fun t =>
          flag t (laneFld lane) = flag s.dev (laneFld lane) ∧ t.dx = s.dev.dx ∧ modeOf t = modeOf s.dev) ∧
    (∀ lane pos leaseMs guardMs image gen proto dropped, flag s.dev (laneFld lane) = false →
      proto = (upSlot s.dev (slotBooted s.dev)).hdr.proto → Answers (.laneUp lane pos leaseMs guardMs image gen proto dropped) s fun t =>
        flag t (laneFld lane) = true ∧ t.dx.leaseMs = max (rd s.dev Reg.DX_LEASE_CFG_LEASE_MS) leaseMs ∧
        t.dx.guardMs = max (rd s.dev Reg.DX_LEASE_CFG_GUARD_MS) guardMs ∧ t.dx.handshake = true ∧
        rd t Reg.DX_PEER_IMAGE = trunc 32 image ∧ rd t Reg.DX_PEER_GEN = trunc 32 gen) ∧
    (linkUp s.dev = true →
      (Answers .loenpaIdleTimer s fun t => t = { s.dev with out := s.dev.out ++ [.loenpa .idle] }) ∧
      (Answers .statusFrameTimer s fun t => t = { s.dev with
        out := s.dev.out ++ [.loenpa (.status (modeOf s.dev) (rd s.dev Reg.MCTL_MODE_ROLE) (rd s.dev Reg.MCTL_PINS_POS)
          (rd s.dev Reg.DX_CLAIM_OWN) s.dev.mode.imageId s.dev.mode.generation)] }) ∧
      (simplex s.dev = false → rd s.dev Reg.DX_STATUS_LEASE ≠ 3 → flag s.dev Reg.DX_STATUS_POS_CONFLICT = false →
        (rd s.dev Reg.DX_STATUS_LEASE ≠ 0 ∨ flag s.dev Reg.DX_STATUS_REQUESTING = true) → Answers .leaseRenewTimer s fun t =>
          t.regs = s.dev.regs ∧ t.out = s.dev.out ++ [.loenpa (.request ((servicePiers s.dev).map fun p =>
            (pierIdx p, trunc 16 ((triGet s.dev.dx.slices p).ctr + 1))))])) ∧
    (linkUp s.dev = false →
      (Answers .loenpaIdleTimer s fun t => t = s.dev) ∧ (Answers .statusFrameTimer s fun t => t = s.dev) ∧
      (∀ p, simplex s.dev = false → rd s.dev Reg.DX_STATUS_LEASE ≠ 3 → rd s.dev Reg.DX_STATUS_LEASE ≠ 0 →
        inService s.dev p = true → (triGet s.dev.dx.slices p).steady = true → flag s.dev Reg.MCTL_PINS_PEER_STANDBY = true →
        Answers .leaseRenewTimer s fun t =>
          rd t Reg.DX_STATUS_LEASE = 2 ∧ sliceLease t p = true ∧ (triGet t.dx.slices p).deadline = s.dev.clk + leaseNs s.dev)) ∧
    ((simplex s.dev = true ∨ rd s.dev Reg.DX_STATUS_LEASE = 3 ∨
        (rd s.dev Reg.DX_STATUS_LEASE = 0 ∧ (linkUp s.dev = false ∨ flag s.dev Reg.DX_STATUS_REQUESTING = false)) ∨
        (linkUp s.dev = true ∧ flag s.dev Reg.DX_STATUS_POS_CONFLICT = true)) → Answers .leaseRenewTimer s fun t => t = s.dev) ∧
    (∀ counters, grantsNow s.dev = true → flag s.dev Reg.DX_STATUS_REQUESTING = false → Answers (.leaseRequest counters) s fun t =>
      t.out = s.dev.out ++ [.loenpa (.grant (s.dev.dx.grantSeq + 1) counters)] ∧ t.dx.lastReq = some s.dev.clk ∧
      rd t Reg.DX_GRANT_CNT_GRANTED = satAdd 16 (rd s.dev Reg.DX_GRANT_CNT_GRANTED) 1 ∧ regsBut [Reg.DX_GRANT_CNT_GRANTED] s.dev t) ∧
    (∀ counters, Answers (.leaseRequest counters) s fun t =>
      t.dx.lastReq = some s.dev.clk ∧ rd t Reg.DX_STATUS_LEASE = rd s.dev Reg.DX_STATUS_LEASE ∧
      (rd s.dev Reg.DX_STATUS_LEASE = 0 → rd s.dev Reg.MCTL_PINS_POS = 1 → flag t Reg.DX_STATUS_REQUESTING = false)) ∧
    (∀ counters, grantsNow s.dev = false → flag s.dev Reg.DX_STATUS_REQUESTING = false → Answers (.leaseRequest counters) s fun t =>
      t = { s.dev with dx := { s.dev.dx with lastReq := some s.dev.clk } }) ∧
    (∀ counters ok, (ok = false ∨ simplex s.dev = true ∨ rd s.dev Reg.DX_STATUS_LEASE = 3 ∨
        (rd s.dev Reg.DX_STATUS_LEASE = 0 ∧ flag s.dev Reg.DX_STATUS_REQUESTING = false) ∨
        (∀ p : Pier, ∀ e ∈ counters, e.1 = pierIdx p → ∀ x ∈ (triGet s.dev.dx.slices p).sent, x.1 ≠ e.2)) →
      Answers (.leaseGrant counters ok) s fun t => t = s.dev) ∧
    (∀ counters, simplex s.dev = false → rd s.dev Reg.DX_STATUS_LEASE ≠ 3 →
      (rd s.dev Reg.DX_STATUS_LEASE ≠ 0 ∨ flag s.dev Reg.DX_STATUS_REQUESTING = true) →
      votingPiers s.dev ≠ [] → (∀ p ∈ votingPiers s.dev, ∃ c at_, (counters.find? fun e => e.1 == pierIdx p) = some (pierIdx p, c) ∧
        (c, at_) ∈ (triGet s.dev.dx.slices p).sent ∧ s.dev.clk ≤ at_ + leaseNs s.dev) → Answers (.leaseGrant counters true) s fun t =>
          rd t Reg.DX_STATUS_LEASE = 1 ∧ (rd s.dev Reg.DX_STATUS_LEASE = 0 → rd t Reg.MCTL_MODE_ROLE = 4) ∧
          (∀ p ∈ votingPiers s.dev, sliceLease t p = true) ∧
          rd t Reg.DX_GRANT_CNT_RENEWED = satAdd 16 (rd s.dev Reg.DX_GRANT_CNT_RENEWED) 1) ∧
    (∀ p, simplex s.dev = true ∨ rd s.dev Reg.DX_STATUS_LEASE = 3 ∨ sliceLease s.dev p = false →
      Answers (.sliceLeaseExpiry p) s fun t => t = s.dev) ∧
    (∀ p, simplex s.dev = false → rd s.dev Reg.DX_STATUS_LEASE ≠ 3 → sliceLease s.dev p = true → Answers (.sliceLeaseExpiry p) s fun t =>
      sliceLease t p = false ∧ rd t (Reg.FIO_LEG_STATE_APPLIED (sl p)) = 0 ∧
      (rd s.dev Reg.DX_STATUS_LEASE ≠ 0 → majority s.dev (fun q => q == p || !sliceLease s.dev q) = true →
        t.mode.leaseLost = true ∧ rd t Reg.DX_STATUS_LEASE = 0 ∧ rd t Reg.MCTL_MODE_ROLE = 2)) ∧
    (if simplex s.dev = true ∨ partnerAbsent s.dev = false ∨ flag s.dev Reg.DX_STATUS_POS_CONFLICT = true ∨
        rd s.dev Reg.DX_STATUS_LEASE = 3 ∨ (rd s.dev Reg.DX_STATUS_LEASE = 0 ∧ rd s.dev Reg.MCTL_MODE_ROLE ≠ 3) then
      Answers .partnerAbsentGuard s fun t => t = s.dev
    else Answers .partnerAbsentGuard s fun t =>
      rd t Reg.DX_STATUS_LEASE = 3 ∧ rd t Reg.FIO_STATUS_LEASE_OK = 7 ∧ flag t Reg.DX_STATUS_REQUESTING = false ∧
      (rd s.dev Reg.DX_STATUS_LEASE = 0 → rd t Reg.MCTL_MODE_ROLE = 4)) ∧
    (∀ alive standby, Answers (.peerPinChange alive standby) s fun t =>
      flag t Reg.MCTL_PINS_PEER_ALIVE = alive ∧ flag t Reg.MCTL_PINS_PEER_STANDBY = standby) ∧
    (∀ standby, simplex s.dev = false → modeOf s.dev = mSTANDBY → rd s.dev Reg.DX_STATUS_TK_PHASE = 0 →
      flag s.dev Reg.DX_STATUS_POS_CONFLICT = false → rd s.dev Reg.DX_CMP_CFG_MISMATCH_N = 0 → Answers (.peerPinChange false standby) s fun t =>
        rd t Reg.DX_STATUS_TK_PHASE = 1 ∧ t.dx.tkCause = 2 ∧ t.dx.tkStart = s.dev.clk)

/-- What starts a takeover, what aborts its wait, what its end gives and what loading the checkpoint leaves (R386, R387, R388, R389, R390). -/
def Obligations.Takeover : Prop :=
  ∀ s : State, Running s →
    (simplex s.dev = false → modeOf s.dev = mSTANDBY → rd s.dev Reg.DX_STATUS_TK_PHASE = 0 → flag s.dev Reg.DX_STATUS_POS_CONFLICT = false →
      ∀ c k, (c = Instr.requestsStoppedTimeout ∧ linkUp s.dev = true ∧ k = 3) ∨
        (c = Instr.peerStandingByTimeout ∧ linkUp s.dev = false ∧ flag s.dev Reg.MCTL_PINS_PEER_STANDBY = true ∧ k = 4) ∨
        (c = Instr.handoverNotice ∧ k = 5) → Answers c s fun t =>
          rd t Reg.DX_STATUS_TK_PHASE = 1 ∧ t.dx.tkCause = k ∧ t.dx.tkStart = s.dev.clk ∧ t.dx.loaded = false ∧
          t.dx.waitEnd = s.dev.clk + (s.dev.dx.leaseMs + s.dev.dx.guardMs) * msec) ∧
    ((linkUp s.dev = false ∨ modeOf s.dev ≠ mSTANDBY ∨ rd s.dev Reg.DX_STATUS_TK_PHASE ≠ 0 ∨ flag s.dev Reg.DX_STATUS_POS_CONFLICT = true ∨
        simplex s.dev = true) → Answers .requestsStoppedTimeout s fun t => t = s.dev) ∧
    ((linkUp s.dev = true ∨ flag s.dev Reg.MCTL_PINS_PEER_STANDBY = false ∨ modeOf s.dev ≠ mSTANDBY ∨
        rd s.dev Reg.DX_STATUS_TK_PHASE ≠ 0 ∨ flag s.dev Reg.DX_STATUS_POS_CONFLICT = true ∨ simplex s.dev = true) →
      Answers .peerStandingByTimeout s fun t => t = s.dev) ∧
    ((modeOf s.dev ≠ mSTANDBY ∨ rd s.dev Reg.DX_STATUS_TK_PHASE ≠ 0 ∨ flag s.dev Reg.DX_STATUS_POS_CONFLICT = true) →
      Answers .handoverNotice s fun t => t = s.dev) ∧
    (if rd s.dev Reg.DX_STATUS_TK_PHASE = 1 ∧ rd s.dev Reg.MCTL_PINS_POS = 1 then Answers .takeoverNotice s fun t =>
        rd t Reg.DX_TAKEOVER_ABORTS = satAdd 8 (rd s.dev Reg.DX_TAKEOVER_ABORTS) 1 ∧
        (flag s.dev Reg.MCTL_PINS_PEER_ALIVE = true → rd s.dev Reg.DX_CMP_CFG_MISMATCH_N = 0 → rd t Reg.DX_STATUS_TK_PHASE = 0)
      else Answers .takeoverNotice s fun t => t = s.dev) ∧
    (rd s.dev Reg.DX_STATUS_TK_PHASE = 1 → flag s.dev Reg.MCTL_PINS_PEER_ALIVE = true → flag s.dev Reg.MCTL_PINS_PEER_STANDBY = false →
      Answers .takeoverWaitEnd s fun t =>
        rd t Reg.DX_TAKEOVER_ABORTS = satAdd 8 (rd s.dev Reg.DX_TAKEOVER_ABORTS) 1 ∧
        rd t Reg.DX_STATUS_LEASE = rd s.dev Reg.DX_STATUS_LEASE ∧
        (rd s.dev Reg.DX_CMP_CFG_MISMATCH_N = 0 → rd t Reg.DX_STATUS_TK_PHASE = 0)) ∧
    (rd s.dev Reg.DX_STATUS_TK_PHASE = 1 →
      ¬ (flag s.dev Reg.MCTL_PINS_PEER_ALIVE = true ∧ flag s.dev Reg.MCTL_PINS_PEER_STANDBY = false) → Answers .takeoverWaitEnd s fun t =>
        rd t Reg.DX_STATUS_TK_PHASE = 2 ∧ rd t Reg.DX_TAKEOVER_CAUSE = trunc 4 s.dev.dx.tkCause ∧ rd t Reg.MCTL_MODE_ROLE = 4 ∧
        rd t Reg.DX_STATUS_LEASE = (if partnerAbsent s.dev then 3 else 4) ∧
        if flag s.dev Reg.DX_STATUS_CP_VALID = true ∧ flag s.dev Reg.DX_STATUS_IMAGE_MATCH = true then
          t.dx.tkMode = (if s.dev.dx.peerMode = some mRUN then mRUN else mSTOP) ∧ t.dx.loaded = s.dev.dx.loaded
        else t.dx.tkMode = mSTOP ∧ t.dx.loaded = true ∧ t.mode.started = false) ∧
    (rd s.dev Reg.DX_STATUS_TK_PHASE ≠ 1 → Answers .takeoverWaitEnd s fun t => t = s.dev) ∧
    (∀ c v ms, rd s.dev Reg.DX_STATUS_TK_PHASE = 2 → s.dev.dx.loaded = false → cpNamed s.dev = some c → 2 ≤ (votingPiers s.dev).length →
      modeOf s.dev ≠ mSAFE → Answers (.checkpointLoaded ⟨v, v, v⟩ ms) s fun t =>
        t.dx.loaded = true ∧ t.mode.started = true ∧ t.mode.generation = c.generation ∧
        rd t Reg.DX_TAKEOVER_TIME_LOAD_MS = min ms 0xFFFF) ∧
    (∀ c v ms, rd s.dev Reg.DX_STATUS_TK_PHASE = 2 → s.dev.dx.loaded = false → cpNamed s.dev = some c → 2 ≤ (votingPiers s.dev).length →
      modeOf s.dev = mSAFE → Answers (.checkpointLoaded ⟨v, v, v⟩ ms) s fun t =>
        rd t Reg.DX_STATUS_TK_PHASE = 0 ∧ regsOnly s.dev t ∧ regsBut [Reg.DX_STATUS_TK_PHASE] s.dev t) ∧
    (∀ sigs ms, rd s.dev Reg.DX_STATUS_TK_PHASE ≠ 2 ∨ s.dev.dx.loaded = true ∨ cpNamed s.dev = none →
      Answers (.checkpointLoaded sigs ms) s fun t => t = s.dev)

/-- Checkpoints, the synchronised image, the level journal and output declarations reach their module (R79, R378, R379, R380, R381, R382, R383). -/
def Obligations.StandbyKeepsUp : Prop :=
  ∀ s : State, Running s →
    (∀ c, s.dev.dx.taking = some c → s.dev.hm.powerFail = false → Answers .checkpointComplete s fun t =>
      cpNamed t = some { c with time := schedTime s.dev } ∧ t.dx.taking = none ∧
      ∀ x ∈ s.dev.hi.cmds, x.phase = .waiting → x.desc.op = 0x0F → cmdOf t x.seq = none) ∧
    (∀ c, s.dev.dx.taking = some c → s.dev.hm.powerFail = false → (∀ x ∈ s.dev.hi.cmds, x.phase = .waiting → x.desc.op ≠ 0x0F) → Answers .checkpointComplete s fun t =>
      cpNamed t = some { c with time := schedTime s.dev } ∧ rd t Reg.DX_CP_LAST = trunc 64 c.cycle ∧ rd t Reg.DX_CP_GEN = trunc 32 c.generation ∧
      t.dx.taking = none ∧ t.hi.cmds = s.dev.hi.cmds ∧ regsBut [Reg.DX_CP_LAST, Reg.DX_CP_GEN] s.dev t) ∧
    (s.dev.dx.taking = none → Answers .checkpointComplete s fun t => t = s.dev) ∧
    (∀ c, modeOf s.dev = mSTANDBY → rd s.dev Reg.DX_STATUS_TK_PHASE = 0 → s.dev.hm.powerFail = false → s.dev.store.log = [] →
      imageMatches c.imageId c.generation s.dev = true → Answers (.checkpointData c true) s fun t =>
        cpNamed t = some c ∧ flag t Reg.DX_STATUS_CP_VALID = true ∧ rd t Reg.DX_CP_LAST = trunc 64 c.cycle ∧
        t.out = s.dev.out ++ (if linkUp s.dev then [.loenpa (.confirm c.cycle)] else [])) ∧
    (∀ c, modeOf s.dev = mSTANDBY → rd s.dev Reg.DX_STATUS_TK_PHASE = 0 → flag s.dev Reg.DX_STATUS_IMAGE_MATCH = false →
      imageMatches c.imageId c.generation s.dev = false → Answers (.checkpointData c true) s fun t =>
        t = { s.dev with dx := { s.dev.dx with assembled := some c } }) ∧
    (∀ c ok, ok = false ∨ modeOf s.dev ≠ mSTANDBY ∨ rd s.dev Reg.DX_STATUS_TK_PHASE ≠ 0 → Answers (.checkpointData c ok) s fun t => t = s.dev) ∧
    (∀ image gen img secs, rd s.dev Reg.MCTL_MODE_ROLE = 2 → Answers (.imageSynced image gen img secs) s fun t =>
      t.mode.imageId = image ∧ t.mode.generation = gen ∧ t.img = img ∧ t.store.current = some img ∧ t.store.log = [] ∧
      flag t Reg.DX_STATUS_IMAGE_MATCH = true ∧ t.dx.assembled = none ∧
      regsBut ([Reg.DX_STATUS_IMAGE_MATCH, Reg.DX_STATUS_CP_VALID, Reg.DX_CP_LAST, Reg.DX_CP_GEN] ++ evCounts) s.dev t) ∧
    (∀ image gen img secs, rd s.dev Reg.MCTL_MODE_ROLE ≠ 2 → Answers (.imageSynced image gen img secs) s fun t => t = s.dev) ∧
    (∀ dv entries, executing s.dev = true → Answers (.journalLevelled dv entries) s fun t =>
      flag t Reg.DX_STATUS_JOURNAL_LEVEL = true ∧ t.hi.journal = s.dev.hi.journal) ∧
    (∀ dv, executing s.dev = false → Answers (.journalLevelled (some dv) []) s fun t =>
      flag t Reg.DX_STATUS_JOURNAL_LEVEL = true ∧ t.hi.journal = s.dev.hi.journal.filter (fun e => decide (e.1 < dv)) ∧
      jHead t = trunc 64 (min dv (jHead s.dev))) ∧
    (∀ q e, executing s.dev = false → s.dev.hm.powerFail = false → Answers (.journalLevelled none [(q, e)]) s fun t =>
      flag t Reg.DX_STATUS_JOURNAL_LEVEL = true ∧ mget t.hi.journal q = some { e with partner := !e.partner }) ∧
    (∀ x, modeOf s.dev = mSTANDBY → Answers (.outputDeclaration x) s fun t =>
      mget t.dx.decls x.cycle = some x ∧ t = { s.dev with dx := { s.dev.dx with decls := t.dx.decls } }) ∧
    (∀ x, modeOf s.dev ≠ mSTANDBY → Answers (.outputDeclaration x) s fun t => t = s.dev)

/-- A backplane access from the queue through request, grant and data phase to its result, and its failures (R397, R399, R400, R401, R404, R405, R411, R412). -/
def Obligations.GirderTransactions : Prop :=
  ∀ s : State, Running s →
    ((s.dev.gb.open_.isSome = true ∨ pairHalted s.dev 4 = true ∨ gbNext s.dev = none) → Answers .girderRequestStart s fun t => t = s.dev) ∧
    (∀ r, s.dev.gb.open_ = none → pairHalted s.dev 4 = false → s.dev.gb.urgent = [] → s.dev.gb.queue = [r] →
      (gbRefused s.dev r = false → flag s.dev Reg.GB_STATUS_CLK_OK = true →
        (flag s.dev Reg.GB_STATUS_BP_RESET = true → Answers .girderRequestStart s fun t => t = s.dev) ∧
        (flag s.dev Reg.GB_STATUS_BP_RESET = false → usesLine s.dev r = false → mget s.dev.gb.lines r.win = none →
          Answers .girderRequestStart s fun t =>
            t.gb.queue = [] ∧ rd t Reg.GB_STATUS_QUEUE = 0 ∧
            t.gb.open_ = some ⟨[r], flag s.dev Reg.GB_STATUS_OWNER, false, none, false, false, none⟩ ∧
            t.out = s.dev.out ++ (if flag s.dev Reg.GB_STATUS_OWNER then
              [.backplane (r.kind == 0) (r.kind == 2) (winAddr s.dev r.win r.off) r.be
                (if r.kind = 0 then [winSwap s.dev r.win r.be r.data] else [])] else [])) ∧
        (∀ w, flag s.dev Reg.GB_STATUS_BP_RESET = false → usesLine s.dev r = true → r.origin = .deck → lineWord s.dev r.win r.off = some w →
          Answers .girderRequestStart s fun t =>
            t.gb.queue = [] ∧ t.gb.open_ = none ∧ t.out = s.dev.out ++ [.deckAccess (gbTarget r.win r.off) gsOK w])) ∧
      (∀ st, (gbRefused s.dev r = true ∧ st = gsDISCARDED ∨
          gbRefused s.dev r = false ∧ flag s.dev Reg.GB_STATUS_CLK_OK = false ∧ st = gsNO_CLOCK) → r.origin = .deck →
        Answers .girderRequestStart s fun t =>
          t.gb.queue = [] ∧ t.gb.open_ = none ∧
          t.out = s.dev.out ++ [.deckAccess (gbTarget r.win r.off) st (if r.kind = 0 then r.data else 0)]) ∧
      (flag s.dev Reg.GB_STATUS_BP_RESET = true → r.origin = .deck → Answers .grantTimeout s fun t =>
        t.gb.queue = [] ∧ rd t Reg.GB_FAIL_B_NO_GRANT = satAdd 8 (rd s.dev Reg.GB_FAIL_B_NO_GRANT) 1 ∧
        t.out = s.dev.out ++ [.deckAccess (gbTarget r.win r.off) gsNO_GRANT (if r.kind = 0 then r.data else 0)])) ∧
    ((s.dev.gb.open_.map (·.granted)).getD true = true → Answers .grantReceived s fun t => t = s.dev) ∧
    (((∃ o, s.dev.gb.open_ = some o ∧ o.granted = true) ∨ (s.dev.gb.open_ = none ∧ flag s.dev Reg.GB_STATUS_BP_RESET = false)) →
      Answers .grantTimeout s fun t => t = s.dev) ∧
    (∀ o r, s.dev.gb.open_ = some o → o.reqs = [r] → o.granted = false →
      (mget s.dev.gb.lines r.win = none → Answers .grantReceived s fun t =>
        t.gb.open_ = some { o with granted := true } ∧ flag t Reg.GB_STATUS_OWNER = true ∧
        t.out = s.dev.out ++ [.backplane (r.kind == 0) (r.kind == 2)
          (winAddr s.dev r.win (if o.fill.isSome then r.off / 32 * 32 else r.off)) (if o.fill.isSome then 15 else r.be)
          (if r.kind = 0 then [winSwap s.dev r.win r.be r.data] else [])]) ∧
      (r.origin = .deck → Answers .grantTimeout s fun t =>
        t.gb.open_ = none ∧ rd t Reg.GB_FAIL_B_NO_GRANT = satAdd 8 (rd s.dev Reg.GB_FAIL_B_NO_GRANT) 1 ∧
        t.out = s.dev.out ++ [.deckAccess (gbTarget r.win r.off) gsNO_GRANT (if r.kind = 0 then r.data else 0)])) ∧
    (∀ e, (s.dev.gb.open_.map (·.granted)).getD false = false →
      (Answers (.dataPhaseEnd e) s fun t => t = s.dev) ∧ (Answers .dataPhaseTimeout s fun t => t = s.dev)) ∧
    (∀ o r, s.dev.gb.open_ = some o → o.reqs = [r] → o.granted = true → o.burst = false → r.origin = .deck → r.win < 8 →
      (∀ data, Answers (.dataPhaseEnd (.ready data)) s fun t =>
        rd t (Reg.GB_WIN_ACC r.win) = trunc 32 (rd s.dev (Reg.GB_WIN_ACC r.win) + 1) ∧
        (r.kind = 0 → t.gb.open_ = none ∧ t.out = s.dev.out ++ [.deckAccess (gbTarget r.win r.off) gsOK r.data]) ∧
        (r.kind = 1 → o.fill = none → t.gb.open_ = none ∧
          t.out = s.dev.out ++ [.deckAccess (gbTarget r.win r.off) gsOK (winSwap s.dev r.win r.be data &&& beMask r.be)]) ∧
        (∀ ws, r.kind = 1 → o.fill = some ws → ws.length ≠ 7 →
          t.gb.open_ = some { o with fill := some (ws ++ [winSwap s.dev r.win 15 data]) } ∧ t.out = s.dev.out) ∧
        (∀ ws, r.kind = 1 → o.fill = some ws → ws.length = 7 → t.gb.open_ = none ∧
          t.out = s.dev.out ++
            [.deckAccess (gbTarget r.win r.off) gsOK ((ws ++ [winSwap s.dev r.win 15 data]).getD (r.off % 32 / 4) 0)]) ∧
        (r.kind = 2 → o.rmwOld = none → o.withdrawn = false → o.stop = false →
          let old := winSwap s.dev r.win r.be data &&& beMask r.be
          t.gb.open_ = some { o with rmwOld := some old } ∧
          t.out = s.dev.out ++ [.backplane true true (winAddr s.dev r.win r.off) r.be [winSwap s.dev r.win r.be (rmwNew old r)]]) ∧
        (∀ old, r.kind = 2 → o.rmwOld = some old → t.gb.open_ = none ∧
          t.out = s.dev.out ++ [.deckAccess (gbTarget r.win r.off) gsOK old])) ∧
      (Answers (.dataPhaseEnd .error) s fun t =>
        t.gb.open_ = none ∧ rd t Reg.GB_FAIL_A_TARGET_ERR = satAdd 16 (rd s.dev Reg.GB_FAIL_A_TARGET_ERR) 1 ∧
        t.out = s.dev.out ++ [.deckAccess (gbTarget r.win r.off) gsTARGET_ERR (o.rmwOld.getD (if r.kind = 0 then r.data else 0))]) ∧
      (Answers (.dataPhaseEnd .parity) s fun t =>
        t.gb.open_ = none ∧ rd t Reg.GB_FAIL_B_PARITY = satAdd 8 (rd s.dev Reg.GB_FAIL_B_PARITY) 1 ∧
        t.out = s.dev.out ++ [.deckAccess (gbTarget r.win r.off) gsPARITY (o.rmwOld.getD (if r.kind = 0 then r.data else 0))]) ∧
      (Answers .dataPhaseTimeout s fun t =>
        t.gb.open_ = none ∧ rd t Reg.GB_FAIL_A_TIMEOUT = satAdd 16 (rd s.dev Reg.GB_FAIL_A_TIMEOUT) 1 ∧
        t.out = s.dev.out ++ [.deckAccess (gbTarget r.win r.off) gsTIMEOUT (o.rmwOld.getD (if r.kind = 0 then r.data else 0))])) ∧
    (∀ o, s.dev.gb.open_ = some o →
      (Answers .grantWithdrawn s fun t => t = { s.dev with gb := { s.dev.gb with open_ := some { o with withdrawn := true } } }) ∧
      (Answers .busOwnershipLimit s fun t => t = { s.dev with gb := { s.dev.gb with release := true } })) ∧
    (∀ c, c = Instr.grantWithdrawn ∨ c = Instr.busOwnershipLimit → s.dev.gb.open_ = none → Answers c s fun t =>
      flag t Reg.GB_STATUS_OWNER = false ∧ regsOnly s.dev t ∧ regsBut [Reg.GB_STATUS_OWNER] s.dev t) ∧
    (nothingHeld s.dev ∨ (flag s.dev Reg.KS_STATUS_FROZEN = true ∧ piersIdle s.dev) → Answers .girderQueueFreed s fun t => t = s.dev) ∧
    (∀ q part a, flag s.dev Reg.KS_STATUS_FROZEN = false → s.dev.ks.windows = [] → s.dev.ks.slots = [] → piersIdle s.dev →
      s.dev.ks.releasing = [.req q part (some a) (some a)] → q.unit = 1 →
      (leaseHeld s.dev = false → Answers .girderQueueFreed s fun t =>
        t.ks.releasing = [] ∧ t.gb = s.dev.gb ∧ rd t Reg.KS_REQ_DISCARD_LEASE = satAdd 16 (rd s.dev Reg.KS_REQ_DISCARD_LEASE) 1) ∧
      (leaseHeld s.dev = true → modeOf s.dev = mSTOP ∨ modeOf s.dev = mHOLD → Answers .girderQueueFreed s fun t =>
        t.ks.releasing = [] ∧ t.gb = s.dev.gb ∧
        rd t Reg.KS_REQ_DISCARD_MODE_MODE = satAdd 16 (rd s.dev Reg.KS_REQ_DISCARD_MODE_MODE) 1) ∧
      (leaseHeld s.dev = true → modeOf s.dev ≠ mSTOP → modeOf s.dev ≠ mHOLD → gbRoom s.dev = true → Answers .girderQueueFreed s fun t =>
        t.ks.releasing = [] ∧ t.gb.queue = s.dev.gb.queue ++ [gbOfReq q] ∧ rd t Reg.GB_STATUS_QUEUE = s.dev.gb.queue.length + 1) ∧
      (leaseHeld s.dev = true → modeOf s.dev ≠ mSTOP → modeOf s.dev ≠ mHOLD → gbRoom s.dev = false → Answers .girderQueueFreed s fun t =>
        t.ks.releasing = s.dev.ks.releasing ∧ t.gb = s.dev.gb ∧ t.ks.holding = true ∧
        rd t Reg.GB_QUEUE_FULL = (if s.dev.ks.holding then rd s.dev Reg.GB_QUEUE_FULL else satAdd 16 (rd s.dev Reg.GB_QUEUE_FULL) 1))) ∧
    (∀ kind win off be data mask,
      (gbRoom s.dev = true → Answers (.deckWindowAccess kind win off be data mask) s fun t =>
        t.gb.queue = s.dev.gb.queue ++ [⟨.deck, kind, win, off, be, data, mask, false⟩] ∧
        rd t Reg.GB_STATUS_QUEUE = s.dev.gb.queue.length + 1 ∧ regsBut [Reg.GB_STATUS_QUEUE, Reg.GB_QUEUE_PEAK] s.dev t) ∧
      (gbRoom s.dev = false → Answers (.deckWindowAccess kind win off be data mask) s fun t => t = s.dev))

/-- BP_RESET, BP_RESET_RELEASED, BP_CLOCK_LOST, SNOOP_WRITE and BP_INTERRUPT (R398, R412, R413, R416, R417). -/
def Obligations.BackplaneLines : Prop :=
  ∀ s : State, Running s →
    (flag s.dev Reg.GB_STATUS_BP_RESET = false → Answers .bpReset s fun t =>
      flag t Reg.GB_STATUS_BP_RESET = true ∧ t.gb.bpSince = s.dev.clk ∧ ∀ w < 8, mget t.gb.lines w = none) ∧
    (flag s.dev Reg.GB_STATUS_BP_RESET = false → s.dev.gb.open_ = none → s.dev.gb.lines = [] → Answers .bpReset s fun t =>
      flag t Reg.GB_STATUS_BP_RESET = true ∧ t.gb = { s.dev.gb with bpSince := s.dev.clk } ∧ regsBut [Reg.GB_STATUS_BP_RESET] s.dev t ∧
      t.out = s.dev.out) ∧
    (flag s.dev Reg.GB_STATUS_BP_RESET = true →
      (Answers .bpReset s fun t => t = s.dev) ∧
      (Answers .bpResetReleased s fun t => flag t Reg.GB_STATUS_BP_RESET = false ∧ reportsOnly s.dev t ∧
        regsBut ([Reg.GB_STATUS_BP_RESET] ++ evCounts) s.dev t ∧
        (intakeOpen s.dev Ev.GB_BP_RESET (sevOf Ev.GB_BP_RESET) → entered s.dev t Ev.GB_BP_RESET (sevOf Ev.GB_BP_RESET) (srcOf Ev.GB_BP_RESET) 3
          [.w ((s.dev.clk - s.dev.gb.bpSince) / 1000)]))) ∧
    (flag s.dev Reg.GB_STATUS_BP_RESET = false → Answers .bpResetReleased s fun t => t = s.dev) ∧
    (flag s.dev Reg.GB_STATUS_CLK_OK = true → Answers .bpClockLost s fun t =>
      flag t Reg.GB_STATUS_CLK_OK = false ∧ t.gb.queue = [] ∧ t.gb.urgent = [] ∧ t.gb.open_ = none ∧ modeOf t = modeOf s.dev) ∧
    (flag s.dev Reg.GB_STATUS_CLK_OK = true → s.dev.gb.open_ = none → s.dev.gb.urgent = [] → (∀ r ∈ s.dev.gb.queue, r.origin = .deck) →
      Answers .bpClockLost s fun t =>
        flag t Reg.GB_STATUS_CLK_OK = false ∧ t.gb.queue = [] ∧ rd t Reg.GB_STATUS_QUEUE = 0 ∧
        t.out = s.dev.out ++ s.dev.gb.queue.map fun r =>
          .deckAccess (gbTarget r.win r.off) gsNO_CLOCK (if r.kind = 0 then r.data else 0)) ∧
    (flag s.dev Reg.GB_STATUS_CLK_OK = false → Answers .bpClockLost s fun t => t = s.dev) ∧
    (∀ win off be data,
      (flag s.dev Reg.GB_CFG_SNOOP_EN = true → winMaps s.dev win off = true → gbObserved s.dev win off = true → s.dev.gb.snoop.length < 65536 →
        Answers (.snoopWrite win off be data) s fun t =>
          t.gb.snoop = s.dev.gb.snoop ++ [(gbTarget win off, winSwap s.dev win be data &&& beMask be)] ∧
          rd t Reg.GB_SNOOP_HELD = s.dev.gb.snoop.length + 1 ∧ rd t Reg.GB_SNOOP_CNT = trunc 32 (rd s.dev Reg.GB_SNOOP_CNT + 1) ∧
          regsBut [Reg.GB_SNOOP_HELD, Reg.GB_SNOOP_CNT] s.dev t) ∧
      (flag s.dev Reg.GB_CFG_SNOOP_EN = true → winMaps s.dev win off = true → gbObserved s.dev win off = true → 65536 ≤ s.dev.gb.snoop.length →
        s.dev.gb.snoopDead = false → Answers (.snoopWrite win off be data) s fun t =>
          flag t Reg.GB_STATUS_SNOOP_OVF = true ∧ t.gb = { s.dev.gb with snoopDead := true } ∧
          regsBut ([Reg.GB_STATUS_SNOOP_OVF] ++ evCounts) s.dev t) ∧
      ((flag s.dev Reg.GB_CFG_SNOOP_EN = false ∨ winMaps s.dev win off = false ∨ gbObserved s.dev win off = false ∨
          (65536 ≤ s.dev.gb.snoop.length ∧ s.dev.gb.snoopDead = true)) → Answers (.snoopWrite win off be data) s fun t => t = s.dev)) ∧
    (∀ level, Answers (.bpInterrupt level) s fun t =>
      flag t Reg.GB_INT_LEVEL = level ∧ rd t Reg.GB_INT_EDGES =
        (if level && !flag s.dev Reg.GB_INT_LEVEL then trunc 16 (rd s.dev Reg.GB_INT_EDGES + 1) else rd s.dev Reg.GB_INT_EDGES) ∧
      regsOnly s.dev t ∧ regsBut [Reg.GB_INT_LEVEL, Reg.GB_INT_EDGES] s.dev t)

/-- Packets of both paths are opened, filled, queued and sent; what is refused is counted; a port at rest does nothing (R437, R440, R442, R443, R444, R445, R450). -/
def Obligations.CausewaySends : Prop :=
  ∀ (s : State) (n : Nat), Running s → n < 2 → s.dev.cw.length = 2 →
    (cwActive s.dev n = true →
      (∀ prio len,
        match cwOpenCheck n false len s.dev with
        | none => Answers (.cwTxOpen n prio len) s fun t =>
          (cwPort t n).deckOpen = some ⟨prio, len, []⟩ ∧ (cwPort t n).deckRefused = 0 ∧ (cwPort t n).txq = (cwPort s.dev n).txq ∧
          t.out = s.dev.out ∧
          (if (cwPort s.dev n).deckOpen = none then t.regs = s.dev.regs
            else rd t (Reg.CW_TX_ERR_FORM n) = satAdd 8 (rd s.dev (Reg.CW_TX_ERR_FORM n)) 1)
        | some r => Answers (.cwTxOpen n prio len) s fun t =>
          (cwPort t n).deckOpen = none ∧ (cwPort t n).deckRefused = len ∧ (cwPort t n).txq = (cwPort s.dev n).txq ∧
          (let f := if r = 1 then Reg.CW_TX_ERR_OVERSIZE n else Reg.CW_TX_ERR_NOSPACE n;
            rd t f = satAdd 8 (rd s.dev f) 1 ∧ ((cwPort s.dev n).deckOpen = none → regsBut ([f] ++ evCounts) s.dev t))) ∧
      (∀ o w, (cwPort s.dev n).deckOpen = some o →
        (o.words.length + 1 = o.len → Answers (.cwTxData n w) s fun t =>
          (cwPort t n).deckOpen = none ∧ (cwPort t n).txq = (cwPort s.dev n).txq ++ [⟨o.prio, o.words ++ [w], 0⟩] ∧ t.regs = s.dev.regs) ∧
        (o.words.length + 1 ≠ o.len → Answers (.cwTxData n w) s fun t =>
          (cwPort t n).deckOpen = some { o with words := o.words ++ [w] } ∧ (cwPort t n).txq = (cwPort s.dev n).txq ∧ t.regs = s.dev.regs)) ∧
      (∀ w, (cwPort s.dev n).deckOpen = none → (cwPort s.dev n).deckRefused = 0 → Answers (.cwTxData n w) s fun t =>
        rd t (Reg.CW_TX_ERR_FORM n) = satAdd 8 (rd s.dev (Reg.CW_TX_ERR_FORM n)) 1 ∧ (cwPort t n).txq = (cwPort s.dev n).txq) ∧
      (∀ w, (cwPort s.dev n).deckOpen = none → (cwPort s.dev n).deckRefused ≠ 0 → Answers (.cwTxData n w) s fun t =>
        (cwPort t n).deckRefused = (cwPort s.dev n).deckRefused - 1 ∧ (cwPort t n).txq = (cwPort s.dev n).txq ∧ t.regs = s.dev.regs) ∧
      (∀ attr payload, bitOf attr 7 = true →
        (∀ r, cwOpenCheck n true (bitField attr 8 13) s.dev = some r → Answers (.cwTxPush n attr payload) s fun t =>
          (cwPort t n).appOpen = none ∧ (cwPort t n).appRefused = !bitOf attr 6 ∧ (cwPort t n).txq = (cwPort s.dev n).txq ∧
          (let f := if r = 0 then Reg.CW_TX_ERR_LEASE n else if r = 1 then Reg.CW_TX_ERR_OVERSIZE n else Reg.CW_TX_ERR_NOSPACE n;
            rd t f = satAdd 8 (rd s.dev f) 1)) ∧
        (cwOpenCheck n true (bitField attr 8 13) s.dev = none → (cwPort s.dev n).appOpen = none → payload.length % 4 = 0 →
          (bitOf attr 6 = true → (wordsOf payload).length = bitField attr 8 13 → Answers (.cwTxPush n attr payload) s fun t =>
            (cwPort t n).appOpen = none ∧ (cwPort t n).txq = (cwPort s.dev n).txq ++ [⟨bitField attr 0 3, wordsOf payload, 0⟩] ∧
            t.regs = s.dev.regs) ∧
          (bitOf attr 6 = false → Answers (.cwTxPush n attr payload) s fun t =>
            (cwPort t n).appOpen = some ⟨bitField attr 0 3, bitField attr 8 13, wordsOf payload⟩ ∧
            (cwPort t n).txq = (cwPort s.dev n).txq ∧ t.regs = s.dev.regs)) ∧
        (cwOpenCheck n true (bitField attr 8 13) s.dev = none → (cwPort s.dev n).appOpen = none →
          (payload.length % 4 ≠ 0 ∨ (bitOf attr 6 = true ∧ (wordsOf payload).length ≠ bitField attr 8 13)) →
          Answers (.cwTxPush n attr payload) s fun t =>
            (cwPort t n).appOpen = none ∧ (cwPort t n).txq = (cwPort s.dev n).txq ∧
            rd t (Reg.CW_TX_ERR_FORM n) = satAdd 8 (rd s.dev (Reg.CW_TX_ERR_FORM n)) 1)) ∧
      (∀ attr payload, bitOf attr 7 = false →
        ((cwPort s.dev n).appRefused = true → Answers (.cwTxPush n attr payload) s fun t =>
          (cwPort t n).appRefused = (!bitOf attr 6) ∧ (cwPort t n).txq = (cwPort s.dev n).txq ∧ t.regs = s.dev.regs) ∧
        ((cwPort s.dev n).appRefused = false → (cwPort s.dev n).appOpen = none → Answers (.cwTxPush n attr payload) s fun t =>
          rd t (Reg.CW_TX_ERR_FORM n) = satAdd 8 (rd s.dev (Reg.CW_TX_ERR_FORM n)) 1 ∧ (cwPort t n).txq = (cwPort s.dev n).txq) ∧
        (∀ o, (cwPort s.dev n).appRefused = false → (cwPort s.dev n).appOpen = some o →
          (payload.length % 4 = 0 → bitOf attr 6 = false → Answers (.cwTxPush n attr payload) s fun t =>
            (cwPort t n).appOpen = some { o with words := o.words ++ wordsOf payload } ∧ (cwPort t n).txq = (cwPort s.dev n).txq ∧
            t.regs = s.dev.regs) ∧
          (payload.length % 4 = 0 → bitOf attr 6 = true → (o.words ++ wordsOf payload).length = o.len →
            Answers (.cwTxPush n attr payload) s fun t =>
              (cwPort t n).appOpen = none ∧ (cwPort t n).txq = (cwPort s.dev n).txq ++ [⟨o.prio, o.words ++ wordsOf payload, 0⟩] ∧
              t.regs = s.dev.regs) ∧
          ((payload.length % 4 ≠ 0 ∨ (bitOf attr 6 = true ∧ (o.words ++ wordsOf payload).length ≠ o.len)) →
            Answers (.cwTxPush n attr payload) s fun t =>
              (cwPort t n).appOpen = none ∧ (cwPort t n).txq = (cwPort s.dev n).txq ∧
              rd t (Reg.CW_TX_ERR_FORM n) = satAdd 8 (rd s.dev (Reg.CW_TX_ERR_FORM n)) 1))) ∧
      (∀ b, (flag s.dev (Reg.CW_STATUS_HI n) = true ∨ (cwPort s.dev n).sending.isSome = true ∨ (cwPort s.dev n).txq = []) →
        Answers (.cwPacketTxStart n b) s fun t => t = s.dev) ∧
      (∀ p, flag s.dev (Reg.CW_STATUS_HI n) = false → (cwPort s.dev n).sending = none → cwBest (cwPort s.dev n).txq = some p →
        (Answers (.cwPacketTxStart n false) s fun t =>
          (cwPort t n).sending = some p ∧ (cwPort t n).txq = (cwPort s.dev n).txq.erase p ∧ flag t (Reg.CW_STATUS_TX_BUSY n) = true ∧
          regsBut [Reg.CW_STATUS_TX_BUSY n] s.dev t) ∧
        (Answers (.cwPacketTxStart n true) s fun t =>
          (cwPort t n).sending = none ∧ (cwPort t n).txq = (cwPort s.dev n).txq.erase p ∧ t.out = s.dev.out ++ [.cwAborted n] ∧
          rd t (Reg.CW_PAR_TX n) = satAdd 8 (rd s.dev (Reg.CW_PAR_TX n)) 1))) ∧
    (cwActive s.dev n = false → ∀ c, (∃ prio len, c = Instr.cwTxOpen n prio len) ∨ (∃ w, c = Instr.cwTxData n w) ∨
      (∃ attr payload, c = Instr.cwTxPush n attr payload) ∨ (∃ b, c = Instr.cwPacketTxStart n b) → Answers c s fun t => t = s.dev) ∧
    (∀ p, (cwPort s.dev n).sending = some p → Answers (.cwPacketTxDone n) s fun t =>
      (cwPort t n).sending = none ∧ t.out = s.dev.out ++ [.cwSent n p] ∧ flag t (Reg.CW_STATUS_TX_BUSY n) = false ∧
      rd t (Reg.CW_TX_CNT n) = trunc 32 (rd s.dev (Reg.CW_TX_CNT n) + 1) ∧ regsBut [Reg.CW_STATUS_TX_BUSY n, Reg.CW_TX_CNT n] s.dev t) ∧
    ((cwPort s.dev n).sending = none → Answers (.cwPacketTxDone n) s fun t => t = s.dev)

/-- Received packets are queued or discarded and counted; link, hold lines, watermarks and reads of the head packet (R438, R441, R445, R446, R447, R448). -/
def Obligations.CausewayReceives : Prop :=
  ∀ (s : State) (n : Nat), Running s → n < 2 → s.dev.cw.length = 2 →
    (∀ header words code crc w, cwActive s.dev n = false →
      (Answers (.cwPacketReceived n header words code crc) s fun t => t = s.dev) ∧ (Answers (.cwRxFillHigh n w) s fun t => t = s.dev)) ∧
    (∀ header words code crc w, cwActive s.dev n = true → (cwPort s.dev n).rxIgnore = true →
      (Answers (.cwPacketReceived n header words code crc) s fun t =>
        (cwPort t n).rxIgnore = false ∧ (cwPort t n).rxq = (cwPort s.dev n).rxq ∧ t.regs = s.dev.regs) ∧
      (Answers (.cwRxFillHigh n w) s fun t => t = s.dev)) ∧
    (cwActive s.dev n = true → (cwPort s.dev n).rxIgnore = false →
      (∀ header words, header < 8 → words.length ≤ 4096 →
        packetWords (cwPort s.dev n).rxq + optWords (cwPort s.dev n).rxCur + words.length ≤ cwEntries →
        Answers (.cwPacketReceived n header words false true) s fun t =>
          (cwPort t n).rxq = (cwPort s.dev n).rxq ++ [⟨header, words, schedTime s.dev⟩] ∧ (cwPort t n).rxPart = 0 ∧
          rd t (Reg.CW_RX_CNT n) = trunc 32 (rd s.dev (Reg.CW_RX_CNT n) + 1) ∧ t.out = s.dev.out) ∧
      (∀ header words code crc f,
        (code = true ∧ f = Reg.CW_RX_ERR_CODE n ∨ code = false ∧ 4096 < words.length ∧ f = Reg.CW_RX_ERR_OVERSIZE n ∨
          code = false ∧ words.length ≤ 4096 ∧
            cwEntries < packetWords (cwPort s.dev n).rxq + optWords (cwPort s.dev n).rxCur + words.length ∧ f = Reg.CW_RX_ERR_NOSPACE n ∨
          code = false ∧ words.length ≤ 4096 ∧
            packetWords (cwPort s.dev n).rxq + optWords (cwPort s.dev n).rxCur + words.length ≤ cwEntries ∧ (crc = false ∨ 8 ≤ header) ∧
            f = Reg.CW_RX_ERR_CRC n) → Answers (.cwPacketReceived n header words code crc) s fun t =>
        (cwPort t n).rxq = (cwPort s.dev n).rxq ∧ rd t f = satAdd 8 (rd s.dev f) 1 ∧
        (cwPort t n).lost = (cwPort s.dev n).lost + 1) ∧
      (∀ w, packetWords (cwPort s.dev n).rxq + optWords (cwPort s.dev n).rxCur + w ≤ cwEntries → Answers (.cwRxFillHigh n w) s fun t =>
        (cwPort t n).rxPart = w ∧ (cwPort t n).rxq = (cwPort s.dev n).rxq ∧
        (rd s.dev (Reg.CW_WM_HIGH n) ≤ packetWords (cwPort s.dev n).rxq + optWords (cwPort s.dev n).rxCur + w →
          flag t (Reg.CW_STATUS_HO n) = true)) ∧
      (∀ w, cwEntries < packetWords (cwPort s.dev n).rxq + optWords (cwPort s.dev n).rxCur + w → Answers (.cwRxFillHigh n w) s fun t =>
        (cwPort t n).rxIgnore = true ∧ (cwPort t n).rxPart = 0 ∧
        rd t (Reg.CW_RX_ERR_NOSPACE n) = satAdd 8 (rd s.dev (Reg.CW_RX_ERR_NOSPACE n)) 1)) ∧
    (flag s.dev (Reg.CW_STATUS_LINK n) = false →
      (Answers (.cwLinkUp n) s fun t => flag t (Reg.CW_STATUS_LINK n) = true ∧ regsBut ([Reg.CW_STATUS_LINK n] ++ evCounts) s.dev t ∧
        reportsOnly s.dev t) ∧
      (Answers (.cwLinkLoss n) s fun t => t = s.dev)) ∧
    (flag s.dev (Reg.CW_STATUS_LINK n) = true →
      (Answers (.cwLinkUp n) s fun t => t = s.dev) ∧
      (Answers (.cwLinkLoss n) s fun t => flag t (Reg.CW_STATUS_LINK n) = false ∧
        rd t (Reg.CW_PAR_LINK_DOWN n) = satAdd 8 (rd s.dev (Reg.CW_PAR_LINK_DOWN n)) 1 ∧ (cwPort t n).rxIgnore = false ∧
        (cwPort t n).rxPart = 0 ∧ (cwPort t n).rxq = (cwPort s.dev n).rxq)) ∧
    (∀ level, Answers (.cwHoldInChange n level) s fun t =>
      flag t (Reg.CW_STATUS_HI n) = level ∧ rd t (Reg.CW_HOLD_HI_COUNT n) = (if level && !flag s.dev (Reg.CW_STATUS_HI n) then
        satAdd 16 (rd s.dev (Reg.CW_HOLD_HI_COUNT n)) 1 else rd s.dev (Reg.CW_HOLD_HI_COUNT n)) ∧
      regsOnly s.dev t ∧ regsBut [Reg.CW_STATUS_HI n, Reg.CW_HOLD_HI_COUNT n] s.dev t) ∧
    (∀ bad, (cwPort s.dev n).rxCur = none → (cwPort s.dev n).rxq = [] → Answers (.cwRxDataRead n bad) s fun t =>
      t = { s.dev with out := s.dev.out ++ [.read (Reg.CW_RX_DATA n).addr 0] }) ∧
    (∀ c rest, ((cwPort s.dev n).rxCur = some c ∧ rest = (cwPort s.dev n).rxq ∨
        (cwPort s.dev n).rxCur = none ∧ cwBest (cwPort s.dev n).rxq = some c ∧ rest = (cwPort s.dev n).rxq.erase c) →
      (Answers (.cwRxDataRead n true) s fun t =>
        t.out = s.dev.out ++ [.read (Reg.CW_RX_DATA n).addr 0] ∧ (cwPort t n).rxq = rest ∧ (cwPort t n).rxCur = none ∧
        (cwPort t n).rxPos = 0 ∧ rd t (Reg.CW_PAR_RX n) = satAdd 8 (rd s.dev (Reg.CW_PAR_RX n)) 1) ∧
      Answers (.cwRxDataRead n false) s fun t =>
      t.out = s.dev.out ++ [.read (Reg.CW_RX_DATA n).addr (c.words.getD (cwPort s.dev n).rxPos 0)] ∧
      (cwPort t n).rxq = rest ∧
      (cwPort t n).rxCur = (if c.words.length ≤ (cwPort s.dev n).rxPos + 1 then none else some c) ∧
      (cwPort t n).rxPos = (if c.words.length ≤ (cwPort s.dev n).rxPos + 1 then 0 else (cwPort s.dev n).rxPos + 1)) ∧
    (∀ high low, (64 ≤ high ∧ high ≤ 12224 ∧ low + 64 ≤ high → Answers (.cwWmWrite n high low) s fun t =>
        rd t (Reg.CW_WM_HIGH n) = high ∧ rd t (Reg.CW_WM_LOW n) = low ∧ t.cw = s.dev.cw) ∧
      (¬ (64 ≤ high ∧ high ≤ 12224 ∧ low + 64 ≤ high) → Answers (.cwWmWrite n high low) s fun t =>
        flag t (Reg.CW_STATUS_WREJ n) = true ∧ regsOnly s.dev t ∧ regsBut [Reg.CW_STATUS_WREJ n] s.dev t))

/-- CAISSON_STORE_START and CAISSON_STORE_DONE: a store begins, comes into force, is repeated once, then freezes stores (R472, R473, R476, R478, R501). -/
def Obligations.CaissonStores : Prop :=
  ∀ s : State, Running s →
    ((s.dev.cs.queue = [] ∨ pairHalted s.dev 6 = true ∨ flag s.dev Reg.CS_STATUS_BUSY = true ∨ s.dev.hm.powerFail = true) →
      Answers .caissonStoreStart s fun t => t = s.dev) ∧
    ((s.dev.cs.queue = [] ∨ pairHalted s.dev 6 = true ∨ flag s.dev Reg.CS_STATUS_BUSY = false) →
      ∀ f, Answers (.caissonStoreDone f) s fun t => t = s.dev) ∧
    (∀ x r, s.dev.cs.queue = x :: r → pairHalted s.dev 6 = false →
      (flag s.dev Reg.CS_STATUS_BUSY = false → s.dev.hm.powerFail = false →
        (flag s.dev Reg.CS_STATUS_FROZEN = false → Answers .caissonStoreStart s fun t =>
          flag t Reg.CS_STATUS_BUSY = true ∧ (csBank t (csTarget s.dev)).valid = false ∧ (csBank t (csTarget s.dev)).recs = (csBank s.dev (csTarget s.dev)).recs ∧
          t.cs.queue = s.dev.cs.queue ∧ regsBut [Reg.CS_STATUS_BUSY] s.dev t ∧ memSame s.dev t) ∧
        (flag s.dev Reg.CS_STATUS_FROZEN = true → Answers .caissonStoreStart s fun t =>
          t.cs.queue = r ∧ t.cs.banks = s.dev.cs.banks ∧ rd t Reg.CS_STORES_FAILED = satAdd 16 (rd s.dev Reg.CS_STORES_FAILED) 1 ∧
          storeEnded x St.SETTINGS_NV_FAIL s.dev t)) ∧
      (flag s.dev Reg.CS_STATUS_BUSY = true →
        (Answers (.caissonStoreDone none) s fun t =>
          t.cs.queue = r ∧ mget t.cs.banks (csTarget s.dev) = some (csBuild x s.dev) ∧ t.cs.inForce = true ∧
          rd t Reg.CS_STATUS_ACTIVE = csTarget s.dev ∧ rd t Reg.CS_SEQ = trunc 64 (csNextSeq s.dev) ∧ flag t Reg.CS_STATUS_BUSY = false ∧
          rd t Reg.CS_STORES_DONE = trunc 16 (rd s.dev Reg.CS_STORES_DONE + 1) ∧ storeEnded x St.OK s.dev t) ∧
        (∀ off, s.dev.cs.again = false → Answers (.caissonStoreDone (some off)) s fun t =>
          t.cs.queue = s.dev.cs.queue ∧ t.cs.again = true ∧ rd t Reg.CS_FAIL_ADDR_BANK = csTarget s.dev ∧
          rd t Reg.CS_FAIL_ADDR_OFFSET = trunc 18 off ∧ flag t Reg.CS_STATUS_BUSY = true ∧ t.cs.banks = s.dev.cs.banks) ∧
        (∀ off, s.dev.cs.again = true → Answers (.caissonStoreDone (some off)) s fun t =>
          t.cs.queue = r ∧ flag t Reg.CS_STATUS_FROZEN = true ∧ flag t Reg.CS_STATUS_BUSY = false ∧
          bitF t Reg.CS_STATUS_FAILED (csTarget s.dev) = true ∧ bitF t Reg.CS_STATUS_VALID (csTarget s.dev) = false ∧
          rd t Reg.CS_STORES_FAILED = satAdd 16 (rd s.dev Reg.CS_STORES_FAILED) 1 ∧ storeEnded x St.SETTINGS_NV_FAIL s.dev t)))

/-- Offers, chunks and replies of the relay, timeouts of a hop, the next chunk sent, and the end of an install (R487, R490, R491, R492, R493, R494, R497, R498). -/
def Obligations.UpdateRelay : Prop :=
  ∀ s : State, Running s →
    (relayRuns s.dev = false →
      (∀ dest dir m, Answers (.offerReceived dest dir m) s fun t => t = s.dev) ∧
      (∀ dest identity index b, Answers (.chunkReceived dest identity index b) s fun t => t = s.dev) ∧
      (∀ k h, Answers (.relayRateInterval k h) s fun t => t = s.dev)) ∧
    (relayRuns s.dev = true →
      (∀ dest dir m, (manifestOk m = false ∨ ¬ (dir = 1 ∨ dir = 2)) → Answers (.offerReceived dest dir m) s fun t =>
        t.out = s.dev.out ++ [.upReply dest m.identity 4 0] ∧ t.upd = s.dev.upd ∧
        rd t Reg.UP_ERR_OFFERS_REFUSED = satAdd 8 (rd s.dev Reg.UP_ERR_OFFERS_REFUSED) 1) ∧
      (∀ dest dir m, manifestOk m = true → (dir = 1 ∨ dir = 2) → pkgFind s.dev m.identity = none →
        (∀ k, pkgChoose s.dev = some k → Answers (.offerReceived dest dir m) s fun t =>
          (∃ p o, pkgOf t k = some p ∧ p.man = m ∧ p.held = 0 ∧ p.state = 1 ∧ p.dir = dir ∧ p.sender = some dest ∧ p.from_ = dest ∧ p.data = [] ∧
            t.out = s.dev.out ++ .upReply dest m.identity 0 0 :: o) ∧
          (dest = 0 → pkgOf t k = some ⟨m, 0, 1, dir, 0, false, 0, some 0, hopNone, hopNone, hopNone, s.dev.upd.count, []⟩ ∧
            t.out = s.dev.out ++ [.upReply 0 m.identity 0 0])) ∧
        (pkgChoose s.dev = none → Answers (.offerReceived dest dir m) s fun t =>
          t.out = s.dev.out ++ [.upReply dest m.identity 3 0] ∧ t.upd = s.dev.upd ∧
          rd t Reg.UP_ERR_OFFERS_REFUSED = satAdd 8 (rd s.dev Reg.UP_ERR_OFFERS_REFUSED) 1)) ∧
      (∀ dest dir m k p, manifestOk m = true → (dir = 1 ∨ dir = 2) → pkgFind s.dev m.identity = some k → pkgOf s.dev k = some p →
        (heldAll p = true → Answers (.offerReceived dest dir m) s fun t =>
          (∃ o, t.out = s.dev.out ++ .upReply dest m.identity 1 p.man.chunks :: o) ∧
          (dest = 0 → t.out = s.dev.out ++ [.upReply 0 m.identity 1 p.man.chunks] ∧ t.upd = s.dev.upd)) ∧
        (∀ z, heldAll p = false → p.sender = some z → z ≠ dest → Answers (.offerReceived dest dir m) s fun t =>
          t.out = s.dev.out ++ [.upReply dest m.identity 2 0] ∧ t.upd = s.dev.upd ∧
          rd t Reg.UP_ERR_OFFERS_REFUSED = satAdd 8 (rd s.dev Reg.UP_ERR_OFFERS_REFUSED) 1) ∧
        (heldAll p = false → (p.sender = none ∨ p.sender = some dest) → Answers (.offerReceived dest dir m) s fun t =>
          (∃ q o, pkgOf t k = some q ∧ q.held = p.held ∧ q.data = p.data ∧ q.sender = some dest ∧ q.from_ = dest ∧ q.dir = dir ∧
            q.state = (if p.state = 3 then 3 else 1) ∧ t.out = s.dev.out ++ .upReply dest m.identity 0 (nextWanted p) :: o) ∧
          (dest = 0 → t.out = s.dev.out ++ [.upReply 0 m.identity 0 (nextWanted p)]))) ∧
      (∀ dest identity index k p, pkgFind s.dev identity = some k → pkgOf s.dev k = some p →
        (index < p.man.chunks → p.sender = some dest →
          (Answers (.chunkReceived dest identity index none) s fun t =>
            t.upd = s.dev.upd ∧ rd t Reg.UP_ERR_CHUNK_BAD = satAdd 8 (rd s.dev Reg.UP_ERR_CHUNK_BAD) 1 ∧
            ∃ o, t.out = s.dev.out ++ o ++ [.upReply dest identity 4 (nextWanted p)]) ∧
          (∀ b, heldAll (chunkHold index b p) = false → Answers (.chunkReceived dest identity index (some b)) s fun t =>
            pkgOf t k = some (chunkHold index b p) ∧ t.out = s.dev.out ++ [.upReply dest identity 0 (nextWanted (chunkHold index b p))]) ∧
          (∀ b, heldAll (chunkHold index b p) = true → Answers (.chunkReceived dest identity index (some b)) s fun t =>
            ∃ q o, pkgOf t k = some q ∧ q.held = bitSet p.held index ∧ q.data = (chunkHold index b p).data ∧ q.sender = none ∧
              q.state = (if p.state = 1 then 2 else p.state) ∧
              t.out = s.dev.out ++ .upReply dest identity 0 (nextWanted (chunkHold index b p)) :: o ∧
              (flag s.dev Reg.UP_CFG_AUTO_INSTALL = false → o = [] ∧ q.install = p.install))) ∧
        ((p.man.chunks ≤ index ∨ p.sender ≠ some dest) → ∀ b, Answers (.chunkReceived dest identity index b) s fun t => t = s.dev)) ∧
      (∀ dest identity index b, pkgFind s.dev identity = none → Answers (.chunkReceived dest identity index b) s fun t => t = s.dev) ∧
      (∀ k h p, pkgOf s.dev k = some p →
        ((hopOf p h).phase = 2 → p.state ≠ 3 → (hopOf p h).next < p.man.chunks → bitOf p.held (hopOf p h).next = true →
          (hopOf p h).unans < rd s.dev Reg.UP_CFG_WINDOW → Answers (.relayRateInterval k h) s fun t =>
            t.out = s.dev.out ++ [.upChunk h (hopOf p h).pos p.man.identity (hopOf p h).next (chunkBytes p (hopOf p h).next)] ∧
            pkgOf t k = some (hopPut h { hopOf p h with
              next := (hopOf p h).next + 1
              unans := (hopOf p h).unans + 1 } p)) ∧
        (((hopOf p h).phase ≠ 2 ∨ p.state = 3 ∨ p.man.chunks ≤ (hopOf p h).next ∨ bitOf p.held (hopOf p h).next = false ∨
          rd s.dev Reg.UP_CFG_WINDOW ≤ (hopOf p h).unans) → Answers (.relayRateInterval k h) s fun t => t = s.dev))) ∧
    (∀ k h, pkgOf s.dev k = none →
      (∀ code next, Answers (.relayReply k h code next) s fun t => t = s.dev) ∧ (Answers (.relayRequestTimeout k h) s fun t => t = s.dev) ∧
      (Answers (.relayWaitExpiry k h) s fun t => t = s.dev) ∧ (Answers (.relayRateInterval k h) s fun t => t = s.dev)) ∧
    (∀ k h p, pkgOf s.dev k = some p →
      (((hopOf p h).phase = 0 ∨ (hopOf p h).done = true ∨ p.state = 3) →
        (∀ code next, Answers (.relayReply k h code next) s fun t => t = s.dev) ∧ Answers (.relayRequestTimeout k h) s fun t => t = s.dev) ∧
      ((hopOf p h).phase = 2 → (hopOf p h).unans = 0 → Answers (.relayRequestTimeout k h) s fun t => t = s.dev) ∧
      ((hopOf p h).done = false → p.state ≠ 3 →
        ((hopOf p h).phase = 1 →
          (∀ next, Answers (.relayReply k h 0 next) s fun t =>
            pkgOf t k = some (hopPut h { hopOf p h with
              phase := 2
              next := next
              acked := next
              unans := 0
              repeats := 0 } p) ∧ t.out = s.dev.out) ∧
          (∀ next, Answers (.relayReply k h 1 next) s fun t =>
            pkgOf t k = some (hopPut h { hopOf p h with
              done := true
              phase := 0
              unans := 0
              waiting := false
              acked := p.man.chunks } p)) ∧
          (∀ code next, (code = 2 ∨ code = 3) → Answers (.relayReply k h code next) s fun t =>
            pkgOf t k = some (hopPut h { hopOf p h with
              phase := 0
              unans := 0
              repeats := 0
              waiting := true } p) ∧ t.out = s.dev.out) ∧
          (∀ code next, 4 ≤ code → Answers (.relayReply k h code next) s fun t => hopEnded k h p s.dev t)) ∧
        (2 ≤ (hopOf p h).phase →
          (∀ next, next < p.man.chunks → Answers (.relayReply k h 0 next) s fun t =>
            pkgOf t k = some (hopPut h { hopOf p h with
              acked := max (hopOf p h).acked next
              unans := (hopOf p h).unans - 1
              repeats := 0 } p) ∧ t.out = s.dev.out) ∧
          (∀ next, p.man.chunks ≤ next → Answers (.relayReply k h 0 next) s fun t =>
            pkgOf t k = some (hopPut h { hopOf p h with
              repeats := 0
              done := true
              phase := 0
              unans := 0
              waiting := false
              acked := p.man.chunks } p)) ∧
          (∀ next, Answers (.relayReply k h 5 next) s fun t => hopEnded k h p s.dev t) ∧
          (∀ code next, code ≠ 0 → code ≠ 5 → Answers (.relayReply k h code next) s fun t =>
            pkgOf t k = some (hopPut h { hopOf p h with
              next := next
              acked := next
              unans := 0
              repeats := 0 } p) ∧ t.out = s.dev.out)) ∧
        ((hopOf p h).phase = 1 ∨ (2 ≤ (hopOf p h).phase ∧ (hopOf p h).unans ≠ 0) →
          ((hopOf p h).repeats < 5 → Answers (.relayRequestTimeout k h) s fun t =>
            pkgOf t k = some (hopPut h { hopOf p h with repeats := (hopOf p h).repeats + 1 } p) ∧
            (let n := (hopOf p h).next - (hopOf p h).unans;
              t.out = s.dev.out ++ [if (hopOf p h).phase = 1 then .upOffer h (hopOf p h).pos (h + 1) p.man.identity
                else .upChunk h (hopOf p h).pos p.man.identity n (chunkBytes p n)]) ∧
            rd t Reg.UP_ERR_RETRIES = satAdd 8 (rd s.dev Reg.UP_ERR_RETRIES) 1) ∧
          (5 ≤ (hopOf p h).repeats → Answers (.relayRequestTimeout k h) s fun t => hopEnded k h p s.dev t))) ∧
      (((hopOf p h).waiting = false ∨ p.state = 3) → Answers (.relayWaitExpiry k h) s fun t => t = s.dev) ∧
      ((hopOf p h).waiting = true → p.state ≠ 3 → h = 2 → Answers (.relayWaitExpiry k h) s fun t =>
        pkgOf t k = some (hopPut h { hopOf p h with
          phase := 1
          unans := 0
          waiting := false } p) ∧
        t.out = s.dev.out ++ (if linkUp s.dev then [.upOffer h (hopOf p h).pos (h + 1) p.man.identity] else [])) ∧
      ((hopOf p h).waiting = true → p.state ≠ 3 → h ≠ 2 → Answers (.relayWaitExpiry k h) s fun t =>
        match hopPos s.dev h 1 with
        | none => pkgOf t k = some (hopPut h { hopOf p h with
            done := true
            pos := 0
            waiting := false } p) ∧ t.out = s.dev.out
        | some pos => pkgOf t k = some (hopPut h { hopOf p h with
            pos := pos
            skipped := 0
            repeats := 0
            phase := 1
            unans := 0
            waiting := false } p) ∧ t.out = s.dev.out ++ [.upOffer h pos (h + 1) p.man.identity])) ∧
    (s.dev.upd.installing = none → ∀ f, Answers (.installDone f) s fun t => t = s.dev) ∧
    (∀ k t0 cmd, s.dev.upd.installing = some (k, t0, cmd) →
      (pkgOf s.dev k = none → ∀ f, Answers (.installDone f) s fun t =>
        ∃ e, t = installResume e ∧ e.upd = { s.dev.upd with installing := none } ∧ waiterFinal cmd St.UPDATE_INSTALL_FAIL s.dev e) ∧
      (∀ f p, pkgOf s.dev k = some p → Answers (.installDone f) s fun t =>
        ∃ e, t = installResume e ∧ e.upd.installing = none ∧ e.upd.waiting = s.dev.upd.waiting ∧ e.upd.deletes = s.dev.upd.deletes ∧
          flag e Reg.UP_STATUS_INSTALLING = false ∧
          (match installEnds p f s.dev with
            | .inr image => upSlot e (slotOther s.dev) = ⟨p.man.hdr, true, false, true, image⟩ ∧ pkgOf e k = some { p with install := 1 } ∧
              waiterFinal cmd St.OK s.dev e
            | .inl _ => e.upd.slots = s.dev.upd.slots ∧ pkgOf e k = some { p with install := 3 } ∧
              waiterFinal cmd St.UPDATE_INSTALL_FAIL s.dev e)))

/-- CLOCK_LOSS, CLOCK_TOLERANCE, CLOCK_RETURN, SNAPSHOT_GO and SNAPSHOT_DONE (R505, R506, R515, R516). -/
def Obligations.ClocksAndCounts : Prop :=
  ∀ s : State, Running s →
    (∀ dom inst freq gm r,
      (nothingHeld s.dev → (16 ≤ dom ∨ bitOf (mgetD s.dev.ckr.lost dom 0) inst = true) → Answers (.clockLoss dom inst freq gm r) s fun t => t = s.dev) ∧
      (dom < 16 → bitOf (mgetD s.dev.ckr.lost dom 0) inst = false → nothingHeld s.dev →
        (dom ∈ [6, 8, 9, 10, 12, 13, 14] ∨ s.dev.ks.reqs = []) → Answers (.clockLoss dom inst freq gm r) s fun t =>
          bitF t Reg.CKR_STATUS_LOST dom = true ∧ bitF t Reg.CKR_STATUS_CLK_OK dom = false ∧ flag t (Reg.CKR_DOM_LOST dom) = true ∧
          flag t (Reg.CKR_DOM_OK dom) = false ∧ rd t (Reg.CKR_DOM_FREQ dom) = trunc 28 freq ∧ bitOf (mgetD t.ckr.lost dom 0) inst = true ∧
          (∀ c ∈ domainCrossings dom, bitF t Reg.CKR_RST_HS_BUSY c.1 = true) ∧
          (dom = 6 → ∀ p < 6, flag t (Reg.SW_PORT_STAT_LINK p) = false) ∧
          (dom = 8 → (∀ k < 8, flag t (Reg.HI_SQ_CFG_EN k) = false ∧ flag t (Reg.HI_CQ_CFG_EN k) = false) ∧ t.hi.held = [] ∧ t.hi.d3 = false) ∧
          (dom = 9 → rd t Reg.LB_STATUS_UP = 0) ∧
          (dom = 10 → flag t Reg.GB_STATUS_CLK_OK = false) ∧
          (dom = 12 → ∀ n < 2, flag t (Reg.CW_STATUS_LINK n) = false) ∧
          (dom = 13 → linkUp t = false) ∧
          (dom = 14 → regsBut ([Reg.CKR_STATUS_LOST, Reg.CKR_STATUS_CLK_OK, Reg.CKR_DOM_LOST 14, Reg.CKR_DOM_OK 14, Reg.CKR_DOM_FREQ 14,
            Reg.CKR_RST_HS_BUSY] ++ evCounts) s.dev t ∧ memSame s.dev t) ∧
          (dom = 4 → inst < 2 → flag t (Reg.KS_HALF_BROKEN inst) = true) ∧
          (safeOpen s.dev →
            (dom = 3 ∨ dom = 5 → enteredSafe t scPAIR_FAIL 1) ∧ (dom = 7 → enteredSafe t scPAIR_FAIL 3) ∧
            (dom = 15 → enteredSafe t scPAIR_FAIL 6) ∧ (dom = 4 → inst < 2 → enteredSafe t scKS_HALF (2 ^ inst)) ∧
            (∀ p, (dom = pierIdx p ∨ (dom = 11 ∧ pierOf inst = p)) → inService s.dev p = true → 3 ≤ (servicePiers s.dev).length →
              rd t Reg.KS_VERDICT_LAST_KIND = 4 ∧ rd t Reg.KS_VERDICT_LAST_ODD = pierIdx p ∧ isolated t p = true ∧ inService t p = false)))) ∧
    (∀ dom inst ppm freq, dom < 16 → 200 < ppm.natAbs → Answers (.clockTolerance dom inst ppm freq) s fun t =>
      rd t (Reg.CKR_DOM_FREQ dom) = trunc 28 freq ∧ reportsOnly s.dev t ∧ regsBut ([Reg.CKR_DOM_FREQ dom] ++ evCounts) s.dev t ∧
      (intakeOpen s.dev Ev.CLOCK_TOLERANCE (sevOf Ev.CLOCK_TOLERANCE) →
        entered s.dev t Ev.CLOCK_TOLERANCE (sevOf Ev.CLOCK_TOLERANCE) (srcOf Ev.CLOCK_TOLERANCE) 3 [.w dom, .w inst, .s ppm])) ∧
    (∀ dom inst ppm freq, ppm.natAbs ≤ 200 ∨ 16 ≤ dom → Answers (.clockTolerance dom inst ppm freq) s fun t => t = s.dev) ∧
    (∀ dom inst freq dropped,
      (bitOf (mgetD s.dev.ckr.lost dom 0) inst = false → Answers (.clockReturn dom inst freq dropped) s fun t => t = s.dev) ∧
      (dom < 16 → bitOf (mgetD s.dev.ckr.lost dom 0) inst = true → Answers (.clockReturn dom inst freq dropped) s fun t =>
        rd t (Reg.CKR_DOM_FREQ dom) = trunc 28 freq ∧ (∀ c ∈ domainCrossings dom, bitF t Reg.CKR_RST_HS_BUSY c.1 = false) ∧
        (domainCrossings dom ≠ [] → rd t Reg.CKR_RST_CNT_HANDSHAKES =
          satAdd 16 (rd s.dev Reg.CKR_RST_CNT_HANDSHAKES) (domainCrossings dom).length) ∧
        (if bitClr (mgetD s.dev.ckr.lost dom 0) inst = 0 then
          mget t.ckr.lost dom = none ∧ bitF t Reg.CKR_STATUS_CLK_OK dom = true ∧ flag t (Reg.CKR_DOM_OK dom) = true ∧
          (dom = 9 → 8 ≤ rd s.dev Reg.MCTL_BOOT_STEP → rd t Reg.LB_STATUS_UP = trunc Reg.LB_STATUS_UP.w (rd s.dev Reg.LB_CFG_PORT_EN)) ∧
          (dom = 10 → flag t Reg.GB_STATUS_CLK_OK = true)
        else
          mget t.ckr.lost dom = some (bitClr (mgetD s.dev.ckr.lost dom 0) inst) ∧ rd t Reg.CKR_STATUS_CLK_OK = rd s.dev Reg.CKR_STATUS_CLK_OK ∧
          regsBut ([Reg.CKR_DOM_FREQ dom, Reg.CKR_RST_HS_BUSY, Reg.CKR_RST_CNT_HANDSHAKES, Reg.CKR_RST_CNT_DROPPED] ++ evCounts) s.dev t))) ∧
    (∀ domains, flag s.dev Reg.CKR_SNAP_CTL_GO = false → Answers (.snapshotGo domains) s fun t =>
      flag t Reg.CKR_SNAP_CTL_GO = true ∧ flag t Reg.CKR_SNAP_CTL_DONE = false ∧ rd t Reg.CKR_SNAP_CTL_DOMAINS = trunc 16 domains ∧
      rd t Reg.CKR_SNAP_TIME = trunc 64 (schedTime s.dev) ∧ t.ckr = { s.dev.ckr with snap := trunc 16 domains } ∧
      regsBut [Reg.CKR_SNAP_CTL_GO, Reg.CKR_SNAP_CTL_DONE, Reg.CKR_SNAP_CTL_DOMAINS, Reg.CKR_SNAP_TIME] s.dev t) ∧
    (∀ domains, flag s.dev Reg.CKR_SNAP_CTL_GO = true → Answers (.snapshotGo domains) s fun t =>
      rd t Reg.CKR_SNAP_CTL_DOMAINS = trunc 16 domains ∧ regsOnly s.dev t ∧ regsBut [Reg.CKR_SNAP_CTL_DOMAINS] s.dev t) ∧
    (∀ counts, flag s.dev Reg.CKR_SNAP_CTL_GO = true → Answers (.snapshotDone counts) s fun t =>
      (∀ n < 16, rd t (Reg.CKR_SNAP_CYC n) = if bitOf s.dev.ckr.snap n then trunc 64 (counts.getD n 0) else 0) ∧
      flag t Reg.CKR_SNAP_CTL_GO = false ∧ flag t Reg.CKR_SNAP_CTL_DONE = true ∧ regsOnly s.dev t) ∧
    (∀ counts, flag s.dev Reg.CKR_SNAP_CTL_GO = false → Answers (.snapshotDone counts) s fun t => t = s.dev)

/-- After BOOT a changed DX_POS leaves the sampled position and is recorded (R59). -/
def Obligations.PositionKeptAfterBoot : Prop :=
  ∀ (s : State) (now : Bool), Running s → modeOf s.dev ≠ mBOOT → Answers (.dxPosChanged now) s fun t =>
    rd t Reg.MCTL_PINS_POS = rd s.dev Reg.MCTL_PINS_POS ∧ regsBut evCounts s.dev t ∧ reportsOnly s.dev t ∧
    (intakeOpen s.dev Ev.DX_POS_CHANGED (sevOf Ev.DX_POS_CHANGED) →
      entered s.dev t Ev.DX_POS_CHANGED (sevOf Ev.DX_POS_CHANGED) (srcOf Ev.DX_POS_CHANGED) 3
        [.w (rd s.dev Reg.MCTL_PINS_POS), .w (b2n now)])

/-- A read of a reserved BAR offset returns zero, a write to one or to BAR4 is discarded, and each is counted (R38). -/
def Obligations.ReservedAccessesAreCounted : Prop :=
  ∀ (s : State) (bar off : Nat) (read : Bool), Running s → hostServes s.dev = true →
    (barReserved s.dev bar off = true ∨ (bar = 4 ∧ read = false)) → Answers (.reservedBarAccess bar off read) s fun t =>
      rd t Reg.HI_ERR_COUNT_RSVD = satAdd Reg.HI_ERR_COUNT_RSVD.w (rd s.dev Reg.HI_ERR_COUNT_RSVD) 1 ∧
      regsBut [Reg.HI_ERR_COUNT_RSVD] s.dev t ∧ t = { s.dev with
        regs := t.regs
        out := t.out } ∧
      t.out = s.dev.out ++ (if read then [.read off 0] else [])

/-- A half's third transient within one operating hour diagnoses it broken (R158). -/
def Obligations.ThirdTransientBreaksHalf : Prop :=
  ∀ (s : State) (h : Nat), Running s → s.dev.hm.powerFail = false → h < 2 → 2 ≤ (hourStamps s.dev (3 + h)).length →
    (∀ p, Answers (.ksStageParity h p false) s fun t => flag t (Reg.KS_HALF_BROKEN h) = true) ∧
    (∀ dur, flag s.dev Reg.KS_STATUS_FROZEN = true → nothingHeld s.dev → safeOpen s.dev → Answers (.ksSelftestDone true true dur true) s fun t =>
      flag t (Reg.KS_HALF_BROKEN h) = true)
end

