-- ==== Sys2Proof/Laws/Tables.lean ====
section
/-!
SUPPORT. The laws of the state's containers: reading a table after a change, and the canonical forms of tables and of memory.
-/
namespace Sys2Proof.Machine

variable {α : Type}

/-! ## Reading a table after a change -/

theorem mget_mput (m : NMap α) (i j : Nat) (v : α) : mget (mput m i v) j = if i = j then some v else mget m j := by
  induction m with
  | nil => simp [mput, mget]
  | cons c r ih =>
    obtain ⟨k, w⟩ := c
    simp only [mput]
    split_ifs <;> simp_all [mget]
    all_goals (intro h; simp_all)
@[simp] theorem mget_mput_same (m : NMap α) (i : Nat) (v : α) : mget (mput m i v) i = some v := by simp [mget_mput]
theorem mget_mput_ne (m : NMap α) {i j : Nat} (v : α) (h : i ≠ j) : mget (mput m i v) j = mget m j := by simp [mget_mput, h]
theorem mget_mdel (m : NMap α) (i j : Nat) : mget (mdel m i) j = if i = j then none else mget m j := by
  induction m with
  | nil => simp [mdel, mget]
  | cons c r ih =>
    obtain ⟨k, w⟩ := c
    by_cases hk : k = i
    · subst hk; simp only [mdel, List.filter, bne_self_eq_false] at ih ⊢; rw [ih]; simp [mget]; split_ifs <;> rfl
    · have : (k != i) = true := by simpa using hk
      simp only [mdel, List.filter, this, mget] at ih ⊢
      rw [ih]; split_ifs <;> simp_all
@[simp] theorem mget_mdel_same (m : NMap α) (i : Nat) : mget (mdel m i) i = none := by simp [mget_mdel]
theorem mget_mdel_ne (m : NMap α) {i j : Nat} (h : i ≠ j) : mget (mdel m i) j = mget m j := by simp [mget_mdel, h]

/-! ## Strictly rising numbers -/

theorem mwf_iff (m : NMap α) : mwf m = true ↔ (m.map (·.1)).Pairwise (· < ·) := by
  have key : ∀ (m : NMap α) (l : Nat), risesFrom (some l) m = true ↔ (∀ x ∈ m.map (·.1), l < x) ∧ (m.map (·.1)).Pairwise (· < ·) := by
    intro m
    induction m with
    | nil => simp [risesFrom]
    | cons c r ih =>
      obtain ⟨k, w⟩ := c
      intro l
      simp only [risesFrom, Bool.and_eq_true, decide_eq_true_eq, ih, List.map_cons, List.pairwise_cons, List.mem_cons, forall_eq_or_imp]
      constructor
      · rintro ⟨h, h1, h2⟩; exact ⟨⟨h, fun x hx => lt_trans h (h1 x hx)⟩, h1, h2⟩
      · rintro ⟨⟨h, _⟩, h1, h2⟩; exact ⟨h, h1, h2⟩
  cases m with
  | nil => simp [mwf, risesFrom]
  | cons c r => obtain ⟨k, w⟩ := c; simp [mwf, risesFrom, key]
theorem mput_keys (m : NMap α) (i : Nat) (v : α) : ∀ x ∈ (mput m i v).map (·.1), x = i ∨ x ∈ m.map (·.1) := by
  induction m with
  | nil => simp [mput]
  | cons c r ih =>
    obtain ⟨k, w⟩ := c
    intro x
    simp only [mput]
    split_ifs with h1 h2
    · simp only [List.map_cons, List.mem_cons]; tauto
    · subst h2; simp only [List.map_cons, List.mem_cons]; tauto
    · simp only [List.map_cons, List.mem_cons]; rintro (h | h)
      · exact Or.inr (Or.inl h)
      · rcases ih x h with h | h
        · exact Or.inl h
        · exact Or.inr (Or.inr h)
theorem mput_mwf {m : NMap α} (h : mwf m = true) (i : Nat) (v : α) : mwf (mput m i v) = true := by
  rw [mwf_iff] at h ⊢
  induction m with
  | nil => simp [mput]
  | cons c r ih =>
    obtain ⟨k, w⟩ := c
    simp only [List.map_cons, List.pairwise_cons] at h
    simp only [mput]
    split_ifs with h1 h2
    · simp only [List.map_cons, List.pairwise_cons, List.mem_cons, forall_eq_or_imp]
      exact ⟨⟨h1, fun x hx => lt_trans h1 (h.1 x hx)⟩, h.1, h.2⟩
    · subst h2; simpa using h
    · simp only [List.map_cons, List.pairwise_cons]
      refine ⟨fun x hx => ?_, ih h.2⟩
      rcases mput_keys r i v x hx with rfl | hx
      · omega
      · exact h.1 x hx
theorem filter_mwf {m : NMap α} (h : mwf m = true) (p : Nat × α → Bool) : mwf (m.filter p) = true := by
  rw [mwf_iff] at h ⊢
  exact h.sublist (List.filter_sublist.map _)
theorem mdel_mwf {m : NMap α} (h : mwf m = true) (i : Nat) : mwf (mdel m i) = true := filter_mwf h _

/-! ## Deck memory -/

theorem Memory.byte_put (m : Memory) (a b : Nat) (v : Byte) :
    Memory.byte (Memory.put m a v) b = if a = b then v else Memory.byte m b := by
  unfold Memory.put Memory.byte mgetD
  split_ifs <;> simp_all [mget_mput, mget_mdel]
theorem mem_of_mput {m : NMap α} {i : Nat} {v : α} {c : Nat × α} (h : c ∈ mput m i v) : c = (i, v) ∨ c ∈ m := by
  induction m with
  | nil => simpa [mput] using h
  | cons e r ih =>
    obtain ⟨k, w⟩ := e
    simp only [mput] at h
    split_ifs at h with h1 h2
    · simpa using h
    · subst h2; simp only [List.mem_cons] at h ⊢; tauto
    · simp only [List.mem_cons] at h ⊢
      rcases h with h | h
      · exact Or.inr (Or.inl h)
      · rcases ih h with h | h
        · exact Or.inl h
        · exact Or.inr (Or.inr h)
theorem Memory.wf_iff (m : Memory) : Memory.wf m = true ↔ mwf m = true ∧ ∀ c ∈ m, c.2 ≠ 0 := by
  simp [Memory.wf, Bool.and_eq_true, List.all_eq_true, bne_iff_ne]
theorem Memory.put_wf {m : Memory} (h : Memory.wf m = true) (a : Nat) (v : Byte) : Memory.wf (Memory.put m a v) = true := by
  rw [Memory.wf_iff] at h ⊢
  unfold Memory.put
  split_ifs with hv
  · exact ⟨mdel_mwf h.1 a, fun c hc => h.2 c (List.mem_of_mem_filter hc)⟩
  · refine ⟨mput_mwf h.1 a v, fun c hc => ?_⟩
    rcases mem_of_mput hc with rfl | hc
    · exact hv
    · exact h.2 c hc
theorem Memory.putBytes_wf {m : Memory} (h : Memory.wf m = true) (a : Nat) (l : List Byte) : Memory.wf (Memory.putBytes m a l) = true := by
  induction l generalizing m a with
  | nil => exact h
  | cons b r ih => exact ih (Memory.put_wf h a b) (a + 1)
theorem Memory.filter_wf {m : Memory} (h : Memory.wf m = true) (p : Host.Cell → Bool) : Memory.wf (m.filter p) = true := by
  rw [Memory.wf_iff] at h ⊢
  exact ⟨filter_mwf h.1 p, fun c hc => h.2 c (List.mem_of_mem_filter hc)⟩
theorem Memory.byte_putBytes_below (m : Memory) (a b : Nat) (l : List Byte) (h : b < a) :
    Memory.byte (Memory.putBytes m a l) b = Memory.byte m b := by
  induction l generalizing m a with
  | nil => rfl
  | cons v r ih => rw [Memory.putBytes, ih _ _ (by omega), Memory.byte_put, if_neg (by omega)]
theorem Memory.byte_putBytes_above (m : Memory) (a b : Nat) (l : List Byte) (h : a + l.length ≤ b) :
    Memory.byte (Memory.putBytes m a l) b = Memory.byte m b := by
  induction l generalizing m a with
  | nil => rfl
  | cons v r ih =>
    simp only [List.length_cons] at h
    rw [Memory.putBytes, ih _ _ (by omega), Memory.byte_put, if_neg (by omega)]

end Sys2Proof.Machine
end

