-- ==== Sys2Proof/Laws/Registers.lean ====
section
/-!
SUPPORT. The laws of register fields: what a write does to a read of the same field and of another, for each form of write; what an event,
a message and a unit's update leave of the registers.
-/
namespace Sys2Proof.Machine

/-! ## One write, one read -/

@[simp] theorem rd_wr_same (d : Dev) (f : Fld) (v : Nat) : rd (wr d f v) f = trunc f.w v := by
  unfold rd wr regPut mgetD
  split_ifs with h <;> simp [h]
theorem rd_wr_ne (d : Dev) {f g : Fld} (v : Nat) (h : fldKey f ≠ fldKey g) : rd (wr d f v) g = rd d g := by
  unfold rd wr regPut mgetD
  split_ifs <;> simp [mget_mput, mget_mdel, h]
theorem rd_regs {d d' : Dev} (h : d'.regs = d.regs) (f : Fld) : rd d' f = rd d f := by simp [rd, h]
theorem flag_wrB_same (d : Dev) (f : Fld) (b : Bool) (hw : f.w ≠ 0) : flag (wrB d f b) f = b := by
  unfold flag wrB; rw [rd_wr_same]
  have h2 : 2 ≤ 2 ^ f.w := by
    calc 2 = 2 ^ 1 := rfl
      _ ≤ 2 ^ f.w := Nat.pow_le_pow_right (by omega) (by omega)
  cases b
  · simp [b2n, trunc]
  · simp only [b2n, trunc, if_true]; rw [Nat.mod_eq_of_lt (by omega)]; rfl
theorem flag_wr_ne (d : Dev) {f g : Fld} (v : Nat) (h : fldKey f ≠ fldKey g) : flag (wr d f v) g = flag d g := by
  unfold flag; rw [rd_wr_ne d v h]
theorem flag_wrB_ne (d : Dev) {f g : Fld} (b : Bool) (h : fldKey f ≠ fldKey g) : flag (wrB d f b) g = flag d g := flag_wr_ne d _ h
theorem rd_wrB_ne (d : Dev) {f g : Fld} (b : Bool) (h : fldKey f ≠ fldKey g) : rd (wrB d f b) g = rd d g := rd_wr_ne d _ h
theorem rd_inc_same (d : Dev) (f : Fld) : rd (inc d f) f = satAdd f.w (rd d f) 1 := by
  unfold inc incBy; rw [rd_wr_same]; unfold trunc satAdd
  exact Nat.mod_eq_of_lt (by have : 0 < 2 ^ f.w := Nat.two_pow_pos _; omega)
theorem rd_incBy_same (d : Dev) (f : Fld) (k : Nat) : rd (incBy d f k) f = satAdd f.w (rd d f) k := by
  unfold incBy; rw [rd_wr_same]; unfold trunc satAdd
  exact Nat.mod_eq_of_lt (by have : 0 < 2 ^ f.w := Nat.two_pow_pos _; omega)
theorem rd_inc_ne (d : Dev) {f g : Fld} (h : fldKey f ≠ fldKey g) : rd (inc d f) g = rd d g := rd_wr_ne d _ h
theorem rd_incBy_ne (d : Dev) {f g : Fld} (k : Nat) (h : fldKey f ≠ fldKey g) : rd (incBy d f k) g = rd d g := rd_wr_ne d _ h
theorem rd_wrSat_same (d : Dev) (f : Fld) (v : Nat) : rd (wrSat d f v) f = min v (2 ^ f.w - 1) := by
  unfold wrSat; rw [rd_wr_same]; unfold trunc
  exact Nat.mod_eq_of_lt (by have : 0 < 2 ^ f.w := Nat.two_pow_pos _; omega)

/-! ## Bits -/

theorem bitOf_eq_testBit (v i : Nat) : bitOf v i = v.testBit i := by
  rw [bitOf, Nat.testBit_eq_decide_div_mod_eq]; rfl
theorem bitOf_bitSet_same (v i : Nat) : bitOf (bitSet v i) i = true := by
  unfold bitSet
  split_ifs with h
  · exact h
  · unfold bitOf at *
    simp only [beq_iff_eq] at *
    rw [Nat.add_div_right _ (Nat.two_pow_pos i)]; omega
theorem bitOf_trunc (w v i : Nat) (h : i < w) : bitOf (trunc w v) i = bitOf v i := by
  simp [bitOf_eq_testBit, trunc, Nat.testBit_mod_two_pow, h]
theorem bitSet_eq_or (v i : Nat) : bitSet v i = v ||| 2 ^ i := by
  unfold bitSet
  rw [bitOf_eq_testBit]
  split_ifs with h
  · apply Nat.eq_of_testBit_eq; intro j
    simp only [Nat.testBit_or, Nat.testBit_two_pow]
    by_cases hj : i = j
    · subst hj; simp [h]
    · simp [hj]
  · have hc : v / 2 ^ i % 2 = 0 := by
      have := h; rw [Nat.testBit_eq_decide_div_mod_eq] at this; simp at this; omega
    have hlo : v % 2 ^ i < 2 ^ i := Nat.mod_lt _ (Nat.two_pow_pos i)
    have hv : v = 2 ^ (i + 1) * (v / 2 ^ i / 2) + v % 2 ^ i := by
      have h1 := Nat.div_add_mod v (2 ^ i)
      have h2 := Nat.div_add_mod (v / 2 ^ i) 2
      rw [hc, Nat.add_zero] at h2
      rw [pow_succ, Nat.mul_assoc, h2]; exact h1.symm
    generalize v / 2 ^ i / 2 = q at hv
    generalize v % 2 ^ i = r at hv hlo
    subst hv
    have hp : (2 : Nat) ^ i < 2 ^ (i + 1) := Nat.pow_lt_pow_right (by omega) (by omega)
    rw [Nat.two_pow_add_eq_or_of_lt (Nat.lt_trans hlo hp)]
    have e : 2 ^ (i + 1) * q ||| r = 2 ^ (i + 1) * q + r := (Nat.two_pow_add_eq_or_of_lt (Nat.lt_trans hlo hp) q).symm
    have e2 : 2 ^ (i + 1) * q + 2 ^ i = 2 ^ i * (2 * q + 1) := by ring
    calc (2 ^ (i + 1) * q ||| r) + 2 ^ i = 2 ^ i * (2 * q + 1) + r := by rw [e, ← e2]; omega
      _ = 2 ^ i * (2 * q + 1) ||| r := Nat.two_pow_add_eq_or_of_lt hlo _
      _ = 2 ^ (i + 1) * q ||| 2 ^ i ||| r := by rw [← e2, Nat.two_pow_add_eq_or_of_lt hp]
      _ = 2 ^ (i + 1) * q ||| r ||| 2 ^ i := by rw [Nat.or_assoc, Nat.or_comm (2 ^ i), Nat.or_assoc]
theorem bitOf_bitSet (v i j : Nat) : bitOf (bitSet v i) j = (decide (i = j) || bitOf v j) := by
  rw [bitSet_eq_or, bitOf_eq_testBit, bitOf_eq_testBit, Nat.testBit_or, Nat.testBit_two_pow, Bool.or_comm]
theorem bitOf_bitClr (v i j : Nat) : bitOf (bitClr v i) j = (!decide (i = j) && bitOf v j) := by
  unfold bitClr
  split_ifs with h
  · have hle : 2 ^ i ≤ v := Nat.ge_two_pow_of_testBit (by rwa [bitOf_eq_testBit] at h)
    obtain ⟨u, rfl⟩ : ∃ u, v = u + 2 ^ i := ⟨v - 2 ^ i, by omega⟩
    have hu : bitOf u i = false := by
      unfold bitOf at *
      rw [Nat.add_div_right _ (Nat.two_pow_pos i)] at h
      simp only [beq_iff_eq, beq_eq_false_iff_ne] at *; omega
    have hs : bitSet u i = u + 2 ^ i := by unfold bitSet; simp [hu]
    rw [Nat.add_sub_cancel, ← hs, bitOf_bitSet]
    by_cases hj : i = j
    · subst hj; simp [hu]
    · simp [hj]
  · by_cases hj : i = j
    · subst hj; simpa using h
    · simp [hj]
theorem bitOf_bitPut (v i j : Nat) (b : Bool) : bitOf (bitPut v i b) j = if i = j then b else bitOf v j := by
  unfold bitPut
  cases b <;> simp only [if_true, Bool.false_eq_true, if_false, bitOf_bitSet, bitOf_bitClr] <;> by_cases hj : i = j <;> simp [hj]
theorem bitF_setBitF (d : Dev) (f : Fld) (i j : Nat) (h : j < f.w) : bitF (setBitF d f i) f j = (decide (i = j) || bitF d f j) := by
  unfold bitF setBitF; rw [rd_wr_same, bitOf_trunc _ _ _ h, bitOf_bitSet]
theorem bitF_clrBitF (d : Dev) (f : Fld) (i j : Nat) (h : j < f.w) : bitF (clrBitF d f i) f j = (!decide (i = j) && bitF d f j) := by
  unfold bitF clrBitF; rw [rd_wr_same, bitOf_trunc _ _ _ h, bitOf_bitClr]
theorem bitF_putBitF (d : Dev) (f : Fld) (i j : Nat) (b : Bool) (h : j < f.w) :
    bitF (putBitF d f i b) f j = if i = j then b else bitF d f j := by
  unfold bitF putBitF; rw [rd_wr_same, bitOf_trunc _ _ _ h, bitOf_bitPut]
theorem bitF_wr_ne (d : Dev) {f g : Fld} (v i : Nat) (h : fldKey f ≠ fldKey g) : bitF (wr d f v) g i = bitF d g i := by
  unfold bitF; rw [rd_wr_ne d v h]

/-! ## Events and messages -/

/-- All that a message can change. -/
theorem msix_shape (v : Nat) (d : Dev) : msix v d = { d with out := (msix v d).out, msix := (msix v d).msix } := by
  unfold msix msixMessage emit; split_ifs <;> rfl
/-- All that the delivery of an event can change. -/
theorem intake_shape (e : EvEntry) (d : Dev) : intake e d = { d with regs := (intake e d).regs, ev := (intake e d).ev } := by
  have ho : ∀ d : Dev, intakeOverflow d = { d with ev := (intakeOverflow d).ev } := by
    intro d; unfold intakeOverflow intakePush; split_ifs <;> rfl
  unfold intake
  generalize hx : intakeOverflow d = x
  have hd : x = { d with ev := x.ev } := by rw [← hx]; exact ho d
  rw [hd]
  unfold intakeAdd intakeDrop intakePush suppress inc incBy wr
  dsimp only
  split <;> (try split_ifs) <;> rfl
theorem msix_regs (v : Nat) (d : Dev) : (msix v d).regs = d.regs := by rw [msix_shape]
@[simp] theorem rd_msix (v : Nat) (d : Dev) (f : Fld) : rd (msix v d) f = rd d f := rd_regs (msix_regs v d) f
@[simp] theorem flag_msix (v : Nat) (d : Dev) (f : Fld) : flag (msix v d) f = flag d f := by simp [flag]
@[simp] theorem bitF_msix (v : Nat) (d : Dev) (f : Fld) (i : Nat) : bitF (msix v d) f i = bitF d f i := by simp [bitF]

/-- A field that the intake may raise. -/
def isEvCount (f : Fld) : Prop := fldKey f = fldKey Reg.EV_COUNT_DROPPED ∨ fldKey f = fldKey Reg.EV_COUNT_SUPPRESSED
theorem rd_intakeOverflow (d : Dev) (f : Fld) : rd (intakeOverflow d) f = rd d f := by
  apply rd_regs; unfold intakeOverflow intakePush; split_ifs <;> rfl
theorem rd_intake (e : EvEntry) (d : Dev) (f : Fld) (h1 : fldKey Reg.EV_COUNT_DROPPED ≠ fldKey f)
    (h2 : fldKey Reg.EV_COUNT_SUPPRESSED ≠ fldKey f) : rd (intake e d) f = rd d f := by
  rw [← rd_intakeOverflow d f]
  unfold intake
  generalize intakeOverflow d = x
  have hdrop : ∀ x : Dev, rd (intakeDrop e x) f = rd x f := fun x => (rd_regs rfl f).trans (rd_inc_ne x h1)
  have hpush : ∀ x : Dev, rd (intakePush e x) f = rd x f := fun x => rd_regs rfl f
  dsimp only
  split
  · unfold intakeAdd; split_ifs <;> simp [hdrop, hpush]
  · split_ifs
    · exact (rd_regs rfl f).trans (rd_inc_ne x h2)
    · rw [hpush]; exact rd_regs rfl f
    · exact hdrop x
theorem rd_record (c : Nat) (l : List Item) (d : Dev) (f : Fld) (h1 : fldKey Reg.EV_COUNT_DROPPED ≠ fldKey f)
    (h2 : fldKey Reg.EV_COUNT_SUPPRESSED ≠ fldKey f) : rd (record c l d) f = rd d f := rd_intake _ d f h1 h2
theorem rd_recordSev (v c p : Nat) (l : List Item) (d : Dev) (f : Fld) (h1 : fldKey Reg.EV_COUNT_DROPPED ≠ fldKey f)
    (h2 : fldKey Reg.EV_COUNT_SUPPRESSED ≠ fldKey f) : rd (recordSev v c p l d) f = rd d f := rd_intake _ d f h1 h2
theorem rd_recordP (c : Nat) (p : Pier) (l : List Item) (d : Dev) (f : Fld) (h1 : fldKey Reg.EV_COUNT_DROPPED ≠ fldKey f)
    (h2 : fldKey Reg.EV_COUNT_SUPPRESSED ≠ fldKey f) : rd (recordP c p l d) f = rd d f := rd_intake _ d f h1 h2
theorem rd_recordOnce (c i : Nat) (l : List Item) (d : Dev) (f : Fld) (h1 : fldKey Reg.EV_COUNT_DROPPED ≠ fldKey f)
    (h2 : fldKey Reg.EV_COUNT_SUPPRESSED ≠ fldKey f) : rd (recordOnce c i l d) f = rd d f := by
  unfold recordOnce
  split_ifs
  · rw [rd_record c l _ f h1 h2]; exact rd_regs rfl f
  · rfl
theorem rd_recordOnceP (c i : Nat) (p : Pier) (l : List Item) (d : Dev) (f : Fld) (h1 : fldKey Reg.EV_COUNT_DROPPED ≠ fldKey f)
    (h2 : fldKey Reg.EV_COUNT_SUPPRESSED ≠ fldKey f) : rd (recordOnceP c i p l d) f = rd d f := by
  unfold recordOnceP
  dsimp only
  split_ifs
  · rw [rd_recordP c p l _ f h1 h2]; exact rd_regs rfl f
  · rfl
theorem record_shape (c : Nat) (l : List Item) (d : Dev) : record c l d = { d with regs := (record c l d).regs, ev := (record c l d).ev } :=
  intake_shape _ d
theorem recordP_shape (c : Nat) (p : Pier) (l : List Item) (d : Dev) :
    recordP c p l d = { d with regs := (recordP c p l d).regs, ev := (recordP c p l d).ev } := intake_shape _ d
theorem recordOnce_shape (c i : Nat) (l : List Item) (d : Dev) :
    recordOnce c i l d = { d with regs := (recordOnce c i l d).regs, ev := (recordOnce c i l d).ev, once := (recordOnce c i l d).once } := by
  unfold recordOnce; split_ifs
  · rw [record_shape]; rfl
  · rfl

/-- An open intake takes an event as it is stamped. -/
theorem record_entered (c : Nat) (l : List Item) (d : Dev) (h : intakeOpen d c (sevOf c)) : entered d (record c l d) c (sevOf c) (srcOf c) 3 l := by
  obtain ⟨h0, hr, hb⟩ := h
  have ho : intakeOverflow d = d := by unfold intakeOverflow; simp [h0]
  unfold entered record recordSev intake
  rw [ho]
  have hl : ∀ e : EvEntry, e.code = c → e.sev = sevOf c → limitedBurst d e = limitedBurst d (stamp d c (sevOf c) 0 3 1 false []) := by
    intro e h1 h2; unfold limitedBurst; rw [h1, h2]; rfl
  have hs : (stamp d c (sevOf c) (srcOf c) 3 1 false (evData l)).sev = sevOf c := rfl
  dsimp only
  rw [hl (stamp d c (sevOf c) (srcOf c) 3 1 false (evData l)) rfl rfl]
  cases hlim : limitedBurst d (stamp d c (sevOf c) 0 3 1 false []) with
  | none => simp [intakeAdd, hs, hr, intakePush]
  | some b =>
    rw [hlim] at hb
    have hb' : mgetD d.ev.buckets (stamp d c (sevOf c) (srcOf c) 3 1 false (evData l)).code b ≠ 0 := hb
    simp [hb', hs, hr, intakePush]

end Sys2Proof.Machine
end

