-- ==== Sys2Proof/Laws/State.lean ====
section
/-!
SUPPORT. The fields of the state after each plain update, one lemma a field: what an update does not name it leaves as it was.
-/
namespace Sys2Proof.Machine

/-! ## wr -/

theorem wr_regs (d : Dev) (f : Fld) (v : Nat) : (wr d f v).regs = regPut d.regs f v := rfl
@[simp] theorem wr_captured (d : Dev) (f : Fld) (v : Nat) : (wr d f v).captured = d.captured := rfl
@[simp] theorem wr_clk (d : Dev) (f : Fld) (v : Nat) : (wr d f v).clk = d.clk := rfl
@[simp] theorem wr_free (d : Dev) (f : Fld) (v : Nat) : (wr d f v).free = d.free := rfl
@[simp] theorem wr_once (d : Dev) (f : Fld) (v : Nat) : (wr d f v).once = d.once := rfl
@[simp] theorem wr_out (d : Dev) (f : Fld) (v : Nat) : (wr d f v).out = d.out := rfl
@[simp] theorem wr_msix (d : Dev) (f : Fld) (v : Nat) : (wr d f v).msix = d.msix := rfl
@[simp] theorem wr_ev (d : Dev) (f : Fld) (v : Nat) : (wr d f v).ev = d.ev := rfl
@[simp] theorem wr_cw (d : Dev) (f : Fld) (v : Nat) : (wr d f v).cw = d.cw := rfl
@[simp] theorem wr_fio (d : Dev) (f : Fld) (v : Nat) : (wr d f v).fio = d.fio := rfl
@[simp] theorem wr_pt (d : Dev) (f : Fld) (v : Nat) : (wr d f v).pt = d.pt := rfl
@[simp] theorem wr_io (d : Dev) (f : Fld) (v : Nat) : (wr d f v).io = d.io := rfl
@[simp] theorem wr_staged (d : Dev) (f : Fld) (v : Nat) : (wr d f v).staged = d.staged := rfl
@[simp] theorem wr_img (d : Dev) (f : Fld) (v : Nat) : (wr d f v).img = d.img := rfl
@[simp] theorem wr_tu (d : Dev) (f : Fld) (v : Nat) : (wr d f v).tu = d.tu := rfl
@[simp] theorem wr_bp (d : Dev) (f : Fld) (v : Nat) : (wr d f v).bp = d.bp := rfl
@[simp] theorem wr_gb (d : Dev) (f : Fld) (v : Nat) : (wr d f v).gb = d.gb := rfl
@[simp] theorem wr_sw (d : Dev) (f : Fld) (v : Nat) : (wr d f v).sw = d.sw := rfl
@[simp] theorem wr_te (d : Dev) (f : Fld) (v : Nat) : (wr d f v).te = d.te := rfl
@[simp] theorem wr_lb (d : Dev) (f : Fld) (v : Nat) : (wr d f v).lb = d.lb := rfl
@[simp] theorem wr_cyc (d : Dev) (f : Fld) (v : Nat) : (wr d f v).cyc = d.cyc := rfl
@[simp] theorem wr_mem (d : Dev) (f : Fld) (v : Nat) : (wr d f v).mem = d.mem := rfl
@[simp] theorem wr_snap (d : Dev) (f : Fld) (v : Nat) : (wr d f v).snap = d.snap := rfl
@[simp] theorem wr_hi (d : Dev) (f : Fld) (v : Nat) : (wr d f v).hi = d.hi := rfl
@[simp] theorem wr_ks (d : Dev) (f : Fld) (v : Nat) : (wr d f v).ks = d.ks := rfl
@[simp] theorem wr_prs (d : Dev) (f : Fld) (v : Nat) : (wr d f v).prs = d.prs := rfl
@[simp] theorem wr_mode (d : Dev) (f : Fld) (v : Nat) : (wr d f v).mode = d.mode := rfl
@[simp] theorem wr_chg (d : Dev) (f : Fld) (v : Nat) : (wr d f v).chg = d.chg := rfl
@[simp] theorem wr_dx (d : Dev) (f : Fld) (v : Nat) : (wr d f v).dx = d.dx := rfl
@[simp] theorem wr_store (d : Dev) (f : Fld) (v : Nat) : (wr d f v).store = d.store := rfl
@[simp] theorem wr_cs (d : Dev) (f : Fld) (v : Nat) : (wr d f v).cs = d.cs := rfl
@[simp] theorem wr_upd (d : Dev) (f : Fld) (v : Nat) : (wr d f v).upd = d.upd := rfl
@[simp] theorem wr_hm (d : Dev) (f : Fld) (v : Nat) : (wr d f v).hm = d.hm := rfl
@[simp] theorem wr_ckr (d : Dev) (f : Fld) (v : Nat) : (wr d f v).ckr = d.ckr := rfl

/-! ## emit -/

@[simp] theorem emit_regs (o : Output) (d : Dev) : (emit o d).regs = d.regs := rfl
@[simp] theorem emit_captured (o : Output) (d : Dev) : (emit o d).captured = d.captured := rfl
@[simp] theorem emit_clk (o : Output) (d : Dev) : (emit o d).clk = d.clk := rfl
@[simp] theorem emit_free (o : Output) (d : Dev) : (emit o d).free = d.free := rfl
@[simp] theorem emit_once (o : Output) (d : Dev) : (emit o d).once = d.once := rfl
@[simp] theorem emit_out (o : Output) (d : Dev) : (emit o d).out = d.out ++ [o] := rfl
@[simp] theorem emit_msix (o : Output) (d : Dev) : (emit o d).msix = d.msix := rfl
@[simp] theorem emit_ev (o : Output) (d : Dev) : (emit o d).ev = d.ev := rfl
@[simp] theorem emit_cw (o : Output) (d : Dev) : (emit o d).cw = d.cw := rfl
@[simp] theorem emit_fio (o : Output) (d : Dev) : (emit o d).fio = d.fio := rfl
@[simp] theorem emit_pt (o : Output) (d : Dev) : (emit o d).pt = d.pt := rfl
@[simp] theorem emit_io (o : Output) (d : Dev) : (emit o d).io = d.io := rfl
@[simp] theorem emit_staged (o : Output) (d : Dev) : (emit o d).staged = d.staged := rfl
@[simp] theorem emit_img (o : Output) (d : Dev) : (emit o d).img = d.img := rfl
@[simp] theorem emit_tu (o : Output) (d : Dev) : (emit o d).tu = d.tu := rfl
@[simp] theorem emit_bp (o : Output) (d : Dev) : (emit o d).bp = d.bp := rfl
@[simp] theorem emit_gb (o : Output) (d : Dev) : (emit o d).gb = d.gb := rfl
@[simp] theorem emit_sw (o : Output) (d : Dev) : (emit o d).sw = d.sw := rfl
@[simp] theorem emit_te (o : Output) (d : Dev) : (emit o d).te = d.te := rfl
@[simp] theorem emit_lb (o : Output) (d : Dev) : (emit o d).lb = d.lb := rfl
@[simp] theorem emit_cyc (o : Output) (d : Dev) : (emit o d).cyc = d.cyc := rfl
@[simp] theorem emit_mem (o : Output) (d : Dev) : (emit o d).mem = d.mem := rfl
@[simp] theorem emit_snap (o : Output) (d : Dev) : (emit o d).snap = d.snap := rfl
@[simp] theorem emit_hi (o : Output) (d : Dev) : (emit o d).hi = d.hi := rfl
@[simp] theorem emit_ks (o : Output) (d : Dev) : (emit o d).ks = d.ks := rfl
@[simp] theorem emit_prs (o : Output) (d : Dev) : (emit o d).prs = d.prs := rfl
@[simp] theorem emit_mode (o : Output) (d : Dev) : (emit o d).mode = d.mode := rfl
@[simp] theorem emit_chg (o : Output) (d : Dev) : (emit o d).chg = d.chg := rfl
@[simp] theorem emit_dx (o : Output) (d : Dev) : (emit o d).dx = d.dx := rfl
@[simp] theorem emit_store (o : Output) (d : Dev) : (emit o d).store = d.store := rfl
@[simp] theorem emit_cs (o : Output) (d : Dev) : (emit o d).cs = d.cs := rfl
@[simp] theorem emit_upd (o : Output) (d : Dev) : (emit o d).upd = d.upd := rfl
@[simp] theorem emit_hm (o : Output) (d : Dev) : (emit o d).hm = d.hm := rfl
@[simp] theorem emit_ckr (o : Output) (d : Dev) : (emit o d).ckr = d.ckr := rfl
@[simp] theorem rd_emit (o : Output) (d : Dev) (x : Fld) : rd (emit o d) x = rd d x := rfl
@[simp] theorem flag_emit (o : Output) (d : Dev) (x : Fld) : flag (emit o d) x = flag d x := rfl
@[simp] theorem bitF_emit (o : Output) (d : Dev) (x : Fld) (i : Nat) : bitF (emit o d) x i = bitF d x i := rfl

/-! ## noteOnce -/

@[simp] theorem noteOnce_regs (d : Dev) (key : Nat) : (noteOnce d key).regs = d.regs := rfl
@[simp] theorem noteOnce_captured (d : Dev) (key : Nat) : (noteOnce d key).captured = d.captured := rfl
@[simp] theorem noteOnce_clk (d : Dev) (key : Nat) : (noteOnce d key).clk = d.clk := rfl
@[simp] theorem noteOnce_free (d : Dev) (key : Nat) : (noteOnce d key).free = d.free := rfl
@[simp] theorem noteOnce_once (d : Dev) (key : Nat) : (noteOnce d key).once = mput d.once key d.clk := rfl
@[simp] theorem noteOnce_out (d : Dev) (key : Nat) : (noteOnce d key).out = d.out := rfl
@[simp] theorem noteOnce_msix (d : Dev) (key : Nat) : (noteOnce d key).msix = d.msix := rfl
@[simp] theorem noteOnce_ev (d : Dev) (key : Nat) : (noteOnce d key).ev = d.ev := rfl
@[simp] theorem noteOnce_cw (d : Dev) (key : Nat) : (noteOnce d key).cw = d.cw := rfl
@[simp] theorem noteOnce_fio (d : Dev) (key : Nat) : (noteOnce d key).fio = d.fio := rfl
@[simp] theorem noteOnce_pt (d : Dev) (key : Nat) : (noteOnce d key).pt = d.pt := rfl
@[simp] theorem noteOnce_io (d : Dev) (key : Nat) : (noteOnce d key).io = d.io := rfl
@[simp] theorem noteOnce_staged (d : Dev) (key : Nat) : (noteOnce d key).staged = d.staged := rfl
@[simp] theorem noteOnce_img (d : Dev) (key : Nat) : (noteOnce d key).img = d.img := rfl
@[simp] theorem noteOnce_tu (d : Dev) (key : Nat) : (noteOnce d key).tu = d.tu := rfl
@[simp] theorem noteOnce_bp (d : Dev) (key : Nat) : (noteOnce d key).bp = d.bp := rfl
@[simp] theorem noteOnce_gb (d : Dev) (key : Nat) : (noteOnce d key).gb = d.gb := rfl
@[simp] theorem noteOnce_sw (d : Dev) (key : Nat) : (noteOnce d key).sw = d.sw := rfl
@[simp] theorem noteOnce_te (d : Dev) (key : Nat) : (noteOnce d key).te = d.te := rfl
@[simp] theorem noteOnce_lb (d : Dev) (key : Nat) : (noteOnce d key).lb = d.lb := rfl
@[simp] theorem noteOnce_cyc (d : Dev) (key : Nat) : (noteOnce d key).cyc = d.cyc := rfl
@[simp] theorem noteOnce_mem (d : Dev) (key : Nat) : (noteOnce d key).mem = d.mem := rfl
@[simp] theorem noteOnce_snap (d : Dev) (key : Nat) : (noteOnce d key).snap = d.snap := rfl
@[simp] theorem noteOnce_hi (d : Dev) (key : Nat) : (noteOnce d key).hi = d.hi := rfl
@[simp] theorem noteOnce_ks (d : Dev) (key : Nat) : (noteOnce d key).ks = d.ks := rfl
@[simp] theorem noteOnce_prs (d : Dev) (key : Nat) : (noteOnce d key).prs = d.prs := rfl
@[simp] theorem noteOnce_mode (d : Dev) (key : Nat) : (noteOnce d key).mode = d.mode := rfl
@[simp] theorem noteOnce_chg (d : Dev) (key : Nat) : (noteOnce d key).chg = d.chg := rfl
@[simp] theorem noteOnce_dx (d : Dev) (key : Nat) : (noteOnce d key).dx = d.dx := rfl
@[simp] theorem noteOnce_store (d : Dev) (key : Nat) : (noteOnce d key).store = d.store := rfl
@[simp] theorem noteOnce_cs (d : Dev) (key : Nat) : (noteOnce d key).cs = d.cs := rfl
@[simp] theorem noteOnce_upd (d : Dev) (key : Nat) : (noteOnce d key).upd = d.upd := rfl
@[simp] theorem noteOnce_hm (d : Dev) (key : Nat) : (noteOnce d key).hm = d.hm := rfl
@[simp] theorem noteOnce_ckr (d : Dev) (key : Nat) : (noteOnce d key).ckr = d.ckr := rfl
@[simp] theorem rd_noteOnce (d : Dev) (key : Nat) (x : Fld) : rd (noteOnce d key) x = rd d x := rfl
@[simp] theorem flag_noteOnce (d : Dev) (key : Nat) (x : Fld) : flag (noteOnce d key) x = flag d x := rfl
@[simp] theorem bitF_noteOnce (d : Dev) (key : Nat) (x : Fld) (i : Nat) : bitF (noteOnce d key) x i = bitF d x i := rfl

/-! ## intakePush -/

@[simp] theorem intakePush_regs (e : EvEntry) (d : Dev) : (intakePush e d).regs = d.regs := rfl
@[simp] theorem intakePush_captured (e : EvEntry) (d : Dev) : (intakePush e d).captured = d.captured := rfl
@[simp] theorem intakePush_clk (e : EvEntry) (d : Dev) : (intakePush e d).clk = d.clk := rfl
@[simp] theorem intakePush_free (e : EvEntry) (d : Dev) : (intakePush e d).free = d.free := rfl
@[simp] theorem intakePush_once (e : EvEntry) (d : Dev) : (intakePush e d).once = d.once := rfl
@[simp] theorem intakePush_out (e : EvEntry) (d : Dev) : (intakePush e d).out = d.out := rfl
@[simp] theorem intakePush_msix (e : EvEntry) (d : Dev) : (intakePush e d).msix = d.msix := rfl
@[simp] theorem intakePush_ev (e : EvEntry) (d : Dev) : (intakePush e d).ev = { d.ev with intake := d.ev.intake ++ [e] } := rfl
@[simp] theorem intakePush_cw (e : EvEntry) (d : Dev) : (intakePush e d).cw = d.cw := rfl
@[simp] theorem intakePush_fio (e : EvEntry) (d : Dev) : (intakePush e d).fio = d.fio := rfl
@[simp] theorem intakePush_pt (e : EvEntry) (d : Dev) : (intakePush e d).pt = d.pt := rfl
@[simp] theorem intakePush_io (e : EvEntry) (d : Dev) : (intakePush e d).io = d.io := rfl
@[simp] theorem intakePush_staged (e : EvEntry) (d : Dev) : (intakePush e d).staged = d.staged := rfl
@[simp] theorem intakePush_img (e : EvEntry) (d : Dev) : (intakePush e d).img = d.img := rfl
@[simp] theorem intakePush_tu (e : EvEntry) (d : Dev) : (intakePush e d).tu = d.tu := rfl
@[simp] theorem intakePush_bp (e : EvEntry) (d : Dev) : (intakePush e d).bp = d.bp := rfl
@[simp] theorem intakePush_gb (e : EvEntry) (d : Dev) : (intakePush e d).gb = d.gb := rfl
@[simp] theorem intakePush_sw (e : EvEntry) (d : Dev) : (intakePush e d).sw = d.sw := rfl
@[simp] theorem intakePush_te (e : EvEntry) (d : Dev) : (intakePush e d).te = d.te := rfl
@[simp] theorem intakePush_lb (e : EvEntry) (d : Dev) : (intakePush e d).lb = d.lb := rfl
@[simp] theorem intakePush_cyc (e : EvEntry) (d : Dev) : (intakePush e d).cyc = d.cyc := rfl
@[simp] theorem intakePush_mem (e : EvEntry) (d : Dev) : (intakePush e d).mem = d.mem := rfl
@[simp] theorem intakePush_snap (e : EvEntry) (d : Dev) : (intakePush e d).snap = d.snap := rfl
@[simp] theorem intakePush_hi (e : EvEntry) (d : Dev) : (intakePush e d).hi = d.hi := rfl
@[simp] theorem intakePush_ks (e : EvEntry) (d : Dev) : (intakePush e d).ks = d.ks := rfl
@[simp] theorem intakePush_prs (e : EvEntry) (d : Dev) : (intakePush e d).prs = d.prs := rfl
@[simp] theorem intakePush_mode (e : EvEntry) (d : Dev) : (intakePush e d).mode = d.mode := rfl
@[simp] theorem intakePush_chg (e : EvEntry) (d : Dev) : (intakePush e d).chg = d.chg := rfl
@[simp] theorem intakePush_dx (e : EvEntry) (d : Dev) : (intakePush e d).dx = d.dx := rfl
@[simp] theorem intakePush_store (e : EvEntry) (d : Dev) : (intakePush e d).store = d.store := rfl
@[simp] theorem intakePush_cs (e : EvEntry) (d : Dev) : (intakePush e d).cs = d.cs := rfl
@[simp] theorem intakePush_upd (e : EvEntry) (d : Dev) : (intakePush e d).upd = d.upd := rfl
@[simp] theorem intakePush_hm (e : EvEntry) (d : Dev) : (intakePush e d).hm = d.hm := rfl
@[simp] theorem intakePush_ckr (e : EvEntry) (d : Dev) : (intakePush e d).ckr = d.ckr := rfl
@[simp] theorem rd_intakePush (e : EvEntry) (d : Dev) (x : Fld) : rd (intakePush e d) x = rd d x := rfl
@[simp] theorem flag_intakePush (e : EvEntry) (d : Dev) (x : Fld) : flag (intakePush e d) x = flag d x := rfl
@[simp] theorem bitF_intakePush (e : EvEntry) (d : Dev) (x : Fld) (i : Nat) : bitF (intakePush e d) x i = bitF d x i := rfl

/-! ## evSet -/

@[simp] theorem evSet_regs (f : EvUnit → EvUnit) (d : Dev) : (evSet f d).regs = d.regs := rfl
@[simp] theorem evSet_captured (f : EvUnit → EvUnit) (d : Dev) : (evSet f d).captured = d.captured := rfl
@[simp] theorem evSet_clk (f : EvUnit → EvUnit) (d : Dev) : (evSet f d).clk = d.clk := rfl
@[simp] theorem evSet_free (f : EvUnit → EvUnit) (d : Dev) : (evSet f d).free = d.free := rfl
@[simp] theorem evSet_once (f : EvUnit → EvUnit) (d : Dev) : (evSet f d).once = d.once := rfl
@[simp] theorem evSet_out (f : EvUnit → EvUnit) (d : Dev) : (evSet f d).out = d.out := rfl
@[simp] theorem evSet_msix (f : EvUnit → EvUnit) (d : Dev) : (evSet f d).msix = d.msix := rfl
@[simp] theorem evSet_ev (f : EvUnit → EvUnit) (d : Dev) : (evSet f d).ev = f d.ev := rfl
@[simp] theorem evSet_cw (f : EvUnit → EvUnit) (d : Dev) : (evSet f d).cw = d.cw := rfl
@[simp] theorem evSet_fio (f : EvUnit → EvUnit) (d : Dev) : (evSet f d).fio = d.fio := rfl
@[simp] theorem evSet_pt (f : EvUnit → EvUnit) (d : Dev) : (evSet f d).pt = d.pt := rfl
@[simp] theorem evSet_io (f : EvUnit → EvUnit) (d : Dev) : (evSet f d).io = d.io := rfl
@[simp] theorem evSet_staged (f : EvUnit → EvUnit) (d : Dev) : (evSet f d).staged = d.staged := rfl
@[simp] theorem evSet_img (f : EvUnit → EvUnit) (d : Dev) : (evSet f d).img = d.img := rfl
@[simp] theorem evSet_tu (f : EvUnit → EvUnit) (d : Dev) : (evSet f d).tu = d.tu := rfl
@[simp] theorem evSet_bp (f : EvUnit → EvUnit) (d : Dev) : (evSet f d).bp = d.bp := rfl
@[simp] theorem evSet_gb (f : EvUnit → EvUnit) (d : Dev) : (evSet f d).gb = d.gb := rfl
@[simp] theorem evSet_sw (f : EvUnit → EvUnit) (d : Dev) : (evSet f d).sw = d.sw := rfl
@[simp] theorem evSet_te (f : EvUnit → EvUnit) (d : Dev) : (evSet f d).te = d.te := rfl
@[simp] theorem evSet_lb (f : EvUnit → EvUnit) (d : Dev) : (evSet f d).lb = d.lb := rfl
@[simp] theorem evSet_cyc (f : EvUnit → EvUnit) (d : Dev) : (evSet f d).cyc = d.cyc := rfl
@[simp] theorem evSet_mem (f : EvUnit → EvUnit) (d : Dev) : (evSet f d).mem = d.mem := rfl
@[simp] theorem evSet_snap (f : EvUnit → EvUnit) (d : Dev) : (evSet f d).snap = d.snap := rfl
@[simp] theorem evSet_hi (f : EvUnit → EvUnit) (d : Dev) : (evSet f d).hi = d.hi := rfl
@[simp] theorem evSet_ks (f : EvUnit → EvUnit) (d : Dev) : (evSet f d).ks = d.ks := rfl
@[simp] theorem evSet_prs (f : EvUnit → EvUnit) (d : Dev) : (evSet f d).prs = d.prs := rfl
@[simp] theorem evSet_mode (f : EvUnit → EvUnit) (d : Dev) : (evSet f d).mode = d.mode := rfl
@[simp] theorem evSet_chg (f : EvUnit → EvUnit) (d : Dev) : (evSet f d).chg = d.chg := rfl
@[simp] theorem evSet_dx (f : EvUnit → EvUnit) (d : Dev) : (evSet f d).dx = d.dx := rfl
@[simp] theorem evSet_store (f : EvUnit → EvUnit) (d : Dev) : (evSet f d).store = d.store := rfl
@[simp] theorem evSet_cs (f : EvUnit → EvUnit) (d : Dev) : (evSet f d).cs = d.cs := rfl
@[simp] theorem evSet_upd (f : EvUnit → EvUnit) (d : Dev) : (evSet f d).upd = d.upd := rfl
@[simp] theorem evSet_hm (f : EvUnit → EvUnit) (d : Dev) : (evSet f d).hm = d.hm := rfl
@[simp] theorem evSet_ckr (f : EvUnit → EvUnit) (d : Dev) : (evSet f d).ckr = d.ckr := rfl
@[simp] theorem rd_evSet (f : EvUnit → EvUnit) (d : Dev) (x : Fld) : rd (evSet f d) x = rd d x := rfl
@[simp] theorem flag_evSet (f : EvUnit → EvUnit) (d : Dev) (x : Fld) : flag (evSet f d) x = flag d x := rfl
@[simp] theorem bitF_evSet (f : EvUnit → EvUnit) (d : Dev) (x : Fld) (i : Nat) : bitF (evSet f d) x i = bitF d x i := rfl

/-! ## csSet -/

@[simp] theorem csSet_regs (f : CsUnit → CsUnit) (d : Dev) : (csSet f d).regs = d.regs := rfl
@[simp] theorem csSet_captured (f : CsUnit → CsUnit) (d : Dev) : (csSet f d).captured = d.captured := rfl
@[simp] theorem csSet_clk (f : CsUnit → CsUnit) (d : Dev) : (csSet f d).clk = d.clk := rfl
@[simp] theorem csSet_free (f : CsUnit → CsUnit) (d : Dev) : (csSet f d).free = d.free := rfl
@[simp] theorem csSet_once (f : CsUnit → CsUnit) (d : Dev) : (csSet f d).once = d.once := rfl
@[simp] theorem csSet_out (f : CsUnit → CsUnit) (d : Dev) : (csSet f d).out = d.out := rfl
@[simp] theorem csSet_msix (f : CsUnit → CsUnit) (d : Dev) : (csSet f d).msix = d.msix := rfl
@[simp] theorem csSet_ev (f : CsUnit → CsUnit) (d : Dev) : (csSet f d).ev = d.ev := rfl
@[simp] theorem csSet_cw (f : CsUnit → CsUnit) (d : Dev) : (csSet f d).cw = d.cw := rfl
@[simp] theorem csSet_fio (f : CsUnit → CsUnit) (d : Dev) : (csSet f d).fio = d.fio := rfl
@[simp] theorem csSet_pt (f : CsUnit → CsUnit) (d : Dev) : (csSet f d).pt = d.pt := rfl
@[simp] theorem csSet_io (f : CsUnit → CsUnit) (d : Dev) : (csSet f d).io = d.io := rfl
@[simp] theorem csSet_staged (f : CsUnit → CsUnit) (d : Dev) : (csSet f d).staged = d.staged := rfl
@[simp] theorem csSet_img (f : CsUnit → CsUnit) (d : Dev) : (csSet f d).img = d.img := rfl
@[simp] theorem csSet_tu (f : CsUnit → CsUnit) (d : Dev) : (csSet f d).tu = d.tu := rfl
@[simp] theorem csSet_bp (f : CsUnit → CsUnit) (d : Dev) : (csSet f d).bp = d.bp := rfl
@[simp] theorem csSet_gb (f : CsUnit → CsUnit) (d : Dev) : (csSet f d).gb = d.gb := rfl
@[simp] theorem csSet_sw (f : CsUnit → CsUnit) (d : Dev) : (csSet f d).sw = d.sw := rfl
@[simp] theorem csSet_te (f : CsUnit → CsUnit) (d : Dev) : (csSet f d).te = d.te := rfl
@[simp] theorem csSet_lb (f : CsUnit → CsUnit) (d : Dev) : (csSet f d).lb = d.lb := rfl
@[simp] theorem csSet_cyc (f : CsUnit → CsUnit) (d : Dev) : (csSet f d).cyc = d.cyc := rfl
@[simp] theorem csSet_mem (f : CsUnit → CsUnit) (d : Dev) : (csSet f d).mem = d.mem := rfl
@[simp] theorem csSet_snap (f : CsUnit → CsUnit) (d : Dev) : (csSet f d).snap = d.snap := rfl
@[simp] theorem csSet_hi (f : CsUnit → CsUnit) (d : Dev) : (csSet f d).hi = d.hi := rfl
@[simp] theorem csSet_ks (f : CsUnit → CsUnit) (d : Dev) : (csSet f d).ks = d.ks := rfl
@[simp] theorem csSet_prs (f : CsUnit → CsUnit) (d : Dev) : (csSet f d).prs = d.prs := rfl
@[simp] theorem csSet_mode (f : CsUnit → CsUnit) (d : Dev) : (csSet f d).mode = d.mode := rfl
@[simp] theorem csSet_chg (f : CsUnit → CsUnit) (d : Dev) : (csSet f d).chg = d.chg := rfl
@[simp] theorem csSet_dx (f : CsUnit → CsUnit) (d : Dev) : (csSet f d).dx = d.dx := rfl
@[simp] theorem csSet_store (f : CsUnit → CsUnit) (d : Dev) : (csSet f d).store = d.store := rfl
@[simp] theorem csSet_cs (f : CsUnit → CsUnit) (d : Dev) : (csSet f d).cs = f d.cs := rfl
@[simp] theorem csSet_upd (f : CsUnit → CsUnit) (d : Dev) : (csSet f d).upd = d.upd := rfl
@[simp] theorem csSet_hm (f : CsUnit → CsUnit) (d : Dev) : (csSet f d).hm = d.hm := rfl
@[simp] theorem csSet_ckr (f : CsUnit → CsUnit) (d : Dev) : (csSet f d).ckr = d.ckr := rfl
@[simp] theorem rd_csSet (f : CsUnit → CsUnit) (d : Dev) (x : Fld) : rd (csSet f d) x = rd d x := rfl
@[simp] theorem flag_csSet (f : CsUnit → CsUnit) (d : Dev) (x : Fld) : flag (csSet f d) x = flag d x := rfl
@[simp] theorem bitF_csSet (f : CsUnit → CsUnit) (d : Dev) (x : Fld) (i : Nat) : bitF (csSet f d) x i = bitF d x i := rfl

/-! ## chgSet -/

@[simp] theorem chgSet_regs (f : ChgUnit → ChgUnit) (d : Dev) : (chgSet f d).regs = d.regs := rfl
@[simp] theorem chgSet_captured (f : ChgUnit → ChgUnit) (d : Dev) : (chgSet f d).captured = d.captured := rfl
@[simp] theorem chgSet_clk (f : ChgUnit → ChgUnit) (d : Dev) : (chgSet f d).clk = d.clk := rfl
@[simp] theorem chgSet_free (f : ChgUnit → ChgUnit) (d : Dev) : (chgSet f d).free = d.free := rfl
@[simp] theorem chgSet_once (f : ChgUnit → ChgUnit) (d : Dev) : (chgSet f d).once = d.once := rfl
@[simp] theorem chgSet_out (f : ChgUnit → ChgUnit) (d : Dev) : (chgSet f d).out = d.out := rfl
@[simp] theorem chgSet_msix (f : ChgUnit → ChgUnit) (d : Dev) : (chgSet f d).msix = d.msix := rfl
@[simp] theorem chgSet_ev (f : ChgUnit → ChgUnit) (d : Dev) : (chgSet f d).ev = d.ev := rfl
@[simp] theorem chgSet_cw (f : ChgUnit → ChgUnit) (d : Dev) : (chgSet f d).cw = d.cw := rfl
@[simp] theorem chgSet_fio (f : ChgUnit → ChgUnit) (d : Dev) : (chgSet f d).fio = d.fio := rfl
@[simp] theorem chgSet_pt (f : ChgUnit → ChgUnit) (d : Dev) : (chgSet f d).pt = d.pt := rfl
@[simp] theorem chgSet_io (f : ChgUnit → ChgUnit) (d : Dev) : (chgSet f d).io = d.io := rfl
@[simp] theorem chgSet_staged (f : ChgUnit → ChgUnit) (d : Dev) : (chgSet f d).staged = d.staged := rfl
@[simp] theorem chgSet_img (f : ChgUnit → ChgUnit) (d : Dev) : (chgSet f d).img = d.img := rfl
@[simp] theorem chgSet_tu (f : ChgUnit → ChgUnit) (d : Dev) : (chgSet f d).tu = d.tu := rfl
@[simp] theorem chgSet_bp (f : ChgUnit → ChgUnit) (d : Dev) : (chgSet f d).bp = d.bp := rfl
@[simp] theorem chgSet_gb (f : ChgUnit → ChgUnit) (d : Dev) : (chgSet f d).gb = d.gb := rfl
@[simp] theorem chgSet_sw (f : ChgUnit → ChgUnit) (d : Dev) : (chgSet f d).sw = d.sw := rfl
@[simp] theorem chgSet_te (f : ChgUnit → ChgUnit) (d : Dev) : (chgSet f d).te = d.te := rfl
@[simp] theorem chgSet_lb (f : ChgUnit → ChgUnit) (d : Dev) : (chgSet f d).lb = d.lb := rfl
@[simp] theorem chgSet_cyc (f : ChgUnit → ChgUnit) (d : Dev) : (chgSet f d).cyc = d.cyc := rfl
@[simp] theorem chgSet_mem (f : ChgUnit → ChgUnit) (d : Dev) : (chgSet f d).mem = d.mem := rfl
@[simp] theorem chgSet_snap (f : ChgUnit → ChgUnit) (d : Dev) : (chgSet f d).snap = d.snap := rfl
@[simp] theorem chgSet_hi (f : ChgUnit → ChgUnit) (d : Dev) : (chgSet f d).hi = d.hi := rfl
@[simp] theorem chgSet_ks (f : ChgUnit → ChgUnit) (d : Dev) : (chgSet f d).ks = d.ks := rfl
@[simp] theorem chgSet_prs (f : ChgUnit → ChgUnit) (d : Dev) : (chgSet f d).prs = d.prs := rfl
@[simp] theorem chgSet_mode (f : ChgUnit → ChgUnit) (d : Dev) : (chgSet f d).mode = d.mode := rfl
@[simp] theorem chgSet_chg (f : ChgUnit → ChgUnit) (d : Dev) : (chgSet f d).chg = f d.chg := rfl
@[simp] theorem chgSet_dx (f : ChgUnit → ChgUnit) (d : Dev) : (chgSet f d).dx = d.dx := rfl
@[simp] theorem chgSet_store (f : ChgUnit → ChgUnit) (d : Dev) : (chgSet f d).store = d.store := rfl
@[simp] theorem chgSet_cs (f : ChgUnit → ChgUnit) (d : Dev) : (chgSet f d).cs = d.cs := rfl
@[simp] theorem chgSet_upd (f : ChgUnit → ChgUnit) (d : Dev) : (chgSet f d).upd = d.upd := rfl
@[simp] theorem chgSet_hm (f : ChgUnit → ChgUnit) (d : Dev) : (chgSet f d).hm = d.hm := rfl
@[simp] theorem chgSet_ckr (f : ChgUnit → ChgUnit) (d : Dev) : (chgSet f d).ckr = d.ckr := rfl
@[simp] theorem rd_chgSet (f : ChgUnit → ChgUnit) (d : Dev) (x : Fld) : rd (chgSet f d) x = rd d x := rfl
@[simp] theorem flag_chgSet (f : ChgUnit → ChgUnit) (d : Dev) (x : Fld) : flag (chgSet f d) x = flag d x := rfl
@[simp] theorem bitF_chgSet (f : ChgUnit → ChgUnit) (d : Dev) (x : Fld) (i : Nat) : bitF (chgSet f d) x i = bitF d x i := rfl

/-! ## ckrSet -/

@[simp] theorem ckrSet_regs (f : CkrUnit → CkrUnit) (d : Dev) : (ckrSet f d).regs = d.regs := rfl
@[simp] theorem ckrSet_captured (f : CkrUnit → CkrUnit) (d : Dev) : (ckrSet f d).captured = d.captured := rfl
@[simp] theorem ckrSet_clk (f : CkrUnit → CkrUnit) (d : Dev) : (ckrSet f d).clk = d.clk := rfl
@[simp] theorem ckrSet_free (f : CkrUnit → CkrUnit) (d : Dev) : (ckrSet f d).free = d.free := rfl
@[simp] theorem ckrSet_once (f : CkrUnit → CkrUnit) (d : Dev) : (ckrSet f d).once = d.once := rfl
@[simp] theorem ckrSet_out (f : CkrUnit → CkrUnit) (d : Dev) : (ckrSet f d).out = d.out := rfl
@[simp] theorem ckrSet_msix (f : CkrUnit → CkrUnit) (d : Dev) : (ckrSet f d).msix = d.msix := rfl
@[simp] theorem ckrSet_ev (f : CkrUnit → CkrUnit) (d : Dev) : (ckrSet f d).ev = d.ev := rfl
@[simp] theorem ckrSet_cw (f : CkrUnit → CkrUnit) (d : Dev) : (ckrSet f d).cw = d.cw := rfl
@[simp] theorem ckrSet_fio (f : CkrUnit → CkrUnit) (d : Dev) : (ckrSet f d).fio = d.fio := rfl
@[simp] theorem ckrSet_pt (f : CkrUnit → CkrUnit) (d : Dev) : (ckrSet f d).pt = d.pt := rfl
@[simp] theorem ckrSet_io (f : CkrUnit → CkrUnit) (d : Dev) : (ckrSet f d).io = d.io := rfl
@[simp] theorem ckrSet_staged (f : CkrUnit → CkrUnit) (d : Dev) : (ckrSet f d).staged = d.staged := rfl
@[simp] theorem ckrSet_img (f : CkrUnit → CkrUnit) (d : Dev) : (ckrSet f d).img = d.img := rfl
@[simp] theorem ckrSet_tu (f : CkrUnit → CkrUnit) (d : Dev) : (ckrSet f d).tu = d.tu := rfl
@[simp] theorem ckrSet_bp (f : CkrUnit → CkrUnit) (d : Dev) : (ckrSet f d).bp = d.bp := rfl
@[simp] theorem ckrSet_gb (f : CkrUnit → CkrUnit) (d : Dev) : (ckrSet f d).gb = d.gb := rfl
@[simp] theorem ckrSet_sw (f : CkrUnit → CkrUnit) (d : Dev) : (ckrSet f d).sw = d.sw := rfl
@[simp] theorem ckrSet_te (f : CkrUnit → CkrUnit) (d : Dev) : (ckrSet f d).te = d.te := rfl
@[simp] theorem ckrSet_lb (f : CkrUnit → CkrUnit) (d : Dev) : (ckrSet f d).lb = d.lb := rfl
@[simp] theorem ckrSet_cyc (f : CkrUnit → CkrUnit) (d : Dev) : (ckrSet f d).cyc = d.cyc := rfl
@[simp] theorem ckrSet_mem (f : CkrUnit → CkrUnit) (d : Dev) : (ckrSet f d).mem = d.mem := rfl
@[simp] theorem ckrSet_snap (f : CkrUnit → CkrUnit) (d : Dev) : (ckrSet f d).snap = d.snap := rfl
@[simp] theorem ckrSet_hi (f : CkrUnit → CkrUnit) (d : Dev) : (ckrSet f d).hi = d.hi := rfl
@[simp] theorem ckrSet_ks (f : CkrUnit → CkrUnit) (d : Dev) : (ckrSet f d).ks = d.ks := rfl
@[simp] theorem ckrSet_prs (f : CkrUnit → CkrUnit) (d : Dev) : (ckrSet f d).prs = d.prs := rfl
@[simp] theorem ckrSet_mode (f : CkrUnit → CkrUnit) (d : Dev) : (ckrSet f d).mode = d.mode := rfl
@[simp] theorem ckrSet_chg (f : CkrUnit → CkrUnit) (d : Dev) : (ckrSet f d).chg = d.chg := rfl
@[simp] theorem ckrSet_dx (f : CkrUnit → CkrUnit) (d : Dev) : (ckrSet f d).dx = d.dx := rfl
@[simp] theorem ckrSet_store (f : CkrUnit → CkrUnit) (d : Dev) : (ckrSet f d).store = d.store := rfl
@[simp] theorem ckrSet_cs (f : CkrUnit → CkrUnit) (d : Dev) : (ckrSet f d).cs = d.cs := rfl
@[simp] theorem ckrSet_upd (f : CkrUnit → CkrUnit) (d : Dev) : (ckrSet f d).upd = d.upd := rfl
@[simp] theorem ckrSet_hm (f : CkrUnit → CkrUnit) (d : Dev) : (ckrSet f d).hm = d.hm := rfl
@[simp] theorem ckrSet_ckr (f : CkrUnit → CkrUnit) (d : Dev) : (ckrSet f d).ckr = f d.ckr := rfl
@[simp] theorem rd_ckrSet (f : CkrUnit → CkrUnit) (d : Dev) (x : Fld) : rd (ckrSet f d) x = rd d x := rfl
@[simp] theorem flag_ckrSet (f : CkrUnit → CkrUnit) (d : Dev) (x : Fld) : flag (ckrSet f d) x = flag d x := rfl
@[simp] theorem bitF_ckrSet (f : CkrUnit → CkrUnit) (d : Dev) (x : Fld) (i : Nat) : bitF (ckrSet f d) x i = bitF d x i := rfl

/-! ## cycSet -/

@[simp] theorem cycSet_regs (f : CycUnit → CycUnit) (d : Dev) : (cycSet f d).regs = d.regs := rfl
@[simp] theorem cycSet_captured (f : CycUnit → CycUnit) (d : Dev) : (cycSet f d).captured = d.captured := rfl
@[simp] theorem cycSet_clk (f : CycUnit → CycUnit) (d : Dev) : (cycSet f d).clk = d.clk := rfl
@[simp] theorem cycSet_free (f : CycUnit → CycUnit) (d : Dev) : (cycSet f d).free = d.free := rfl
@[simp] theorem cycSet_once (f : CycUnit → CycUnit) (d : Dev) : (cycSet f d).once = d.once := rfl
@[simp] theorem cycSet_out (f : CycUnit → CycUnit) (d : Dev) : (cycSet f d).out = d.out := rfl
@[simp] theorem cycSet_msix (f : CycUnit → CycUnit) (d : Dev) : (cycSet f d).msix = d.msix := rfl
@[simp] theorem cycSet_ev (f : CycUnit → CycUnit) (d : Dev) : (cycSet f d).ev = d.ev := rfl
@[simp] theorem cycSet_cw (f : CycUnit → CycUnit) (d : Dev) : (cycSet f d).cw = d.cw := rfl
@[simp] theorem cycSet_fio (f : CycUnit → CycUnit) (d : Dev) : (cycSet f d).fio = d.fio := rfl
@[simp] theorem cycSet_pt (f : CycUnit → CycUnit) (d : Dev) : (cycSet f d).pt = d.pt := rfl
@[simp] theorem cycSet_io (f : CycUnit → CycUnit) (d : Dev) : (cycSet f d).io = d.io := rfl
@[simp] theorem cycSet_staged (f : CycUnit → CycUnit) (d : Dev) : (cycSet f d).staged = d.staged := rfl
@[simp] theorem cycSet_img (f : CycUnit → CycUnit) (d : Dev) : (cycSet f d).img = d.img := rfl
@[simp] theorem cycSet_tu (f : CycUnit → CycUnit) (d : Dev) : (cycSet f d).tu = d.tu := rfl
@[simp] theorem cycSet_bp (f : CycUnit → CycUnit) (d : Dev) : (cycSet f d).bp = d.bp := rfl
@[simp] theorem cycSet_gb (f : CycUnit → CycUnit) (d : Dev) : (cycSet f d).gb = d.gb := rfl
@[simp] theorem cycSet_sw (f : CycUnit → CycUnit) (d : Dev) : (cycSet f d).sw = d.sw := rfl
@[simp] theorem cycSet_te (f : CycUnit → CycUnit) (d : Dev) : (cycSet f d).te = d.te := rfl
@[simp] theorem cycSet_lb (f : CycUnit → CycUnit) (d : Dev) : (cycSet f d).lb = d.lb := rfl
@[simp] theorem cycSet_cyc (f : CycUnit → CycUnit) (d : Dev) : (cycSet f d).cyc = f d.cyc := rfl
@[simp] theorem cycSet_mem (f : CycUnit → CycUnit) (d : Dev) : (cycSet f d).mem = d.mem := rfl
@[simp] theorem cycSet_snap (f : CycUnit → CycUnit) (d : Dev) : (cycSet f d).snap = d.snap := rfl
@[simp] theorem cycSet_hi (f : CycUnit → CycUnit) (d : Dev) : (cycSet f d).hi = d.hi := rfl
@[simp] theorem cycSet_ks (f : CycUnit → CycUnit) (d : Dev) : (cycSet f d).ks = d.ks := rfl
@[simp] theorem cycSet_prs (f : CycUnit → CycUnit) (d : Dev) : (cycSet f d).prs = d.prs := rfl
@[simp] theorem cycSet_mode (f : CycUnit → CycUnit) (d : Dev) : (cycSet f d).mode = d.mode := rfl
@[simp] theorem cycSet_chg (f : CycUnit → CycUnit) (d : Dev) : (cycSet f d).chg = d.chg := rfl
@[simp] theorem cycSet_dx (f : CycUnit → CycUnit) (d : Dev) : (cycSet f d).dx = d.dx := rfl
@[simp] theorem cycSet_store (f : CycUnit → CycUnit) (d : Dev) : (cycSet f d).store = d.store := rfl
@[simp] theorem cycSet_cs (f : CycUnit → CycUnit) (d : Dev) : (cycSet f d).cs = d.cs := rfl
@[simp] theorem cycSet_upd (f : CycUnit → CycUnit) (d : Dev) : (cycSet f d).upd = d.upd := rfl
@[simp] theorem cycSet_hm (f : CycUnit → CycUnit) (d : Dev) : (cycSet f d).hm = d.hm := rfl
@[simp] theorem cycSet_ckr (f : CycUnit → CycUnit) (d : Dev) : (cycSet f d).ckr = d.ckr := rfl
@[simp] theorem rd_cycSet (f : CycUnit → CycUnit) (d : Dev) (x : Fld) : rd (cycSet f d) x = rd d x := rfl
@[simp] theorem flag_cycSet (f : CycUnit → CycUnit) (d : Dev) (x : Fld) : flag (cycSet f d) x = flag d x := rfl
@[simp] theorem bitF_cycSet (f : CycUnit → CycUnit) (d : Dev) (x : Fld) (i : Nat) : bitF (cycSet f d) x i = bitF d x i := rfl

/-! ## dxSet -/

@[simp] theorem dxSet_regs (f : DxUnit → DxUnit) (d : Dev) : (dxSet f d).regs = d.regs := rfl
@[simp] theorem dxSet_captured (f : DxUnit → DxUnit) (d : Dev) : (dxSet f d).captured = d.captured := rfl
@[simp] theorem dxSet_clk (f : DxUnit → DxUnit) (d : Dev) : (dxSet f d).clk = d.clk := rfl
@[simp] theorem dxSet_free (f : DxUnit → DxUnit) (d : Dev) : (dxSet f d).free = d.free := rfl
@[simp] theorem dxSet_once (f : DxUnit → DxUnit) (d : Dev) : (dxSet f d).once = d.once := rfl
@[simp] theorem dxSet_out (f : DxUnit → DxUnit) (d : Dev) : (dxSet f d).out = d.out := rfl
@[simp] theorem dxSet_msix (f : DxUnit → DxUnit) (d : Dev) : (dxSet f d).msix = d.msix := rfl
@[simp] theorem dxSet_ev (f : DxUnit → DxUnit) (d : Dev) : (dxSet f d).ev = d.ev := rfl
@[simp] theorem dxSet_cw (f : DxUnit → DxUnit) (d : Dev) : (dxSet f d).cw = d.cw := rfl
@[simp] theorem dxSet_fio (f : DxUnit → DxUnit) (d : Dev) : (dxSet f d).fio = d.fio := rfl
@[simp] theorem dxSet_pt (f : DxUnit → DxUnit) (d : Dev) : (dxSet f d).pt = d.pt := rfl
@[simp] theorem dxSet_io (f : DxUnit → DxUnit) (d : Dev) : (dxSet f d).io = d.io := rfl
@[simp] theorem dxSet_staged (f : DxUnit → DxUnit) (d : Dev) : (dxSet f d).staged = d.staged := rfl
@[simp] theorem dxSet_img (f : DxUnit → DxUnit) (d : Dev) : (dxSet f d).img = d.img := rfl
@[simp] theorem dxSet_tu (f : DxUnit → DxUnit) (d : Dev) : (dxSet f d).tu = d.tu := rfl
@[simp] theorem dxSet_bp (f : DxUnit → DxUnit) (d : Dev) : (dxSet f d).bp = d.bp := rfl
@[simp] theorem dxSet_gb (f : DxUnit → DxUnit) (d : Dev) : (dxSet f d).gb = d.gb := rfl
@[simp] theorem dxSet_sw (f : DxUnit → DxUnit) (d : Dev) : (dxSet f d).sw = d.sw := rfl
@[simp] theorem dxSet_te (f : DxUnit → DxUnit) (d : Dev) : (dxSet f d).te = d.te := rfl
@[simp] theorem dxSet_lb (f : DxUnit → DxUnit) (d : Dev) : (dxSet f d).lb = d.lb := rfl
@[simp] theorem dxSet_cyc (f : DxUnit → DxUnit) (d : Dev) : (dxSet f d).cyc = d.cyc := rfl
@[simp] theorem dxSet_mem (f : DxUnit → DxUnit) (d : Dev) : (dxSet f d).mem = d.mem := rfl
@[simp] theorem dxSet_snap (f : DxUnit → DxUnit) (d : Dev) : (dxSet f d).snap = d.snap := rfl
@[simp] theorem dxSet_hi (f : DxUnit → DxUnit) (d : Dev) : (dxSet f d).hi = d.hi := rfl
@[simp] theorem dxSet_ks (f : DxUnit → DxUnit) (d : Dev) : (dxSet f d).ks = d.ks := rfl
@[simp] theorem dxSet_prs (f : DxUnit → DxUnit) (d : Dev) : (dxSet f d).prs = d.prs := rfl
@[simp] theorem dxSet_mode (f : DxUnit → DxUnit) (d : Dev) : (dxSet f d).mode = d.mode := rfl
@[simp] theorem dxSet_chg (f : DxUnit → DxUnit) (d : Dev) : (dxSet f d).chg = d.chg := rfl
@[simp] theorem dxSet_dx (f : DxUnit → DxUnit) (d : Dev) : (dxSet f d).dx = f d.dx := rfl
@[simp] theorem dxSet_store (f : DxUnit → DxUnit) (d : Dev) : (dxSet f d).store = d.store := rfl
@[simp] theorem dxSet_cs (f : DxUnit → DxUnit) (d : Dev) : (dxSet f d).cs = d.cs := rfl
@[simp] theorem dxSet_upd (f : DxUnit → DxUnit) (d : Dev) : (dxSet f d).upd = d.upd := rfl
@[simp] theorem dxSet_hm (f : DxUnit → DxUnit) (d : Dev) : (dxSet f d).hm = d.hm := rfl
@[simp] theorem dxSet_ckr (f : DxUnit → DxUnit) (d : Dev) : (dxSet f d).ckr = d.ckr := rfl
@[simp] theorem rd_dxSet (f : DxUnit → DxUnit) (d : Dev) (x : Fld) : rd (dxSet f d) x = rd d x := rfl
@[simp] theorem flag_dxSet (f : DxUnit → DxUnit) (d : Dev) (x : Fld) : flag (dxSet f d) x = flag d x := rfl
@[simp] theorem bitF_dxSet (f : DxUnit → DxUnit) (d : Dev) (x : Fld) (i : Nat) : bitF (dxSet f d) x i = bitF d x i := rfl

/-! ## bpSet -/

@[simp] theorem bpSet_regs (f : BootParams → BootParams) (d : Dev) : (bpSet f d).regs = d.regs := rfl
@[simp] theorem bpSet_captured (f : BootParams → BootParams) (d : Dev) : (bpSet f d).captured = d.captured := rfl
@[simp] theorem bpSet_clk (f : BootParams → BootParams) (d : Dev) : (bpSet f d).clk = d.clk := rfl
@[simp] theorem bpSet_free (f : BootParams → BootParams) (d : Dev) : (bpSet f d).free = d.free := rfl
@[simp] theorem bpSet_once (f : BootParams → BootParams) (d : Dev) : (bpSet f d).once = d.once := rfl
@[simp] theorem bpSet_out (f : BootParams → BootParams) (d : Dev) : (bpSet f d).out = d.out := rfl
@[simp] theorem bpSet_msix (f : BootParams → BootParams) (d : Dev) : (bpSet f d).msix = d.msix := rfl
@[simp] theorem bpSet_ev (f : BootParams → BootParams) (d : Dev) : (bpSet f d).ev = d.ev := rfl
@[simp] theorem bpSet_cw (f : BootParams → BootParams) (d : Dev) : (bpSet f d).cw = d.cw := rfl
@[simp] theorem bpSet_fio (f : BootParams → BootParams) (d : Dev) : (bpSet f d).fio = d.fio := rfl
@[simp] theorem bpSet_pt (f : BootParams → BootParams) (d : Dev) : (bpSet f d).pt = d.pt := rfl
@[simp] theorem bpSet_io (f : BootParams → BootParams) (d : Dev) : (bpSet f d).io = d.io := rfl
@[simp] theorem bpSet_staged (f : BootParams → BootParams) (d : Dev) : (bpSet f d).staged = d.staged := rfl
@[simp] theorem bpSet_img (f : BootParams → BootParams) (d : Dev) : (bpSet f d).img = d.img := rfl
@[simp] theorem bpSet_tu (f : BootParams → BootParams) (d : Dev) : (bpSet f d).tu = d.tu := rfl
@[simp] theorem bpSet_bp (f : BootParams → BootParams) (d : Dev) : (bpSet f d).bp = if d.hm.powerFail then d.bp else f d.bp := rfl
@[simp] theorem bpSet_gb (f : BootParams → BootParams) (d : Dev) : (bpSet f d).gb = d.gb := rfl
@[simp] theorem bpSet_sw (f : BootParams → BootParams) (d : Dev) : (bpSet f d).sw = d.sw := rfl
@[simp] theorem bpSet_te (f : BootParams → BootParams) (d : Dev) : (bpSet f d).te = d.te := rfl
@[simp] theorem bpSet_lb (f : BootParams → BootParams) (d : Dev) : (bpSet f d).lb = d.lb := rfl
@[simp] theorem bpSet_cyc (f : BootParams → BootParams) (d : Dev) : (bpSet f d).cyc = d.cyc := rfl
@[simp] theorem bpSet_mem (f : BootParams → BootParams) (d : Dev) : (bpSet f d).mem = d.mem := rfl
@[simp] theorem bpSet_snap (f : BootParams → BootParams) (d : Dev) : (bpSet f d).snap = d.snap := rfl
@[simp] theorem bpSet_hi (f : BootParams → BootParams) (d : Dev) : (bpSet f d).hi = d.hi := rfl
@[simp] theorem bpSet_ks (f : BootParams → BootParams) (d : Dev) : (bpSet f d).ks = d.ks := rfl
@[simp] theorem bpSet_prs (f : BootParams → BootParams) (d : Dev) : (bpSet f d).prs = d.prs := rfl
@[simp] theorem bpSet_mode (f : BootParams → BootParams) (d : Dev) : (bpSet f d).mode = d.mode := rfl
@[simp] theorem bpSet_chg (f : BootParams → BootParams) (d : Dev) : (bpSet f d).chg = d.chg := rfl
@[simp] theorem bpSet_dx (f : BootParams → BootParams) (d : Dev) : (bpSet f d).dx = d.dx := rfl
@[simp] theorem bpSet_store (f : BootParams → BootParams) (d : Dev) : (bpSet f d).store = d.store := rfl
@[simp] theorem bpSet_cs (f : BootParams → BootParams) (d : Dev) : (bpSet f d).cs = d.cs := rfl
@[simp] theorem bpSet_upd (f : BootParams → BootParams) (d : Dev) : (bpSet f d).upd = d.upd := rfl
@[simp] theorem bpSet_hm (f : BootParams → BootParams) (d : Dev) : (bpSet f d).hm = d.hm := rfl
@[simp] theorem bpSet_ckr (f : BootParams → BootParams) (d : Dev) : (bpSet f d).ckr = d.ckr := rfl
@[simp] theorem rd_bpSet (f : BootParams → BootParams) (d : Dev) (x : Fld) : rd (bpSet f d) x = rd d x := rfl
@[simp] theorem flag_bpSet (f : BootParams → BootParams) (d : Dev) (x : Fld) : flag (bpSet f d) x = flag d x := rfl
@[simp] theorem bitF_bpSet (f : BootParams → BootParams) (d : Dev) (x : Fld) (i : Nat) : bitF (bpSet f d) x i = bitF d x i := rfl

/-! ## storeSet -/

@[simp] theorem storeSet_regs (f : ImgStore → ImgStore) (d : Dev) : (storeSet f d).regs = d.regs := rfl
@[simp] theorem storeSet_captured (f : ImgStore → ImgStore) (d : Dev) : (storeSet f d).captured = d.captured := rfl
@[simp] theorem storeSet_clk (f : ImgStore → ImgStore) (d : Dev) : (storeSet f d).clk = d.clk := rfl
@[simp] theorem storeSet_free (f : ImgStore → ImgStore) (d : Dev) : (storeSet f d).free = d.free := rfl
@[simp] theorem storeSet_once (f : ImgStore → ImgStore) (d : Dev) : (storeSet f d).once = d.once := rfl
@[simp] theorem storeSet_out (f : ImgStore → ImgStore) (d : Dev) : (storeSet f d).out = d.out := rfl
@[simp] theorem storeSet_msix (f : ImgStore → ImgStore) (d : Dev) : (storeSet f d).msix = d.msix := rfl
@[simp] theorem storeSet_ev (f : ImgStore → ImgStore) (d : Dev) : (storeSet f d).ev = d.ev := rfl
@[simp] theorem storeSet_cw (f : ImgStore → ImgStore) (d : Dev) : (storeSet f d).cw = d.cw := rfl
@[simp] theorem storeSet_fio (f : ImgStore → ImgStore) (d : Dev) : (storeSet f d).fio = d.fio := rfl
@[simp] theorem storeSet_pt (f : ImgStore → ImgStore) (d : Dev) : (storeSet f d).pt = d.pt := rfl
@[simp] theorem storeSet_io (f : ImgStore → ImgStore) (d : Dev) : (storeSet f d).io = d.io := rfl
@[simp] theorem storeSet_staged (f : ImgStore → ImgStore) (d : Dev) : (storeSet f d).staged = d.staged := rfl
@[simp] theorem storeSet_img (f : ImgStore → ImgStore) (d : Dev) : (storeSet f d).img = d.img := rfl
@[simp] theorem storeSet_tu (f : ImgStore → ImgStore) (d : Dev) : (storeSet f d).tu = d.tu := rfl
@[simp] theorem storeSet_bp (f : ImgStore → ImgStore) (d : Dev) : (storeSet f d).bp = d.bp := rfl
@[simp] theorem storeSet_gb (f : ImgStore → ImgStore) (d : Dev) : (storeSet f d).gb = d.gb := rfl
@[simp] theorem storeSet_sw (f : ImgStore → ImgStore) (d : Dev) : (storeSet f d).sw = d.sw := rfl
@[simp] theorem storeSet_te (f : ImgStore → ImgStore) (d : Dev) : (storeSet f d).te = d.te := rfl
@[simp] theorem storeSet_lb (f : ImgStore → ImgStore) (d : Dev) : (storeSet f d).lb = d.lb := rfl
@[simp] theorem storeSet_cyc (f : ImgStore → ImgStore) (d : Dev) : (storeSet f d).cyc = d.cyc := rfl
@[simp] theorem storeSet_mem (f : ImgStore → ImgStore) (d : Dev) : (storeSet f d).mem = d.mem := rfl
@[simp] theorem storeSet_snap (f : ImgStore → ImgStore) (d : Dev) : (storeSet f d).snap = d.snap := rfl
@[simp] theorem storeSet_hi (f : ImgStore → ImgStore) (d : Dev) : (storeSet f d).hi = d.hi := rfl
@[simp] theorem storeSet_ks (f : ImgStore → ImgStore) (d : Dev) : (storeSet f d).ks = d.ks := rfl
@[simp] theorem storeSet_prs (f : ImgStore → ImgStore) (d : Dev) : (storeSet f d).prs = d.prs := rfl
@[simp] theorem storeSet_mode (f : ImgStore → ImgStore) (d : Dev) : (storeSet f d).mode = d.mode := rfl
@[simp] theorem storeSet_chg (f : ImgStore → ImgStore) (d : Dev) : (storeSet f d).chg = d.chg := rfl
@[simp] theorem storeSet_dx (f : ImgStore → ImgStore) (d : Dev) : (storeSet f d).dx = d.dx := rfl
@[simp] theorem storeSet_store (f : ImgStore → ImgStore) (d : Dev) : (storeSet f d).store = f d.store := rfl
@[simp] theorem storeSet_cs (f : ImgStore → ImgStore) (d : Dev) : (storeSet f d).cs = d.cs := rfl
@[simp] theorem storeSet_upd (f : ImgStore → ImgStore) (d : Dev) : (storeSet f d).upd = d.upd := rfl
@[simp] theorem storeSet_hm (f : ImgStore → ImgStore) (d : Dev) : (storeSet f d).hm = d.hm := rfl
@[simp] theorem storeSet_ckr (f : ImgStore → ImgStore) (d : Dev) : (storeSet f d).ckr = d.ckr := rfl
@[simp] theorem rd_storeSet (f : ImgStore → ImgStore) (d : Dev) (x : Fld) : rd (storeSet f d) x = rd d x := rfl
@[simp] theorem flag_storeSet (f : ImgStore → ImgStore) (d : Dev) (x : Fld) : flag (storeSet f d) x = flag d x := rfl
@[simp] theorem bitF_storeSet (f : ImgStore → ImgStore) (d : Dev) (x : Fld) (i : Nat) : bitF (storeSet f d) x i = bitF d x i := rfl

/-! ## gbSet -/

@[simp] theorem gbSet_regs (f : GbUnit → GbUnit) (d : Dev) : (gbSet f d).regs = d.regs := rfl
@[simp] theorem gbSet_captured (f : GbUnit → GbUnit) (d : Dev) : (gbSet f d).captured = d.captured := rfl
@[simp] theorem gbSet_clk (f : GbUnit → GbUnit) (d : Dev) : (gbSet f d).clk = d.clk := rfl
@[simp] theorem gbSet_free (f : GbUnit → GbUnit) (d : Dev) : (gbSet f d).free = d.free := rfl
@[simp] theorem gbSet_once (f : GbUnit → GbUnit) (d : Dev) : (gbSet f d).once = d.once := rfl
@[simp] theorem gbSet_out (f : GbUnit → GbUnit) (d : Dev) : (gbSet f d).out = d.out := rfl
@[simp] theorem gbSet_msix (f : GbUnit → GbUnit) (d : Dev) : (gbSet f d).msix = d.msix := rfl
@[simp] theorem gbSet_ev (f : GbUnit → GbUnit) (d : Dev) : (gbSet f d).ev = d.ev := rfl
@[simp] theorem gbSet_cw (f : GbUnit → GbUnit) (d : Dev) : (gbSet f d).cw = d.cw := rfl
@[simp] theorem gbSet_fio (f : GbUnit → GbUnit) (d : Dev) : (gbSet f d).fio = d.fio := rfl
@[simp] theorem gbSet_pt (f : GbUnit → GbUnit) (d : Dev) : (gbSet f d).pt = d.pt := rfl
@[simp] theorem gbSet_io (f : GbUnit → GbUnit) (d : Dev) : (gbSet f d).io = d.io := rfl
@[simp] theorem gbSet_staged (f : GbUnit → GbUnit) (d : Dev) : (gbSet f d).staged = d.staged := rfl
@[simp] theorem gbSet_img (f : GbUnit → GbUnit) (d : Dev) : (gbSet f d).img = d.img := rfl
@[simp] theorem gbSet_tu (f : GbUnit → GbUnit) (d : Dev) : (gbSet f d).tu = d.tu := rfl
@[simp] theorem gbSet_bp (f : GbUnit → GbUnit) (d : Dev) : (gbSet f d).bp = d.bp := rfl
@[simp] theorem gbSet_gb (f : GbUnit → GbUnit) (d : Dev) : (gbSet f d).gb = f d.gb := rfl
@[simp] theorem gbSet_sw (f : GbUnit → GbUnit) (d : Dev) : (gbSet f d).sw = d.sw := rfl
@[simp] theorem gbSet_te (f : GbUnit → GbUnit) (d : Dev) : (gbSet f d).te = d.te := rfl
@[simp] theorem gbSet_lb (f : GbUnit → GbUnit) (d : Dev) : (gbSet f d).lb = d.lb := rfl
@[simp] theorem gbSet_cyc (f : GbUnit → GbUnit) (d : Dev) : (gbSet f d).cyc = d.cyc := rfl
@[simp] theorem gbSet_mem (f : GbUnit → GbUnit) (d : Dev) : (gbSet f d).mem = d.mem := rfl
@[simp] theorem gbSet_snap (f : GbUnit → GbUnit) (d : Dev) : (gbSet f d).snap = d.snap := rfl
@[simp] theorem gbSet_hi (f : GbUnit → GbUnit) (d : Dev) : (gbSet f d).hi = d.hi := rfl
@[simp] theorem gbSet_ks (f : GbUnit → GbUnit) (d : Dev) : (gbSet f d).ks = d.ks := rfl
@[simp] theorem gbSet_prs (f : GbUnit → GbUnit) (d : Dev) : (gbSet f d).prs = d.prs := rfl
@[simp] theorem gbSet_mode (f : GbUnit → GbUnit) (d : Dev) : (gbSet f d).mode = d.mode := rfl
@[simp] theorem gbSet_chg (f : GbUnit → GbUnit) (d : Dev) : (gbSet f d).chg = d.chg := rfl
@[simp] theorem gbSet_dx (f : GbUnit → GbUnit) (d : Dev) : (gbSet f d).dx = d.dx := rfl
@[simp] theorem gbSet_store (f : GbUnit → GbUnit) (d : Dev) : (gbSet f d).store = d.store := rfl
@[simp] theorem gbSet_cs (f : GbUnit → GbUnit) (d : Dev) : (gbSet f d).cs = d.cs := rfl
@[simp] theorem gbSet_upd (f : GbUnit → GbUnit) (d : Dev) : (gbSet f d).upd = d.upd := rfl
@[simp] theorem gbSet_hm (f : GbUnit → GbUnit) (d : Dev) : (gbSet f d).hm = d.hm := rfl
@[simp] theorem gbSet_ckr (f : GbUnit → GbUnit) (d : Dev) : (gbSet f d).ckr = d.ckr := rfl
@[simp] theorem rd_gbSet (f : GbUnit → GbUnit) (d : Dev) (x : Fld) : rd (gbSet f d) x = rd d x := rfl
@[simp] theorem flag_gbSet (f : GbUnit → GbUnit) (d : Dev) (x : Fld) : flag (gbSet f d) x = flag d x := rfl
@[simp] theorem bitF_gbSet (f : GbUnit → GbUnit) (d : Dev) (x : Fld) (i : Nat) : bitF (gbSet f d) x i = bitF d x i := rfl

/-! ## hiSet -/

@[simp] theorem hiSet_regs (f : HiUnit → HiUnit) (d : Dev) : (hiSet f d).regs = d.regs := rfl
@[simp] theorem hiSet_captured (f : HiUnit → HiUnit) (d : Dev) : (hiSet f d).captured = d.captured := rfl
@[simp] theorem hiSet_clk (f : HiUnit → HiUnit) (d : Dev) : (hiSet f d).clk = d.clk := rfl
@[simp] theorem hiSet_free (f : HiUnit → HiUnit) (d : Dev) : (hiSet f d).free = d.free := rfl
@[simp] theorem hiSet_once (f : HiUnit → HiUnit) (d : Dev) : (hiSet f d).once = d.once := rfl
@[simp] theorem hiSet_out (f : HiUnit → HiUnit) (d : Dev) : (hiSet f d).out = d.out := rfl
@[simp] theorem hiSet_msix (f : HiUnit → HiUnit) (d : Dev) : (hiSet f d).msix = d.msix := rfl
@[simp] theorem hiSet_ev (f : HiUnit → HiUnit) (d : Dev) : (hiSet f d).ev = d.ev := rfl
@[simp] theorem hiSet_cw (f : HiUnit → HiUnit) (d : Dev) : (hiSet f d).cw = d.cw := rfl
@[simp] theorem hiSet_fio (f : HiUnit → HiUnit) (d : Dev) : (hiSet f d).fio = d.fio := rfl
@[simp] theorem hiSet_pt (f : HiUnit → HiUnit) (d : Dev) : (hiSet f d).pt = d.pt := rfl
@[simp] theorem hiSet_io (f : HiUnit → HiUnit) (d : Dev) : (hiSet f d).io = d.io := rfl
@[simp] theorem hiSet_staged (f : HiUnit → HiUnit) (d : Dev) : (hiSet f d).staged = d.staged := rfl
@[simp] theorem hiSet_img (f : HiUnit → HiUnit) (d : Dev) : (hiSet f d).img = d.img := rfl
@[simp] theorem hiSet_tu (f : HiUnit → HiUnit) (d : Dev) : (hiSet f d).tu = d.tu := rfl
@[simp] theorem hiSet_bp (f : HiUnit → HiUnit) (d : Dev) : (hiSet f d).bp = d.bp := rfl
@[simp] theorem hiSet_gb (f : HiUnit → HiUnit) (d : Dev) : (hiSet f d).gb = d.gb := rfl
@[simp] theorem hiSet_sw (f : HiUnit → HiUnit) (d : Dev) : (hiSet f d).sw = d.sw := rfl
@[simp] theorem hiSet_te (f : HiUnit → HiUnit) (d : Dev) : (hiSet f d).te = d.te := rfl
@[simp] theorem hiSet_lb (f : HiUnit → HiUnit) (d : Dev) : (hiSet f d).lb = d.lb := rfl
@[simp] theorem hiSet_cyc (f : HiUnit → HiUnit) (d : Dev) : (hiSet f d).cyc = d.cyc := rfl
@[simp] theorem hiSet_mem (f : HiUnit → HiUnit) (d : Dev) : (hiSet f d).mem = d.mem := rfl
@[simp] theorem hiSet_snap (f : HiUnit → HiUnit) (d : Dev) : (hiSet f d).snap = d.snap := rfl
@[simp] theorem hiSet_hi (f : HiUnit → HiUnit) (d : Dev) : (hiSet f d).hi = f d.hi := rfl
@[simp] theorem hiSet_ks (f : HiUnit → HiUnit) (d : Dev) : (hiSet f d).ks = d.ks := rfl
@[simp] theorem hiSet_prs (f : HiUnit → HiUnit) (d : Dev) : (hiSet f d).prs = d.prs := rfl
@[simp] theorem hiSet_mode (f : HiUnit → HiUnit) (d : Dev) : (hiSet f d).mode = d.mode := rfl
@[simp] theorem hiSet_chg (f : HiUnit → HiUnit) (d : Dev) : (hiSet f d).chg = d.chg := rfl
@[simp] theorem hiSet_dx (f : HiUnit → HiUnit) (d : Dev) : (hiSet f d).dx = d.dx := rfl
@[simp] theorem hiSet_store (f : HiUnit → HiUnit) (d : Dev) : (hiSet f d).store = d.store := rfl
@[simp] theorem hiSet_cs (f : HiUnit → HiUnit) (d : Dev) : (hiSet f d).cs = d.cs := rfl
@[simp] theorem hiSet_upd (f : HiUnit → HiUnit) (d : Dev) : (hiSet f d).upd = d.upd := rfl
@[simp] theorem hiSet_hm (f : HiUnit → HiUnit) (d : Dev) : (hiSet f d).hm = d.hm := rfl
@[simp] theorem hiSet_ckr (f : HiUnit → HiUnit) (d : Dev) : (hiSet f d).ckr = d.ckr := rfl
@[simp] theorem rd_hiSet (f : HiUnit → HiUnit) (d : Dev) (x : Fld) : rd (hiSet f d) x = rd d x := rfl
@[simp] theorem flag_hiSet (f : HiUnit → HiUnit) (d : Dev) (x : Fld) : flag (hiSet f d) x = flag d x := rfl
@[simp] theorem bitF_hiSet (f : HiUnit → HiUnit) (d : Dev) (x : Fld) (i : Nat) : bitF (hiSet f d) x i = bitF d x i := rfl

/-! ## modeSet -/

@[simp] theorem modeSet_regs (f : ModeUnit → ModeUnit) (d : Dev) : (modeSet f d).regs = d.regs := rfl
@[simp] theorem modeSet_captured (f : ModeUnit → ModeUnit) (d : Dev) : (modeSet f d).captured = d.captured := rfl
@[simp] theorem modeSet_clk (f : ModeUnit → ModeUnit) (d : Dev) : (modeSet f d).clk = d.clk := rfl
@[simp] theorem modeSet_free (f : ModeUnit → ModeUnit) (d : Dev) : (modeSet f d).free = d.free := rfl
@[simp] theorem modeSet_once (f : ModeUnit → ModeUnit) (d : Dev) : (modeSet f d).once = d.once := rfl
@[simp] theorem modeSet_out (f : ModeUnit → ModeUnit) (d : Dev) : (modeSet f d).out = d.out := rfl
@[simp] theorem modeSet_msix (f : ModeUnit → ModeUnit) (d : Dev) : (modeSet f d).msix = d.msix := rfl
@[simp] theorem modeSet_ev (f : ModeUnit → ModeUnit) (d : Dev) : (modeSet f d).ev = d.ev := rfl
@[simp] theorem modeSet_cw (f : ModeUnit → ModeUnit) (d : Dev) : (modeSet f d).cw = d.cw := rfl
@[simp] theorem modeSet_fio (f : ModeUnit → ModeUnit) (d : Dev) : (modeSet f d).fio = d.fio := rfl
@[simp] theorem modeSet_pt (f : ModeUnit → ModeUnit) (d : Dev) : (modeSet f d).pt = d.pt := rfl
@[simp] theorem modeSet_io (f : ModeUnit → ModeUnit) (d : Dev) : (modeSet f d).io = d.io := rfl
@[simp] theorem modeSet_staged (f : ModeUnit → ModeUnit) (d : Dev) : (modeSet f d).staged = d.staged := rfl
@[simp] theorem modeSet_img (f : ModeUnit → ModeUnit) (d : Dev) : (modeSet f d).img = d.img := rfl
@[simp] theorem modeSet_tu (f : ModeUnit → ModeUnit) (d : Dev) : (modeSet f d).tu = d.tu := rfl
@[simp] theorem modeSet_bp (f : ModeUnit → ModeUnit) (d : Dev) : (modeSet f d).bp = d.bp := rfl
@[simp] theorem modeSet_gb (f : ModeUnit → ModeUnit) (d : Dev) : (modeSet f d).gb = d.gb := rfl
@[simp] theorem modeSet_sw (f : ModeUnit → ModeUnit) (d : Dev) : (modeSet f d).sw = d.sw := rfl
@[simp] theorem modeSet_te (f : ModeUnit → ModeUnit) (d : Dev) : (modeSet f d).te = d.te := rfl
@[simp] theorem modeSet_lb (f : ModeUnit → ModeUnit) (d : Dev) : (modeSet f d).lb = d.lb := rfl
@[simp] theorem modeSet_cyc (f : ModeUnit → ModeUnit) (d : Dev) : (modeSet f d).cyc = d.cyc := rfl
@[simp] theorem modeSet_mem (f : ModeUnit → ModeUnit) (d : Dev) : (modeSet f d).mem = d.mem := rfl
@[simp] theorem modeSet_snap (f : ModeUnit → ModeUnit) (d : Dev) : (modeSet f d).snap = d.snap := rfl
@[simp] theorem modeSet_hi (f : ModeUnit → ModeUnit) (d : Dev) : (modeSet f d).hi = d.hi := rfl
@[simp] theorem modeSet_ks (f : ModeUnit → ModeUnit) (d : Dev) : (modeSet f d).ks = d.ks := rfl
@[simp] theorem modeSet_prs (f : ModeUnit → ModeUnit) (d : Dev) : (modeSet f d).prs = d.prs := rfl
@[simp] theorem modeSet_mode (f : ModeUnit → ModeUnit) (d : Dev) : (modeSet f d).mode = f d.mode := rfl
@[simp] theorem modeSet_chg (f : ModeUnit → ModeUnit) (d : Dev) : (modeSet f d).chg = d.chg := rfl
@[simp] theorem modeSet_dx (f : ModeUnit → ModeUnit) (d : Dev) : (modeSet f d).dx = d.dx := rfl
@[simp] theorem modeSet_store (f : ModeUnit → ModeUnit) (d : Dev) : (modeSet f d).store = d.store := rfl
@[simp] theorem modeSet_cs (f : ModeUnit → ModeUnit) (d : Dev) : (modeSet f d).cs = d.cs := rfl
@[simp] theorem modeSet_upd (f : ModeUnit → ModeUnit) (d : Dev) : (modeSet f d).upd = d.upd := rfl
@[simp] theorem modeSet_hm (f : ModeUnit → ModeUnit) (d : Dev) : (modeSet f d).hm = d.hm := rfl
@[simp] theorem modeSet_ckr (f : ModeUnit → ModeUnit) (d : Dev) : (modeSet f d).ckr = d.ckr := rfl
@[simp] theorem rd_modeSet (f : ModeUnit → ModeUnit) (d : Dev) (x : Fld) : rd (modeSet f d) x = rd d x := rfl
@[simp] theorem flag_modeSet (f : ModeUnit → ModeUnit) (d : Dev) (x : Fld) : flag (modeSet f d) x = flag d x := rfl
@[simp] theorem bitF_modeSet (f : ModeUnit → ModeUnit) (d : Dev) (x : Fld) (i : Nat) : bitF (modeSet f d) x i = bitF d x i := rfl

/-! ## ksSet -/

@[simp] theorem ksSet_regs (f : KsUnit → KsUnit) (d : Dev) : (ksSet f d).regs = d.regs := rfl
@[simp] theorem ksSet_captured (f : KsUnit → KsUnit) (d : Dev) : (ksSet f d).captured = d.captured := rfl
@[simp] theorem ksSet_clk (f : KsUnit → KsUnit) (d : Dev) : (ksSet f d).clk = d.clk := rfl
@[simp] theorem ksSet_free (f : KsUnit → KsUnit) (d : Dev) : (ksSet f d).free = d.free := rfl
@[simp] theorem ksSet_once (f : KsUnit → KsUnit) (d : Dev) : (ksSet f d).once = d.once := rfl
@[simp] theorem ksSet_out (f : KsUnit → KsUnit) (d : Dev) : (ksSet f d).out = d.out := rfl
@[simp] theorem ksSet_msix (f : KsUnit → KsUnit) (d : Dev) : (ksSet f d).msix = d.msix := rfl
@[simp] theorem ksSet_ev (f : KsUnit → KsUnit) (d : Dev) : (ksSet f d).ev = d.ev := rfl
@[simp] theorem ksSet_cw (f : KsUnit → KsUnit) (d : Dev) : (ksSet f d).cw = d.cw := rfl
@[simp] theorem ksSet_fio (f : KsUnit → KsUnit) (d : Dev) : (ksSet f d).fio = d.fio := rfl
@[simp] theorem ksSet_pt (f : KsUnit → KsUnit) (d : Dev) : (ksSet f d).pt = d.pt := rfl
@[simp] theorem ksSet_io (f : KsUnit → KsUnit) (d : Dev) : (ksSet f d).io = d.io := rfl
@[simp] theorem ksSet_staged (f : KsUnit → KsUnit) (d : Dev) : (ksSet f d).staged = d.staged := rfl
@[simp] theorem ksSet_img (f : KsUnit → KsUnit) (d : Dev) : (ksSet f d).img = d.img := rfl
@[simp] theorem ksSet_tu (f : KsUnit → KsUnit) (d : Dev) : (ksSet f d).tu = d.tu := rfl
@[simp] theorem ksSet_bp (f : KsUnit → KsUnit) (d : Dev) : (ksSet f d).bp = d.bp := rfl
@[simp] theorem ksSet_gb (f : KsUnit → KsUnit) (d : Dev) : (ksSet f d).gb = d.gb := rfl
@[simp] theorem ksSet_sw (f : KsUnit → KsUnit) (d : Dev) : (ksSet f d).sw = d.sw := rfl
@[simp] theorem ksSet_te (f : KsUnit → KsUnit) (d : Dev) : (ksSet f d).te = d.te := rfl
@[simp] theorem ksSet_lb (f : KsUnit → KsUnit) (d : Dev) : (ksSet f d).lb = d.lb := rfl
@[simp] theorem ksSet_cyc (f : KsUnit → KsUnit) (d : Dev) : (ksSet f d).cyc = d.cyc := rfl
@[simp] theorem ksSet_mem (f : KsUnit → KsUnit) (d : Dev) : (ksSet f d).mem = d.mem := rfl
@[simp] theorem ksSet_snap (f : KsUnit → KsUnit) (d : Dev) : (ksSet f d).snap = d.snap := rfl
@[simp] theorem ksSet_hi (f : KsUnit → KsUnit) (d : Dev) : (ksSet f d).hi = d.hi := rfl
@[simp] theorem ksSet_ks (f : KsUnit → KsUnit) (d : Dev) : (ksSet f d).ks = f d.ks := rfl
@[simp] theorem ksSet_prs (f : KsUnit → KsUnit) (d : Dev) : (ksSet f d).prs = d.prs := rfl
@[simp] theorem ksSet_mode (f : KsUnit → KsUnit) (d : Dev) : (ksSet f d).mode = d.mode := rfl
@[simp] theorem ksSet_chg (f : KsUnit → KsUnit) (d : Dev) : (ksSet f d).chg = d.chg := rfl
@[simp] theorem ksSet_dx (f : KsUnit → KsUnit) (d : Dev) : (ksSet f d).dx = d.dx := rfl
@[simp] theorem ksSet_store (f : KsUnit → KsUnit) (d : Dev) : (ksSet f d).store = d.store := rfl
@[simp] theorem ksSet_cs (f : KsUnit → KsUnit) (d : Dev) : (ksSet f d).cs = d.cs := rfl
@[simp] theorem ksSet_upd (f : KsUnit → KsUnit) (d : Dev) : (ksSet f d).upd = d.upd := rfl
@[simp] theorem ksSet_hm (f : KsUnit → KsUnit) (d : Dev) : (ksSet f d).hm = d.hm := rfl
@[simp] theorem ksSet_ckr (f : KsUnit → KsUnit) (d : Dev) : (ksSet f d).ckr = d.ckr := rfl
@[simp] theorem rd_ksSet (f : KsUnit → KsUnit) (d : Dev) (x : Fld) : rd (ksSet f d) x = rd d x := rfl
@[simp] theorem flag_ksSet (f : KsUnit → KsUnit) (d : Dev) (x : Fld) : flag (ksSet f d) x = flag d x := rfl
@[simp] theorem bitF_ksSet (f : KsUnit → KsUnit) (d : Dev) (x : Fld) (i : Nat) : bitF (ksSet f d) x i = bitF d x i := rfl

/-! ## swSet -/

@[simp] theorem swSet_regs (f : SwUnit → SwUnit) (d : Dev) : (swSet f d).regs = d.regs := rfl
@[simp] theorem swSet_captured (f : SwUnit → SwUnit) (d : Dev) : (swSet f d).captured = d.captured := rfl
@[simp] theorem swSet_clk (f : SwUnit → SwUnit) (d : Dev) : (swSet f d).clk = d.clk := rfl
@[simp] theorem swSet_free (f : SwUnit → SwUnit) (d : Dev) : (swSet f d).free = d.free := rfl
@[simp] theorem swSet_once (f : SwUnit → SwUnit) (d : Dev) : (swSet f d).once = d.once := rfl
@[simp] theorem swSet_out (f : SwUnit → SwUnit) (d : Dev) : (swSet f d).out = d.out := rfl
@[simp] theorem swSet_msix (f : SwUnit → SwUnit) (d : Dev) : (swSet f d).msix = d.msix := rfl
@[simp] theorem swSet_ev (f : SwUnit → SwUnit) (d : Dev) : (swSet f d).ev = d.ev := rfl
@[simp] theorem swSet_cw (f : SwUnit → SwUnit) (d : Dev) : (swSet f d).cw = d.cw := rfl
@[simp] theorem swSet_fio (f : SwUnit → SwUnit) (d : Dev) : (swSet f d).fio = d.fio := rfl
@[simp] theorem swSet_pt (f : SwUnit → SwUnit) (d : Dev) : (swSet f d).pt = d.pt := rfl
@[simp] theorem swSet_io (f : SwUnit → SwUnit) (d : Dev) : (swSet f d).io = d.io := rfl
@[simp] theorem swSet_staged (f : SwUnit → SwUnit) (d : Dev) : (swSet f d).staged = d.staged := rfl
@[simp] theorem swSet_img (f : SwUnit → SwUnit) (d : Dev) : (swSet f d).img = d.img := rfl
@[simp] theorem swSet_tu (f : SwUnit → SwUnit) (d : Dev) : (swSet f d).tu = d.tu := rfl
@[simp] theorem swSet_bp (f : SwUnit → SwUnit) (d : Dev) : (swSet f d).bp = d.bp := rfl
@[simp] theorem swSet_gb (f : SwUnit → SwUnit) (d : Dev) : (swSet f d).gb = d.gb := rfl
@[simp] theorem swSet_sw (f : SwUnit → SwUnit) (d : Dev) : (swSet f d).sw = f d.sw := rfl
@[simp] theorem swSet_te (f : SwUnit → SwUnit) (d : Dev) : (swSet f d).te = d.te := rfl
@[simp] theorem swSet_lb (f : SwUnit → SwUnit) (d : Dev) : (swSet f d).lb = d.lb := rfl
@[simp] theorem swSet_cyc (f : SwUnit → SwUnit) (d : Dev) : (swSet f d).cyc = d.cyc := rfl
@[simp] theorem swSet_mem (f : SwUnit → SwUnit) (d : Dev) : (swSet f d).mem = d.mem := rfl
@[simp] theorem swSet_snap (f : SwUnit → SwUnit) (d : Dev) : (swSet f d).snap = d.snap := rfl
@[simp] theorem swSet_hi (f : SwUnit → SwUnit) (d : Dev) : (swSet f d).hi = d.hi := rfl
@[simp] theorem swSet_ks (f : SwUnit → SwUnit) (d : Dev) : (swSet f d).ks = d.ks := rfl
@[simp] theorem swSet_prs (f : SwUnit → SwUnit) (d : Dev) : (swSet f d).prs = d.prs := rfl
@[simp] theorem swSet_mode (f : SwUnit → SwUnit) (d : Dev) : (swSet f d).mode = d.mode := rfl
@[simp] theorem swSet_chg (f : SwUnit → SwUnit) (d : Dev) : (swSet f d).chg = d.chg := rfl
@[simp] theorem swSet_dx (f : SwUnit → SwUnit) (d : Dev) : (swSet f d).dx = d.dx := rfl
@[simp] theorem swSet_store (f : SwUnit → SwUnit) (d : Dev) : (swSet f d).store = d.store := rfl
@[simp] theorem swSet_cs (f : SwUnit → SwUnit) (d : Dev) : (swSet f d).cs = d.cs := rfl
@[simp] theorem swSet_upd (f : SwUnit → SwUnit) (d : Dev) : (swSet f d).upd = d.upd := rfl
@[simp] theorem swSet_hm (f : SwUnit → SwUnit) (d : Dev) : (swSet f d).hm = d.hm := rfl
@[simp] theorem swSet_ckr (f : SwUnit → SwUnit) (d : Dev) : (swSet f d).ckr = d.ckr := rfl
@[simp] theorem rd_swSet (f : SwUnit → SwUnit) (d : Dev) (x : Fld) : rd (swSet f d) x = rd d x := rfl
@[simp] theorem flag_swSet (f : SwUnit → SwUnit) (d : Dev) (x : Fld) : flag (swSet f d) x = flag d x := rfl
@[simp] theorem bitF_swSet (f : SwUnit → SwUnit) (d : Dev) (x : Fld) (i : Nat) : bitF (swSet f d) x i = bitF d x i := rfl

/-! ## teSet -/

@[simp] theorem teSet_regs (f : TeUnit → TeUnit) (d : Dev) : (teSet f d).regs = d.regs := rfl
@[simp] theorem teSet_captured (f : TeUnit → TeUnit) (d : Dev) : (teSet f d).captured = d.captured := rfl
@[simp] theorem teSet_clk (f : TeUnit → TeUnit) (d : Dev) : (teSet f d).clk = d.clk := rfl
@[simp] theorem teSet_free (f : TeUnit → TeUnit) (d : Dev) : (teSet f d).free = d.free := rfl
@[simp] theorem teSet_once (f : TeUnit → TeUnit) (d : Dev) : (teSet f d).once = d.once := rfl
@[simp] theorem teSet_out (f : TeUnit → TeUnit) (d : Dev) : (teSet f d).out = d.out := rfl
@[simp] theorem teSet_msix (f : TeUnit → TeUnit) (d : Dev) : (teSet f d).msix = d.msix := rfl
@[simp] theorem teSet_ev (f : TeUnit → TeUnit) (d : Dev) : (teSet f d).ev = d.ev := rfl
@[simp] theorem teSet_cw (f : TeUnit → TeUnit) (d : Dev) : (teSet f d).cw = d.cw := rfl
@[simp] theorem teSet_fio (f : TeUnit → TeUnit) (d : Dev) : (teSet f d).fio = d.fio := rfl
@[simp] theorem teSet_pt (f : TeUnit → TeUnit) (d : Dev) : (teSet f d).pt = d.pt := rfl
@[simp] theorem teSet_io (f : TeUnit → TeUnit) (d : Dev) : (teSet f d).io = d.io := rfl
@[simp] theorem teSet_staged (f : TeUnit → TeUnit) (d : Dev) : (teSet f d).staged = d.staged := rfl
@[simp] theorem teSet_img (f : TeUnit → TeUnit) (d : Dev) : (teSet f d).img = d.img := rfl
@[simp] theorem teSet_tu (f : TeUnit → TeUnit) (d : Dev) : (teSet f d).tu = d.tu := rfl
@[simp] theorem teSet_bp (f : TeUnit → TeUnit) (d : Dev) : (teSet f d).bp = d.bp := rfl
@[simp] theorem teSet_gb (f : TeUnit → TeUnit) (d : Dev) : (teSet f d).gb = d.gb := rfl
@[simp] theorem teSet_sw (f : TeUnit → TeUnit) (d : Dev) : (teSet f d).sw = d.sw := rfl
@[simp] theorem teSet_te (f : TeUnit → TeUnit) (d : Dev) : (teSet f d).te = f d.te := rfl
@[simp] theorem teSet_lb (f : TeUnit → TeUnit) (d : Dev) : (teSet f d).lb = d.lb := rfl
@[simp] theorem teSet_cyc (f : TeUnit → TeUnit) (d : Dev) : (teSet f d).cyc = d.cyc := rfl
@[simp] theorem teSet_mem (f : TeUnit → TeUnit) (d : Dev) : (teSet f d).mem = d.mem := rfl
@[simp] theorem teSet_snap (f : TeUnit → TeUnit) (d : Dev) : (teSet f d).snap = d.snap := rfl
@[simp] theorem teSet_hi (f : TeUnit → TeUnit) (d : Dev) : (teSet f d).hi = d.hi := rfl
@[simp] theorem teSet_ks (f : TeUnit → TeUnit) (d : Dev) : (teSet f d).ks = d.ks := rfl
@[simp] theorem teSet_prs (f : TeUnit → TeUnit) (d : Dev) : (teSet f d).prs = d.prs := rfl
@[simp] theorem teSet_mode (f : TeUnit → TeUnit) (d : Dev) : (teSet f d).mode = d.mode := rfl
@[simp] theorem teSet_chg (f : TeUnit → TeUnit) (d : Dev) : (teSet f d).chg = d.chg := rfl
@[simp] theorem teSet_dx (f : TeUnit → TeUnit) (d : Dev) : (teSet f d).dx = d.dx := rfl
@[simp] theorem teSet_store (f : TeUnit → TeUnit) (d : Dev) : (teSet f d).store = d.store := rfl
@[simp] theorem teSet_cs (f : TeUnit → TeUnit) (d : Dev) : (teSet f d).cs = d.cs := rfl
@[simp] theorem teSet_upd (f : TeUnit → TeUnit) (d : Dev) : (teSet f d).upd = d.upd := rfl
@[simp] theorem teSet_hm (f : TeUnit → TeUnit) (d : Dev) : (teSet f d).hm = d.hm := rfl
@[simp] theorem teSet_ckr (f : TeUnit → TeUnit) (d : Dev) : (teSet f d).ckr = d.ckr := rfl
@[simp] theorem rd_teSet (f : TeUnit → TeUnit) (d : Dev) (x : Fld) : rd (teSet f d) x = rd d x := rfl
@[simp] theorem flag_teSet (f : TeUnit → TeUnit) (d : Dev) (x : Fld) : flag (teSet f d) x = flag d x := rfl
@[simp] theorem bitF_teSet (f : TeUnit → TeUnit) (d : Dev) (x : Fld) (i : Nat) : bitF (teSet f d) x i = bitF d x i := rfl

/-! ## tuSet -/

@[simp] theorem tuSet_regs (f : TuUnit → TuUnit) (d : Dev) : (tuSet f d).regs = d.regs := rfl
@[simp] theorem tuSet_captured (f : TuUnit → TuUnit) (d : Dev) : (tuSet f d).captured = d.captured := rfl
@[simp] theorem tuSet_clk (f : TuUnit → TuUnit) (d : Dev) : (tuSet f d).clk = d.clk := rfl
@[simp] theorem tuSet_free (f : TuUnit → TuUnit) (d : Dev) : (tuSet f d).free = d.free := rfl
@[simp] theorem tuSet_once (f : TuUnit → TuUnit) (d : Dev) : (tuSet f d).once = d.once := rfl
@[simp] theorem tuSet_out (f : TuUnit → TuUnit) (d : Dev) : (tuSet f d).out = d.out := rfl
@[simp] theorem tuSet_msix (f : TuUnit → TuUnit) (d : Dev) : (tuSet f d).msix = d.msix := rfl
@[simp] theorem tuSet_ev (f : TuUnit → TuUnit) (d : Dev) : (tuSet f d).ev = d.ev := rfl
@[simp] theorem tuSet_cw (f : TuUnit → TuUnit) (d : Dev) : (tuSet f d).cw = d.cw := rfl
@[simp] theorem tuSet_fio (f : TuUnit → TuUnit) (d : Dev) : (tuSet f d).fio = d.fio := rfl
@[simp] theorem tuSet_pt (f : TuUnit → TuUnit) (d : Dev) : (tuSet f d).pt = d.pt := rfl
@[simp] theorem tuSet_io (f : TuUnit → TuUnit) (d : Dev) : (tuSet f d).io = d.io := rfl
@[simp] theorem tuSet_staged (f : TuUnit → TuUnit) (d : Dev) : (tuSet f d).staged = d.staged := rfl
@[simp] theorem tuSet_img (f : TuUnit → TuUnit) (d : Dev) : (tuSet f d).img = d.img := rfl
@[simp] theorem tuSet_tu (f : TuUnit → TuUnit) (d : Dev) : (tuSet f d).tu = f d.tu := rfl
@[simp] theorem tuSet_bp (f : TuUnit → TuUnit) (d : Dev) : (tuSet f d).bp = d.bp := rfl
@[simp] theorem tuSet_gb (f : TuUnit → TuUnit) (d : Dev) : (tuSet f d).gb = d.gb := rfl
@[simp] theorem tuSet_sw (f : TuUnit → TuUnit) (d : Dev) : (tuSet f d).sw = d.sw := rfl
@[simp] theorem tuSet_te (f : TuUnit → TuUnit) (d : Dev) : (tuSet f d).te = d.te := rfl
@[simp] theorem tuSet_lb (f : TuUnit → TuUnit) (d : Dev) : (tuSet f d).lb = d.lb := rfl
@[simp] theorem tuSet_cyc (f : TuUnit → TuUnit) (d : Dev) : (tuSet f d).cyc = d.cyc := rfl
@[simp] theorem tuSet_mem (f : TuUnit → TuUnit) (d : Dev) : (tuSet f d).mem = d.mem := rfl
@[simp] theorem tuSet_snap (f : TuUnit → TuUnit) (d : Dev) : (tuSet f d).snap = d.snap := rfl
@[simp] theorem tuSet_hi (f : TuUnit → TuUnit) (d : Dev) : (tuSet f d).hi = d.hi := rfl
@[simp] theorem tuSet_ks (f : TuUnit → TuUnit) (d : Dev) : (tuSet f d).ks = d.ks := rfl
@[simp] theorem tuSet_prs (f : TuUnit → TuUnit) (d : Dev) : (tuSet f d).prs = d.prs := rfl
@[simp] theorem tuSet_mode (f : TuUnit → TuUnit) (d : Dev) : (tuSet f d).mode = d.mode := rfl
@[simp] theorem tuSet_chg (f : TuUnit → TuUnit) (d : Dev) : (tuSet f d).chg = d.chg := rfl
@[simp] theorem tuSet_dx (f : TuUnit → TuUnit) (d : Dev) : (tuSet f d).dx = d.dx := rfl
@[simp] theorem tuSet_store (f : TuUnit → TuUnit) (d : Dev) : (tuSet f d).store = d.store := rfl
@[simp] theorem tuSet_cs (f : TuUnit → TuUnit) (d : Dev) : (tuSet f d).cs = d.cs := rfl
@[simp] theorem tuSet_upd (f : TuUnit → TuUnit) (d : Dev) : (tuSet f d).upd = d.upd := rfl
@[simp] theorem tuSet_hm (f : TuUnit → TuUnit) (d : Dev) : (tuSet f d).hm = d.hm := rfl
@[simp] theorem tuSet_ckr (f : TuUnit → TuUnit) (d : Dev) : (tuSet f d).ckr = d.ckr := rfl
@[simp] theorem rd_tuSet (f : TuUnit → TuUnit) (d : Dev) (x : Fld) : rd (tuSet f d) x = rd d x := rfl
@[simp] theorem flag_tuSet (f : TuUnit → TuUnit) (d : Dev) (x : Fld) : flag (tuSet f d) x = flag d x := rfl
@[simp] theorem bitF_tuSet (f : TuUnit → TuUnit) (d : Dev) (x : Fld) (i : Nat) : bitF (tuSet f d) x i = bitF d x i := rfl

/-! ## updSet -/

@[simp] theorem updSet_regs (f : UpdUnit → UpdUnit) (d : Dev) : (updSet f d).regs = d.regs := rfl
@[simp] theorem updSet_captured (f : UpdUnit → UpdUnit) (d : Dev) : (updSet f d).captured = d.captured := rfl
@[simp] theorem updSet_clk (f : UpdUnit → UpdUnit) (d : Dev) : (updSet f d).clk = d.clk := rfl
@[simp] theorem updSet_free (f : UpdUnit → UpdUnit) (d : Dev) : (updSet f d).free = d.free := rfl
@[simp] theorem updSet_once (f : UpdUnit → UpdUnit) (d : Dev) : (updSet f d).once = d.once := rfl
@[simp] theorem updSet_out (f : UpdUnit → UpdUnit) (d : Dev) : (updSet f d).out = d.out := rfl
@[simp] theorem updSet_msix (f : UpdUnit → UpdUnit) (d : Dev) : (updSet f d).msix = d.msix := rfl
@[simp] theorem updSet_ev (f : UpdUnit → UpdUnit) (d : Dev) : (updSet f d).ev = d.ev := rfl
@[simp] theorem updSet_cw (f : UpdUnit → UpdUnit) (d : Dev) : (updSet f d).cw = d.cw := rfl
@[simp] theorem updSet_fio (f : UpdUnit → UpdUnit) (d : Dev) : (updSet f d).fio = d.fio := rfl
@[simp] theorem updSet_pt (f : UpdUnit → UpdUnit) (d : Dev) : (updSet f d).pt = d.pt := rfl
@[simp] theorem updSet_io (f : UpdUnit → UpdUnit) (d : Dev) : (updSet f d).io = d.io := rfl
@[simp] theorem updSet_staged (f : UpdUnit → UpdUnit) (d : Dev) : (updSet f d).staged = d.staged := rfl
@[simp] theorem updSet_img (f : UpdUnit → UpdUnit) (d : Dev) : (updSet f d).img = d.img := rfl
@[simp] theorem updSet_tu (f : UpdUnit → UpdUnit) (d : Dev) : (updSet f d).tu = d.tu := rfl
@[simp] theorem updSet_bp (f : UpdUnit → UpdUnit) (d : Dev) : (updSet f d).bp = d.bp := rfl
@[simp] theorem updSet_gb (f : UpdUnit → UpdUnit) (d : Dev) : (updSet f d).gb = d.gb := rfl
@[simp] theorem updSet_sw (f : UpdUnit → UpdUnit) (d : Dev) : (updSet f d).sw = d.sw := rfl
@[simp] theorem updSet_te (f : UpdUnit → UpdUnit) (d : Dev) : (updSet f d).te = d.te := rfl
@[simp] theorem updSet_lb (f : UpdUnit → UpdUnit) (d : Dev) : (updSet f d).lb = d.lb := rfl
@[simp] theorem updSet_cyc (f : UpdUnit → UpdUnit) (d : Dev) : (updSet f d).cyc = d.cyc := rfl
@[simp] theorem updSet_mem (f : UpdUnit → UpdUnit) (d : Dev) : (updSet f d).mem = d.mem := rfl
@[simp] theorem updSet_snap (f : UpdUnit → UpdUnit) (d : Dev) : (updSet f d).snap = d.snap := rfl
@[simp] theorem updSet_hi (f : UpdUnit → UpdUnit) (d : Dev) : (updSet f d).hi = d.hi := rfl
@[simp] theorem updSet_ks (f : UpdUnit → UpdUnit) (d : Dev) : (updSet f d).ks = d.ks := rfl
@[simp] theorem updSet_prs (f : UpdUnit → UpdUnit) (d : Dev) : (updSet f d).prs = d.prs := rfl
@[simp] theorem updSet_mode (f : UpdUnit → UpdUnit) (d : Dev) : (updSet f d).mode = d.mode := rfl
@[simp] theorem updSet_chg (f : UpdUnit → UpdUnit) (d : Dev) : (updSet f d).chg = d.chg := rfl
@[simp] theorem updSet_dx (f : UpdUnit → UpdUnit) (d : Dev) : (updSet f d).dx = d.dx := rfl
@[simp] theorem updSet_store (f : UpdUnit → UpdUnit) (d : Dev) : (updSet f d).store = d.store := rfl
@[simp] theorem updSet_cs (f : UpdUnit → UpdUnit) (d : Dev) : (updSet f d).cs = d.cs := rfl
@[simp] theorem updSet_upd (f : UpdUnit → UpdUnit) (d : Dev) : (updSet f d).upd = f d.upd := rfl
@[simp] theorem updSet_hm (f : UpdUnit → UpdUnit) (d : Dev) : (updSet f d).hm = d.hm := rfl
@[simp] theorem updSet_ckr (f : UpdUnit → UpdUnit) (d : Dev) : (updSet f d).ckr = d.ckr := rfl
@[simp] theorem rd_updSet (f : UpdUnit → UpdUnit) (d : Dev) (x : Fld) : rd (updSet f d) x = rd d x := rfl
@[simp] theorem flag_updSet (f : UpdUnit → UpdUnit) (d : Dev) (x : Fld) : flag (updSet f d) x = flag d x := rfl
@[simp] theorem bitF_updSet (f : UpdUnit → UpdUnit) (d : Dev) (x : Fld) (i : Nat) : bitF (updSet f d) x i = bitF d x i := rfl

/-! ## hmSet -/

@[simp] theorem hmSet_regs (f : HmUnit → HmUnit) (d : Dev) : (hmSet f d).regs = d.regs := rfl
@[simp] theorem hmSet_captured (f : HmUnit → HmUnit) (d : Dev) : (hmSet f d).captured = d.captured := rfl
@[simp] theorem hmSet_clk (f : HmUnit → HmUnit) (d : Dev) : (hmSet f d).clk = d.clk := rfl
@[simp] theorem hmSet_free (f : HmUnit → HmUnit) (d : Dev) : (hmSet f d).free = d.free := rfl
@[simp] theorem hmSet_once (f : HmUnit → HmUnit) (d : Dev) : (hmSet f d).once = d.once := rfl
@[simp] theorem hmSet_out (f : HmUnit → HmUnit) (d : Dev) : (hmSet f d).out = d.out := rfl
@[simp] theorem hmSet_msix (f : HmUnit → HmUnit) (d : Dev) : (hmSet f d).msix = d.msix := rfl
@[simp] theorem hmSet_ev (f : HmUnit → HmUnit) (d : Dev) : (hmSet f d).ev = d.ev := rfl
@[simp] theorem hmSet_cw (f : HmUnit → HmUnit) (d : Dev) : (hmSet f d).cw = d.cw := rfl
@[simp] theorem hmSet_fio (f : HmUnit → HmUnit) (d : Dev) : (hmSet f d).fio = d.fio := rfl
@[simp] theorem hmSet_pt (f : HmUnit → HmUnit) (d : Dev) : (hmSet f d).pt = d.pt := rfl
@[simp] theorem hmSet_io (f : HmUnit → HmUnit) (d : Dev) : (hmSet f d).io = d.io := rfl
@[simp] theorem hmSet_staged (f : HmUnit → HmUnit) (d : Dev) : (hmSet f d).staged = d.staged := rfl
@[simp] theorem hmSet_img (f : HmUnit → HmUnit) (d : Dev) : (hmSet f d).img = d.img := rfl
@[simp] theorem hmSet_tu (f : HmUnit → HmUnit) (d : Dev) : (hmSet f d).tu = d.tu := rfl
@[simp] theorem hmSet_bp (f : HmUnit → HmUnit) (d : Dev) : (hmSet f d).bp = d.bp := rfl
@[simp] theorem hmSet_gb (f : HmUnit → HmUnit) (d : Dev) : (hmSet f d).gb = d.gb := rfl
@[simp] theorem hmSet_sw (f : HmUnit → HmUnit) (d : Dev) : (hmSet f d).sw = d.sw := rfl
@[simp] theorem hmSet_te (f : HmUnit → HmUnit) (d : Dev) : (hmSet f d).te = d.te := rfl
@[simp] theorem hmSet_lb (f : HmUnit → HmUnit) (d : Dev) : (hmSet f d).lb = d.lb := rfl
@[simp] theorem hmSet_cyc (f : HmUnit → HmUnit) (d : Dev) : (hmSet f d).cyc = d.cyc := rfl
@[simp] theorem hmSet_mem (f : HmUnit → HmUnit) (d : Dev) : (hmSet f d).mem = d.mem := rfl
@[simp] theorem hmSet_snap (f : HmUnit → HmUnit) (d : Dev) : (hmSet f d).snap = d.snap := rfl
@[simp] theorem hmSet_hi (f : HmUnit → HmUnit) (d : Dev) : (hmSet f d).hi = d.hi := rfl
@[simp] theorem hmSet_ks (f : HmUnit → HmUnit) (d : Dev) : (hmSet f d).ks = d.ks := rfl
@[simp] theorem hmSet_prs (f : HmUnit → HmUnit) (d : Dev) : (hmSet f d).prs = d.prs := rfl
@[simp] theorem hmSet_mode (f : HmUnit → HmUnit) (d : Dev) : (hmSet f d).mode = d.mode := rfl
@[simp] theorem hmSet_chg (f : HmUnit → HmUnit) (d : Dev) : (hmSet f d).chg = d.chg := rfl
@[simp] theorem hmSet_dx (f : HmUnit → HmUnit) (d : Dev) : (hmSet f d).dx = d.dx := rfl
@[simp] theorem hmSet_store (f : HmUnit → HmUnit) (d : Dev) : (hmSet f d).store = d.store := rfl
@[simp] theorem hmSet_cs (f : HmUnit → HmUnit) (d : Dev) : (hmSet f d).cs = d.cs := rfl
@[simp] theorem hmSet_upd (f : HmUnit → HmUnit) (d : Dev) : (hmSet f d).upd = d.upd := rfl
@[simp] theorem hmSet_hm (f : HmUnit → HmUnit) (d : Dev) : (hmSet f d).hm = f d.hm := rfl
@[simp] theorem hmSet_ckr (f : HmUnit → HmUnit) (d : Dev) : (hmSet f d).ckr = d.ckr := rfl
@[simp] theorem rd_hmSet (f : HmUnit → HmUnit) (d : Dev) (x : Fld) : rd (hmSet f d) x = rd d x := rfl
@[simp] theorem flag_hmSet (f : HmUnit → HmUnit) (d : Dev) (x : Fld) : flag (hmSet f d) x = flag d x := rfl
@[simp] theorem bitF_hmSet (f : HmUnit → HmUnit) (d : Dev) (x : Fld) (i : Nat) : bitF (hmSet f d) x i = bitF d x i := rfl

/-! ## cwSet -/

@[simp] theorem cwSet_regs (n : Nat) (f : CwPort → CwPort) (d : Dev) : (cwSet n f d).regs = d.regs := rfl
@[simp] theorem cwSet_captured (n : Nat) (f : CwPort → CwPort) (d : Dev) : (cwSet n f d).captured = d.captured := rfl
@[simp] theorem cwSet_clk (n : Nat) (f : CwPort → CwPort) (d : Dev) : (cwSet n f d).clk = d.clk := rfl
@[simp] theorem cwSet_free (n : Nat) (f : CwPort → CwPort) (d : Dev) : (cwSet n f d).free = d.free := rfl
@[simp] theorem cwSet_once (n : Nat) (f : CwPort → CwPort) (d : Dev) : (cwSet n f d).once = d.once := rfl
@[simp] theorem cwSet_out (n : Nat) (f : CwPort → CwPort) (d : Dev) : (cwSet n f d).out = d.out := rfl
@[simp] theorem cwSet_msix (n : Nat) (f : CwPort → CwPort) (d : Dev) : (cwSet n f d).msix = d.msix := rfl
@[simp] theorem cwSet_ev (n : Nat) (f : CwPort → CwPort) (d : Dev) : (cwSet n f d).ev = d.ev := rfl
@[simp] theorem cwSet_cw (n : Nat) (f : CwPort → CwPort) (d : Dev) : (cwSet n f d).cw = listSet d.cw n (f (cwPort d n)) := rfl
@[simp] theorem cwSet_fio (n : Nat) (f : CwPort → CwPort) (d : Dev) : (cwSet n f d).fio = d.fio := rfl
@[simp] theorem cwSet_pt (n : Nat) (f : CwPort → CwPort) (d : Dev) : (cwSet n f d).pt = d.pt := rfl
@[simp] theorem cwSet_io (n : Nat) (f : CwPort → CwPort) (d : Dev) : (cwSet n f d).io = d.io := rfl
@[simp] theorem cwSet_staged (n : Nat) (f : CwPort → CwPort) (d : Dev) : (cwSet n f d).staged = d.staged := rfl
@[simp] theorem cwSet_img (n : Nat) (f : CwPort → CwPort) (d : Dev) : (cwSet n f d).img = d.img := rfl
@[simp] theorem cwSet_tu (n : Nat) (f : CwPort → CwPort) (d : Dev) : (cwSet n f d).tu = d.tu := rfl
@[simp] theorem cwSet_bp (n : Nat) (f : CwPort → CwPort) (d : Dev) : (cwSet n f d).bp = d.bp := rfl
@[simp] theorem cwSet_gb (n : Nat) (f : CwPort → CwPort) (d : Dev) : (cwSet n f d).gb = d.gb := rfl
@[simp] theorem cwSet_sw (n : Nat) (f : CwPort → CwPort) (d : Dev) : (cwSet n f d).sw = d.sw := rfl
@[simp] theorem cwSet_te (n : Nat) (f : CwPort → CwPort) (d : Dev) : (cwSet n f d).te = d.te := rfl
@[simp] theorem cwSet_lb (n : Nat) (f : CwPort → CwPort) (d : Dev) : (cwSet n f d).lb = d.lb := rfl
@[simp] theorem cwSet_cyc (n : Nat) (f : CwPort → CwPort) (d : Dev) : (cwSet n f d).cyc = d.cyc := rfl
@[simp] theorem cwSet_mem (n : Nat) (f : CwPort → CwPort) (d : Dev) : (cwSet n f d).mem = d.mem := rfl
@[simp] theorem cwSet_snap (n : Nat) (f : CwPort → CwPort) (d : Dev) : (cwSet n f d).snap = d.snap := rfl
@[simp] theorem cwSet_hi (n : Nat) (f : CwPort → CwPort) (d : Dev) : (cwSet n f d).hi = d.hi := rfl
@[simp] theorem cwSet_ks (n : Nat) (f : CwPort → CwPort) (d : Dev) : (cwSet n f d).ks = d.ks := rfl
@[simp] theorem cwSet_prs (n : Nat) (f : CwPort → CwPort) (d : Dev) : (cwSet n f d).prs = d.prs := rfl
@[simp] theorem cwSet_mode (n : Nat) (f : CwPort → CwPort) (d : Dev) : (cwSet n f d).mode = d.mode := rfl
@[simp] theorem cwSet_chg (n : Nat) (f : CwPort → CwPort) (d : Dev) : (cwSet n f d).chg = d.chg := rfl
@[simp] theorem cwSet_dx (n : Nat) (f : CwPort → CwPort) (d : Dev) : (cwSet n f d).dx = d.dx := rfl
@[simp] theorem cwSet_store (n : Nat) (f : CwPort → CwPort) (d : Dev) : (cwSet n f d).store = d.store := rfl
@[simp] theorem cwSet_cs (n : Nat) (f : CwPort → CwPort) (d : Dev) : (cwSet n f d).cs = d.cs := rfl
@[simp] theorem cwSet_upd (n : Nat) (f : CwPort → CwPort) (d : Dev) : (cwSet n f d).upd = d.upd := rfl
@[simp] theorem cwSet_hm (n : Nat) (f : CwPort → CwPort) (d : Dev) : (cwSet n f d).hm = d.hm := rfl
@[simp] theorem cwSet_ckr (n : Nat) (f : CwPort → CwPort) (d : Dev) : (cwSet n f d).ckr = d.ckr := rfl
@[simp] theorem rd_cwSet (n : Nat) (f : CwPort → CwPort) (d : Dev) (x : Fld) : rd (cwSet n f d) x = rd d x := rfl
@[simp] theorem flag_cwSet (n : Nat) (f : CwPort → CwPort) (d : Dev) (x : Fld) : flag (cwSet n f d) x = flag d x := rfl
@[simp] theorem bitF_cwSet (n : Nat) (f : CwPort → CwPort) (d : Dev) (x : Fld) (i : Nat) : bitF (cwSet n f d) x i = bitF d x i := rfl

/-! ## lbSet -/

@[simp] theorem lbSet_regs (n : Nat) (f : LbPort → LbPort) (d : Dev) : (lbSet n f d).regs = d.regs := rfl
@[simp] theorem lbSet_captured (n : Nat) (f : LbPort → LbPort) (d : Dev) : (lbSet n f d).captured = d.captured := rfl
@[simp] theorem lbSet_clk (n : Nat) (f : LbPort → LbPort) (d : Dev) : (lbSet n f d).clk = d.clk := rfl
@[simp] theorem lbSet_free (n : Nat) (f : LbPort → LbPort) (d : Dev) : (lbSet n f d).free = d.free := rfl
@[simp] theorem lbSet_once (n : Nat) (f : LbPort → LbPort) (d : Dev) : (lbSet n f d).once = d.once := rfl
@[simp] theorem lbSet_out (n : Nat) (f : LbPort → LbPort) (d : Dev) : (lbSet n f d).out = d.out := rfl
@[simp] theorem lbSet_msix (n : Nat) (f : LbPort → LbPort) (d : Dev) : (lbSet n f d).msix = d.msix := rfl
@[simp] theorem lbSet_ev (n : Nat) (f : LbPort → LbPort) (d : Dev) : (lbSet n f d).ev = d.ev := rfl
@[simp] theorem lbSet_cw (n : Nat) (f : LbPort → LbPort) (d : Dev) : (lbSet n f d).cw = d.cw := rfl
@[simp] theorem lbSet_fio (n : Nat) (f : LbPort → LbPort) (d : Dev) : (lbSet n f d).fio = d.fio := rfl
@[simp] theorem lbSet_pt (n : Nat) (f : LbPort → LbPort) (d : Dev) : (lbSet n f d).pt = d.pt := rfl
@[simp] theorem lbSet_io (n : Nat) (f : LbPort → LbPort) (d : Dev) : (lbSet n f d).io = d.io := rfl
@[simp] theorem lbSet_staged (n : Nat) (f : LbPort → LbPort) (d : Dev) : (lbSet n f d).staged = d.staged := rfl
@[simp] theorem lbSet_img (n : Nat) (f : LbPort → LbPort) (d : Dev) : (lbSet n f d).img = d.img := rfl
@[simp] theorem lbSet_tu (n : Nat) (f : LbPort → LbPort) (d : Dev) : (lbSet n f d).tu = d.tu := rfl
@[simp] theorem lbSet_bp (n : Nat) (f : LbPort → LbPort) (d : Dev) : (lbSet n f d).bp = d.bp := rfl
@[simp] theorem lbSet_gb (n : Nat) (f : LbPort → LbPort) (d : Dev) : (lbSet n f d).gb = d.gb := rfl
@[simp] theorem lbSet_sw (n : Nat) (f : LbPort → LbPort) (d : Dev) : (lbSet n f d).sw = d.sw := rfl
@[simp] theorem lbSet_te (n : Nat) (f : LbPort → LbPort) (d : Dev) : (lbSet n f d).te = d.te := rfl
@[simp] theorem lbSet_lb (n : Nat) (f : LbPort → LbPort) (d : Dev) : (lbSet n f d).lb = mput d.lb n (f (lbPort d n)) := rfl
@[simp] theorem lbSet_cyc (n : Nat) (f : LbPort → LbPort) (d : Dev) : (lbSet n f d).cyc = d.cyc := rfl
@[simp] theorem lbSet_mem (n : Nat) (f : LbPort → LbPort) (d : Dev) : (lbSet n f d).mem = d.mem := rfl
@[simp] theorem lbSet_snap (n : Nat) (f : LbPort → LbPort) (d : Dev) : (lbSet n f d).snap = d.snap := rfl
@[simp] theorem lbSet_hi (n : Nat) (f : LbPort → LbPort) (d : Dev) : (lbSet n f d).hi = d.hi := rfl
@[simp] theorem lbSet_ks (n : Nat) (f : LbPort → LbPort) (d : Dev) : (lbSet n f d).ks = d.ks := rfl
@[simp] theorem lbSet_prs (n : Nat) (f : LbPort → LbPort) (d : Dev) : (lbSet n f d).prs = d.prs := rfl
@[simp] theorem lbSet_mode (n : Nat) (f : LbPort → LbPort) (d : Dev) : (lbSet n f d).mode = d.mode := rfl
@[simp] theorem lbSet_chg (n : Nat) (f : LbPort → LbPort) (d : Dev) : (lbSet n f d).chg = d.chg := rfl
@[simp] theorem lbSet_dx (n : Nat) (f : LbPort → LbPort) (d : Dev) : (lbSet n f d).dx = d.dx := rfl
@[simp] theorem lbSet_store (n : Nat) (f : LbPort → LbPort) (d : Dev) : (lbSet n f d).store = d.store := rfl
@[simp] theorem lbSet_cs (n : Nat) (f : LbPort → LbPort) (d : Dev) : (lbSet n f d).cs = d.cs := rfl
@[simp] theorem lbSet_upd (n : Nat) (f : LbPort → LbPort) (d : Dev) : (lbSet n f d).upd = d.upd := rfl
@[simp] theorem lbSet_hm (n : Nat) (f : LbPort → LbPort) (d : Dev) : (lbSet n f d).hm = d.hm := rfl
@[simp] theorem lbSet_ckr (n : Nat) (f : LbPort → LbPort) (d : Dev) : (lbSet n f d).ckr = d.ckr := rfl
@[simp] theorem rd_lbSet (n : Nat) (f : LbPort → LbPort) (d : Dev) (x : Fld) : rd (lbSet n f d) x = rd d x := rfl
@[simp] theorem flag_lbSet (n : Nat) (f : LbPort → LbPort) (d : Dev) (x : Fld) : flag (lbSet n f d) x = flag d x := rfl
@[simp] theorem bitF_lbSet (n : Nat) (f : LbPort → LbPort) (d : Dev) (x : Fld) (i : Nat) : bitF (lbSet n f d) x i = bitF d x i := rfl

/-! ## fioSet -/

@[simp] theorem fioSet_regs (p : Pier) (f : FioSlice → FioSlice) (d : Dev) : (fioSet p f d).regs = d.regs := rfl
@[simp] theorem fioSet_captured (p : Pier) (f : FioSlice → FioSlice) (d : Dev) : (fioSet p f d).captured = d.captured := rfl
@[simp] theorem fioSet_clk (p : Pier) (f : FioSlice → FioSlice) (d : Dev) : (fioSet p f d).clk = d.clk := rfl
@[simp] theorem fioSet_free (p : Pier) (f : FioSlice → FioSlice) (d : Dev) : (fioSet p f d).free = d.free := rfl
@[simp] theorem fioSet_once (p : Pier) (f : FioSlice → FioSlice) (d : Dev) : (fioSet p f d).once = d.once := rfl
@[simp] theorem fioSet_out (p : Pier) (f : FioSlice → FioSlice) (d : Dev) : (fioSet p f d).out = d.out := rfl
@[simp] theorem fioSet_msix (p : Pier) (f : FioSlice → FioSlice) (d : Dev) : (fioSet p f d).msix = d.msix := rfl
@[simp] theorem fioSet_ev (p : Pier) (f : FioSlice → FioSlice) (d : Dev) : (fioSet p f d).ev = d.ev := rfl
@[simp] theorem fioSet_cw (p : Pier) (f : FioSlice → FioSlice) (d : Dev) : (fioSet p f d).cw = d.cw := rfl
@[simp] theorem fioSet_fio (p : Pier) (f : FioSlice → FioSlice) (d : Dev) : (fioSet p f d).fio = triSet d.fio p (f (triGet d.fio p)) := rfl
@[simp] theorem fioSet_pt (p : Pier) (f : FioSlice → FioSlice) (d : Dev) : (fioSet p f d).pt = d.pt := rfl
@[simp] theorem fioSet_io (p : Pier) (f : FioSlice → FioSlice) (d : Dev) : (fioSet p f d).io = d.io := rfl
@[simp] theorem fioSet_staged (p : Pier) (f : FioSlice → FioSlice) (d : Dev) : (fioSet p f d).staged = d.staged := rfl
@[simp] theorem fioSet_img (p : Pier) (f : FioSlice → FioSlice) (d : Dev) : (fioSet p f d).img = d.img := rfl
@[simp] theorem fioSet_tu (p : Pier) (f : FioSlice → FioSlice) (d : Dev) : (fioSet p f d).tu = d.tu := rfl
@[simp] theorem fioSet_bp (p : Pier) (f : FioSlice → FioSlice) (d : Dev) : (fioSet p f d).bp = d.bp := rfl
@[simp] theorem fioSet_gb (p : Pier) (f : FioSlice → FioSlice) (d : Dev) : (fioSet p f d).gb = d.gb := rfl
@[simp] theorem fioSet_sw (p : Pier) (f : FioSlice → FioSlice) (d : Dev) : (fioSet p f d).sw = d.sw := rfl
@[simp] theorem fioSet_te (p : Pier) (f : FioSlice → FioSlice) (d : Dev) : (fioSet p f d).te = d.te := rfl
@[simp] theorem fioSet_lb (p : Pier) (f : FioSlice → FioSlice) (d : Dev) : (fioSet p f d).lb = d.lb := rfl
@[simp] theorem fioSet_cyc (p : Pier) (f : FioSlice → FioSlice) (d : Dev) : (fioSet p f d).cyc = d.cyc := rfl
@[simp] theorem fioSet_mem (p : Pier) (f : FioSlice → FioSlice) (d : Dev) : (fioSet p f d).mem = d.mem := rfl
@[simp] theorem fioSet_snap (p : Pier) (f : FioSlice → FioSlice) (d : Dev) : (fioSet p f d).snap = d.snap := rfl
@[simp] theorem fioSet_hi (p : Pier) (f : FioSlice → FioSlice) (d : Dev) : (fioSet p f d).hi = d.hi := rfl
@[simp] theorem fioSet_ks (p : Pier) (f : FioSlice → FioSlice) (d : Dev) : (fioSet p f d).ks = d.ks := rfl
@[simp] theorem fioSet_prs (p : Pier) (f : FioSlice → FioSlice) (d : Dev) : (fioSet p f d).prs = d.prs := rfl
@[simp] theorem fioSet_mode (p : Pier) (f : FioSlice → FioSlice) (d : Dev) : (fioSet p f d).mode = d.mode := rfl
@[simp] theorem fioSet_chg (p : Pier) (f : FioSlice → FioSlice) (d : Dev) : (fioSet p f d).chg = d.chg := rfl
@[simp] theorem fioSet_dx (p : Pier) (f : FioSlice → FioSlice) (d : Dev) : (fioSet p f d).dx = d.dx := rfl
@[simp] theorem fioSet_store (p : Pier) (f : FioSlice → FioSlice) (d : Dev) : (fioSet p f d).store = d.store := rfl
@[simp] theorem fioSet_cs (p : Pier) (f : FioSlice → FioSlice) (d : Dev) : (fioSet p f d).cs = d.cs := rfl
@[simp] theorem fioSet_upd (p : Pier) (f : FioSlice → FioSlice) (d : Dev) : (fioSet p f d).upd = d.upd := rfl
@[simp] theorem fioSet_hm (p : Pier) (f : FioSlice → FioSlice) (d : Dev) : (fioSet p f d).hm = d.hm := rfl
@[simp] theorem fioSet_ckr (p : Pier) (f : FioSlice → FioSlice) (d : Dev) : (fioSet p f d).ckr = d.ckr := rfl
@[simp] theorem rd_fioSet (p : Pier) (f : FioSlice → FioSlice) (d : Dev) (x : Fld) : rd (fioSet p f d) x = rd d x := rfl
@[simp] theorem flag_fioSet (p : Pier) (f : FioSlice → FioSlice) (d : Dev) (x : Fld) : flag (fioSet p f d) x = flag d x := rfl
@[simp] theorem bitF_fioSet (p : Pier) (f : FioSlice → FioSlice) (d : Dev) (x : Fld) (i : Nat) : bitF (fioSet p f d) x i = bitF d x i := rfl

/-! ## prSet -/

@[simp] theorem prSet_regs (p : Pier) (f : PierUnit → PierUnit) (d : Dev) : (prSet p f d).regs = d.regs := rfl
@[simp] theorem prSet_captured (p : Pier) (f : PierUnit → PierUnit) (d : Dev) : (prSet p f d).captured = d.captured := rfl
@[simp] theorem prSet_clk (p : Pier) (f : PierUnit → PierUnit) (d : Dev) : (prSet p f d).clk = d.clk := rfl
@[simp] theorem prSet_free (p : Pier) (f : PierUnit → PierUnit) (d : Dev) : (prSet p f d).free = d.free := rfl
@[simp] theorem prSet_once (p : Pier) (f : PierUnit → PierUnit) (d : Dev) : (prSet p f d).once = d.once := rfl
@[simp] theorem prSet_out (p : Pier) (f : PierUnit → PierUnit) (d : Dev) : (prSet p f d).out = d.out := rfl
@[simp] theorem prSet_msix (p : Pier) (f : PierUnit → PierUnit) (d : Dev) : (prSet p f d).msix = d.msix := rfl
@[simp] theorem prSet_ev (p : Pier) (f : PierUnit → PierUnit) (d : Dev) : (prSet p f d).ev = d.ev := rfl
@[simp] theorem prSet_cw (p : Pier) (f : PierUnit → PierUnit) (d : Dev) : (prSet p f d).cw = d.cw := rfl
@[simp] theorem prSet_fio (p : Pier) (f : PierUnit → PierUnit) (d : Dev) : (prSet p f d).fio = d.fio := rfl
@[simp] theorem prSet_pt (p : Pier) (f : PierUnit → PierUnit) (d : Dev) : (prSet p f d).pt = d.pt := rfl
@[simp] theorem prSet_io (p : Pier) (f : PierUnit → PierUnit) (d : Dev) : (prSet p f d).io = d.io := rfl
@[simp] theorem prSet_staged (p : Pier) (f : PierUnit → PierUnit) (d : Dev) : (prSet p f d).staged = d.staged := rfl
@[simp] theorem prSet_img (p : Pier) (f : PierUnit → PierUnit) (d : Dev) : (prSet p f d).img = d.img := rfl
@[simp] theorem prSet_tu (p : Pier) (f : PierUnit → PierUnit) (d : Dev) : (prSet p f d).tu = d.tu := rfl
@[simp] theorem prSet_bp (p : Pier) (f : PierUnit → PierUnit) (d : Dev) : (prSet p f d).bp = d.bp := rfl
@[simp] theorem prSet_gb (p : Pier) (f : PierUnit → PierUnit) (d : Dev) : (prSet p f d).gb = d.gb := rfl
@[simp] theorem prSet_sw (p : Pier) (f : PierUnit → PierUnit) (d : Dev) : (prSet p f d).sw = d.sw := rfl
@[simp] theorem prSet_te (p : Pier) (f : PierUnit → PierUnit) (d : Dev) : (prSet p f d).te = d.te := rfl
@[simp] theorem prSet_lb (p : Pier) (f : PierUnit → PierUnit) (d : Dev) : (prSet p f d).lb = d.lb := rfl
@[simp] theorem prSet_cyc (p : Pier) (f : PierUnit → PierUnit) (d : Dev) : (prSet p f d).cyc = d.cyc := rfl
@[simp] theorem prSet_mem (p : Pier) (f : PierUnit → PierUnit) (d : Dev) : (prSet p f d).mem = d.mem := rfl
@[simp] theorem prSet_snap (p : Pier) (f : PierUnit → PierUnit) (d : Dev) : (prSet p f d).snap = d.snap := rfl
@[simp] theorem prSet_hi (p : Pier) (f : PierUnit → PierUnit) (d : Dev) : (prSet p f d).hi = d.hi := rfl
@[simp] theorem prSet_ks (p : Pier) (f : PierUnit → PierUnit) (d : Dev) : (prSet p f d).ks = d.ks := rfl
@[simp] theorem prSet_prs (p : Pier) (f : PierUnit → PierUnit) (d : Dev) : (prSet p f d).prs = triSet d.prs p (f (triGet d.prs p)) := rfl
@[simp] theorem prSet_mode (p : Pier) (f : PierUnit → PierUnit) (d : Dev) : (prSet p f d).mode = d.mode := rfl
@[simp] theorem prSet_chg (p : Pier) (f : PierUnit → PierUnit) (d : Dev) : (prSet p f d).chg = d.chg := rfl
@[simp] theorem prSet_dx (p : Pier) (f : PierUnit → PierUnit) (d : Dev) : (prSet p f d).dx = d.dx := rfl
@[simp] theorem prSet_store (p : Pier) (f : PierUnit → PierUnit) (d : Dev) : (prSet p f d).store = d.store := rfl
@[simp] theorem prSet_cs (p : Pier) (f : PierUnit → PierUnit) (d : Dev) : (prSet p f d).cs = d.cs := rfl
@[simp] theorem prSet_upd (p : Pier) (f : PierUnit → PierUnit) (d : Dev) : (prSet p f d).upd = d.upd := rfl
@[simp] theorem prSet_hm (p : Pier) (f : PierUnit → PierUnit) (d : Dev) : (prSet p f d).hm = d.hm := rfl
@[simp] theorem prSet_ckr (p : Pier) (f : PierUnit → PierUnit) (d : Dev) : (prSet p f d).ckr = d.ckr := rfl
@[simp] theorem rd_prSet (p : Pier) (f : PierUnit → PierUnit) (d : Dev) (x : Fld) : rd (prSet p f d) x = rd d x := rfl
@[simp] theorem flag_prSet (p : Pier) (f : PierUnit → PierUnit) (d : Dev) (x : Fld) : flag (prSet p f d) x = flag d x := rfl
@[simp] theorem bitF_prSet (p : Pier) (f : PierUnit → PierUnit) (d : Dev) (x : Fld) (i : Nat) : bitF (prSet p f d) x i = bitF d x i := rfl

/-! ## prsAll -/

@[simp] theorem prsAll_regs (f : PierUnit → PierUnit) (d : Dev) : (prsAll f d).regs = d.regs := rfl
@[simp] theorem prsAll_captured (f : PierUnit → PierUnit) (d : Dev) : (prsAll f d).captured = d.captured := rfl
@[simp] theorem prsAll_clk (f : PierUnit → PierUnit) (d : Dev) : (prsAll f d).clk = d.clk := rfl
@[simp] theorem prsAll_free (f : PierUnit → PierUnit) (d : Dev) : (prsAll f d).free = d.free := rfl
@[simp] theorem prsAll_once (f : PierUnit → PierUnit) (d : Dev) : (prsAll f d).once = d.once := rfl
@[simp] theorem prsAll_out (f : PierUnit → PierUnit) (d : Dev) : (prsAll f d).out = d.out := rfl
@[simp] theorem prsAll_msix (f : PierUnit → PierUnit) (d : Dev) : (prsAll f d).msix = d.msix := rfl
@[simp] theorem prsAll_ev (f : PierUnit → PierUnit) (d : Dev) : (prsAll f d).ev = d.ev := rfl
@[simp] theorem prsAll_cw (f : PierUnit → PierUnit) (d : Dev) : (prsAll f d).cw = d.cw := rfl
@[simp] theorem prsAll_fio (f : PierUnit → PierUnit) (d : Dev) : (prsAll f d).fio = d.fio := rfl
@[simp] theorem prsAll_pt (f : PierUnit → PierUnit) (d : Dev) : (prsAll f d).pt = d.pt := rfl
@[simp] theorem prsAll_io (f : PierUnit → PierUnit) (d : Dev) : (prsAll f d).io = d.io := rfl
@[simp] theorem prsAll_staged (f : PierUnit → PierUnit) (d : Dev) : (prsAll f d).staged = d.staged := rfl
@[simp] theorem prsAll_img (f : PierUnit → PierUnit) (d : Dev) : (prsAll f d).img = d.img := rfl
@[simp] theorem prsAll_tu (f : PierUnit → PierUnit) (d : Dev) : (prsAll f d).tu = d.tu := rfl
@[simp] theorem prsAll_bp (f : PierUnit → PierUnit) (d : Dev) : (prsAll f d).bp = d.bp := rfl
@[simp] theorem prsAll_gb (f : PierUnit → PierUnit) (d : Dev) : (prsAll f d).gb = d.gb := rfl
@[simp] theorem prsAll_sw (f : PierUnit → PierUnit) (d : Dev) : (prsAll f d).sw = d.sw := rfl
@[simp] theorem prsAll_te (f : PierUnit → PierUnit) (d : Dev) : (prsAll f d).te = d.te := rfl
@[simp] theorem prsAll_lb (f : PierUnit → PierUnit) (d : Dev) : (prsAll f d).lb = d.lb := rfl
@[simp] theorem prsAll_cyc (f : PierUnit → PierUnit) (d : Dev) : (prsAll f d).cyc = d.cyc := rfl
@[simp] theorem prsAll_mem (f : PierUnit → PierUnit) (d : Dev) : (prsAll f d).mem = d.mem := rfl
@[simp] theorem prsAll_snap (f : PierUnit → PierUnit) (d : Dev) : (prsAll f d).snap = d.snap := rfl
@[simp] theorem prsAll_hi (f : PierUnit → PierUnit) (d : Dev) : (prsAll f d).hi = d.hi := rfl
@[simp] theorem prsAll_ks (f : PierUnit → PierUnit) (d : Dev) : (prsAll f d).ks = d.ks := rfl
@[simp] theorem prsAll_prs (f : PierUnit → PierUnit) (d : Dev) : (prsAll f d).prs = triMap f d.prs := rfl
@[simp] theorem prsAll_mode (f : PierUnit → PierUnit) (d : Dev) : (prsAll f d).mode = d.mode := rfl
@[simp] theorem prsAll_chg (f : PierUnit → PierUnit) (d : Dev) : (prsAll f d).chg = d.chg := rfl
@[simp] theorem prsAll_dx (f : PierUnit → PierUnit) (d : Dev) : (prsAll f d).dx = d.dx := rfl
@[simp] theorem prsAll_store (f : PierUnit → PierUnit) (d : Dev) : (prsAll f d).store = d.store := rfl
@[simp] theorem prsAll_cs (f : PierUnit → PierUnit) (d : Dev) : (prsAll f d).cs = d.cs := rfl
@[simp] theorem prsAll_upd (f : PierUnit → PierUnit) (d : Dev) : (prsAll f d).upd = d.upd := rfl
@[simp] theorem prsAll_hm (f : PierUnit → PierUnit) (d : Dev) : (prsAll f d).hm = d.hm := rfl
@[simp] theorem prsAll_ckr (f : PierUnit → PierUnit) (d : Dev) : (prsAll f d).ckr = d.ckr := rfl
@[simp] theorem rd_prsAll (f : PierUnit → PierUnit) (d : Dev) (x : Fld) : rd (prsAll f d) x = rd d x := rfl
@[simp] theorem flag_prsAll (f : PierUnit → PierUnit) (d : Dev) (x : Fld) : flag (prsAll f d) x = flag d x := rfl
@[simp] theorem bitF_prsAll (f : PierUnit → PierUnit) (d : Dev) (x : Fld) (i : Nat) : bitF (prsAll f d) x i = bitF d x i := rfl

/-! ## ptSet -/

@[simp] theorem ptSet_regs (p : Pier) (f : PtSlice → PtSlice) (d : Dev) : (ptSet p f d).regs = d.regs := rfl
@[simp] theorem ptSet_captured (p : Pier) (f : PtSlice → PtSlice) (d : Dev) : (ptSet p f d).captured = d.captured := rfl
@[simp] theorem ptSet_clk (p : Pier) (f : PtSlice → PtSlice) (d : Dev) : (ptSet p f d).clk = d.clk := rfl
@[simp] theorem ptSet_free (p : Pier) (f : PtSlice → PtSlice) (d : Dev) : (ptSet p f d).free = d.free := rfl
@[simp] theorem ptSet_once (p : Pier) (f : PtSlice → PtSlice) (d : Dev) : (ptSet p f d).once = d.once := rfl
@[simp] theorem ptSet_out (p : Pier) (f : PtSlice → PtSlice) (d : Dev) : (ptSet p f d).out = d.out := rfl
@[simp] theorem ptSet_msix (p : Pier) (f : PtSlice → PtSlice) (d : Dev) : (ptSet p f d).msix = d.msix := rfl
@[simp] theorem ptSet_ev (p : Pier) (f : PtSlice → PtSlice) (d : Dev) : (ptSet p f d).ev = d.ev := rfl
@[simp] theorem ptSet_cw (p : Pier) (f : PtSlice → PtSlice) (d : Dev) : (ptSet p f d).cw = d.cw := rfl
@[simp] theorem ptSet_fio (p : Pier) (f : PtSlice → PtSlice) (d : Dev) : (ptSet p f d).fio = d.fio := rfl
@[simp] theorem ptSet_pt (p : Pier) (f : PtSlice → PtSlice) (d : Dev) : (ptSet p f d).pt = triSet d.pt p (f (triGet d.pt p)) := rfl
@[simp] theorem ptSet_io (p : Pier) (f : PtSlice → PtSlice) (d : Dev) : (ptSet p f d).io = d.io := rfl
@[simp] theorem ptSet_staged (p : Pier) (f : PtSlice → PtSlice) (d : Dev) : (ptSet p f d).staged = d.staged := rfl
@[simp] theorem ptSet_img (p : Pier) (f : PtSlice → PtSlice) (d : Dev) : (ptSet p f d).img = d.img := rfl
@[simp] theorem ptSet_tu (p : Pier) (f : PtSlice → PtSlice) (d : Dev) : (ptSet p f d).tu = d.tu := rfl
@[simp] theorem ptSet_bp (p : Pier) (f : PtSlice → PtSlice) (d : Dev) : (ptSet p f d).bp = d.bp := rfl
@[simp] theorem ptSet_gb (p : Pier) (f : PtSlice → PtSlice) (d : Dev) : (ptSet p f d).gb = d.gb := rfl
@[simp] theorem ptSet_sw (p : Pier) (f : PtSlice → PtSlice) (d : Dev) : (ptSet p f d).sw = d.sw := rfl
@[simp] theorem ptSet_te (p : Pier) (f : PtSlice → PtSlice) (d : Dev) : (ptSet p f d).te = d.te := rfl
@[simp] theorem ptSet_lb (p : Pier) (f : PtSlice → PtSlice) (d : Dev) : (ptSet p f d).lb = d.lb := rfl
@[simp] theorem ptSet_cyc (p : Pier) (f : PtSlice → PtSlice) (d : Dev) : (ptSet p f d).cyc = d.cyc := rfl
@[simp] theorem ptSet_mem (p : Pier) (f : PtSlice → PtSlice) (d : Dev) : (ptSet p f d).mem = d.mem := rfl
@[simp] theorem ptSet_snap (p : Pier) (f : PtSlice → PtSlice) (d : Dev) : (ptSet p f d).snap = d.snap := rfl
@[simp] theorem ptSet_hi (p : Pier) (f : PtSlice → PtSlice) (d : Dev) : (ptSet p f d).hi = d.hi := rfl
@[simp] theorem ptSet_ks (p : Pier) (f : PtSlice → PtSlice) (d : Dev) : (ptSet p f d).ks = d.ks := rfl
@[simp] theorem ptSet_prs (p : Pier) (f : PtSlice → PtSlice) (d : Dev) : (ptSet p f d).prs = d.prs := rfl
@[simp] theorem ptSet_mode (p : Pier) (f : PtSlice → PtSlice) (d : Dev) : (ptSet p f d).mode = d.mode := rfl
@[simp] theorem ptSet_chg (p : Pier) (f : PtSlice → PtSlice) (d : Dev) : (ptSet p f d).chg = d.chg := rfl
@[simp] theorem ptSet_dx (p : Pier) (f : PtSlice → PtSlice) (d : Dev) : (ptSet p f d).dx = d.dx := rfl
@[simp] theorem ptSet_store (p : Pier) (f : PtSlice → PtSlice) (d : Dev) : (ptSet p f d).store = d.store := rfl
@[simp] theorem ptSet_cs (p : Pier) (f : PtSlice → PtSlice) (d : Dev) : (ptSet p f d).cs = d.cs := rfl
@[simp] theorem ptSet_upd (p : Pier) (f : PtSlice → PtSlice) (d : Dev) : (ptSet p f d).upd = d.upd := rfl
@[simp] theorem ptSet_hm (p : Pier) (f : PtSlice → PtSlice) (d : Dev) : (ptSet p f d).hm = d.hm := rfl
@[simp] theorem ptSet_ckr (p : Pier) (f : PtSlice → PtSlice) (d : Dev) : (ptSet p f d).ckr = d.ckr := rfl
@[simp] theorem rd_ptSet (p : Pier) (f : PtSlice → PtSlice) (d : Dev) (x : Fld) : rd (ptSet p f d) x = rd d x := rfl
@[simp] theorem flag_ptSet (p : Pier) (f : PtSlice → PtSlice) (d : Dev) (x : Fld) : flag (ptSet p f d) x = flag d x := rfl
@[simp] theorem bitF_ptSet (p : Pier) (f : PtSlice → PtSlice) (d : Dev) (x : Fld) (i : Nat) : bitF (ptSet p f d) x i = bitF d x i := rfl

end Sys2Proof.Machine
end

