-- ==== Sys2Proof/Laws/Step.lean ====
section
/-!
SUPPORT. What a command's outcome is, once and for all: a meaning that acts while the module is powered answers the device its function
gives; a host command whose turn has come is performed; the memory operations of the Deck keep the canonical form.
-/
namespace Sys2Proof.Machine

/-- A powered meaning of a running module answers the device that its function gives. -/
theorem actPowered_running {s : State} (h : Running s) (f : Dev → Dev) : actPowered f s = .next { s with dev := f s.dev } := by
  rw [actPowered, if_pos (show s.dev.hm.rails = true from h)]
/-- Without power nothing changes. -/
theorem actPowered_off {s : State} (h : s.dev.hm.rails = false) (f : Dev → Dev) : actPowered f s = .next s := by
  rw [actPowered, if_neg (by simp [h])]
/-- A statement about a powered command of a running module is one about the device its function gives. -/
theorem answers_of {i : Instr} {s : State} {f : Dev → Dev} {P : Dev → Prop} (hx : exec i s = actPowered f s) (h : Running s) :
    Answers i s P ↔ P (f s.dev) := by
  rw [Answers, hx, actPowered_running h]
  exact ⟨fun ⟨_, ht, _, hp⟩ => by cases ht; exact hp, fun hp => ⟨_, rfl, rfl, hp⟩⟩
/-- The same for a command whose effect asks for no power. -/
theorem answers_always {i : Instr} {s : State} {f : Dev → Dev} {P : Dev → Prop} (hx : exec i s = actAlways f s) :
    Answers i s P ↔ P (f s.dev) := by
  rw [Answers, hx, actAlways]
  exact ⟨fun ⟨_, ht, _, hp⟩ => by cases ht; exact hp, fun hp => ⟨_, rfl, rfl, hp⟩⟩
/-- A powered meaning leaves the queue alone. -/
theorem actPowered_pending (f : Dev → Dev) (s : State) : ∃ t, actPowered f s = .next t ∧ t.pending = s.pending := by
  unfold actPowered
  split
  · exact ⟨_, rfl, rfl⟩
  · exact ⟨_, rfl, rfl⟩

/-- A host command whose turn has come, of the row that recognises it, is performed. -/
theorem cmdRun_turn {d : Dev} {c : HiCmd} {p : Desc → Bool} (f : HiCmd → Dev → Dev) (h : turnOf d c) (hp : p c.desc = true) :
    cmdRun c.seq p f d = f c d := by
  obtain ⟨⟨hc, hr, -, hh, hpf, hm, hl⟩, hs⟩ := h
  have hmine : (if cmdLocal c.desc = true then !c.partner || c.lost else executing d || modeIs d mSAFE) = true := by
    split at hm <;> rename_i hloc
    · rw [if_pos hloc]; rcases hm with hm | hm <;> simp [hm]
    · rw [if_neg hloc]; simp [hm]
  have hpay : (c.desc.op != 4 && c.payload.length != c.desc.payLen) = false := by
    by_cases h4 : c.desc.op = 4
    · simp [h4]
    · simp [hl h4]
  have hsafe : (modeIs d mSAFE && !safePermits c.desc) = false := by
    rcases hs with hs | hs
    · have : modeIs d mSAFE = false := by simpa [modeIs] using hs
      simp [this]
    · simp [hs]
  simp only [cmdRun, hc, hp, hr, hh, hpf, hpay, hsafe, hmine]
  simp

/-- The snapshot keeps the canonical form of memory and buffers (R40). -/
theorem snapshotWrite_form {d : Dev} (h : memoryForm d) : memoryForm (snapshotWrite d) := by
  have hcell : Memory.wf (imageCells d) = true := Memory.filter_wf h.1 _
  refine ⟨h.1, ?_⟩
  show Memory.wf (if 1 - d.cyc.snapBuf = 0 then (imageCells d, d.snap.2) else (d.snap.1, imageCells d)).1 = true ∧
    Memory.wf (if 1 - d.cyc.snapBuf = 0 then (imageCells d, d.snap.2) else (d.snap.1, imageCells d)).2 = true
  split
  · exact ⟨hcell, h.2.2⟩
  · exact ⟨h.2.1, hcell⟩

end Sys2Proof.Machine
end

