-- ==== Sys2Proof/WellFormed.lean ====
section
/-!
DEFINITION. The operands a command may carry: numbers within the ranges the spec gives them.
-/
namespace Sys2Proof

open Sys2Proof.Machine

/-- An outbound request follows R119: cycle number, class, unit, sequence, target, attributes, at most 1536 B of payload. -/
def reqOk (q : OutReq) : Bool :=
  decide (q.cycle < 2 ^ 64) && decide (q.cls < 16) && decide (1 ≤ q.unit) && decide (q.unit ≤ 7) && decide (q.seq < 2 ^ 32) &&
    decide (q.target < 2 ^ 64) && decide (q.attr < 2 ^ 32) && decide (q.payload.length ≤ 1536)
/-- What a segment does has its fields in their places: Pier addresses, a unit, target and attributes of R119 with a message of at most 65,388 B,
a register of the own slice. -/
def actOk : SegAct → Bool
  | .store a l => decide (a < 2 ^ 36) && decide (1 ≤ l.length)
  | .load a w => decide (a < 2 ^ 36) && decide (1 ≤ w)
  | .trap k a => decide (k < 256) && decide (a < 2 ^ 36)
  | .req u t a l => decide (1 ≤ u) && decide (u ≤ 7) && decide (t < 2 ^ 64) && decide (a < 2 ^ 32) && decide (l.length ≤ 65388)
  | .slice o v => decide (o < 2 ^ 20) && decide (v < 2 ^ 32)
/-- What the best master clock algorithm selects names a port and passive ports of the switch (R235, R236). -/
def bmcOk : BmcResult → Bool
  | .same => true
  | .slave p passive => decide (p < 6) && decide (passive < 64)
  | .self passive => decide (passive < 64)
/-- A chunk holds at most 32,768 B (R487). -/
def chunkOk : Option (List Byte) → Bool
  | none => true
  | some l => decide (l.length ≤ 32768)
/-- Runs of segments by their numbers (R170). -/
def runsOk (l : List SegRun) : Bool := l.all fun r => decide (r.seg < 4096) && r.acts.all actOk
/-- A descriptor's fields fit their places and it has 28 argument bytes (R340). -/
def descOk (x : Desc) : Bool :=
  decide (x.id < 2 ^ 64) && decide (x.op < 2 ^ 16) && decide (x.flags < 2 ^ 16) && decide (x.payLen < 2 ^ 32) && decide (x.payAddr < 2 ^ 64) &&
    decide (x.resAddr < 2 ^ 64) && decide (x.resLen < 2 ^ 32) && decide (x.args.length = 28)
/-- A contribution's header fields fit their places, and its items are 8-byte patterns (R107, R108). -/
def contributionOk (c : Contribution) : Bool :=
  decide (c.cycle < 2 ^ 64) && decide (c.xGen < 2 ^ 32) && decide (c.xMap < 2 ^ 32) && decide (c.xCls < 256) && decide (c.xCount < 65536) &&
    decide (c.misread < 2 ^ 64) && mwf c.errs && c.errs.all fun e => decide (e.2.2 < 2 ^ 64)
/-- The kind of a slice-sensed source (R114, R271, R433); a register has none of its own. -/
def srcKind : ItemSrc → Option Nat
  | .di => some 1
  | .flags _ => some 1
  | .edge _ => some 5
  | .readback => some 1
  | .fs _ => some 6
  | .pulses _ => some 2
  | .dir _ => some 6
  | .pos _ => some 3
  | .hits => some 1
  | .hitTime _ => some 5
  | .reg _ => none
/-- An item of an input map: a kind of R108 in 8 B, a tolerance of its kind, for a slice-sensed item the kind of its source and a tolerance of
32 bits (R114), a minority limit of 1 to 255 (R116). -/
def itemOk (it : ImgItem) : Bool :=
  it.size == 8 && decide (it.kind ≤ 6) && decide (it.dflt < 2 ^ 64) && decide (1 ≤ it.limit) && decide (it.limit ≤ 255) &&
    (if it.kind = 4 then decide (it.tol ≤ 0x7FF0000000000000) else decide (it.tol < 2 ^ 64)) &&
    match srcKind it.src with
    | none => true
    | some k => it.kind == k && decide (it.tol < 2 ^ 32)
/-- A class's input map fits a contribution of 8 KiB with its header (R106), and a tie names an earlier item. -/
def classOk (c : ImgClass) : Bool :=
  decide (64 + 8 * c.items.length ≤ 8192) && decide (c.mapId < 2 ^ 32) && decide (c.drives < 65536) && decide (c.edgeInputs < 2 ^ 32) &&
    c.items.zipIdx.all fun e => itemOk e.1 && match e.1.tie with
      | none => true
      | some (k, b) => decide (k < e.2) && decide (b < 64)
/-- A variable: identifier, class, core, its place in the process image and that of its status (R176). -/
def varOk (e : Nat × ImgVar) : Bool :=
  decide (e.1 < 262144) && decide (e.2.cls < 16) && decide (e.2.core < 4) && decide (1 ≤ e.2.size) && decide (e.2.off + e.2.size ≤ 0x400000) &&
    match e.2.stat with
    | none => true
    | some o => decide (o < 0x400000)
/-- A segment: number, class and core (R170). -/
def segOk (s : ImgSeg) : Bool := decide (s.num < 4096) && decide (s.cls < 16) && decide (s.core < 4)
/-- An image within the limits of R106, R108, R114, R170, R176, R180 and R199. -/
def imgOk (i : Image) : Bool :=
  decide (i.segs.length ≤ 4096) && i.segs.all segOk && (i.classes.all fun e => decide (e.1 < 16) && classOk e.2) && mwf i.vars && i.vars.all varOk &&
    (i.stations.all fun e => decide (e.1 < 1024) && decide (e.2.cls < 16) && decide (1 ≤ e.2.timeout) && decide (e.2.timeout ≤ 255)) &&
    i.init.all fun e => decide (e.1 < 4)
/-- What a change set brings is what an image may hold; its segments are changed, added or removed (R198). The limits that the module
checks itself are not among these (R206). -/
def changeOk : Option ChangeSet → Bool
  | none => true
  | some c => (c.segs.all fun s => segOk ⟨s.num, s.cls, s.core⟩ && decide (s.how ≤ 2)) && (c.maps.all fun e => decide (e.1 < 16) && classOk e.2) &&
      mwf c.vars && c.vars.all varOk
/-- A frame of the Loenpa link brings an image or a change set that one may hold. -/
def loenpaOk : LoenpaFrame → Bool
  | .loaded _ i => imgOk i
  | .changeSet _ _ c => changeOk (some c)
  | .command _ x _ c => descOk x && changeOk c
  | .image (.change _ _ _ _ c) => changeOk (some c)
  | _ => true
/-- A frame has 48-bit addresses and, with a tag, a VID of 12 and a priority of 3 bits. -/
def ethOk (f : EthFrame) : Bool :=
  decide (f.dst < 2 ^ 48) && decide (f.src < 2 ^ 48) &&
    match f.tag with
    | none => true
    | some (v, p) => decide (v < 4096) && decide (p < 8)
/-- A setting that stands once per port names a port. -/
def settingOk : TuSetting → Bool
  | .asym p => decide (p < 6)
  | .launch p => decide (p < 6)
  | _ => true

/-- A command whose operands lie in their ranges. -/
def wellFormed : Instr → Bool
  | .vinLow mv => decide (mv < 65536)
  | .holdupVinRestored => true
  | .holdupTimeout mv => decide (mv < 65536)
  | .railsOff => true
  | .powerOnReset => true
  | .porReleaseRetry _ => true
  | .externalReset => true
  | .mctlResetCmd => true
  | .mctlResetService => true
  | .pcieReset _ => true
  | .functionLevelReset _ => true
  | .d3hotReturn _ => true
  | .busMasterEnableChange _ => true
  | .dxPosChanged _ => true
  | .svcPermitChange _ => true
  | .opSecondsSave => true
  | .bootStepDone _ => true
  | .duplexRoleWaitExpiry => true
  | .autorunStart => true
  | .modeChange => true
  | .hmRound _ reference _ _ => decide (reference < 65536)
  | .hmProcEval _ => true
  | .tempAlarm n => decide (n < 8)
  | .railAlarm n => decide (n < 14)
  | .hmThresholdWrite kind n word => decide (kind < 3) && decide (n < 14) && decide (word < 4294967296)
  | .tick => true
  | .housekeepingBoundary => true
  | .startMark _ cls _ _ => decide (cls < 16)
  | .mailboxContribution _ cls c _ => decide (cls < 16) && contributionOk c
  | .mailboxWaitExpiry cls _ => decide (cls < 16)
  | .mailboxDeadline cls _ => decide (cls < 16)
  | .controlExchange _ => true
  | .outboundRequest _ q => reqOk q
  | .cycleOutputPhase _ cls _ runs _ _ => decide (cls < 16) && runsOk runs
  | .signaturePosted _ cls _ part flip _ _ _ _ => decide (cls < 16) && decide (part < 4096) && decide (flip < 18446744073709551616)
  | .skewTimerExpiry cls _ part => decide (cls < 16) && decide (part < 4096)
  | .snapshotTimer => true
  | .releaseToken _ cls _ seq err => decide (cls < 16) && decide (seq < 4294967296) && decide (err < 4294967296)
  | .releaseTokenTimeout cls _ seq => decide (cls < 16) && decide (seq < 4294967296)
  | .pierLocalError _ => true
  | .syncFault _ seg _ _ _ _ _ => decide (seg < 4096)
  | .ksStageParity h _ _ => decide (h < 2)
  | .ksSelftestDone _ _ _ _ => true
  | .ksOnlineTest _ _ => true
  | .watchdogDeadline cls _ _ => decide (cls < 16)
  | .resyncStart => true
  | .resyncHealthWaitExpiry => true
  | .resyncSelftestDone _ _ => true
  | .resyncCodeCheckDone _ _ => true
  | .resyncCopyTick _ _ _ => true
  | .resyncPassEnd _ => true
  | .resyncFinal _ _ _ => true
  | .resyncFinalWaitExpiry => true
  | .resyncTimeLimit => true
  | .resyncRetryWaitExpiry => true
  | .copyShareWrite v => decide (v < 256)
  | .pairMismatch u => decide (1 ≤ u) && decide (u ≤ 6)
  | .pairSelftestDone u _ _ => decide (1 ≤ u) && decide (u ≤ 6)
  | .changeSetLoad _ again => changeOk again
  | .changeSetRevert _ => true
  | .changeSetCommit _ => true
  | .changeSetCancel _ => true
  | .changeSetStatus _ => true
  | .changePayloadFetched _ => true
  | .changeStaged _ result => decide (result < 3)
  | .changePartnerStored => true
  | .changePartnerTimeout => true
  | .carryoverDone _ cls _ => decide (cls < 16)
  | .editValue _ => true
  | .modeRequestStop _ => true
  | .modeRequestRun _ => true
  | .modeRequestHold _ => true
  | .modeRequestStandby _ => true
  | .modeRequestService _ => true
  | .modeRequestSafe _ => true
  | .modeRequestReset _ => true
  | .modeRequestResetService _ => true
  | .modeRequestStep _ => true
  | .loadImage _ check img => decide (check < 4) && imgOk img
  | .activateImage _ => true
  | .force _ => true
  | .unforce _ => true
  | .readVars _ => true
  | .writeVars _ => true
  | .storeSettingsStore _ => true
  | .storeSettingsValidate _ => true
  | .stageUpdate _ _ _ => true
  | .relayControlStart _ => true
  | .relayControlStop _ => true
  | .relayControlInstall _ => true
  | .relayControlDelete _ => true
  | .relayControlActivate _ => true
  | .relayControlCommit _ => true
  | .relayControlStatus _ => true
  | .sendMd _ => true
  | .journalQuery _ => true
  | .checkpointNowTake _ => true
  | .checkpointNowRead _ => true
  | .setTimeEpochAdopt _ => true
  | .setTimeEpochSet _ => true
  | .armPosition _ => true
  | .sqTailDoorbell n _ v => decide (n < 8) && decide (v < 4294967296)
  | .cqHeadDoorbell q _ v => decide (q < 8) && decide (v < 4294967296)
  | .sqCfgWrite n word => decide (n < 8) && decide (word < 4294967296)
  | .cqCfgWrite q word => decide (q < 8) && decide (word < 4294967296)
  | .descriptorFetch x _ cs => descOk x && changeOk cs
  | .mirrorConfirm _ => true
  | .mirrorTimeout _ => true
  | .payloadFetchDone _ _ => true
  | .dmaError _ n => decide (n < 8)
  | .dmaCompletionTimeout n => decide (n < 8)
  | .msixImodExpiry q => decide (q < 8)
  | .msixUnmask v => decide (v < 32)
  | .reservedBarAccess bar off _ => decide (bar < 5) && decide (off < 16777216)
  | .evwCursorWrite _ v => decide (v < 4294967296)
  | .evwRead off _ => decide (off < 4096)
  | .jwSelWrite _ v => decide (v < 4294967296)
  | .jwNextRead => true
  | .vwValueRead => true
  | .vwListRead _ => true
  | .registerWrite _ addr word => decide (addr < 68719476736) && decide (word < 4294967296)
  | .readToClear _ addr => decide (addr < 68719476736)
  | .reg64LoRead _ addr => decide (addr < 68719476736)
  | .accessWidthViolation _ addr _ _ => decide (addr < 68719476736)
  | .decodeError _ addr _ _ seg _ _ _ => decide (addr < 68719476736) && decide (seg < 4096)
  | .syncReceived port _ _ => decide (port < 6)
  | .pathDelayMeasured port _ => decide (port < 6)
  | .announceReceived port _ r => decide (port < 6) && bmcOk r
  | .announceTimeout _ r => bmcOk r
  | .ptpIntervalTimer port kind => decide (port < 6) && decide (kind < 4)
  | .schedTimeSave => true
  | .timeRealign overruns => decide (overruns < 16777216)
  | .frameLaunch port queue _ => decide (port < 6) && decide (queue < 8)
  | .txtsAppend port id ts => decide (port < 6) && decide (id < 65536) && decide (ts < 18446744073709551616)
  | .txtsIdRead port => decide (port < 6)
  | .tuSettingWrite r w => settingOk r && decide (w < 4294967296)
  | .speedEdge _ sp _ _ => decide (sp < 4)
  | .standstillTimeout _ r => decide (r < 4)
  | .triggerArm _ k _ dir ref action out => decide (k < 64) && decide (dir < 4) && decide (ref < 4) && decide (action < 8) && decide (out < 16)
  | .triggerDisarm _ k => decide (k < 64)
  | .scaleWrite _ r v => decide (r < 4) && decide (v < 4294967296)
  | .refCfgWrite _ r _ _ mode source _ filt still => decide (r < 4) && decide (mode < 4) && decide (source < 4) && decide (filt < 512) && decide (still < 16384)
  | .rebaseGo _ _ ref => decide (ref < 4)
  | .posHitReport _ k seq => decide (k < 64) && decide (seq < 16)
  | .switchFrameReceived port f => decide (port < 7) && ethOk f
  | .gateControlEntry port => decide (port < 7)
  | .macAgeOut mac => decide (mac < 281474976710656)
  | .frerRecoveryReset _ => true
  | .bpduReceived port role st => decide (port < 6) && decide (role < 4) && decide (st < 4)
  | .ttdpFrame _ => true
  | .linkChange port _ speed _ r => decide (port < 6) && decide (speed < 4) && bmcOk r
  | .trestleUnit => true
  | .mdReassemblyTimeout _ => true
  | .mdReplyTimeout _ => true
  | .subscriptionTimeout _ => true
  | .mvbFrame m _ _ => decide (m < 2)
  | .mvbSinkTimeout m => decide (m < 2)
  | .wtbNodeFrame _ => true
  | .wtbSwitchWaitExpiry => true
  | .wtbSwitchTimeout => true
  | .canFrame c _ => decide (c < 4)
  | .canLaunch c _ _ => decide (c < 4)
  | .canLateLimit c _ => decide (c < 4)
  | .canBusoffRecovery c => decide (c < 4)
  | .canopenHeartbeatTimeout c node => decide (c < 4) && decide (node < 128)
  | .loenpaFrame f => loenpaOk f
  | .laneDown _ => true
  | .laneUp _ pos _ _ _ _ _ _ => decide (pos < 2)
  | .loenpaIdleTimer => true
  | .statusFrameTimer => true
  | .leaseRenewTimer => true
  | .leaseRequest _ => true
  | .leaseGrant _ _ => true
  | .sliceLeaseExpiry _ => true
  | .partnerAbsentGuard => true
  | .peerPinChange _ _ => true
  | .requestsStoppedTimeout => true
  | .peerStandingByTimeout => true
  | .takeoverNotice => true
  | .handoverNotice => true
  | .takeoverWaitEnd => true
  | .checkpointLoaded _ _ => true
  | .checkpointComplete => true
  | .checkpointData _ _ => true
  | .imageSynced _ _ img _ => imgOk img
  | .journalLevelled _ _ => true
  | .outputDeclaration _ => true
  | .girderRequestStart => true
  | .grantReceived => true
  | .grantTimeout => true
  | .dataPhaseEnd _ => true
  | .dataPhaseTimeout => true
  | .grantWithdrawn => true
  | .busOwnershipLimit => true
  | .girderQueueFreed => true
  | .bpReset => true
  | .bpClockLost => true
  | .snoopWrite win off be data => decide (win < 8) && decide (off < 134217728) && decide (be < 16) && decide (data < 4294967296)
  | .bpInterrupt _ => true
  | .deckWindowAccess kind win off be data mask => decide (kind < 3) && decide (win < 8) && decide (off < 134217728) && decide (be < 16) && decide (data < 4294967296) && decide (mask < 4294967296)
  | .diSample _ _ _ => true
  | .fsMeasurement _ _ => true
  | .fsStateDeferred k => decide (k < 2)
  | .fioLegWr _ value => decide (value < 65536)
  | .fioLegWrAtLaunch _ cls value => decide (cls < 16) && decide (value < 65536)
  | .extDrivenTimeout _ n => decide (n < 16)
  | .overloadSet n => decide (n < 16)
  | .overloadClear n => decide (n < 16)
  | .thermalShutdown n => decide (n < 16)
  | .thermalRearm n => decide (n < 16)
  | .sliceClockStop _ => true
  | .cwTxOpen n prio len => decide (n < 2) && decide (prio < 8) && decide (len < 8192)
  | .cwTxData n w => decide (n < 2) && decide (w < 4294967296)
  | .cwTxPush n attr _ => decide (n < 2) && decide (attr < 4294967296)
  | .cwPacketTxStart n _ => decide (n < 2)
  | .cwPacketTxDone n => decide (n < 2)
  | .cwPacketReceived n header _ _ _ => decide (n < 2) && decide (header < 4294967296)
  | .cwLinkUp n => decide (n < 2)
  | .cwLinkLoss n => decide (n < 2)
  | .cwHoldInChange n _ => decide (n < 2)
  | .cwRxDataRead n _ => decide (n < 2)
  | .cwWmWrite n high low => decide (n < 2) && decide (high < 16384) && decide (low < 16384)
  | .eventIntake code pier _ => decide (code < 65536) && decide (pier < 4)
  | .recordStore outcome => decide (outcome < 3)
  | .tokenRefill code => decide (code < 65536)
  | .summaryTimeout code => decide (code < 65536)
  | .notifyHoldExpiry => true
  | .evSelWrite _ v => decide (v < 4294967296)
  | .caissonStoreStart => true
  | .caissonStoreDone _ => true
  | .offerReceived dest dir _ => decide (dest < 256) && decide (dir < 4)
  | .chunkReceived dest _ _ data => decide (dest < 256) && chunkOk data
  | .relayReply k h code _ => decide (k < 4) && decide (h < 3) && decide (code < 6)
  | .relayRequestTimeout k h => decide (k < 4) && decide (h < 3)
  | .relayWaitExpiry k h => decide (k < 4) && decide (h < 3)
  | .installDone _ => true
  | .clockLoss dom _ _ _ r => decide (dom < 16) && bmcOk r
  | .clockTolerance dom _ _ _ => decide (dom < 16)
  | .clockReturn dom _ _ _ => decide (dom < 16)
  | .snapshotGo domains => decide (domains < 65536)
  | .snapshotDone _ => true
  | .vin9vThreshold _ => true
  | .hmLiveCleared bit => decide (bit < 28)
  | .delayReqReceived port kind _ => decide (port < 6) && decide (kind < 3)
  | .bpResetReleased => true
  | .cwRxFillHigh n _ => decide (n < 2)
  | .d3hotEntry => true
  | .relayRateInterval k h => decide (k < 4) && decide (h < 3)

end Sys2Proof
end

