-- ==== Sys2Proof/Tests/Slice0.lean ====
section
/-!
SUPPORT. Tests of the model: small states, one witness for the hypotheses of each statement, ill-formed commands that the checks of
WellFormed refuse, and single steps whose results are worked out from the rules.
-/
namespace Sys2Proof.Machine

/-! ## States of the tests -/

/-- An event of a code would enter the intake now, as a test. -/
def openNow (d : Dev) (code sev : Nat) : Bool :=
  decide (d.ev.dropN = 0) && intakeRoom d sev &&
    (match limitedBurst d (stamp d code sev 0 3 1 false []) with
      | none => true
      | some burst => mgetD d.ev.buckets code burst != 0)
/-- The test decides the condition of the statements. -/
theorem open_of {d : Dev} {code sev : Nat} (h : openNow d code sev = true) : intakeOpen d code sev := by
  unfold openNow at h
  rw [Bool.and_eq_true, Bool.and_eq_true] at h
  refine ⟨of_decide_eq_true h.1.1, h.1.2, ?_⟩
  have h3 := h.2
  split at h3 <;> rename_i hb <;> simp_all

/-- A test of each Pier in turn shows that none stalls. -/
theorem idle_of {d : Dev} (h : (allPiers.all fun p => pierIdle (triGet d.prs p)) = true) : piersIdle d := by
  intro p
  rw [List.all_eq_true] at h
  exact h p (by cases p <;> decide)
/-! ## States -/

/-- Registers set in the module at reset. -/
def stateWith (l : List (Fld × Nat)) : State := { dev := l.foldl (fun d x => wr d x.1 x.2) Dev.rest, pending := [] }
/-- A device in a mode after the boot sequence, with registers set. -/
def devIn (mode : Nat) (l : List (Fld × Nat)) : Dev :=
  modeSet (fun m => { m with posrst := false }) (stateWith ([(Reg.MCTL_MODE_MODE, mode), (Reg.MCTL_BOOT_STEP, 11)] ++ l)).dev
/-- A state of a device, with no command waiting. -/
def stateOf (d : Dev) : State := { dev := d, pending := [] }

/-- The rails are off; the count of the power-on reset runs or not. -/
def stateOff (counting : Bool) : State := stateOf { Dev.rest with hm := ⟨false, false, counting, 0, []⟩ }
/-- RUN, in simplex, with three Piers. -/
def stateRun : State := stateOf (devIn 2 [])
/-- BOOT after the release of POR. -/
def stateBoot : State := stateOf { Dev.rest with mode := ModeUnit.rest }
/-- BOOT with a step completed; the boot parameters name the stored image. -/
def stateAtStep (n : Nat) : State :=
  stateOf { (stateWith [(Reg.MCTL_BOOT_STEP, n)]).dev with
    mode := ModeUnit.rest, bp := { BootParams.rest with generation := 1 }, store := ⟨[(0, Image.none)], some Image.none, [], []⟩ }
/-- BOOT in the 8 s wait of R85. -/
def stateWaiting : State := stateOf { Dev.rest with mode := { ModeUnit.rest with waiting := true } }
/-- The function is in D3hot. -/
def stateD3 : State := stateOf { (devIn 2 []) with hi := { HiUnit.rest with d3 := true } }

/-- Bucket 0x2004 empty with suppressions that wait for their summary, bucket 0x2005 not yet full, bursts of 8. -/
def stateSuppressed : State :=
  let d := devIn 2 [(Reg.EV_CFG_BURST, 8)]
  stateOf { d with ev := { EvUnit.rest with suppr := [(0x2004, ⟨4, 10, 20, 3⟩), (0x2006, ⟨1, 10, 10, 2⟩)]
                                            buckets := [(0x2004, 0), (0x2005, 7), (0x2006, 7)] } }
/-- An event of the intake. -/
def entryX : EvEntry := ⟨0, true, 5, 1, 0x2004, 3, 2, 3, false, 1, []⟩
/-- The intake has no entry free for an event that is not CRITICAL; buckets are full. -/
def stateFull : State :=
  stateOf { (devIn 2 [(Reg.EV_CFG_BURST, 8)]) with ev := { EvUnit.rest with intake := List.replicate 240 entryX } }
/-- One event in the intake of a recovered recorder, in a 1 ms hold. -/
def stateRecords : State :=
  let d := devIn 2 [(Reg.EV_STATUS_RECOVERED, 1), (Reg.EV_NEXT, 4)]
  stateOf { d with ev := { EvUnit.rest with intake := [entryX], hold := true } }

/-- The same in the reserve, with a verify that has failed. -/
def stateReserve : State :=
  let d := devIn 2 [(Reg.EV_STATUS_RECOVERED, 1), (Reg.EV_NEXT, 4), (Reg.EV_STATUS_MAIN_FAIL, 1), (Reg.EV_STATUS_IN_RESERVE, 1)]
  stateOf { d with ev := { EvUnit.rest with intake := [entryX], retry := true } }

/-- The host interface works: ring 0 and completion ring 0 of 16 entries, one new descriptor. -/
def devHost : Dev :=
  devIn 2 [(Reg.HI_STATUS_RECOVERED, 1), (Reg.HI_STATUS_READY, 1), (Reg.HI_LINK_BME, 1), (Reg.HI_SQ_CFG_EN 0, 1), (Reg.HI_CQ_CFG_EN 0, 1),
    (Reg.HI_SQ_STATE_TAIL 0, 1), (Reg.EV_NEXT, 1), (Reg.HI_EVW_CURSOR, 1)]
/-- The same as a state. -/
def stateHost : State := stateOf devHost
/-- A MODE_REQUEST STOP. -/
def descX : Desc := ⟨7, 1, 0, 0, 0, 0, 0, List.replicate 28 0⟩
/-- A command of a ring. -/
def cmdAt (seq : Nat) (accepted : Bool) (x : Desc) : HiCmd := ⟨seq, 0, x, [], false, accepted, .queued, 0, [], false, false⟩
/-- A command that waits for its acceptance and an accepted one whose payload of two bytes is being fetched. -/
def stateCmds : State :=
  stateOf { devHost with hi := { HiUnit.rest with cmds := [cmdAt 5 false descX, cmdAt 6 true { descX with id := 8, op := 2, payLen := 2 }] } }
/-- A message of completion ring 0 held back. -/
def stateHeld : State :=
  stateOf { devHost with hi := { HiUnit.rest with imodHeld := 11, unread := [(0, [⟨7, 0, 1, 0, 0, 0, 0, 5, false⟩]), (3, [⟨7, 0, 1, 0, 0, 0, 0, 5, false⟩])] }
                         msix := ⟨[], 8, 0⟩ }
/-- BOOT before step 11, with a valid image or none and a SAFE cause put off or none. -/
def stateEleven (img safe : Bool) : State :=
  stateOf { (stateWith [(Reg.MCTL_BOOT_STEP, 10)]).dev with
    mode := { ModeUnit.rest with imageValid := img, bootSafe := if safe then some (9, 0x101) else none } }

/-- A class 2 cycle in progress. -/
def runX : CycleRun := ⟨2, 7, 0, 0, 0, [], 0, false, false, false, 0⟩
/-- The image says of class 2 that it has a period of 8 ticks. -/
def devCycle : Dev :=
  let d := devIn 2 [(Reg.CYC_STATUS_STATE, 1), (Reg.CYC_CLS_CFG_PERIOD 2, 8)]
  { d with cyc := { CycUnit.rest with runs := [runX] } }
/-- RUN with class 2 in its cycle 7. -/
def stateCycle : State := stateOf devCycle
/-- A write of the process image. -/
def reqX : OutReq := ⟨7, 2, 7, 0, 0x10000000, 0, [1, 2, 3, 4]⟩
/-- The output words of cycle 7 of class 2 so far. -/
def streamX : OutStream := ⟨2, 7, 0, 0, 0, 0, 0, []⟩
/-- Pier A has nothing left to post of cycle 7, and the image gives it no output. -/
def stateOutputs : State := stateOf { devCycle with prs := { devCycle.prs with a := { PierUnit.rest with streams := [streamX] } } }
/-- A variable of class 2, mapped at offset 8. -/
def varX : ImgVar := ⟨2, 0, false, false, false, 0, 0, .own, 1, 8, none, 0, 0, 4, false⟩
/-- The same with an output variable of class 2. -/
def stateImageOut : State :=
  stateOf { stateOutputs.dev with
    img := { Image.none with vars := [(1, varX)] } }
/-- A contribution to cycle 7 of class 2. -/
def contribX : Contribution := ⟨7, false, 0, 0, 0, 0, 0, [], none⟩
/-- What a Pier posts with it. -/
def postX : MbPost := ⟨7, 0, 0, 2, 0, false, 0, [], none⟩
/-- The slot of class 2 holds one contribution and its timer runs. -/
def stateSlot : State :=
  stateOf { devCycle with ks := { KsUnit.rest with slots := [(2, ⟨7, false, 7, [(1, postX)], true, none, [], false⟩)], closedSlots := [(2, 6)] } }
/-- A window with two signatures. -/
def windowX (v : Nat) : KsWindow :=
  ⟨2, 7, 0, 0, [(0, (5, 100)), (1, (v, 200))], [], false, some 400, false, false, 0, 0, 0, false, false⟩
/-- The same in the holding stages. -/
def stateWindow (v : Nat) : State := stateOf { devCycle with ks := { KsUnit.rest with windows := [windowX v] } }
/-- A request in release order. -/
def stateRel (tok : Option (Nat × Nat)) : State :=
  stateOf { (devIn 2 []) with ks := { KsUnit.rest with releasing := [.req reqX 0 tok none] } }
/-- Pier C has reported a fault. -/
def stateFault : State := stateOf { (devIn 2 []) with ks := { KsUnit.rest with faults := [⟨2, 3, 9, 2, 16⟩] } }
/-- Releases are frozen. -/
def stateFrozen : State := stateOf (devIn 2 [(Reg.KS_STATUS_FROZEN, 1)])
/-- A resynchronisation of Pier C in a phase. -/
def stateResync (ph temp : Nat) : State :=
  let d := devIn 2 [(Reg.KS_STATUS_RESYNC_PHASE, ph), (Reg.KS_RESYNC_STATUS_PHASE, ph), (Reg.KS_CFG_RESYNC_EN, 1), (Reg.HM_LIVE_TEMP, temp),
    (Reg.KS_STATUS_IN_SERVICE, 3), (Reg.KS_STATUS_ISOLATED, 4), (Reg.KS_RESYNC_STATUS_DONOR, 0)]
  stateOf { d with ks := { KsUnit.rest with odd := some 2 } }
/-- Two passes in a row have not converged, and the attempt has reached its time. -/
def stateBadPasses : State :=
  let s := stateResync 5 0
  stateOf { s.dev with clk := 1000000000000000, ks := { s.dev.ks with badPasses := 2 } }
/-- A lockstep pair is halted. -/
def statePair (u : Nat) : State := stateOf (devIn 2 [(Reg.KS_PAIR_STATE_UNIT, 3 * 16 ^ (u - 1))])
/-- Pair 5 is halted after two transients in the last hour. -/
def statePairHour : State := stateOf { (statePair 5).dev with ks := { KsUnit.rest with stamps := [(9, [0, 0])] } }
/-- Schedule time is valid. -/
def stateTick : State := stateOf (devIn 2 [(Reg.TU_STATUS_VALID, 1)])
/-- The lease is lost, or the service permit in HOLD. -/
def stateMode (m : Nat) : State :=
  let d := devIn m []
  stateOf (modeSet (fun x => { x with leaseLost := m == 2, permitLost := m == 3 }) d)
/-- STOP with AUTORUN waiting and RUN allowed. -/
def stateAuto : State :=
  stateOf (modeSet (fun x => { x with autorun := true, imageValid := true }) (devIn 1 [(Reg.TU_STATUS_VALID, 1)]))
/-- A MODE_REQUEST agreed as command 7. -/
def reqCmd (a : Nat) : HiCmd :=
  ⟨7, 0, ⟨1, 1, 0, 0, 0, 0, 0, ((a :: List.replicate 27 0).map (BitVec.ofNat 8))⟩, [], false, true, .waiting, 0, [], false, false⟩
/-- It waits for a boundary in a mode, with the service permit. -/
def stateReq (m a : Nat) : State :=
  let d := modeSet (fun x => { x with reqs := [7] }) (devIn m [(Reg.MCTL_PINS_SVC_PERMIT, 1), (Reg.MCTL_CFG_COMMISSION_EN, 1)])
  stateOf { d with hi := { HiUnit.rest with cmds := [reqCmd a] } }
/-- STOP with snapshots enabled. -/
def stateSnap : State := stateOf (devIn 1 [(Reg.CYC_CFG_SNAP_EN, 1)])
/-- A final window of which one signature came after the deadline. -/
def windowLate : KsWindow := ⟨2, 7, 0, 0, [(0, (5, 10)), (1, (5, 400010))], [], true, none, false, false, 0, 0, 0, false, false⟩
/-- The same in the holding stages. -/
def stateLate : State := stateOf { devCycle with ks := { KsUnit.rest with windows := [windowLate] } }

/-- A test of `dueOf`'s parts proves the turn of a command. -/
theorem turn_of {d : Dev} {c : HiCmd}
    (h : (cmdOf d c.seq = some c ∧ cmdReady d c = true ∧ c.again = false ∧ pairHalted d 1 = false ∧ d.hm.powerFail = false ∧
      (if cmdLocal c.desc = true then c.partner = false ∨ c.lost = true else executing d = true) ∧
      (c.desc.op ≠ 4 → c.payload.length = c.desc.payLen)) ∧ (modeOf d ≠ mSAFE ∨ safePermits c.desc = true)) : turnOf d c := h

/-- An accepted command of ring 0 with its first argument bytes and its payload. -/
def cmdX (op : Nat) (args : List Nat) (payload : List Byte) : HiCmd :=
  ⟨5, 0, ⟨1, op, 0, payload.length, 0, 0, 0, ((args ++ List.replicate 28 0).take 28).map (BitVec.ofNat 8)⟩, payload, false, true, .queued, 0, [], false, false⟩
/-- A mode with one open command. -/
def devCmd (mode : Nat) (c : HiCmd) : Dev :=
  let d := devIn mode [(Reg.HI_JOURNAL_HEAD, 6)]
  { d with hi := { HiUnit.rest with cmds := [c] } }
/-- The same as a state. -/
def stateCmd (mode : Nat) (c : HiCmd) : State := stateOf (devCmd mode c)
/-- A change set that affects class 2. -/
def csX : ChangeSet := ⟨100, [⟨1, 2, 0, 0⟩], [], [], 0, 0, 10, 50, [], [], [], []⟩
/-- A LOAD with its payload. -/
def cmdLoad : HiCmd := cmdX 4 [0] [1]
/-- A change in progress, with a carry-over of class 2 that Pier A has not finished since the switch. -/
def stateChange (st : Nat) (fetched : Bool) : State :=
  stateOf { (devCmd 2 cmdLoad) with chg :=
    { ChgUnit.rest with state := st, cs := some csX, cmd := 5, partner := 1, fetched := fetched, late := [(8, some 0)] } }
/-- A revertible change set. -/
def switchedX : Switched := ⟨csX, Image.none, 5⟩
/-- A state with a revertible change set and one open command. -/
def stateSwitched (c : HiCmd) : State := stateOf { (devCmd 2 c) with chg := { ChgUnit.rest with switched := some switchedX } }
/-- The last part of an image. -/
def cmdLast : HiCmd := cmdX 2 (List.replicate 20 0 ++ [1]) []
/-- STOP with image 0 stored and one open command. -/
def stateStored (c : HiCmd) : State := stateOf { (devCmd 1 c) with store := ⟨[(0, Image.none)], none, [], []⟩ }
/-- A STORE_SETTINGS of EV_CFG with BURST 0, which lies below its range. -/
def cmdOutOfRange : HiCmd := cmdX 10 [1] (leBytes 4 0x0D000004 ++ leBytes 4 0)
/-- A manifest of two chunks. -/
def manifestX : Manifest := ⟨true, 9, 2, 65536, 1, 70, 80, ⟨2, 0, 0, 1, 1000, 80, 0⟩⟩
/-- A hop at rest. -/
def hopX : UpHop := ⟨false, false, 0, 0, 0, 0, 0, 0, 0, false⟩
/-- A complete package. -/
def pkgX : UpPkg := ⟨manifestX, 3, 2, 0, 0, true, 0, none, hopX, hopX, hopX, 0, []⟩
/-- The package of identity 9 in entry 0, an image of its base in slot 0, another one in slot 1. -/
def updX : UpdUnit :=
  { UpdUnit.rest with slots := [(0, ⟨⟨1, 0, 0, 1, 1000, 70, 0⟩, true, false, false, []⟩), (1, ⟨⟨1, 0, 0, 1, 1000, 71, 0⟩, true, false, false, []⟩)]
                      pkgs := [(0, pkgX)], count := 1 }
/-- A staging of which two bytes have come, and one open command. -/
def statePkg (c : HiCmd) : State := stateOf { (devCmd 2 c) with upd := { updX with stage := some ⟨2, 5000, 0, none, 0, []⟩ } }
/-- A CHECKPOINT_NOW's turn, the class of the checkpoint enabled. -/
def stateTake (c : HiCmd) : State := stateOf (wr (devCmd 2 c) (Reg.CYC_CLS_CFG_EN (rd (devCmd 2 c) Reg.DX_CP_CFG_CLASS)) 1)
/-- A message is to be sent before boot step 8. -/
def stateQuiet : State := stateOf (wr (devCmd 2 (cmdX 13 [] [])) Reg.MCTL_BOOT_STEP 7)
/-- A COMMIT's turn with an image of security version 3 at work, stores frozen or not. -/
def stateSecure (f : Bool) : State :=
  let s := statePkg (cmdX 12 [5] (leBytes 32 9))
  stateOf { (wr s.dev Reg.CS_STATUS_FROZEN (b2n f)) with
    upd := { updX with slots := [(0, ⟨⟨1, 3, 0, 1, 1000, 70, 0⟩, true, false, false, []⟩)] } }
/-- An ACTIVATE's turn while an install runs. -/
def stateBusy : State :=
  let s := statePkg (cmdX 12 [4, 1] (leBytes 32 9))
  stateOf { s.dev with upd := { updX with installing := some (0, 0, none) } }

/-- Port 1 is the slave port of an automatic source, in a servo state. -/
def stateServo (st n : Nat) : State :=
  let d := devIn 2 [(Reg.TU_CFG_PORT_EN, 3), (Reg.TU_CFG_SOURCE, 2), (Reg.TU_STATUS_SLAVE_PORT, 1), (Reg.TU_STATUS_STATE, st),
    (Reg.TU_PORT_STATE_PD_VALID 1, 1)]
  stateOf { d with tu := { TuUnit.rest with acqSyncs := n, outliers := n } }
/-- A path delay hold of port 1. -/
def stateHolds : State :=
  let s := stateServo 2 0
  stateOf { (wr s.dev Reg.TU_STATUS_HOLD_PD 1) with tu := { s.dev.tu with holds := [(1, ⟨1000000, 1, 1000000⟩)] } }
/-- Port 1 is a MASTER port with a frame that waits for its launch and `n` timestamps. -/
def stateQueues (profile n : Nat) : State :=
  let d := devIn 2 [(Reg.TU_CFG_PORT_EN, 3), (Reg.TU_CFG_SOURCE, 2), (Reg.TU_CFG_PROFILE, profile), (Reg.TU_PORT_STATE_PORT_STATE 1, 6),
    (Reg.TU_STATUS_VALID, 1), (Reg.TU_LAUNCH_POLICY 1, 1)]
  stateOf { d with tu := { TuUnit.rest with txts := [(1, List.replicate n (3, 9))], launchQ := [(1, [⟨6, 5000, 3, [], none, none, 0⟩])], macTime := [(1, 4500)] } }
/-- The same far past the launch time. -/
def stateLateLaunch : State :=
  let s := stateQueues 0 1
  stateOf { s.dev with tu := { s.dev.tu with macTime := [(1, 999999500)] } }

/-- Reference 2 of slice A counts speed input 1. -/
def stateSpeed : State := stateOf (devIn 2 [(Reg.PT_REF_CFG_EN 0 2, 1), (Reg.PT_REF_CFG_SOURCE 0 2, 1)])
/-- A frame is staged for trigger 5, whose hit some slices have reported. -/
def stateHit (m : Nat) : State :=
  let d := devIn 2 []
  stateOf { d with staged := [(5, [7])], io := { d.io with ptHits := [(81, m), (97, 2)] }
                   pt := { d.pt with a := { PtSlice.rest with signals := [81, 97] } } }
/-- Supply 1 is OK in every slice, input 1 of slice A has a debounce of 5 samples. -/
def stateField : State :=
  stateOf (devIn 2 [(Reg.FIO_FS_STATE 0 0, 0), (Reg.FIO_FS_STATE 1 0, 0), (Reg.FIO_FS_STATE 2 0, 0), (Reg.FIO_DI_CFG_DEBOUNCE 0 1, 5)])
/-- Supply 0 reads differently in every slice. -/
def stateSplit : State := stateOf (devIn 2 [(Reg.FIO_FS_STATE 0 0, 0), (Reg.FIO_FS_STATE 1 0, 1), (Reg.FIO_FS_STATE 2 0, 2)])
/-- Output 3 of slice A may be driven and has been shut down seven times, its readback is on with the switch off; a trigger holds
output 5. -/
def stateLegs : State :=
  let d := devIn 2 [(Reg.FIO_STATUS_LEASE_OK, 7), (Reg.FIO_LEG_MASK_MASK 0, 8), (Reg.PT_TRIG_CTL_STATE 0 1, 1), (Reg.PT_TRIG_CTL_ACTION 0 1, 1),
    (Reg.PT_TRIG_CTL_OUTPUT 0 1, 5), (Reg.FIO_RB_STATE_DEB 0, 8), (Reg.FIO_LEG_STATE_APPLIED 0, 8), (Reg.FIO_LEG_STATE_APPLIED 1, 8)]
  stateOf { d with io := { d.io with shutdowns := [(3, List.replicate 7 0)] }
                   img := { Image.none with classes := [(2, ⟨0, [], 0, [], 8⟩)] } }
/-- The launch tick of the class 2 cycle has passed. -/
def statePassed : State := stateOf { devCycle with cyc := { CycUnit.rest with runs := [{ runX with launchPassed := true }] } }

/-- Ports 0, 2 and 3 up, port 2 and the internal port members of VLAN 10, port 3 with RSTP and a VLAN that is not there. -/
def stateNet : State :=
  let d := devIn 2 [(Reg.SW_PORT_CFG_EN 0, 1), (Reg.SW_PORT_CFG_EN 2, 1), (Reg.SW_PORT_CFG_EN 3, 1), (Reg.SW_PORT_STAT_LINK 0, 1),
    (Reg.SW_PORT_STAT_LINK 2, 1), (Reg.SW_PORT_STAT_LINK 3, 1), (Reg.SW_PORT_CFG_PVID 2, 10), (Reg.SW_PORT_CFG_PVID 3, 99),
    (Reg.SW_VLAN_VALID 1, 1), (Reg.SW_VLAN_VID 1, 10), (Reg.SW_VLAN_MEMBERS 1, 68), (Reg.SW_CFG_RSTP_EN, 1), (Reg.SW_PORT_CFG_RSTP 3, 1),
    (Reg.SW_GCL_CTRL_EN 2, 1), (Reg.SW_GCL_CTRL_LEN 2, 2), (Reg.SW_FRER_ID_VALID 4, 1)]
  stateOf { d with sw := ⟨[(9, 6)], [], [], [], [], []⟩ }
/-- A process data frame of comId 50. -/
def frameX : TrFrame := ⟨false, false, false, 0, 50, 7, 8, 2, 0, 0, 2, 2, [1, 2], none, 0, false, none, 2, 0⟩
/-- The same with a bad header. -/
def frameBad : TrFrame := { frameX with badHeader := true }
/-- A message for a listener. -/
def frameMd : TrFrame := { frameX with msg := 3, listener := true }
/-- A publication of comId 50. -/
def pubX : ImgPub := ⟨1, 10, none, 0, 0, 50, 9, 4, 2, 2, 8, 0, false, false, false, false, [0, 0]⟩
/-- A frame waits, a message is being reassembled, a request awaits its reply. -/
def stateTrestle (f : TrFrame) : State :=
  let d := devIn 2 [(Reg.TE_SUB_STAT_STATE 3, 1), (Reg.HI_JOURNAL_HEAD, 6)]
  stateOf
    { d with
      img := { Image.none with subs := [(3, ⟨50, none, 8, 2, 1, false, 0, 0, 0⟩)], pubs := [(6, pubX)] }
      te := { TeUnit.rest with pdq := [(f, 0)], reasm := [(4, ⟨[], none, { frameX with msg := 3 }⟩)], sessions := [(5, 5)]
                               seqs := [(seqKey frameX, 1)] }
      hi := { HiUnit.rest with cmds := [cmdX 13 [] []] } }
/-- One kind of work waits in a mode: a due publication, a reply, a received CAN frame, or a message. -/
def stateWork (m k n : Nat) : State :=
  let d := devIn m []
  stateOf
    { d with
      img := { Image.none with pubs := [(6, pubX)] }
      lb := if k = 2 then [(3, { lbEmpty with fifo := [⟨1, 5, [7]⟩] })] else []
      te := { TeUnit.rest with unitNo := n
                               sendq := if k = 0 then [(6, 8, 0)] else []
                               replies := if k = 1 then [(6, 7)] else []
                               mdq := if k = 3 then [frameMd] else []
                               pubs := [(6, ⟨[3, 4], 0, 40, 8⟩)] } }
/-- The reply of a request waits. -/
def stateReply : State :=
  let s := stateTrestle frameX
  stateOf { s.dev with te := { s.dev.te with pdq := [], mdq := [{ frameMd with msg := 5, session := 5 }] } }
/-- MVB port 0, the WTB and CAN ports 3, 4 and 5 at work, the second of them bus-off, the third with J1939. -/
def stateLegacy : State :=
  let d := devIn 2 [(Reg.LB_CFG_PORT_EN, 61), (Reg.LB_STATUS_UP, 61), (Reg.LB_CAN_STAT_STATE 1, 2), (Reg.LB_CAN_CFG_HL 2, 2),
    (Reg.LB_CAN_LATE_POLICY 2, 1)]
  let rx : NMap ImgLbRx := [(1, ⟨9, 0xFFFF, false, none⟩)]
  stateOf
    { d with
      img := { Image.none with legacy := [(0, ⟨rx, [(4, ⟨12, 2, false, [0], none⟩)], [], none, [], 0⟩), (2, ⟨rx, [], [], none, [], 0⟩),
                                          (3, ⟨rx, [], [(9, 0xFFFF, false)], none, [(6, 8)], 0⟩)] }
      lb := [(0, { lbEmpty with tx := [(4, [3])] }), (2, { lbEmpty with want := some 2 }),
             (3, { lbEmpty with hold := [⟨7, some 5, [1]⟩] }), (5, { lbEmpty with hold := [⟨7, some 5, [1]⟩] })]
      cyc := { CycUnit.rest with stations := [(8, ⟨0, 0, 0, some 4, [], [], (0, 0, 0), [], 0⟩)] } }
/-- The WTB port at work in a module without a lease. -/
def stateUnleased : State := stateOf (devIn 1 [(Reg.MCTL_CFG_DUPLEX, 1), (Reg.LB_CFG_PORT_EN, 4), (Reg.LB_STATUS_UP, 4)])

/-- A checkpoint of class 1. -/
def checkpointX : Checkpoint := ⟨1, 40, [(1, 40)], 3, 2, 5, 0, 0, 0, 0, 0, 1, 0, [], [], [], [], [], 0⟩
/-- A duplex pair: lane A up, the lease asked for with a request of each Pier. -/
def stateDuplex : State :=
  let d := devIn 1 [(Reg.MCTL_CFG_DUPLEX, 1), (Reg.DX_STATUS_LK_A_UP, 1), (Reg.DX_STATUS_REQUESTING, 1)]
  stateOf { d with dx := { DxUnit.rest with slices := ⟨⟨0, 4, [(4, 0)], false⟩, ⟨0, 5, [(5, 0)], false⟩, ⟨0, 6, [(6, 0)], false⟩⟩
                                            leaseMs := 50
                                            guardMs := 10 } }
/-- A standby that grants. -/
def stateGranter : State :=
  let d := devIn 4 [(Reg.MCTL_CFG_DUPLEX, 1), (Reg.DX_STATUS_LK_A_UP, 1), (Reg.MCTL_MODE_ROLE, 2)]
  stateOf { d with dx := { DxUnit.rest with handshake := true } }
/-- A module that holds a lease, of which the timer of slice A alone runs. -/
def stateLeased : State := stateOf (devIn 2 [(Reg.MCTL_CFG_DUPLEX, 1), (Reg.DX_STATUS_LEASE, 1), (Reg.FIO_STATUS_LEASE_OK, 1)])
/-- An active-eligible module whose partner is absent. -/
def stateAlone : State := stateOf (devIn 1 [(Reg.MCTL_CFG_DUPLEX, 1), (Reg.MCTL_MODE_ROLE, 3)])
/-- A standby in a phase of its takeover, with a checkpoint named and another on its way. -/
def stateStandby (ph : Nat) : State :=
  let d := devIn 4 [(Reg.MCTL_CFG_DUPLEX, 1), (Reg.MCTL_MODE_ROLE, 2), (Reg.DX_STATUS_TK_PHASE, ph), (Reg.DX_STATUS_LK_A_UP, 1),
    (Reg.MCTL_PINS_POS, 1), (Reg.MCTL_PINS_PEER_ALIVE, 1), (Reg.MCTL_PINS_PEER_STANDBY, 1), (Reg.DX_CMP_CFG_MISMATCH_N, 0),
    (Reg.DX_STATUS_CP_VALID, 1), (Reg.DX_STATUS_IMAGE_MATCH, 1)]
  stateOf
    { d with
      dx := { DxUnit.rest with bufs := [(0, checkpointX)], taking := some checkpointX }
      bp := { BootParams.rest with cpNamed := some 0 }
      mode := { ModeUnit.rest with imageId := 3, generation := 2 } }
/-- A standby whose image does not match. -/
def stateMismatch : State :=
  let s := stateStandby 0
  stateOf { (wr s.dev Reg.DX_STATUS_IMAGE_MATCH 0) with mode := { s.dev.mode with imageId := 9 } }
/-- A lease holder with both lanes down whose slice A has seen the partner stand by. -/
def statePins : State :=
  let d := devIn 2 [(Reg.MCTL_CFG_DUPLEX, 1), (Reg.DX_STATUS_LEASE, 1), (Reg.MCTL_PINS_PEER_STANDBY, 1)]
  stateOf { d with dx := { DxUnit.rest with slices := ⟨⟨0, 4, [], true⟩, ⟨0, 5, [], false⟩, ⟨0, 6, [], false⟩⟩ } }
/-- A standby cut off from a partner that stands by. -/
def stateCut : State := stateOf (devIn 4 [(Reg.MCTL_CFG_DUPLEX, 1), (Reg.MCTL_MODE_ROLE, 2), (Reg.MCTL_PINS_PEER_STANDBY, 1)])

/-- A write of the Deck controller. -/
def reqDeck : GbReq := { origin := .deck, kind := 0, win := 0, off := 8, be := 15, data := 7, mask := 0, single := true }
/-- The backplane in order, window 0 observed, with a queue and a transaction in progress. -/
def stateGirder (queue : List GbReq) (open_ : Option GbOpen) : State :=
  let d := devIn 2 [(Reg.GB_CFG_EN, 1), (Reg.GB_CFG_SNOOP_EN, 1), (Reg.GB_STATUS_CLK_OK, 1), (Reg.GB_STATUS_BP_RESET, 0),
    (Reg.GB_WIN_CFG_EN 0, 1), (Reg.GB_WIN_CFG_SIZE 0, 16), (Reg.GB_WIN_CFG_OBSERVED 0, 1)]
  stateOf { d with gb := { GbUnit.rest with queue := queue, open_ := open_ } }
/-- A read of window 0 waits whose line holds its word. -/
def stateLine : State :=
  let s := stateGirder [{ reqDeck with kind := 1 }] none
  stateOf (wr { s.dev with gb := { s.dev.gb with lines := [(0, ⟨0, [5, 6, 7], 0⟩)] } } (Reg.GB_WIN_CFG_PREFETCH 0) 1)
/-- A write waits while the backplane is in reset. -/
def stateBpReset : State := stateOf (wr (stateGirder [reqDeck] none).dev Reg.GB_STATUS_BP_RESET 1)
/-- A write waits while the backplane has no clock. -/
def stateNoClock : State := stateOf (wr (stateGirder [reqDeck] none).dev Reg.GB_STATUS_CLK_OK 0)
/-- The record of observed writes is full, its overflow noted or not. -/
def stateSnooped (dead : Bool) : State :=
  let s := stateGirder [] none
  stateOf { s.dev with gb := { s.dev.gb with snoop := List.replicate 65536 (0, 0), snoopDead := dead } }
/-- A released backplane write waits for room in the queue, with the lease or without. -/
def stateFreed (m : Nat) (lease : Bool) : State :=
  stateOf { (devIn m [(Reg.MCTL_CFG_DUPLEX, if lease then 0 else 1)]) with
    ks := { KsUnit.rest with releasing := [.req { reqX with unit := 1 } 0 (some (9, 9)) (some (9, 9))] } }
/-- Causeway port 1 at work, with the lane of port 0 up. -/
def stateCw (p : CwPort) : State :=
  let d := devIn 2 [(Reg.CW_CFG_EN 1, 1), (Reg.CW_STATUS_HI 1, 0), (Reg.CW_STATUS_LINK 0, 1)]
  stateOf { d with cw := [CwPort.rest, p] }
/-- A store of the system. -/
def storeX : CsStore := ⟨2, [(0x20000000, 5)], none, none, 0⟩
/-- A store waits: 1 the controller is busy, 2 it is frozen; whether the running store is its repeat. -/
def stateStore (k : Nat) (again : Bool) : State :=
  let d := devIn 2 (if k = 1 then [(Reg.CS_STATUS_BUSY, 1)] else if k = 2 then [(Reg.CS_STATUS_FROZEN, 1)] else [])
  stateOf { d with cs := { d.cs with queue := [storeX], again := again } }
/-- A package whose hop to the partner waits, has offered, sends, or has offered five times. -/
def pkgRelay (k : Nat) : UpPkg :=
  let h : UpHop := ⟨true, false, 0, if k = 2 then 2 else if k = 0 then 0 else 1, 0, 0, 0, if k = 3 then 5 else 0, 0, k == 0⟩
  ⟨manifestX, if k = 3 then 0 else 1, 1, 0, 0, false, 1, some 3, hopX, hopX, h, 0, []⟩
/-- The same in entry 0 while it is being installed, with lane A up. -/
def stateRelay (k : Nat) : State :=
  let d := devIn 2 [(Reg.UP_CFG_AUTO_INSTALL, 0), (Reg.DX_STATUS_LK_A_UP, 1)]
  stateOf { d with upd := { UpdUnit.rest with pkgs := [(0, pkgRelay k)], installing := some (0, 0, none) } }
/-- A clock of domain 10 is lost. -/
def stateLost : State := stateOf { (devIn 2 []) with ckr := ⟨[(10, 1)], 0, 0⟩ }
/-- Two transients of each half in the last hour, releases frozen. -/
def stateHour : State :=
  stateOf { (devIn 2 [(Reg.KS_STATUS_FROZEN, 1)]) with ks := { KsUnit.rest with stamps := [(3, [0, 0]), (4, [0, 0])] } }

/-- An item of an input map: a register of a kind in a size. -/
def itemX (kind size : Nat) : ImgItem := ⟨.reg 0, kind, size, 0, false, 0, 1, none⟩
/-- A station of class 2. -/
def stnX : ImgStation := ⟨2, 1, [], []⟩

/-! ## Witnesses of the statements' hypotheses -/

theorem witness_StepRunsFrontCommand : State.reset.pending = [] := rfl

theorem witness_UnpoweredModuleStays : (stateOff true).dev.hm.rails = false ∧ Instr.railsOff ≠ .powerOnReset ∧ ∀ above, Instr.railsOff ≠ .vin9vThreshold above :=
  ⟨rfl, by decide, fun _ h => by cases h⟩

theorem witness_MemoryFormKept : memoryForm stateRun.dev ∧ Sys2Proof.Machine.step stateRun = .next stateRun := by
  refine ⟨⟨rfl, by decide, by decide⟩, rfl⟩


theorem witness_SupplyLossRunsFromHoldUp :
    (Running State.reset ∧ flag State.reset.dev Reg.HM_STATUS_HOLDUP = false ∧ intakeOpen State.reset.dev Ev.HOLDUP (sevOf Ev.HOLDUP)) ∧
    (Running (stateWith [(Reg.HM_STATUS_HOLDUP, 1), (Reg.MCTL_MODE_MODE, 2)]) ∧
      flag (stateWith [(Reg.HM_STATUS_HOLDUP, 1), (Reg.MCTL_MODE_MODE, 2)]).dev Reg.HM_STATUS_HOLDUP = true ∧
      (stateWith [(Reg.HM_STATUS_HOLDUP, 1), (Reg.MCTL_MODE_MODE, 2)]).dev.hm.powerFail = false ∧
      safeOpen (stateWith [(Reg.HM_STATUS_HOLDUP, 1), (Reg.MCTL_MODE_MODE, 2)]).dev) ∧
    (stateOff true).dev.hm.rails = false := by
  refine ⟨⟨rfl, by decide, open_of (by decide)⟩, ⟨rfl, by decide, rfl, by decide, by decide, rfl⟩, rfl⟩

theorem witness_ModuleResets :
    (stateOff true).dev.hm.counting = true ∧ (stateOff false).dev.hm.counting = false ∧ Running State.reset ∧
    State.reset.dev.mode.posrst = true ∧ Running stateRun ∧ stateRun.dev.mode.posrst = false ∧ stateRun.dev.hm.powerFail = false :=
  ⟨rfl, rfl, rfl, rfl, rfl, rfl, rfl⟩

theorem witness_BootSequenceSteps :
    (Running State.reset ∧ State.reset.dev.mode.posrst = true) ∧
    (∀ n, n < 9 → bootDue (stateAtStep n).dev ([BootResult.step3 false [] [], .step3 true [] [], .step3 true [] [], .step4 ⟨triAll [], 0, [], false, none⟩,
      .step5 ⟨triAll [], 0, [], false, none⟩, .step6, .step7 0 0, .step8, .step9].getD n .step9)) ∧
    bootDue (stateAtStep 9).dev (.step10 0) ∧ (stateAtStep 9).dev.store.current = some Image.none ∧ ¬ bootDue stateBoot.dev .step9 ∧
    (∀ i v, bootDue (stateEleven i v).dev (.step11 (triAll 0)) ∧ Running (stateEleven i v) ∧
      (stateEleven i v).dev.mode.bootSafe.isSome = v ∧ (stateEleven i v).dev.mode.imageValid = i ∧ (stateEleven i v).dev.bp.serviceNext = false ∧
      2 ≤ (votingPiers (stateEleven i v).dev).length) ∧
    stateWaiting.dev.mode.waiting = true ∧ modeOf stateWaiting.dev = mBOOT ∧ stateWaiting.dev.mode.halted = false := by
  unfold bootDue
  refine ⟨⟨rfl, rfl⟩, by decide, by decide, rfl, by decide, ?_, rfl, by decide, rfl⟩
  intro i v
  unfold Running
  revert i v
  decide

theorem witness_PermitAndOperatingSeconds :
    Running stateRun ∧ stateRun.dev.hm.powerFail = false ∧ modeOf (stateWith [(Reg.MCTL_MODE_MODE, 3)]).dev = mHOLD := by
  refine ⟨rfl, rfl, by decide⟩

theorem witness_HealthMonitorReadings :
    Running State.reset ∧ flag (stateWith [(Reg.HM_CTRL_PROC_EN, 1)]).dev Reg.HM_CTRL_PROC_EN = true ∧
    flag State.reset.dev Reg.HM_STATUS_HOLDUP = false := by refine ⟨rfl, by decide, by decide⟩

theorem witness_AlarmReactions :
    Running stateRun ∧ safeOpen stateRun.dev ∧ nothingHeld stateRun.dev ∧ servicePiers stateRun.dev = allPiers ∧
    stateRun.dev.ks.reqs = [] ∧ bitF stateRun.dev Reg.HM_LIVE_TEMP 2 = false ∧ bitF stateRun.dev Reg.HM_LIVE_TEMP 3 = false ∧
    bitF stateRun.dev Reg.HM_LIVE_VOLT 0 = false ∧ bitF stateRun.dev Reg.HM_LIVE_VOLT 12 = false ∧ railPier 9 = some .C := by
  refine ⟨rfl, ⟨by decide, by decide, rfl⟩, ⟨⟨rfl, rfl, idle_of (by decide)⟩, rfl⟩, by decide, rfl, by decide, by decide, by decide, by decide, by decide⟩


theorem witness_EventsEnterTheIntake :
    Running stateRun ∧ intakeOpen stateRun.dev 0x2004 (sevOf 0x2004) ∧
    mget stateSuppressed.dev.ev.suppr 0x2004 = some ⟨4, 10, 20, 3⟩ ∧ intakeRoom stateSuppressed.dev 3 = true ∧
    stateSuppressed.dev.ev.dropN = 0 ∧ mget stateSuppressed.dev.ev.suppr 0x2005 = none ∧
    limitedBurst stateSuppressed.dev (stamp stateSuppressed.dev 0x2004 (sevOf 0x2004) 0 3 1 false []) = some 8 ∧
    mgetD stateSuppressed.dev.ev.buckets 0x2004 8 = 0 ∧
    limitedBurst stateFull.dev (stamp stateFull.dev 0x2004 (sevOf 0x2004) 0 3 1 false []) = some 8 ∧
    mgetD stateFull.dev.ev.buckets 0x2004 8 ≠ 0 ∧ intakeRoom stateFull.dev (sevOf 0x2004) = false := by
  refine ⟨rfl, open_of (by decide), rfl, by decide, rfl, rfl, by decide, by decide, by decide, by decide, ?_⟩
  have h : stateFull.dev.ev.intake = List.replicate 240 entryX := rfl
  unfold intakeRoom
  rw [h, List.length_replicate]
  decide

theorem witness_RecordsAreStored :
    Running stateRecords ∧ stateRecords.dev.ev.intake = [entryX] ∧ evReady stateRecords.dev = true ∧
    flag stateRecords.dev Reg.EV_STATUS_RESERVE_FAIL = false ∧ stateRecords.dev.ev.dropN = 0 ∧ evInReserve stateRecords.dev = false ∧
    stateRecords.dev.ev.hold = true ∧ stateRecords.dev.ev.retry = false ∧ stateReserve.dev.ev.intake = [entryX] ∧
    evReady stateReserve.dev = true ∧ stateReserve.dev.ev.retry = true ∧ evInReserve stateReserve.dev = true ∧
    flag stateReserve.dev Reg.EV_STATUS_RESERVE_FAIL = false := by
  refine ⟨rfl, rfl, by decide, by decide, rfl, by decide, rfl, rfl, rfl, by decide, rfl, by decide, by decide⟩
theorem witness_RecordsAreStored_2 :
    Running stateSuppressed ∧ mget stateSuppressed.dev.ev.buckets 0x2004 = some 0 ∧
    bucketBurst stateSuppressed.dev 0x2004 = some 8 ∧ 0 + 1 < 8 ∧ mget stateSuppressed.dev.ev.suppr 0x2005 = none ∧
    mget stateSuppressed.dev.ev.buckets 0x2005 = some 7 ∧ bucketBurst stateSuppressed.dev 0x2005 = some 8 ∧ 8 ≤ 7 + 1 ∧
    mget stateSuppressed.dev.ev.buckets 0x2006 = some 7 ∧ mget stateSuppressed.dev.ev.suppr 0x2006 = some ⟨1, 10, 10, 2⟩ ∧
    mget stateSuppressed.dev.ev.buckets 0x2007 = none := by
  refine ⟨rfl, rfl, by decide, by decide, rfl, rfl, by decide, by decide, rfl, rfl, rfl⟩


theorem witness_EndpointRestarts :
    Running stateRun ∧ stateRun.dev.hi.d3 = false ∧ Running stateD3 ∧ stateD3.dev.hi.d3 = true := ⟨rfl, rfl, rfl, rfl⟩

theorem witness_DoorbellsAndRings :
    Running stateHost ∧ hostOpen stateHost.dev ∧ flag stateHost.dev (Reg.HI_SQ_CFG_EN 0) = true ∧
    15 < 2 ^ rd stateHost.dev (Reg.HI_SQ_CFG_SIZE 0) ∧ 2 ^ rd stateHost.dev (Reg.HI_SQ_CFG_SIZE 0) ≤ 16 ∧
    flag stateHost.dev (Reg.HI_SQ_CFG_EN 7) = false ∧ ¬ hostOpen stateBoot.dev ∧
    flag stateHost.dev (Reg.HI_CQ_CFG_EN 0) = true ∧ 15 < cqSize stateHost.dev 0 ∧ cqSize stateHost.dev 0 ≤ 16 := by
  refine ⟨rfl, ⟨by decide, by decide⟩, by decide, by decide, by decide, by decide, fun h => absurd h.1 (by decide), by decide, by decide,
    by decide⟩
theorem witness_DoorbellsAndRings_2 :
    Running stateHost ∧ hostOpen stateHost.dev ∧ cfgRefused stateHost.dev false true false 4 = false ∧
    flag stateHost.dev (Reg.HI_SQ_CFG_EN 7) = false ∧ bitOf 0x80050004 31 = true ∧ bitField 0x80050004 0 4 = 4 ∧
    flag stateHost.dev (Reg.HI_CQ_CFG_EN 7) = false ∧ 12 < bitField 0x8000000D 0 4 := by
  refine ⟨rfl, ⟨by decide, by decide⟩, by decide, by decide, by decide, by decide, by decide, by decide⟩

theorem witness_DescriptorsAndDmaErrors :
    Running stateHost ∧ fetchRing stateHost.dev = some 0 ∧ descX.id ≠ 0 ∧ fetchRing stateRun.dev = none ∧
    (∃ d, d = descMove 0 descX stateHost.dev ∧
      ringLast d 0 < descX.id ∧ earlyRefusal d 0 descX (some []) = none ∧ forwards d = false ∧
      ownRefusal d descX [] none = none ∧ journalRefusal d descX = none) ∧
    (earlyRefusal (descMove 0 descX stateHost.dev) 0 descX none).isSome = true := by
  refine ⟨rfl, by decide, by decide, by decide, ⟨_, rfl, by decide, by decide, by decide, by decide, by decide⟩, by decide⟩
theorem witness_DescriptorsAndDmaErrors_2 : Running stateHost ∧ rd stateHost.dev (Reg.HI_SQ_CFG_CQ 7) = 0 := ⟨rfl, by decide⟩

theorem witness_AcceptanceCompletes :
    Running stateCmds ∧ ((cmdOf stateCmds.dev 5).map fun c => (c.ring, c.accepted)) = some (0, false) ∧
    ((cmdOf stateCmds.dev 6).map fun c => (c.ring, c.accepted, c.desc.payLen)) = some (0, true, 2) ∧ ([1, 2] : List Byte).length = 2 ∧
    cmdOf stateCmds.dev 7 = none := by
  refine ⟨rfl, by decide, by decide, rfl, by decide⟩

theorem witness_HeldMessagesAreSent :
    Running stateHeld ∧ bitOf stateHeld.dev.hi.imodHeld 0 = true ∧ mgetD stateHeld.dev.hi.unread 0 [] ≠ [] ∧
    bitOf stateHeld.dev.msix.mask 0 = false ∧ hostOpen stateHeld.dev ∧ bitOf stateHeld.dev.hi.imodHeld 1 = true ∧
    mgetD stateHeld.dev.hi.unread 1 [] = [] ∧ bitOf stateHeld.dev.hi.imodHeld 2 = false ∧ ¬ hostOpen stateBoot.dev ∧
    bitOf stateHeld.dev.hi.imodHeld 3 = true ∧ mgetD stateHeld.dev.hi.unread 3 [] ≠ [] ∧ bitOf stateHeld.dev.msix.mask 3 = true := by
  refine ⟨rfl, by decide, by decide, by decide, ⟨by decide, by decide⟩, by decide, by decide, by decide, fun h => absurd h.1 (by decide),
    by decide, by decide, by decide⟩

theorem witness_HostWindows :
    Running stateHost ∧ hostServes stateHost.dev = true ∧ hostServes stateBoot.dev = false ∧
    stateHost.dev.hi.evwHi * 2 ^ 32 + trunc 32 0 ≤ rd stateHost.dev Reg.EV_NEXT ∧
    rd stateHost.dev Reg.EV_NEXT < stateHost.dev.hi.evwHi * 2 ^ 32 + trunc 32 2 := by
  refine ⟨rfl, by decide, by decide, by decide, by decide⟩
theorem witness_HostWindows_2 : Running stateHost ∧ hostOpen stateHost.dev ∧ ¬ hostOpen stateBoot.dev :=
  ⟨rfl, ⟨by decide, by decide⟩, fun h => absurd h.1 (by decide)⟩


theorem witness_RegisterWritesFollowAccessCodes :
    Running stateRun ∧ 0x40020000 % 4 = 0 ∧ sliceAddr 0x40020000 = false ∧ (sideReg .deck 0x40020000).isSome = true ∧
    blockOf 0x40020000 ∈ [2, 4, 5, 6, 8, 9, 10, 11, 14, 15] ∧ sliceAddr 0x40090000 = false ∧
    (sideReg .voted 0x40090000).isSome = true ∧ blockOf 0x40090000 = 9 ∧ 0x40090002 % 4 ≠ 0 := by
  refine ⟨rfl, rfl, by decide, by decide, by decide, by decide, by decide, by decide, by decide⟩

theorem witness_ReadsCaptureAndClear :
    Running stateRun ∧ 0x400D0010 % 4 = 0 ∧ ((sideReg .deck 0x400D0010).map fun h => (h.pair, h.high)) = some (true, false) ∧
    (ownRead .deck 0x400D0010 stateRun.dev).isNone = true ∧ blockOf 0x400D0010 ≠ 3 ∧
    ((sideReg .deck 0x400D0014).map fun h => h.high) = some true ∧ (sideReg .deck 0x20000000).isNone = true ∧
    (ownRead .deck 0x20000000 stateRun.dev).isNone = true := by
  refine ⟨rfl, rfl, by decide, by decide, by decide, by decide, by decide, by decide⟩

theorem witness_RefusedAccessesAreRecorded :
    Running stateRun ∧ blockOf 0x40000002 ≤ 18 ∧ ¬ (2 = 4 ∧ 0x40000002 % 4 = 0) ∧
    intakeOpen stateRun.dev Ev.ACCESS_WIDTH (sevOf Ev.ACCESS_WIDTH) ∧ (∀ p, Initiator.dma ≠ .pier p) ∧
    accessDecodes .dma 0x20000000 4 true = false ∧ intakeOpen stateRun.dev Ev.DECODE_ERROR (sevOf Ev.DECODE_ERROR) ∧
    accessDecodes (.pier .A) 0x50000000 4 true = false ∧ inService stateRun.dev .A = true ∧ stateRun.dev.ks.faults = [] ∧
    memAligned 0x50000000 4 = true ∧ accessDecodes .dma 0x10000000 4 true = true := by
  refine ⟨rfl, by decide, by decide, open_of (by decide), (fun _ h => by cases h), by decide, open_of (by decide), by decide, by decide,
    rfl, by decide, by decide⟩

theorem witness_CheckedSettings :
    Running stateRun ∧ ([Reg.HM_TLIM_HYST 0, Reg.HM_TLIM_WARN 0].all fun f => inRange f.w f.rng (bitField 0x0005005A f.lo f.w)) = true ∧
    ([Reg.HM_TLIM_HYST 0, Reg.HM_TLIM_WARN 0].all fun f => inRange f.w f.rng (bitField 0xFFFF f.lo f.w)) = false ∧
    inRange Reg.TU_SLEW_LIMIT_LIMIT.w Reg.TU_SLEW_LIMIT_LIMIT.rng 100 = true ∧
    inRange Reg.TU_SLEW_LIMIT_LIMIT.w Reg.TU_SLEW_LIMIT_LIMIT.rng 101 = false := by
  refine ⟨rfl, by decide, by decide, by decide, by decide⟩


theorem witness_MarksRequestsAndOutputs :
    Running stateOutputs ∧ inService stateOutputs.dev .A = true ∧ runOf stateOutputs.dev 2 7 = some runX ∧ mget runX.marks 0 = none ∧
    reqRoom stateOutputs.dev .A reqX = true ∧ stateOutputs.dev.ks.reqs = [] ∧ bitOf runX.ended 0 = false ∧ runX.released = false ∧
    modeOf stateOutputs.dev ≠ mSAFE ∧ streamOf (triGet stateOutputs.dev.prs .A) 2 7 = some streamX ∧ streamX.todo = [] ∧
    workRuns (rd stateOutputs.dev (Reg.CYC_CLS_CFG_CORES 2)) 2 7 (triGet stateOutputs.dev.prs .A) = true ∧
    classSegs stateOutputs.dev 2 = [] ∧ classOuts stateOutputs.dev .A 2 7 false 0 = [] ∧
    classOuts stateImageOut.dev .A 2 7 false 0 = [.req 7 0x10000008 0 [0, 0, 0, 0]] ∧
    reqRoom stateImageOut.dev .A ⟨7, 2, 7, 0, 0x10000008, 0, [0, 0, 0, 0]⟩ = true ∧
    reqRoom stateOutputs.dev .A { reqX with payload := List.replicate 262144 0 } = false := by
  refine ⟨rfl, by decide, by decide, by decide, by decide, by decide, by decide, rfl, by decide, by decide, rfl, by decide, by decide,
    by decide, by decide, by decide, ?_⟩
  unfold reqRoom
  rw [List.length_replicate]
  decide

theorem witness_MailboxSlotsTakeAndClose :
    Running stateCycle ∧ nothingHeld stateCycle.dev ∧ inService stateCycle.dev .B = true ∧ modeOf stateCycle.dev ≠ mSAFE ∧
    mget stateCycle.dev.ks.slots 2 = none ∧ (2, 7) ∉ stateCycle.dev.ks.closedSlots ∧ runOf stateCycle.dev 2 7 = some runX ∧
    bitOf (mbExpect stateCycle.dev 2 7) 1 = true ∧ 2 ≤ mbCount (mbExpect stateCycle.dev 2 7) ∧ safeOpen stateCycle.dev ∧
    ((mget stateSlot.dev.ks.slots 2).map fun x => (x.cycle, x.timer, x.posts.length, x.second, x.majority)) = some (7, true, 1, false, none) ∧
    noWindows stateSlot.dev ∧ slotsWait stateSlot.dev ∧ (2, 6) ∈ stateSlot.dev.ks.closedSlots := by
  refine ⟨rfl, ⟨⟨rfl, rfl, idle_of (by decide)⟩, rfl⟩, by decide, by decide, by decide, by decide, by decide, by decide, by decide,
    ⟨by decide, by decide, rfl⟩, by decide, ⟨rfl, rfl, idle_of (by decide)⟩, ?_, by decide⟩
  intro e h
  cases h with
  | head => exact ⟨rfl, by decide⟩
  | tail _ h => cases h

theorem witness_WindowsAreJudged :
    Running stateCycle ∧ flag stateCycle.dev Reg.KS_STATUS_FROZEN = false ∧ servicePiers stateCycle.dev = allPiers ∧
    stateCycle.dev.ks.unexpected = [] ∧ safeOpen stateCycle.dev ∧ nothingHeld stateCycle.dev ∧ stateCycle.dev.ks.missed = [] ∧
    (stateWindow 5).dev.ks.windows = [windowX 5] ∧ winArrivals (stateWindow 5).dev (windowX 5) = [(0, 5, 100), (1, 5, 200)] ∧
    (stateWindow 6).dev.ks.windows = [windowX 6] ∧ winArrivals (stateWindow 6).dev (windowX 6) = [(0, 5, 100), (1, 6, 200)] ∧
    piersIdle (stateWindow 5).dev := by
  refine ⟨rfl, by decide, by decide, rfl, ⟨by decide, by decide, rfl⟩, ⟨⟨rfl, rfl, idle_of (by decide)⟩, rfl⟩, rfl, rfl, by decide, rfl, by decide,
    idle_of (by decide)⟩

theorem witness_TokensRelease :
    Running stateRun ∧ flag stateRun.dev Reg.KS_STATUS_FROZEN = false ∧ piersIdle stateRun.dev ∧
    (stateRel none).dev.ks.releasing = [.req reqX 0 none none] ∧ (stateRel none).dev.ks.windows = [] ∧ (stateRel none).dev.ks.slots = [] ∧
    (stateRel (some (tokenOf reqX 0))).dev.ks.releasing = [.req reqX 0 (some (tokenOf reqX 0)) none] ∧ reqX.unit = 7 ∧
    imageBase ≤ reqX.target ∧ reqX.target + reqX.payload.length ≤ imageBase + 0x800000 ∧
    (stateRel (some (9, 9))).dev.ks.releasing = [.req reqX 0 (some (9, 9)) none] ∧ (9, 9) ≠ ((tokenOf reqX 0).1, (tokenOf reqX 0).2 ^^^ 0) ∧
    tokenAlone stateRun.dev 2 7 0 = false := by
  refine ⟨rfl, by decide, idle_of (by decide), rfl, rfl, rfl, rfl, rfl, by decide, by decide, rfl, ?_, rfl⟩
  exact fun h => absurd (congrArg Prod.fst h) (by decide)

theorem witness_PierAndHalfFaults :
    Running stateRun ∧ inService stateRun.dev .B = true ∧ safeOpen stateRun.dev ∧ nothingHeld stateRun.dev ∧
    3 ≤ (servicePiers stateRun.dev).length ∧ stateRun.dev.ks.faults = [] ∧
    (stateFault.dev.ks.faults.any fun x => x.pier != 1 && sameFault x ⟨1, 3, 9, 2, 16⟩) = true ∧
    (servicePiers (stateResync 0 0).dev).length = 2 ∧ inService (stateResync 0 0).dev .A = true ∧
    inService (stateResync 0 0).dev .C = false ∧ nothingHeld (stateResync 0 0).dev ∧ safeOpen (stateResync 0 0).dev ∧
    intakeOpen stateRun.dev Ev.DETERMINISM_TRAP (sevOf Ev.DETERMINISM_TRAP) := by
  refine ⟨rfl, by decide, ⟨by decide, by decide, rfl⟩, ⟨⟨rfl, rfl, idle_of (by decide)⟩, rfl⟩, by decide, rfl, by decide, by decide, by decide,
    by decide, ⟨⟨rfl, rfl, idle_of (by decide)⟩, rfl⟩, ⟨by decide, by decide, rfl⟩, open_of (by decide)⟩
theorem witness_PierAndHalfFaults_2 :
    Running stateRun ∧ safeOpen stateRun.dev ∧ nothingHeld stateRun.dev ∧ flag stateRun.dev Reg.KS_STATUS_FROZEN = false ∧
    (hourStamps stateRun.dev 3).length < 2 ∧
    (hourStamps stateRun.dev 4).length < 2 ∧ flag stateFrozen.dev Reg.KS_STATUS_FROZEN = true ∧ safeOpen stateFrozen.dev ∧
    nothingHeld stateFrozen.dev ∧ Running stateFrozen ∧ (hourStamps stateFrozen.dev 3).length < 2 ∧ (hourStamps stateFrozen.dev 4).length < 2 := by
  refine ⟨rfl, ⟨by decide, by decide, rfl⟩, ⟨⟨rfl, rfl, idle_of (by decide)⟩, rfl⟩, by decide, by decide, by decide, by decide,
    ⟨by decide, by decide, rfl⟩, ⟨⟨rfl, rfl, idle_of (by decide)⟩, rfl⟩, rfl, by decide, by decide⟩

theorem witness_ResyncAndPairs :
    (∀ k ∈ [1, 2, 3, 4, 5, 6, 9], Running (stateResync k 0) ∧ (stateResync k 0).dev.ks.odd = some 2 ∧ resyncPh (stateResync k 0).dev = k) ∧
    flag (stateResync 1 0).dev Reg.KS_CFG_RESYNC_EN = true ∧ bitOf (stateResync 1 0).dev.ks.outOfService 2 = false ∧
    modeOf (stateResync 1 0).dev = mRUN ∧ (resyncDonor (stateResync 1 0).dev).isSome = true ∧
    pierHealth (stateResync 2 4).dev .C = true ∧ pierHealth (stateResync 2 0).dev .C = false ∧
    (stateResync 5 0).dev.ks.badPasses = 0 ∧ (stateResync 5 0).dev.ks.passLeft = 0 ∧ donorNow (stateResync 5 0).dev ≠ .C ∧
    donorDirty (stateResync 5 0).dev [] ≤ rd (stateResync 5 0).dev Reg.KS_RESYNC_CFG_FINAL_PAGES ∧
    ceilDiv (stateResync 5 0).dev.ks.passBytes 4096 < 2 * donorDirty (stateResync 5 0).dev [7] ∧
    (stateResync 5 0).dev.ks.aborts < 2 ∧ (stateResync 6 0).dev.chg.state ≠ 3 ∧ donorDirty (stateResync 6 0).dev [] * 4096 / 4 + 25000 ≤ 30000 ∧
    2 ≤ stateBadPasses.dev.ks.badPasses ∧ resyncPh stateBadPasses.dev = 5 ∧ stateBadPasses.dev.ks.passLeft = 0 ∧
    (stateBadPasses.dev.ks.attemptAt + rd stateBadPasses.dev Reg.KS_RESYNC_CFG_LIMIT_S * second ≤ stateBadPasses.dev.clk) := by
  unfold Running
  refine ⟨by decide, by decide, by decide, by decide, by decide, by decide, by decide, rfl, rfl, by decide, by decide, by decide, by decide,
    by decide, by decide, by decide, by decide, by decide, by decide⟩
theorem witness_ResyncAndPairs_2 :
    Running stateRun ∧ (∀ u ∈ [1, 6], pairState stateRun.dev u = 0) ∧
    (∀ u ∈ [1, 6], pairState (statePair u).dev u = 3 ∧ (hourStamps (statePair u).dev (4 + u)).length < 2 ∧ (statePair u).dev.hm.powerFail = false) ∧
    safeOpen (statePair 6).dev ∧ pairState statePairHour.dev 5 = 3 ∧ 2 ≤ (hourStamps statePairHour.dev 9).length ∧
    safeOpen statePairHour.dev := by
  refine ⟨rfl, by decide, by decide, ⟨by decide, by decide, rfl⟩, by decide, by decide, ⟨by decide, by decide, rfl⟩⟩


theorem witness_TicksAndHousekeeping :
    Running stateTick ∧ schedValid stateTick.dev = true ∧ schedValid stateRun.dev = false ∧ 8 ≤ rd stateRun.dev Reg.MCTL_BOOT_STEP := by
  refine ⟨rfl, by decide, by decide, by decide⟩

theorem witness_ModesChangeAtBoundaries :
    Running (stateMode 2) ∧ (stateMode 2).dev.mode.leaseLost = true ∧ modeOf (stateMode 2).dev = mRUN ∧
    (stateMode 3).dev.mode.leaseLost = false ∧ (stateMode 3).dev.mode.permitLost = true ∧ modeOf (stateMode 3).dev = mHOLD ∧
    flag (stateMode 3).dev Reg.MCTL_PINS_SVC_PERMIT = false ∧ stateAuto.dev.mode.autorun = true ∧ modeOf stateAuto.dev = mSTOP ∧
    stateAuto.dev.mode.reqs = [] ∧ runAllowed stateAuto.dev = true ∧ stateAuto.dev.mode.leaseLost = false ∧
    (∀ m ∈ [2, 3], boundaryTrigger (stateReq m 0).dev = none ∧ (stateReq m 0).dev.mode.reqs = [7] ∧
      cmdOf (stateReq m 0).dev 7 = some (reqCmd 0) ∧ modeOf (stateReq m 0).dev = m) ∧
    (∀ a ∈ [2, 4], boundaryTrigger (stateReq 1 a).dev = none ∧ (stateReq 1 a).dev.mode.reqs = [7] ∧ modeOf (stateReq 1 a).dev = mSTOP ∧
      cmdOf (stateReq 1 a).dev 7 = some (reqCmd a) ∧ (reqCmd a).desc.op = 1 ∧ argB (reqCmd a).desc 0 = a ∧ bitOf (argB (reqCmd a).desc 3) 0 = false ∧
      holdAllowed (stateReq 1 a).dev = true) := by
  refine ⟨rfl, by decide, by decide, by decide, by decide, by decide, by decide, rfl, by decide, rfl, by decide, rfl, by decide, by decide⟩

theorem witness_SnapshotsAndWatchdog :
    Running stateSnap ∧ modeOf stateSnap.dev = mSTOP ∧ cycState stateSnap.dev ≠ 3 ∧ flag stateSnap.dev Reg.CYC_CFG_SNAP_EN = true ∧
    flag stateRun.dev Reg.CYC_CFG_SNAP_EN = false ∧ safeOpen stateCycle.dev ∧ runOf stateCycle.dev 2 7 = some runX ∧
    finalWindow stateCycle.dev 2 7 = none ∧ finalWindow stateLate.dev 2 7 = some windowLate ∧ windowLate.judged = false ∧
    ((watchArrivals stateLate.dev windowLate).filter fun x => decide (x.2.2 ≤ deadlineOf stateLate.dev 2 7 + skewUnits stateLate.dev)) =
      [(0, 5, 10), (1, 5, 400010)] ∧ deadlineOf stateLate.dev 2 7 < 400010 ∧ modeOf stateLate.dev ≠ mSAFE := by
  refine ⟨rfl, by decide, by decide, by decide, by decide, ⟨by decide, by decide, rfl⟩, by decide, by decide, by decide, rfl, by decide, by decide, by decide⟩


theorem witness_ChangeSetStages :
    Running (stateCmd 2 cmdLoad) ∧ turnOf (stateCmd 2 cmdLoad).dev cmdLoad ∧ isOp 4 0 cmdLoad.desc = true ∧
    loadContent (stateCmd 2 cmdLoad).dev 5 (some csX) = some csX ∧ loadContent (stateCmd 2 cmdLoad).dev 5 none = none ∧
    (stateChange 1 false).dev.chg.state = 1 ∧ (stateChange 1 false).dev.chg.fetched = false ∧ (stateChange 1 false).dev.chg.cs = some csX ∧
    cmdOf (stateChange 1 false).dev (stateChange 1 false).dev.chg.cmd = some cmdLoad ∧ cmdLoad.payload.length = cmdLoad.desc.payLen ∧
    cmdLoad.again = false ∧ (stateChange 1 false).dev.hm.powerFail = false ∧
    (stateChange 1 true).dev.chg.fetched = true ∧ inService (stateChange 1 true).dev .A = true ∧ (stateChange 1 true).dev.chg.partner = 1 ∧
    chgCs (stateChange 3 true).dev = some csX ∧ (carryPlan (stateChange 3 true).dev).isSome = true ∧ 2 ∈ csAffected csX ∧ 3 ∉ csAffected csX ∧
    lastOldEnded (stateChange 3 true).dev .A 2 2 = true ∧ (stateChange 0 true).dev.chg.state ≠ 3 ∧
    mget (stateChange 0 true).dev.chg.late 8 = some (some 0) ∧ mget (stateChange 0 true).dev.chg.late 9 = none ∧
    intakeOpen (stateChange 0 true).dev Ev.CARRYOVER_LATE (sevOf Ev.CARRYOVER_LATE) ∧
    inService (stateResync 5 0).dev .C = false := by
  refine ⟨rfl, turn_of (by decide), ?_, ?_, ?_, ?_, ?_, ?_, ?_, ?_, ?_, ?_, ?_, ?_, ?_, ?_, ?_, ?_, ?_, ?_, ?_, ?_, ?_, open_of (by decide), ?_⟩
  all_goals decide

theorem witness_ChangeSetEnds :
    (∀ a ∈ [1, 2, 3, 4], Running (stateCmd 2 (cmdX 4 [a] [])) ∧ turnOf (stateCmd 2 (cmdX 4 [a] [])).dev (cmdX 4 [a] []) ∧
      isOp 4 a (cmdX 4 [a] []).desc = true ∧ (stateCmd 2 (cmdX 4 [a] [])).dev.chg.switched = none ∧
      chgPending (stateCmd 2 (cmdX 4 [a] [])).dev = false ∧ chgClass (stateCmd 2 (cmdX 4 [a] [])).dev = none) ∧
    (∀ a ∈ [1, 2, 3, 4], turnOf (stateSwitched (cmdX 4 [a] [])).dev (cmdX 4 [a] []) ∧
      (stateSwitched (cmdX 4 [a] [])).dev.chg.switched = some switchedX ∧ chgClass (stateSwitched (cmdX 4 [a] [])).dev = some 2) := by
  unfold Running turnOf dueOf
  refine ⟨?_, ?_⟩ <;> decide +kernel

theorem witness_CommandsReachTheirClass :
    (∀ op ∈ [5, 6, 7, 9, 17], Running (stateCmd 2 (cmdX op [] [])) ∧ dueOf (stateCmd 2 (cmdX op [] [])).dev (cmdX op [] []) ∧
      modeOf (stateCmd 2 (cmdX op [] [])).dev ≠ mSAFE ∧ dueOf (stateCmd 5 (cmdX op [] [])).dev (cmdX op [] []) ∧
      modeOf (stateCmd 5 (cmdX op [] [])).dev = mSAFE) ∧
    (∀ a ∈ [0, 1, 2, 3, 4, 5, 8], dueOf (stateCmd 2 (cmdX 1 [a] [])).dev (cmdX 1 [a] []) ∧ isOp 1 a (cmdX 1 [a] []).desc = true ∧
      dueOf (stateCmd 5 (cmdX 1 [a] [])).dev (cmdX 1 [a] [])) := by
  unfold Running dueOf
  refine ⟨?_, ?_⟩ <;> decide +kernel

theorem witness_ControlExchangeAgrees :
    Running stateCycle ∧ cyclesRun stateCycle.dev = true ∧ chgCs stateCycle.dev = none ∧ stateCycle.dev.hi.cmds = [] ∧
    ∀ c ∈ [cmdX 5 [0] [], cmdX 6 [0] [], cmdX 9 [0] [], cmdX 10 [0] [], cmdX 1 [0] [], cmdX 1 [5] []],
      Running (stateCmd 1 { c with phase := .toClass 2 }) ∧ cyclesRun (stateCmd 1 { c with phase := .toClass 2 }).dev = false ∧
      modeOf (stateCmd 1 { c with phase := .toClass 2 }).dev = mSTOP ∧ chgCs (stateCmd 1 { c with phase := .toClass 2 }).dev = none ∧
      safeOpen (stateCmd 1 { c with phase := .toClass 2 }).dev ∧ (stateCmd 1 { c with phase := .toClass 2 }).dev.mode.reqs = [] := by
  refine ⟨rfl, by decide, by decide, rfl, ?_⟩
  unfold Running safeOpen
  decide

theorem witness_CommandsAnswerAtOnce :
    ∀ a ∈ [6, 7], Running (stateCmd 2 (cmdX 1 [a] [])) ∧ turnOf (stateCmd 2 (cmdX 1 [a] [])).dev (cmdX 1 [a] []) ∧
      (stateCmd 2 (cmdX 1 [a] [])).dev.mode.posrst = false ∧ isOp 1 a (cmdX 1 [a] []).desc = true := by
  unfold Running turnOf dueOf
  decide
theorem witness_CommandsAnswerAtOnce_2 :
    (∀ op ∈ [8, 14, 10], Running (stateCmd 2 (cmdX op [0] [])) ∧ turnOf (stateCmd 2 (cmdX op [0] [])).dev (cmdX op [0] [])) ∧
    bitOf (argB (cmdX 10 [0] []).desc 0) 0 = false ∧
    turnOf (stateCmd 5 (cmdX 15 [1] [])).dev (cmdX 15 [1] []) ∧ isOp 15 1 (cmdX 15 [1] []).desc = true := by
  unfold Running turnOf dueOf
  refine ⟨?_, ?_, ?_, ?_⟩ <;> decide +kernel

theorem witness_Images :
    Running (stateCmd 2 (cmdX 2 [] [])) ∧ turnOf (stateCmd 2 (cmdX 2 [] [])).dev (cmdX 2 [] []) ∧ argB (cmdX 2 [] []).desc 20 ≠ 1 ∧
    turnOf (stateCmd 2 cmdLast).dev cmdLast ∧ cmdLast.desc.op = 2 ∧ argB cmdLast.desc 20 = 1 ∧
    turnOf (stateCmd 2 (cmdX 3 [] [])).dev (cmdX 3 [] []) ∧ turnOf (stateStored (cmdX 3 [] [])).dev (cmdX 3 [] []) ∧
    modeOf (stateStored (cmdX 3 [] [])).dev = mSTOP ∧ mget (stateStored (cmdX 3 [] [])).dev.store.images 0 = some Image.none ∧
    (stateStored (cmdX 3 [] [])).dev.mode.generation < 0xFFFFFFFF := by
  unfold Running turnOf dueOf
  refine ⟨rfl, ?_, ?_, ?_, ?_, ?_, ?_, ?_, ?_, ?_, ?_⟩ <;> decide +kernel

theorem witness_WaitingAndRelayCommands :
    (∀ c ∈ [cmdX 15 [0] [], cmdX 16 [0] [], cmdX 16 [1] [], cmdX 13 [] [], cmdX 13 [0, 0, 0, 0, 0, 0, 0, 0, 1] []],
      Running (stateCmd 2 c) ∧ turnOf (stateCmd 2 c).dev c ∧ netActive (stateCmd 2 c).dev = true ∧ jOpen (stateCmd 2 c).dev ∧
      (stateCmd 2 c).dev.dx.taking = none ∧ (stateCmd 2 c).dev.dx.sending = none) ∧
    flag (stateCmd 2 (cmdX 15 [0] [])).dev (Reg.CYC_CLS_CFG_EN (rd (stateCmd 2 (cmdX 15 [0] [])).dev Reg.DX_CP_CFG_CLASS)) = false ∧
    (turnOf (stateTake (cmdX 15 [0] [])).dev (cmdX 15 [0] []) ∧ (stateTake (cmdX 15 [0] [])).dev.dx.taking = none ∧
      flag (stateTake (cmdX 15 [0] [])).dev (Reg.CYC_CLS_CFG_EN (rd (stateTake (cmdX 15 [0] [])).dev Reg.DX_CP_CFG_CLASS)) = true) ∧
    turnOf stateQuiet.dev (cmdX 13 [] []) ∧ netActive stateQuiet.dev = false ∧
    (∀ c ∈ [cmdX 10 [1] (leBytes 4 0x20000000 ++ leBytes 4 7), cmdX 10 [1] (leBytes 4 0 ++ leBytes 4 0)],
      turnOf (stateCmd 1 c).dev c ∧ firstBad (cmdRecords c) = 0xFFFFFFFF ∧ bitOf (argB c.desc 0) 0 = true) ∧
    recordVoted 0x20000000 = false ∧ recordVoted 0 = true ∧
    turnOf (stateCmd 1 cmdOutOfRange).dev cmdOutOfRange ∧ firstBad (cmdRecords cmdOutOfRange) ≠ 0xFFFFFFFF := by
  unfold Running turnOf dueOf jOpen
  refine ⟨?_, ?_, ?_, ?_, ?_, ?_, ?_, ?_, ?_, ?_⟩ <;> decide +kernel
theorem witness_WaitingAndRelayCommands_2 :
    Running (statePkg (cmdX 11 [] [0, 0])) ∧ turnOf (statePkg (cmdX 11 [] [0, 0])).dev (cmdX 11 [] [0, 0]) ∧
    (statePkg (cmdX 11 [] [0, 0])).dev.upd.stage = some ⟨2, 5000, 0, none, 0, []⟩ ∧ argN (cmdX 11 [] [0, 0]).desc 4 8 = 0 ∧
    turnOf (statePkg (cmdX 11 [0, 0, 0, 0, 9] [0, 0])).dev (cmdX 11 [0, 0, 0, 0, 9] [0, 0]) ∧ argN (cmdX 11 [0, 0, 0, 0, 9] [0, 0]).desc 4 8 ≠ 0 ∧
    bitOf (argB (cmdX 11 [] [0, 0]).desc 20) 0 = false ∧ manifestOk { manifestX with fixedOk := false } = false ∧
    (∀ a ∈ [0, 1, 2, 3, 4, 5, 6], turnOf (statePkg (cmdX 12 [a, 1] (leBytes 32 9))).dev (cmdX 12 [a, 1] (leBytes 32 9)) ∧
      isOp 12 a (cmdX 12 [a, 1] (leBytes 32 9)).desc = true) ∧
    jOpen (statePkg (cmdX 12 [0] (leBytes 32 9))).dev ∧
    pkgFind (statePkg (cmdX 12 [0] (leBytes 32 9))).dev (cmdIdentity (cmdX 12 [0] (leBytes 32 9))) = some 0 ∧
    pkgOf (statePkg (cmdX 12 [0] (leBytes 32 9))).dev 0 = some pkgX ∧
    installChoice pkgX false (statePkg (cmdX 12 [0] (leBytes 32 9))).dev = 3 ∧
    (upSlot (statePkg (cmdX 12 [4, 1] (leBytes 32 9))).dev 1).valid = true ∧ slotBooted (statePkg (cmdX 12 [4, 1] (leBytes 32 9))).dev ≠ 1 ∧
    pkgFind (stateCmd 2 (cmdX 12 [1] (leBytes 32 9))).dev (cmdIdentity (cmdX 12 [1] (leBytes 32 9))) = none ∧
    (upSlot (statePkg (cmdX 12 [5] (leBytes 32 9))).dev 0).hdr.sec ≤ rd (statePkg (cmdX 12 [5] (leBytes 32 9))).dev Reg.UP_ROLLBACK_EFFECTIVE ∧
    (∀ f, turnOf (stateSecure f).dev (cmdX 12 [5] (leBytes 32 9)) ∧ flag (stateSecure f).dev Reg.CS_STATUS_FROZEN = f ∧
      rd (stateSecure f).dev Reg.UP_ROLLBACK_EFFECTIVE < (upSlot (stateSecure f).dev (slotBooted (stateSecure f).dev)).hdr.sec) ∧
    (turnOf stateBusy.dev (cmdX 12 [4, 1] (leBytes 32 9)) ∧ stateBusy.dev.upd.installing.isSome = true ∧ slotBooted stateBusy.dev ≠ 1) ∧
    (turnOf (stateCmd 2 (cmdX 12 [4, 1] (leBytes 32 9))).dev (cmdX 12 [4, 1] (leBytes 32 9)) ∧
      (upSlot (stateCmd 2 (cmdX 12 [4, 1] (leBytes 32 9))).dev 1).valid = false) := by
  unfold Running turnOf dueOf jOpen
  refine ⟨rfl, ?_, ?_, ?_, ?_, ?_, ?_, ?_, ?_, ?_, ?_, ?_, ?_, ?_, ?_, ?_, ?_, ?_, ?_, ?_⟩ <;> decide +kernel


theorem witness_TimeServoAndQueues :
    (∀ st ∈ [0, 1, 2, 3, 4, 5], Running (stateServo st 0) ∧ ptpPort (stateServo st 0).dev 1 = true ∧
      rd (stateServo st 0).dev Reg.TU_STATUS_SLAVE_PORT = 1 ∧ tuSource (stateServo st 0).dev = 2 ∧ tuState (stateServo st 0).dev = st ∧
      (stateServo st 0).dev.tu.judging = false) ∧
    (stateServo 1 3).dev.tu.acqSyncs = 3 ∧ (stateServo 1 0).dev.tu.acqSyncs < 3 ∧ flag (stateServo 1 3).dev (Reg.TU_PORT_STATE_PD_VALID 1) = true ∧
    (timeFloor (stateServo 1 3).dev : Int) ≤ (2000000000 : Int) + (rd (stateServo 1 3).dev (Reg.TU_PORT_PD 1) : Int) - epochE (stateServo 1 3).dev ∧
    flag (stateServo 2 0).dev Reg.TU_STATUS_HOLD_PD = false ∧ thetaSmall (stateServo 2 0).dev (syncTheta (stateServo 2 0).dev 1 900 900) = true ∧
    thetaSmall (stateServo 2 0).dev (syncTheta (stateServo 2 0).dev 1 5000000000 900) = false ∧ (stateServo 2 0).dev.tu.outliers < 2 ∧
    2 ≤ (stateServo 2 2).dev.tu.outliers ∧ flag (stateServo 2 0).dev (Reg.TU_PORT_STATE_PD_VALID 0) = false ∧
    mget (stateServo 2 0).dev.tu.holds 1 = none ∧ ptpPort (stateServo 2 0).dev 0 = true ∧ ptpPort (stateServo 2 0).dev 5 = false ∧
    rd (stateServo 2 0).dev Reg.TU_PD_STEP_STEP_NS < ((1000000 : Int) - (rd (stateServo 2 0).dev (Reg.TU_PORT_PD 1) : Int)).natAbs ∧
    mget stateHolds.dev.tu.holds 1 = some ⟨1000000, 1, 1000000⟩ ∧ flag stateHolds.dev (Reg.TU_PORT_STATE_PD_VALID 1) = true ∧
    flag stateHolds.dev Reg.TU_STATUS_HOLD_PD = true ∧ tuSource stateRun.dev = 0 := by
  unfold Running
  refine ⟨?_, ?_, ?_, ?_, ?_, ?_, ?_, ?_, ?_, ?_, ?_, ?_, ?_, ?_, ?_, ?_, ?_, ?_, ?_⟩ <;> decide
theorem witness_TimeServoAndQueues_2 :
    Running (stateQueues 0 1) ∧ ptpPort (stateQueues 0 1).dev 1 = true ∧ rd (stateQueues 0 1).dev (Reg.TU_PORT_STATE_PORT_STATE 1) = 6 ∧
    schedValid (stateQueues 0 1).dev = true ∧ rd (stateQueues 0 1).dev Reg.TU_CFG_PROFILE = 0 ∧ rd (stateQueues 1 1).dev Reg.TU_CFG_PROFILE ≠ 0 ∧
    ptpPort (stateQueues 1 1).dev 1 = true ∧ (stateQueues 0 1).dev.hm.powerFail = false ∧
    (((launchQ (stateQueues 0 1).dev 1).find? fun x => x.queue == 6).map (·.launch)) = some 5000 ∧
    ((swQueue (stateQueues 0 1).dev 1 6).any fun e => e.behind == 0) = false ∧ gateOpen (stateQueues 0 1).dev 1 6 = true ∧
    macNow (stateQueues 0 1).dev 1 5100 = 5100 ∧ macNow (stateQueues 0 1).dev 1 4900 < 5000 ∧
    5100 - 5000 ≤ rd (stateQueues 0 1).dev (Reg.TU_LAUNCH_LATE_TOL 1) ∧
    rd stateLateLaunch.dev (Reg.TU_LAUNCH_LATE_TOL 1) < macNow stateLateLaunch.dev 1 1000000000 - 5000 ∧
    flag stateLateLaunch.dev (Reg.TU_LAUNCH_POLICY 1) = true ∧ txtsOf (stateQueues 0 1).dev 1 = [(3, 9)] ∧
    16 ≤ (txtsOf (stateQueues 0 16).dev 1).length ∧ txtsOf (stateQueues 0 1).dev 0 = [] := by
  unfold Running
  refine ⟨?_, ?_, ?_, ?_, ?_, ?_, ?_, ?_, ?_, ?_, ?_, ?_, ?_, ?_, ?_, ?_, ?_, ?_, ?_⟩ <;> decide


theorem witness_PositionsAndTriggers :
    Running stateSpeed ∧ (∀ x < 4, flag stateSpeed.dev (Reg.PT_REF_CFG_EN 0 x) = true → rd stateSpeed.dev (Reg.PT_REF_CFG_SOURCE 0 x) ≠ 3) ∧
    (∀ x < 4, (flag stateSpeed.dev (Reg.PT_REF_CFG_EN 0 x) && rd stateSpeed.dev (Reg.PT_REF_CFG_SOURCE 0 x) == 1) = (x == 2)) ∧
    (∀ k < 64, rd stateSpeed.dev (Reg.PT_TRIG_CTL_STATE 0 k) ≠ 1) ∧ bitOf (triGet stateSpeed.dev.pt .A).tracks 2 = false ∧
    bitOf (triGet stateSpeed.dev.pt .A).tracks 3 ≠ true ∧ rd stateSpeed.dev (Reg.PT_REF_CFG_MODE 0 2) ≠ 3 ∧
    bitOf (refLevel stateSpeed.dev .A 2) 0 = bitOf (triGet stateSpeed.dev.pt .A).tracks 2 ∧
    bitOf (refLevel stateSpeed.dev .A 2) 1 = bitOf (triGet stateSpeed.dev.pt .A).tracks 3 ∧
    rd stateSpeed.dev (Reg.PT_REF_CFG_FILT 0 2) = 0 := by
  unfold Running
  refine ⟨?_, ?_, ?_, ?_, ?_, ?_, ?_, ?_, ?_, ?_⟩ <;> decide
theorem witness_PositionsAndTriggers_2 :
    Running (stateHit 0) ∧ inService (stateHit 0).dev .A = true ∧ isolated (stateHit 0).dev .A = false ∧
    ((votingPiers (stateHit 0).dev).filter fun q => bitOf (bitSet (mgetD (stateHit 0).dev.io.ptHits 81 0) 0) (pierIdx q)).length < 2 ∧
    2 ≤ ((votingPiers (stateHit 2).dev).filter fun q => bitOf (bitSet (mgetD (stateHit 2).dev.io.ptHits 81 0) 0) (pierIdx q)).length ∧
    bitOf (bitSet (mgetD (stateHit 2).dev.io.ptHits 81 0) 0) 3 = false ∧ mget (stateHit 2).dev.staged 5 = some [7] ∧
    leaseHeld (stateHit 2).dev = true ∧ inRun (stateHit 2).dev = true ∧ (∀ m ∈ [0, 2, 10], 81 ∈ (triGet (stateHit m).dev.pt .A).signals) ∧
    82 ∉ (triGet (stateHit 2).dev.pt .A).signals ∧ mget (stateHit 2).dev.staged 6 = none ∧ 97 ∈ (triGet (stateHit 2).dev.pt .A).signals ∧
    bitOf (bitSet (mgetD (stateHit 10).dev.io.ptHits 81 0) 0) 3 = true ∧
    2 ≤ ((votingPiers (stateHit 2).dev).filter fun q => bitOf (bitSet (mgetD (stateHit 2).dev.io.ptHits 97 0) 0) (pierIdx q)).length ∧
    inService (stateHit 2).dev .C = true := by
  unfold Running
  refine ⟨?_, ?_, ?_, ?_, ?_, ?_, ?_, ?_, ?_, ?_, ?_, ?_, ?_, ?_, ?_, ?_⟩ <;> decide

theorem witness_FieldInputs :
    Running stateField ∧ bitOf 1 0 ≠ bitF stateField.dev (Reg.FIO_DI_STATE 0) 0 ∧
    rd stateField.dev (Reg.FIO_DI_CFG_DEBOUNCE 0 0) < mgetD (triGet stateField.dev.fio .A).diCount 0 0 + 1 ∧
    ¬ rd stateField.dev (Reg.FIO_DI_CFG_DEBOUNCE 0 1) < mgetD (triGet stateField.dev.fio .A).diCount 1 0 + 1 ∧
    rd stateField.dev (Reg.FIO_FS_STATE 0 0) = 0 ∧ fsMajority stateField.dev 0 = some 0 ∧ 0 ≠ mgetD stateField.dev.io.fsMaj 0 2 ∧
    intakeOpen stateField.dev Ev.FS_STATE (sevOf Ev.FS_STATE) ∧ fsMajority stateRun.dev 1 = some 2 ∧ 2 = mgetD stateRun.dev.io.fsMaj 1 2 ∧
    fsMajority stateSplit.dev 0 = none := by
  unfold Running
  refine ⟨by decide, by decide, by decide, by decide, by decide, by decide, by decide, open_of (by decide), by decide, by decide, by decide⟩

theorem witness_LegsAndStages :
    Running stateLegs ∧ triggerHolds stateLegs.dev .A 3 = false ∧ bitF stateLegs.dev (Reg.FIO_LEG_MASK_MASK 0) 3 = true ∧
    bitF stateLegs.dev (Reg.FIO_LEG_MASK_MASK 0) 4 = false ∧ legOverride stateLegs.dev .A = false ∧ triggerHolds stateLegs.dev .A 5 = true ∧
    bitF stateLegs.dev (Reg.FIO_DO_SW_SW_ON 0) 3 = false ∧ bitF stateLegs.dev (Reg.FIO_RB_STATE_DEB 0) 3 = true ∧
    bitF stateRun.dev (Reg.FIO_RB_STATE_DEB 0) 3 = false ∧ 7 ≤ (shutdownsOf stateLegs.dev 3).length ∧ twoLegsOn stateRun.dev 3 = false ∧
    bitF stateRun.dev (Reg.FIO_DO_THERM_LOCKED 0) 3 = false ∧ twoLegsOn stateLegs.dev 3 = true ∧
    launchMissed stateLegs.dev .A 2 = false ∧ launchMissed statePassed.dev .A 2 = true ∧ outputDriven stateLegs.dev 3 = true ∧
    legOverride stateRun.dev .A = true := by
  unfold Running
  refine ⟨?_, ?_, ?_, ?_, ?_, ?_, ?_, ?_, ?_, ?_, ?_, ?_, ?_, ?_, ?_, ?_, ?_⟩ <;> decide


theorem witness_SwitchForwards :
    Running stateNet ∧ netActive stateNet.dev = true ∧ netActive stateBoot.dev = false ∧ portUp stateNet.dev 2 = true ∧
    portUp stateNet.dev 0 = true ∧ portUp stateNet.dev 4 = false ∧
    swVlan stateNet.dev (rd stateNet.dev (Reg.SW_PORT_CFG_PVID 2)) = some 1 ∧ flag stateNet.dev (Reg.SW_PORT_CFG_TAGGED_ONLY 2) = false ∧
    bitF stateNet.dev (Reg.SW_VLAN_MEMBERS 1) 2 = true ∧ bitF stateNet.dev (Reg.SW_VLAN_MEMBERS 1) 6 = true ∧
    bitF stateNet.dev (Reg.SW_VLAN_MEMBERS 1) 3 = false ∧
    portForwards stateNet.dev 2 1 = true ∧ portForwards stateNet.dev 6 1 = true ∧ flag stateNet.dev Reg.SW_CFG_FRER_EN = false ∧
    mget stateNet.dev.sw.macs 9 = some 6 ∧ stateNet.dev.te.mdq.length < rd stateNet.dev Reg.TE_CFG_MD_DEPTH ∧
    (∀ n < 64, flag stateNet.dev (Reg.SW_VLAN_VALID n) = true → rd stateNet.dev (Reg.SW_VLAN_VID n) ≠ rd stateNet.dev (Reg.SW_PORT_CFG_PVID 3)) ∧
    portUp stateNet.dev 3 = true ∧ flag stateNet.dev Reg.SW_CFG_RSTP_EN = true ∧ flag stateNet.dev (Reg.SW_PORT_CFG_RSTP 3) = true ∧
    flag stateNet.dev (Reg.SW_PORT_CFG_RSTP 2) = false := by
  unfold Running
  refine ⟨?_, ?_, ?_, ?_, ?_, ?_, ?_, ?_, ?_, ?_, ?_, ?_, ?_, ?_, ?_, ?_, ?_, ?_, ?_, ?_, ?_⟩ <;> decide
theorem witness_SwitchForwards_tables :
    flag stateNet.dev (Reg.SW_GCL_CTRL_EN 2) = true ∧ swGateIdx stateNet.dev 2 + 1 < rd stateNet.dev (Reg.SW_GCL_CTRL_LEN 2) ∧
    flag stateNet.dev (Reg.SW_GCL_CTRL_EN 3) = false ∧ flag stateNet.dev (Reg.SW_FRER_ID_VALID 4) = true ∧
    flag stateNet.dev (Reg.SW_FRER_ID_VALID 5) = false ∧ flag stateNet.dev (Reg.SW_PORT_STAT_LINK 4) = false ∧
    flag stateNet.dev (Reg.SW_PORT_STAT_LINK 2) = true ∧ rd stateNet.dev (Reg.SW_PORT_STAT_SPEED 2) ≠ 1 ∧
    rd stateNet.dev Reg.TU_STATUS_SLAVE_PORT ≠ 2 ∧ intakeOpen stateNet.dev Ev.LINK_CHANGE (sevOf Ev.LINK_CHANGE) := by
  refine ⟨?_, ?_, ?_, ?_, ?_, ?_, ?_, ?_, ?_, open_of ?_⟩ <;> decide

theorem witness_TrestleUnits :
    Running (stateTrestle frameX) ∧ commonTurn (stateTrestle frameX).dev ∧ (stateTrestle frameX).dev.te.pdq = [(frameX, 0)] ∧
    malformKind (stateTrestle frameX).dev frameX = none ∧ frameX.msg ≠ 1 ∧ (teMatch (stateTrestle frameX).dev frameX).isSome = true ∧
    pdStale (stateTrestle frameX).dev frameX = false ∧ malformKind (stateTrestle frameBad).dev frameBad = some 0 ∧
    malformKind (stateTrestle { frameX with msg := 1 }).dev { frameX with msg := 1 } = none ∧
    tePubOf (stateTrestle frameX).dev 50 = some 6 ∧ pdStale (stateTrestle { frameX with seq := 1 }).dev { frameX with seq := 1 } = true ∧
    lbNext stateNet.dev stateNet.dev.te.lbTurn = none ∧ commonTurn stateNet.dev ∧ stateNet.dev.te.pdq = [] ∧
    ((mget (stateTrestle frameX).dev.te.reasm 4).map fun r => isPd r.first) = some false ∧
    mget (stateTrestle frameX).dev.te.sessions 5 = some 5 ∧ cmdOf (stateTrestle frameX).dev 5 = some (cmdX 13 [] []) ∧
    (cmdX 13 [] []).again = false ∧ (stateTrestle frameX).dev.hm.powerFail = false ∧
    rd (stateTrestle frameX).dev (Reg.TE_SUB_STAT_STATE 3) = 1 ∧
    ((mget (stateTrestle frameX).dev.te.subs 3).map (·.time)).getD 0 +
      ((mget (stateTrestle frameX).dev.img.subs 3).map (·.timeout)).getD 0 * 1000000 ≤ schedTime (stateTrestle frameX).dev := by
  unfold Running commonTurn
  refine ⟨?_, ⟨?_, ?_, ?_⟩, ?_, ?_, ?_, ?_, ?_, ?_, ?_, ?_, ?_, ?_, ⟨?_, ?_, ?_⟩, ?_, ?_, ?_, ?_, ?_, ?_, ?_, ?_⟩ <;> decide
theorem witness_TrestleUnits_work :
    commonTurn (stateWork 2 0 0).dev ∧ (stateWork 2 0 0).dev.te.pdq = [] ∧ (stateWork 2 0 0).dev.te.sendq = [(6, 8, 0)] ∧
    (mget (stateWork 2 0 0).dev.img.pubs 6).map (pubForm (stateWork 2 0 0).dev) = some .released ∧
    (mget (stateWork 2 0 0).dev.te.pubs 6).isSome = true ∧
    (stateWork 2 1 0).dev.te.sendq = [] ∧ (stateWork 2 1 0).dev.te.replies = [(6, 7)] ∧ (stateWork 2 2 0).dev.te.replies = [] ∧
    lbNext (stateWork 2 2 0).dev (stateWork 2 2 0).dev.te.lbTurn = some 3 ∧ (lbPort (stateWork 2 2 0).dev 3).fifo = [⟨1, 5, [7]⟩] ∧
    lbNext (stateWork 2 3 0).dev (stateWork 2 3 0).dev.te.lbTurn = none ∧ (stateWork 2 3 0).dev.te.mdq = [frameMd] ∧ frameMd.frag = none ∧
    malformKind (stateWork 2 3 0).dev frameMd = none ∧ frameMd.msg < 5 ∧
    netActive (stateWork 2 2 15).dev = true ∧ pairHalted (stateWork 2 2 15).dev 2 = false ∧ (stateWork 2 2 15).dev.te.unitNo = 15 ∧
    lbNext (stateWork 2 2 15).dev (stateWork 2 2 15).dev.te.turn = some 3 ∧ pairHalted (statePair 2).dev 2 = true := by
  unfold commonTurn
  refine ⟨⟨?_, ?_, ?_⟩, ?_, ?_, ?_, ?_, ?_, ?_, ?_, ?_, ?_, ?_, ?_, ?_, ?_, ?_, ?_, ?_, ?_, ?_, ?_⟩ <;> decide
theorem witness_TrestleUnits_replies :
    mget stateReply.dev.te.sessions 5 = some 5 ∧ commonTurn stateReply.dev ∧ stateReply.dev.te.mdq = [{ frameMd with msg := 5, session := 5 }] ∧
    malformKind stateReply.dev { frameMd with msg := 5, session := 5 } = none ∧ cmdOf stateReply.dev 5 = some (cmdX 13 [] []) ∧
    stateReply.dev.te.pdq = [] ∧ stateReply.dev.te.sendq = [] ∧ stateReply.dev.te.replies = [] ∧
    lbNext stateReply.dev stateReply.dev.te.lbTurn = none ∧ commonTurn (stateWork mSAFE 0 0).dev ∧ (stateWork mSAFE 0 0).dev.te.sendq = [(6, 8, 0)] ∧
    pubForm (stateWork mSAFE 0 0).dev pubX = .none := by
  unfold commonTurn
  refine ⟨?_, ⟨?_, ?_, ?_⟩, ?_, ?_, ?_, ?_, ?_, ?_, ?_, ⟨?_, ?_, ?_⟩, ?_, ?_⟩ <;> decide


theorem witness_LegacyPorts :
    Running stateLegacy ∧ (∀ n ∈ [0, 2, 3], lbActive stateLegacy.dev n = true) ∧ flag stateLegacy.dev (Reg.LB_MVB_STAT_RX_LINE 0) = false ∧
    lbActive stateLegacy.dev 1 = false ∧ lbActive stateRun.dev 2 = false ∧ lbActive stateLegacy.dev 6 = false ∧
    lbRxOf stateLegacy.dev 0 9 false = some 1 ∧ lbRxOf stateLegacy.dev 0 8 false = none ∧ (lbPort stateLegacy.dev 0).fifo.length < 64 ∧
    ((imgLb stateLegacy.dev 0).tx.find? fun e => e.2.ident == 12) = some (4, ⟨12, 2, false, [0], none⟩) ∧
    lbForm stateLegacy.dev 0 4 = some [3] ∧ lbRxOf stateLegacy.dev 2 9 false = some 1 ∧ lbRxOf stateLegacy.dev 2 8 false = none ∧
    leaseHeld stateLegacy.dev = true ∧ (lbPort stateLegacy.dev 2).want = some 2 ∧ (lbPort stateRun.dev 2).want = none ∧
    leaseHeld stateUnleased.dev = false ∧ lbActive stateUnleased.dev 2 = true := by
  unfold Running
  refine ⟨?_, ?_, ?_, ?_, ?_, ?_, ?_, ?_, ?_, ?_, ?_, ?_, ?_, ?_, ?_, ?_, ?_, ?_⟩ <;> decide
theorem witness_LegacyPorts_can :
    canState stateLegacy.dev 3 < 2 ∧ rd stateLegacy.dev (Reg.LB_CAN_CFG_HL 0) ≠ 2 ∧ rd stateLegacy.dev (Reg.LB_CAN_CFG_HL 2) = 2 ∧
    lbActive stateLegacy.dev 5 = true ∧ canHeld stateLegacy.dev 3 7 = some ⟨7, some 5, [1]⟩ ∧ canHeld stateLegacy.dev 3 6 = none ∧
    canMaySend stateLegacy.dev 3 = true ∧ 0 < rd stateLegacy.dev (Reg.LB_CAN_LATE_LATE_US 0) ∧
    flag stateLegacy.dev (Reg.LB_CAN_LATE_POLICY 0) = false ∧ canHeld stateLegacy.dev 5 7 = some ⟨7, some 5, [1]⟩ ∧
    flag stateLegacy.dev (Reg.LB_CAN_LATE_POLICY 2) = true ∧ canFilter stateLegacy.dev 3 9 false = true ∧
    lbRxOf stateLegacy.dev 3 9 false = some 1 ∧ canFilter stateLegacy.dev 3 8 false = false ∧ (lbPort stateLegacy.dev 3).fifo.length < 256 ∧
    lbActive stateLegacy.dev 4 = true ∧ canState stateLegacy.dev 4 = 2 ∧ mget (imgLb stateLegacy.dev 3).heartbeats 6 = some 8 ∧
    (mget stateLegacy.dev.cyc.stations 8).isSome = true ∧ mget (imgLb stateLegacy.dev 3).heartbeats 5 = none := by
  refine ⟨?_, ?_, ?_, ?_, ?_, ?_, ?_, ?_, ?_, ?_, ?_, ?_, ?_, ?_, ?_, ?_, ?_, ?_, ?_, ?_⟩ <;> decide


theorem witness_LinkAndLease :
    Running stateRun ∧ Running stateDuplex ∧ flag stateDuplex.dev (laneFld false) = true ∧ flag stateDuplex.dev (laneFld true) = false ∧
    linkUp stateDuplex.dev = true ∧ linkUp stateRun.dev = false ∧ simplex stateRun.dev = true ∧ simplex stateDuplex.dev = false ∧
    grantsNow stateGranter.dev = true ∧ flag stateGranter.dev Reg.DX_STATUS_REQUESTING = false ∧
    rd stateDuplex.dev Reg.DX_STATUS_LEASE = 0 ∧ flag stateDuplex.dev Reg.DX_STATUS_REQUESTING = true ∧ votingPiers stateDuplex.dev ≠ [] ∧
    (∀ p ∈ votingPiers stateDuplex.dev, (([(0, 4), (1, 5), (2, 6)] : List (Nat × Nat)).find? fun e => e.1 == pierIdx p) = some (pierIdx p, 4 + pierIdx p) ∧
      (4 + pierIdx p, 0) ∈ (triGet stateDuplex.dev.dx.slices p).sent ∧ stateDuplex.dev.clk ≤ 0 + leaseNs stateDuplex.dev) ∧
    simplex stateLeased.dev = false ∧ rd stateLeased.dev Reg.DX_STATUS_LEASE = 1 ∧ sliceLease stateLeased.dev .A = true ∧
    majority stateLeased.dev (fun q => q == .A || !sliceLease stateLeased.dev q) = true ∧ partnerAbsent stateAlone.dev = true ∧
    simplex stateAlone.dev = false ∧ rd stateAlone.dev Reg.DX_STATUS_LEASE = 0 ∧ rd stateAlone.dev Reg.MCTL_MODE_ROLE = 3 ∧
    flag stateAlone.dev Reg.DX_STATUS_POS_CONFLICT = false ∧ partnerAbsent stateDuplex.dev = false ∧
    flag stateDuplex.dev Reg.DX_STATUS_POS_CONFLICT = false ∧ executing stateDuplex.dev = false ∧ executing stateRun.dev = true := by
  unfold Running
  refine ⟨?_, ?_, ?_, ?_, ?_, ?_, ?_, ?_, ?_, ?_, ?_, ?_, ?_, ?_, ?_, ?_, ?_, ?_, ?_, ?_, ?_, ?_, ?_, ?_, ?_, ?_, ?_⟩ <;> decide
theorem witness_LinkAndLease_pins :
    linkUp statePins.dev = false ∧ simplex statePins.dev = false ∧ rd statePins.dev Reg.DX_STATUS_LEASE = 1 ∧
    inService statePins.dev .A = true ∧ (triGet statePins.dev.dx.slices .A).steady = true ∧
    flag statePins.dev Reg.MCTL_PINS_PEER_STANDBY = true ∧ grantsNow stateRun.dev = false ∧
    flag stateRun.dev Reg.DX_STATUS_REQUESTING = false ∧
    modeOf (stateStandby 0).dev = mSTANDBY ∧ rd (stateStandby 0).dev Reg.DX_STATUS_TK_PHASE = 0 ∧
    flag (stateStandby 0).dev Reg.DX_STATUS_POS_CONFLICT = false ∧ rd (stateStandby 0).dev Reg.DX_CMP_CFG_MISMATCH_N = 0 ∧
    simplex (stateStandby 0).dev = false := by
  refine ⟨?_, ?_, ?_, ?_, ?_, ?_, ?_, ?_, ?_, ?_, ?_, ?_, ?_⟩ <;> decide

theorem witness_Takeover :
    Running (stateStandby 0) ∧ simplex (stateStandby 0).dev = false ∧ modeOf (stateStandby 0).dev = mSTANDBY ∧
    rd (stateStandby 0).dev Reg.DX_STATUS_TK_PHASE = 0 ∧ flag (stateStandby 0).dev Reg.DX_STATUS_POS_CONFLICT = false ∧
    linkUp (stateStandby 0).dev = true ∧ linkUp stateCut.dev = false ∧ flag stateCut.dev Reg.MCTL_PINS_PEER_STANDBY = true ∧
    simplex stateCut.dev = false ∧ modeOf stateCut.dev = mSTANDBY ∧
    rd (stateStandby 1).dev Reg.DX_STATUS_TK_PHASE = 1 ∧ rd (stateStandby 1).dev Reg.MCTL_PINS_POS = 1 ∧
    flag (stateStandby 1).dev Reg.MCTL_PINS_PEER_ALIVE = true ∧ rd (stateStandby 1).dev Reg.DX_CMP_CFG_MISMATCH_N = 0 ∧
    rd stateCut.dev Reg.MCTL_PINS_POS = 0 ∧ flag (stateStandby 1).dev Reg.MCTL_PINS_PEER_STANDBY = true ∧
    flag (stateStandby 1).dev Reg.DX_STATUS_CP_VALID = true ∧ flag (stateStandby 1).dev Reg.DX_STATUS_IMAGE_MATCH = true ∧
    rd (stateStandby 2).dev Reg.DX_STATUS_TK_PHASE = 2 ∧ (stateStandby 2).dev.dx.loaded = false ∧
    cpNamed (stateStandby 2).dev = some checkpointX ∧ 2 ≤ (votingPiers (stateStandby 2).dev).length ∧ modeOf (stateStandby 2).dev ≠ mSAFE := by
  unfold Running
  refine ⟨?_, ?_, ?_, ?_, ?_, ?_, ?_, ?_, ?_, ?_, ?_, ?_, ?_, ?_, ?_, ?_, ?_, ?_, ?_, ?_, ?_, ?_, ?_⟩ <;> decide

theorem witness_StandbyKeepsUp :
    Running (stateStandby 0) ∧ (stateStandby 0).dev.dx.taking = some checkpointX ∧
    (∀ x ∈ (stateStandby 0).dev.hi.cmds, x.phase = .waiting → x.desc.op ≠ 0x0F) ∧ stateRun.dev.dx.taking = none ∧
    modeOf (stateStandby 0).dev = mSTANDBY ∧ rd (stateStandby 0).dev Reg.DX_STATUS_TK_PHASE = 0 ∧
    (stateStandby 0).dev.store.log = [] ∧
    imageMatches checkpointX.imageId checkpointX.generation (stateStandby 0).dev = true ∧ rd (stateStandby 0).dev Reg.MCTL_MODE_ROLE = 2 ∧
    rd stateRun.dev Reg.MCTL_MODE_ROLE ≠ 2 ∧ executing stateRun.dev = true ∧ executing (stateStandby 0).dev = false ∧
    modeOf stateRun.dev ≠ mSTANDBY ∧ (stateStandby 0).dev.hm.powerFail = false ∧ modeOf stateMismatch.dev = mSTANDBY ∧
    rd stateMismatch.dev Reg.DX_STATUS_TK_PHASE = 0 ∧ flag stateMismatch.dev Reg.DX_STATUS_IMAGE_MATCH = false ∧
    imageMatches checkpointX.imageId checkpointX.generation stateMismatch.dev = false := by
  unfold Running
  refine ⟨?_, ?_, ?_, ?_, ?_, ?_, ?_, ?_, ?_, ?_, ?_, ?_, ?_, ?_, ?_, ?_, ?_, ?_⟩ <;> decide


theorem witness_GirderTransactions :
    Running (stateGirder [reqDeck] none) ∧ (stateGirder [reqDeck] none).dev.gb.open_ = none ∧
    pairHalted (stateGirder [reqDeck] none).dev 4 = false ∧ (stateGirder [reqDeck] none).dev.gb.urgent = [] ∧
    gbNext (stateGirder [] none).dev = none ∧ gbRefused (stateGirder [reqDeck] none).dev reqDeck = false ∧
    usesLine (stateGirder [reqDeck] none).dev reqDeck = false ∧ reqDeck.origin = .deck ∧
    flag (stateGirder [reqDeck] none).dev Reg.GB_STATUS_CLK_OK = true ∧
    flag (stateGirder [reqDeck] none).dev Reg.GB_STATUS_BP_RESET = false ∧ mget (stateGirder [reqDeck] none).dev.gb.lines 0 = none ∧
    gbRefused (stateGirder [{ reqDeck with be := 5 }] none).dev { reqDeck with be := 5 } = true ∧
    usesLine stateLine.dev { reqDeck with kind := 1 } = true ∧ lineWord stateLine.dev 0 8 = some 7 ∧
    gbRefused stateLine.dev { reqDeck with kind := 1 } = false ∧
    flag stateBpReset.dev Reg.GB_STATUS_BP_RESET = true ∧ flag stateBpReset.dev Reg.GB_STATUS_CLK_OK = true ∧
    gbRefused stateBpReset.dev reqDeck = false ∧ gbRefused stateNoClock.dev reqDeck = false ∧
    flag stateNoClock.dev Reg.GB_STATUS_CLK_OK = false := by
  unfold Running
  refine ⟨?_, ?_, ?_, ?_, ?_, ?_, ?_, ?_, ?_, ?_, ?_, ?_, ?_, ?_, ?_, ?_, ?_, ?_, ?_, ?_⟩ <;> decide
theorem witness_GirderTransactions_open (g : Bool) (fill : Option (List Nat)) (old : Option Nat) (k : Nat) :
    (stateGirder [] (some ⟨[{ reqDeck with kind := k }], g, false, old, false, false, fill⟩)).dev.gb.open_ =
      some ⟨[{ reqDeck with kind := k }], g, false, old, false, false, fill⟩ := rfl
theorem witness_GirderTransactions_freed :
    (∀ m ∈ [mSTOP, mRUN], flag (stateFreed m true).dev Reg.KS_STATUS_FROZEN = false ∧ (stateFreed m true).dev.ks.windows = [] ∧
      (stateFreed m true).dev.ks.slots = [] ∧ piersIdle (stateFreed m true).dev ∧
      (stateFreed m true).dev.ks.releasing = [.req { reqX with unit := 1 } 0 (some (9, 9)) (some (9, 9))] ∧
      leaseHeld (stateFreed m true).dev = true ∧ modeOf (stateFreed m true).dev = m ∧ gbRoom (stateFreed m true).dev = true) ∧
    leaseHeld (stateFreed mRUN false).dev = false ∧ nothingHeld stateRun.dev := by
  refine ⟨?_, by decide, ⟨⟨rfl, rfl, idle_of (by decide)⟩, rfl⟩⟩
  intro m h
  have e : m = mSTOP ∨ m = mRUN := by simpa using h
  rcases e with e | e <;> subst e <;>
    exact ⟨by decide, rfl, rfl, idle_of (by decide), rfl, by decide, by decide, by decide⟩
theorem witness_GirderTransactions_full :
    gbRoom (stateGirder (List.replicate 1024 reqDeck) none).dev = false := by
  show decide ((List.replicate 1024 reqDeck).length < 1024) = false
  rw [List.length_replicate]
  rfl

theorem witness_BackplaneLines :
    Running (stateGirder [reqDeck] none) ∧ flag (stateGirder [reqDeck] none).dev Reg.GB_STATUS_BP_RESET = false ∧
    (stateGirder [reqDeck] none).dev.gb.open_ = none ∧ (stateGirder [reqDeck] none).dev.gb.lines = [] ∧
    flag (stateWith [(Reg.GB_STATUS_BP_RESET, 1)]).dev Reg.GB_STATUS_BP_RESET = true ∧
    intakeOpen (stateWith [(Reg.GB_STATUS_BP_RESET, 1)]).dev Ev.GB_BP_RESET (sevOf Ev.GB_BP_RESET) ∧
    flag (stateGirder [reqDeck] none).dev Reg.GB_STATUS_CLK_OK = true ∧ (stateGirder [reqDeck] none).dev.gb.urgent = [] ∧
    (∀ r ∈ (stateGirder [reqDeck] none).dev.gb.queue, r.origin = .deck) ∧
    flag (stateGirder [] none).dev Reg.GB_CFG_SNOOP_EN = true ∧ winMaps (stateGirder [] none).dev 0 8 = true ∧
    gbObserved (stateGirder [] none).dev 0 8 = true ∧ (stateGirder [] none).dev.gb.snoop.length < 65536 ∧
    gbObserved (stateGirder [] none).dev 1 8 = false := by
  unfold Running
  refine ⟨?_, ?_, ?_, ?_, ?_, open_of ?_, ?_, ?_, ?_, ?_, ?_, ?_, ?_, ?_⟩ <;> decide
theorem witness_BackplaneLines_full (dead : Bool) :
    65536 ≤ (stateSnooped dead).dev.gb.snoop.length ∧ (stateSnooped dead).dev.gb.snoopDead = dead := by
  refine ⟨?_, rfl⟩
  show 65536 ≤ (List.replicate 65536 (0, 0)).length
  rw [List.length_replicate]
theorem witness_BackplaneLines_on :
    flag (stateSnooped false).dev Reg.GB_CFG_SNOOP_EN = true ∧ winMaps (stateSnooped false).dev 0 8 = true ∧
    gbObserved (stateSnooped false).dev 0 8 = true := by
  refine ⟨?_, ?_, ?_⟩ <;> rfl


theorem witness_CausewaySends :
    Running (stateCw cwEmpty) ∧ (stateCw cwEmpty).dev.cw.length = 2 ∧ cwActive (stateCw cwEmpty).dev 1 = true ∧
    (cwPort (stateCw cwEmpty).dev 1).deckOpen = none ∧ cwOpenCheck 1 false 4096 (stateCw cwEmpty).dev = none ∧
    (cwPort (stateCw { cwEmpty with deckOpen := some ⟨3, 2, [7]⟩ }).dev 1).deckOpen = some ⟨3, 2, [7]⟩ ∧
    cwOpenCheck 1 true (bitField 0x1C0 8 13) (stateCw cwEmpty).dev = none ∧ bitOf 0x1C0 7 = true ∧ bitOf 0x1C0 6 = true ∧
    (wordsOf [1, 2, 3, 4]).length = bitField 0x1C0 8 13 ∧ flag (stateCw cwEmpty).dev (Reg.CW_STATUS_HI 1) = false ∧
    cwBest (cwPort (stateCw { cwEmpty with txq := [⟨0, [1], 0⟩, ⟨2, [5], 0⟩] }).dev 1).txq = some ⟨2, [5], 0⟩ ∧
    cwOpenCheck 1 false 4097 (stateCw cwEmpty).dev = some 1 ∧ cwOpenCheck 1 true 4097 (stateCw cwEmpty).dev = some 1 ∧
    cwActive stateRun.dev 1 = false ∧ (cwPort (stateCw { cwEmpty with sending := some ⟨2, [5], 0⟩ }).dev 1).sending = some ⟨2, [5], 0⟩ := by
  unfold Running
  refine ⟨?_, ?_, ?_, ?_, ?_, ?_, ?_, ?_, ?_, ?_, ?_, ?_, ?_, ?_, ?_, ?_⟩ <;> decide
theorem witness_CausewaySends_parts :
    (cwPort (stateCw { cwEmpty with appRefused := true }).dev 1).appRefused = true ∧
    (cwPort (stateCw { cwEmpty with appOpen := some ⟨3, 2, [7]⟩ }).dev 1).appOpen = some ⟨3, 2, [7]⟩ ∧
    ([7] ++ wordsOf [1, 2, 3, 4]).length = 2 ∧ (cwPort (stateCw { cwEmpty with deckRefused := 4 }).dev 1).deckRefused ≠ 0 := by
  refine ⟨?_, ?_, ?_, ?_⟩ <;> decide

theorem witness_CausewayReceives :
    Running (stateCw cwEmpty) ∧ cwActive (stateCw cwEmpty).dev 1 = true ∧ (cwPort (stateCw cwEmpty).dev 1).rxIgnore = false ∧
    packetWords (cwPort (stateCw cwEmpty).dev 1).rxq + optWords (cwPort (stateCw cwEmpty).dev 1).rxCur + 16384 ≤ cwEntries ∧
    cwEntries < packetWords (cwPort (stateCw cwEmpty).dev 1).rxq + optWords (cwPort (stateCw cwEmpty).dev 1).rxCur + 16385 ∧
    rd (stateCw cwEmpty).dev (Reg.CW_WM_HIGH 1) ≤
      packetWords (cwPort (stateCw cwEmpty).dev 1).rxq + optWords (cwPort (stateCw cwEmpty).dev 1).rxCur + 12224 ∧
    flag (stateCw cwEmpty).dev (Reg.CW_STATUS_LINK 1) = false ∧ flag (stateCw cwEmpty).dev (Reg.CW_STATUS_LINK 0) = true ∧
    (cwPort (stateCw { cwEmpty with rxCur := some ⟨0, [4, 5], 0⟩ }).dev 1).rxCur = some ⟨0, [4, 5], 0⟩ ∧
    (cwPort (stateCw { cwEmpty with rxIgnore := true }).dev 1).rxIgnore = true ∧ cwActive stateRun.dev 1 = false ∧
    cwBest (cwPort (stateCw { cwEmpty with rxq := [⟨2, [5], 0⟩] }).dev 1).rxq = some ⟨2, [5], 0⟩ := by
  unfold Running
  refine ⟨?_, ?_, ?_, ?_, ?_, ?_, ?_, ?_, ?_, ?_, ?_, ?_⟩ <;> decide


theorem witness_CaissonStores :
    Running (stateStore 0 false) ∧ pairHalted (stateStore 0 false).dev 6 = false ∧ (stateStore 0 false).dev.cs.queue = [storeX] ∧
    storeX.cmd = none ∧ flag (stateStore 0 false).dev Reg.CS_STATUS_BUSY = false ∧ (stateStore 0 false).dev.hm.powerFail = false ∧
    flag (stateStore 0 false).dev Reg.CS_STATUS_FROZEN = false ∧ flag (stateStore 2 false).dev Reg.CS_STATUS_FROZEN = true ∧
    flag (stateStore 2 false).dev Reg.CS_STATUS_BUSY = false ∧ flag (stateStore 1 false).dev Reg.CS_STATUS_BUSY = true ∧
    (stateStore 1 false).dev.cs.again = false ∧ (stateStore 1 true).dev.cs.again = true ∧ stateRun.dev.cs.queue = [] := by
  unfold Running
  refine ⟨?_, ?_, ?_, ?_, ?_, ?_, ?_, ?_, ?_, ?_, ?_, ?_, ?_⟩ <;> decide

theorem witness_UpdateRelay :
    Running (stateRelay 1) ∧ relayRuns (stateRelay 1).dev = true ∧ manifestOk manifestX = true ∧
    manifestOk { manifestX with fixedOk := false } = false ∧ pkgFind (stateRelay 1).dev 77 = none ∧ pkgChoose (stateRelay 1).dev = some 1 ∧
    pkgFind (stateRelay 1).dev 9 = some 0 ∧ pkgOf (stateRelay 1).dev 0 = some (pkgRelay 1) ∧ heldAll (pkgRelay 1) = false ∧
    (pkgRelay 1).sender = some 3 ∧ 1 < (pkgRelay 1).man.chunks ∧ heldAll { pkgRelay 1 with held := bitSet (pkgRelay 1).held 1 } = true ∧
    flag (stateRelay 1).dev Reg.UP_CFG_AUTO_INSTALL = false ∧ (pkgRelay 1).state = 1 ∧ (hopOf (pkgRelay 1) 2).phase = 1 ∧
    (hopOf (pkgRelay 1) 2).done = false ∧ (hopOf (pkgRelay 1) 2).repeats < 5 ∧ (hopOf (pkgRelay 2) 2).phase = 2 ∧
    pkgOf (stateRelay 2).dev 0 = some (pkgRelay 2) ∧ (hopOf (pkgRelay 2) 2).next < (pkgRelay 2).man.chunks ∧
    bitOf (pkgRelay 2).held (hopOf (pkgRelay 2) 2).next = true ∧
    (hopOf (pkgRelay 2) 2).unans < rd (stateRelay 2).dev Reg.UP_CFG_WINDOW := by
  unfold Running
  refine ⟨?_, ?_, ?_, ?_, ?_, ?_, ?_, ?_, ?_, ?_, ?_, ?_, ?_, ?_, ?_, ?_, ?_, ?_, ?_, ?_, ?_, ?_⟩ <;> decide
theorem witness_UpdateRelay_2 :
    heldAll { pkgRelay 3 with held := bitSet (pkgRelay 3).held 0 } = false ∧ pkgOf (stateRelay 3).dev 0 = some (pkgRelay 3) ∧
    5 ≤ (hopOf (pkgRelay 3) 2).repeats ∧ (hopOf (pkgRelay 3) 2).phase = 1 ∧ (hopOf (pkgRelay 0) 2).waiting = true ∧
    pkgOf (stateRelay 0).dev 0 = some (pkgRelay 0) ∧ linkUp (stateRelay 0).dev = true ∧
    (stateRelay 0).dev.upd.installing = some (0, 0, none) ∧ (stateRelay 0).dev.upd.waiting = [] ∧ (stateRelay 0).dev.upd.deletes = [] ∧
    stateRun.dev.upd.installing = none := by
  refine ⟨?_, ?_, ?_, ?_, ?_, ?_, ?_, ?_, ?_, ?_, ?_⟩ <;> decide


theorem witness_ClocksAndCounts :
    Running stateRun ∧ nothingHeld stateRun.dev ∧ stateRun.dev.ks.reqs = [] ∧ bitOf (mgetD stateRun.dev.ckr.lost 9 0) 0 = false ∧
    bitOf (mgetD stateRun.dev.ckr.lost 3 0) 0 = false ∧ safeOpen stateRun.dev ∧ inService stateRun.dev .B = true ∧
    3 ≤ (servicePiers stateRun.dev).length ∧
    intakeOpen stateRun.dev Ev.CLOCK_TOLERANCE (sevOf Ev.CLOCK_TOLERANCE) ∧ bitClr (mgetD stateLost.dev.ckr.lost 10 0) 0 = 0 ∧
    bitOf (mgetD stateLost.dev.ckr.lost 10 0) 0 = true ∧ flag stateRun.dev Reg.CKR_SNAP_CTL_GO = false ∧
    flag (stateWith [(Reg.CKR_SNAP_CTL_GO, 1)]).dev Reg.CKR_SNAP_CTL_GO = true := by
  refine ⟨rfl, ⟨⟨rfl, rfl, idle_of rfl⟩, rfl⟩, rfl, by decide, by decide, ⟨by decide, by decide, rfl⟩, by decide, by decide,
    open_of (by decide), by decide, by decide, by decide, by decide⟩


theorem witness_PositionKeptAfterBoot :
    Running stateRun ∧ modeOf stateRun.dev ≠ mBOOT ∧ intakeOpen stateRun.dev Ev.DX_POS_CHANGED (sevOf Ev.DX_POS_CHANGED) := by
  refine ⟨rfl, by decide, open_of (by decide)⟩

theorem witness_ReservedAccessesAreCounted :
    Running stateHost ∧ hostServes stateHost.dev = true ∧ barReserved stateHost.dev 0 0x4000 = true ∧
    barReserved stateHost.dev 4 0x3FFFFC = false := by
  refine ⟨rfl, by decide, by decide, by decide⟩

theorem witness_ThirdTransientBreaksHalf :
    Running stateHour ∧ stateHour.dev.hm.powerFail = false ∧ 2 ≤ (hourStamps stateHour.dev (3 + 0)).length ∧
    2 ≤ (hourStamps stateHour.dev (3 + 1)).length ∧ flag stateHour.dev Reg.KS_STATUS_FROZEN = true ∧ nothingHeld stateHour.dev ∧
    safeOpen stateHour.dev := by
  refine ⟨rfl, by decide, by decide, by decide, by decide, ⟨⟨rfl, rfl, idle_of rfl⟩, rfl⟩, ⟨by decide, by decide, rfl⟩⟩

/-! ## Well-formedness -/

/-- A frame of the tests. -/
def ethX : EthFrame := ⟨9, 3, none, 100, true, none, none, .control⟩
/-- One ill-formed term for each check on the commands of this file is refused; the same commands with operands in range are accepted. -/
theorem test_wellFormed_power :
    ([
    .vinLow 65536, .holdupTimeout 65536, .hmRound false 65536 [] [], .tempAlarm 8, .railAlarm 14, .hmLiveCleared 28].all fun c => !wellFormed c) = true ∧
    ([
    .vinLow 0, .holdupTimeout 0, .hmRound false 0 [] [], .tempAlarm 0, .railAlarm 0, .hmLiveCleared 0].all fun c => wellFormed c) = true := by
  constructor <;> decide
/-- One ill-formed term for each check on the commands of this file is refused; the same commands with operands in range are accepted. -/
theorem test_wellFormed_access :
    ([
    .hmThresholdWrite 3 0 0, .hmThresholdWrite 0 14 0, .hmThresholdWrite 0 0 4294967296, .copyShareWrite 256,
    .registerWrite .deck 68719476736 0, .registerWrite .deck 0 4294967296, .readToClear .deck 68719476736, .reg64LoRead .deck 68719476736,
    .accessWidthViolation .deck 68719476736 0 false, .decodeError .deck 68719476736 0 false 0 0 0 0,
    .decodeError .deck 0 0 false 4096 0 0 0, .tuSettingWrite (.asym 6) 0, .tuSettingWrite (.launch 6) 0,
    .tuSettingWrite .slewLimit 4294967296].all fun c => !wellFormed c) = true ∧
    ([
    .hmThresholdWrite 0 0 0, .copyShareWrite 0, .registerWrite .deck 0 0, .readToClear .deck 0, .reg64LoRead .deck 0,
    .accessWidthViolation .deck 0 0 false, .decodeError .deck 0 0 false 0 0 0 0, .tuSettingWrite .slewLimit 0].all fun c => wellFormed c) = true := by
  constructor <;> decide
/-- One ill-formed term for each check on the commands of this file is refused; the same commands with operands in range are accepted. -/
theorem test_wellFormed_keystone :
    ([
    .startMark .A 16 0 0, .mailboxContribution .A 16 contribX false, .mailboxContribution .A 0 { contribX with xCls := 256 } false,
    .mailboxContribution .A 0 { contribX with errs := [(3, (true, 2 ^ 64))] } false,
    .mailboxContribution .A 0 { contribX with cycle := 2 ^ 64 } false, .mailboxContribution .A 0 { contribX with xCount := 65536 } false,
    .mailboxWaitExpiry 16 false, .mailboxDeadline 16 0, .outboundRequest .A { reqX with cls := 16 },
    .outboundRequest .A { reqX with unit := 0 }, .outboundRequest .A { reqX with unit := 8 },
    .outboundRequest .A { reqX with seq := 2 ^ 32 }, .outboundRequest .A { reqX with target := 2 ^ 64 },
    .outboundRequest .A { reqX with attr := 2 ^ 32 }, .cycleOutputPhase .A 16 0 [] false 0, .cycleOutputPhase .A 0 0 [⟨4096, []⟩] false 0,
    .cycleOutputPhase .A 0 0 [⟨1, [.store (2 ^ 36) [0]]⟩] false 0, .cycleOutputPhase .A 0 0 [⟨1, [.load 0 0]⟩] false 0,
    .cycleOutputPhase .A 0 0 [⟨1, [.trap 256 0]⟩] false 0, .cycleOutputPhase .A 0 0 [⟨1, [.req 8 0 0 []]⟩] false 0,
    .cycleOutputPhase .A 0 0 [⟨1, [.slice (2 ^ 20) 0]⟩] false 0, .signaturePosted .A 16 0 0 0 0 0 false false,
    .signaturePosted .A 0 0 4096 0 0 0 false false, .signaturePosted .A 0 0 0 18446744073709551616 0 0 false false,
    .skewTimerExpiry 16 0 0, .skewTimerExpiry 0 0 4096, .releaseToken false 16 0 0 0, .releaseToken false 0 0 4294967296 0,
    .releaseToken false 0 0 0 4294967296, .releaseTokenTimeout 16 0 0, .releaseTokenTimeout 0 0 4294967296,
    .syncFault .A 4096 0 0 0 0 false, .ksStageParity 2 .A false, .pairMismatch 7, .pairMismatch 0, .pairSelftestDone 7 false false,
    .pairSelftestDone 0 false false].all fun c => !wellFormed c) = true ∧
    ([
    .startMark .A 0 0 0, .mailboxContribution .A 0 contribX false, .mailboxWaitExpiry 0 false, .mailboxDeadline 0 0,
    .outboundRequest .A reqX, .cycleOutputPhase .A 0 0 [] false 0, .signaturePosted .A 0 0 0 0 0 0 false false, .skewTimerExpiry 0 0 0,
    .releaseToken false 0 0 0 0, .releaseTokenTimeout 0 0 0, .syncFault .A 0 0 0 0 0 false, .ksStageParity 0 .A false, .pairMismatch 1,
    .pairSelftestDone 1 false false].all fun c => wellFormed c) = true := by
  constructor <;> decide
/-- One ill-formed term for each check on the commands of this file is refused; the same commands with operands in range are accepted. -/
theorem test_wellFormed_cycle :
    ([
    .watchdogDeadline 16 0 none].all fun c => !wellFormed c) = true ∧
    ([
    .watchdogDeadline 0 0 none].all fun c => wellFormed c) = true := by
  constructor <;> decide
/-- One ill-formed term for each check on the commands of this file is refused; the same commands with operands in range are accepted. -/
theorem test_wellFormed_opcode :
    ([
    .changeSetLoad 0 (some { csX with segs := [⟨1, 16, 0, 0⟩] }), .changeSetLoad 0 (some { csX with segs := [⟨1, 2, 0, 3⟩] }),
    .changeSetLoad 0 (some { csX with vars := [(1, { varX with cls := 16 })] }), .changeStaged .A 3, .carryoverDone .A 16 ⟨0, []⟩,
    .loadImage 0 4 Image.none, .loadImage 0 0 { Image.none with segs := [⟨4096, 0, 0⟩] },
    .loadImage 0 0 { Image.none with classes := [(16, ⟨0, [], 0, [], 0⟩)] },
    .loadImage 0 0 { Image.none with stations := [(1024, stnX)] },
    .loadImage 0 0 { Image.none with classes := [(1, ⟨0, [], 0, [itemX 1 4], 0⟩)] },
    .loadImage 0 0 { Image.none with classes := [(1, ⟨0, [], 0, [itemX 7 8], 0⟩)] },
    .loadImage 0 0 { Image.none with vars := [(262144, varX)] }].all fun c => !wellFormed c) = true ∧
    ([
    .changeSetLoad 0 none, .changeStaged .A 0, .carryoverDone .A 0 ⟨0, []⟩, .loadImage 0 0 Image.none].all fun c => wellFormed c) = true := by
  constructor <;> decide
/-- One ill-formed term for each check on the commands of this file is refused; the same commands with operands in range are accepted. -/
theorem test_wellFormed_host :
    ([
    .sqTailDoorbell 8 false 0, .sqTailDoorbell 0 false 4294967296, .cqHeadDoorbell 8 false 0, .cqHeadDoorbell 0 false 4294967296,
    .sqCfgWrite 8 0, .sqCfgWrite 0 4294967296, .cqCfgWrite 8 0, .cqCfgWrite 0 4294967296,
    .descriptorFetch { descX with id := 2 ^ 64 } none none, .descriptorFetch { descX with op := 65536 } none none,
    .descriptorFetch { descX with flags := 65536 } none none, .descriptorFetch { descX with payLen := 2 ^ 32 } none none,
    .descriptorFetch { descX with payAddr := 2 ^ 64 } none none, .descriptorFetch { descX with resAddr := 2 ^ 64 } none none,
    .descriptorFetch { descX with resLen := 2 ^ 32 } none none, .descriptorFetch { descX with args := [] } none none,
    .descriptorFetch descX none (some { csX with segs := [⟨1, 16, 0, 0⟩] }),
    .descriptorFetch descX none (some { csX with segs := [⟨1, 2, 0, 3⟩] }),
    .descriptorFetch descX none (some { csX with vars := [(1, { varX with cls := 16 })] }), .dmaError false 8, .dmaCompletionTimeout 8,
    .msixImodExpiry 8, .msixUnmask 32, .reservedBarAccess 5 0 false, .reservedBarAccess 0 16777216 false,
    .evwCursorWrite false 4294967296, .evwRead 4096 0, .jwSelWrite false 4294967296].all fun c => !wellFormed c) = true ∧
    ([
    .sqTailDoorbell 0 false 0, .cqHeadDoorbell 0 false 0, .sqCfgWrite 0 0, .cqCfgWrite 0 0, .descriptorFetch descX none none,
    .dmaError false 0, .dmaCompletionTimeout 0, .msixImodExpiry 0, .msixUnmask 0, .reservedBarAccess 0 0 false, .evwCursorWrite false 0,
    .evwRead 0 0, .jwSelWrite false 0].all fun c => wellFormed c) = true := by
  constructor <;> decide
/-- One ill-formed term for each check on the commands of this file is refused; the same commands with operands in range are accepted. -/
theorem test_wellFormed_time :
    ([
    .syncReceived 6 0 0, .pathDelayMeasured 6 0, .announceReceived 6 0 .same, .announceReceived 0 0 (.slave 6 0),
    .announceReceived 0 0 (.slave 0 64), .announceReceived 0 0 (.self 64), .announceTimeout 0 (.slave 6 0),
    .announceTimeout 0 (.slave 0 64), .announceTimeout 0 (.self 64), .ptpIntervalTimer 6 0, .ptpIntervalTimer 0 4, .timeRealign 16777216,
    .frameLaunch 6 0 0, .frameLaunch 0 8 0, .txtsAppend 6 0 0, .txtsAppend 0 65536 0, .txtsAppend 0 0 18446744073709551616, .txtsIdRead 6,
    .delayReqReceived 6 0 0, .delayReqReceived 0 3 0].all fun c => !wellFormed c) = true ∧
    ([
    .syncReceived 0 0 0, .pathDelayMeasured 0 0, .announceReceived 0 0 .same, .announceTimeout 0 .same, .ptpIntervalTimer 0 0,
    .timeRealign 0, .frameLaunch 0 0 0, .txtsAppend 0 0 0, .txtsIdRead 0, .delayReqReceived 0 0 0].all fun c => wellFormed c) = true := by
  constructor <;> decide
/-- One ill-formed term for each check on the commands of this file is refused; the same commands with operands in range are accepted. -/
theorem test_wellFormed_slice :
    ([
    .speedEdge .A 4 false false, .standstillTimeout .A 4, .triggerArm .A 64 false 0 0 0 0, .triggerArm .A 0 false 4 0 0 0,
    .triggerArm .A 0 false 0 4 0 0, .triggerArm .A 0 false 0 0 8 0, .triggerArm .A 0 false 0 0 0 16, .triggerDisarm .A 64,
    .scaleWrite .A 4 0, .scaleWrite .A 0 4294967296, .refCfgWrite .A 4 false false 0 0 false 0 0,
    .refCfgWrite .A 0 false false 4 0 false 0 0, .refCfgWrite .A 0 false false 0 4 false 0 0,
    .refCfgWrite .A 0 false false 0 0 false 512 0, .refCfgWrite .A 0 false false 0 0 false 0 16384, .rebaseGo .A false 4,
    .posHitReport .A 64 0, .posHitReport .A 0 16, .fsStateDeferred 2, .fioLegWr .A 65536, .fioLegWrAtLaunch .A 16 0,
    .fioLegWrAtLaunch .A 0 65536, .extDrivenTimeout .A 16, .overloadSet 16, .overloadClear 16, .thermalShutdown 16, .thermalRearm 16].all fun c => !wellFormed c) = true ∧
    ([
    .speedEdge .A 0 false false, .standstillTimeout .A 0, .triggerArm .A 0 false 0 0 0 0, .triggerDisarm .A 0, .scaleWrite .A 0 0,
    .refCfgWrite .A 0 false false 0 0 false 0 0, .rebaseGo .A false 0, .posHitReport .A 0 0, .fsStateDeferred 0, .fioLegWr .A 0,
    .fioLegWrAtLaunch .A 0 0, .extDrivenTimeout .A 0, .overloadSet 0, .overloadClear 0, .thermalShutdown 0, .thermalRearm 0].all fun c => wellFormed c) = true := by
  constructor <;> decide
/-- One ill-formed term for each check on the commands of this file is refused; the same commands with operands in range are accepted. -/
theorem test_wellFormed_net :
    ([
    .switchFrameReceived 7 ethX, .switchFrameReceived 0 { ethX with dst := 2 ^ 48 }, .switchFrameReceived 0 { ethX with src := 2 ^ 48 },
    .switchFrameReceived 0 { ethX with tag := some (4096, 0) }, .switchFrameReceived 0 { ethX with tag := some (9, 8) },
    .gateControlEntry 7, .macAgeOut 281474976710656, .bpduReceived 6 0 0, .bpduReceived 0 4 0, .bpduReceived 0 0 4,
    .linkChange 6 false 0 0 .same, .linkChange 0 false 4 0 .same, .linkChange 0 false 0 0 (.slave 6 0),
    .linkChange 0 false 0 0 (.slave 0 64), .linkChange 0 false 0 0 (.self 64)].all fun c => !wellFormed c) = true ∧
    ([
    .switchFrameReceived 0 ethX, .gateControlEntry 0, .macAgeOut 0, .bpduReceived 0 0 0, .linkChange 0 false 0 0 .same].all fun c => wellFormed c) = true := by
  constructor <;> decide
/-- One ill-formed term for each check on the commands of this file is refused; the same commands with operands in range are accepted. -/
theorem test_wellFormed_legacy :
    ([
    .mvbFrame 2 false .bad, .mvbSinkTimeout 2, .canFrame 4 (.errors 0 0), .canLaunch 4 0 none, .canLateLimit 4 0, .canBusoffRecovery 4,
    .canopenHeartbeatTimeout 4 0, .canopenHeartbeatTimeout 0 128].all fun c => !wellFormed c) = true ∧
    ([
    .mvbFrame 0 false .bad, .mvbSinkTimeout 0, .canFrame 0 (.errors 0 0), .canLaunch 0 0 none, .canLateLimit 0 0, .canBusoffRecovery 0,
    .canopenHeartbeatTimeout 0 0].all fun c => wellFormed c) = true := by
  constructor <;> decide
/-- One ill-formed term for each check on the commands of this file is refused; the same commands with operands in range are accepted. -/
theorem test_wellFormed_duplex :
    ([
    .loenpaFrame (.loaded 0 { Image.none with segs := [⟨0, 0, 4⟩] }), .laneUp false 2 0 0 0 0 0 0,
    .imageSynced 0 0 { Image.none with segs := [⟨4096, 0, 0⟩] } 0,
    .imageSynced 0 0 { Image.none with classes := [(16, ⟨0, [], 0, [], 0⟩)] } 0,
    .imageSynced 0 0 { Image.none with stations := [(1024, stnX)] } 0,
    .imageSynced 0 0 { Image.none with classes := [(1, ⟨0, [], 0, [itemX 1 4], 0⟩)] } 0,
    .imageSynced 0 0 { Image.none with classes := [(1, ⟨0, [], 0, [itemX 7 8], 0⟩)] } 0,
    .imageSynced 0 0 { Image.none with vars := [(262144, varX)] } 0].all fun c => !wellFormed c) = true ∧
    ([
    .loenpaFrame .idle, .laneUp false 0 0 0 0 0 0 0, .imageSynced 0 0 Image.none 0].all fun c => wellFormed c) = true := by
  constructor <;> decide
/-- One ill-formed term for each check on the commands of this file is refused; the same commands with operands in range are accepted. -/
theorem test_wellFormed_backplane :
    ([
    .snoopWrite 8 0 0 0, .snoopWrite 0 134217728 0 0, .snoopWrite 0 0 16 0, .snoopWrite 0 0 0 4294967296, .deckWindowAccess 3 0 0 0 0 0,
    .deckWindowAccess 0 8 0 0 0 0, .deckWindowAccess 0 0 134217728 0 0 0, .deckWindowAccess 0 0 0 16 0 0,
    .deckWindowAccess 0 0 0 0 4294967296 0, .deckWindowAccess 0 0 0 0 0 4294967296].all fun c => !wellFormed c) = true ∧
    ([
    .snoopWrite 0 0 0 0, .deckWindowAccess 0 0 0 0 0 0].all fun c => wellFormed c) = true := by
  constructor <;> decide
/-- One ill-formed term for each check on the commands of this file is refused; the same commands with operands in range are accepted. -/
theorem test_wellFormed_stream :
    ([
    .cwTxOpen 2 0 0, .cwTxOpen 0 8 0, .cwTxOpen 0 0 8192, .cwTxData 2 0, .cwTxData 0 4294967296, .cwTxPush 2 0 [],
    .cwTxPush 0 4294967296 [], .cwPacketTxStart 2 false, .cwPacketTxDone 2, .cwPacketReceived 2 0 [] false false,
    .cwPacketReceived 0 4294967296 [] false false, .cwLinkUp 2, .cwLinkLoss 2, .cwHoldInChange 2 false, .cwRxDataRead 2 false,
    .cwWmWrite 2 0 0, .cwWmWrite 0 16384 0, .cwWmWrite 0 0 16384, .cwRxFillHigh 2 0].all fun c => !wellFormed c) = true ∧
    ([
    .cwTxOpen 0 0 0, .cwTxData 0 0, .cwTxPush 0 0 [], .cwPacketTxStart 0 false, .cwPacketTxDone 0, .cwPacketReceived 0 0 [] false false,
    .cwLinkUp 0, .cwLinkLoss 0, .cwHoldInChange 0 false, .cwRxDataRead 0 false, .cwWmWrite 0 0 0, .cwRxFillHigh 0 0].all fun c => wellFormed c) = true := by
  constructor <;> decide
/-- One ill-formed term for each check on the commands of this file is refused; the same commands with operands in range are accepted. -/
theorem test_wellFormed_event :
    ([
    .eventIntake 65536 0 [], .eventIntake 0 4 [], .recordStore 3, .tokenRefill 65536, .summaryTimeout 65536, .evSelWrite false 4294967296].all fun c => !wellFormed c) = true ∧
    ([
    .eventIntake 0 0 [], .recordStore 0, .tokenRefill 0, .summaryTimeout 0, .evSelWrite false 0].all fun c => wellFormed c) = true := by
  constructor <;> decide
/-- One ill-formed term for each check on the commands of this file is refused; the same commands with operands in range are accepted. -/
theorem test_wellFormed_store :
    ([
    .offerReceived 256 0 manifestX, .offerReceived 0 4 manifestX, .chunkReceived 256 0 0 none, .relayReply 4 0 0 0, .relayReply 0 3 0 0,
    .relayReply 0 0 6 0, .relayRequestTimeout 4 0, .relayRequestTimeout 0 3, .relayWaitExpiry 4 0, .relayWaitExpiry 0 3,
    .relayRateInterval 4 0, .relayRateInterval 0 3].all fun c => !wellFormed c) = true ∧
    ([
    .offerReceived 0 0 manifestX, .chunkReceived 0 0 0 none, .relayReply 0 0 0 0, .relayRequestTimeout 0 0, .relayWaitExpiry 0 0,
    .relayRateInterval 0 0].all fun c => wellFormed c) = true := by
  constructor <;> decide
/-- One ill-formed term for each check on the commands of this file is refused; the same commands with operands in range are accepted. -/
theorem test_wellFormed_clock :
    ([
    .clockLoss 16 0 0 0 .same, .clockLoss 0 0 0 0 (.slave 6 0), .clockLoss 0 0 0 0 (.slave 0 64), .clockLoss 0 0 0 0 (.self 64),
    .clockTolerance 16 0 0 0, .clockReturn 16 0 0 [], .snapshotGo 65536].all fun c => !wellFormed c) = true ∧
    ([
    .clockLoss 0 0 0 0 .same, .clockTolerance 0 0 0 0, .clockReturn 0 0 0 [], .snapshotGo 0].all fun c => wellFormed c) = true := by
  constructor <;> decide

/-! ## Single steps and table words -/

/-- The table gives no row bits, so no word spells a command, and placing one leaves the state as it is. -/
theorem test_tableWord : decodeTableWord 32 0x12345678 = none ∧ (State.reset.withFetchWord 32 0x12345678) = State.reset := ⟨rfl, rfl⟩
/-- The device a command leaves, the device at reset where it stops. -/
def after (i : Instr) (s : State) : Dev :=
  match exec i s with
  | .next t => t.dev
  | _ => Dev.rest
/-- R263: a SCALE of 0 is refused, keeps the old value and sets WREJ. -/
theorem test_scaleZero :
    rd (after (.scaleWrite .A 2 0) stateSpeed) (Reg.PT_REF_SCALE 0 2) = rd stateSpeed.dev (Reg.PT_REF_SCALE 0 2) ∧
    flag (after (.scaleWrite .A 2 0) stateSpeed) (Reg.PT_REF_STAT_WREJ 0 2) = true := by
  refine ⟨?_, ?_⟩ <;> decide
/-- R262: FILT is 0 to 500; 501 is refused and 500 taken. -/
theorem test_filtRange :
    rd (after (.refCfgWrite .B 1 true false 0 0 false 501 5) stateRun) (Reg.PT_REF_CFG_FILT 1 1) ≠ 501 ∧
    rd (after (.refCfgWrite .B 1 true false 0 0 false 500 5) stateRun) (Reg.PT_REF_CFG_FILT 1 1) = 500 := by
  refine ⟨?_, ?_⟩ <;> decide
/-- R164: COPY_SHARE is 5 to 40; 4 and 41 are refused with SHARE_REJ. -/
theorem test_copyShareRange :
    rd (after (.copyShareWrite 40) stateRun) Reg.KS_RESYNC_CFG_COPY_SHARE = 40 ∧
    flag (after (.copyShareWrite 41) stateRun) Reg.KS_RESYNC_STATUS_SHARE_REJ = true ∧
    flag (after (.copyShareWrite 4) stateRun) Reg.KS_RESYNC_STATUS_SHARE_REJ = true := by
  refine ⟨?_, ?_, ?_⟩ <;> decide
/-- The step takes the front command and leaves the rest of the queue. -/
theorem test_stepFront :
    (match step { stateSpeed with pending := [.scaleWrite .A 2 7, .railsOff] } with
      | .next t => (t.pending, rd t.dev (Reg.PT_REF_SCALE 0 2))
      | _ => ([], 0)) = ([.railsOff], 7) := by decide
/-- R336: a doorbell value at the ring size (16 here) is refused, counted in DB_ERR, and leaves the tail; 15 is taken. -/
theorem test_doorbellRange :
    rd (after (.sqTailDoorbell 0 false 15) stateHost) (Reg.HI_SQ_STATE_TAIL 0) = 15 ∧
    rd (after (.sqTailDoorbell 0 false 16) stateHost) (Reg.HI_SQ_STATE_TAIL 0) = 1 ∧
    flag (after (.sqTailDoorbell 0 false 16) stateHost) Reg.HI_ERR_DB_RANGE = true := by
  refine ⟨?_, ?_, ?_⟩ <;> decide
/-- R119: a payload has at most 1,536 bytes, so one of 1,537 is refused. -/
theorem test_payloadLimit (q : OutReq) (p : Pier) (h : q.payload.length = 1537) : wellFormed (.outboundRequest p q) = false := by
  simp [wellFormed, reqOk, h]
/-- R487: a chunk has at most 32,768 bytes, so one of 32,769 is refused. -/
theorem test_chunkLimit (dest identity index : Nat) (b : List Byte) (h : b.length = 32769) :
    wellFormed (.chunkReceived dest identity index (some b)) = false := by
  simp [wellFormed, chunkOk, h]

end Sys2Proof.Machine
end

section
/-!
SUPPORT. What each operation of the model leaves of Deck memory and of the two snapshot buffers (R10, R40): all of it, for every operation
but the commit of a released cycle, the BAR4 snapshot and a module reset. One lemma an operation, in the order of the definitions; each
cites those before it. Where a lemma holds by definition its proof is `(rfl)` in parentheses, so that `simp` takes it as an ordinary
rewrite rule, also where it shows the hypothesis of `forEach_memories`.
-/
namespace Sys2Proof.Machine

/-! ## The memories of a device -/

/-- Deck memory and the two snapshot buffers. -/
def memories (d : Dev) : Memory × Memory × Memory := (d.mem, d.snap)
/-- The memories of a device given field by field: those of any update that names neither of them. -/
@[simp] theorem memories_mk {regs captured clk free once out msix ev cw fio pt io staged img tu bp gb sw te lb cyc mem snap hi ks prs mode
    chg dx store cs upd hm ckr} :
    memories ⟨regs, captured, clk, free, once, out, msix, ev, cw, fio, pt, io, staged, img, tu, bp, gb, sw, te, lb, cyc, mem, snap, hi, ks,
      prs, mode, chg, dx, store, cs, upd, hm, ckr⟩ =
      (mem, snap) := rfl
@[simp] theorem memories_fields (d : Dev) : (d.mem, d.snap) = memories d := rfl
theorem mem_of_memories {d t : Dev} (h : memories t = memories d) : t.mem = d.mem := congrArg Prod.fst h
theorem snap_of_memories {d t : Dev} (h : memories t = memories d) : t.snap = d.snap := congrArg Prod.snd h
theorem memSame_of_memories {d t : Dev} (h : memories t = memories d) : memSame d t := fun a => by rw [mem_of_memories h]
@[simp] theorem memories_ite (c : Prop) [Decidable c] (a b : Dev) :
    memories (if c then a else b) = if c then memories a else memories b := apply_ite memories c a b
theorem foldl_memories {α : Type} (l : List α) (f : Dev → α → Dev) (d : Dev) (h : ∀ d x, memories (f d x) = memories d) :
    memories (l.foldl f d) = memories d := by
  induction l generalizing d with
  | nil => rfl
  | cons x r ih => exact (ih (f d x)).trans (h d x)
@[simp] theorem forEach_memories {α : Type} (l : List α) (f : α → Dev → Dev) (d : Dev) (h : ∀ x d, memories (f x d) = memories d) :
    memories (forEach l f d) = memories d := foldl_memories l _ d fun d x => h x d
@[simp] theorem doIf_memories (c f d) : memories (doIf c f d) = if c then memories (f d) else memories d := apply_ite memories _ _ _

/-! ### Machine/Ops -/

@[simp] theorem wr_memories (d f v) : memories (wr d f v) = memories d := (rfl)
@[simp] theorem wrB_memories (d f b) : memories (wrB d f b) = memories d := (rfl)
@[simp] theorem incBy_memories (d f k) : memories (incBy d f k) = memories d := (rfl)
@[simp] theorem inc_memories (d f) : memories (inc d f) = memories d := (rfl)
@[simp] theorem incW_memories (d f) : memories (incW d f) = memories d := (rfl)
@[simp] theorem maxTo_memories (d f v) : memories (maxTo d f v) = memories d := (rfl)
@[simp] theorem wrSat_memories (d f v) : memories (wrSat d f v) = memories d := (rfl)
@[simp] theorem setBitF_memories (d f i) : memories (setBitF d f i) = memories d := (rfl)
@[simp] theorem clrBitF_memories (d f i) : memories (clrBitF d f i) = memories d := (rfl)
@[simp] theorem putBitF_memories (d f i b) : memories (putBitF d f i b) = memories d := (rfl)
@[simp] theorem clkAdvance_memories (ns d) : memories (clkAdvance ns d) = memories d := by simp [clkAdvance]
@[simp] theorem noteOnce_memories (d key) : memories (noteOnce d key) = memories d := (rfl)
@[simp] theorem bpSet_memories (f d) : memories (bpSet f d) = memories d := by simp [bpSet]
@[simp] theorem emit_memories (o d) : memories (emit o d) = memories d := (rfl)
@[simp] theorem msixMessage_memories (v d) : memories (msixMessage v d) = memories d := (rfl)
@[simp] theorem msix_memories (v d) : memories (msix v d) = memories d := by simp [msix]
@[simp] theorem intakePush_memories (e d) : memories (intakePush e d) = memories d := (rfl)
@[simp] theorem intakeDrop_memories (e d) : memories (intakeDrop e d) = memories d := by simp [intakeDrop]
@[simp] theorem intakeAdd_memories (e d) : memories (intakeAdd e d) = memories d := by simp [intakeAdd]
@[simp] theorem intakeOverflow_memories (d) : memories (intakeOverflow d) = memories d := by simp [intakeOverflow]
@[simp] theorem suppress_memories (e d) : memories (suppress e d) = memories d := by simp [suppress]
@[simp] theorem intake_memories (e d) : memories (intake e d) = memories d := by
  simp only [intake]
  split <;> simp
@[simp] theorem summarize_memories (code d) : memories (summarize code d) = memories d := by
  unfold summarize
  split <;> simp
@[simp] theorem summarizeAll_memories (d) : memories (summarizeAll d) = memories d := by simp [summarizeAll]
@[simp] theorem recordSev_memories (sev code pier items d) : memories (recordSev sev code pier items d) = memories d := by simp [recordSev]
@[simp] theorem record_memories (code items d) : memories (record code items d) = memories d := by simp [record]
@[simp] theorem recordP_memories (code p items d) : memories (recordP code p items d) = memories d := by simp [recordP]
@[simp] theorem recordOnce_memories (code idx items d) : memories (recordOnce code idx items d) = memories d := by simp [recordOnce]
@[simp] theorem recordOnceP_memories (code idx p items d) : memories (recordOnceP code idx p items d) = memories d := by simp [recordOnceP]
@[simp] theorem recordFrom_memories (src code items d) : memories (recordFrom src code items d) = memories d := by simp [recordFrom]

/-! ### Machine/CausewayOps -/

@[simp] theorem cwSet_memories (n f d) : memories (cwSet n f d) = memories d := (rfl)
@[simp] theorem cwSetHo_memories (n b d) : memories (cwSetHo n b d) = memories d := by simp [cwSetHo]
@[simp] theorem cwHold_memories (n d) : memories (cwHold n d) = memories d := by simp [cwHold]
@[simp] theorem cwClear_memories (n d) : memories (cwClear n d) = memories d := by
  unfold cwClear
  split <;> simp
@[simp] theorem cwClearAll_memories (d) : memories (cwClearAll d) = memories d := by simp [cwClearAll]
@[simp] theorem cwLost_memories (n d) : memories (cwLost n d) = memories d := (rfl)
@[simp] theorem cwForm_memories (n d) : memories (cwForm n d) = memories d := (rfl)
@[simp] theorem cwRefuse_memories (n path reason len d) : memories (cwRefuse n path reason len d) = memories d := by simp [cwRefuse]
@[simp] theorem cwDropOpen_memories (n app d) : memories (cwDropOpen n app d) = memories d := by simp [cwDropOpen]
@[simp] theorem cwTxComplete_memories (n prio words d) : memories (cwTxComplete n prio words d) = memories d := (rfl)
@[simp] theorem cwDiscard_memories (n reason d) : memories (cwDiscard n reason d) = memories d := by simp [cwDiscard]
@[simp] theorem cwFlush_memories (n d) : memories (cwFlush n d) = memories d := by simp [cwFlush]
@[simp] theorem cwFreeze_memories (n cls d) : memories (cwFreeze n cls d).2 = memories d := by
  unfold cwFreeze
  split_ifs <;> simp
@[simp] theorem cwStop_memories (n d) : memories (cwStop n d) = memories d := by simp [cwStop]

/-! ### Machine/Causeway -/

@[simp] theorem cwTxOpen_memories (n prio len d) : memories (cwTxOpen n prio len d) = memories d := by
  simp only [cwTxOpen]
  repeat' split
  all_goals simp
@[simp] theorem cwTxData_memories (n w d) : memories (cwTxData n w d) = memories d := by
  unfold cwTxData
  repeat' split
  all_goals simp
@[simp] theorem cwPushPart_memories (n o last payload d) : memories (cwPushPart n o last payload d) = memories d := by simp [cwPushPart]
@[simp] theorem cwTxPush_memories (n attr payload d) : memories (cwTxPush n attr payload d) = memories d := by
  simp only [cwTxPush]
  repeat' split
  all_goals simp
@[simp] theorem cwTxStart_memories (n parityBad d) : memories (cwTxStart n parityBad d) = memories d := by
  unfold cwTxStart
  repeat' split
  all_goals simp
@[simp] theorem cwTxDone_memories (n d) : memories (cwTxDone n d) = memories d := by
  unfold cwTxDone
  split <;> simp
@[simp] theorem cwReceived_memories (n header words codeError crcGood d) : memories (cwReceived n header words codeError crcGood d) = memories d := by
  simp [cwReceived]
@[simp] theorem cwLinkUp_memories (n d) : memories (cwLinkUp n d) = memories d := by simp [cwLinkUp]
@[simp] theorem cwLinkLoss_memories (n d) : memories (cwLinkLoss n d) = memories d := by simp [cwLinkLoss]
@[simp] theorem cwHoldIn_memories (n level d) : memories (cwHoldIn n level d) = memories d := by simp [cwHoldIn]
@[simp] theorem cwRxDataRead_memories (n parityBad d) : memories (cwRxDataRead n parityBad d) = memories d := by
  simp only [cwRxDataRead]
  split <;> simp
@[simp] theorem cwWmWrite_memories (n high low d) : memories (cwWmWrite n high low d) = memories d := by simp [cwWmWrite]
@[simp] theorem cwRxFillHigh_memories (n wordsSoFar d) : memories (cwRxFillHigh n wordsSoFar d) = memories d := by simp [cwRxFillHigh]

/-! ### Machine/TimeOps -/

@[simp] theorem nextFree_memories (d) : memories (nextFree d) = memories d := (rfl)
@[simp] theorem tuSet_memories (f d) : memories (tuSet f d) = memories d := (rfl)
@[simp] theorem macsRealign_memories (d) : memories (macsRealign d) = memories d := (rfl)
@[simp] theorem timeStart_memories (st s d) : memories (timeStart st s d) = memories d := by simp [timeStart]
@[simp] theorem timeDiscontinuity_memories (d) : memories (timeDiscontinuity d) = memories d := by simp [timeDiscontinuity]
@[simp] theorem holdoverLeft_memories (d) : memories (holdoverLeft d) = memories d := by simp [holdoverLeft]
@[simp] theorem holdoverEnter_memories (d) : memories (holdoverEnter d) = memories d := by simp [holdoverEnter]
@[simp] theorem gmShow_memories (gm port d) : memories (gmShow gm port d) = memories d := by simp [gmShow]
@[simp] theorem gmChange_memories (gm port d) : memories (gmChange gm port d) = memories d := by simp [gmChange]
@[simp] theorem gmEnd_memories (d) : memories (gmEnd d) = memories d := by simp [gmEnd]
@[simp] theorem ptpPortStates_memories (slave passive d) : memories (ptpPortStates slave passive d) = memories d := by simp [ptpPortStates]
@[simp] theorem becomeGm_memories (passive d) : memories (becomeGm passive d) = memories d := by simp [becomeGm]
@[simp] theorem servoUpdate_memories (theta d) : memories (servoUpdate theta d) = memories d := by simp [servoUpdate]
@[simp] theorem showTheta_memories (theta d) : memories (showTheta theta d) = memories d := (rfl)
@[simp] theorem servoSample_memories (theta d) : memories (servoSample theta d) = memories d := by
  simp only [servoSample]
  repeat' split
  all_goals simp
@[simp] theorem initialSet_memories (port d) : memories (initialSet port d) = memories d := by simp [initialSet]
@[simp] theorem acquireReview_memories (d) : memories (acquireReview d) = memories d := by simp [acquireReview]
@[simp] theorem holdShow_memories (d) : memories (holdShow d) = memories d := by simp [holdShow]
@[simp] theorem pathDelay_memories (port ns d) : memories (pathDelay port ns d) = memories d := by
  simp only [pathDelay]
  repeat' split
  all_goals simp
@[simp] theorem txtsPut_memories (p q d) : memories (txtsPut p q d) = memories d := (rfl)
@[simp] theorem txtsAppend_memories (p id ts d) : memories (txtsAppend p id ts d) = memories d := by simp [txtsAppend]
@[simp] theorem launchAdd_memories (p f d) : memories (launchAdd p f d) = memories d := (rfl)
@[simp] theorem launchTake_memories (p f d) : memories (launchTake p f d) = memories d := (rfl)
@[simp] theorem launchDrop_memories (p f by_ d) : memories (launchDrop p f by_ d) = memories d := by simp [launchDrop]
@[simp] theorem epochPut_memories (e num d) : memories (epochPut e num d) = memories d := (rfl)
@[simp] theorem epochApply_memories (dE tick d) : memories (epochApply dE tick d) = memories d := by
  simp only [epochApply]
  split <;> simp

/-! ### Machine/NetOps -/

@[simp] theorem swSet_memories (f d) : memories (swSet f d) = memories d := (rfl)
@[simp] theorem teSet_memories (f d) : memories (teSet f d) = memories d := (rfl)
@[simp] theorem swLevel_memories (d) : memories (swLevel d) = memories d := (rfl)
@[simp] theorem swDrain_memories (p d) : memories (swDrain p d) = memories d := by simp [swDrain]
@[simp] theorem swEgress_memories (p f d) : memories (swEgress p f d) = memories d := by simp [swEgress]
@[simp] theorem launchNext_memories (p q d) : memories (launchNext p q d) = memories d := by simp [launchNext]
@[simp] theorem launchSend_memories (p late f d) : memories (launchSend p late f d) = memories d := (rfl)
@[simp] theorem launchHead_memories (p q now d) : memories (launchHead p q now d) = memories d := by
  unfold launchHead
  split <;> simp
@[simp] theorem frerAccept_memories (n seq d) : memories (frerAccept n seq d).2 = memories d := by
  unfold frerAccept
  dsimp only
  split_ifs <;> simp
@[simp] theorem malformed_memories (kind f d) : memories (malformed kind f d) = memories d := by
  simp only [malformed]
  split <;> simp
@[simp] theorem stationCopy_memories (n time data d) : memories (stationCopy n time data d) = memories d := (rfl)
@[simp] theorem pdAccept_memories (n e f d) : memories (pdAccept n e f d) = memories d := by simp [pdAccept]
@[simp] theorem obsNote_memories (f d) : memories (obsNote f d) = memories d := by
  unfold obsNote
  split <;> simp
@[simp] theorem pdReceive_memories (f arrived d) : memories (pdReceive f arrived d) = memories d := by
  simp only [pdReceive]
  repeat' split
  all_goals simp
@[simp] theorem mdArrive_memories (f d) : memories (mdArrive f d) = memories d := by simp [mdArrive]
@[simp] theorem pdArrive_memories (f d) : memories (pdArrive f d) = memories d := by simp [pdArrive]
@[simp] theorem fragTake_memories (f key off last d) : memories (fragTake f key off last d).2 = memories d := by
  unfold fragTake
  dsimp only
  split_ifs <;> simp
@[simp] theorem pubSkip_memories (n reason d) : memories (pubSkip n reason d) = memories d := by simp [pubSkip]
@[simp] theorem pubStat_memories (n st stale d) : memories (pubStat n st stale d) = memories d := (rfl)
@[simp] theorem pubSend_memories (n p reply d) : memories (pubSend n p reply d).2 = memories d := by
  unfold pubSend
  dsimp only
  repeat' split
  all_goals simp
@[simp] theorem pubRelease_memories (n cycle payload d) : memories (pubRelease n cycle payload d) = memories d := by
  unfold pubRelease
  split <;> simp
@[simp] theorem pubDue_memories (n tick d) : memories (pubDue n tick d) = memories d := by simp [pubDue]
@[simp] theorem pubsDue_memories (tick d) : memories (pubsDue tick d) = memories d := by simp [pubsDue]
@[simp] theorem pubPorts_memories (p d) : memories (pubPorts p d).2 = memories d := by
  unfold pubPorts
  dsimp only
  split <;> simp
@[simp] theorem pubsLaunch_memories (cls launch d) : memories (pubsLaunch cls launch d) = memories d := by
  refine forEach_memories _ _ _ fun e d => ?_
  split
  · dsimp only
    split <;> simp
  · rfl
@[simp] theorem inhibitReview_memories (d) : memories (inhibitReview d) = memories d := by simp [inhibitReview]
@[simp] theorem teLoad_memories (d) : memories (teLoad d) = memories d := (rfl)
@[simp] theorem gatesRestart_memories (tick d) : memories (gatesRestart tick d) = memories d := by simp [gatesRestart]

/-! ### Machine/HostOps -/

@[simp] theorem hiSet_memories (f d) : memories (hiSet f d) = memories d := (rfl)
@[simp] theorem cqMessage_memories (q d) : memories (cqMessage q d) = memories d := by simp [cqMessage]
@[simp] theorem cqWrite_memories (q c d) : memories (cqWrite q c d) = memories d := by simp [cqWrite]
@[simp] theorem cqFlushList_memories (l kept d) : memories (cqFlushList l kept d) = memories d := by
  induction l generalizing kept d with
  | nil => simp [cqFlushList]
  | cons e r ih => simp [cqFlushList, ih]
@[simp] theorem resultWrite_memories (addr out d) : memories (resultWrite addr out d) = memories d := by simp [resultWrite]
@[simp] theorem cqFlush_memories (d) : memories (cqFlush d) = memories d := by simp [cqFlush]
@[simp] theorem cqPut_memories (c d) : memories (cqPut c d) = memories d := by simp [cqPut]
@[simp] theorem rejectsFlush_memories (d) : memories (rejectsFlush d) = memories d := by simp [rejectsFlush]
@[simp] theorem notice_memories (status d) : memories (notice status d) = memories d := by simp [notice]
@[simp] theorem jReview_memories (d) : memories (jReview d) = memories d := by simp [jReview]
@[simp] theorem jPut_memories (s e d) : memories (jPut s e d) = memories d := by simp [jPut]
@[simp] theorem jAppend_memories (e d) : memories (jAppend e d) = memories d := by simp [jAppend]
@[simp] theorem cmdSet_memories (s f d) : memories (cmdSet s f d) = memories d := (rfl)
@[simp] theorem openReview_memories (d) : memories (openReview d) = memories d := (rfl)
@[simp] theorem acceptTimed_memories (ring id d) : memories (acceptTimed ring id d) = memories d := by
  unfold acceptTimed
  split <;> simp
@[simp] theorem cmdAccept_memories (s localOnly d) : memories (cmdAccept s localOnly d) = memories d := by
  unfold cmdAccept
  split <;> simp
@[simp] theorem resultStore_memories (s r d) : memories (resultStore s r d) = memories d := by simp [resultStore]
@[simp] theorem cmdDone_memories (c status result d) : memories (cmdDone c status result d) = memories d := by simp [cmdDone]
@[simp] theorem cmdLeave_memories (s d) : memories (cmdLeave s d) = memories d := (rfl)
@[simp] theorem cmdFinal_memories (s status result d) : memories (cmdFinal s status result d) = memories d := by
  unfold cmdFinal
  split <;> simp
@[simp] theorem cmdHold_memories (s status result ph d) : memories (cmdHold s status result ph d) = memories d := (rfl)
@[simp] theorem cmdStart_memories (s d) : memories (cmdStart s d) = memories d := by
  unfold cmdStart
  split <;> simp
@[simp] theorem hostToFrame_memories (c n d) : memories (hostToFrame c n d).2 = memories d := (rfl)
@[simp] theorem hostReleased_memories (c n d) : memories (hostReleased c n d) = memories d := by simp [hostReleased]
@[simp] theorem replay_memories (ring partnerOnly d) : memories (replay ring partnerOnly d) = memories d := by simp [replay]
@[simp] theorem acceptPut_memories (v d) : memories (acceptPut v d) = memories d := by simp [acceptPut]
@[simp] theorem hiRoleReview_memories (d) : memories (hiRoleReview d) = memories d := by simp [hiRoleReview]

/-! ### Machine/LegacyOps -/

@[simp] theorem lbSet_memories (n f d) : memories (lbSet n f d) = memories d := (rfl)
@[simp] theorem lbOverflow_memories (n d) : memories (lbOverflow n d) = memories d := by simp [lbOverflow]
@[simp] theorem lbReceive_memories (n obj payload d) : memories (lbReceive n obj payload d) = memories d := by simp [lbReceive]
@[simp] theorem canSent_memories (n s d) : memories (canSent n s d) = memories d := (rfl)
@[simp] theorem canFlush_memories (n d) : memories (canFlush n d) = memories d := by simp [canFlush]
@[simp] theorem lbUnit_memories (n d) : memories (lbUnit n d) = memories d := by
  simp only [lbUnit]
  repeat' split
  all_goals simp
@[simp] theorem lbRelease_memories (n obj payload d) : memories (lbRelease n obj payload d) = memories d := by
  simp only [lbRelease]
  repeat' split
  all_goals simp
@[simp] theorem lbLaunch_memories (cls launch d) : memories (lbLaunch cls launch d) = memories d := by simp [lbLaunch]
@[simp] theorem mvbReviewLine_memories (m line d) : memories (mvbReviewLine m line d) = memories d := by simp [mvbReviewLine]
@[simp] theorem mvbReview_memories (m d) : memories (mvbReview m d) = memories d := by simp [mvbReview]
@[simp] theorem mvbSwitch_memories (m line d) : memories (mvbSwitch m line d) = memories d := (rfl)
@[simp] theorem mvbBad_memories (m line d) : memories (mvbBad m line d) = memories d := by simp [mvbBad]
@[simp] theorem mvbGood_memories (m line d) : memories (mvbGood m line d) = memories d := by simp [mvbGood]
@[simp] theorem mvbPeriods_memories (tick d) : memories (mvbPeriods tick d) = memories d := by simp [mvbPeriods]
@[simp] theorem canHeartbeats_memories (d) : memories (canHeartbeats d) = memories d := by simp [canHeartbeats]
@[simp] theorem canSyncs_memories (due d) : memories (canSyncs due d) = memories d := by
  unfold canSyncs
  split
  · refine forEach_memories _ _ _ fun n d => ?_
    split <;> simp
  · rfl
@[simp] theorem lbLease_memories (d) : memories (lbLease d) = memories d := by simp [lbLease]
@[simp] theorem lbStart_memories (d) : memories (lbStart d) = memories d := by simp [lbStart]

/-! ### Machine/TimeUnit -/

@[simp] theorem syncReceived_memories (port origin rxS d) : memories (syncReceived port origin rxS d) = memories d := by simp [syncReceived]
@[simp] theorem pathDelayMeasured_memories (port ns d) : memories (pathDelayMeasured port ns d) = memories d := by simp [pathDelayMeasured]
@[simp] theorem acquireEnd_memories (d) : memories (acquireEnd d) = memories d := (rfl)
@[simp] theorem bmcApply_memories (gm r d) : memories (bmcApply gm r d) = memories d := by
  unfold bmcApply
  split <;> simp
@[simp] theorem announceReceived_memories (port gm r d) : memories (announceReceived port gm r d) = memories d := by simp [announceReceived]
@[simp] theorem announceTimeout_memories (gm r d) : memories (announceTimeout gm r d) = memories d := by
  unfold announceTimeout
  repeat' split
  all_goals simp
@[simp] theorem ptpIntervalTimer_memories (port kind d) : memories (ptpIntervalTimer port kind d) = memories d := by simp [ptpIntervalTimer]
@[simp] theorem delayReqReceived_memories (port kind rxS d) : memories (delayReqReceived port kind rxS d) = memories d := by simp [delayReqReceived]
@[simp] theorem schedTimeSave_memories (d) : memories (schedTimeSave d) = memories d := by simp [schedTimeSave]
@[simp] theorem crossingOverrun_memories (c d) : memories (crossingOverrun c d) = memories d := by simp [crossingOverrun]
@[simp] theorem crossingOverruns_memories (mask d) : memories (crossingOverruns mask d) = memories d := by simp [crossingOverruns]
@[simp] theorem schedAdvance_memories (ns d) : memories (schedAdvance ns d) = memories d := by simp [schedAdvance]
@[simp] theorem timeRealign_memories (overruns d) : memories (timeRealign overruns d) = memories d := by simp [timeRealign]
@[simp] theorem txtsNote_memories (p id ts d) : memories (txtsNote p id ts d) = memories d := by simp [txtsNote]
@[simp] theorem txtsIdRead_memories (p d) : memories (txtsIdRead p d) = memories d := by
  unfold txtsIdRead
  split <;> simp
@[simp] theorem tuField_memories (f v d) : memories (tuField f v d) = memories d := by simp [tuField]
@[simp] theorem tuSettingWrite_memories (r w d) : memories (tuSettingWrite r w d) = memories d := by
  unfold tuSettingWrite
  split <;> simp

/-! ### Machine/Network -/

@[simp] theorem macLearn_memories (src p d) : memories (macLearn src p d) = memories d := by simp [macLearn]
@[simp] theorem frameInward_memories (c d) : memories (frameInward c d) = memories d := by
  unfold frameInward
  split <;> simp
@[simp] theorem frameForward_memories (p n pcp f stream d) : memories (frameForward p n pcp f stream d) = memories d := by simp [frameForward]
@[simp] theorem switchFrame_memories (p f d) : memories (switchFrame p f d) = memories d := by
  unfold switchFrame
  split
  · rfl
  extract_lets d1 vlanDrop vid pcp
  have h1 : memories d1 = memories d := by simp [d1]
  clear_value d1
  generalize (if f.rtag.isSome then 1528 else 1522) = most
  split
  · simp [h1]
  split
  · simp [h1]
  split
  · simp [vlanDrop, h1]
  split
  · simp [vlanDrop, h1]
  split
  · simp [vlanDrop, h1]
  extract_lets learns d2 stream
  have h2 : memories d2 = memories d := by simp [d2, h1]
  clear_value d2
  split
  · simp [h2]
  split
  · exact h2
  split
  · split_ifs <;> simp [h2]
  · simp [h2]
@[simp] theorem frameLaunch_memories (port queue now d) : memories (frameLaunch port queue now d) = memories d := by simp [frameLaunch]
@[simp] theorem gateEntry_memories (p d) : memories (gateEntry p d) = memories d := by simp [gateEntry]
@[simp] theorem macAgeOut_memories (mac d) : memories (macAgeOut mac d) = memories d := (rfl)
@[simp] theorem frerReset_memories (n d) : memories (frerReset n d) = memories d := by simp [frerReset]
@[simp] theorem bpduReceived_memories (p role st d) : memories (bpduReceived p role st d) = memories d := by simp [bpduReceived]
@[simp] theorem linkChange_memories (p up speed gm r d) : memories (linkChange p up speed gm r d) = memories d := by simp [linkChange]
@[simp] theorem ttdpApply_memories (r d) : memories (ttdpApply r d) = memories d := by
  unfold ttdpApply
  repeat' split
  all_goals simp
@[simp] theorem mdDeliver_memories (f d) : memories (mdDeliver f d) = memories d := by
  unfold mdDeliver
  repeat' split
  all_goals simp
@[simp] theorem mdUnit_memories (f r d) : memories (mdUnit f r d) = memories d := by
  simp only [mdUnit]
  split
  · simp
  · split <;> simp
@[simp] theorem pubFrame_memories (p payload d) : memories (pubFrame p payload d) = memories d := by simp [pubFrame]
@[simp] theorem sendUnit_memories (n since d) : memories (sendUnit n since d) = memories d := by
  unfold sendUnit
  split
  · rfl
  · dsimp only
    split <;> simp
@[simp] theorem replyUnit_memories (n dst d) : memories (replyUnit n dst d) = memories d := by
  unfold replyUnit
  split
  · rfl
  · dsimp only
    split <;> simp
@[simp] theorem commonUnit_memories (d) : memories (commonUnit d) = memories d := by
  unfold commonUnit
  repeat' split
  all_goals simp
@[simp] theorem trestleUnit_memories (d) : memories (trestleUnit d) = memories d := by
  simp only [trestleUnit]
  repeat' split
  all_goals simp
@[simp] theorem reassemblyTimeout_memories (key d) : memories (reassemblyTimeout key d) = memories d := by
  unfold reassemblyTimeout
  split <;> simp
@[simp] theorem mdReplyTimeout_memories (session d) : memories (mdReplyTimeout session d) = memories d := by
  unfold mdReplyTimeout
  split <;> simp
@[simp] theorem subTimeout_memories (n d) : memories (subTimeout n d) = memories d := by simp [subTimeout]

/-! ### Machine/GirderOps -/

@[simp] theorem gbSet_memories (f d) : memories (gbSet f d) = memories d := (rfl)
@[simp] theorem gbLevel_memories (d) : memories (gbLevel d) = memories d := (rfl)
@[simp] theorem gbQueue_memories (q d) : memories (gbQueue q d) = memories d := (rfl)
@[simp] theorem gbCountFail_memories (st d) : memories (gbCountFail st d) = memories d := by simp [gbCountFail]
@[simp] theorem gbRecord_memories (r d) : memories (gbRecord r d) = memories d := by simp [gbRecord]
@[simp] theorem gbScanSet_memories (cls f d) : memories (gbScanSet cls f d) = memories d := by
  unfold gbScanSet
  split <;> simp
@[simp] theorem gbSafeDone_memories (d) : memories (gbSafeDone d) = memories d := by simp [gbSafeDone]
@[simp] theorem gbReportFail_memories (r cycle cls seg st posted d) : memories (gbReportFail r cycle cls seg st posted d) = memories d := by
  simp [gbReportFail]
@[simp] theorem gbFinish_memories (r st data d) : memories (gbFinish r st data d) = memories d := by
  unfold gbFinish
  repeat' split
  all_goals simp
@[simp] theorem lineDiscard_memories (win d) : memories (lineDiscard win d) = memories d := by
  unfold lineDiscard
  repeat' split
  all_goals simp
@[simp] theorem linesDiscard_memories (d) : memories (linesDiscard d) = memories d := by simp [linesDiscard]
@[simp] theorem lineDeliver_memories (win off d) : memories (lineDeliver win off d) = memories d := by
  unfold lineDeliver
  split <;> simp
@[simp] theorem gbPutBack_memories (urgent q d) : memories (gbPutBack urgent q d) = memories d := by simp [gbPutBack]
@[simp] theorem gbReissue_memories (l d) : memories (gbReissue l d) = memories d := by
  unfold gbReissue
  repeat' split
  all_goals simp
@[simp] theorem gbOpenPut_memories (o d) : memories (gbOpenPut o d) = memories d := (rfl)
@[simp] theorem gbIdle_memories (d) : memories (gbIdle d) = memories d := by simp [gbIdle]
@[simp] theorem gbAddress_memories (o d) : memories (gbAddress o d) = memories d := by
  unfold gbAddress
  split <;> simp
@[simp] theorem gbStart_memories (d) : memories (gbStart d) = memories d := by
  unfold gbStart
  repeat' split
  all_goals simp
@[simp] theorem gbRest_memories (o rest d) : memories (gbRest o rest d) = memories d := by simp [gbRest]
@[simp] theorem gbPhaseFail_memories (st d) : memories (gbPhaseFail st d) = memories d := by
  unfold gbPhaseFail
  repeat' split
  all_goals simp
@[simp] theorem gbPhaseOk_memories (data d) : memories (gbPhaseOk data d) = memories d := by
  unfold gbPhaseOk
  repeat' split
  all_goals simp
@[simp] theorem gbKill_memories (st d) : memories (gbKill st d) = memories d := by
  unfold gbKill
  split <;> simp
@[simp] theorem gbUnstart_memories (d) : memories (gbUnstart d) = memories d := by
  unfold gbUnstart
  split <;> simp
@[simp] theorem gbDropQueued_memories (count d) : memories (gbDropQueued count d) = memories d := by
  simp only [gbDropQueued]
  split <;> simp
@[simp] theorem gbSafeRun_memories (mode d) : memories (gbSafeRun mode d) = memories d := by simp [gbSafeRun]
@[simp] theorem gbEnqueue_memories (r d) : memories (gbEnqueue r d) = memories d := (rfl)
@[simp] theorem gbScanStale_memories (cls d) : memories (gbScanStale cls d) = memories d := by simp [gbScanStale]
@[simp] theorem gbScanStart_memories (cls d) : memories (gbScanStart cls d) = memories d := by simp [gbScanStart]
@[simp] theorem gbScanDue_memories (cls cycle d) : memories (gbScanDue cls cycle d).2 = memories d := by
  unfold gbScanDue
  split
  · rfl
  · split_ifs <;> simp

/-! ### Machine/PierOps -/

@[simp] theorem prSet_memories (p f d) : memories (prSet p f d) = memories d := (rfl)
@[simp] theorem prsAll_memories (f d) : memories (prsAll f d) = memories d := (rfl)

/-! ### Machine/SliceOps -/

@[simp] theorem fioSet_memories (p f d) : memories (fioSet p f d) = memories d := (rfl)
@[simp] theorem ptSet_memories (p f d) : memories (ptSet p f d) = memories d := (rfl)
@[simp] theorem legPut_memories (p out on d) : memories (legPut p out on d) = memories d := (rfl)
@[simp] theorem legPendingBits_memories (p d) : memories (legPendingBits p d) = memories d := (rfl)
@[simp] theorem legWrite_memories (p out on d) : memories (legWrite p out on d) = memories d := by simp [legWrite]
@[simp] theorem legHold_memories (p cls out on d) : memories (legHold p cls out on d) = memories d := by simp [legHold]
@[simp] theorem legLaunch_memories (p cls d) : memories (legLaunch p cls d) = memories d := by simp [legLaunch]
@[simp] theorem legsOff_memories (p d) : memories (legsOff p d) = memories d := (rfl)
@[simp] theorem allLegsOff_memories (d) : memories (allLegsOff d) = memories d := by simp [allLegsOff]
@[simp] theorem ptAccPut_memories (p r v d) : memories (ptAccPut p r v d) = memories d := (rfl)
@[simp] theorem trigState_memories (p k st d) : memories (trigState p k st d) = memories d := (rfl)
@[simp] theorem trigHit_memories (p k d) : memories (trigHit p k d) = memories d := by
  simp only [trigHit]
  repeat' split
  all_goals simp
@[simp] theorem trigJudge_memories (p k d) : memories (trigJudge p k d) = memories d := by simp [trigJudge]
@[simp] theorem signalsDrop_memories (p k d) : memories (signalsDrop p k d) = memories d := (rfl)
@[simp] theorem ptUnconf_memories (k d) : memories (ptUnconf k d) = memories d := (rfl)
@[simp] theorem trigDisarm_memories (p k d) : memories (trigDisarm p k d) = memories d := (rfl)
@[simp] theorem trigDisarmAll_memories (d) : memories (trigDisarmAll d) = memories d := by simp [trigDisarmAll]
@[simp] theorem ptCount_memories (p r up d) : memories (ptCount p r up d) = memories d := by simp [ptCount]
@[simp] theorem hitsAt_memories (p moves d) : memories (hitsAt p moves d) = memories d := by
  unfold hitsAt
  split
  · rfl
  · refine forEach_memories _ _ _ fun k d => ?_
    split <;> simp
@[simp] theorem ptRebase_memories (p tick d) : memories (ptRebase p tick d) = memories d := by simp [ptRebase]
@[simp] theorem ptRebases_memories (tick d) : memories (ptRebases tick d) = memories d := by simp [ptRebases]
@[simp] theorem classLatch_memories (p cls d) : memories (classLatch p cls d) = memories d := by simp [classLatch]
@[simp] theorem classLatchAll_memories (cls d) : memories (classLatchAll cls d) = memories d := by simp [classLatchAll]
@[simp] theorem fioReview_memories (n d) : memories (fioReview n d) = memories d := by simp [fioReview]
@[simp] theorem fioThermReview_memories (n d) : memories (fioThermReview n d) = memories d := by simp [fioThermReview]
@[simp] theorem fsRecord_memories (k st d) : memories (fsRecord k st d) = memories d := by simp [fsRecord]

/-! ### Machine/CycOps -/

@[simp] theorem cycSet_memories (f d) : memories (cycSet f d) = memories d := (rfl)
@[simp] theorem runSet_memories (c n f d) : memories (runSet c n f d) = memories d := (rfl)
@[simp] theorem activeReview_memories (d) : memories (activeReview d) = memories d := (rfl)
@[simp] theorem runsReview_memories (d) : memories (runsReview d) = memories d := (rfl)
@[simp] theorem stationJudge_memories (c cycle n im x fresh d) : memories (stationJudge c cycle n im x fresh d) = memories d := by simp [stationJudge]
@[simp] theorem stationCount_memories (c d) : memories (stationCount c d) = memories d := (rfl)
@[simp] theorem stationsUpdate_memories (c cycle d) : memories (stationsUpdate c cycle d) = memories d := by simp [stationsUpdate]
@[simp] theorem stationsUnfresh_memories (c cycle d) : memories (stationsUnfresh c cycle d) = memories d := by simp [stationsUnfresh]
@[simp] theorem safetyCheck_memories (cycle n e d) : memories (safetyCheck cycle n e d) = memories d := by
  simp only [safetyCheck]
  repeat' split
  all_goals simp
@[simp] theorem safetyChecks_memories (c cycle d) : memories (safetyChecks c cycle d) = memories d := by simp [safetyChecks]
@[simp] theorem framePut_memories (c f d) : memories (framePut c f d) = memories d := (rfl)
@[simp] theorem freezeFrame_memories (c cycle tick extra d) : memories (freezeFrame c cycle tick extra d) = memories d := by
  simp [freezeFrame]
@[simp] theorem cycleStart_memories (c tick realTick extra d) : memories (cycleStart c tick realTick extra d) = memories d := by simp [cycleStart]
@[simp] theorem scansStart_memories (tick d) : memories (scansStart tick d) = memories d := by simp [scansStart]
@[simp] theorem launchNow_memories (c time d) : memories (launchNow c time d) = memories d := by simp [launchNow]
@[simp] theorem launchesAt_memories (tick d) : memories (launchesAt tick d) = memories d := by simp [launchesAt]
@[simp] theorem stageWrite_memories (c addr data d) : memories (stageWrite c addr data d) = memories d := (rfl)
@[simp] theorem cycleTime_memories (r d) : memories (cycleTime r d) = memories d := by simp [cycleTime]
@[simp] theorem launchesDrop_memories (d) : memories (launchesDrop d) = memories d := (rfl)
@[simp] theorem cyclesStop_memories (d) : memories (cyclesStop d) = memories d := (rfl)

/-! ### Machine/DxOps -/

@[simp] theorem dxSet_memories (f d) : memories (dxSet f d) = memories d := (rfl)
@[simp] theorem storeSet_memories (f d) : memories (storeSet f d) = memories d := (rfl)
@[simp] theorem loenpa_memories (m d) : memories (loenpa m d) = memories d := by simp [loenpa]
@[simp] theorem switchPins_memories (closed d) : memories (switchPins closed d) = memories d := (rfl)
@[simp] theorem pinReview_memories (d) : memories (pinReview d) = memories d := (rfl)
@[simp] theorem claimReview_memories (d) : memories (claimReview d) = memories d := by simp [claimReview]
@[simp] theorem claimRaise_memories (d) : memories (claimRaise d) = memories d := by simp [claimRaise]
@[simp] theorem claimWrites_memories (d) : memories (claimWrites d) = memories d := by simp [claimWrites]
@[simp] theorem sliceRun_memories (p t d) : memories (sliceRun p t d) = memories d := (rfl)
@[simp] theorem leaseFollow_memories (d) : memories (leaseFollow d) = memories d := by simp [leaseFollow]
@[simp] theorem leaseObtain_memories (kind d) : memories (leaseObtain kind d) = memories d := by simp [leaseObtain]
@[simp] theorem leaseBasis_memories (kind d) : memories (leaseBasis kind d) = memories d := by simp [leaseBasis]
@[simp] theorem leaseDrop_memories (d) : memories (leaseDrop d) = memories d := by simp [leaseDrop]
@[simp] theorem leaseRequest_memories (d) : memories (leaseRequest d) = memories d := by simp [leaseRequest]
@[simp] theorem cpTake_memories (cls cycle d) : memories (cpTake cls cycle d) = memories d := by simp [cpTake]
@[simp] theorem cpDue_memories (cls cycle d) : memories (cpDue cls cycle d) = memories d := by simp [cpDue]
@[simp] theorem cpName_memories (c d) : memories (cpName c d) = memories d := (rfl)
@[simp] theorem cpRestore_memories (c d) : memories (cpRestore c d) = memories d := by simp [cpRestore]
@[simp] theorem forcesReplay_memories (p d) : memories (forcesReplay p d) = memories d := forEach_memories _ _ _ fun _ _ => rfl

/-! ### Machine/ModeOps -/

@[simp] theorem modeSet_memories (f d) : memories (modeSet f d) = memories d := (rfl)
@[simp] theorem ksSet_memories (f d) : memories (ksSet f d) = memories d := (rfl)
@[simp] theorem modeWrite_memories (m d) : memories (modeWrite m d) = memories d := by simp [modeWrite]
@[simp] theorem resyncEnd_memories (d) : memories (resyncEnd d) = memories d := by simp [resyncEnd]
@[simp] theorem ksStop_memories (d) : memories (ksStop d) = memories d := (rfl)
@[simp] theorem safeCommands_memories (d) : memories (safeCommands d) = memories d := by simp [safeCommands]
@[simp] theorem safeEffects_memories (d) : memories (safeEffects d) = memories d := by simp [safeEffects]
@[simp] theorem cursorOldest_memories (d) : memories (cursorOldest d) = memories d := (rfl)
@[simp] theorem safeNow_memories (d) : memories (safeNow d) = memories d := by simp [safeNow]
@[simp] theorem safeEnter_memories (cause detail d) : memories (safeEnter cause detail d) = memories d := by simp [safeEnter]
@[simp] theorem safeNoMajority_memories (d) : memories (safeNoMajority d) = memories d := by simp [safeNoMajority]
@[simp] theorem piersInit_memories (d) : memories (piersInit d) = memories d := by simp [piersInit]
@[simp] theorem coldStart_memories (d) : memories (coldStart d) = memories d := by simp [coldStart]
@[simp] theorem appStart_memories (d) : memories (appStart d) = memories d := by
  unfold appStart
  repeat' split
  all_goals simp
@[simp] theorem stepPreempt_memories (d) : memories (stepPreempt d) = memories d := by
  unfold stepPreempt
  split <;> simp
@[simp] theorem modeEnter_memories (m d) : memories (modeEnter m d) = memories d := by simp [modeEnter]
@[simp] theorem requestApply_memories (c d) : memories (requestApply c d) = memories d := by simp [requestApply]
@[simp] theorem breakSet_memories (c d) : memories (breakSet c d) = memories d := by simp [breakSet]
@[simp] theorem requestsTake_memories (l d) : memories (requestsTake l d) = memories d := by
  induction l generalizing d with
  | nil => rfl
  | cons s r ih =>
    unfold requestsTake
    split <;> simp [ih]
@[simp] theorem modeBoundary_memories (d) : memories (modeBoundary d) = memories d := by
  unfold modeBoundary
  dsimp only
  split <;> simp

/-! ### Machine/KeystoneOps -/

@[simp] theorem stampAdd_memories (k d) : memories (stampAdd k d) = memories d := by simp [stampAdd]
@[simp] theorem degradedReview_memories (d) : memories (degradedReview d) = memories d := (rfl)
@[simp] theorem pierOut_memories (p reason d) : memories (pierOut p reason d) = memories d := by simp [pierOut]
@[simp] theorem pierForget_memories (p d) : memories (pierForget p d) = memories d := (rfl)
@[simp] theorem resyncPhase_memories (ph d) : memories (resyncPhase ph d) = memories d := (rfl)
@[simp] theorem pierIsolate_memories (p d) : memories (pierIsolate p d) = memories d := (rfl)
@[simp] theorem verdictNote_memories (kind odd win d) : memories (verdictNote kind odd win d) = memories d := (rfl)
@[simp] theorem verdictNone_memories (w d) : memories (verdictNone w d) = memories d := by simp [verdictNone]
@[simp] theorem pierName_memories (kind p win skew d) : memories (pierName kind p win skew d) = memories d := by simp [pierName]
@[simp] theorem loadSignatures_memories (sigs d) : memories (loadSignatures sigs d) = memories d := by
  unfold loadSignatures
  split <;> simp
@[simp] theorem winPut_memories (w d) : memories (winPut w d) = memories d := by simp [winPut]
@[simp] theorem openWindows_memories (d) : memories (openWindows d) = memories d := by simp [openWindows]
@[simp] theorem winSkew_memories (w arr d) : memories (winSkew w arr d) = memories d := by
  unfold winSkew
  split <;> simp
@[simp] theorem winResolve_memories (w d) : memories (winResolve w d) = memories d := (rfl)
@[simp] theorem overrunNote_memories (kind cls cycle w d) : memories (overrunNote kind cls cycle w d) = memories d := (rfl)
@[simp] theorem pierOverrun_memories (odd w d) : memories (pierOverrun odd w d) = memories d := by simp [pierOverrun]
@[simp] theorem winOdd_memories (kind odd w skew d) : memories (winOdd kind odd w skew d) = memories d := by simp [winOdd]
@[simp] theorem winNone_memories (w d) : memories (winNone w d) = memories d := by simp [winNone]
@[simp] theorem winJudge3_memories (w d) : memories (winJudge3 w d) = memories d := by
  simp only [winJudge3]
  split <;> simp
@[simp] theorem winJudge2_memories (w d) : memories (winJudge2 w d) = memories d := by
  simp only [winJudge2]
  split <;> simp
@[simp] theorem winJudge_memories (w d) : memories (winJudge w d) = memories d := by simp [winJudge]
@[simp] theorem winRejudge_memories (d) : memories (winRejudge d) = memories d := by
  unfold winRejudge
  split
  · rfl
  · refine forEach_memories _ _ _ fun w d => ?_
    split <;> simp
@[simp] theorem winVerdict_memories (w d) : memories (winVerdict w d) = memories d := by simp [winVerdict]
@[simp] theorem sigLate_memories (p w sig t d) : memories (sigLate p w sig t d) = memories d := by simp [sigLate]
@[simp] theorem sigPost_memories (p cls cycle part sig t upto final agree d) :
    memories (sigPost p cls cycle part sig t upto final agree d) = memories d := by
  unfold sigPost
  repeat' split
  all_goals simp
@[simp] theorem winExpired_memories (w d) : memories (winExpired w d) = memories d := by
  simp only [winExpired]
  repeat' split
  all_goals simp
@[simp] theorem skewExpire_memories (cls cycle part d) : memories (skewExpire cls cycle part d) = memories d := by
  unfold skewExpire
  split <;> simp
@[simp] theorem winsAgain_memories (d) : memories (winsAgain d) = memories d := by
  unfold winsAgain
  rw [openWindows_memories, forEach_memories]
  · simp
  · intro w d
    split <;> simp
@[simp] theorem reqQueue_memories (w r d) : memories (reqQueue w r d) = memories d := by
  simp only [reqQueue]
  split <;> simp
@[simp] theorem winQueue_memories (n d) : memories (winQueue n d) = memories d := by
  induction n generalizing d with
  | zero => rfl
  | succ n ih =>
    unfold winQueue
    split <;> simp [ih]
@[simp] theorem winPrune_memories (d) : memories (winPrune d) = memories d := (rfl)
@[simp] theorem winOrder_memories (d) : memories (winOrder d) = memories d := by simp [winOrder]
@[simp] theorem reqPost_memories (p q d) : memories (reqPost p q d) = memories d := by
  simp only [reqPost]
  repeat' split
  all_goals simp

/-! ### Machine/Agree -/

@[simp] theorem minorityCount_memories (key limit i items odd p d) : memories (minorityCount key limit i items odd p d) = memories d := by
  simp [minorityCount]
@[simp] theorem itemAgree_memories (cls i it prev l done d) : memories (itemAgree cls i it prev l done d).2 = memories d := by
  simp [itemAgree]
@[simp] theorem itemsAgree_memories (cls l prev its i done d) : memories (itemsAgree cls l prev its i done d).2 = memories d := by
  induction its generalizing i done d with
  | nil => rfl
  | cons it r ih => simp [itemsAgree, ih]
@[simp] theorem inputsAgree_memories (cls l d) : memories (inputsAgree cls l d) = memories d := by simp [inputsAgree]
@[simp] theorem slotClose_memories (cls s d) : memories (slotClose cls s d) = memories d := (rfl)
@[simp] theorem slotAbsent_memories (cls s present d) : memories (slotAbsent cls s present d) = memories d := (rfl)
@[simp] theorem pierError_memories (p d) : memories (pierError p d) = memories d := by simp [pierError]

/-! ### Machine/Girder -/

@[simp] theorem gbGrant_memories (d) : memories (gbGrant d) = memories d := by
  unfold gbGrant
  split <;> simp
@[simp] theorem gbGrantTimeout_memories (d) : memories (gbGrantTimeout d) = memories d := by
  unfold gbGrantTimeout
  repeat' split
  all_goals simp
@[simp] theorem gbDataPhaseEnd_memories (e d) : memories (gbDataPhaseEnd e d) = memories d := by
  unfold gbDataPhaseEnd
  repeat' split
  all_goals simp
@[simp] theorem gbDataTimeout_memories (d) : memories (gbDataTimeout d) = memories d := by
  unfold gbDataTimeout
  split <;> simp
@[simp] theorem gbGrantWithdrawn_memories (d) : memories (gbGrantWithdrawn d) = memories d := by
  unfold gbGrantWithdrawn
  split <;> simp
@[simp] theorem gbOwnershipLimit_memories (d) : memories (gbOwnershipLimit d) = memories d := by simp [gbOwnershipLimit]
@[simp] theorem gbBpReset_memories (d) : memories (gbBpReset d) = memories d := by
  simp only [gbBpReset]
  repeat' split
  all_goals simp
@[simp] theorem gbBpReleased_memories (d) : memories (gbBpReleased d) = memories d := by simp [gbBpReleased]
@[simp] theorem gbFailAll_memories (l d) : memories (gbFailAll l d) = memories d := by simp [gbFailAll]
@[simp] theorem gbClockLost_memories (d) : memories (gbClockLost d) = memories d := by simp [gbClockLost]
@[simp] theorem gbSnoopWrite_memories (win off be data d) : memories (gbSnoopWrite win off be data d) = memories d := by simp [gbSnoopWrite]
@[simp] theorem gbInterrupt_memories (level d) : memories (gbInterrupt level d) = memories d := by simp [gbInterrupt]
@[simp] theorem gbDeckAccess_memories (kind win off be data mask d) : memories (gbDeckAccess kind win off be data mask d) = memories d := by
  simp [gbDeckAccess]
@[simp] theorem gbPairHalt_memories (d) : memories (gbPairHalt d) = memories d := by simp [gbPairHalt]

/-! ### Machine/Position -/

@[simp] theorem ptMove_memories (p r up x) : memories (ptMove p r up x).2 = memories x.2 := by simp [ptMove]
@[simp] theorem ptEdge_memories (p r a0 b0 a b x) : memories (ptEdge p r a0 b0 a b x).2 = memories x.2 := by
  unfold ptEdge
  dsimp only
  split_ifs <;> simp
@[simp] theorem refStep_memories (p r x) : memories (refStep p r x).2 = memories x.2 := by
  unfold refStep
  dsimp only
  split_ifs <;> simp
theorem refStep_foldl_memories (p l x) : memories (List.foldl (fun x r => refStep p r x) x l).2 = memories x.2 := by
  induction l generalizing x with
  | nil => rfl
  | cons r l ih => simp [ih]
@[simp] theorem refsStep_memories (p sel d) : memories (refsStep p sel d) = memories d := by simp [refsStep, refStep_foldl_memories]
@[simp] theorem filtersPass_memories (d) : memories (filtersPass d) = memories d := by simp [filtersPass]
@[simp] theorem refFollow_memories (p r d) : memories (refFollow p r d) = memories d := (rfl)
@[simp] theorem speedEdge_memories (p sp a b d) : memories (speedEdge p sp a b d) = memories d := by simp [speedEdge]
@[simp] theorem standstill_memories (p r d) : memories (standstill p r d) = memories d := by simp [standstill]
@[simp] theorem triggerArm_memories (p k ifPassed dir ref action out d) : memories (triggerArm p k ifPassed dir ref action out d) = memories d := by
  simp [triggerArm]
@[simp] theorem triggerDisarm_memories (p k d) : memories (triggerDisarm p k d) = memories d := (rfl)
@[simp] theorem scaleWrite_memories (p r v d) : memories (scaleWrite p r v d) = memories d := by simp [scaleWrite]
@[simp] theorem refCfgWrite_memories (p r en sign mode source sdir filt still d) :
    memories (refCfgWrite p r en sign mode source sdir filt still d) = memories d := by
  simp [refCfgWrite]
@[simp] theorem rebaseGo_memories (p shift ref d) : memories (rebaseGo p shift ref d) = memories d := by simp [rebaseGo]
@[simp] theorem posDropped_memories (k reason d) : memories (posDropped k reason d) = memories d := by simp [posDropped]
@[simp] theorem posLaunch_memories (k d) : memories (posLaunch k d) = memories d := by
  unfold posLaunch
  split <;> simp
@[simp] theorem posHitReport_memories (p k seq d) : memories (posHitReport p k seq d) = memories d := by simp [posHitReport]

/-! ### Machine/Recovery -/

@[simp] theorem startMark_memories (p c n t d) : memories (startMark p c n t d) = memories d := by
  unfold startMark
  split <;> simp
@[simp] theorem syncFault_memories (p seg cycle kind addr core trap d) : memories (syncFault p seg cycle kind addr core trap d) = memories d := by
  simp [syncFault]
@[simp] theorem halfBroken_memories (m d) : memories (halfBroken m d) = memories d := by simp [halfBroken]
@[simp] theorem halfTransient_memories (m d) : memories (halfTransient m d) = memories d := by simp [halfTransient]
@[simp] theorem halvesDisagree_memories (what d) : memories (halvesDisagree what d) = memories d := by simp [halvesDisagree]
@[simp] theorem stageParity_memories (h p again d) : memories (stageParity h p again d) = memories d := by simp [stageParity]
@[simp] theorem freezeExtra_memories (dur d) : memories (freezeExtra dur d) = memories d := (rfl)
@[simp] theorem tokensAgain_memories (d) : memories (tokensAgain d) = memories d := by simp [tokensAgain]
@[simp] theorem selftestDone_memories (pass1 pass2 dur agree d) : memories (selftestDone pass1 pass2 dur agree d) = memories d := by
  simp [selftestDone]
@[simp] theorem onlineTest_memories (fail1 fail2 d) : memories (onlineTest fail1 fail2 d) = memories d := by
  simp only [onlineTest]
  repeat' split
  all_goals simp
@[simp] theorem resyncOver_memories (result d) : memories (resyncOver result d) = memories d := (rfl)
@[simp] theorem resyncOut_memories (p result reason d) : memories (resyncOut p result reason d) = memories d := by simp [resyncOut]
@[simp] theorem resyncStart_memories (d) : memories (resyncStart d) = memories d := by
  unfold resyncStart
  split <;> simp
@[simp] theorem healthWaitExpiry_memories (d) : memories (healthWaitExpiry d) = memories d := by
  unfold healthWaitExpiry
  split <;> simp
@[simp] theorem resyncSelftest_memories (fail d) : memories (resyncSelftest fail d) = memories d := by
  unfold resyncSelftest
  repeat' split
  all_goals simp
@[simp] theorem donorClear_memories (d) : memories (donorClear d) = memories d := (rfl)
@[simp] theorem writtenMark_memories (pages d) : memories (writtenMark pages d) = memories d := (rfl)
@[simp] theorem codeCheckDone_memories (upset ecc d) : memories (codeCheckDone upset ecc d) = memories d := by
  unfold codeCheckDone
  split <;> simp
@[simp] theorem copyBytes_memories (n d) : memories (copyBytes n d) = memories d := (rfl)
@[simp] theorem resyncAbort_memories (result d) : memories (resyncAbort result d) = memories d := by
  unfold resyncAbort
  split <;> simp
@[simp] theorem copyTick_memories (slack written ecc d) : memories (copyTick slack written ecc d) = memories d := by simp [copyTick]
@[simp] theorem nextPass_memories (blocks d) : memories (nextPass blocks d) = memories d := (rfl)
@[simp] theorem passCopy_memories (p d) : memories (passCopy p d) = memories d := by simp [passCopy]
@[simp] theorem passEnd_memories (written d) : memories (passEnd written d) = memories d := by
  unfold passEnd
  split <;> simp
@[simp] theorem sliceCopy_memories (base len o p d) : memories (sliceCopy base len o p d) = memories d := (rfl)
@[simp] theorem refAlign_memories (o p r d) : memories (refAlign o p r d) = memories d := by simp [refAlign]
@[simp] theorem sliceRealign_memories (o p d) : memories (sliceRealign o p d) = memories d := by
  have hp (d) : memories (sliceRealign.putPending o p d) = memories d := by
    unfold sliceRealign.putPending
    simp
  simp [sliceRealign, hp]
@[simp] theorem resyncFinal_memories (idle gap written d) : memories (resyncFinal idle gap written d) = memories d := by
  unfold resyncFinal
  split <;> simp
@[simp] theorem resyncRejoin_memories (d) : memories (resyncRejoin d) = memories d := by
  simp only [resyncRejoin]
  repeat' split
  all_goals simp
@[simp] theorem finalWaitExpiry_memories (d) : memories (finalWaitExpiry d) = memories d := by simp [finalWaitExpiry]
@[simp] theorem resyncTimeLimit_memories (d) : memories (resyncTimeLimit d) = memories d := by simp [resyncTimeLimit]
@[simp] theorem resyncSwitched_memories (blocks d) : memories (resyncSwitched blocks d) = memories d := by simp [resyncSwitched]
@[simp] theorem retryEnd_memories (d) : memories (retryEnd d) = memories d := by simp [retryEnd]
@[simp] theorem copyShareWrite_memories (v d) : memories (copyShareWrite v d) = memories d := by simp [copyShareWrite]
@[simp] theorem pairPut_memories (u st d) : memories (pairPut u st d) = memories d := (rfl)
@[simp] theorem pairMismatch_memories (u d) : memories (pairMismatch u d) = memories d := by simp [pairMismatch]
@[simp] theorem pairSelftest_memories (u pass1 pass2 d) : memories (pairSelftest u pass1 pass2 d) = memories d := by simp [pairSelftest]

/-! ### Machine/ChangeOps -/

@[simp] theorem chgSet_memories (f d) : memories (chgSet f d) = memories d := (rfl)
@[simp] theorem imageTake_memories (img d) : memories (imageTake img d) = memories d := by simp [imageTake]
@[simp] theorem commitFinal_memories (d) : memories (commitFinal d) = memories d := by
  unfold commitFinal
  split <;> simp
@[simp] theorem imageSwitch_memories (reverting cs cmd d) : memories (imageSwitch reverting cs cmd d) = memories d := by
  unfold imageSwitch
  split <;> simp
@[simp] theorem generationSave_memories (d) : memories (generationSave d) = memories d := (rfl)
@[simp] theorem logPut_memories (e d) : memories (logPut e d) = memories d := by simp [logPut]
@[simp] theorem logDrop_memories (cmd d) : memories (logDrop cmd d) = memories d := (rfl)
@[simp] theorem constsEdit_memories (items d) : memories (constsEdit items d) = memories d := (rfl)
@[simp] theorem logApply_memories (g e d) : memories (logApply g e d) = memories d := by
  unfold logApply
  split <;> simp
@[simp] theorem logUpTo_memories (c n d) : memories (logUpTo c n d) = memories d := by
  induction n generalizing d with
  | zero => rfl
  | succ n ih =>
    unfold logUpTo
    split
    · rfl
    · split <;> simp [ih]
@[simp] theorem chgDrop_memories (d) : memories (chgDrop d) = memories d := (rfl)
@[simp] theorem chgFail_memories (status reason d) : memories (chgFail status reason d) = memories d := by simp [chgFail]
@[simp] theorem chgArm_memories (ns d) : memories (chgArm ns d) = memories d := by
  unfold chgArm
  split <;> simp
@[simp] theorem chgDone_memories (cls ns cmd rev gen d) : memories (chgDone cls ns cmd rev gen d) = memories d := by simp [chgDone]
@[simp] theorem chgReleased_memories (cls cycle d) : memories (chgReleased cls cycle d) = memories d := by simp [chgReleased]
@[simp] theorem chgCarry_memories (ticked affected plan d) : memories (chgCarry ticked affected plan d) = memories d := by simp [chgCarry]
@[simp] theorem chgSwitch_memories (ticked tick d) : memories (chgSwitch ticked tick d) = memories d := by
  unfold chgSwitch
  split <;> simp
@[simp] theorem chgTick_memories (tick due d) : memories (chgTick tick due d) = memories d := by
  unfold chgTick
  split <;> simp
@[simp] theorem chgAgree_memories (n partner vals d) : memories (chgAgree n partner vals d) = memories d := by simp [chgAgree]
@[simp] theorem chgFetched_memories (hashOk d) : memories (chgFetched hashOk d) = memories d := by
  unfold chgFetched
  split <;> simp
@[simp] theorem chgStaged_memories (p result d) : memories (chgStaged p result d) = memories d := by simp [chgStaged]
@[simp] theorem chgPartner_memories (item d) : memories (chgPartner item d) = memories d := by simp [chgPartner]
@[simp] theorem carryoverDone_memories (p cls done d) : memories (carryoverDone p cls done d) = memories d := by
  simp only [carryoverDone]
  repeat' split
  all_goals simp
@[simp] theorem chgCommit_memories (d) : memories (chgCommit d) = memories d := by simp [chgCommit]
@[simp] theorem chgCancel_memories (d) : memories (chgCancel d).2 = memories d := by
  unfold chgCancel
  split <;> simp
@[simp] theorem revertLost_memories (d) : memories (revertLost d) = memories d := by simp [revertLost]
@[simp] theorem chgAct_memories (c d) : memories (chgAct c d) = memories d := by simp [chgAct]
@[simp] theorem controlExchange_memories (vals d) : memories (controlExchange vals d) = memories d := by
  unfold controlExchange
  repeat' split
  all_goals simp

/-! ### Machine/HostFlow -/

@[simp] theorem cmdPut_memories (c d) : memories (cmdPut c d) = memories d := (rfl)
@[simp] theorem cmdEnd_memories (s e lost status result d) : memories (cmdEnd s e lost status result d) = memories d := by simp [cmdEnd]
@[simp] theorem cmdEndLate_memories (s e status result d) : memories (cmdEndLate s e status result d) = memories d := by simp [cmdEndLate]
@[simp] theorem recoverOne_memories (s e d) : memories (recoverOne s e d) = memories d := by
  unfold recoverOne
  split <;> simp
@[simp] theorem activeRecover_memories (d) : memories (activeRecover d) = memories d := by simp [activeRecover]
@[simp] theorem journalRecover_memories (d) : memories (journalRecover d) = memories d := by simp [journalRecover]
@[simp] theorem takeoverOne_memories (p s e d) : memories (takeoverOne p s e d) = memories d := by simp [takeoverOne]
@[simp] theorem journalTakeover_memories (p d) : memories (journalTakeover p d) = memories d := by simp [journalTakeover]
@[simp] theorem logFinal_memories (ref status body d) : memories (logFinal ref status body d) = memories d := by
  unfold logFinal
  split <;> simp
@[simp] theorem journalArrive_memories (s e payload d) : memories (journalArrive s e payload d) = memories d := by
  simp only [journalArrive]
  repeat' split
  all_goals simp

/-! ### Machine/Duplex -/

@[simp] theorem takeoverStart_memories (cause d) : memories (takeoverStart cause d) = memories d := by simp [takeoverStart]
@[simp] theorem takeoverTriggers_memories (d) : memories (takeoverTriggers d) = memories d := by simp [takeoverTriggers]
@[simp] theorem takeoverAbort_memories (notice_ d) : memories (takeoverAbort notice_ d) = memories d := by simp [takeoverAbort]
@[simp] theorem requestsStopped_memories (d) : memories (requestsStopped d) = memories d := by simp [requestsStopped]
@[simp] theorem peerStandingBy_memories (d) : memories (peerStandingBy d) = memories d := by simp [peerStandingBy]
@[simp] theorem takeoverNotice_memories (d) : memories (takeoverNotice d) = memories d := by simp [takeoverNotice]
@[simp] theorem handoverNotice_memories (d) : memories (handoverNotice d) = memories d := by simp [handoverNotice]
@[simp] theorem takeoverWaitEnd_memories (d) : memories (takeoverWaitEnd d) = memories d := by simp [takeoverWaitEnd]
@[simp] theorem changeTakeover_memories (c d) : memories (changeTakeover c d) = memories d := by
  unfold changeTakeover
  split <;> simp
@[simp] theorem checkpointLoaded_memories (sigs ms d) : memories (checkpointLoaded sigs ms d) = memories d := by
  unfold checkpointLoaded
  split <;> simp
@[simp] theorem takeoverEnter_memories (anyDue d) : memories (takeoverEnter anyDue d) = memories d := by simp [takeoverEnter]
@[simp] theorem journalReport_memories (d) : memories (journalReport d) = memories d := by simp [journalReport]
@[simp] theorem roleTake_memories (role d) : memories (roleTake role d) = memories d := by simp [roleTake]
@[simp] theorem bootRole_memories (expired d) : memories (bootRole expired d) = memories d := by
  unfold bootRole
  split <;> simp
@[simp] theorem roleAgain_memories (d) : memories (roleAgain d) = memories d := by simp [roleAgain]
@[simp] theorem posCheck_memories (pos d) : memories (posCheck pos d) = memories d := by simp [posCheck]
@[simp] theorem soloEnd_memories (d) : memories (soloEnd d) = memories d := by simp [soloEnd]
@[simp] theorem imageReview_memories (image gen d) : memories (imageReview image gen d) = memories d := by simp [imageReview]
@[simp] theorem laneUp_memories (lane pos leaseMs guardMs image gen d) : memories (laneUp lane pos leaseMs guardMs image gen d) = memories d := by
  simp [laneUp]
@[simp] theorem laneDown_memories (lane d) : memories (laneDown lane d) = memories d := by simp [laneDown]
@[simp] theorem loenpaIdle_memories (d) : memories (loenpaIdle d) = memories d := by simp [loenpaIdle]
@[simp] theorem statusFrame_memories (d) : memories (statusFrame d) = memories d := by simp [statusFrame]
@[simp] theorem peerReview_memories (d) : memories (peerReview d) = memories d := by
  unfold peerReview
  split <;> simp
@[simp] theorem standbyJoin_memories (d) : memories (standbyJoin d) = memories d := by simp [standbyJoin]
@[simp] theorem peerStatus_memories (mode role pos claim image gen d) : memories (peerStatus mode role pos claim image gen d) = memories d := by
  simp [peerStatus]
@[simp] theorem leaseAcquire_memories (d) : memories (leaseAcquire d) = memories d := by simp [leaseAcquire]
@[simp] theorem leaseRenew_memories (d) : memories (leaseRenew d) = memories d := by simp [leaseRenew]
@[simp] theorem leaseAsked_memories (counters d) : memories (leaseAsked counters d) = memories d := by
  simp only [leaseAsked]
  split <;> simp
@[simp] theorem leaseGranted_memories (counters crcOk d) : memories (leaseGranted counters crcOk d) = memories d := by
  unfold leaseGranted
  extract_lets k sentAt ok peer e t
  have he : memories e = memories d := by
    unfold e
    split
    · rfl
    · refine forEach_memories _ _ _ fun p d => ?_
      split <;> simp
  split_ifs <;> simp [t, he]
@[simp] theorem sliceExpiry_memories (p d) : memories (sliceExpiry p d) = memories d := by simp [sliceExpiry]
@[simp] theorem absentGuard_memories (d) : memories (absentGuard d) = memories d := by simp [absentGuard]
@[simp] theorem peerPins_memories (alive standby d) : memories (peerPins alive standby d) = memories d := by simp [peerPins]
@[simp] theorem handoverEnd_memories (d) : memories (handoverEnd d) = memories d := by simp [handoverEnd]
@[simp] theorem checkpointComplete_memories (d) : memories (checkpointComplete d) = memories d := by
  unfold checkpointComplete
  split <;> simp
@[simp] theorem checkpointConfirmed_memories (cycle d) : memories (checkpointConfirmed cycle d) = memories d := by simp [checkpointConfirmed]
@[simp] theorem cpConfirm_memories (c d) : memories (cpConfirm c d) = memories d := by simp [cpConfirm]
@[simp] theorem checkpointData_memories (c trailerOk d) : memories (checkpointData c trailerOk d) = memories d := by simp [checkpointData]
@[simp] theorem imageSynced_memories (image gen img seconds d) : memories (imageSynced image gen img seconds d) = memories d := by
  simp only [imageSynced]
  repeat' split
  all_goals simp
@[simp] theorem journalLevelled_memories (diverged entries d) : memories (journalLevelled diverged entries d) = memories d := by
  unfold journalLevelled
  repeat' split
  all_goals simp
@[simp] theorem declare_memories (cls cycle due d) : memories (declare_ cls cycle due d) = memories d := by simp [declare_]
@[simp] theorem outputDeclaration_memories (x d) : memories (outputDeclaration x d) = memories d := by simp [outputDeclaration]
@[simp] theorem cmpReport_memories (src cycle declared observed d) : memories (cmpReport src cycle declared observed d) = memories d := by
  simp [cmpReport]
@[simp] theorem outputCompare_memories (x d) : memories (outputCompare x d) = memories d := by
  unfold outputCompare
  extract_lets d1 seen do_ d2 tlg d3 n crc on few gb d4 d5 d6 src
  have h3 : memories d3 = memories d := by
    unfold d3
    generalize tlg = o
    cases o <;> simp [d2, d1]
  have h6 : memories d6 = memories d := by simp [d6, d5, d4, h3]
  split <;> simp [h6]
@[simp] theorem comparesAt_memories (tick d) : memories (comparesAt tick d) = memories d := by simp [comparesAt]

/-! ### Machine/Rings -/

@[simp] theorem hiErr_memories (f cqSide n d) : memories (hiErr f cqSide n d) = memories d := (rfl)
@[simp] theorem ringServe_memories (n d) : memories (ringServe n d) = memories d := by simp [ringServe]
@[simp] theorem sqEnable_memories (n d) : memories (sqEnable n d) = memories d := by simp [sqEnable]
@[simp] theorem sqDisable_memories (n d) : memories (sqDisable n d) = memories d := (rfl)
@[simp] theorem cqEnable_memories (q d) : memories (cqEnable q d) = memories d := by simp [cqEnable]
@[simp] theorem cqDisable_memories (q d) : memories (cqDisable q d) = memories d := (rfl)
@[simp] theorem sqCfgWrite_memories (n word d) : memories (sqCfgWrite n word d) = memories d := by simp [sqCfgWrite]
@[simp] theorem cqCfgWrite_memories (q word d) : memories (cqCfgWrite q word d) = memories d := by simp [cqCfgWrite]
@[simp] theorem ringFieldWrite_memories (f en cqSide base n word d) : memories (ringFieldWrite f en cqSide base n word d) = memories d := by
  simp [ringFieldWrite]
@[simp] theorem dbRefuse_memories (cqSide n d) : memories (dbRefuse cqSide n d) = memories d := (rfl)
@[simp] theorem sqDoorbell_memories (n upper v d) : memories (sqDoorbell n upper v d) = memories d := by simp [sqDoorbell]
@[simp] theorem ackRaise_memories (ring id d) : memories (ackRaise ring id d) = memories d := by simp [ackRaise]
@[simp] theorem cqDoorbell_memories (q upper v d) : memories (cqDoorbell q upper v d) = memories d := by simp [cqDoorbell]
@[simp] theorem ringsStop_memories (l what d) : memories (ringsStop l what d) = memories d := by simp [ringsStop]
@[simp] theorem dmaError_memories (cplWrite n d) : memories (dmaError cplWrite n d) = memories d := by simp [dmaError]
@[simp] theorem bmeChange_memories (v d) : memories (bmeChange v d) = memories d := by simp [bmeChange]
@[simp] theorem d3Entry_memories (d) : memories (d3Entry d) = memories d := (rfl)
@[simp] theorem imodExpiry_memories (q d) : memories (imodExpiry q d) = memories d := by simp [imodExpiry]
@[simp] theorem msixUnmask_memories (v d) : memories (msixUnmask v d) = memories d := by simp [msixUnmask]
@[simp] theorem reservedAccess_memories (read addr d) : memories (reservedAccess read addr d) = memories d := by simp [reservedAccess]
@[simp] theorem jwSelWrite_memories (high v d) : memories (jwSelWrite high v d) = memories d := by simp [jwSelWrite]
@[simp] theorem jwNextRead_memories (d) : memories (jwNextRead d) = memories d := (rfl)
@[simp] theorem vwStatus_memories (id d) : memories (vwStatus id d) = memories d := by
  unfold vwStatus
  split <;> simp
@[simp] theorem vwValueRead_memories (d) : memories (vwValueRead d) = memories d := by simp [vwValueRead]
@[simp] theorem vwListRead_memories (high d) : memories (vwListRead high d) = memories d := by simp [vwListRead]

/-! ### Machine/Caisson -/

@[simp] theorem csSet_memories (f d) : memories (csSet f d) = memories d := (rfl)
@[simp] theorem fuseBurn_memories (n d) : memories (fuseBurn n d) = memories d := (rfl)
@[simp] theorem commitEnd_memories (n cmd d) : memories (commitEnd n cmd d) = memories d := by simp [commitEnd]
@[simp] theorem settingsNone_memories (s status n bad d) : memories (settingsNone s status n bad d) = memories d := by simp [settingsNone]
@[simp] theorem csPop_memories (d) : memories (csPop d) = memories d := (rfl)
@[simp] theorem csFail_memories (s d) : memories (csFail s d) = memories d := by
  unfold csFail
  repeat' split
  all_goals simp
@[simp] theorem csArrive_memories (s d) : memories (csArrive s d) = memories d := (rfl)
@[simp] theorem csStart_memories (d) : memories (csStart d) = memories d := by
  unfold csStart
  split <;> simp
@[simp] theorem csGood_memories (s d) : memories (csGood s d) = memories d := by
  unfold csGood
  repeat' split
  all_goals simp
@[simp] theorem csBad_memories (s off d) : memories (csBad s off d) = memories d := by simp [csBad]
@[simp] theorem csDone_memories (failAt d) : memories (csDone failAt d) = memories d := by
  unfold csDone
  repeat' split
  all_goals simp
@[simp] theorem settingsRun_memories (c d) : memories (settingsRun c d) = memories d := by simp [settingsRun]
@[simp] theorem settingsExchange_memories (d) : memories (settingsExchange d) = memories d := by simp [settingsExchange]
@[simp] theorem csRequest_memories (cls cycle key value d) : memories (csRequest cls cycle key value d) = memories d := by simp [csRequest]
@[simp] theorem csFormed_memories (cls cycle d) : memories (csFormed cls cycle d) = memories d := by
  unfold csFormed
  split <;> simp
@[simp] theorem csLoadField_memories (key word f d) : memories (csLoadField key word f d) = memories d := by simp [csLoadField]
@[simp] theorem csLoad_memories (b d) : memories (csLoad b d) = memories d := by simp [csLoad]
@[simp] theorem csInvalid_memories (k reason d) : memories (csInvalid k reason d) = memories d := by simp [csInvalid]
@[simp] theorem csTake_memories (k d) : memories (csTake k d) = memories d := by simp [csTake]
@[simp] theorem csChoose_memories (d) : memories (csChoose d) = memories d := by simp [csChoose]

/-! ### Machine/Recorder -/

@[simp] theorem evSet_memories (f d) : memories (evSet f d) = memories d := (rfl)
@[simp] theorem evFloor_memories (r d) : memories (evFloor r d) = memories d := by simp [evFloor]
@[simp] theorem evMessage_memories (d) : memories (evMessage d) = memories d := by simp [evMessage]
@[simp] theorem evNotify_memories (sev d) : memories (evNotify sev d) = memories d := by simp [evNotify]
@[simp] theorem evWrite_memories (e d) : memories (evWrite e d) = memories d := by simp [evWrite]
@[simp] theorem evPop_memories (d) : memories (evPop d) = memories d := by simp [evPop]
@[simp] theorem evStored_memories (e d) : memories (evStored e d) = memories d := by simp [evStored]
@[simp] theorem evMainFail_memories (d) : memories (evMainFail d) = memories d := by simp [evMainFail]
@[simp] theorem evLose_memories (d) : memories (evLose d) = memories d := by simp [evLose]
@[simp] theorem evReserveFail_memories (d) : memories (evReserveFail d) = memories d := by simp [evReserveFail]
@[simp] theorem recordStore_memories (outcome d) : memories (recordStore outcome d) = memories d := by
  unfold recordStore
  split <;> simp
@[simp] theorem evPowerFail_memories (vin d) : memories (evPowerFail vin d) = memories d := by
  simp only [evPowerFail]
  repeat' split
  all_goals simp
@[simp] theorem tokenRefill_memories (code d) : memories (tokenRefill code d) = memories d := by
  unfold tokenRefill
  split <;> simp
@[simp] theorem notifyExpiry_memories (d) : memories (notifyExpiry d) = memories d := by simp [notifyExpiry]
@[simp] theorem evSelWrite_memories (high v d) : memories (evSelWrite high v d) = memories d := by simp [evSelWrite]
@[simp] theorem eventIntake_memories (code pier items d) : memories (eventIntake code pier items d) = memories d := by simp [eventIntake]
@[simp] theorem evRecover_memories (corrupt unreadable d) : memories (evRecover corrupt unreadable d) = memories d := by simp [evRecover]
@[simp] theorem evwWrite_memories (high v d) : memories (evwWrite high v d) = memories d := by simp [evwWrite]
@[simp] theorem evwMove_memories (d) : memories (evwMove d) = memories d := by simp [evwMove]
@[simp] theorem evwRead_memories (off words d) : memories (evwRead off words d) = memories d := by simp [evwRead]

/-! ### Machine/UpdateOps -/

@[simp] theorem updSet_memories (f d) : memories (updSet f d) = memories d := (rfl)
@[simp] theorem updEvent_memories (code items d) : memories (updEvent code items d) = memories d := by simp [updEvent]
@[simp] theorem slotPut_memories (s x d) : memories (slotPut s x d) = memories d := by simp [slotPut]
@[simp] theorem pkgShow_memories (k d) : memories (pkgShow k d) = memories d := by
  unfold pkgShow
  split <;> simp
@[simp] theorem pkgPut_memories (k p d) : memories (pkgPut k p d) = memories d := by simp [pkgPut]
@[simp] theorem pkgSet_memories (k f d) : memories (pkgSet k f d) = memories d := by
  unfold pkgSet
  split <;> simp
@[simp] theorem pkgDrop_memories (k d) : memories (pkgDrop k d) = memories d := by simp [pkgDrop]
@[simp] theorem pkgNew_memories (k m origin from_ dir sender d) : memories (pkgNew k m origin from_ dir sender d) = memories d := by simp [pkgNew]
@[simp] theorem hopSet_memories (k h f d) : memories (hopSet k h f d) = memories d := by simp [hopSet]
@[simp] theorem hopOffer_memories (k h d) : memories (hopOffer k h d) = memories d := by
  unfold hopOffer
  split <;> simp
@[simp] theorem hopStart_memories (k h d) : memories (hopStart k h d) = memories d := by
  unfold hopStart
  repeat' split
  all_goals simp
@[simp] theorem hopPartner_memories (k d) : memories (hopPartner k d) = memories d := by
  unfold hopPartner
  repeat' split
  all_goals simp
@[simp] theorem pkgForward_memories (k dir d) : memories (pkgForward k dir d) = memories d := by simp [pkgForward]
@[simp] theorem hopDone_memories (k h d) : memories (hopDone k h d) = memories d := by
  unfold hopDone
  split <;> simp
@[simp] theorem hopWait_memories (ended k h d) : memories (hopWait ended k h d) = memories d := by
  unfold hopWait
  split <;> simp
@[simp] theorem hopNext_memories (k h d) : memories (hopNext k h d) = memories d := by
  simp only [hopNext]
  repeat' split
  all_goals simp
@[simp] theorem installCmd_memories (cmd status d) : memories (installCmd cmd status d) = memories d := by
  unfold installCmd
  split <;> simp
@[simp] theorem installBegin_memories (k cmd d) : memories (installBegin k cmd d) = memories d := (rfl)
@[simp] theorem installDecide_memories (k cmd auto d) : memories (installDecide k cmd auto d) = memories d := by
  unfold installDecide
  split <;> simp
@[simp] theorem installResume_memories (d) : memories (installResume d) = memories d := by simp [installResume]
@[simp] theorem pkgComplete_memories (k d) : memories (pkgComplete k d) = memories d := by simp [pkgComplete]

/-! ### Machine/Update -/

@[simp] theorem upReply_memories (dest identity code next d) : memories (upReply dest identity code next d) = memories d := (rfl)
@[simp] theorem offerRefuse_memories (dest identity code d) : memories (offerRefuse dest identity code d) = memories d := (rfl)
@[simp] theorem offerForward_memories (k dest dir d) : memories (offerForward k dest dir d) = memories d := by simp [offerForward]
@[simp] theorem offerReceived_memories (dest dir m d) : memories (offerReceived dest dir m d) = memories d := by
  unfold offerReceived
  repeat' split
  all_goals simp
@[simp] theorem chunkReceived_memories (dest identity index data d) : memories (chunkReceived dest identity index data d) = memories d := by
  unfold chunkReceived
  repeat' split
  all_goals simp
@[simp] theorem rateCount_memories (bytes d) : memories (rateCount bytes d) = memories d := by simp [rateCount]
@[simp] theorem rateInterval_memories (k h d) : memories (rateInterval k h d) = memories d := by
  unfold rateInterval
  split <;> simp
@[simp] theorem relayReply_memories (k h code next d) : memories (relayReply k h code next d) = memories d := by
  unfold relayReply
  split <;> simp
@[simp] theorem relayTimeout_memories (k h d) : memories (relayTimeout k h d) = memories d := by
  unfold relayTimeout
  split <;> simp
@[simp] theorem relayWaitExpiry_memories (k h d) : memories (relayWaitExpiry k h d) = memories d := by
  unfold relayWaitExpiry
  repeat' split
  all_goals simp
@[simp] theorem upTopo_memories (d) : memories (upTopo d) = memories d := by
  unfold upTopo
  extract_lets restart
  have hr (k h d) : memories (restart k h d) = memories d := by
    simp only [restart]
    repeat' split
    all_goals simp
  simp [hr]
@[simp] theorem upLink_memories (d) : memories (upLink d) = memories d := by
  refine forEach_memories _ _ _ fun k d => ?_
  split <;> simp
@[simp] theorem stageFail_memories (s status d) : memories (stageFail s status d) = memories d := by
  unfold stageFail
  split <;> simp
theorem stageEntry_memories {m d k t} (h : stageEntry m d = some (k, t)) : memories t = memories d := by
  unfold stageEntry at h
  split at h
  · cases h; simp
  · obtain ⟨_, _, he⟩ := Option.map_eq_some_iff.mp h
    cases he; simp
@[simp] theorem stageStore_memories (c k upto last bad d) : memories (stageStore c k upto last bad d) = memories d := by
  unfold stageStore
  split <;> simp
@[simp] theorem stageRun_memories (c man bad d) : memories (stageRun c man bad d) = memories d := by
  unfold stageRun
  extract_lets off total tag last upto st st' e
  have he : memories e = memories d := rfl
  repeat' split
  all_goals simp [he]
  next h => simp [stageEntry_memories h, he]
@[simp] theorem installDone_memories (fail d) : memories (installDone fail d) = memories d := by
  simp only [installDone]
  repeat' split
  all_goals simp
@[simp] theorem upAfterBoot_memories (d) : memories (upAfterBoot d) = memories d := by
  simp only [upAfterBoot]
  repeat' split
  all_goals simp
@[simp] theorem withPackage_memories (c f d) (h : ∀ k, memories (f k d) = memories d) : memories (withPackage c f d) = memories d := by
  unfold withPackage
  split <;> simp [h]
@[simp] theorem relayStart_memories (c d) : memories (relayStart c d) = memories d := by simp [relayStart]
@[simp] theorem relayStop_memories (c d) : memories (relayStop c d) = memories d := by simp [relayStop]
@[simp] theorem relayInstall_memories (c d) : memories (relayInstall c d) = memories d := by simp [relayInstall]
@[simp] theorem relayDelete_memories (c d) : memories (relayDelete c d) = memories d := by simp [relayDelete]
@[simp] theorem relayActivate_memories (c d) : memories (relayActivate c d) = memories d := by simp [relayActivate]
@[simp] theorem relayCommit_memories (c d) : memories (relayCommit c d) = memories d := by simp [relayCommit]
@[simp] theorem relayStatus_memories (c d) : memories (relayStatus c d) = memories d := by simp [relayStatus]
@[simp] theorem ttdpFrame_memories (r d) : memories (ttdpFrame r d) = memories d := by simp [ttdpFrame]

/-! ### Machine/Accept -/

@[simp] theorem acceptNote_memories (s x cs d) : memories (acceptNote s x cs d) = memories d := by simp [acceptNote]
@[simp] theorem hostAccept_memories (ring x payload cs partner d) : memories (hostAccept ring x payload cs partner d) = memories d := by
  simp [hostAccept]
@[simp] theorem hostReject_memories (ring x status d) : memories (hostReject ring x status d) = memories d := by simp [hostReject]
@[simp] theorem resubmitted_memories (n x d) : memories (resubmitted n x d) = memories d := by
  unfold resubmitted
  repeat' split
  all_goals simp
@[simp] theorem descTake_memories (n x payload cs d) : memories (descTake n x payload cs d) = memories d := by
  simp only [descTake]
  repeat' split
  all_goals simp
@[simp] theorem descMove_memories (n x d) : memories (descMove n x d) = memories d := by simp [descMove]
@[simp] theorem descFetch_memories (x payload cs d) : memories (descFetch x payload cs d) = memories d := by
  unfold descFetch
  split <;> simp
@[simp] theorem mirrorConfirm_memories (s d) : memories (mirrorConfirm s d) = memories d := by
  unfold mirrorConfirm
  split <;> simp
@[simp] theorem mirrorTimeout_memories (s d) : memories (mirrorTimeout s d) = memories d := by
  unfold mirrorTimeout
  split <;> simp
@[simp] theorem payloadDone_memories (s payload d) : memories (payloadDone s payload d) = memories d := by
  unfold payloadDone
  split <;> simp
@[simp] theorem forwardedTake_memories (n x payload cs d) : memories (forwardedTake n x payload cs d) = memories d := by
  simp only [forwardedTake]
  repeat' split
  all_goals simp
@[simp] theorem forwardedRejected_memories (n id status d) : memories (forwardedRejected n id status d) = memories d := by
  unfold forwardedRejected
  split <;> simp
@[simp] theorem journalReported_memories (s crc d) : memories (journalReported s crc d) = memories d := by simp [journalReported]
@[simp] theorem loenpaFrame_memories (f d) : memories (loenpaFrame f d) = memories d := by
  unfold loenpaFrame
  split <;> simp

/-! ### Machine/Execute -/

@[simp] theorem cmdRun_memories (s p f d) (h : ∀ c, memories (f c d) = memories d) : memories (cmdRun s p f d) = memories d := by
  unfold cmdRun
  split <;> simp [h]
@[simp] theorem cmdWait_memories (s d) : memories (cmdWait s d) = memories d := (rfl)
@[simp] theorem cmdToClass_memories (s cls d) : memories (cmdToClass s cls d) = memories d := (rfl)
@[simp] theorem changeLoad_memories (again c d) : memories (changeLoad again c d) = memories d := by
  unfold changeLoad
  split <;> simp
@[simp] theorem changeRevert_memories (c d) : memories (changeRevert c d) = memories d := by
  unfold changeRevert
  split <;> simp
@[simp] theorem changeAct_memories (c d) : memories (changeAct c d) = memories d := by
  unfold changeAct
  split <;> simp
@[simp] theorem changeStatusRun_memories (c d) : memories (changeStatusRun c d) = memories d := by simp [changeStatusRun]
@[simp] theorem changeFetched_memories (hashOk d) : memories (changeFetched hashOk d) = memories d := by
  unfold changeFetched
  split <;> simp
@[simp] theorem loadImage_memories (check img c d) : memories (loadImage check img c d) = memories d := by simp [loadImage]
@[simp] theorem activateImage_memories (c d) : memories (activateImage c d) = memories d := by
  simp only [activateImage]
  repeat' split
  all_goals simp
@[simp] theorem varsToClass_memories (c d) : memories (varsToClass c d) = memories d := (rfl)
@[simp] theorem readVars_memories (c d) : memories (readVars c d) = memories d := by simp [readVars]
@[simp] theorem journalQuery_memories (c d) : memories (journalQuery c d) = memories d := by simp [journalQuery]
@[simp] theorem checkpointNow_memories (c d) : memories (checkpointNow c d) = memories d := by simp [checkpointNow]
@[simp] theorem checkpointRead_memories (c d) : memories (checkpointRead c d) = memories d := by simp [checkpointRead]
@[simp] theorem sendMd_memories (c d) : memories (sendMd c d) = memories d := by simp [sendMd]
@[simp] theorem relayRun_memories (f c d) (h : ∀ d, memories (f c d) = memories d) : memories (relayRun f c d) = memories d := by
  simp [relayRun, h]
@[simp] theorem stageUpdate_memories (man bad c d) : memories (stageUpdate man bad c d) = memories d := by simp [stageUpdate]
@[simp] theorem setEpoch_memories (c d) : memories (setEpoch c d) = memories d := by simp [setEpoch]
@[simp] theorem armSlice_memories (p x d) : memories (armSlice p x d) = memories d := by simp [armSlice]
@[simp] theorem armOutputs_memories (p cls n d) : memories (armOutputs p cls n d) = memories d := by simp [armOutputs]
@[simp] theorem modeAgreed_memories (c d) : memories (modeAgreed c d) = memories d := by simp [modeAgreed]
@[simp] theorem itemsWrite_memories (items d) : memories (itemsWrite items d) = memories d := by simp [itemsWrite]
@[simp] theorem editAgreed_memories (cls c d) : memories (editAgreed cls c d) = memories d := by simp [editAgreed]
@[simp] theorem cmdAgreed_memories (cls n c d) : memories (cmdAgreed cls n c d) = memories d := by
  unfold cmdAgreed
  repeat' split
  all_goals simp
@[simp] theorem cmdsAgree_memories (cls n d) : memories (cmdsAgree cls n d) = memories d := by simp [cmdsAgree]
@[simp] theorem cmdsReturn_memories (cls n d) : memories (cmdsReturn cls n d) = memories d := (rfl)
@[simp] theorem exchangeAgree_memories (kind d) : memories (exchangeAgree kind d) = memories d := by simp [exchangeAgree]
@[simp] theorem cmdsAgain_memories (d) : memories (cmdsAgain d) = memories d := by simp [cmdsAgain]
@[simp] theorem modeToClass_memories (c d) : memories (modeToClass c d) = memories d := (rfl)
@[simp] theorem armToClass_memories (c d) : memories (armToClass c d) = memories d := (rfl)
@[simp] theorem exchange_memories (vals d) : memories (exchange vals d) = memories d := by simp [exchange]

/-! ### Machine/Power -/

@[simp] theorem hmSet_memories (f d) : memories (hmSet f d) = memories d := (rfl)
@[simp] theorem vinLow_memories (mv d) : memories (vinLow mv d) = memories d := by simp [vinLow]
@[simp] theorem holdupEnd_memories (d) : memories (holdupEnd d) = memories d := by simp [holdupEnd]
@[simp] theorem holdupRestored_memories (d) : memories (holdupRestored d) = memories d := by simp [holdupRestored]
@[simp] theorem holdupTimeout_memories (mv d) : memories (holdupTimeout mv d) = memories d := by simp [holdupTimeout]
@[simp] theorem railsOff_memories (d) : memories (railsOff d) = memories d := by simp [railsOff]
@[simp] theorem vinThreshold_memories (above d) : memories (vinThreshold above d) = memories d := by simp [vinThreshold]
@[simp] theorem warnOne_memories (bit mark reading met inside d) : memories (warnOne bit mark reading met inside d) = memories d := by simp [warnOne]
@[simp] theorem tempRead_memories (n v d) : memories (tempRead n v d) = memories d := by simp [tempRead]
@[simp] theorem railRead_memories (n v d) : memories (railRead n v d) = memories d := by simp [railRead]
@[simp] theorem procWarn_memories (n d) : memories (procWarn n d) = memories d := by simp [procWarn]
@[simp] theorem hmRound_memories (refOk reference temps volts d) : memories (hmRound refOk reference temps volts d) = memories d := by simp [hmRound]
@[simp] theorem hmProcEval_memories (counts d) : memories (hmProcEval counts d) = memories d := by simp [hmProcEval]
@[simp] theorem alarmRaise_memories (bit reading pier d) : memories (alarmRaise bit reading pier d) = memories d := by
  unfold alarmRaise
  split <;> simp
@[simp] theorem tempAlarm_memories (n d) : memories (tempAlarm n d) = memories d := by simp [tempAlarm]
@[simp] theorem railAlarm_memories (n d) : memories (railAlarm n d) = memories d := by simp [railAlarm]
@[simp] theorem liveCleared_memories (bit d) : memories (liveCleared bit d) = memories d := by simp [liveCleared]
@[simp] theorem limitWrite_memories (l word d) : memories (limitWrite l word d) = memories d := by
  unfold limitWrite
  split
  · exact foldl_memories _ _ _ fun _ _ => rfl
  · rfl
@[simp] theorem thresholdWrite_memories (kind n word d) : memories (thresholdWrite kind n word d) = memories d := by simp [thresholdWrite]
@[simp] theorem posChanged_memories (now d) : memories (posChanged now d) = memories d := by simp [posChanged]
@[simp] theorem permitChange_memories (v d) : memories (permitChange v d) = memories d := by simp [permitChange]
@[simp] theorem opSecondsSave_memories (d) : memories (opSecondsSave d) = memories d := (rfl)
@[simp] theorem autorunStart_memories (d) : memories (autorunStart d) = memories d := by simp [autorunStart]

/-! ### Machine/Reset -/

@[simp] theorem porRelease_memories (railsOk d) : memories (porRelease railsOk d) = memories d := by simp [porRelease]
@[simp] theorem crossingResync_memories (c side dropped d) : memories (crossingResync c side dropped d) = memories d := by simp [crossingResync]
@[simp] theorem ringRest_memories (n d) : memories (ringRest n d) = memories d := by simp [ringRest]
@[simp] theorem windowsRest_memories (d) : memories (windowsRest d) = memories d := (rfl)
@[simp] theorem pcieRest_memories (d) : memories (pcieRest d) = memories d := by simp [pcieRest]
@[simp] theorem pcieReset_memories (dropped d) : memories (pcieReset dropped d) = memories d := by simp [pcieReset]
@[simp] theorem d3Return_memories (dropped d) : memories (d3Return dropped d) = memories d := by simp [d3Return]

/-! ### Machine/Clocks -/

@[simp] theorem ckrSet_memories (f d) : memories (ckrSet f d) = memories d := (rfl)
@[simp] theorem crossingsResync_memories (l dropped d) : memories (crossingsResync l dropped d) = memories d := by simp [crossingsResync]
@[simp] theorem lossReact_memories (dom inst gm r d) : memories (lossReact dom inst gm r d) = memories d := by
  unfold lossReact
  split <;> simp
@[simp] theorem clockLoss_memories (dom inst freq gm r d) : memories (clockLoss dom inst freq gm r d) = memories d := by simp [clockLoss]
@[simp] theorem clockTolerance_memories (dom inst ppm freq d) : memories (clockTolerance dom inst ppm freq d) = memories d := by simp [clockTolerance]
@[simp] theorem clockReturn_memories (dom inst freq dropped d) : memories (clockReturn dom inst freq dropped d) = memories d := by simp [clockReturn]
@[simp] theorem snapshotGo_memories (domains d) : memories (snapshotGo domains d) = memories d := by simp [snapshotGo]
@[simp] theorem snapshotDone_memories (counts d) : memories (snapshotDone counts d) = memories d := by simp [snapshotDone]
@[simp] theorem resyncSelftestDone_memories (fail dropped d) : memories (resyncSelftestDone fail dropped d) = memories d := by
  simp [resyncSelftestDone]
@[simp] theorem laneTrained_memories (lane pos leaseMs guardMs image gen proto dropped d) :
    memories (laneTrained lane pos leaseMs guardMs image gen proto dropped d) = memories d := by
  simp [laneTrained]

/-! ### Machine/FieldIo -/

@[simp] theorem diCapture_memories (p i stamp d) : memories (diCapture p i stamp d) = memories d := by simp [diCapture]
@[simp] theorem diSampleOne_memories (p raw i d) : memories (diSampleOne p raw i d) = memories d := by simp [diSampleOne]
@[simp] theorem rbSampleOne_memories (p raw n d) : memories (rbSampleOne p raw n d) = memories d := by simp [rbSampleOne]
@[simp] theorem diSample_memories (di rb sw d) : memories (diSample di rb sw d) = memories d := by simp [diSample]
@[simp] theorem fsMeasureOne_memories (p k mv d) : memories (fsMeasureOne p k mv d) = memories d := (rfl)
@[simp] theorem fsReview_memories (k d) : memories (fsReview k d) = memories d := by
  unfold fsReview
  split <;> simp
@[simp] theorem fsMeasurement_memories (fs1 fs2 d) : memories (fsMeasurement fs1 fs2 d) = memories d := by simp [fsMeasurement]
@[simp] theorem fsDeferred_memories (k d) : memories (fsDeferred k d) = memories d := by
  unfold fsDeferred
  split <;> simp
@[simp] theorem fioLegWr_memories (p value d) : memories (fioLegWr p value d) = memories d := by simp [fioLegWr]
@[simp] theorem fioLegWrAtLaunch_memories (p cls value d) : memories (fioLegWrAtLaunch p cls value d) = memories d := by simp [fioLegWrAtLaunch]
@[simp] theorem extTimeout_memories (p n d) : memories (extTimeout p n d) = memories d := by simp [extTimeout]
@[simp] theorem overloadSet_memories (n d) : memories (overloadSet n d) = memories d := by simp [overloadSet]
@[simp] theorem overloadClear_memories (n d) : memories (overloadClear n d) = memories d := by simp [overloadClear]
@[simp] theorem thermalShutdown_memories (n d) : memories (thermalShutdown n d) = memories d := by simp [thermalShutdown]
@[simp] theorem thermalRearm_memories (n d) : memories (thermalRearm n d) = memories d := by simp [thermalRearm]
@[simp] theorem sliceClockStop_memories (p d) : memories (sliceClockStop p d) = memories d := (rfl)

/-! ### Machine/Access -/

@[simp] theorem hostAny_memories (f d) (h : memories (f d) = memories d) : memories (hostAny f d) = memories d := by simp [hostAny, h]
@[simp] theorem hostWhole_memories (f d) (h : memories (f d) = memories d) : memories (hostWhole f d) = memories d := by simp [hostWhole, h]
@[simp] theorem barAccess_memories (bar off read d) : memories (barAccess bar off read d) = memories d := by simp [barAccess]
@[simp] theorem fldStore_memories (f v d) : memories (fldStore f v d) = memories d := by
  unfold fldStore
  split <;> simp
@[simp] theorem plainWrite_memories (h w d) : memories (plainWrite h w d) = memories d := by simp [plainWrite]
@[simp] theorem tuWrite_memories (off w h d) : memories (tuWrite off w h d) = memories d := by simp [tuWrite]
@[simp] theorem hmWrite_memories (off w h d) : memories (hmWrite off w h d) = memories d := by simp [hmWrite]
@[simp] theorem cwWrite_memories (off w h d) : memories (cwWrite off w h d) = memories d := by simp [cwWrite]
@[simp] theorem votedWrite_memories (a w h d) : memories (votedWrite a w h d) = memories d := by
  unfold votedWrite
  split <;> simp
@[simp] theorem fioWrite_memories (p off w h d) : memories (fioWrite p off w h d) = memories d := by simp [fioWrite]
@[simp] theorem trigCtlWrite_memories (p k w h d) : memories (trigCtlWrite p k w h d) = memories d := by simp [trigCtlWrite]
@[simp] theorem ptWrite_memories (p off w h d) : memories (ptWrite p off w h d) = memories d := by simp [ptWrite]
@[simp] theorem pierWrite_memories (p a w h d) : memories (pierWrite p a w h d) = memories d := by simp [pierWrite]
@[simp] theorem sqWrite_memories (n o w d) : memories (sqWrite n o w d) = memories d := by simp [sqWrite]
@[simp] theorem cqWriteReg_memories (n o w d) : memories (cqWriteReg n o w d) = memories d := by simp [cqWriteReg]
@[simp] theorem msixWrite_memories (v j w d) : memories (msixWrite v j w d) = memories d := by
  unfold msixWrite
  split <;> simp
@[simp] theorem bar0Write_memories (off w d) : memories (bar0Write off w d) = memories d := by
  unfold bar0Write
  repeat' split
  all_goals simp
@[simp] theorem bar2Write_memories (off w d) : memories (bar2Write off w d) = memories d := by
  unfold bar2Write
  repeat' split
  all_goals simp
@[simp] theorem capture_memories (side a v d) : memories (capture side a v d) = memories d := (rfl)
@[simp] theorem captureLow_memories (side a h d) : memories (captureLow side a h d) = memories d := by simp [captureLow]
@[simp] theorem readClear_memories (side a h d) : memories (readClear side a h d) = memories d := by simp [readClear]
@[simp] theorem plainRead_memories (side a h d) : memories (plainRead side a h d) = memories d := by simp [plainRead]
theorem ownRead_memories {side a d t} (h : ownRead side a d = some t) : memories t = memories d := by
  unfold ownRead at h
  dsimp only at h
  split_ifs at h
  all_goals
    obtain rfl := Option.some.inj h
    simp
theorem bar2Read_memories {off d t} (h : bar2Read off d = some t) : memories t = memories d := by
  unfold bar2Read at h
  split_ifs at h
  all_goals
    obtain rfl := Option.some.inj h
    simp
@[simp] theorem barRead_memories (side off d) : memories (barRead side off d) = memories d := by
  unfold barRead
  extract_lets bar
  by_cases hr : barReserved d bar off = true
  · simp [hr]
  · rw [if_neg hr]
    split
    · next h =>
      obtain ⟨-, h⟩ := Option.ite_none_right_eq_some.mp h
      exact bar2Read_memories h
    · split <;> simp
@[simp] theorem registerRead_memories (side a d) : memories (registerRead side a d) = memories d := by
  unfold registerRead
  split_ifs
  · rfl
  · simp
  · rfl
  · split
    · next h => exact ownRead_memories h
    · split <;> simp
@[simp] theorem reg64LoRead_memories (side a d) : memories (reg64LoRead side a d) = memories d := by
  unfold reg64LoRead
  split <;> simp
@[simp] theorem widthViolation_memories (who a width read d) : memories (widthViolation who a width read d) = memories d := by simp [widthViolation]
@[simp] theorem decodeError_memories (who a width read seg cycle kind core d) :
    memories (decodeError who a width read seg cycle kind core d) = memories d := by
  unfold decodeError
  repeat' split
  all_goals simp

/-! ### Machine/Piers -/

@[simp] theorem mbPut_memories (cls s d) : memories (mbPut cls s d) = memories d := (rfl)
@[simp] theorem inputsStore_memories (cls cycle d) : memories (inputsStore cls cycle d) = memories d := by simp [inputsStore]
@[simp] theorem streamsOpen_memories (cls cycle d) : memories (streamsOpen cls cycle d) = memories d := by simp [streamsOpen]
@[simp] theorem mbChange_memories (cls cycle partner changes d) : memories (mbChange cls cycle partner changes d) = memories d := by simp [mbChange]
@[simp] theorem mbInputs_memories (cls cycle status d) : memories (mbInputs cls cycle status d) = memories d := by simp [mbInputs]
@[simp] theorem mbAccept_memories (cls cycle status changes d) : memories (mbAccept cls cycle status changes d) = memories d := by
  simp only [mbAccept]
  split <;> simp
@[simp] theorem mbSplit_memories (cls cycle changes d) : memories (mbSplit cls cycle changes d) = memories d := by simp [mbSplit]
@[simp] theorem mbFirst_memories (cls s d) : memories (mbFirst cls s d) = memories d := by
  simp only [mbFirst]
  repeat' split
  all_goals simp
@[simp] theorem mbSecond_memories (cls s d) : memories (mbSecond cls s d) = memories d := by
  simp only [mbSecond]
  split <;> simp
@[simp] theorem mbClose_memories (cls crcOk s d) : memories (mbClose cls crcOk s d) = memories d := by simp [mbClose]
@[simp] theorem mbEnter_memories (p cls c crcOk s d) : memories (mbEnter p cls c crcOk s d) = memories d := by simp [mbEnter]
@[simp] theorem mbLate_memories (p cls cycle d) : memories (mbLate p cls cycle d) = memories d := by simp [mbLate]
@[simp] theorem mailboxPost_memories (p cls c crcOk d) : memories (mailboxPost p cls c crcOk d) = memories d := by
  unfold mailboxPost
  repeat' split
  all_goals simp
@[simp] theorem mailboxWait_memories (cls crcOk d) : memories (mailboxWait cls crcOk d) = memories d := by
  unfold mailboxWait
  split <;> simp
@[simp] theorem mailboxDeadline_memories (cls cycle d) : memories (mailboxDeadline cls cycle d) = memories d := by
  unfold mailboxDeadline
  split <;> simp
@[simp] theorem slotsReview_memories (d) : memories (slotsReview d) = memories d := by
  refine forEach_memories _ _ _ fun cls d => ?_
  split <;> simp
@[simp] theorem actsRun_memories (p g cycle l out d) : memories (actsRun p g cycle l out d).2.2 = memories d := by
  induction l generalizing out d with
  | nil => rfl
  | cons a r ih =>
    unfold actsRun
    repeat' split
    all_goals simp [ih]
@[simp] theorem segsRun_memories (p cycle runs l out d) : memories (segsRun p cycle runs l out d).2.2 = memories d := by
  induction l generalizing out d with
  | nil => rfl
  | cons g r ih =>
    unfold segsRun
    dsimp only
    repeat' split
    all_goals simp [ih]
@[simp] theorem outEnd_memories (p s d) : memories (outEnd p s d) = memories d := by
  unfold outEnd
  split <;> simp
@[simp] theorem outboundPost_memories (p q d) : memories (outboundPost p q d) = memories d := by
  unfold outboundPost
  repeat' split
  all_goals simp

/-! ### Machine/ReleaseOps -/

@[simp] theorem reqDiscard_memories (part q reason d) : memories (reqDiscard part q reason d) = memories d := by simp [reqDiscard]
theorem relGirder_memories {part q d t} (h : relGirder part q d = some t) : memories t = memories d := by
  unfold relGirder at h
  split_ifs at h <;> cases h <;> simp
@[simp] theorem relMd_memories (q d) : memories (relMd q d) = memories d := by simp [relMd]
@[simp] theorem relTrestle_memories (part q d) : memories (relTrestle part q d) = memories d := by
  unfold relTrestle
  repeat' split
  all_goals simp
@[simp] theorem relHost_memories (q d) : memories (relHost q d) = memories d := by
  unfold relHost
  split <;> simp
@[simp] theorem relEvent_memories (q d) : memories (relEvent q d) = memories d := by
  unfold relEvent
  split <;> simp
@[simp] theorem relPop_memories (d) : memories (relPop d) = memories d := (rfl)
@[simp] theorem sigTake_memories (p cls cycle part flip t upto final agree d) :
    memories (sigTake p cls cycle part flip t upto final agree d) = memories d := by
  unfold sigTake
  split <;> simp
@[simp] theorem sigResume_memories (p d) : memories (sigResume p d) = memories d := by
  unfold sigResume
  split <;> simp
@[simp] theorem tokenTimeout_memories (cls cycle seq d) : memories (tokenTimeout cls cycle seq d) = memories d := by simp [tokenTimeout]

/-! ### Machine/Cycle -/

@[simp] theorem epochTick_memories (t d) : memories (epochTick t d) = memories d := by
  simp only [epochTick]
  repeat' split
  all_goals simp
@[simp] theorem breakTake_memories (d) : memories (breakTake d) = memories d := by simp [breakTake]
@[simp] theorem stepEnd_memories (d) : memories (stepEnd d) = memories d := by
  simp only [stepEnd]
  repeat' split
  all_goals simp
@[simp] theorem schedTick_memories (t d) : memories (schedTick t d).2 = memories d := by
  unfold schedTick
  split_ifs <;> simp
@[simp] theorem stepCount_memories (c d) : memories (stepCount c d) = memories d := by simp [stepCount]
@[simp] theorem classStart_memories (st t c d) : memories (classStart st t c d) = memories d := by
  simp only [classStart]
  split_ifs <;> simp
@[simp] theorem cyclesTick_memories (st t d) : memories (cyclesTick st t d) = memories d := by simp [cyclesTick]
@[simp] theorem positionsLatch_memories (d) : memories (positionsLatch d) = memories d := by simp [positionsLatch]
@[simp] theorem tickClock_memories (t d) : memories (tickClock t d) = memories d := by simp [tickClock]
@[simp] theorem tickUnits_memories (t d) : memories (tickUnits t d) = memories d := by simp [tickUnits]
@[simp] theorem tick_memories (d) : memories (tick d) = memories d := by
  simp only [tick]
  repeat' split
  all_goals simp
@[simp] theorem housekeeping_memories (d) : memories (housekeeping d) = memories d := by simp [housekeeping]
@[simp] theorem programOverrun_memories (cls cycle w posted other d) : memories (programOverrun cls cycle w posted other d) = memories d := by
  unfold programOverrun
  split <;> simp
@[simp] theorem watchdog_memories (cls cycle other d) : memories (watchdog cls cycle other d) = memories d := by
  simp only [watchdog]
  repeat' split
  all_goals simp

/-! ### Machine/Legacy -/

@[simp] theorem mvbContent_memories (m f d) : memories (mvbContent m f d) = memories d := by
  unfold mvbContent
  repeat' split
  all_goals simp
@[simp] theorem mvbFrame_memories (m line f d) : memories (mvbFrame m line f d) = memories d := by
  unfold mvbFrame
  repeat' split
  all_goals simp
@[simp] theorem mvbSinkTimeout_memories (m d) : memories (mvbSinkTimeout m d) = memories d := by simp [mvbSinkTimeout]
@[simp] theorem wtbFrame_memories (f d) : memories (wtbFrame f d) = memories d := by
  unfold wtbFrame
  repeat' split
  all_goals simp
@[simp] theorem wtbSwitchWait_memories (d) : memories (wtbSwitchWait d) = memories d := by
  unfold wtbSwitchWait
  split <;> simp
@[simp] theorem wtbSwitchTimeout_memories (d) : memories (wtbSwitchTimeout d) = memories d := by simp [wtbSwitchTimeout]
@[simp] theorem canErrors_memories (n tec rec_ d) : memories (canErrors n tec rec_ d) = memories d := by simp [canErrors]
@[simp] theorem canFrame_memories (c f d) : memories (canFrame c f d) = memories d := by
  simp only [canFrame]
  repeat' split
  all_goals simp
@[simp] theorem canWithdraw_memories (n s late d) : memories (canWithdraw n s late d) = memories d := by simp [canWithdraw]
@[simp] theorem canLaunch_memories (c obj late d) : memories (canLaunch c obj late d) = memories d := by
  simp only [canLaunch]
  split <;> simp
@[simp] theorem canLateLimit_memories (c obj d) : memories (canLateLimit c obj d) = memories d := by
  unfold canLateLimit
  split <;> simp
@[simp] theorem canRecover_memories (c d) : memories (canRecover c d) = memories d := by simp [canRecover]
@[simp] theorem heartbeatTimeout_memories (c node d) : memories (heartbeatTimeout c node d) = memories d := by
  unfold heartbeatTimeout
  repeat' split
  all_goals simp

/-! ### Machine/Boot -/

@[simp] theorem trialCount_memories (d) : memories (trialCount d) = memories d := by
  unfold trialCount
  split <;> simp
@[simp] theorem bootParams_memories (pos corrupt unreadable d) : memories (bootParams pos corrupt unreadable d) = memories d := by simp [bootParams]
@[simp] theorem bootPiers_memories (l d) : memories (bootPiers l d) = memories d := by simp [bootPiers]
@[simp] theorem bootPair_memories (u m d) : memories (bootPair u m d) = memories d := by simp [bootPair]
@[simp] theorem bootTests_memories (t d) : memories (bootTests t d) = memories d := by
  unfold bootTests
  repeat' split
  all_goals simp
@[simp] theorem bootSettings_memories (d) : memories (bootSettings d) = memories d := by simp [bootSettings]
@[simp] theorem slotRefuse_memories (s reason d) : memories (slotRefuse s reason d) = memories d := by simp [slotRefuse]
@[simp] theorem slotBoot_memories (s d) : memories (slotBoot s d) = memories d := (rfl)
@[simp] theorem bootFirmware_memories (a b d) : memories (bootFirmware a b d) = memories d := by simp [bootFirmware]
@[simp] theorem bootUnits_memories (d) : memories (bootUnits d) = memories d := by simp [bootUnits]
@[simp] theorem bootStep9_memories (d) : memories (bootStep9 d) = memories d := by simp [bootStep9]
@[simp] theorem bootImage_memories (check d) : memories (bootImage check d) = memories d := by
  simp only [bootImage]
  repeat' split
  all_goals simp
@[simp] theorem bootMode_memories (sigs d) : memories (bootMode sigs d) = memories d := by simp [bootMode]
@[simp] theorem bootEnd_memories (sigs d) : memories (bootEnd sigs d) = memories d := by
  simp only [bootEnd]
  split <;> simp
@[simp] theorem bootWork_memories (r d) : memories (bootWork r d) = memories d := by
  unfold bootWork
  split <;> simp
@[simp] theorem bootStep_memories (r d) : memories (bootStep r d) = memories d := by simp [bootStep]
@[simp] theorem roleWaitExpiry_memories (d) : memories (roleWaitExpiry d) = memories d := by simp [roleWaitExpiry]

end Sys2Proof.Machine
end

section
/-!
SUPPORT. The operations that write Deck memory or a snapshot buffer keep the canonical form, and so does every command: O6, and with the
same inversion of `exec` O2.
-/
namespace Sys2Proof.Machine

/-! ## Register writes from any side but the Deck's -/

/-- Only a Deck write reaches MCTL_RESET, so a write from any other side leaves the memories alone (R20, R76). -/
theorem registerWrite_memories {side} (hs : side ≠ .deck) (a word d) : memories (registerWrite side a word d) = memories d := by
  unfold registerWrite
  split
  · rfl
  cases side with
  | deck => exact absurd rfl hs
  | bar0 => simp
  | bar2 => simp
  | voted =>
    dsimp only
    split
    · rfl
    · split <;> simp
  | pier p =>
    dsimp only
    split <;> simp
@[simp] theorem sliceSet_memories (p off value d) : memories (sliceSet p off value d) = memories d :=
  registerWrite_memories (by simp) _ _ _
@[simp] theorem relRegister_memories (q d) : memories (relRegister q d) = memories d := by
  unfold relRegister
  dsimp only
  split
  · simp
  · exact registerWrite_memories (by simp) _ _ _
theorem relPerform_memories {part q d t} (h : relPerform part q d = some t) : memories t = memories d := by
  unfold relPerform at h
  split at h
  case h_1 => exact relGirder_memories h
  all_goals
    obtain rfl := Option.some.inj h
    simp
@[simp] theorem outPost_memories (p cls cycle n d) : memories (outPost p cls cycle n d) = memories d := by
  induction n generalizing d with
  | zero => rfl
  | succ n ih =>
    unfold outPost
    split
    · rfl
    split
    · rfl
    dsimp only
    split <;> simp [ih]
@[simp] theorem outResume_memories (p d) : memories (outResume p d) = memories d := by
  unfold outResume
  extract_lets one e
  have he : memories e = memories d := foldl_memories _ _ _ fun d q => by simp [one]
  simp [he]
@[simp] theorem piersResume_memories (d) : memories (piersResume d) = memories d := by simp [piersResume]
@[simp] theorem outputPhase_memories (p cls cycle runs drive legs d) : memories (outputPhase p cls cycle runs drive legs d) = memories d := by
  unfold outputPhase
  dsimp only
  split <;> simp

/-! ## Operations that keep the form -/

/-- The form is one of the memories alone. -/
theorem memoryForm_of_memories {d t : Dev} (h : memories t = memories d) (hd : memoryForm d) : memoryForm t := by
  simp only [memories, Prod.mk.injEq] at h
  obtain ⟨hmem, hsnap⟩ := h
  rwa [memoryForm, hmem, hsnap]
/-- An operation keeps the form of Deck memory and snapshot buffers. -/
def KeepsForm (f : Dev → Dev) : Prop := ∀ d, memoryForm d → memoryForm (f d)
theorem KeepsForm.of_memories {f : Dev → Dev} (h : ∀ d, memories (f d) = memories d) : KeepsForm f :=
  fun d => memoryForm_of_memories (h d)
theorem KeepsForm.comp {f g : Dev → Dev} (hg : KeepsForm g) (hf : ∀ d, memories (f d) = memories d) : KeepsForm fun d => g (f d) :=
  fun d hd => hg _ (memoryForm_of_memories (hf d) hd)

/-! ## Commits, snapshots and releases -/

theorem snapshotTimer_keepsForm : KeepsForm snapshotTimer := by
  intro d hd
  unfold snapshotTimer
  dsimp only
  split
  · exact snapshotWrite_form hd
  · exact hd
theorem foldl_putBytes_wf (l : List (Nat × List Byte)) {m : Memory} (h : Memory.wf m = true) :
    Memory.wf (l.foldl (fun m e => Memory.putBytes m e.1 e.2) m) = true := by
  induction l generalizing m with
  | nil => exact h
  | cons e r ih => exact ih (Memory.putBytes_wf h e.1 e.2)
theorem commitImage_keepsForm (c) : KeepsForm (commitImage c) := by
  intro d hd
  unfold commitImage
  extract_lets l d1 d2
  have h2 : memoryForm d2 := by
    obtain ⟨hmem, hsnap⟩ := hd
    exact ⟨foldl_putBytes_wf l hmem, hsnap⟩
  split
  · exact snapshotWrite_form h2
  · exact h2
theorem cycleReleased_keepsForm (c n) : KeepsForm (cycleReleased c n) := by
  intro d hd
  unfold cycleReleased
  split
  · exact commitImage_keepsForm c d hd
  · extract_lets e late t
    have he : memoryForm e := commitImage_keepsForm c _ (memoryForm_of_memories (by simp) hd)
    exact memoryForm_of_memories (by simp [t]) he
theorem relFinal_keepsForm (cls cycle) : KeepsForm (relFinal cls cycle) := by
  intro d hd
  refine memoryForm_of_memories (d := cycleReleased cls cycle (csFormed cls cycle d)) (by simp [relFinal]) ?_
  exact cycleReleased_keepsForm cls cycle _ (memoryForm_of_memories (by simp) hd)
theorem relRun_keepsForm (n) : KeepsForm (relRun n) := by
  induction n with
  | zero => exact fun _ hd => hd
  | succ n ih =>
    intro d hd
    unfold relRun
    split
    · exact hd
    split
    · exact hd
    · next final _ _ =>
      apply ih
      split
      · exact relFinal_keepsForm _ _ _ (memoryForm_of_memories (by simp) hd)
      · exact memoryForm_of_memories (by simp) hd
    · split
      · split
        · exact memoryForm_of_memories (by simp) hd
        split
        · next h => exact ih _ (memoryForm_of_memories ((relPerform_memories h).trans (by simp)) hd)
        · exact memoryForm_of_memories (by simp) hd
      · exact hd
theorem settleOnce_keepsForm : KeepsForm settleOnce := by
  intro d hd
  unfold settleOnce
  split
  · exact hd
  · exact relRun_keepsForm _ _ (memoryForm_of_memories (by simp) hd)
theorem settleN_keepsForm (n) : KeepsForm (settleN n) := by
  induction n with
  | zero => exact settleOnce_keepsForm
  | succ n ih =>
    intro d hd
    have h1 := settleOnce_keepsForm d hd
    unfold settleN
    dsimp only
    split
    · exact h1
    · exact ih _ (memoryForm_of_memories (by simp) h1)
theorem settle_keepsForm : KeepsForm settle := fun d => settleN_keepsForm _ d
theorem releaseToken_keepsForm (second cls cycle seq err) : KeepsForm (releaseToken second cls cycle seq err) :=
  settle_keepsForm.comp (fun d => by simp)
theorem signaturePosted_keepsForm (p cls cycle part flip t upto final agree) :
    KeepsForm (signaturePosted p cls cycle part flip t upto final agree) := by
  intro d hd
  unfold signaturePosted
  dsimp only
  split
  · exact settle_keepsForm _ (memoryForm_of_memories (by simp) hd)
  · exact settle_keepsForm _ (memoryForm_of_memories (by simp) hd)

/-! ## Resets -/

/-- After a module reset Deck SDRAM holds what it held, unless the reset was a POR; all else reads 0 (R77). -/
theorem moduleReset_memories (kind d) : memories (moduleReset kind d) =
    (if kind = 0 then [] else d.mem.filter fun c => decide (deckSdram ≤ c.1), [], []) := by
  by_cases hk : kind = 0 <;> simp [moduleReset, hk, show Dev.rest.snap = ([], []) from rfl]
theorem moduleReset_keepsForm (kind) : KeepsForm (moduleReset kind) := by
  intro d hd
  obtain ⟨hmem, -⟩ := hd
  have h := moduleReset_memories kind d
  simp only [memories, Prod.mk.injEq] at h
  obtain ⟨hm, hs⟩ := h
  rw [memoryForm, hm, hs]
  refine ⟨?_, rfl, rfl⟩
  split
  · rfl
  · exact Memory.filter_wf hmem _
theorem commandReset_keepsForm (service) : KeepsForm (commandReset service) := by
  intro d hd
  unfold commandReset
  split
  · exact hd
  · exact moduleReset_keepsForm 2 _ (memoryForm_of_memories (by simp) hd)
theorem resetRun_keepsForm (service c) : KeepsForm (resetRun service c) := (commandReset_keepsForm service).comp fun d => by simp
theorem externalReset_keepsForm : KeepsForm externalReset := by
  intro d hd
  unfold externalReset
  split
  · exact hd
  · exact moduleReset_keepsForm 1 d hd
theorem powerOnReset_keepsForm : KeepsForm powerOnReset := by
  intro d hd
  unfold powerOnReset
  split
  · exact memoryForm_of_memories (by simp) (moduleReset_keepsForm 0 d hd)
  · exact hd
theorem cmdRun_keepsForm (s p) {f : HiCmd → Dev → Dev} (hf : ∀ c, KeepsForm (f c)) : KeepsForm (cmdRun s p f) := by
  intro d hd
  unfold cmdRun
  split
  · exact hd
  · extract_lets mine
    split
    · exact hd
    split
    · exact memoryForm_of_memories (by simp) hd
    · exact hf _ d hd
theorem resetWrite_keepsForm (w) : KeepsForm (resetWrite w) := by
  intro d hd
  unfold resetWrite
  split_ifs
  · exact hd
  · exact commandReset_keepsForm false d hd
  · exact commandReset_keepsForm true d hd
  · exact hd
theorem deckWrite_keepsForm (a w h) : KeepsForm (deckWrite a w h) := by
  intro d hd
  by_cases h0 : blockOf a = 0
  · simp only [deckWrite, h0]
    split
    · exact resetWrite_keepsForm w d hd
    · exact memoryForm_of_memories (by simp) hd
  · refine memoryForm_of_memories ?_ hd
    unfold deckWrite
    dsimp only
    split <;> simp_all
theorem registerWrite_keepsForm (side a word) : KeepsForm (registerWrite side a word) := by
  by_cases hs : side = .deck
  · subst hs
    intro d hd
    unfold registerWrite
    dsimp only
    split_ifs
    · exact hd
    · exact hd
    · split
      · exact hd
      · exact deckWrite_keepsForm _ _ _ d hd
  · exact .of_memories (registerWrite_memories hs a word)

/-! ## Every command -/

/-- What a command does to the device keeps the form, whatever the command; it acts while the module is powered, or always (R52, R76). -/
theorem exec_keepsForm (i : Instr) :
    ∃ f, KeepsForm f ∧ ((∀ s, exec i s = actPowered f s) ∨ ∀ s, exec i s = actAlways f s) := by
  cases i
  case powerOnReset => exact ⟨_, powerOnReset_keepsForm, .inr fun _ => rfl⟩
  case vin9vThreshold above => exact ⟨_, .of_memories fun d => by simp, .inr fun _ => rfl⟩
  case externalReset => exact ⟨_, externalReset_keepsForm, .inl fun _ => rfl⟩
  case mctlResetCmd => exact ⟨_, commandReset_keepsForm _, .inl fun _ => rfl⟩
  case mctlResetService => exact ⟨_, commandReset_keepsForm _, .inl fun _ => rfl⟩
  case modeRequestReset => exact ⟨_, cmdRun_keepsForm _ _ (resetRun_keepsForm _), .inl fun _ => rfl⟩
  case modeRequestResetService => exact ⟨_, cmdRun_keepsForm _ _ (resetRun_keepsForm _), .inl fun _ => rfl⟩
  case registerWrite => exact ⟨_, registerWrite_keepsForm _ _ _, .inl fun _ => rfl⟩
  case snapshotTimer => exact ⟨_, snapshotTimer_keepsForm, .inl fun _ => rfl⟩
  case signaturePosted => exact ⟨_, signaturePosted_keepsForm _ _ _ _ _ _ _ _ _, .inl fun _ => rfl⟩
  case releaseToken => exact ⟨_, releaseToken_keepsForm _ _ _ _ _, .inl fun _ => rfl⟩
  case girderQueueFreed => exact ⟨_, settle_keepsForm, .inl fun _ => rfl⟩
  case clockLoss | mailboxContribution | mailboxWaitExpiry | mailboxDeadline | skewTimerExpiry | pierLocalError | ksSelftestDone
      | tempAlarm | railAlarm =>
    exact ⟨_, settle_keepsForm.comp (fun d => by simp), .inl fun _ => rfl⟩
  case timeRealign n => exact ⟨fun d => filtersPass (timeRealign n d), .of_memories fun d => by simp, .inl fun _ => rfl⟩
  -- every other command leaves the memories alone
  all_goals exact ⟨_, .of_memories fun d => by simp, .inl fun _ => rfl⟩

/-- Settles O6: an idle step changes nothing, and every other step is one command, which keeps the form. -/
theorem memoryFormKept : Obligations.MemoryFormKept := by
  unfold Obligations.MemoryFormKept
  intro s t hs ht
  unfold step at ht
  split at ht
  · cases ht
    exact hs
  · next i r _ =>
    obtain ⟨f, hf, hx | hx⟩ := exec_keepsForm i
    · rw [hx, actPowered] at ht
      cases ht
      split
      · exact hf _ hs
      · exact hs
    · rw [hx, actAlways] at ht
      cases ht
      exact hf _ hs
/-- Settles O2: every meaning is an effect on the device alone, so it answers a next state with the queue as it was. -/
theorem everyCommandCompletes : Obligations.EveryCommandCompletes := by
  unfold Obligations.EveryCommandCompletes
  intro c s
  obtain ⟨f, -, hx | hx⟩ := exec_keepsForm c
  · rw [hx]
    exact actPowered_pending f s
  · exact ⟨_, hx s, rfl⟩

end Sys2Proof.Machine
end

section
/-!
SUPPORT. The reset state, and what a register access of each kind does: O5, O21, O22, O23.
-/
namespace Sys2Proof.Machine

/-! ## The reset state -/

/-- At reset the register table lists three fields of the journal and no other. -/
theorem reset_regsBut : regsBut [Reg.HI_JOURNAL_HEAD, Reg.HI_JOURNAL_TAIL, Reg.HI_JOURNAL_FREE_ENTRIES] { State.reset.dev with regs := [] }
    State.reset.dev := by
  intro g hg
  simp only [List.forall_mem_cons, List.not_mem_nil, false_imp_iff, implies_true, and_true] at hg
  obtain ⟨hhead, htail, hfree⟩ := hg
  simp [rd, mgetD, State.reset, Dev.rest, mget, hhead, htail, hfree]
theorem reset_inService (p) : inService State.reset.dev p = true := by cases p <;> decide

/-- Settles O5: the fields named are read off State.reset, every other field is in no entry of its register table. -/
theorem resetValues : Obligations.ResetValues := by
  unfold Obligations.ResetValues
  exact ⟨⟨by decide, by decide, rfl, fun _ => rfl, rfl, rfl, rfl, reset_inService, by decide, by decide, by decide, reset_regsBut,
    fun _ => rfl⟩, rfl, rfl, rfl⟩

/-! ## Updates of registers alone -/

theorem regsOnly.trans {d e t : Dev} (h1 : regsOnly d e) (h2 : regsOnly e t) : regsOnly d t := by
  unfold regsOnly at *
  rw [h2, h1]
theorem wr_regsOnly (d f v) : regsOnly d (wr d f v) := rfl
theorem forEach_regsOnly {α : Type} (l : List α) {f : α → Dev → Dev} (h : ∀ x d, regsOnly d (f x d)) (d) : regsOnly d (forEach l f d) := by
  induction l generalizing d with
  | nil => rfl
  | cons x r ih => exact (h x d).trans (ih (f x d))
theorem rd_forEach {α : Type} {l : List α} {f : α → Dev → Dev} {g : Fld} (h : ∀ x ∈ l, ∀ d, rd (f x d) g = rd d g) (d) :
    rd (forEach l f d) g = rd d g := by
  induction l generalizing d with
  | nil => rfl
  | cons x r ih =>
    calc rd (forEach r f (f x d)) g = rd (f x d) g := ih (fun y hy => h y (List.mem_cons_of_mem x hy)) (f x d)
      _ = rd d g := h x List.mem_cons_self d

/-! ## One field written by its access code (R13) -/

theorem fldStore_regsOnly (f v d) : regsOnly d (fldStore f v d) := by
  unfold fldStore
  split <;> rfl
theorem rd_fldStore_ne {f g : Fld} (h : fldKey f ≠ fldKey g) (v d) : rd (fldStore f v d) g = rd d g := by
  unfold fldStore
  split
  case h_4 => rfl
  all_goals exact rd_wr_ne d _ h

theorem mem_bitsOf {n v i : Nat} : i ∈ bitsOf n v ↔ i < n ∧ bitOf v i = true := by simp [bitsOf]
theorem bitOf_foldl_bitSet (l : List Nat) (m j : Nat) : bitOf (l.foldl bitSet m) j = (decide (j ∈ l) || bitOf m j) := by
  induction l generalizing m with
  | nil => simp
  | cons i r ih =>
    rw [List.foldl_cons, ih, bitOf_bitSet]
    by_cases hj : i = j
    · simp [hj]
    · simp [hj, Ne.symm hj]
/-- The bits of a list but those set in `v`, put into a number. -/
theorem bitOf_foldl_unless (v : Nat) (l : List Nat) (m j : Nat) :
    bitOf (l.foldl (fun m i => if bitOf v i then m else bitSet m i) m) j = (decide (j ∈ l) && !bitOf v j || bitOf m j) := by
  induction l generalizing m with
  | nil => simp
  | cons i r ih =>
    rw [List.foldl_cons, ih]
    by_cases hj : i = j
    · subst hj
      cases hv : bitOf v i <;> simp [bitOf_bitSet]
    · split <;> simp [bitOf_bitSet, hj, Ne.symm hj]
theorem bitF_wr_same {f : Fld} {i : Nat} (hi : i < f.w) (d v) : bitF (wr d f v) f i = bitOf v i := by
  rw [bitF, rd_wr_same, bitOf_trunc _ _ _ hi]

theorem bitF_fldStore_rw {f : Fld} (h : f.acc = .rw) {i : Nat} (hi : i < f.w) (v d) : bitF (fldStore f v d) f i = bitOf v i := by
  simp only [fldStore, h, bitF_wr_same hi]
theorem bitF_fldStore_w1c {f : Fld} (h : f.acc = .w1c) {i : Nat} (hi : i < f.w) (v d) :
    bitF (fldStore f v d) f i = (bitF d f i && !bitOf v i) := by
  have h0 : bitOf 0 i = false := by simp [bitOf]
  simp only [fldStore, h, bitF_wr_same hi, bitOf_foldl_unless, mem_bitsOf, hi, true_and]
  simp [bitF, h0]
theorem bitF_fldStore_w1s {f : Fld} (h : f.acc = .w1s) {i : Nat} (hi : i < f.w) (v d) :
    bitF (fldStore f v d) f i = (bitF d f i || bitOf v i) := by
  simp only [fldStore, h, bitF_wr_same hi, bitOf_foldl_bitSet, mem_bitsOf, hi, true_and, Bool.decide_eq_true]
  exact Bool.or_comm _ _
theorem fldStore_fixed {f : Fld} (h : f.acc = .ro ∨ f.acc = .wo ∨ f.acc = .rc) (v d) : fldStore f v d = d := by
  rcases h with h | h | h <;> simp only [fldStore, h]

/-! ## A word written to a register (R13, R16, R30, R124) -/

theorem plainWrite_regsOnly (h w d) : regsOnly d (plainWrite h w d) := forEach_regsOnly _ (fun f d => fldStore_regsOnly f _ d) d
theorem rd_plainWrite_ne {h : RegHit} {g : Fld} (hg : ∀ f ∈ h.flds, fldKey f ≠ fldKey g) (w d) : rd (plainWrite h w d) g = rd d g :=
  rd_forEach (fun f hf d => rd_fldStore_ne (hg f hf) _ d) d
theorem deckWrite_plain {a : Nat} (hb : blockOf a ∈ [2, 4, 5, 6, 8, 9, 10, 11, 14, 15]) (w h d) : deckWrite a w h d = plainWrite h w d := by
  unfold deckWrite
  dsimp only
  split <;> simp_all
theorem votedWrite_plain {a : Nat} (hb : blockOf a = 9) (w h d) : votedWrite a w h d = plainWrite h w d := by simp [votedWrite, hb]
theorem votedWrite_nowhere {a : Nat} (hb : blockOf a ∉ [1, 3, 9, 16]) (w h d) : votedWrite a w h d = d := by
  unfold votedWrite
  dsimp only
  split <;> simp_all
theorem registerWrite_deck {a : Nat} (ha : a % 4 = 0) (hs : sliceAddr a = false) {h : RegHit} (hr : sideReg .deck a = some h) (word d) :
    registerWrite .deck a word d = deckWrite a (trunc 32 word) h d := by simp [registerWrite, ha, hs, hr]
theorem registerWrite_voted {a : Nat} (ha : a % 4 = 0) (hs : sliceAddr a = false) {h : RegHit} (hr : sideReg .voted a = some h) (word d) :
    registerWrite .voted a word d = votedWrite a (trunc 32 word) h d := by simp [registerWrite, ha, hs, hr]
/-- The writes that no side's view performs (R11, R20, R80, R124, R363). -/
theorem registerWrite_refused {side : RegSide} {a : Nat} {d : Dev} (hc : a % 4 ≠ 0 ∨ ((side = .deck ∨ side = .voted) ∧ sliceAddr a = true) ∨
    (side = .deck ∧ blockOf a = 7) ∨ (side = .voted ∧ blockOf a ∉ [1, 3, 9, 16]) ∨
    ((side = .bar0 ∨ side = .bar2) ∧ hostServes d = false)) (word) : registerWrite side a word d = d := by
  unfold registerWrite
  rcases hc with ha | ⟨rfl | rfl, hs⟩ | ⟨rfl, hb⟩ | ⟨rfl, hb⟩ | ⟨rfl | rfl, hh⟩
  · simp [ha]
  · simp [hs]
  · simp [hs]
  · cases sideReg .deck a <;> simp [deckWrite, hb]
  · cases sideReg .voted a <;> simp [votedWrite_nowhere hb]
  · simp [hh]
  · simp [hh]

/-- Settles O21: the writes of the first two clauses come down to the plain write of the register, those of the third to nothing, and the
last clause is the rule of one field, code by code. -/
theorem registerWritesFollowAccessCodes : Obligations.RegisterWritesFollowAccessCodes := by
  unfold Obligations.RegisterWritesFollowAccessCodes
  refine ⟨fun s a word h hs ha hsl hr hb => ?_, fun s a word h hs ha hsl hr hb => ?_, fun s side a word hs hc => ?_, fun d f v i hi => ?_⟩
  · rw [answers_of (i := .registerWrite .deck a word) rfl hs, registerWrite_deck ha hsl hr, deckWrite_plain hb]
    exact ⟨rfl, plainWrite_regsOnly _ _ _, fun g hg => rd_plainWrite_ne hg _ _⟩
  · rw [answers_of (i := .registerWrite .voted a word) rfl hs, registerWrite_voted ha hsl hr, votedWrite_plain hb]
    exact ⟨rfl, plainWrite_regsOnly _ _ _, fun g hg => rd_plainWrite_ne hg _ _⟩
  · rw [answers_of (i := .registerWrite side a word) rfl hs]
    exact registerWrite_refused hc word
  · exact ⟨fun h => bitF_fldStore_rw h hi v d, fun h => bitF_fldStore_w1c h hi v d, fun h => bitF_fldStore_w1s h hi v d,
      fun h => fldStore_fixed h v d⟩

/-! ## What a register reads as does not look at what has left the module -/

theorem viewMctl_emit (o d f) : viewMctl (emit o d) f = viewMctl d f := rfl
theorem viewTu_emit (o d f) : viewTu (emit o d) f = viewTu d f := rfl
theorem viewSlices_emit (o d f) : viewSlices (emit o d) f = viewSlices d f := rfl
theorem viewCw_emit (o d f) : viewCw (emit o d) f = viewCw d f := rfl
theorem viewEv_emit (o d f) : viewEv (emit o d) f = viewEv d f := rfl
theorem viewHm_emit (o d f) : viewHm (emit o d) f = viewHm d f := rfl
theorem viewDx_emit (o d f) : viewDx (emit o d) f = viewDx d f := rfl
theorem viewUp_emit (o d f) : viewUp (emit o d) f = viewUp d f := rfl
theorem viewHi_emit (o d f) : viewHi (emit o d) f = viewHi d f := rfl
theorem viewBar2_emit (o d f) : viewBar2 (emit o d) f = viewBar2 d f := rfl
theorem mramAbsent_emit (o d f) : mramAbsent (emit o d) f = mramAbsent d f := rfl
theorem shownOther_emit (o d f) : shownOther (emit o d) f = shownOther d f := by
  unfold shownOther
  split
  all_goals simp only [viewMctl_emit, viewTu_emit, viewSlices_emit, viewCw_emit, viewEv_emit, viewHm_emit, viewDx_emit, viewUp_emit,
    viewHi_emit, viewBar2_emit]
theorem regView_emit (o d) : regView (emit o d) = regView d := by
  funext f
  simp only [regView, mramAbsent_emit, shownOther_emit, rd_emit]

/-! ## A register read (R12, R13, R15) -/

theorem regFind_zero : regFind 0 = none := by decide
/-- A Deck address that names a register is that register's own. -/
theorem sideAddr_deck {a : Nat} {h : RegHit} (hr : sideReg .deck a = some h) : sideAddr .deck a = a := by
  unfold sideReg sideAddr at *
  dsimp only at *
  split at hr
  · next hb => rw [if_pos hb]
  · rw [regFind_zero] at hr
    cases hr

/-- Nothing but registers and captures changes. -/
def readsOnly (d t : Dev) : Prop := t = { d with regs := t.regs, captured := t.captured }
theorem readsOnly.trans {d e t : Dev} (h1 : readsOnly d e) (h2 : readsOnly e t) : readsOnly d t := by
  unfold readsOnly at *
  rw [h2, h1]
theorem capture_readsOnly (side a v d) : readsOnly d (capture side a v d) := rfl
theorem wr_readsOnly (d f v) : readsOnly d (wr d f v) := rfl
theorem captureLow_readsOnly (side a h d) : readsOnly d (captureLow side a h d) := by
  unfold captureLow
  extract_lets e n
  have he : readsOnly d e := by
    unfold e
    split
    · exact capture_readsOnly _ _ _ _
    · rfl
  split
  · exact he.trans ((wr_readsOnly _ _ _).trans ((capture_readsOnly _ _ _ _).trans (capture_readsOnly _ _ _ _)))
  · exact he
theorem readClear_readsOnly (side a h d) : readsOnly d (readClear side a h d) := by
  unfold readClear
  split
  · rfl
  · rw [forEach_regsOnly _ (fun f d => wr_regsOnly d f f.rst) d]
    rfl
theorem readClear_captured (side a h d) : (readClear side a h d).captured = d.captured := by
  unfold readClear
  split
  · rfl
  · rw [forEach_regsOnly _ (fun f d => wr_regsOnly d f f.rst) d]
theorem plainRead_readsOnly (side a h d) : readsOnly (emit (.read a (readWord side a h d)) d) (plainRead side a h d) :=
  (captureLow_readsOnly _ _ _ _).trans (readClear_readsOnly _ _ _ _)
theorem plainRead_out (side a h d) : (plainRead side a h d).out = d.out ++ [.read a (readWord side a h d)] := by
  rw [plainRead_readsOnly]
  rfl
theorem plainRead_frame (side a h d) : plainRead side a h d = { d with
    regs := (plainRead side a h d).regs, captured := (plainRead side a h d).captured, out := (plainRead side a h d).out } := by
  conv_lhs => rw [plainRead_readsOnly side a h d]
  rw [plainRead_out]
  rfl
/-- A register of one RC field reads its Reset value after a read from its own side. -/
theorem rd_plainRead_rc {side : RegSide} {a : Nat} {h : RegHit} {f : Fld} (hf : h.flds = [f]) (hc : f.acc = .rc) (hs : sliceAddr a = false) (d) :
    rd (plainRead side a h d) f = trunc f.w f.rst := by
  unfold plainRead readClear
  simp [hs, hf, hc, forEach]
theorem capture_get (side a v d) : mget (capture side a v d).captured (captureKey side a) = some (v / 2 ^ 32 % 2 ^ 32) := by
  simp [capture]
/-- The read of a lower half outside the Time unit captures the upper half (R12). -/
theorem plainRead_captures {side : RegSide} {a : Nat} {h : RegHit} (hp : h.pair = true) (hh : h.high = false) (hb : blockOf a ≠ 3) (d) :
    mget (plainRead side a h d).captured (captureKey side (a + 4)) = some (((h.flds.map (regView d)).headD 0) / 2 ^ 32 % 2 ^ 32) := by
  unfold plainRead
  rw [readClear_captured]
  simp only [captureLow, hp, hh, hb, false_and, if_false, decide_false, Bool.not_false, and_self, if_true, capture_get, regView_emit]

theorem registerRead_deck {a : Nat} (ha : a % 4 = 0) {h : RegHit} {d : Dev} (hr : sideReg .deck a = some h) (ho : ownRead .deck a d = none) :
    registerRead .deck a d = plainRead .deck a h d := by simp [registerRead, ha, hr, ho, sideAddr_deck hr]
theorem registerRead_none {side : RegSide} {a : Nat} {d : Dev}
    (hc : a % 4 ≠ 0 ∨ (side = .deck ∧ sideReg .deck a = none ∧ ownRead .deck a d = none) ∨
      ((side = .bar0 ∨ side = .bar2) ∧ hostServes d = false)) : registerRead side a d = d := by
  unfold registerRead
  rcases hc with ha | ⟨rfl, hr, ho⟩ | ⟨hs, hh⟩
  · simp [ha]
  · simp [hr, ho]
  · simp [hs, hh]
theorem reg64LoRead_low {side : RegSide} {a : Nat} {h : RegHit} (hr : sideReg side a = some h) (hp : h.pair = true) (hh : h.high = false) (d) :
    reg64LoRead side a d = registerRead side a d := by simp [reg64LoRead, hr, hp, hh]
theorem reg64LoRead_other {side : RegSide} {a : Nat}
    (hc : sideReg side a = none ∨ ∃ h, sideReg side a = some h ∧ (h.pair = false ∨ h.high = true)) (d) : reg64LoRead side a d = d := by
  unfold reg64LoRead
  rcases hc with hr | ⟨h, hr, hp | hh⟩
  · simp [hr]
  · simp [hr, hp]
  · simp [hr, hh]

/-- Settles O22: a Deck read of a register without a meaning of its own is its plain read, whose parts emit, capture and clear. -/
theorem readsCaptureAndClear : Obligations.ReadsCaptureAndClear := by
  unfold Obligations.ReadsCaptureAndClear
  refine ⟨fun s a h hs ha hr ho => ⟨?_, fun hp hh => ?_⟩, fun s side a hs => ⟨fun hc => ?_, fun hc => ?_⟩⟩
  · rw [answers_of (i := .readToClear .deck a) rfl hs, registerRead_deck ha hr ho]
    exact ⟨plainRead_out _ _ _ _, plainRead_frame _ _ _ _, fun f hf hc hsl => rd_plainRead_rc hf hc hsl _⟩
  · rw [answers_of (i := .reg64LoRead .deck a) rfl hs, reg64LoRead_low hr hp hh, registerRead_deck ha hr ho]
    exact ⟨plainRead_out _ _ _ _, fun hb => plainRead_captures hp hh hb _, plainRead_frame _ _ _ _⟩
  · rw [answers_of (i := .readToClear side a) rfl hs]
    exact registerRead_none hc
  · rw [answers_of (i := .reg64LoRead side a) rfl hs]
    exact reg64LoRead_other hc s.dev

/-! ## Accesses that are not performed (R11, R26, R35, R36) -/

theorem recordFrom_frame (src c l d) : recordFrom src c l d = { d with regs := (recordFrom src c l d).regs, ev := (recordFrom src c l d).ev } :=
  intake_shape _ d
theorem recordFrom_regsBut (src c l d) : regsBut evCounts d (recordFrom src c l d) := by
  intro g hg
  simp only [evCounts, List.forall_mem_cons, List.not_mem_nil, false_imp_iff, implies_true, and_true] at hg
  obtain ⟨h1, h2⟩ := hg
  exact rd_intake _ d g h1 h2
/-- An open intake takes an event of whatever source block as it is stamped. -/
theorem recordFrom_entered {c : Nat} {d : Dev} (h : intakeOpen d c (sevOf c)) (src l) : entered d (recordFrom src c l d) c (sevOf c) src 3 l := by
  obtain ⟨h0, hr, hb⟩ := h
  have ho : intakeOverflow d = d := by simp [intakeOverflow, h0]
  have hl : limitedBurst d (stamp d c (sevOf c) src 3 1 false (evData l)) = limitedBurst d (stamp d c (sevOf c) 0 3 1 false []) := rfl
  unfold entered recordFrom intake
  simp only [ho, hl]
  split
  · next hn => simp [intakeAdd, intakePush, stamp, hr]
  · next burst hn =>
    rw [hn] at hb
    simp [stamp, hr, hb, intakePush]
/-- An access has been discarded (R11, R35): a read has returned 0, and nothing else has changed but the recorder and its counts. -/
def discarded (a : Nat) (read : Bool) (d t : Dev) : Prop :=
  t = { d with regs := t.regs, ev := t.ev, out := d.out ++ (if read then [.read a 0] else []) } ∧ regsBut evCounts d t
/-- A read answered with 0; a write answers nothing. -/
def readZero (a : Nat) (read : Bool) (d : Dev) : Dev := if read then emit (.read a 0) d else d
theorem readZero_eq (a read d) : readZero a read d = { d with out := d.out ++ (if read then [.read a 0] else []) } := by
  cases read <;> simp [readZero, emit]
theorem readZero_discarded (a read d) : discarded a read d (readZero a read d) := by
  rw [readZero_eq]
  exact ⟨rfl, fun _ _ => rfl⟩
theorem recordFrom_discarded (a read src c l d) : discarded a read d (recordFrom src c l (readZero a read d)) := by
  rw [readZero_eq]
  exact ⟨recordFrom_frame _ _ _ _, recordFrom_regsBut _ _ _ _⟩
theorem recordFrom_readZero_entered {c : Nat} {d : Dev} (h : intakeOpen d c (sevOf c)) (a read src l) :
    entered d (recordFrom src c l (readZero a read d)) c (sevOf c) src 3 l := by
  rw [readZero_eq]
  exact recordFrom_entered (d := { d with out := d.out ++ (if read then [.read a 0] else []) }) h src l

theorem widthViolation_refused {a width : Nat} (hb : blockOf a ≤ 18) (hw : ¬ (width = 4 ∧ a % 4 = 0)) (who read d) :
    widthViolation who a width read d = recordFrom (if blockOf a = 18 then 7 else blockOf a) Ev.ACCESS_WIDTH
      [.q a, .w width, .w (initiatorIdx who)] (readZero a read d) := by
  rw [widthViolation, if_neg (by omega)]
  rfl
theorem widthViolation_performed {a width : Nat} (h : 18 < blockOf a ∨ (width = 4 ∧ a % 4 = 0)) (who read d) :
    widthViolation who a width read d = d := by rw [widthViolation, if_pos h]
theorem decodeError_decodes {who : Initiator} {a width : Nat} {read : Bool} (h : accessDecodes who a width read = true) (seg cycle kind core d) :
    decodeError who a width read seg cycle kind core d = d := by rw [decodeError, if_pos h]
theorem decodeError_refused {who : Initiator} (hw : ∀ p, who ≠ .pier p) {a width : Nat} {read : Bool} (h : accessDecodes who a width read = false)
    (seg cycle kind core d) : decodeError who a width read seg cycle kind core d =
      recordFrom (if blockOf a < 18 then blockOf a else 0xFF) Ev.DECODE_ERROR [.q a, .w (initiatorIdx who)] (readZero a read d) := by
  cases who with
  | pier p => exact absurd rfl (hw p)
  | deck => simp [decodeError, h, readZero]
  | dma => simp [decodeError, h, readZero]
  | master => simp [decodeError, h, readZero]
  | host => simp [decodeError, h, readZero]

/-! ## A Pier's access that does not decode (R26, R36) -/

theorem inService_regsBut {d t : Dev} (h : regsBut evCounts d t) (p) : inService t p = inService d p := by
  have hr : rd t Reg.KS_STATUS_IN_SERVICE = rd d Reg.KS_STATUS_IN_SERVICE := h _ (by decide)
  rw [inService, bitF, hr]
  rfl
/-- A Pier's fault is noted: in the reports of the Piers and as one that has ended a segment of its own (R26). -/
def faultNoted (p : Pier) (seg cycle kind a : Nat) (d : Dev) : Dev :=
  prSet p (fun u => { u with faulted := ((seg, cycle, kind, a) :: u.faulted).take 64 })
    (ksSet (fun k => { k with faults := ((⟨pierIdx p, seg, cycle, kind, a⟩ : FaultReport) :: k.faults).take 64 }) d)
@[simp] theorem faultNoted_out (p seg cycle kind a d) : (faultNoted p seg cycle kind a d).out = d.out := by simp [faultNoted]
@[simp] theorem faultNoted_mem (p seg cycle kind a d) : (faultNoted p seg cycle kind a d).mem = d.mem := by simp [faultNoted]
@[simp] theorem faultNoted_ev (p seg cycle kind a d) : (faultNoted p seg cycle kind a d).ev = d.ev := by simp [faultNoted]
@[simp] theorem rd_faultNoted (p seg cycle kind a d f) : rd (faultNoted p seg cycle kind a d) f = rd d f := by simp [faultNoted]
@[simp] theorem faultNoted_ks (p seg cycle kind a d) : (faultNoted p seg cycle kind a d).ks =
    { d.ks with faults := ((⟨pierIdx p, seg, cycle, kind, a⟩ : FaultReport) :: d.ks.faults).take 64 } := by simp [faultNoted]
/-- The first report of a fault without a trap is noted, and nothing else happens (R26). -/
theorem syncFault_first {p : Pier} {seg cycle kind a : Nat} {d : Dev} (hs : inService d p = true)
    (hf : (d.ks.faults.any fun x => x.pier != pierIdx p && sameFault x ⟨pierIdx p, seg, cycle, kind, a⟩) = false) (core) :
    syncFault p seg cycle kind a core false d = faultNoted p seg cycle kind a d := by
  simp [syncFault, hs, hf, faultNoted]
/-- DECODE_ERROR of a Pier records the event unless its access is a misaligned one of memory (R36). -/
def pierRecords (p : Pier) (a width : Nat) (read : Bool) (d : Dev) : Dev :=
  if memAligned a width == false && pierDecodes p (a - a % 64) 64 read && decide (17 < blockOf a) then readZero a read d
  else recordFrom (if blockOf a < 18 then blockOf a else 0xFF) Ev.DECODE_ERROR [.q a, .w (initiatorIdx (.pier p))] (readZero a read d)
theorem pierRecords_discarded (p a width read d) : discarded a read d (pierRecords p a width read d) := by
  unfold pierRecords
  split
  · exact readZero_discarded a read d
  · exact recordFrom_discarded a read _ _ _ d
theorem decodeError_pier {p : Pier} {a width : Nat} {read : Bool} (h : accessDecodes (.pier p) a width read = false) {seg cycle kind : Nat} {d : Dev}
    (hs : inService d p = true)
    (hf : (d.ks.faults.any fun x => x.pier != pierIdx p && sameFault x ⟨pierIdx p, seg, cycle, kind, a⟩) = false) (core) :
    decodeError (.pier p) a width read seg cycle kind core d = faultNoted p seg cycle kind a (pierRecords p a width read d) := by
  obtain ⟨hd, hr⟩ := pierRecords_discarded p a width read d
  have hks : (pierRecords p a width read d).ks = d.ks := by rw [hd]
  rw [← syncFault_first ((inService_regsBut hr p).trans hs) (by rw [hks]; exact hf) core]
  rw [decodeError, h]
  rfl
theorem pierRecords_entered {p : Pier} {a width : Nat} (h : memAligned a width = true ∨ blockOf a < 18) {d : Dev}
    (ho : intakeOpen d Ev.DECODE_ERROR (sevOf Ev.DECODE_ERROR)) (read) :
    entered d (pierRecords p a width read d) Ev.DECODE_ERROR (sevOf Ev.DECODE_ERROR) (if blockOf a < 18 then blockOf a else 0xFF) 3
      [.q a, .w (initiatorIdx (.pier p))] := by
  have hn : (memAligned a width == false && pierDecodes p (a - a % 64) 64 read && decide (17 < blockOf a)) = false := by
    rcases h with h | h
    · simp [h]
    · simp [show ¬ 17 < blockOf a by omega]
  rw [pierRecords, hn]
  exact recordFrom_readZero_entered ho a read _ _

/-- Settles O23: a refused access is an event recorded after a read has returned 0; that of a Pier is noted besides as its fault. -/
theorem refusedAccessesAreRecorded : Obligations.RefusedAccessesAreRecorded := by
  unfold Obligations.RefusedAccessesAreRecorded
  intro s who a width read hs
  refine ⟨fun hb hw => ?_, fun hb => ?_, fun seg cycle kind core hw hd => ?_, fun p seg cycle kind core hw hd hi hf => ?_,
    fun seg cycle kind core hd => ?_⟩
  · rw [answers_of (i := .accessWidthViolation who a width read) rfl hs, widthViolation_refused hb hw]
    obtain ⟨hfr, hrb⟩ := recordFrom_discarded a read (if blockOf a = 18 then 7 else blockOf a) Ev.ACCESS_WIDTH
      [.q a, .w width, .w (initiatorIdx who)] s.dev
    exact ⟨hfr, hrb, fun ho => recordFrom_readZero_entered ho a read _ _⟩
  · rw [answers_of (i := .accessWidthViolation who a width read) rfl hs]
    exact widthViolation_performed hb who read s.dev
  · rw [answers_of (i := .decodeError who a width read seg cycle kind core) rfl hs, decodeError_refused hw hd]
    obtain ⟨hfr, hrb⟩ := recordFrom_discarded a read (if blockOf a < 18 then blockOf a else 0xFF) Ev.DECODE_ERROR
      [.q a, .w (initiatorIdx who)] s.dev
    exact ⟨hfr, hrb, fun ho => recordFrom_readZero_entered ho a read _ _⟩
  · subst hw
    rw [answers_of (i := .decodeError (.pier p) a width read seg cycle kind core) rfl hs, decodeError_pier hd hi hf]
    obtain ⟨hfr, hrb⟩ := pierRecords_discarded p a width read s.dev
    refine ⟨?_, fun g hg => ?_, fun b => ?_, ?_, ?_, fun ha ho => ?_⟩
    · rw [faultNoted_out, hfr]
    · rw [rd_faultNoted, hrb g hg]
    · rw [faultNoted_mem, hfr]
    · rw [faultNoted_ks, hfr]
    · rw [faultNoted, hfr]
      rfl
    · rw [entered, faultNoted_ev]
      exact pierRecords_entered ha ho read
  · rw [answers_of (i := .decodeError who a width read seg cycle kind core) rfl hs]
    exact decodeError_decodes hd seg cycle kind core s.dev

end Sys2Proof.Machine
end

section
/-!
SUPPORT. The reserved offsets of the BARs and the messages that a vector holds: O59, O19.
-/
namespace Sys2Proof.Machine

/-! ## Reserved accesses (R38) -/

/-- A reserved access is counted; a read of it has returned 0. -/
theorem barAccess_reserved {d : Dev} {bar off : Nat} {read : Bool} (hh : hostServes d = true)
    (hr : barReserved d bar off = true ∨ (bar = 4 ∧ read = false)) :
    barAccess bar off read d = readZero off read (inc d Reg.HI_ERR_COUNT_RSVD) := by
  have hc : hostServes d = true ∧ (barReserved d bar off = true ∨ (bar = 4 ∧ (!read) = true)) := by simpa [hh] using hr
  rw [barAccess, if_pos hc]
  rfl

/-- Settles O59: the access is the count and the zero read, neither of which touches another register. -/
theorem reservedAccessesAreCounted : Obligations.ReservedAccessesAreCounted := by
  unfold Obligations.ReservedAccessesAreCounted
  intro s bar off read hs hh hr
  rw [answers_of (i := .reservedBarAccess bar off read) rfl hs, barAccess_reserved hh hr, readZero_eq]
  exact ⟨rd_inc_same _ _, fun g hg => rd_inc_ne _ (hg _ (List.mem_singleton_self _)), rfl, rfl⟩

/-! ## Messages of the vectors (R42, R360) -/

theorem msix_unmasked {v : Nat} {d : Dev} (hv : v < 16) (hm : bitOf d.msix.mask v = false) : msix v d = msixMessage v d := by
  simp [msix, hv, hm]
theorem msix_masked {v : Nat} {d : Dev} (hv : v < 16) (hm : bitOf d.msix.mask v = true) :
    msix v d = { d with msix := { d.msix with pend := bitSet d.msix.pend v } } := by simp [msix, hv, hm]

/-- The held message of a completion ring is no longer held, its interval begins again now (R360). -/
def imodBegun (q : Nat) (d : Dev) : Dev :=
  hiSet (fun h => { h with imodHeld := bitClr h.imodHeld q, imodAt := mput h.imodAt q d.clk }) d
theorem imodBegun_released (q d) : bitOf (imodBegun q d).hi.imodHeld q = false := by simp [imodBegun, bitOf_bitClr]
theorem imodExpiry_unread {q : Nat} {d : Dev} (hh : bitOf d.hi.imodHeld q = true) (hu : mgetD d.hi.unread q [] ≠ []) :
    imodExpiry q d = msix q (imodBegun q d) := by
  simp [imodExpiry, hh, hu, imodBegun, hiSet]
theorem imodExpiry_read {q : Nat} {d : Dev} (hh : bitOf d.hi.imodHeld q = true) (hu : mgetD d.hi.unread q [] = []) :
    imodExpiry q d = { d with hi := { d.hi with imodHeld := bitClr d.hi.imodHeld q } } := by simp [imodExpiry, hh, hu, hiSet]
theorem imodExpiry_none {q : Nat} {d : Dev} (hh : bitOf d.hi.imodHeld q = false) : imodExpiry q d = d := by simp [imodExpiry, hh]

/-- A vector's mask and pending bit are clear (R42). -/
def vectorClear (v : Nat) (d : Dev) : Dev :=
  { d with msix := { d.msix with mask := bitClr d.msix.mask v, pend := bitClr d.msix.pend v } }
theorem vectorClear_bits (v d) : bitOf (vectorClear v d).msix.mask v = false ∧ bitOf (vectorClear v d).msix.pend v = false := by
  simp [vectorClear, bitOf_bitClr]
theorem msixUnmask_eq (v d) : msixUnmask v d = if bitOf d.msix.pend v then msixMessage v (vectorClear v d) else vectorClear v d := rfl
theorem hostWhole_open {d : Dev} (h : hostOpen d) (f : Dev → Dev) : hostWhole f d = f d := by
  obtain ⟨h1, h2⟩ := h
  simp [hostWhole, h1, h2]
theorem hostWhole_closed {d : Dev} (h : ¬ hostOpen d) (f : Dev → Dev) : hostWhole f d = d := by
  rw [hostWhole, if_neg]
  simpa [hostOpen] using h

/-- Settles O19: the end of an interval lets the source of the vector fire or drops what is held, unmasking clears the vector's bits and sends
what was pending. -/
theorem heldMessagesAreSent : Obligations.HeldMessagesAreSent := by
  unfold Obligations.HeldMessagesAreSent
  intro s hs
  refine ⟨fun q hq hh hu hm => ?_, fun q hq hh hu hm => ?_, fun q hh hu => ?_, fun q hh => ?_, fun v ho => ?_, fun v _ ho => ?_⟩
  · rw [answers_of (i := .msixImodExpiry q) rfl hs, imodExpiry_unread hh hu, msix_unmasked (d := imodBegun q s.dev) (by omega) hm]
    exact ⟨rfl, imodBegun_released q s.dev, rfl, rfl⟩
  · rw [answers_of (i := .msixImodExpiry q) rfl hs, imodExpiry_unread hh hu, msix_masked (d := imodBegun q s.dev) (by omega) hm]
    exact ⟨bitOf_bitSet_same _ _, imodBegun_released q s.dev, rfl⟩
  · rw [answers_of (i := .msixImodExpiry q) rfl hs]
    exact imodExpiry_read hh hu
  · rw [answers_of (i := .msixImodExpiry q) rfl hs]
    exact imodExpiry_none hh
  · rw [answers_of (i := .msixUnmask v) rfl hs]
    exact hostWhole_closed ho _
  · rw [answers_of (i := .msixUnmask v) rfl hs, hostWhole_open ho, msixUnmask_eq]
    obtain ⟨hmask, hpend⟩ := vectorClear_bits v s.dev
    split
    · exact ⟨hmask, hpend, rfl, rfl⟩
    · exact ⟨hmask, hpend, rfl, (List.append_nil _).symm⟩

end Sys2Proof.Machine
end

section
/-!
SUPPORT. What the operations of the other units leave of module control and of the Keystone, and what an entry into SAFE leaves of them.
-/
namespace Sys2Proof.Machine

/-! ## A part of the register table -/

/-- The entries of the register table under the numbers of a set. -/
def regsIn (S : Nat → Bool) (d : Dev) : Nat → Option Nat := fun k => if S k then mget d.regs k else none
theorem mget_regPut_ne (m : NMap Nat) {f : Fld} {k : Nat} (v : Nat) (h : fldKey f ≠ k) : mget (regPut m f v) k = mget m k := by
  unfold regPut
  split
  · exact mget_mdel_ne m h
  · exact mget_mput_ne m _ h
theorem regsIn_wr {S : Nat → Bool} {f : Fld} (h : S (fldKey f) = false) (d v) : regsIn S (wr d f v) = regsIn S d := by
  funext k
  by_cases hk : fldKey f = k
  · simp [regsIn, ← hk, h]
  · simp [regsIn, wr_regs, mget_regPut_ne _ v hk]
theorem rd_of_regsIn {S : Nat → Bool} {d t : Dev} (h : regsIn S t = regsIn S d) {g : Fld} (hg : S (fldKey g) = true) : rd t g = rd d g := by
  have hk := congrFun h (fldKey g)
  simp only [regsIn, hg, if_true] at hk
  simp [rd, mgetD, hk]

/-! ## Module control and the Keystone -/

/-- The registers of module control and of the Keystone, but for the pins of the module. -/
def controlKey (k : Nat) : Bool := decide (k < 0x40020000 * 32) && k / 32 != 0x4000001C
/-- A field of another unit. -/
def outer (f : Fld) : Prop := 0x40020000 ≤ f.addr
@[simp] theorem outer_mk {a lo w rst acc src rng} : outer ⟨a, lo, w, rst, acc, src, rng⟩ ↔ 0x40020000 ≤ a := Iff.rfl
theorem controlKey_outer {f : Fld} (h : outer f) : controlKey (fldKey f) = false := by
  unfold outer at h
  have hk : ¬ fldKey f < 0x40020000 * 32 := by
    unfold fldKey
    omega
  simp [controlKey, hk]
/-- The registers of module control and of the Keystone, what the Keystone holds but for its switches of the pins, and the Piers. -/
def control (d : Dev) : (Nat → Option Nat) × KsUnit × Tri PierUnit :=
  (regsIn controlKey d, { d.ks with safeSw := 0, aliveSw := 0 }, d.prs)
theorem rd_of_control {d t : Dev} (h : control t = control d) {g : Fld} (hg : controlKey (fldKey g) = true) : rd t g = rd d g :=
  rd_of_regsIn (congrArg Prod.fst h) hg
theorem nothingHeld_of_control {d t : Dev} (h : control t = control d) (hd : nothingHeld d) : nothingHeld t := by
  have hw : t.ks.windows = d.ks.windows := congrArg (·.2.1.windows) h
  have hr : t.ks.releasing = d.ks.releasing := congrArg (·.2.1.releasing) h
  have hs : t.ks.slots = d.ks.slots := congrArg (·.2.1.slots) h
  have hprs : t.prs = d.prs := congrArg (·.2.2) h
  simpa only [nothingHeld, noWindows, piersIdle, hw, hr, hs, hprs] using hd

@[simp] theorem control_ite (c : Prop) [Decidable c] (a b : Dev) : control (if c then a else b) = if c then control a else control b :=
  apply_ite control c a b
theorem foldl_control {α : Type} (l : List α) (f : Dev → α → Dev) (d : Dev) (h : ∀ d x, control (f d x) = control d) :
    control (l.foldl f d) = control d := by
  induction l generalizing d with
  | nil => rfl
  | cons x r ih => exact (ih (f d x)).trans (h d x)
@[simp] theorem forEach_control {α : Type} (l : List α) (f : α → Dev → Dev) (d : Dev) (h : ∀ x d, control (f x d) = control d) :
    control (forEach l f d) = control d := foldl_control l _ d fun d x => h x d

/-! ### Registers, messages, events -/

theorem wr_control {f : Fld} (h : controlKey (fldKey f) = false) (d v) : control (wr d f v) = control d :=
  congrArg (·, { d.ks with safeSw := 0, aliveSw := 0 }, d.prs) (regsIn_wr h d v)
@[simp] theorem wr_outer_control {f : Fld} (h : outer f) (d v) : control (wr d f v) = control d := wr_control (controlKey_outer h) d v
@[simp] theorem wrB_outer_control {f : Fld} (h : outer f) (d b) : control (wrB d f b) = control d := wr_outer_control h d _
@[simp] theorem incBy_outer_control {f : Fld} (h : outer f) (d k) : control (incBy d f k) = control d := wr_outer_control h d _
@[simp] theorem inc_outer_control {f : Fld} (h : outer f) (d) : control (inc d f) = control d := wr_outer_control h d _
@[simp] theorem incW_outer_control {f : Fld} (h : outer f) (d) : control (incW d f) = control d := wr_outer_control h d _
@[simp] theorem maxTo_outer_control {f : Fld} (h : outer f) (d v) : control (maxTo d f v) = control d := wr_outer_control h d _
@[simp] theorem wrSat_outer_control {f : Fld} (h : outer f) (d v) : control (wrSat d f v) = control d := wr_outer_control h d _
@[simp] theorem putBitF_outer_control {f : Fld} (h : outer f) (d i b) : control (putBitF d f i b) = control d := wr_outer_control h d _
theorem rd_wr_outer {f g : Fld} (hf : outer f) (hg : controlKey (fldKey g) = true) (d v) : rd (wr d f v) g = rd d g :=
  rd_of_control (wr_outer_control hf d v) hg
@[simp] theorem noteOnce_control (d key) : control (noteOnce d key) = control d := (rfl)
@[simp] theorem emit_control (o d) : control (emit o d) = control d := (rfl)
@[simp] theorem msixMessage_control (v d) : control (msixMessage v d) = control d := (rfl)
@[simp] theorem msix_control (v d) : control (msix v d) = control d := by rw [msix_shape]; rfl
@[simp] theorem evSet_control (f d) : control (evSet f d) = control d := (rfl)
@[simp] theorem ev_control (d : Dev) (e) : control { d with ev := e } = control d := (rfl)
@[simp] theorem intakePush_control (e d) : control (intakePush e d) = control d := (rfl)
@[simp] theorem intakeDrop_control (e d) : control (intakeDrop e d) = control d := by simp [intakeDrop, Reg.EV_COUNT_DROPPED]
@[simp] theorem intakeAdd_control (e d) : control (intakeAdd e d) = control d := by simp [intakeAdd]
@[simp] theorem intakeOverflow_control (d) : control (intakeOverflow d) = control d := by simp [intakeOverflow]
@[simp] theorem suppress_control (e d) : control (suppress e d) = control d := by simp [suppress, Reg.EV_COUNT_SUPPRESSED]
@[simp] theorem intake_control (e d) : control (intake e d) = control d := by
  simp only [intake]
  split <;> simp
@[simp] theorem recordSev_control (sev code pier items d) : control (recordSev sev code pier items d) = control d := by simp [recordSev]
@[simp] theorem record_control (code items d) : control (record code items d) = control d := by simp [record]
@[simp] theorem recordP_control (code p items d) : control (recordP code p items d) = control d := by simp [recordP]
@[simp] theorem recordOnce_control (code idx items d) : control (recordOnce code idx items d) = control d := by simp [recordOnce]
@[simp] theorem summarize_control (code d) : control (summarize code d) = control d := by
  unfold summarize
  split <;> simp
@[simp] theorem summarizeAll_control (d) : control (summarizeAll d) = control d := by simp [summarizeAll]

/-! ### The Causeway ports and the networks -/

@[simp] theorem cwSet_control (n f d) : control (cwSet n f d) = control d := (rfl)
@[simp] theorem cwSetHo_control (n b d) : control (cwSetHo n b d) = control d := by
  simp [cwSetHo, Reg.CW_STATUS_HO, Reg.CW_HOLD_HO_COUNT, Nat.le_add_right_of_le]
@[simp] theorem cwClear_control (n d) : control (cwClear n d) = control d := by
  unfold cwClear
  split <;> simp [Reg.CW_STATUS_TX_BUSY, Nat.le_add_right_of_le]
@[simp] theorem cwClearAll_control (d) : control (cwClearAll d) = control d := by simp [cwClearAll]
@[simp] theorem teSet_control (f d) : control (teSet f d) = control d := (rfl)
@[simp] theorem inhibitReview_control (d) : control (inhibitReview d) = control d := by simp [inhibitReview]
@[simp] theorem canHeartbeats_control (d) : control (canHeartbeats d) = control d := by simp [canHeartbeats]

/-! ### The host interface -/

@[simp] theorem hiSet_control (f d) : control (hiSet f d) = control d := (rfl)
@[simp] theorem cqMessage_control (q d) : control (cqMessage q d) = control d := by simp [cqMessage]
@[simp] theorem cqWrite_control (q c d) : control (cqWrite q c d) = control d := by
  have ht : outer (Reg.HI_CQ_STATE_TAIL q) := by simp [Reg.HI_CQ_STATE_TAIL, Nat.le_add_right_of_le]
  have hp : outer (Reg.HI_CQ_STATE_PHASE q) := by simp [Reg.HI_CQ_STATE_PHASE, Nat.le_add_right_of_le]
  simp [cqWrite, ht, hp]
@[simp] theorem cqFlushList_control (l kept d) : control (cqFlushList l kept d) = control d := by
  induction l generalizing kept d with
  | nil => simp [cqFlushList]
  | cons e r ih => simp [cqFlushList, ih]
@[simp] theorem resultWrite_control (addr out d) : control (resultWrite addr out d) = control d := by simp [resultWrite]
@[simp] theorem cqFlush_control (d) : control (cqFlush d) = control d := by simp [cqFlush]
@[simp] theorem cqPut_control (c d) : control (cqPut c d) = control d := by simp [cqPut]
@[simp] theorem rejectsFlush_control (d) : control (rejectsFlush d) = control d := by simp [rejectsFlush]
@[simp] theorem jReview_control (d) : control (jReview d) = control d := by
  simp [jReview, Reg.HI_JOURNAL_TAIL, Reg.HI_JOURNAL_FREE_ENTRIES, Reg.HI_STATUS_JOURNAL_LOW]
@[simp] theorem jPut_control (s e d) : control (jPut s e d) = control d := by simp [jPut, Reg.HI_JOURNAL_HEAD]
@[simp] theorem jAppend_control (e d) : control (jAppend e d) = control d := by simp [jAppend]
@[simp] theorem cmdLeave_control (s d) : control (cmdLeave s d) = control d := by simp [cmdLeave, openReview, Reg.HI_STATUS_OPEN]
@[simp] theorem resultStore_control (s r d) : control (resultStore s r d) = control d := by simp [resultStore]
@[simp] theorem cmdDone_control (c status result d) : control (cmdDone c status result d) = control d := by simp [cmdDone]
@[simp] theorem cmdFinal_control (s status result d) : control (cmdFinal s status result d) = control d := by
  unfold cmdFinal
  split <;> simp

/-! ### The Girder -/

@[simp] theorem gbSet_control (f d) : control (gbSet f d) = control d := (rfl)
@[simp] theorem gbQueue_control (q d) : control (gbQueue q d) = control d := by simp [gbQueue, gbLevel, Reg.GB_STATUS_QUEUE, Reg.GB_QUEUE_PEAK]
@[simp] theorem gbCountFail_control (st d) : control (gbCountFail st d) = control d := by
  simp [gbCountFail, Reg.GB_FAIL_A_TARGET_ERR, Reg.GB_FAIL_A_TIMEOUT, Reg.GB_FAIL_B_NO_GRANT, Reg.GB_FAIL_B_PARITY, Reg.GB_FAIL_B_BP_RESET,
    Reg.GB_FAIL_B_ABORTED]
@[simp] theorem gbRecord_control (r d) : control (gbRecord r d) = control d := by simp [gbRecord, Reg.GB_RES_OVF_COUNT]
@[simp] theorem gbScanSet_control (cls f d) : control (gbScanSet cls f d) = control d := by
  unfold gbScanSet
  split <;> simp
@[simp] theorem gbSafeDone_control (d) : control (gbSafeDone d) = control d := by simp [gbSafeDone]
@[simp] theorem gbReportFail_control (r cycle cls seg st posted d) : control (gbReportFail r cycle cls seg st posted d) = control d := by
  simp [gbReportFail, Reg.GB_WIN_CNT_FAIL, Reg.GB_LF_INFO_STATUS, Reg.GB_LF_INFO_CLASS, Reg.GB_LF_INFO_WINDOW, Reg.GB_LF_INFO_SEGMENT,
    Reg.GB_LF_OFFSET_OFFSET, Reg.GB_LF_CYC, Reg.GB_LF_COUNT, Nat.le_add_right_of_le]
@[simp] theorem gbFinish_control (r st data d) : control (gbFinish r st data d) = control d := by
  unfold gbFinish
  repeat' split
  all_goals simp
@[simp] theorem gbReissue_control (l d) : control (gbReissue l d) = control d := by
  unfold gbReissue
  repeat' split
  all_goals simp
@[simp] theorem gbOpenPut_control (o d) : control (gbOpenPut o d) = control d := (rfl)
@[simp] theorem gbIdle_control (d) : control (gbIdle d) = control d := by simp [gbIdle, Reg.GB_STATUS_LOCKED, Reg.GB_STATUS_OWNER]
@[simp] theorem gbUnstart_control (d) : control (gbUnstart d) = control d := by
  unfold gbUnstart
  split <;> simp
@[simp] theorem gbDropQueued_control {count : Fld} (h : outer count) (d) : control (gbDropQueued count d) = control d := by
  simp only [gbDropQueued]
  split <;> simp [h]
@[simp] theorem gbSafeRun_control (mode d) : control (gbSafeRun mode d) = control d := by simp [gbSafeRun]

/-! ### The slices and the pins -/

@[simp] theorem fioSet_control (p f d) : control (fioSet p f d) = control d := (rfl)
@[simp] theorem legsOff_control (p d) : control (legsOff p d) = control d := by
  simp [legsOff, legPendingBits, Reg.FIO_LEG_STATE_APPLIED, Reg.FIO_LEG_STATE_PENDING, Nat.le_add_right_of_le]
@[simp] theorem allLegsOff_control (d) : control (allLegsOff d) = control d := by simp [allLegsOff]
@[simp] theorem trigDisarm_control (p k d) : control (trigDisarm p k d) = control d := by
  have hs : outer (Reg.PT_TRIG_CTL_STATE (sl p) k) := by simp [Reg.PT_TRIG_CTL_STATE, Nat.add_assoc, Nat.le_add_right_of_le]
  have ha : outer (Reg.PT_TRIG_CTL_ARM (sl p) k) := by simp [Reg.PT_TRIG_CTL_ARM, Nat.add_assoc, Nat.le_add_right_of_le]
  have hh : outer (Reg.PT_HIT (sl p)) := by simp [Reg.PT_HIT, Nat.le_add_right_of_le]
  simp [trigDisarm, trigState, hs, ha, hh]
@[simp] theorem trigDisarmAll_control (d) : control (trigDisarmAll d) = control d := by simp [trigDisarmAll]
@[simp] theorem pinReview_control (d) : control (pinReview d) = control d := by
  have hg : outer Reg.DX_STATUS_GRANTING := by simp [Reg.DX_STATUS_GRANTING]
  have hp : ∀ f ∈ [Reg.MCTL_PINS_STANDBY, Reg.MCTL_PINS_ALIVE, Reg.MCTL_PINS_SAFE_OUT], ∀ d b, control (wrB d f b) = control d :=
    fun f hf d b => wr_control (by revert f; decide) d _
  simp only [List.forall_mem_cons] at hp
  obtain ⟨hs, ha, ho, -⟩ := hp
  simp only [pinReview, switchPins, wrB_outer_control hg, hs, ha, ho]
  rfl

/-! ## Entry into SAFE (R92, R93) -/

@[simp] theorem modeSet_control (f d) : control (modeSet f d) = control d := (rfl)
@[simp] theorem safeCommands_control (d) : control (safeCommands d) = control d := by
  have hc : ∀ (d : Dev) c, control { d with chg := c } = control d := fun _ _ => rfl
  simp [safeCommands, hc]

/-- The fields of the Keystone that stopping it writes. -/
def stopWrites : List Fld :=
  [Reg.KS_OPEN_A, Reg.KS_OPEN_B, Reg.KS_OPEN_C, Reg.KS_STATUS_OPEN_MAX, Reg.KS_STATUS_RESYNC_PHASE, Reg.KS_RESYNC_STATUS_PHASE]
/-- Cycles, Keystone and resynchronisation stopped (R93, R145). -/
def allStop (d : Dev) : Dev := resyncEnd (ksStop (cyclesStop d))
theorem rd_allStop {g : Fld} (hk : controlKey (fldKey g) = true) (hg : ∀ f ∈ stopWrites, fldKey f ≠ fldKey g) (d) :
    rd (allStop d) g = rd d g := by
  have hc : outer Reg.CYC_STATUS_ACTIVE ∧ outer Reg.CYC_STATUS_STATE ∧ outer Reg.CYC_STEP_REMAIN := by
    simp [Reg.CYC_STATUS_ACTIVE, Reg.CYC_STATUS_STATE, Reg.CYC_STEP_REMAIN]
  obtain ⟨hact, hst, hrem⟩ := hc
  simp only [stopWrites, List.forall_mem_cons] at hg
  obtain ⟨h1, h2, h3, h4, h5, h6, -⟩ := hg
  simp only [allStop, resyncEnd, ksStop, cyclesStop, rd_ksSet, rd_wr_ne _ _ h1, rd_wr_ne _ _ h2, rd_wr_ne _ _ h3, rd_wr_ne _ _ h4,
    rd_wr_ne _ _ h5, rd_wr_ne _ _ h6, rd_wr_outer hact hk, rd_wr_outer hst hk, rd_wr_outer hrem hk, rd_prsAll, rd_cycSet]
theorem pierIdle_pierStop (u) : pierIdle (pierStop u) = true := rfl
theorem triGet_triMap {α β : Type} (f : α → β) (t : Tri α) (p) : triGet (triMap f t) p = f (triGet t p) := by cases p <;> rfl
theorem allStop_nothingHeld (d) : nothingHeld (allStop d) := by
  refine ⟨⟨rfl, rfl, fun p => ?_⟩, rfl⟩
  have h : (allStop d).prs = triMap pierStop d.prs := rfl
  rw [h, triGet_triMap]
  exact pierIdle_pierStop _

theorem safeEffects_control (d) : control (safeEffects d) = control (allStop (pinReview (trigDisarmAll (allLegsOff (modeWrite mSAFE d))))) := by
  have hc : outer Reg.GB_DISCARD_MODE := by simp [Reg.GB_DISCARD_MODE]
  simp only [safeEffects]
  split <;> split <;> simp [hc, allStop]
theorem modeWrite_control (m d) : control (modeWrite m d) =
    control (wr (incW (wr d Reg.MCTL_MODE_PREV (modeOf d)) Reg.MCTL_MODE_MODE_SEQ) Reg.MCTL_MODE_MODE m) := by simp [modeWrite]

/-- The fields of module control and of the Keystone that an entry into SAFE writes. -/
def safeWrites : List Fld :=
  [Reg.MCTL_MODE_MODE, Reg.MCTL_MODE_PREV, Reg.MCTL_MODE_MODE_SEQ, Reg.MCTL_SAFE_CAUSE_CAUSE, Reg.MCTL_SAFE_CAUSE_DETAIL] ++ stopWrites
/-- A field of module control or of the Keystone that an entry into SAFE leaves as it was. -/
def safeKeeps (g : Fld) : Prop := controlKey (fldKey g) = true ∧ ∀ f ∈ safeWrites, fldKey f ≠ fldKey g
theorem rd_safeEffects {g : Fld} (hk : controlKey (fldKey g) = true) (hg : ∀ f ∈ stopWrites, fldKey f ≠ fldKey g) (d) :
    rd (safeEffects d) g = rd (modeWrite mSAFE d) g := by
  rw [rd_of_control (safeEffects_control d) hk, rd_allStop hk hg]
  exact rd_of_control (by simp) hk
theorem rd_modeWrite {g : Fld} (hk : controlKey (fldKey g) = true)
    (hg : ∀ f ∈ [Reg.MCTL_MODE_MODE, Reg.MCTL_MODE_PREV, Reg.MCTL_MODE_MODE_SEQ], fldKey f ≠ fldKey g) (m d) :
    rd (modeWrite m d) g = rd d g := by
  simp only [List.forall_mem_cons] at hg
  obtain ⟨h1, h2, h3, -⟩ := hg
  rw [rd_of_control (modeWrite_control m d) hk, rd_wr_ne _ _ h1, incW, rd_wr_ne _ _ h3, rd_wr_ne _ _ h2]
theorem modeOf_modeWrite (m d) : modeOf (modeWrite m d) = trunc 4 m := by
  rw [modeOf, rd_of_control (modeWrite_control m d) (by decide), rd_wr_same]
  rfl
theorem modeOf_safeEffects (d) : modeOf (safeEffects d) = mSAFE := by
  rw [modeOf, rd_safeEffects (by decide) (by decide)]
  exact modeOf_modeWrite mSAFE d

/-- An entry into SAFE that is not put off notes cause and detail and stops the module. -/
theorem safeEnter_open {d : Dev} (h : safeOpen d) (c x) : ∃ f l, safeEnter c x d =
    record Ev.SAFE_ENTERED l (safeEffects (modeSet f (wr (wr d Reg.MCTL_SAFE_CAUSE_CAUSE c) Reg.MCTL_SAFE_CAUSE_DETAIL x))) := by
  obtain ⟨hs, hb, hd⟩ := h
  have hm : modeOf (wr (wr d Reg.MCTL_SAFE_CAUSE_CAUSE c) Reg.MCTL_SAFE_CAUSE_DETAIL x) = modeOf d := by
    rw [modeOf, rd_wr_ne _ _ (by decide), rd_wr_ne _ _ (by decide)]
    rfl
  have hn : ∀ e : Dev, modeOf e ≠ mBOOT → ∃ f, safeNow e = safeEffects (modeSet f e) := fun e he => by
    have hi : modeIs e mBOOT = false := by simp [modeIs, he]
    simp only [safeNow, hi]
    exact ⟨_, rfl⟩
  obtain ⟨f, hf⟩ := hn _ (hm.trans_ne hb)
  have hp : safeDefers c x (wr (wr d Reg.MCTL_SAFE_CAUSE_CAUSE c) Reg.MCTL_SAFE_CAUSE_DETAIL x) = false := by simp [safeDefers, modeIs, hm, hb]
  rw [safeEnter, if_neg (by simp [modeIs, hs]), if_neg (by simp [hd])]
  simp only [hp, hf]
  exact ⟨_, _, rfl⟩
theorem rd_safeEnter {d : Dev} (h : safeOpen d) {g : Fld} (hg : safeKeeps g) (c x) : rd (safeEnter c x d) g = rd d g := by
  obtain ⟨f, l, he⟩ := safeEnter_open h c x
  obtain ⟨hk, hg⟩ := hg
  simp only [safeWrites, List.forall_mem_append, List.forall_mem_cons] at hg
  obtain ⟨⟨h1, h2, h3, h4, h5, -⟩, hs⟩ := hg
  rw [he, rd_of_control (record_control _ _ _) hk, rd_safeEffects hk hs, rd_modeWrite hk (by simp [h1, h2, h3]), rd_modeSet, rd_wr_ne _ _ h5,
    rd_wr_ne _ _ h4]
theorem safeEnter_enteredSafe {d : Dev} (h : safeOpen d) (c x) : enteredSafe (safeEnter c x d) c x := by
  obtain ⟨f, l, he⟩ := safeEnter_open h c x
  rw [he]
  refine ⟨?_, ?_, ?_⟩
  · rw [modeOf, rd_of_control (record_control _ _ _) (by decide)]
    exact modeOf_safeEffects _
  · rw [rd_of_control (record_control _ _ _) (by decide), rd_safeEffects (by decide) (by decide), rd_modeWrite (by decide) (by decide), rd_modeSet,
      rd_wr_ne _ _ (by decide), rd_wr_same]
    rfl
  · rw [rd_of_control (record_control _ _ _) (by decide), rd_safeEffects (by decide) (by decide), rd_modeWrite (by decide) (by decide), rd_modeSet,
      rd_wr_same]
    rfl
theorem safeEnter_nothingHeld {d : Dev} (h : safeOpen d) (c x) : nothingHeld (safeEnter c x d) := by
  obtain ⟨f, l, he⟩ := safeEnter_open h c x
  rw [he]
  exact nothingHeld_of_control (record_control _ _ _) (nothingHeld_of_control (safeEffects_control _) (allStop_nothingHeld _))
/-- The words of an entry into SAFE are words of module control. -/
theorem enteredSafe_of_control {d t : Dev} (h : control t = control d) {c x : Nat} (hd : enteredSafe d c x) : enteredSafe t c x := by
  obtain ⟨hm, hc, hx⟩ := hd
  exact ⟨(rd_of_control h (by decide)).trans hm, (rd_of_control h (by decide)).trans hc, (rd_of_control h (by decide)).trans hx⟩
/-- A further cause is only recorded (R92). -/
theorem safeEnter_again {d : Dev} (h : modeOf d = mSAFE) (c x) : safeEnter c x d = record Ev.SAFE_LATER_CAUSE [.w c, .w x] d := by
  simp [safeEnter, modeIs, h]

theorem recordSev_mode (sev code pier l d) : (recordSev sev code pier l d).mode = d.mode := by rw [recordSev, intake_shape]
theorem safeOpen_of_mode {d t : Dev} (he : modeOf t = modeOf d) (hm : t.mode = d.mode) (h : safeOpen d) : safeOpen t := by
  simpa only [safeOpen, he, hm] using h
theorem safeOpen_of_control {d t : Dev} (hc : control t = control d) (hm : t.mode = d.mode) (h : safeOpen d) : safeOpen t :=
  safeOpen_of_mode (rd_of_control hc (by decide)) hm h

/-! ## Nothing to settle -/

theorem winOrder_idle {d : Dev} (h : d.ks.windows = []) : winOrder d = d := by
  simp only [winOrder, winQueue, winPrune, ksSet, h, List.length_nil, List.filter_nil, List.take_nil, List.any_nil, Bool.and_false, Bool.not_false,
    List.filter_true]
  rw [← h]
theorem slotsReview_idle {d : Dev} (h : d.ks.slots = []) : slotsReview d = d := by simp [slotsReview, h, forEach]
/-- With nothing held, nothing is resolved, released or resumed. -/
theorem settle_idle {d : Dev} (h : nothingHeld d) : settle d = d := by
  obtain ⟨⟨hw, hr, hp⟩, hs⟩ := h
  have ho : settleOnce d = d := by
    unfold settleOnce
    simp only [slotsReview_idle hs, winOrder_idle hw, hr, List.length_nil, relRun, ite_self]
  have hi : (allPiers.all fun p => pierIdle (triGet d.prs p)) = true := by simp [allPiers, hp _]
  unfold settle
  generalize (allPiers.map fun p => (triGet d.prs p).stalled.length).foldl max 1 = n
  cases n with
  | zero => exact ho
  | succ n => simp only [settleN, ho, hi, if_true]

end Sys2Proof.Machine
end

section
/-!
SUPPORT. Snapshots without cycles, and the watchdog of a class cycle: O33.
-/
namespace Sys2Proof.Machine

/-! ## Snapshots while no cycles run (R40, R179) -/

theorem snapshotTimer_writes {d : Dev} (hf : flag d Reg.CYC_CFG_SNAP_EN = true) (hm : modeOf d = mSTOP ∨ modeOf d = mHOLD)
    (hc : cycState d ≠ 3 ∨ d.cyc.snapSince + 100 * msec ≤ d.clk) : snapshotTimer d = snapshotWrite d := by
  simp [snapshotTimer, modeIs, hf, hm, hc]
theorem snapshotTimer_rests {d : Dev} (h : flag d Reg.CYC_CFG_SNAP_EN = false ∨ (modeOf d ≠ mSTOP ∧ modeOf d ≠ mHOLD)) :
    snapshotTimer d = d := by
  rcases h with hf | ⟨hs, hh⟩
  · simp [snapshotTimer, hf]
  · simp [snapshotTimer, modeIs, hs, hh]
/-- The buffer shown after a snapshot is the one it was written into. -/
theorem snapShown_snapshotWrite (d) : snapShown (snapshotWrite d) = imageCells d := by
  have hs : (snapshotWrite d).snap = if 1 - d.cyc.snapBuf = 0 then (imageCells d, d.snap.2) else (d.snap.1, imageCells d) := rfl
  have hb : (snapshotWrite d).cyc.snapBuf = 1 - d.cyc.snapBuf := rfl
  rw [snapShown, hs, hb]
  split <;> rfl

/-! ## The watchdog (R191, R195) -/

@[simp] theorem overrunNote_control (kind cls cycle w d) : control (overrunNote kind cls cycle w d) = control d := by
  simp [overrunNote, Reg.CYC_OVR_LAST_KIND, Reg.CYC_OVR_LAST_CLASS, Reg.CYC_OVR_CYC, Reg.CYC_OVR_LAST_PIERS]
theorem rd_overrunNote {g : Fld} (hg : ∀ f ∈ [Reg.CYC_OVR_LAST_KIND, Reg.CYC_OVR_LAST_CLASS, Reg.CYC_OVR_CYC, Reg.CYC_OVR_LAST_PIERS],
    fldKey f ≠ fldKey g) (kind cls cycle w d) : rd (overrunNote kind cls cycle w d) g = rd d g := by
  simp only [List.forall_mem_cons] at hg
  obtain ⟨h1, h2, h3, h4, -⟩ := hg
  simp only [overrunNote, rd_wr_ne _ _ h1, rd_wr_ne _ _ h2, rd_wr_ne _ _ h3, rd_wr_ne _ _ h4]
/-- A program overrun enters SAFE with cause WATCHDOG, whatever cause comes in the same clock cycle. -/
theorem programOverrun_enteredSafe {d : Dev} (h : safeOpen d) (cls cycle w posted other) :
    enteredSafe (programOverrun cls cycle w posted other d) scWATCHDOG cls := by
  unfold programOverrun
  extract_lets e t
  have he : safeOpen (recordSev 4 Ev.PROGRAM_OVERRUN 3 [.w cls, .q cycle, .w posted] e) :=
    safeOpen_of_control (d := d) (by simp [e]) (recordSev_mode _ _ _ _ _) h
  have ht : enteredSafe t scWATCHDOG cls := safeEnter_enteredSafe he scWATCHDOG cls
  split
  · exact ht
  · rw [safeEnter_again ht.1]
    exact enteredSafe_of_control (record_control _ _ _) ht

/-- The signatures for the final window of a class cycle that have arrived by the deadline and the skew bound, earliest first. -/
def watchInTime (d : Dev) (cls cycle : Nat) : List (Nat × Nat × Nat) :=
  (((finalWindow d cls cycle).map (watchArrivals d)).getD []).filter fun x => decide (x.2.2 ≤ deadlineOf d cls cycle + skewUnits d)
/-- The watchdog of a class cycle has something to judge: the cycle runs or has a final window, not yet judged, out of SAFE. -/
def watchDue (d : Dev) (cls cycle : Nat) : Prop :=
  ((runOf d cls cycle).isNone && (finalWindow d cls cycle).isNone || ((finalWindow d cls cycle).map fun x => x.judged).getD false ||
    modeIs d mSAFE) = false
/-- Fewer than two signatures in time are a program overrun. -/
theorem watchdog_few {d : Dev} {cls cycle : Nat} (hd : watchDue d cls cycle) (hl : (watchInTime d cls cycle).length < 2) (other) :
    watchdog cls cycle other d =
      programOverrun cls cycle (finalWindow d cls cycle) (maskOf ((watchInTime d cls cycle).map (·.1))) other d := by
  unfold watchdog
  extract_lets w due arr e
  rw [if_neg (ne_true_of_eq_false hd)]
  have ha : arr = watchInTime d cls cycle := rfl
  rw [ha]
  generalize watchInTime d cls cycle = l at hl ⊢
  split
  · simp at hl
  · rfl
/-- A late cycle noted (R191). -/
def lateNoted (cls cycle : Nat) (w : KsWindow) (late : Nat) (d : Dev) : Dev :=
  record Ev.CYCLE_LATE [.w cls, .q cycle, .w (late / 400)] (overrunNote 1 cls cycle (some w) (inc d (Reg.CYC_CLS_OVR_LATE cls)))
/-- With two signatures in time the window is judged: the cycle is late where the second came after the deadline. -/
theorem watchdog_two {d : Dev} {cls cycle : Nat} {w : KsWindow} (hd : watchDue d cls cycle) (hf : finalWindow d cls cycle = some w)
    {a b : Nat × Nat × Nat} {l : List (Nat × Nat × Nat)} (hl : watchInTime d cls cycle = a :: b :: l) (other) :
    watchdog cls cycle other d = if deadlineOf d cls cycle < b.2.2 then
      lateNoted cls cycle w (b.2.2 - deadlineOf d cls cycle) (winPut { w with judged := true } d) else winPut { w with judged := true } d := by
  unfold watchdog
  extract_lets v due arr e
  rw [if_neg (ne_true_of_eq_false hd)]
  have ha : arr = a :: b :: l := hl
  have hv : v = some w := hf
  have he : e = winPut { w with judged := true } d := by simp only [e, hv]
  rw [ha, hv, he]
  rfl
theorem rd_winPut (w d f) : rd (winPut w d) f = rd d f := rfl
/-- No register of the record of a late cycle is the count of late cycles of a class. -/
theorem lateCount_apart {cls : Nat} (h : cls < 16) : ∀ f ∈ [Reg.CYC_OVR_LAST_KIND, Reg.CYC_OVR_LAST_CLASS, Reg.CYC_OVR_CYC,
    Reg.CYC_OVR_LAST_PIERS] ++ evCounts, fldKey f ≠ fldKey (Reg.CYC_CLS_OVR_LATE cls) := by
  revert cls
  decide
theorem rd_lateNoted_count {cls : Nat} (h : cls < 16) (cycle w late d) :
    rd (lateNoted cls cycle w late d) (Reg.CYC_CLS_OVR_LATE cls) = satAdd (Reg.CYC_CLS_OVR_LATE cls).w (rd d (Reg.CYC_CLS_OVR_LATE cls)) 1 := by
  obtain ⟨ho, he⟩ := List.forall_mem_append.mp (lateCount_apart h)
  simp only [evCounts, List.forall_mem_cons] at he
  obtain ⟨hdr, hsu, -⟩ := he
  rw [lateNoted, rd_record _ _ _ _ hdr hsu, rd_overrunNote ho, rd_inc_same]
theorem lateNoted_control (cls cycle w late d) : control (lateNoted cls cycle w late d) = control d := by
  simp [lateNoted, Reg.CYC_CLS_OVR_LATE, Nat.le_add_right_of_le]

/-- Settles O33: the timer writes the snapshot or rests; the watchdog enters SAFE with fewer than two signatures in time, and else counts a
late cycle where the second came after the deadline. -/
theorem snapshotsAndWatchdog : Obligations.SnapshotsAndWatchdog := by
  unfold Obligations.SnapshotsAndWatchdog
  intro s hs
  refine ⟨fun hf hm hc => ?_, fun h => ?_, fun cls cycle other ho hr hw => ?_, fun cls cycle other w a b l hc ho hf hj hl => ?_⟩
  · rw [answers_of (i := .snapshotTimer) rfl hs, snapshotTimer_writes hf hm hc]
    exact ⟨rfl, snapShown_snapshotWrite _, rfl, rd_wr_same _ _ _, fun g hg => rd_wr_ne _ _ (hg _ (List.mem_singleton_self _))⟩
  · rw [answers_of (i := .snapshotTimer) rfl hs]
    exact snapshotTimer_rests h
  · have hs' : modeIs s.dev mSAFE = false := by simp [modeIs, ho.1]
    have hdue : watchDue s.dev cls cycle ∧ (watchInTime s.dev cls cycle).length < 2 := by
      cases hf : finalWindow s.dev cls cycle with
      | none =>
        rw [hf] at hr
        have hn : (runOf s.dev cls cycle).isNone = false := by simpa using hr
        simp [watchDue, watchInTime, hf, hn, hs']
      | some w =>
        obtain ⟨hj, hl⟩ := hw w hf
        simpa [watchDue, watchInTime, hf, hj, hs'] using hl
    obtain ⟨hd, hl⟩ := hdue
    rw [answers_of (i := .watchdogDeadline cls cycle other) rfl hs, watchdog_few hd hl]
    exact programOverrun_enteredSafe ho cls cycle _ _ other
  · have hd : watchDue s.dev cls cycle := by simp [watchDue, hf, hj, modeIs, ho]
    have hi : watchInTime s.dev cls cycle = a :: b :: l := by simpa [watchInTime, hf] using hl
    have hx := watchdog_two hd hf hi other
    rw [answers_of (i := .watchdogDeadline cls cycle other) rfl hs]
    refine ⟨?_, ?_, memSame_of_memories (watchdog_memories _ _ _ _)⟩
    · rw [hx]
      split
      · rw [rd_lateNoted_count hc, rd_winPut]
      · exact rd_winPut _ _ _
    · rw [hx]
      split
      · exact rd_of_control (lateNoted_control _ _ _ _ _) (by decide)
      · rfl

end Sys2Proof.Machine
end

section
/-!
SUPPORT. Faults of a Pier, and the tests of the Keystone halves: O29.
-/
namespace Sys2Proof.Machine

/-! ## A function applied for each element -/

/-- What no element of a list touches stays. -/
theorem forEach_keeps {α β : Type} {v : Dev → β} {f : α → Dev → Dev} {l : List α} (h : ∀ x ∈ l, ∀ d, v (f x d) = v d) (d) :
    v (forEach l f d) = v d := by
  induction l generalizing d with
  | nil => rfl
  | cons x r ih => exact (ih (fun y hy => h y (List.mem_cons_of_mem x hy)) (f x d)).trans (h x List.mem_cons_self d)
/-- What only one element of a list touches comes from that element's turn. -/
theorem forEach_view {α β : Type} {v : Dev → β} {f : α → Dev → Dev} {l : List α} {x : α} (hn : l.Nodup) (hx : x ∈ l)
    (h : ∀ y, y ≠ x → ∀ d, v (f y d) = v d) (d) : ∃ e, v e = v d ∧ v (forEach l f d) = v (f x e) := by
  induction l generalizing d with
  | nil => cases hx
  | cons y r ih =>
    rw [List.nodup_cons] at hn
    by_cases hy : y = x
    · subst hy
      exact ⟨d, rfl, forEach_keeps (fun z hz => h z fun hzy => hn.1 (hzy ▸ hz)) (f y d)⟩
    · obtain ⟨e, he, hv⟩ := ih hn.2 ((List.mem_cons.mp hx).resolve_left (Ne.symm hy)) (f y d)
      exact ⟨e, he.trans (h y hy d), hv⟩
theorem pierIdx_lt (p) : pierIdx p < 3 := by cases p <;> decide
theorem triGet_triSet {α : Type} (t : Tri α) (p x q) : triGet (triSet t p x) q = if p = q then x else triGet t q := by
  cases p <;> cases q <;> rfl

/-! ## Reports of a segment's fault (R26, R103) -/

/-- An open intake takes an event of whatever source block and Pier as it is stamped. -/
theorem intake_entered {c sev : Nat} {d : Dev} (h : intakeOpen d c sev) (src pier l) :
    entered d (intake (stamp d c sev src pier 1 false (evData l)) d) c sev src pier l := by
  obtain ⟨h0, hr, hb⟩ := h
  have ho : intakeOverflow d = d := by simp [intakeOverflow, h0]
  have hl : limitedBurst d (stamp d c sev src pier 1 false (evData l)) = limitedBurst d (stamp d c sev 0 3 1 false []) := rfl
  unfold entered intake
  simp only [ho, hl]
  split
  · next hn => simp [intakeAdd, intakePush, stamp, hr]
  · next burst hn =>
    rw [hn] at hb
    simp [stamp, hr, hb, intakePush]

/-- A trap under the determinism rules is recorded (R103). -/
def trapNoted (p : Pier) (seg cycle addr core : Nat) (trap : Bool) (d : Dev) : Dev :=
  if trap then recordP Ev.DETERMINISM_TRAP p [.w seg, .w core, .q cycle, .q addr] d else d
theorem trapNoted_shape (p seg cycle addr core trap d) : trapNoted p seg cycle addr core trap d =
    { d with regs := (trapNoted p seg cycle addr core trap d).regs, ev := (trapNoted p seg cycle addr core trap d).ev } := by
  unfold trapNoted
  split
  · exact recordP_shape _ _ _ _
  · rfl
theorem trapNoted_regsBut (p seg cycle addr core trap d) : regsBut evCounts d (trapNoted p seg cycle addr core trap d) := by
  intro g hg
  simp only [evCounts, List.forall_mem_cons] at hg
  obtain ⟨h1, h2, -⟩ := hg
  unfold trapNoted
  split
  · exact rd_recordP _ _ _ _ _ h1 h2
  · rfl
theorem syncFault_out {p : Pier} {d : Dev} (h : inService d p = false) (seg cycle kind addr core trap) :
    syncFault p seg cycle kind addr core trap d = d := by simp [syncFault, h]
/-- A report of a Pier in service is noted; as the second report of the fault it leads to SAFE (R26). -/
theorem syncFault_in {p : Pier} {d : Dev} (h : inService d p = true) (seg cycle kind addr core trap) :
    syncFault p seg cycle kind addr core trap d =
      if (d.ks.faults.any fun x => x.pier != pierIdx p && sameFault x ⟨pierIdx p, seg, cycle, kind, addr⟩) = true then
        safeEnter scPROGRAM_FAULT seg (faultNoted p seg cycle kind addr (trapNoted p seg cycle addr core trap d))
      else faultNoted p seg cycle kind addr (trapNoted p seg cycle addr core trap d) := by
  have hks : (trapNoted p seg cycle addr core trap d).ks = d.ks := by rw [trapNoted_shape]
  rw [← hks]
  simp only [syncFault, h]
  rfl
theorem faultNoted_safeOpen {d : Dev} (h : safeOpen d) (p seg cycle kind addr core trap) :
    safeOpen (faultNoted p seg cycle kind addr (trapNoted p seg cycle addr core trap d)) := by
  refine safeOpen_of_mode ?_ ?_ h
  · exact (rd_faultNoted _ _ _ _ _ _ _).trans (trapNoted_regsBut p seg cycle addr core trap d _ (by decide))
  · show (trapNoted p seg cycle addr core trap d).mode = d.mode
    rw [trapNoted_shape]

/-! ## Broken halves and transients (R155 to R158) -/

/-- A half is shown as broken. -/
def halfMark (h : Nat) (d : Dev) : Dev := clrBitF (wrB d (Reg.KS_HALF_BROKEN h) true) Reg.KS_STATUS_HALF_OK h
theorem halfBroken_eq (m d) : halfBroken m d = safeEnter scKS_HALF m (forEach (bitsOf 2 m) halfMark d) := rfl
theorem halfOk_ne_broken (h) : fldKey Reg.KS_STATUS_HALF_OK ≠ fldKey (Reg.KS_HALF_BROKEN h) := by
  simp only [fldKey, Reg.KS_STATUS_HALF_OK, Reg.KS_HALF_BROKEN]
  omega
theorem flag_halfMark_same (h d) : flag (halfMark h d) (Reg.KS_HALF_BROKEN h) = true := by
  rw [halfMark, clrBitF, flag_wr_ne _ _ (halfOk_ne_broken h), flag_wrB_same _ _ _ (by simp [Reg.KS_HALF_BROKEN])]
theorem flag_halfMark_ne {h x : Nat} (hx : x ≠ h) (d) : flag (halfMark x d) (Reg.KS_HALF_BROKEN h) = flag d (Reg.KS_HALF_BROKEN h) := by
  have hk : fldKey (Reg.KS_HALF_BROKEN x) ≠ fldKey (Reg.KS_HALF_BROKEN h) := by
    simp only [fldKey, Reg.KS_HALF_BROKEN]
    omega
  rw [halfMark, clrBitF, flag_wr_ne _ _ (halfOk_ne_broken h), flag_wrB_ne _ _ hk]
theorem bitsOf_nodup (n v) : (bitsOf n v).Nodup := List.nodup_range.filter _
theorem flag_halvesMarked {h m : Nat} (hm : h ∈ bitsOf 2 m) (d) : flag (forEach (bitsOf 2 m) halfMark d) (Reg.KS_HALF_BROKEN h) = true := by
  obtain ⟨e, -, he⟩ := forEach_view (v := fun d => flag d (Reg.KS_HALF_BROKEN h)) (f := halfMark) (bitsOf_nodup 2 m) hm
    (fun x hx d => flag_halfMark_ne hx d) d
  exact he.trans (flag_halfMark_same h e)
theorem halvesMarked_safeOpen {d : Dev} (h : safeOpen d) (m) : safeOpen (forEach (bitsOf 2 m) halfMark d) := by
  have hk : ∀ x, fldKey (Reg.KS_HALF_BROKEN x) ≠ fldKey Reg.MCTL_MODE_MODE := fun x => by
    simp only [fldKey, Reg.KS_HALF_BROKEN, Reg.MCTL_MODE_MODE]
    omega
  refine safeOpen_of_mode (rd_forEach (fun x _ d => ?_) d) ?_ h
  · rw [halfMark, clrBitF, rd_wr_ne _ _ (by decide), rd_wrB_ne _ _ (hk x)]
  · have hr : regsOnly d (forEach (bitsOf 2 m) halfMark d) := forEach_regsOnly (f := halfMark) _ (fun _ _ => rfl) d
    rw [hr]
theorem halfBroken_enteredSafe {d : Dev} (h : safeOpen d) (m) : enteredSafe (halfBroken m d) scKS_HALF m :=
  safeEnter_enteredSafe (halvesMarked_safeOpen h m) _ _
theorem halfBroken_nothingHeld {d : Dev} (h : safeOpen d) (m) : nothingHeld (halfBroken m d) :=
  safeEnter_nothingHeld (halvesMarked_safeOpen h m) _ _
theorem safeKeeps_broken {h : Nat} (hh : h < 2) : safeKeeps (Reg.KS_HALF_BROKEN h) := by
  refine ⟨?_, ?_⟩ <;> (revert h; decide)
theorem flag_halfBroken {d : Dev} (ho : safeOpen d) {h m : Nat} (hm : h ∈ bitsOf 2 m) : flag (halfBroken m d) (Reg.KS_HALF_BROKEN h) = true := by
  rw [halfBroken_eq, flag, rd_safeEnter (halvesMarked_safeOpen ho m) (safeKeeps_broken (mem_bitsOf.mp hm).1)]
  exact flag_halvesMarked hm d

/-- A stamp of now adds at most one to the stamps of the last operating hour (R162). -/
theorem hourStamps_stampAdd (k d) : (hourStamps (stampAdd k d) k).length ≤ (hourStamps d k).length + 1 := by
  unfold stampAdd
  extract_lets l
  split
  · omega
  · have hs : hourStamps (ksSet (fun x => { x with stamps := mput x.stamps k l.reverse }) d) k =
        l.reverse.filter fun t => decide (rd d Reg.MCTL_OP_SECONDS < t + 3600) := by
      rw [hourStamps, ksSet_ks, mgetD, mget_mput_same]
      rfl
    have hl : l.length ≤ (hourStamps d k).length + 1 := by simp [l]
    rw [hs]
    exact (List.length_filter_le _ _).trans (by simpa using hl)
theorem hourStamps_stampAdd_ne {j k : Nat} (h : k ≠ j) (d) : hourStamps (stampAdd k d) j = hourStamps d j := by
  unfold stampAdd
  extract_lets l
  split
  · rfl
  · rw [hourStamps, ksSet_ks, mgetD, mget_mput_ne _ _ h]
    rfl
/-- The transient of one half: a stamp, and the count of the last operating hour (R158). -/
def transientAdd (h : Nat) (d : Dev) : Dev :=
  wr (stampAdd (3 + h) d) (Reg.KS_HALF_TRANSIENTS h) (hourStamps (stampAdd (3 + h) d) (3 + h)).length
theorem stampAdd_rd (k d f) : rd (stampAdd k d) f = rd d f := by
  unfold stampAdd
  extract_lets l
  split <;> rfl
theorem stampAdd_mode (k d) : (stampAdd k d).mode = d.mode := by
  unfold stampAdd
  extract_lets l
  split <;> rfl
theorem hourStamps_transientAdd (h d j) : hourStamps (transientAdd h d) j = hourStamps (stampAdd (3 + h) d) j := by
  have hk : fldKey (Reg.KS_HALF_TRANSIENTS h) ≠ fldKey Reg.MCTL_OP_SECONDS := by
    simp only [fldKey, Reg.KS_HALF_TRANSIENTS, Reg.MCTL_OP_SECONDS]
    omega
  simp only [hourStamps, transientAdd, wr_ks, rd_wr_ne _ _ hk]
/-- The transients of the halves of a mask. -/
def transientsAdd (m : Nat) (d : Dev) : Dev := forEach (bitsOf 2 m) transientAdd d
theorem rd_transientsAdd {g : Fld} (hg : ∀ h, fldKey (Reg.KS_HALF_TRANSIENTS h) ≠ fldKey g) (m d) : rd (transientsAdd m d) g = rd d g :=
  rd_forEach (fun h _ d => by rw [transientAdd, rd_wr_ne _ _ (hg h), stampAdd_rd]) d
theorem hourStamps_transientsAdd {h m : Nat} (hm : h ∈ bitsOf 2 m) (d) :
    (hourStamps (transientsAdd m d) (3 + h)).length ≤ (hourStamps d (3 + h)).length + 1 := by
  obtain ⟨e, he, hv⟩ := forEach_view (v := fun d => hourStamps d (3 + h)) (f := transientAdd) (bitsOf_nodup 2 m) hm
    (fun x hx d => by rw [hourStamps_transientAdd, hourStamps_stampAdd_ne (by omega)]) d
  rw [transientsAdd, hv, hourStamps_transientAdd, ← he]
  exact hourStamps_stampAdd _ _
/-- Transients of halves with fewer than two in the last operating hour are recorded and break none (R158). -/
theorem halfTransient_few {m : Nat} {d : Dev} (h : ∀ x ∈ bitsOf 2 m, (hourStamps d (3 + x)).length < 2) :
    ∃ l, halfTransient m d = recordSev (sevOf Ev.KS_TRANSIENT) Ev.KS_TRANSIENT 3 l (transientsAdd m d) := by
  have ht : maskOf ((bitsOf 2 m).filter fun x => decide (3 ≤ (hourStamps (transientsAdd m d) (3 + x)).length)) = 0 := by
    rw [List.filter_eq_nil_iff.mpr]
    · rfl
    · intro x hx
      have := h x hx
      have := hourStamps_transientsAdd hx d
      simp only [decide_eq_true_eq]
      omega
  unfold halfTransient
  extract_lets e worst third t
  have h3 : third = 0 := ht
  have hs : t = recordSev (sevOf Ev.KS_TRANSIENT) Ev.KS_TRANSIENT 3 [.w m, .w worst] (transientsAdd m d) := by
    simp only [t, h3, if_true]
    rfl
  rw [if_pos h3, hs]
  exact ⟨_, rfl⟩

/-! ## The tests of the halves (R155 to R157) -/

theorem rd_ne_half {g : Fld} (h : fldKey g % 32 ≠ 8) (x) : fldKey (Reg.KS_HALF_TRANSIENTS x) ≠ fldKey g := by
  simp only [fldKey, Reg.KS_HALF_TRANSIENTS] at *
  omega
theorem nothingHeld_of_fields {d t : Dev} (hw : t.ks.windows = d.ks.windows) (hr : t.ks.releasing = d.ks.releasing)
    (hs : t.ks.slots = d.ks.slots) (hp : t.prs = d.prs) (h : nothingHeld d) : nothingHeld t := by
  simpa only [nothingHeld, noWindows, piersIdle, hw, hr, hs, hp] using h

/-- A first parity failure of a stage is a transient of its half, with event 0x1020 (R155). -/
def parityNoted (h : Nat) (p : Pier) (d : Dev) : Dev := recordP Ev.KS_STAGE_PARITY p [.w h, .w (pierIdx p)] (inc d (Reg.KS_HALF_PARITY h))
theorem stageParity_first (h p d) : stageParity h p false d = halfTransient (2 ^ h) (parityNoted h p d) := rfl
theorem stageParity_again (h p d) : stageParity h p true d = halfBroken (2 ^ h) (inc d (Reg.KS_HALF_PARITY h)) := rfl
theorem bitsOf_half {h : Nat} (hh : h < 2) : bitsOf 2 (2 ^ h) = [h] := by
  revert h
  decide
theorem rd_recordSev_control {g : Fld} (hg : controlKey (fldKey g) = true) (sev code pier l d) : rd (recordSev sev code pier l d) g = rd d g :=
  rd_of_control (recordSev_control _ _ _ _ _) hg
theorem parity_key {h : Nat} (hh : h < 2) : controlKey (fldKey (Reg.KS_HALF_PARITY h)) = true ∧ fldKey (Reg.KS_HALF_PARITY h) % 32 ≠ 8 ∧
    fldKey (Reg.KS_HALF_PARITY h) ≠ fldKey Reg.MCTL_MODE_MODE ∧ fldKey (Reg.KS_HALF_PARITY h) ≠ fldKey Reg.MCTL_OP_SECONDS := by
  revert h
  decide
theorem hourStamps_of {d t : Dev} (hk : t.ks = d.ks) (ho : rd t Reg.MCTL_OP_SECONDS = rd d Reg.MCTL_OP_SECONDS) (j) :
    hourStamps t j = hourStamps d j := by rw [hourStamps, hk, ho, hourStamps]
theorem hourStamps_parityNoted {h : Nat} (hh : h < 2) (p d j) : hourStamps (parityNoted h p d) j = hourStamps d j := by
  obtain ⟨-, -, -, ho⟩ := parity_key hh
  refine hourStamps_of ?_ ?_ j
  · rw [parityNoted, recordP_shape]
    rfl
  · rw [parityNoted, rd_of_control (recordP_control _ _ _ _) (by decide), rd_inc_ne _ ho]
/-- A first parity failure of a half with fewer than two transients in the last operating hour raises its count, and the mode stays. -/
theorem stageParity_first_spec {h : Nat} {d : Dev} (hh : h < 2) (hs : (hourStamps d (3 + h)).length < 2) (p) :
    rd (stageParity h p false d) (Reg.KS_HALF_PARITY h) = satAdd (Reg.KS_HALF_PARITY h).w (rd d (Reg.KS_HALF_PARITY h)) 1 ∧
      modeOf (stageParity h p false d) = modeOf d := by
  have hb : ∀ x ∈ bitsOf 2 (2 ^ h), (hourStamps (parityNoted h p d) (3 + x)).length < 2 := by
    simpa [bitsOf_half hh, hourStamps_parityNoted hh] using hs
  obtain ⟨l, hl⟩ := halfTransient_few hb
  obtain ⟨hk, h8, hm, -⟩ := parity_key hh
  rw [stageParity_first, hl]
  refine ⟨?_, ?_⟩
  · rw [rd_recordSev_control hk, rd_transientsAdd (rd_ne_half h8), parityNoted, rd_of_control (recordP_control _ _ _ _) hk, rd_inc_same]
  · rw [modeOf, rd_recordSev_control (by decide), rd_transientsAdd (rd_ne_half (by decide)), parityNoted,
      rd_of_control (recordP_control _ _ _ _) (by decide), rd_inc_ne _ hm]
    rfl
theorem stageParity_again_safeOpen {h : Nat} {d : Dev} (hh : h < 2) (ho : safeOpen d) : safeOpen (inc d (Reg.KS_HALF_PARITY h)) := by
  obtain ⟨-, -, hm, -⟩ := parity_key hh
  exact safeOpen_of_mode (rd_inc_ne _ hm) rfl ho

/-- The results of the self-test of both halves are shown (R156). -/
def selftestNoted (pass1 pass2 : Bool) (d : Dev) : Dev :=
  wrB (wrB (wrB (wrB d (Reg.KS_HALF_SELFTEST_RUN 0) false) (Reg.KS_HALF_SELFTEST_RUN 1) false) (Reg.KS_HALF_SELFTEST_PASS 0) pass1)
    (Reg.KS_HALF_SELFTEST_PASS 1) pass2
theorem selftestDone_idle {d : Dev} (h : flag d Reg.KS_STATUS_FROZEN = false) (p1 p2 dur agree) : selftestDone p1 p2 dur agree d = d := by
  simp [selftestDone, h]
theorem selftestDone_fails {d : Dev} (h : flag d Reg.KS_STATUS_FROZEN = true) {p1 p2 : Bool} (hp : (p1 && p2) = false) (dur agree) :
    selftestDone p1 p2 dur agree d = halfBroken (b2n (!p1) + 2 * b2n (!p2)) (selftestNoted p1 p2 d) := by
  simp only [selftestDone, h, hp]
  rfl
theorem selftestDone_passes {d : Dev} (h : flag d Reg.KS_STATUS_FROZEN = true) (dur agree) :
    selftestDone true true dur agree d =
      if agree = true then winsAgain (tokensAgain (wrB (halfTransient 3 (freezeExtra dur (selftestNoted true true d))) Reg.KS_STATUS_FROZEN false))
      else halfBroken 3 (halfTransient 3 (freezeExtra dur (selftestNoted true true d))) := by
  simp only [selftestDone, h]
  rfl
/-- The registers that the results of a self-test are shown in. -/
def selftestWrites : List Fld :=
  [Reg.KS_HALF_SELFTEST_RUN 0, Reg.KS_HALF_SELFTEST_RUN 1, Reg.KS_HALF_SELFTEST_PASS 0, Reg.KS_HALF_SELFTEST_PASS 1]
theorem rd_selftestNoted {g : Fld} (hg : ∀ f ∈ selftestWrites, fldKey f ≠ fldKey g) (p1 p2 d) : rd (selftestNoted p1 p2 d) g = rd d g := by
  simp only [selftestWrites, List.forall_mem_cons] at hg
  obtain ⟨h1, h2, h3, h4, -⟩ := hg
  simp only [selftestNoted, rd_wrB_ne _ _ h1, rd_wrB_ne _ _ h2, rd_wrB_ne _ _ h3, rd_wrB_ne _ _ h4]
theorem selftestNoted_flags (p1 p2 d) : flag (selftestNoted p1 p2 d) (Reg.KS_HALF_SELFTEST_PASS 0) = p1 ∧
    flag (selftestNoted p1 p2 d) (Reg.KS_HALF_SELFTEST_PASS 1) = p2 ∧ flag (selftestNoted p1 p2 d) (Reg.KS_HALF_SELFTEST_RUN 0) = false ∧
    flag (selftestNoted p1 p2 d) (Reg.KS_HALF_SELFTEST_RUN 1) = false := by
  refine ⟨?_, ?_, ?_, ?_⟩
  · rw [selftestNoted, flag_wrB_ne _ _ (by decide), flag_wrB_same _ _ _ (by decide)]
  · rw [selftestNoted, flag_wrB_same _ _ _ (by decide)]
  · rw [selftestNoted, flag_wrB_ne _ _ (by decide), flag_wrB_ne _ _ (by decide), flag_wrB_ne _ _ (by decide), flag_wrB_same _ _ _ (by decide)]
  · rw [selftestNoted, flag_wrB_ne _ _ (by decide), flag_wrB_ne _ _ (by decide), flag_wrB_same _ _ _ (by decide)]
/-- The state after a self-test passed by both halves: results shown, the freeze added to the open cycles, the transients counted. -/
def selftestPassed (dur : Nat) (d : Dev) : Dev := transientsAdd 3 (freezeExtra dur (selftestNoted true true d))
theorem stampAdd_held (k d) (h : nothingHeld d) : nothingHeld (stampAdd k d) := by
  unfold stampAdd
  extract_lets l
  split
  · exact h
  · exact nothingHeld_of_fields (d := d) rfl rfl rfl rfl h
theorem transientsAdd_held (m d) (h : nothingHeld d) : nothingHeld (transientsAdd m d) := by
  unfold transientsAdd
  generalize bitsOf 2 m = l
  induction l generalizing d with
  | nil => exact h
  | cons x r ih => exact ih _ (nothingHeld_of_fields (d := stampAdd (3 + x) d) rfl rfl rfl rfl (stampAdd_held _ _ h))
theorem transientsAdd_mode (m d) : (transientsAdd m d).mode = d.mode := by
  unfold transientsAdd
  generalize bitsOf 2 m = l
  induction l generalizing d with
  | nil => rfl
  | cons x r ih =>
    exact (ih (transientAdd x d)).trans (stampAdd_mode _ d)
/-- After a self-test passed by both halves the fields other than the transients read as its results left them. -/
theorem selftestPassed_rd {g : Fld} (h8 : fldKey g % 32 ≠ 8) (dur d) : rd (selftestPassed dur d) g = rd (selftestNoted true true d) g :=
  rd_transientsAdd (rd_ne_half h8) 3 _
theorem halfTransient_selftest {d : Dev} (h3 : (hourStamps d 3).length < 2) (h4 : (hourStamps d 4).length < 2) (dur) :
    ∃ l, halfTransient 3 (freezeExtra dur (selftestNoted true true d)) =
      recordSev (sevOf Ev.KS_TRANSIENT) Ev.KS_TRANSIENT 3 l (selftestPassed dur d) := by
  have hs : ∀ j, hourStamps (freezeExtra dur (selftestNoted true true d)) j = hourStamps d j :=
    hourStamps_of rfl (show rd (selftestNoted true true d) Reg.MCTL_OP_SECONDS = _ from rd_selftestNoted (by decide) _ _ _)
  refine halfTransient_few fun x hx => ?_
  rw [hs]
  have hx : x = 0 ∨ x = 1 := by
    have := (mem_bitsOf.mp hx).1
    omega
  rcases hx with rfl | rfl
  · exact h3
  · exact h4

theorem openWindows_nothingHeld {d : Dev} (h : nothingHeld d) : nothingHeld (openWindows d) :=
  nothingHeld_of_fields (d := d) rfl rfl rfl rfl h
theorem rd_openWindows {g : Fld} (hg : ∀ f ∈ [Reg.KS_OPEN_A, Reg.KS_OPEN_B, Reg.KS_OPEN_C, Reg.KS_STATUS_OPEN_MAX], fldKey f ≠ fldKey g) (d) :
    rd (openWindows d) g = rd d g := by
  simp only [List.forall_mem_cons] at hg
  obtain ⟨h1, h2, h3, h4, -⟩ := hg
  simp only [openWindows, rd_wr_ne _ _ h4]
  refine rd_forEach (fun p _ d => rd_wr_ne _ _ ?_) d
  cases p
  · exact h1
  · exact h2
  · exact h3
theorem winRejudge_idle {d : Dev} (h : d.ks.windows = []) : winRejudge d = d := by simp [winRejudge, h, forEach]
theorem winsAgain_idle {d : Dev} (h : d.ks.windows = []) : winsAgain d = openWindows d := by
  simp [winsAgain, winRejudge_idle h, h, forEach]

theorem selftestPassed_nothingHeld {d : Dev} (h : nothingHeld d) (dur) : nothingHeld (selftestPassed dur d) :=
  transientsAdd_held _ _ (nothingHeld_of_fields (d := d) rfl rfl rfl rfl h)
theorem selftestNoted_safeOpen {d : Dev} (h : safeOpen d) (p1 p2) : safeOpen (selftestNoted p1 p2 d) :=
  safeOpen_of_mode (rd_selftestNoted (by decide) _ _ _) rfl h
theorem selftestPassed_safeOpen {d : Dev} (h : safeOpen d) (dur) : safeOpen (selftestPassed dur d) :=
  safeOpen_of_mode (selftestPassed_rd (by decide) dur d) (transientsAdd_mode _ _) (selftestNoted_safeOpen h true true)
theorem tokensAgain_nothingHeld {d : Dev} (h : nothingHeld d) : nothingHeld (tokensAgain d) := by
  obtain ⟨⟨hw, hr, hp⟩, hs⟩ := h
  exact nothingHeld_of_fields (d := d) rfl (by simp [tokensAgain, hr]) rfl rfl ⟨⟨hw, hr, hp⟩, hs⟩
/-- After a self-test whose halves agree the freeze ends, and with nothing held there is nothing to evaluate again (R156). -/
theorem selftest_agrees {d : Dev} (hf : flag d Reg.KS_STATUS_FROZEN = true) (hn : nothingHeld d) (h3 : (hourStamps d 3).length < 2)
    (h4 : (hourStamps d 4).length < 2) (dur) : ∃ l, settle (selftestDone true true dur true d) =
      openWindows (tokensAgain (wrB (recordSev (sevOf Ev.KS_TRANSIENT) Ev.KS_TRANSIENT 3 l (selftestPassed dur d)) Reg.KS_STATUS_FROZEN false)) := by
  obtain ⟨l, hl⟩ := halfTransient_selftest h3 h4 dur
  have he : nothingHeld (wrB (recordSev (sevOf Ev.KS_TRANSIENT) Ev.KS_TRANSIENT 3 l (selftestPassed dur d)) Reg.KS_STATUS_FROZEN false) :=
    nothingHeld_of_fields (d := recordSev _ _ 3 l (selftestPassed dur d)) rfl rfl rfl rfl
      (nothingHeld_of_control (recordSev_control _ _ _ _ _) (selftestPassed_nothingHeld hn dur))
  have ht := tokensAgain_nothingHeld he
  refine ⟨l, ?_⟩
  rw [selftestDone_passes hf, if_pos rfl, hl, winsAgain_idle ht.1.1]
  exact settle_idle (openWindows_nothingHeld ht)
theorem rd_selftest_agrees {g : Fld} (hk : controlKey (fldKey g) = true) (h8 : fldKey g % 32 ≠ 8)
    (hg : ∀ f ∈ [Reg.KS_OPEN_A, Reg.KS_OPEN_B, Reg.KS_OPEN_C, Reg.KS_STATUS_OPEN_MAX], fldKey f ≠ fldKey g)
    (hf : fldKey Reg.KS_STATUS_FROZEN ≠ fldKey g) (l dur d) :
    rd (openWindows (tokensAgain (wrB (recordSev (sevOf Ev.KS_TRANSIENT) Ev.KS_TRANSIENT 3 l (selftestPassed dur d)) Reg.KS_STATUS_FROZEN false))) g =
      rd (selftestNoted true true d) g := by
  rw [rd_openWindows hg, tokensAgain, rd_ksSet, rd_wrB_ne _ _ hf, rd_recordSev_control hk, selftestPassed_rd h8]

/-! ## The online test (R157) -/

/-- The result of one half's online test is shown; a failure is recorded with its case. -/
def onlineNoted (h : Nat) (f : Option Nat) (d : Dev) : Dev :=
  match f with
  | none => wrB d (Reg.KS_HALF_ONLINE_OK h) true
  | some k => record Ev.KS_ONLINE_FAIL [.w h, .w k] (wrB d (Reg.KS_HALF_ONLINE_OK h) false)
theorem onlineTest_passes (d) : onlineTest none none d =
    incW (wrB (wrB d (Reg.KS_HALF_ONLINE_OK 0) true) (Reg.KS_HALF_ONLINE_OK 1) true) Reg.KS_ONLINE_COUNT := rfl
theorem onlineTest_fails {f1 f2 : Option Nat} (h : f1 ≠ none ∨ f2 ≠ none) (d) :
    onlineTest f1 f2 d = halfBroken (b2n f1.isSome + 2 * b2n f2.isSome) (onlineNoted 1 f2 (onlineNoted 0 f1 d)) := by
  have hn : (f1.isNone && f2.isNone) = false := by
    rw [Bool.and_eq_false_iff]
    exact h.imp (by simp [Option.isSome_iff_ne_none]) (by simp [Option.isSome_iff_ne_none])
  simp only [onlineTest, hn]
  rfl
theorem onlineNoted_safeOpen {d : Dev} (ho : safeOpen d) {h : Nat} (hh : h < 2) (f) : safeOpen (onlineNoted h f d) := by
  have hk : fldKey (Reg.KS_HALF_ONLINE_OK h) ≠ fldKey Reg.MCTL_MODE_MODE := by
    revert h
    decide
  have hw : ∀ b, safeOpen (wrB d (Reg.KS_HALF_ONLINE_OK h) b) := fun b => safeOpen_of_mode (rd_wrB_ne _ _ hk) rfl ho
  cases f with
  | none => exact hw true
  | some k => exact safeOpen_of_control (record_control _ _ _) (recordSev_mode _ _ _ _ _) (hw false)

/-! ## A Pier leaves the vote (R136, R137, R144) -/

/-- A Pier is shown out of service and isolated. -/
def serviceLeft (p : Pier) (d : Dev) : Dev := setBitF (clrBitF d Reg.KS_STATUS_IN_SERVICE (pierIdx p)) Reg.KS_STATUS_ISOLATED (pierIdx p)
theorem rd_serviceLeft {g : Fld} (hi : fldKey Reg.KS_STATUS_IN_SERVICE ≠ fldKey g) (hs : fldKey Reg.KS_STATUS_ISOLATED ≠ fldKey g) (p d) :
    rd (serviceLeft p d) g = rd d g := by rw [serviceLeft, setBitF, rd_wr_ne _ _ hs, clrBitF, rd_wr_ne _ _ hi]
theorem rd_serviceLeft_inService (p d) :
    rd (serviceLeft p d) Reg.KS_STATUS_IN_SERVICE = trunc 3 (bitClr (rd d Reg.KS_STATUS_IN_SERVICE) (pierIdx p)) := by
  rw [serviceLeft, setBitF, rd_wr_ne _ _ (by decide), clrBitF, rd_wr_same]
  rfl
theorem isolated_serviceLeft (p d) : bitF (serviceLeft p d) Reg.KS_STATUS_ISOLATED (pierIdx p) = true := by
  simp [serviceLeft, bitF_setBitF _ _ _ _ (show pierIdx p < Reg.KS_STATUS_ISOLATED.w from pierIdx_lt p)]
/-- The fields that isolation writes besides. -/
def isolationWrites : List Fld :=
  [Reg.KS_STATUS_RESYNC_PHASE, Reg.KS_RESYNC_STATUS_PHASE, Reg.KS_RESYNC_STATUS_TARGET, Reg.KS_RESYNC_STATUS_ATTEMPT, Reg.MCTL_MODE_DEGRADED]
theorem runsReview_control (d) : control (runsReview d) = control d := by
  simp [runsReview, activeReview, Reg.CYC_STATUS_ACTIVE, show ∀ f d, control (cycSet f d) = control d from fun _ _ => rfl]
theorem rd_pierIsolate {g : Fld} (hk : controlKey (fldKey g) = true) (hg : ∀ f ∈ isolationWrites, fldKey f ≠ fldKey g) (p d) :
    rd (pierIsolate p d) g = rd (serviceLeft p d) g := by
  simp only [isolationWrites, List.forall_mem_cons] at hg
  obtain ⟨h1, h2, h3, h4, -⟩ := hg
  simp only [pierIsolate, resyncPhase, rd_wr_ne _ _ h1, rd_wr_ne _ _ h2, rd_wr_ne _ _ h3, rd_wr_ne _ _ h4, rd_ksSet,
    rd_of_control (runsReview_control _) hk, pierForget, rd_prSet, rd_of_control (legsOff_control _ _) hk]
  rfl
theorem rd_pierOut {g : Fld} (hk : controlKey (fldKey g) = true) (hg : ∀ f ∈ isolationWrites, fldKey f ≠ fldKey g) (p r d) :
    rd (pierOut p r d) g = rd (serviceLeft p d) g := by
  simp only [isolationWrites, List.forall_mem_cons] at hg
  obtain ⟨-, -, -, -, h5, -⟩ := hg
  simp only [pierOut, rd_of_control (recordP_control _ _ _ _) hk, degradedReview, rd_wrB_ne _ _ h5, rd_of_control (legsOff_control _ _) hk, rd_ksSet]
  rfl
theorem pierIsolate_nothingHeld {d : Dev} (h : nothingHeld d) (p) : nothingHeld (pierIsolate p d) := by
  obtain ⟨⟨hw, hr, hp⟩, hs⟩ := h
  refine ⟨⟨?_, hr, fun q => ?_⟩, ?_⟩
  · show d.ks.windows.map (winWithout (pierIdx p)) = []
    simp [hw]
  · show pierIdle (triGet (triSet d.prs p (pierStop (triGet d.prs p))) q) = true
    rw [triGet_triSet]
    split
    · exact pierIdle_pierStop _
    · exact hp q
  · show (d.ks.slots.map fun s => (s.1, { s.2 with posts := mdel s.2.posts (pierIdx p), expect := bitClr s.2.expect (pierIdx p) })) = []
    simp [hs]
theorem pierOut_nothingHeld {d : Dev} (h : nothingHeld d) (p r) : nothingHeld (pierOut p r d) :=
  nothingHeld_of_control (recordP_control _ _ _ _) (nothingHeld_of_fields (d := d) rfl rfl rfl rfl h)

theorem bitClr_of_clear {v i : Nat} (h : bitOf v i = false) : bitClr v i = v := by simp [bitClr, h]
/-- A service mask with a Pier's bit clear. -/
def serviceLess (v i : Nat) : Nat := trunc 3 (bitClr v i)
theorem bitOf_serviceLess (v) (p : Pier) : bitOf (serviceLess v (pierIdx p)) (pierIdx p) = false := by
  rw [serviceLess, bitOf_trunc _ _ _ (pierIdx_lt p), bitOf_bitClr]
  simp
theorem serviceLess_again (v) (p : Pier) : serviceLess (serviceLess v (pierIdx p)) (pierIdx p) = serviceLess v (pierIdx p) := by
  rw [serviceLess, bitClr_of_clear (bitOf_serviceLess v p), serviceLess, trunc, trunc, Nat.mod_mod]

theorem recordP_mode (c p l d) : (recordP c p l d).mode = d.mode := by rw [recordP_shape]
theorem pierOut_mode (p r d) : (pierOut p r d).mode = d.mode := by
  rw [pierOut, recordP_mode]
  rfl

/-- A Pier named odd leaves the vote; from the third naming in an operating hour on it stays out of service (R136, R138). -/
def pierLeft (hour : Nat) (p : Pier) (d : Dev) : Dev :=
  if 3 ≤ hour then ksSet (fun k => { k with odd := none }) (resyncPhase 0 (pierOut p 1 (pierIsolate p d))) else pierIsolate p d
theorem rd_pierLeft {g : Fld} (hk : controlKey (fldKey g) = true) (hi : fldKey Reg.KS_STATUS_IN_SERVICE ≠ fldKey g)
    (hs : fldKey Reg.KS_STATUS_ISOLATED ≠ fldKey g) (hg : ∀ f ∈ isolationWrites, fldKey f ≠ fldKey g) (hour p d) :
    rd (pierLeft hour p d) g = rd d g := by
  have hone : rd (pierIsolate p d) g = rd d g := (rd_pierIsolate hk hg p d).trans (rd_serviceLeft hi hs p d)
  have hph := hg _ (List.mem_cons_self ..)
  have hph2 : fldKey Reg.KS_RESYNC_STATUS_PHASE ≠ fldKey g := hg _ (by simp [isolationWrites])
  unfold pierLeft
  split
  · rw [rd_ksSet, resyncPhase, rd_wr_ne _ _ hph2, rd_wr_ne _ _ hph, rd_pierOut hk hg, rd_serviceLeft hi hs, hone]
  · exact hone
theorem rd_pierLeft_inService (hour p d) :
    rd (pierLeft hour p d) Reg.KS_STATUS_IN_SERVICE = serviceLess (rd d Reg.KS_STATUS_IN_SERVICE) (pierIdx p) := by
  have hone : rd (pierIsolate p d) Reg.KS_STATUS_IN_SERVICE = serviceLess (rd d Reg.KS_STATUS_IN_SERVICE) (pierIdx p) :=
    (rd_pierIsolate (by decide) (by decide) p d).trans (rd_serviceLeft_inService p d)
  unfold pierLeft
  split
  · rw [rd_ksSet, resyncPhase, rd_wr_ne _ _ (by decide), rd_wr_ne _ _ (by decide), rd_pierOut (by decide) (by decide),
      rd_serviceLeft_inService, hone]
    exact serviceLess_again _ p
  · exact hone
theorem inService_pierLeft (hour p d) : inService (pierLeft hour p d) p = false := by
  rw [inService, bitF, rd_pierLeft_inService]
  exact bitOf_serviceLess _ p
theorem isolated_pierLeft (hour p d) : isolated (pierLeft hour p d) p = true := by
  unfold pierLeft
  split
  · rw [isolated, bitF, rd_ksSet, resyncPhase, rd_wr_ne _ _ (by decide), rd_wr_ne _ _ (by decide), rd_pierOut (by decide) (by decide)]
    exact isolated_serviceLeft p _
  · rw [isolated, bitF, rd_pierIsolate (by decide) (by decide)]
    exact isolated_serviceLeft p _
theorem pierLeft_nothingHeld {d : Dev} (h : nothingHeld d) (hour p) : nothingHeld (pierLeft hour p d) := by
  have hone := pierIsolate_nothingHeld h p
  unfold pierLeft
  split
  · exact nothingHeld_of_fields (d := pierOut p 1 (pierIsolate p d)) rfl rfl rfl rfl (pierOut_nothingHeld hone p 1)
  · exact hone
theorem pierLeft_safeOpen {d : Dev} (h : safeOpen d) (hour p) : safeOpen (pierLeft hour p d) := by
  refine safeOpen_of_mode (rd_pierLeft (by decide) (by decide) (by decide) (by decide) hour p d) ?_ h
  unfold pierLeft
  split
  · exact pierOut_mode p 1 _
  · rfl

/-! ## A Pier named odd (R136, R137) -/

/-- The naming of a Pier noted, recorded and counted. -/
def pierNamed (kind : Nat) (p : Pier) (win : Option (Nat × Nat × Nat)) (skew : Nat) (d : Dev) : Dev :=
  stampAdd (pierIdx p) (inc (recordP Ev.ODD_PIER_NAMED p (winItem win ++ [.w kind, .w (pierIdx p), .w skew]) (verdictNote kind (pierIdx p) win d))
    (oddCountFld p))
/-- The naming with the count of the last operating hour shown. -/
def pierNamedHour (kind : Nat) (p : Pier) (win : Option (Nat × Nat × Nat)) (skew : Nat) (d : Dev) : Dev :=
  wr (pierNamed kind p win skew d) (oddHourFld p) (hourStamps (pierNamed kind p win skew d) (pierIdx p)).length
theorem pierName_eq (kind p win skew d) : ∃ hour, pierName kind p win skew d =
    if inService (pierNamedHour kind p win skew d) p = true then
      if (servicePiers (pierNamedHour kind p win skew d)).length ≤ 2 then safeNoMajority (pierLeft hour p (pierNamedHour kind p win skew d))
      else pierLeft hour p (pierNamedHour kind p win skew d)
    else pierNamedHour kind p win skew d := by
  refine ⟨(hourStamps (pierNamed kind p win skew d) (pierIdx p)).length, ?_⟩
  have hn : pierName kind p win skew d = if (!inService (pierNamedHour kind p win skew d) p) = true then pierNamedHour kind p win skew d
      else if decide ((servicePiers (pierNamedHour kind p win skew d)).length ≤ 2) = true then
        safeNoMajority (pierLeft (hourStamps (pierNamed kind p win skew d) (pierIdx p)).length p (pierNamedHour kind p win skew d))
      else pierLeft (hourStamps (pierNamed kind p win skew d) (pierIdx p)).length p (pierNamedHour kind p win skew d) := rfl
  rw [hn]
  cases inService (pierNamedHour kind p win skew d) p <;> simp
/-- The fields that the naming of a Pier writes. -/
def namingWrites : List Fld :=
  [Reg.KS_VERDICT_LAST_KIND, Reg.KS_VERDICT_LAST_ODD, Reg.KS_VERDICT_LAST_NO_WINDOW, Reg.KS_VERDICT_LAST_CLASS, Reg.KS_VERDICT_LAST_PART,
    Reg.KS_VERDICT_CYC, Reg.KS_VERDICT_SEQ, Reg.KS_ODD_COUNT_A, Reg.KS_ODD_COUNT_B, Reg.KS_ODD_COUNT_C, Reg.KS_ODD_HOUR_A, Reg.KS_ODD_HOUR_B,
    Reg.KS_ODD_HOUR_C]
theorem rd_pierNamedHour_verdict {g : Fld} (hk : controlKey (fldKey g) = true)
    (hg : ∀ f ∈ [Reg.KS_ODD_COUNT_A, Reg.KS_ODD_COUNT_B, Reg.KS_ODD_COUNT_C, Reg.KS_ODD_HOUR_A, Reg.KS_ODD_HOUR_B, Reg.KS_ODD_HOUR_C],
      fldKey f ≠ fldKey g) (kind p win skew d) :
    rd (pierNamedHour kind p win skew d) g = rd (verdictNote kind (pierIdx p) win d) g := by
  have hodd : fldKey (oddCountFld p) ≠ fldKey g ∧ fldKey (oddHourFld p) ≠ fldKey g := by
    cases p <;> exact ⟨hg _ (by simp [oddCountFld]), hg _ (by simp [oddHourFld])⟩
  obtain ⟨hc, hh⟩ := hodd
  rw [pierNamedHour, rd_wr_ne _ _ hh, pierNamed, stampAdd_rd, rd_inc_ne _ hc, rd_of_control (recordP_control _ _ _ _) hk]
theorem rd_pierNamedHour {g : Fld} (hk : controlKey (fldKey g) = true) (hg : ∀ f ∈ namingWrites, fldKey f ≠ fldKey g) (kind p win skew d) :
    rd (pierNamedHour kind p win skew d) g = rd d g := by
  simp only [namingWrites, List.forall_mem_cons] at hg
  obtain ⟨h1, h2, h3, h4, h5, h6, h7, hodd⟩ := hg
  rw [rd_pierNamedHour_verdict hk (by simpa only [List.forall_mem_cons] using hodd)]
  simp only [verdictNote, incW, rd_wr_ne _ _ h7, rd_wr_ne _ _ h6, rd_wr_ne _ _ h5, rd_wr_ne _ _ h4, rd_wrB_ne _ _ h3, rd_wr_ne _ _ h2,
    rd_wr_ne _ _ h1]
theorem pierNamedHour_kind (kind p win skew d) : rd (pierNamedHour kind p win skew d) Reg.KS_VERDICT_LAST_KIND = trunc 4 kind := by
  rw [rd_pierNamedHour_verdict (by decide) (by decide), verdictNote, incW, rd_wr_ne _ _ (by decide), rd_wr_ne _ _ (by decide),
    rd_wr_ne _ _ (by decide), rd_wr_ne _ _ (by decide), rd_wrB_ne _ _ (by decide), rd_wr_ne _ _ (by decide), rd_wr_same]
  rfl
theorem pierNamedHour_odd (kind p win skew d) : rd (pierNamedHour kind p win skew d) Reg.KS_VERDICT_LAST_ODD = pierIdx p := by
  rw [rd_pierNamedHour_verdict (by decide) (by decide), verdictNote, incW, rd_wr_ne _ _ (by decide), rd_wr_ne _ _ (by decide),
    rd_wr_ne _ _ (by decide), rd_wr_ne _ _ (by decide), rd_wrB_ne _ _ (by decide), rd_wr_same]
  cases p <;> rfl
theorem pierNamedHour_safeOpen {d : Dev} (h : safeOpen d) (kind p win skew) : safeOpen (pierNamedHour kind p win skew d) := by
  refine safeOpen_of_mode (rd_pierNamedHour (by decide) (by decide) kind p win skew d) ?_ h
  rw [pierNamedHour, wr_mode, pierNamed, stampAdd_mode]
  exact recordP_mode _ _ _ _
theorem pierNamedHour_nothingHeld {d : Dev} (h : nothingHeld d) (kind p win skew) : nothingHeld (pierNamedHour kind p win skew d) := by
  have hr : nothingHeld (recordP Ev.ODD_PIER_NAMED p (winItem win ++ [.w kind, .w (pierIdx p), .w skew]) (verdictNote kind (pierIdx p) win d)) :=
    nothingHeld_of_control (recordP_control _ _ _ _) (nothingHeld_of_fields (d := d) rfl rfl rfl rfl h)
  exact nothingHeld_of_fields (d := pierNamed kind p win skew d) rfl rfl rfl rfl
    (stampAdd_held _ _ (nothingHeld_of_fields (d := recordP _ _ _ _) rfl rfl rfl rfl hr))
theorem servicePiers_of {d t : Dev} (h : rd t Reg.KS_STATUS_IN_SERVICE = rd d Reg.KS_STATUS_IN_SERVICE) : servicePiers t = servicePiers d := by
  have hi : inService t = inService d := funext fun p => by rw [inService, bitF, h, ← bitF, ← inService]
  rw [servicePiers, hi, servicePiers]

/-! ## A local error of a Pier (R137) -/

theorem pierError_out {p : Pier} {d : Dev} (h : inService d p = false) : pierError p d = d := by simp [pierError, h]
/-- A local error of a Pier in service with nothing held names and isolates it; with fewer than two Piers left it leads to SAFE. -/
theorem pierError_in {p : Pier} {d : Dev} (hp : inService d p = true) (ho : safeOpen d) (hn : nothingHeld d) : ∃ hour, pierError p d =
    if (servicePiers d).length ≤ 2 then safeNoMajority (pierLeft hour p (pierNamedHour 4 p none 0 d))
    else pierLeft hour p (pierNamedHour 4 p none 0 d) := by
  obtain ⟨hour, hh⟩ := pierName_eq 4 p none 0 d
  have hsv : rd (pierNamedHour 4 p none 0 d) Reg.KS_STATUS_IN_SERVICE = rd d Reg.KS_STATUS_IN_SERVICE :=
    rd_pierNamedHour (by decide) (by decide) _ _ _ _ _
  have hin : inService (pierNamedHour 4 p none 0 d) p = true := by rw [inService, bitF, hsv, ← bitF, ← inService, hp]
  have hopen : safeOpen (pierLeft hour p (pierNamedHour 4 p none 0 d)) := pierLeft_safeOpen (pierNamedHour_safeOpen ho _ _ _ _) _ _
  have hheld : nothingHeld (pierLeft hour p (pierNamedHour 4 p none 0 d)) := pierLeft_nothingHeld (pierNamedHour_nothingHeld hn _ _ _ _) _ _
  rw [if_pos hin, servicePiers_of hsv] at hh
  have hw : (d.ks.windows.find? fun w => !w.resolved) = none := by simp [hn.1.1]
  refine ⟨hour, ?_⟩
  rw [pierError, if_pos hp, hw]
  simp only [Option.map_none, hh]
  split
  · obtain ⟨hs, -, -⟩ := safeEnter_enteredSafe hopen scNO_MAJORITY (rd (pierLeft hour p (pierNamedHour 4 p none 0 d)) Reg.KS_STATUS_IN_SERVICE)
    exact if_pos (by simpa [modeIs, safeNoMajority] using hs)
  · rw [if_neg (by simpa [modeIs] using hopen.1), winRejudge_idle hheld.1.1]

/-! ## What a report of a fault and a self-test come to -/

theorem trapNoted_entered {d : Dev} (h : intakeOpen d Ev.DETERMINISM_TRAP (sevOf Ev.DETERMINISM_TRAP)) (p seg cycle addr core) :
    entered d (trapNoted p seg cycle addr core true d) Ev.DETERMINISM_TRAP (sevOf Ev.DETERMINISM_TRAP) (srcOf Ev.DETERMINISM_TRAP) (pierIdx p)
      [.w seg, .w core, .q cycle, .q addr] := intake_entered h _ _ _
/-- A first report by a Pier is kept among the fault reports and with the Pier (R26); a trap is recorded (R103). -/
theorem faultNoted_trapNoted (p seg cycle kind addr core trap d) :
    let t := faultNoted p seg cycle kind addr (trapNoted p seg cycle addr core trap d)
    t.ks = { d.ks with faults := ((⟨pierIdx p, seg, cycle, kind, addr⟩ :: d.ks.faults) : List FaultReport).take 64 } ∧
      t.prs = (prSet p (fun u => { u with faulted := ((seg, cycle, kind, addr) :: u.faulted).take 64 }) d).prs ∧
      regsBut evCounts d t ∧ memSame d t := by
  refine ⟨?_, ?_, fun g hg => ?_, fun a => ?_⟩
  · rw [faultNoted, prSet_ks, ksSet_ks, trapNoted_shape]
  · rw [faultNoted, trapNoted_shape]
    rfl
  · exact (rd_faultNoted _ _ _ _ _ _ _).trans (trapNoted_regsBut p seg cycle addr core trap d g hg)
  · rw [faultNoted_mem, trapNoted_shape]

/-- After a self-test that ends the freeze the other fields read as its results left them. -/
theorem rd_selftest_settled {g : Fld} (hk : controlKey (fldKey g) = true) (h8 : fldKey g % 32 ≠ 8)
    (hg : ∀ f ∈ [Reg.KS_OPEN_A, Reg.KS_OPEN_B, Reg.KS_OPEN_C, Reg.KS_STATUS_OPEN_MAX], fldKey f ≠ fldKey g)
    (hz : fldKey Reg.KS_STATUS_FROZEN ≠ fldKey g) {d : Dev} (hf : flag d Reg.KS_STATUS_FROZEN = true) (hn : nothingHeld d)
    (h3 : (hourStamps d 3).length < 2) (h4 : (hourStamps d 4).length < 2) (dur) :
    rd (settle (selftestDone true true dur true d)) g = rd (selftestNoted true true d) g := by
  obtain ⟨l, hl⟩ := selftest_agrees hf hn h3 h4 dur
  rw [hl, rd_selftest_agrees hk h8 hg hz]
theorem selftest_agrees_unfrozen {d : Dev} (hf : flag d Reg.KS_STATUS_FROZEN = true) (hn : nothingHeld d)
    (h3 : (hourStamps d 3).length < 2) (h4 : (hourStamps d 4).length < 2) (dur) :
    flag (settle (selftestDone true true dur true d)) Reg.KS_STATUS_FROZEN = false := by
  obtain ⟨l, hl⟩ := selftest_agrees hf hn h3 h4 dur
  rw [hl, flag, rd_openWindows (by decide), tokensAgain, rd_ksSet, ← flag, flag_wrB_same _ _ _ (by decide)]
/-- Halves that both pass and still disagree are both broken (R156). -/
theorem selftest_disagrees {d : Dev} (hf : flag d Reg.KS_STATUS_FROZEN = true) (ho : safeOpen d)
    (h3 : (hourStamps d 3).length < 2) (h4 : (hourStamps d 4).length < 2) (dur) :
    ∃ e, safeOpen e ∧ settle (selftestDone true true dur false d) = halfBroken 3 e := by
  obtain ⟨l, hl⟩ := halfTransient_selftest h3 h4 dur
  have he : safeOpen (recordSev (sevOf Ev.KS_TRANSIENT) Ev.KS_TRANSIENT 3 l (selftestPassed dur d)) :=
    safeOpen_of_control (recordSev_control _ _ _ _ _) (recordSev_mode _ _ _ _ _) (selftestPassed_safeOpen ho dur)
  refine ⟨_, he, ?_⟩
  rw [selftestDone_passes hf, if_neg (by decide), hl]
  exact settle_idle (halfBroken_nothingHeld he 3)
theorem selftest_fails_enteredSafe {d : Dev} (hf : flag d Reg.KS_STATUS_FROZEN = true) (ho : safeOpen d) {p1 p2 : Bool}
    (hp : (p1 && p2) = false) (dur agree) :
    enteredSafe (settle (selftestDone p1 p2 dur agree d)) scKS_HALF (b2n (!p1) + 2 * b2n (!p2)) := by
  have he := selftestNoted_safeOpen ho p1 p2
  rw [selftestDone_fails hf hp, settle_idle (halfBroken_nothingHeld he _)]
  exact halfBroken_enteredSafe he _

/-- A passed online test of both halves shows both good and is counted (R157). -/
theorem onlineTest_passes_spec (d) :
    let t := onlineTest none none d
    flag t (Reg.KS_HALF_ONLINE_OK 0) = true ∧ flag t (Reg.KS_HALF_ONLINE_OK 1) = true ∧
      rd t Reg.KS_ONLINE_COUNT = trunc Reg.KS_ONLINE_COUNT.w (rd d Reg.KS_ONLINE_COUNT + 1) ∧ regsOnly d t ∧
      regsBut [Reg.KS_HALF_ONLINE_OK 0, Reg.KS_HALF_ONLINE_OK 1, Reg.KS_ONLINE_COUNT] d t := by
  rw [onlineTest_passes, incW]
  refine ⟨?_, ?_, ?_, rfl, fun g hg => ?_⟩
  · rw [flag_wr_ne _ _ (by decide), flag_wrB_ne _ _ (by decide), flag_wrB_same _ _ _ (by decide)]
  · rw [flag_wr_ne _ _ (by decide), flag_wrB_same _ _ _ (by decide)]
  · rw [rd_wr_same, rd_wrB_ne _ _ (by decide), rd_wrB_ne _ _ (by decide)]
  · simp only [List.forall_mem_cons] at hg
    obtain ⟨h1, h2, h3, -⟩ := hg
    rw [rd_wr_ne _ _ h3, rd_wrB_ne _ _ h2, rd_wrB_ne _ _ h1]

/-! ## Faults of a Pier -/

/-- A local error of a Pier in service, three of them in service: named odd, out of service, isolated (R137). -/
theorem pierLocalError_isolates {p : Pier} {d : Dev} (hp : inService d p = true) (ho : safeOpen d) (hn : nothingHeld d)
    (h3 : 3 ≤ (servicePiers d).length) :
    let t := settle (pierError p d)
    rd t Reg.KS_VERDICT_LAST_KIND = 4 ∧ rd t Reg.KS_VERDICT_LAST_ODD = pierIdx p ∧ isolated t p = true ∧ inService t p = false := by
  obtain ⟨hour, hh⟩ := pierError_in hp ho hn
  rw [if_neg (by omega)] at hh
  have hheld := pierLeft_nothingHeld (pierNamedHour_nothingHeld hn 4 p none 0) hour p
  rw [hh, settle_idle hheld]
  refine ⟨?_, ?_, isolated_pierLeft _ _ _, inService_pierLeft _ _ _⟩
  · rw [rd_pierLeft (by decide) (by decide) (by decide) (by decide), pierNamedHour_kind]
    rfl
  · rw [rd_pierLeft (by decide) (by decide) (by decide) (by decide), pierNamedHour_odd]
/-- A local error of one of two Piers in service: named odd, out of service, SAFE for want of two Piers (R92, R137). -/
theorem pierLocalError_noMajority {p : Pier} {d : Dev} (hp : inService d p = true) (ho : safeOpen d) (hn : nothingHeld d)
    (h2 : (servicePiers d).length = 2) :
    let t := settle (pierError p d)
    rd t Reg.KS_VERDICT_LAST_KIND = 4 ∧ inService t p = false ∧
      enteredSafe t scNO_MAJORITY (serviceLess (rd d Reg.KS_STATUS_IN_SERVICE) (pierIdx p)) := by
  obtain ⟨hour, hh⟩ := pierError_in hp ho hn
  rw [if_pos (by omega), safeNoMajority, rd_pierLeft_inService, rd_pierNamedHour (by decide) (by decide)] at hh
  have hopen := pierLeft_safeOpen (pierNamedHour_safeOpen ho 4 p none 0) hour p
  rw [hh, settle_idle (safeEnter_nothingHeld hopen _ _)]
  refine ⟨?_, ?_, safeEnter_enteredSafe hopen _ _⟩
  · rw [rd_safeEnter hopen ⟨by decide, by decide⟩, rd_pierLeft (by decide) (by decide) (by decide) (by decide), pierNamedHour_kind]
    rfl
  · rw [inService, bitF, rd_safeEnter hopen ⟨by decide, by decide⟩]
    exact inService_pierLeft _ _ _

/-- Settles O29: a Pier named odd leaves the vote, and every diagnosis of a half is an entry into SAFE that is not put off. -/
theorem pierAndHalfFaults : Obligations.PierAndHalfFaults := by
  unfold Obligations.PierAndHalfFaults
  refine ⟨fun s p hs ho => ⟨fun hp hn h3 => ?_, fun hp hn h2 => ?_, fun hp hn => ?_, fun seg cycle kind addr core trap =>
    ⟨fun hp => ?_, fun hp => ⟨fun hf => ⟨?_, ?_⟩, fun hf => ?_⟩⟩⟩, fun s hs ho hn => ⟨fun h p hh ht => ?_, fun h p hh => ?_,
    fun dur hf h3 h4 => ⟨?_, ?_⟩, fun p1 p2 dur agree hf => ?_, fun p1 p2 dur agree hf hp => ?_, ?_, fun f1 f2 hf => ?_⟩⟩
  · rw [answers_of (i := .pierLocalError p) (f := fun d => settle (pierError p d)) rfl hs]
    exact pierLocalError_isolates hp ho hn h3
  · rw [answers_of (i := .pierLocalError p) (f := fun d => settle (pierError p d)) rfl hs]
    exact pierLocalError_noMajority hp ho hn h2
  · rw [answers_of (i := .pierLocalError p) (f := fun d => settle (pierError p d)) rfl hs, pierError_out hp]
    exact settle_idle hn
  · rw [answers_of (i := .syncFault p seg cycle kind addr core trap) rfl hs]
    exact syncFault_out hp _ _ _ _ _ _
  · rw [answers_of (i := .syncFault p seg cycle kind addr core false) rfl hs, syncFault_in hp, if_neg (ne_true_of_eq_false hf)]
    rfl
  · rw [answers_of (i := .syncFault p seg cycle kind addr core trap) rfl hs, syncFault_in hp, if_neg (ne_true_of_eq_false hf)]
    obtain ⟨hks, hprs, hregs, hmem⟩ := faultNoted_trapNoted p seg cycle kind addr core trap s.dev
    refine ⟨hks, hprs, hregs, hmem, fun htrap hi => ?_⟩
    rw [htrap, entered, faultNoted_ev]
    exact trapNoted_entered hi p seg cycle addr core
  · rw [answers_of (i := .syncFault p seg cycle kind addr core trap) rfl hs, syncFault_in hp, if_pos hf]
    exact safeEnter_enteredSafe (faultNoted_safeOpen ho _ _ _ _ _ _ _) _ _
  · rw [answers_of (i := .ksStageParity h p false) rfl hs]
    exact stageParity_first_spec hh ht p
  · rw [answers_of (i := .ksStageParity h p true) rfl hs, stageParity_again]
    have hi := stageParity_again_safeOpen hh ho
    exact ⟨flag_halfBroken hi (by simp [bitsOf_half hh]), halfBroken_enteredSafe hi _⟩
  · rw [answers_of (i := .ksSelftestDone true true dur true) (f := fun d => settle (selftestDone true true dur true d)) rfl hs]
    obtain ⟨hp0, hp1, hr0, hr1⟩ := selftestNoted_flags true true s.dev
    refine ⟨selftest_agrees_unfrozen hf hn h3 h4 dur, ?_, ?_, ?_, ?_, ?_⟩
    · rw [flag, rd_selftest_settled (by decide) (by decide) (by decide) (by decide) hf hn h3 h4, ← flag, hp0]
    · rw [flag, rd_selftest_settled (by decide) (by decide) (by decide) (by decide) hf hn h3 h4, ← flag, hp1]
    · rw [flag, rd_selftest_settled (by decide) (by decide) (by decide) (by decide) hf hn h3 h4, ← flag, hr0]
    · rw [flag, rd_selftest_settled (by decide) (by decide) (by decide) (by decide) hf hn h3 h4, ← flag, hr1]
    · rw [modeOf, rd_selftest_settled (by decide) (by decide) (by decide) (by decide) hf hn h3 h4, rd_selftestNoted (by decide)]
      rfl
  · rw [answers_of (i := .ksSelftestDone true true dur false) (f := fun d => settle (selftestDone true true dur false d)) rfl hs]
    obtain ⟨e, he, hx⟩ := selftest_disagrees hf ho h3 h4 dur
    rw [hx]
    exact ⟨flag_halfBroken he (by decide), flag_halfBroken he (by decide), halfBroken_enteredSafe he 3⟩
  · rw [answers_of (i := .ksSelftestDone p1 p2 dur agree) (f := fun d => settle (selftestDone p1 p2 dur agree d)) rfl hs,
      selftestDone_idle hf]
    exact settle_idle hn
  · rw [answers_of (i := .ksSelftestDone p1 p2 dur agree) (f := fun d => settle (selftestDone p1 p2 dur agree d)) rfl hs]
    exact selftest_fails_enteredSafe hf ho hp dur agree
  · rw [answers_of (i := .ksOnlineTest none none) rfl hs]
    exact onlineTest_passes_spec s.dev
  · rw [answers_of (i := .ksOnlineTest f1 f2) rfl hs, onlineTest_fails hf]
    exact halfBroken_enteredSafe (onlineNoted_safeOpen (onlineNoted_safeOpen ho (by decide) f1) (by decide) f2) _

end Sys2Proof.Machine
end

section
/-!
SUPPORT. Samples of the slices' inputs and measurements of their supplies: O43.
-/
namespace Sys2Proof.Machine

/-! ## The registers of one slice -/

/-- A field of a slice's registers (spec/02). -/
def inSlice (p : Pier) (f : Fld) : Prop := (0x400A1000 + 0x1000 * sl p) * 32 ≤ fldKey f ∧ fldKey f < (0x400A2000 + 0x1000 * sl p) * 32
/-- The registers and the counts of one slice. -/
def sliceView (p : Pier) (d : Dev) : ({g : Fld // inSlice p g} → Nat) × FioSlice := (fun g => rd d g.1, triGet d.fio p)
theorem rd_of_slice {p : Pier} {d t : Dev} (h : sliceView p t = sliceView p d) {g : Fld} (hg : inSlice p g) : rd t g = rd d g :=
  congrFun (congrArg Prod.fst h) ⟨g, hg⟩
theorem fio_of_slice {p : Pier} {d t : Dev} (h : sliceView p t = sliceView p d) : triGet t.fio p = triGet d.fio p := congrArg Prod.snd h
theorem slice_of {p : Pier} {d t : Dev} (hr : ∀ g, inSlice p g → rd t g = rd d g) (hf : triGet t.fio p = triGet d.fio p) :
    sliceView p t = sliceView p d := Prod.ext (funext fun g => hr g.1 g.2) hf
theorem wr_slice {p : Pier} {f : Fld} (h : ¬ inSlice p f) (d v) : sliceView p (wr d f v) = sliceView p d := by
  refine slice_of (fun g hg => rd_wr_ne _ _ fun hk => h ?_) rfl
  rw [inSlice, hk]
  exact hg
theorem sl_ne {p q : Pier} (h : q ≠ p) : sl q ≠ sl p := by
  revert h
  cases p <;> cases q <;> decide
theorem inSlice_ne {p q : Pier} {f : Fld} (hq : q ≠ p) (h : inSlice q f) : ¬ inSlice p f := by
  have hs := sl_ne hq
  unfold inSlice at *
  omega
theorem wr_otherSlice {p q : Pier} {f : Fld} (hq : q ≠ p) (h : inSlice q f) (d v) : sliceView p (wr d f v) = sliceView p d :=
  wr_slice (inSlice_ne hq h) d v
theorem fioSet_otherSlice {p q : Pier} (hq : q ≠ p) (f d) : sliceView p (fioSet q f d) = sliceView p d :=
  slice_of (fun _ _ => rfl) (by rw [fioSet_fio, triGet_triSet, if_neg hq])
theorem triGet_fioSet (p f d) : triGet (fioSet p f d).fio p = f (triGet d.fio p) := by rw [fioSet_fio, triGet_triSet, if_pos rfl]
theorem evCounts_notSlice {p : Pier} {g : Fld} (hg : inSlice p g) :
    fldKey Reg.EV_COUNT_DROPPED ≠ fldKey g ∧ fldKey Reg.EV_COUNT_SUPPRESSED ≠ fldKey g := by
  have hn : ∀ f ∈ evCounts, ¬ inSlice p f := by
    cases p <;> simp [evCounts, inSlice, fldKey, Reg.EV_COUNT_DROPPED, Reg.EV_COUNT_SUPPRESSED, pierIdx]
  simp only [evCounts, List.forall_mem_cons] at hn
  obtain ⟨h1, h2, -⟩ := hn
  refine ⟨fun h => h1 ?_, fun h => h2 ?_⟩
  · rw [inSlice, h]
    exact hg
  · rw [inSlice, h]
    exact hg
theorem record_slice (c l p d) : sliceView p (record c l d) = sliceView p d := by
  refine slice_of (fun g hg => ?_) (by rw [record_shape])
  obtain ⟨h1, h2⟩ := evCounts_notSlice hg
  exact rd_record c l d g h1 h2
theorem recordOnce_slice (c i l p d) : sliceView p (recordOnce c i l d) = sliceView p d := by
  refine slice_of (fun g hg => ?_) (by rw [recordOnce_shape])
  obtain ⟨h1, h2⟩ := evCounts_notSlice hg
  exact rd_recordOnce c i l d g h1 h2

/-- What one slice does with its turn shows in that slice alone. -/
theorem forEach_slice {f : Pier → Dev → Dev} (h : ∀ p q, q ≠ p → ∀ d, sliceView p (f q d) = sliceView p d) (p d) :
    ∃ e, sliceView p e = sliceView p d ∧ sliceView p (forEach allPiers f d) = sliceView p (f p e) :=
  forEach_view (by decide) (by cases p <;> decide) (h p) d

/-! ## One sample of an input (R421, R422) -/

theorem inSlice_edge (p) {i : Nat} (hi : i < 32) : inSlice p (Reg.FIO_EDGE (sl p) i) := by
  simp only [inSlice, fldKey, Reg.FIO_EDGE]
  omega
theorem inSlice_diState (p) : inSlice p (Reg.FIO_DI_STATE (sl p)) := by
  simp only [inSlice, fldKey, Reg.FIO_DI_STATE]
  omega
theorem diCapture_otherSlice {p q : Pier} (hq : q ≠ p) {i : Nat} (hi : i < 32) (t d) : sliceView p (diCapture q i t d) = sliceView p d := by
  rw [diCapture, forEach_keeps (v := sliceView p)]
  · exact wr_otherSlice hq (inSlice_edge q hi) _ _
  · intro c _ d
    split
    · exact fioSet_otherSlice hq _ _
    · rfl
theorem diCapture_diCount (p i t d) : (triGet (diCapture p i t d).fio p).diCount = (triGet d.fio p).diCount := by
  refine (forEach_keeps (v := fun d => (triGet d.fio p).diCount) (fun c _ d => ?_) _).trans rfl
  split
  · show FioSlice.diCount (triGet (fioSet p _ d).fio p) = _
    rw [triGet_fioSet]
  · rfl
theorem rd_diCapture {i : Nat} {p : Pier} {g : Fld} (h : fldKey (Reg.FIO_EDGE (sl p) i) ≠ fldKey g) (t d) : rd (diCapture p i t d) g = rd d g := by
  refine (rd_forEach (fun c _ d => ?_) _).trans (rd_wr_ne _ _ h)
  split <;> rfl

/-- Whether a sampled level differs from the debounced one. -/
def diDiffers (p : Pier) (raw i : Nat) (d : Dev) : Bool := bitOf raw i != bitF d (Reg.FIO_DI_STATE (sl p)) i
/-- The debounce counts after one sample of an input. -/
def diCounts (p : Pier) (raw i : Nat) (d : Dev) : NMap Nat := debounceCount (triGet d.fio p).diCount i (diDiffers p raw i d)
/-- The times of the first samples that differ, after one sample of an input. -/
def diFirsts (p : Pier) (raw i : Nat) (d : Dev) : NMap Nat :=
  if diDiffers p raw i d && (mget (triGet d.fio p).diCount i).isNone then mput (triGet d.fio p).diFirst i (schedTime d)
  else if diDiffers p raw i d then (triGet d.fio p).diFirst else mdel (triGet d.fio p).diFirst i
/-- A sample counted. -/
def diCounted (p : Pier) (raw i : Nat) (d : Dev) : Dev :=
  fioSet p (fun x => { x with diCount := diCounts p raw i d, diFirst := diFirsts p raw i d }) d
/-- The sampled level taken as the debounced one. -/
def diTaken (p : Pier) (raw i : Nat) (d : Dev) : Dev :=
  putBitF (fioSet p (fun x => { x with diCount := mdel x.diCount i, diFirst := mdel x.diFirst i }) (diCounted p raw i d))
    (Reg.FIO_DI_STATE (sl p)) i (bitOf raw i)
/-- The sampled level taken, and captured where the input's edges are. -/
def diCaught (p : Pier) (raw i : Nat) (d : Dev) : Dev :=
  if (bitOf raw i ∧ (rd (diTaken p raw i d) (Reg.FIO_DI_CFG_EDGE (sl p) i) = 1 ∨ rd (diTaken p raw i d) (Reg.FIO_DI_CFG_EDGE (sl p) i) = 3)) ∨
      (!bitOf raw i ∧ (rd (diTaken p raw i d) (Reg.FIO_DI_CFG_EDGE (sl p) i) = 2 ∨
        rd (diTaken p raw i d) (Reg.FIO_DI_CFG_EDGE (sl p) i) = 3)) then
    diCapture p i (mgetD (diFirsts p raw i d) i (schedTime (diCounted p raw i d)) - 3000) (diTaken p raw i d)
  else diTaken p raw i d
/-- A sample counts; once the level has differed for more samples than DEBOUNCE it is taken. -/
theorem diSampleOne_eq (p raw i d) : diSampleOne p raw i d =
    if diDiffers p raw i d = true ∧ rd d (Reg.FIO_DI_CFG_DEBOUNCE (sl p) i) < mgetD (diCounts p raw i d) i 0 then diCaught p raw i d
    else diCounted p raw i d := rfl

theorem diCounted_otherSlice {p q : Pier} (hq : q ≠ p) (raw i d) : sliceView p (diCounted q raw i d) = sliceView p d := fioSet_otherSlice hq _ _
theorem diTaken_otherSlice {p q : Pier} (hq : q ≠ p) (raw i d) : sliceView p (diTaken q raw i d) = sliceView p d := by
  rw [diTaken, putBitF, wr_otherSlice hq (inSlice_diState q), fioSet_otherSlice hq, diCounted_otherSlice hq]
theorem diSampleOne_otherSlice {p q : Pier} (hq : q ≠ p) {i : Nat} (hi : i < 32) (raw d) : sliceView p (diSampleOne q raw i d) = sliceView p d := by
  rw [diSampleOne_eq, diCaught]
  split
  · split
    · rw [diCapture_otherSlice hq hi, diTaken_otherSlice hq]
    · exact diTaken_otherSlice hq raw i d
  · exact diCounted_otherSlice hq raw i d
/-- Of its slice's registers a sample of an input writes the debounced states and the stamp of its edge. -/
theorem rd_diSampleOne {p : Pier} {i : Nat} {g : Fld} (hs : fldKey (Reg.FIO_DI_STATE (sl p)) ≠ fldKey g)
    (he : fldKey (Reg.FIO_EDGE (sl p) i) ≠ fldKey g) (raw d) : rd (diSampleOne p raw i d) g = rd d g := by
  have ht : rd (diTaken p raw i d) g = rd d g := by
    rw [diTaken, putBitF, rd_wr_ne _ _ hs]
    rfl
  rw [diSampleOne_eq, diCaught]
  split
  · split
    · rw [rd_diCapture he, ht]
    · exact ht
  · rfl
theorem diState_ne_edge (p i) : fldKey (Reg.FIO_EDGE (sl p) i) ≠ fldKey (Reg.FIO_DI_STATE (sl p)) := by
  simp only [fldKey, Reg.FIO_EDGE, Reg.FIO_DI_STATE]
  omega
theorem bitF_diCaught (p raw i d) : bitF (diCaught p raw i d) (Reg.FIO_DI_STATE (sl p)) = bitF (diTaken p raw i d) (Reg.FIO_DI_STATE (sl p)) := by
  funext j
  unfold diCaught
  split
  · rw [bitF, rd_diCapture (diState_ne_edge p i), ← bitF]
  · rfl
theorem diCount_diCaught (p raw i d) : (triGet (diCaught p raw i d).fio p).diCount = mdel (diCounts p raw i d) i := by
  have ht : (triGet (diTaken p raw i d).fio p).diCount = mdel (diCounts p raw i d) i := by
    rw [diTaken, putBitF, wr_fio, triGet_fioSet, diCounted, triGet_fioSet]
  unfold diCaught
  split
  · rw [diCapture_diCount, ht]
  · exact ht
theorem bitF_diTaken (p raw) {i j : Nat} (hj : j < 32) (d) : bitF (diTaken p raw i d) (Reg.FIO_DI_STATE (sl p)) j =
    if i = j then bitOf raw i else bitF d (Reg.FIO_DI_STATE (sl p)) j := bitF_putBitF _ _ _ _ _ hj
theorem diCounts_other (p raw) {i j : Nat} (h : i ≠ j) (d) : mgetD (diCounts p raw i d) j 0 = mgetD (triGet d.fio p).diCount j 0 := by
  unfold diCounts debounceCount mgetD
  split
  · rw [mget_mput_ne _ _ h]
  · rw [mget_mdel_ne _ h]
/-- What the debouncing of one input reads: its debounced state, its count and its setting. -/
def diView (p : Pier) (i : Nat) (d : Dev) : Bool × Nat × Nat :=
  (bitF d (Reg.FIO_DI_STATE (sl p)) i, mgetD (triGet d.fio p).diCount i 0, rd d (Reg.FIO_DI_CFG_DEBOUNCE (sl p) i))
theorem debounce_apart (p) {i : Nat} (hi : i < 32) (j) : fldKey (Reg.FIO_DI_STATE (sl p)) ≠ fldKey (Reg.FIO_DI_CFG_DEBOUNCE (sl p) i) ∧
    fldKey (Reg.FIO_EDGE (sl p) j) ≠ fldKey (Reg.FIO_DI_CFG_DEBOUNCE (sl p) i) := by
  simp only [fldKey, Reg.FIO_DI_STATE, Reg.FIO_EDGE, Reg.FIO_DI_CFG_DEBOUNCE]
  omega
/-- The samples of the other inputs leave an input's debouncing alone. -/
theorem diSampleOne_other {p : Pier} {i j : Nat} (hj : j < 32) (h : i ≠ j) (raw d) : diView p j (diSampleOne p raw i d) = diView p j d := by
  obtain ⟨hs, he⟩ := debounce_apart p hj i
  have hcount : mgetD (triGet (diSampleOne p raw i d).fio p).diCount j 0 = mgetD (triGet d.fio p).diCount j 0 := by
    rw [diSampleOne_eq]
    split
    · rw [diCount_diCaught, mgetD, mget_mdel_ne _ h]
      exact diCounts_other p raw h d
    · rw [diCounted, triGet_fioSet]
      exact diCounts_other p raw h d
  have hstate : bitF (diSampleOne p raw i d) (Reg.FIO_DI_STATE (sl p)) j = bitF d (Reg.FIO_DI_STATE (sl p)) j := by
    rw [diSampleOne_eq]
    split
    · rw [bitF_diCaught, bitF_diTaken p raw hj, if_neg h]
    · rfl
  rw [diView, hstate, hcount, rd_diSampleOne hs he]
  rfl
/-- The debounced state of an input after a sample of it (R421). -/
theorem bitF_diSampleOne {p : Pier} {i : Nat} (hi : i < 32) (raw d) : bitF (diSampleOne p raw i d) (Reg.FIO_DI_STATE (sl p)) i =
    if bitOf raw i ≠ bitF d (Reg.FIO_DI_STATE (sl p)) i ∧
        rd d (Reg.FIO_DI_CFG_DEBOUNCE (sl p) i) < mgetD (triGet d.fio p).diCount i 0 + 1 then bitOf raw i
      else bitF d (Reg.FIO_DI_STATE (sl p)) i := by
  by_cases hd : bitOf raw i = bitF d (Reg.FIO_DI_STATE (sl p)) i
  · have hx : diDiffers p raw i d = false := by simp [diDiffers, hd]
    rw [diSampleOne_eq, if_neg (by simp [hx]), if_neg (by simp [hd])]
    rfl
  · have hx : diDiffers p raw i d = true := by simp [diDiffers, hd]
    have hc : mgetD (diCounts p raw i d) i 0 = mgetD (triGet d.fio p).diCount i 0 + 1 := by
      rw [diCounts, hx, debounceCount, if_pos rfl, mgetD, mget_mput_same]
      rfl
    rw [diSampleOne_eq, hc]
    simp only [hx, hd, ne_eq, not_false_eq_true, true_and]
    split
    · rw [bitF_diCaught, bitF_diTaken p raw hi, if_pos rfl]
    · rfl

/-! ## One sample of a readback (R428, R429) -/

theorem inSlice_readback (p) : inSlice p (Reg.FIO_RB_STATE_DEB (sl p)) ∧ inSlice p (Reg.FIO_DO_FAULT_EXT_DRIVEN (sl p)) := by
  simp only [inSlice, fldKey, Reg.FIO_RB_STATE_DEB, Reg.FIO_DO_FAULT_EXT_DRIVEN]
  omega
/-- A readback debounced like an input. -/
def rbDebounced (p : Pier) (raw n : Nat) (d : Dev) : Dev :=
  let differs := bitOf raw n != bitF d (Reg.FIO_RB_STATE_DEB (sl p)) n
  let count := debounceCount (triGet d.fio p).rbCount n differs
  let d := fioSet p (fun x => { x with rbCount := count }) d
  if differs ∧ rd d (Reg.FIO_DO_CFG_RB_DEBOUNCE (sl p) n) < mgetD count n 0 then
    putBitF (fioSet p (fun x => { x with rbCount := mdel x.rbCount n }) d) (Reg.FIO_RB_STATE_DEB (sl p)) n (bitOf raw n)
  else d
theorem rbSampleOne_eq (p raw n d) : rbSampleOne p raw n d =
    if (bitF (rbDebounced p raw n d) (Reg.FIO_DO_SW_SW_ON (sl p)) n || !bitF (rbDebounced p raw n d) (Reg.FIO_RB_STATE_DEB (sl p)) n) = true then
      clrBitF (rbDebounced p raw n d) (Reg.FIO_DO_FAULT_EXT_DRIVEN (sl p)) n
    else rbDebounced p raw n d := rfl
theorem rbSampleOne_otherSlice {p q : Pier} (hq : q ≠ p) (raw n d) : sliceView p (rbSampleOne q raw n d) = sliceView p d := by
  obtain ⟨hs, hx⟩ := inSlice_readback q
  have hd : sliceView p (rbDebounced q raw n d) = sliceView p d := by
    unfold rbDebounced
    extract_lets differs count e
    have he : sliceView p e = sliceView p d := fioSet_otherSlice hq _ _
    split
    · rw [putBitF, wr_otherSlice hq hs, fioSet_otherSlice hq, he]
    · exact he
  rw [rbSampleOne_eq]
  split
  · rw [clrBitF, wr_otherSlice hq hx, hd]
  · exact hd
/-- Of its slice's registers a sample of a readback writes the debounced states and EXT_DRIVEN. -/
theorem rd_rbSampleOne {p : Pier} {g : Fld} (hs : fldKey (Reg.FIO_RB_STATE_DEB (sl p)) ≠ fldKey g)
    (hx : fldKey (Reg.FIO_DO_FAULT_EXT_DRIVEN (sl p)) ≠ fldKey g) (raw n d) : rd (rbSampleOne p raw n d) g = rd d g := by
  have hd : rd (rbDebounced p raw n d) g = rd d g := by
    unfold rbDebounced
    extract_lets differs count e
    split
    · exact rd_wr_ne _ _ hs
    · rfl
  rw [rbSampleOne_eq]
  split
  · rw [clrBitF, rd_wr_ne _ _ hx, hd]
  · exact hd

/-! ## DI_SAMPLE (R421, R422, R428, R429) -/

/-- A slice's raw inputs, raw readback and switch sensors as sampled. -/
def rawShown (di rb sw closed : Nat) (p : Pier) (d : Dev) : Dev :=
  wr (wr (wr d (Reg.FIO_DI_RAW (sl p)) di) (Reg.FIO_RB_STATE_RAW (sl p)) rb) (Reg.FIO_DO_SW_SW_ON (sl p)) (sw &&& closed)
/-- What one slice does at DI_SAMPLE. -/
def sliceSample (di rb sw : Tri Nat) (closed : Nat) (p : Pier) (d : Dev) : Dev :=
  forEach (List.range 16) (rbSampleOne p (triGet rb p))
    (forEach (List.range 32) (diSampleOne p (triGet di p)) (rawShown (triGet di p) (triGet rb p) (triGet sw p) closed p d))
theorem diSample_eq (di rb sw d) : diSample di rb sw d =
    forEach (List.range 16) fioReview (forEach allPiers (sliceSample di rb sw (maskOf ((List.range 16).filter (switchClosed d)))) d) := rfl
theorem sliceSample_otherSlice {p q : Pier} (hq : q ≠ p) (di rb sw closed d) : sliceView p (sliceSample di rb sw closed q d) = sliceView p d := by
  have hw : inSlice q (Reg.FIO_DI_RAW (sl q)) ∧ inSlice q (Reg.FIO_RB_STATE_RAW (sl q)) ∧ inSlice q (Reg.FIO_DO_SW_SW_ON (sl q)) := by
    simp only [inSlice, fldKey, Reg.FIO_DI_RAW, Reg.FIO_RB_STATE_RAW, Reg.FIO_DO_SW_SW_ON]
    omega
  obtain ⟨h1, h2, h3⟩ := hw
  rw [sliceSample, forEach_keeps (v := sliceView p) fun n _ d => rbSampleOne_otherSlice hq _ n d,
    forEach_keeps (v := sliceView p) fun i hi d => diSampleOne_otherSlice hq (List.mem_range.mp hi) _ d, rawShown, wr_otherSlice hq h3,
    wr_otherSlice hq h2, wr_otherSlice hq h1]
theorem fioReview_slice (p n d) : sliceView p (fioReview n d) = sliceView p d := by
  have hw : ¬ inSlice p Reg.FIO_SUMMARY_EXT_DRIVEN ∧ ¬ inSlice p Reg.FIO_EVT_CNT_EXT := by
    cases p <;> simp [inSlice, fldKey, Reg.FIO_SUMMARY_EXT_DRIVEN, Reg.FIO_EVT_CNT_EXT, pierIdx]
  obtain ⟨hsum, hcnt⟩ := hw
  unfold fioReview
  extract_lets ext ovl a b c
  have ha : sliceView p a = sliceView p d := wr_slice hsum _ _
  have hb : sliceView p b = sliceView p d := by
    simp only [b]
    split
    · rw [inc, incBy, wr_slice hcnt, ha]
    · exact ha
  have hc : sliceView p c = sliceView p d := by
    simp only [c]
    split
    · split
      · exact hb
      · rw [recordOnce_slice, hb]
    · rfl
  split
  · rw [recordOnce_slice]
    exact hc
  · exact hc
/-- A slice's registers after DI_SAMPLE are as its own sampling leaves them. -/
theorem diSample_slice (di rb sw p d) : ∃ e, sliceView p e = sliceView p d ∧ sliceView p (diSample di rb sw d) =
    sliceView p (sliceSample di rb sw (maskOf ((List.range 16).filter (switchClosed d))) p e) := by
  obtain ⟨e, he, hv⟩ := forEach_slice (f := sliceSample di rb sw (maskOf ((List.range 16).filter (switchClosed d))))
    (fun p q hq d => sliceSample_otherSlice hq _ _ _ _ d) p d
  refine ⟨e, he, ?_⟩
  rw [diSample_eq, forEach_keeps (v := sliceView p) fun n _ d => fioReview_slice p n d, hv]
/-- The debouncing of inputs and readbacks leaves the other registers of its slice. -/
theorem rd_sliceSample {p : Pier} {g : Fld} (h1 : fldKey (Reg.FIO_DI_STATE (sl p)) ≠ fldKey g) (h2 : ∀ i, fldKey (Reg.FIO_EDGE (sl p) i) ≠ fldKey g)
    (h3 : fldKey (Reg.FIO_RB_STATE_DEB (sl p)) ≠ fldKey g) (h4 : fldKey (Reg.FIO_DO_FAULT_EXT_DRIVEN (sl p)) ≠ fldKey g) (di rb sw closed d) :
    rd (sliceSample di rb sw closed p d) g = rd (rawShown (triGet di p) (triGet rb p) (triGet sw p) closed p d) g := by
  rw [sliceSample, rd_forEach fun n _ d => rd_rbSampleOne h3 h4 _ n d, rd_forEach fun i _ d => rd_diSampleOne h1 (h2 i) _ d]
theorem rawShown_rd (di rb sw closed p d) :
    let t := rawShown di rb sw closed p d
    rd t (Reg.FIO_DI_RAW (sl p)) = trunc (Reg.FIO_DI_RAW (sl p)).w di ∧ rd t (Reg.FIO_RB_STATE_RAW (sl p)) = trunc (Reg.FIO_RB_STATE_RAW (sl p)).w rb ∧
      rd t (Reg.FIO_DO_SW_SW_ON (sl p)) = trunc (Reg.FIO_DO_SW_SW_ON (sl p)).w (sw &&& closed) := by
  have hw : fldKey (Reg.FIO_DO_SW_SW_ON (sl p)) ≠ fldKey (Reg.FIO_DI_RAW (sl p)) ∧
      fldKey (Reg.FIO_RB_STATE_RAW (sl p)) ≠ fldKey (Reg.FIO_DI_RAW (sl p)) ∧
      fldKey (Reg.FIO_DO_SW_SW_ON (sl p)) ≠ fldKey (Reg.FIO_RB_STATE_RAW (sl p)) := by
    simp only [fldKey, Reg.FIO_DO_SW_SW_ON, Reg.FIO_DI_RAW, Reg.FIO_RB_STATE_RAW]
    omega
  obtain ⟨h1, h2, h3⟩ := hw
  refine ⟨?_, ?_, rd_wr_same _ _ _⟩
  · rw [rawShown, rd_wr_ne _ _ h1, rd_wr_ne _ _ h2, rd_wr_same]
  · rw [rawShown, rd_wr_ne _ _ h3, rd_wr_same]

theorem raw_apart (p) : ∀ g ∈ [Reg.FIO_DI_RAW (sl p), Reg.FIO_RB_STATE_RAW (sl p), Reg.FIO_DO_SW_SW_ON (sl p)], inSlice p g ∧
    fldKey (Reg.FIO_DI_STATE (sl p)) ≠ fldKey g ∧ (∀ i, fldKey (Reg.FIO_EDGE (sl p) i) ≠ fldKey g) ∧
    fldKey (Reg.FIO_RB_STATE_DEB (sl p)) ≠ fldKey g ∧ fldKey (Reg.FIO_DO_FAULT_EXT_DRIVEN (sl p)) ≠ fldKey g := by
  simp only [List.forall_mem_cons, inSlice, fldKey, Reg.FIO_DI_RAW, Reg.FIO_RB_STATE_RAW, Reg.FIO_DO_SW_SW_ON, Reg.FIO_DI_STATE, Reg.FIO_EDGE,
    Reg.FIO_RB_STATE_DEB, Reg.FIO_DO_FAULT_EXT_DRIVEN]
  refine ⟨?_, ?_, ?_, by simp⟩ <;> refine ⟨by omega, by omega, fun i => by omega, by omega, by omega⟩
/-- DI_SAMPLE shows raw inputs, raw readback and switch sensors of every slice as sampled (R22, R421, R428). -/
theorem diSample_raw (di rb sw p d) :
    let t := diSample di rb sw d
    rd t (Reg.FIO_DI_RAW (sl p)) = trunc (Reg.FIO_DI_RAW (sl p)).w (triGet di p) ∧
      rd t (Reg.FIO_RB_STATE_RAW (sl p)) = trunc (Reg.FIO_RB_STATE_RAW (sl p)).w (triGet rb p) ∧
      rd t (Reg.FIO_DO_SW_SW_ON (sl p)) =
        trunc (Reg.FIO_DO_SW_SW_ON (sl p)).w (triGet sw p &&& maskOf ((List.range 16).filter (switchClosed d))) := by
  obtain ⟨e, -, hv⟩ := diSample_slice di rb sw p d
  obtain ⟨hdi, hrb, hsw⟩ := rawShown_rd (triGet di p) (triGet rb p) (triGet sw p) (maskOf ((List.range 16).filter (switchClosed d))) p e
  have hr : ∀ g ∈ [Reg.FIO_DI_RAW (sl p), Reg.FIO_RB_STATE_RAW (sl p), Reg.FIO_DO_SW_SW_ON (sl p)], rd (diSample di rb sw d) g =
      rd (rawShown (triGet di p) (triGet rb p) (triGet sw p) (maskOf ((List.range 16).filter (switchClosed d))) p e) g := fun g hg => by
    obtain ⟨hin, h1, h2, h3, h4⟩ := raw_apart p g hg
    rw [rd_of_slice hv hin, rd_sliceSample h1 h2 h3 h4]
  simp only [List.forall_mem_cons] at hr
  obtain ⟨h1, h2, h3, -⟩ := hr
  exact ⟨h1.trans hdi, h2.trans hrb, h3.trans hsw⟩
theorem diView_rawShown {p : Pier} {i : Nat} (hi : i < 32) (di rb sw closed d) : diView p i (rawShown di rb sw closed p d) = diView p i d := by
  have hw : ∀ g ∈ [Reg.FIO_DI_STATE (sl p), Reg.FIO_DI_CFG_DEBOUNCE (sl p) i], fldKey (Reg.FIO_DI_RAW (sl p)) ≠ fldKey g ∧
      fldKey (Reg.FIO_RB_STATE_RAW (sl p)) ≠ fldKey g ∧ fldKey (Reg.FIO_DO_SW_SW_ON (sl p)) ≠ fldKey g := by
    simp only [List.forall_mem_cons, fldKey, Reg.FIO_DI_STATE, Reg.FIO_DI_CFG_DEBOUNCE, Reg.FIO_DI_RAW, Reg.FIO_RB_STATE_RAW, Reg.FIO_DO_SW_SW_ON]
    refine ⟨?_, ?_, by simp⟩ <;> omega
  have hr : ∀ g ∈ [Reg.FIO_DI_STATE (sl p), Reg.FIO_DI_CFG_DEBOUNCE (sl p) i], rd (rawShown di rb sw closed p d) g = rd d g := fun g hg => by
    obtain ⟨h1, h2, h3⟩ := hw g hg
    rw [rawShown, rd_wr_ne _ _ h3, rd_wr_ne _ _ h2, rd_wr_ne _ _ h1]
  simp only [List.forall_mem_cons] at hr
  obtain ⟨hs, hc, -⟩ := hr
  rw [diView, bitF, hs, hc]
  rfl
theorem inSlice_debounce (p) {i : Nat} (hi : i < 32) : inSlice p (Reg.FIO_DI_CFG_DEBOUNCE (sl p) i) := by
  simp only [inSlice, fldKey, Reg.FIO_DI_CFG_DEBOUNCE]
  omega
theorem diView_of_slice {p : Pier} {i : Nat} (hi : i < 32) {d t : Dev} (h : sliceView p t = sliceView p d) : diView p i t = diView p i d := by
  rw [diView, bitF, rd_of_slice h (inSlice_diState p), rd_of_slice h (inSlice_debounce p hi), fio_of_slice h]
  rfl
/-- The debounced state of an input after DI_SAMPLE (R421). -/
theorem diSample_debounced {p : Pier} {i : Nat} (hi : i < 32) (di rb sw d) : bitF (diSample di rb sw d) (Reg.FIO_DI_STATE (sl p)) i =
    if bitOf (triGet di p) i ≠ bitF d (Reg.FIO_DI_STATE (sl p)) i ∧
        rd d (Reg.FIO_DI_CFG_DEBOUNCE (sl p) i) < mgetD (triGet d.fio p).diCount i 0 + 1 then bitOf (triGet di p) i
      else bitF d (Reg.FIO_DI_STATE (sl p)) i := by
  obtain ⟨e, he, hv⟩ := diSample_slice di rb sw p d
  obtain ⟨c, hc, ht⟩ := forEach_view (v := diView p i) (f := diSampleOne p (triGet di p)) List.nodup_range (List.mem_range.mpr hi)
    (fun j hj d => diSampleOne_other hi hj _ d)
    (rawShown (triGet di p) (triGet rb p) (triGet sw p) (maskOf ((List.range 16).filter (switchClosed d))) p e)
  rw [diView_rawShown hi, diView_of_slice hi he] at hc
  simp only [diView, Prod.mk.injEq] at hc ht
  obtain ⟨hstate, hcount, hset⟩ := hc
  have hrb : fldKey (Reg.FIO_RB_STATE_DEB (sl p)) ≠ fldKey (Reg.FIO_DI_STATE (sl p)) ∧
      fldKey (Reg.FIO_DO_FAULT_EXT_DRIVEN (sl p)) ≠ fldKey (Reg.FIO_DI_STATE (sl p)) := by
    simp only [fldKey, Reg.FIO_RB_STATE_DEB, Reg.FIO_DO_FAULT_EXT_DRIVEN, Reg.FIO_DI_STATE]
    omega
  obtain ⟨h1, h2⟩ := hrb
  rw [bitF, rd_of_slice hv (inSlice_diState p), sliceSample, rd_forEach fun n _ d => rd_rbSampleOne h1 h2 _ n d, ← bitF, ht.1, bitF_diSampleOne hi,
    hstate, hcount, hset]

/-! ## FS_MEASUREMENT (R424) -/

/-- What one slice does at FS_MEASUREMENT. -/
def sliceMeasure (fs1 fs2 : Tri Nat) (p : Pier) (d : Dev) : Dev := fsMeasureOne p 1 (triGet fs2 p) (fsMeasureOne p 0 (triGet fs1 p) d)
theorem fsMeasurement_eq (fs1 fs2 d) : fsMeasurement fs1 fs2 d = fsReview 1 (fsReview 0 (forEach allPiers (sliceMeasure fs1 fs2) d)) := rfl
theorem inSlice_supply (p) {k : Nat} (hk : k < 2) : inSlice p (Reg.FIO_FS_MV (sl p) k) ∧ inSlice p (Reg.FIO_FS_STATE (sl p) k) := by
  simp only [inSlice, fldKey, Reg.FIO_FS_MV, Reg.FIO_FS_STATE]
  omega
theorem fsMeasureOne_otherSlice {p q : Pier} (hq : q ≠ p) {k : Nat} (hk : k < 2) (mv d) : sliceView p (fsMeasureOne q k mv d) = sliceView p d := by
  obtain ⟨h1, h2⟩ := inSlice_supply q hk
  rw [fsMeasureOne, wr_otherSlice hq h2, wr_otherSlice hq h1, fioSet_otherSlice hq]
theorem fsRecord_slice (k st p d) : sliceView p (fsRecord k st d) = sliceView p d := record_slice _ _ _ _
theorem fsReview_slice (k p d) : sliceView p (fsReview k d) = sliceView p d := by
  unfold fsReview
  split
  · rfl
  · split
    · exact fsRecord_slice _ _ _ _
    · rfl
/-- A slice's registers after FS_MEASUREMENT are as its own measurement leaves them. -/
theorem fsMeasurement_slice (fs1 fs2 p d) : ∃ e, sliceView p e = sliceView p d ∧
    sliceView p (fsMeasurement fs1 fs2 d) = sliceView p (sliceMeasure fs1 fs2 p e) := by
  obtain ⟨e, he, hv⟩ := forEach_slice (f := sliceMeasure fs1 fs2)
    (fun p q hq d => (fsMeasureOne_otherSlice hq (by decide) _ _).trans (fsMeasureOne_otherSlice hq (by decide) _ d)) p d
  refine ⟨e, he, ?_⟩
  rw [fsMeasurement_eq, fsReview_slice, fsReview_slice, hv]
theorem fsNext_le (low missing st hist) : fsNext low missing st hist ≤ 2 := by
  unfold fsNext
  extract_lets full all
  split
  · split <;> omega
  · split
    · omega
    · split
      · split <;> omega
      · split <;> omega
/-- A supply measured: its voltage, and its status by the last ten measurements (R424). -/
theorem fsMeasureOne_same (p k mv d) :
    rd (fsMeasureOne p k mv d) (Reg.FIO_FS_MV (sl p) k) = trunc (Reg.FIO_FS_MV (sl p) k).w (mv / 10 * 10) ∧
      rd (fsMeasureOne p k mv d) (Reg.FIO_FS_STATE (sl p) k) = fsNext (fsLow p) (fsMissing p) (rd d (Reg.FIO_FS_STATE (sl p) k))
        ((mv / 10 * 10 :: mgetD (triGet d.fio p).fs k []).take 10) := by
  have hw : fldKey (Reg.FIO_FS_STATE (sl p) k) ≠ fldKey (Reg.FIO_FS_MV (sl p) k) := by
    simp only [fldKey, Reg.FIO_FS_STATE, Reg.FIO_FS_MV]
    omega
  refine ⟨?_, ?_⟩
  · rw [fsMeasureOne, rd_wr_ne _ _ hw, rd_wr_same]
  · have hn := fsNext_le (fsLow p) (fsMissing p) (rd d (Reg.FIO_FS_STATE (sl p) k)) ((mv / 10 * 10 :: mgetD (triGet d.fio p).fs k []).take 10)
    rw [fsMeasureOne, rd_wr_same]
    exact Nat.mod_eq_of_lt (by simp only [Reg.FIO_FS_STATE, rd_fioSet] at *; omega)
theorem mgetD_mput_ne {α : Type} (m : NMap α) {i j : Nat} (h : i ≠ j) (v x : α) : mgetD (mput m i v) j x = mgetD m j x := by
  rw [mgetD, mget_mput_ne _ _ h, mgetD]
/-- What the measurement of one supply reads and shows of it. -/
def fsView (p : Pier) (k : Nat) (d : Dev) : Nat × Nat × List Nat :=
  (rd d (Reg.FIO_FS_MV (sl p) k), rd d (Reg.FIO_FS_STATE (sl p) k), mgetD (triGet d.fio p).fs k [])
theorem fsMeasureOne_other {j k : Nat} (h : j ≠ k) (p mv d) : fsView p k (fsMeasureOne p j mv d) = fsView p k d := by
  have hw : ∀ g ∈ [Reg.FIO_FS_MV (sl p) k, Reg.FIO_FS_STATE (sl p) k], fldKey (Reg.FIO_FS_MV (sl p) j) ≠ fldKey g ∧
      fldKey (Reg.FIO_FS_STATE (sl p) j) ≠ fldKey g := by
    simp only [List.forall_mem_cons, fldKey, Reg.FIO_FS_STATE, Reg.FIO_FS_MV]
    refine ⟨?_, ?_, by simp⟩ <;> omega
  simp only [List.forall_mem_cons] at hw
  obtain ⟨⟨h1, h2⟩, ⟨h3, h4⟩, -⟩ := hw
  rw [fsView, fsMeasureOne, rd_wr_ne _ _ h2, rd_wr_ne _ _ h1, rd_wr_ne _ _ h4, rd_wr_ne _ _ h3, wr_fio, wr_fio, triGet_fioSet]
  exact congrArg (rd d (Reg.FIO_FS_MV (sl p) k), rd d (Reg.FIO_FS_STATE (sl p) k), ·) (mgetD_mput_ne _ h _ _)
theorem fsView_of_slice {p : Pier} {k : Nat} (hk : k < 2) {d t : Dev} (h : sliceView p t = sliceView p d) : fsView p k t = fsView p k d := by
  obtain ⟨h1, h2⟩ := inSlice_supply p hk
  rw [fsView, rd_of_slice h h1, rd_of_slice h h2, fio_of_slice h]
  rfl
/-- FS_MEASUREMENT leaves a supply of a slice as the measurement of that supply does. -/
theorem fsMeasurement_supply {k : Nat} (hk : k < 2) (fs1 fs2 p d) : ∃ e, fsView p k e = fsView p k d ∧
    fsView p k (fsMeasurement fs1 fs2 d) = fsView p k (fsMeasureOne p k (triGet (if k = 0 then fs1 else fs2) p) e) := by
  obtain ⟨e, he, hv⟩ := fsMeasurement_slice fs1 fs2 p d
  rw [fsView_of_slice hk hv, ← fsView_of_slice hk he]
  by_cases h : k = 0
  · subst h
    exact ⟨e, rfl, fsMeasureOne_other (by decide) p _ _⟩
  · have h1 : k = 1 := by omega
    subst h1
    exact ⟨fsMeasureOne p 0 (triGet fs1 p) e, fsMeasureOne_other (by decide) p _ _, rfl⟩
/-- A supply that is OK and measures at least 18.5 V stays OK, whatever the slice's thresholds (R424). -/
theorem fsNext_ok {v : Nat} (hv : 18500 ≤ v) (p l) : fsNext (fsLow p) (fsMissing p) 0 ((v :: l).take 10) = 0 := by
  have hl : fsLow p ≤ 18500 := by
    unfold fsLow
    omega
  have hm : fsMissing p ≤ 9500 := by
    unfold fsMissing
    omega
  have h1 : ¬ v < fsLow p := by omega
  have h2 : ¬ v < fsMissing p := by omega
  simp [fsNext, h1, h2]

/-! ## FS_STATE_DEFERRED (R434) -/

theorem fsDeferred_none {k : Nat} {d : Dev} (h : fsMajority d k = none) : fsDeferred k d = d := by simp [fsDeferred, h]
theorem fsDeferred_some {k st : Nat} {d : Dev} (h : fsMajority d k = some st) :
    fsDeferred k d = if st ≠ mgetD d.io.fsMaj k 2 then fsRecord k st d else d := by simp only [fsDeferred, h]
/-- The recorded status of a supply, and its event. -/
theorem fsRecord_spec (k st d) :
    let t := fsRecord k st d
    mget t.io.fsMaj k = some st ∧ regsBut evCounts d t ∧
      (intakeOpen d Ev.FS_STATE (sevOf Ev.FS_STATE) → entered d t Ev.FS_STATE (sevOf Ev.FS_STATE) (srcOf Ev.FS_STATE) 3
        [.w k, .w (mgetD d.io.fsMaj k 2), .w st, .w (rd d (Reg.FIO_FS_MV 0 k)), .w (rd d (Reg.FIO_FS_MV 1 k)), .w (rd d (Reg.FIO_FS_MV 2 k))]) := by
  refine ⟨?_, fun g hg => ?_, fun hi => ?_⟩
  · rw [fsRecord, record_shape]
    exact mget_mput_same _ _ _
  · simp only [evCounts, List.forall_mem_cons] at hg
    obtain ⟨h1, h2, -⟩ := hg
    exact rd_record _ _ _ g h1 h2
  · exact record_entered Ev.FS_STATE _ (noteOnce { d with io := { d.io with fsMaj := mput d.io.fsMaj k st } } (Ev.FS_STATE * 0x10000 + k)) hi

/-- Settles O43: a slice's registers are its own, an input's debouncing is its own, and a supply's status goes by its last ten measurements. -/
theorem fieldInputs : Obligations.FieldInputs := by
  unfold Obligations.FieldInputs
  intro s p hs
  refine ⟨fun di rb sw => ?_, fun fs1 fs2 => ?_, fun k hk => ?_, fun k st hk => ⟨fun hst => ?_, fun hst => ?_⟩⟩
  · rw [answers_of (i := .diSample di rb sw) rfl hs]
    obtain ⟨hdi, hrb, hsw⟩ := diSample_raw di rb sw p s.dev
    refine ⟨hdi, hrb, hsw, fun i hi h => ?_, fun i hi h => ?_⟩
    · rw [diSample_debounced hi]
      simp only [h, ne_eq, not_false_eq_true, true_and]
    · rw [diSample_debounced hi, if_neg fun hx => hx.1 h]
  · rw [answers_of (i := .fsMeasurement fs1 fs2) rfl hs]
    intro k v hv
    have hk : k < 2 ∧ v = triGet (if k = 0 then fs1 else fs2) p / 10 * 10 := by
      rcases hv with ⟨rfl, rfl⟩ | ⟨rfl, rfl⟩ <;> exact ⟨by decide, rfl⟩
    obtain ⟨hk, hval⟩ := hk
    obtain ⟨e, he, ht⟩ := fsMeasurement_supply hk fs1 fs2 p s.dev
    simp only [fsView, Prod.mk.injEq] at he ht
    obtain ⟨-, hst, hfs⟩ := he
    obtain ⟨hmv, hnext, -⟩ := ht
    obtain ⟨hmv', hnext'⟩ := fsMeasureOne_same p k (triGet (if k = 0 then fs1 else fs2) p) e
    rw [hst, hfs, ← hval] at hnext'
    refine ⟨by rw [hmv, hmv', hval], hnext.trans hnext', fun h0 hv => ?_⟩
    rw [hnext, hnext', h0]
    exact fsNext_ok hv p _
  · rw [answers_of (i := .fsStateDeferred k) rfl hs]
    exact fsDeferred_none hk
  · rw [answers_of (i := .fsStateDeferred k) rfl hs, fsDeferred_some hk, if_pos hst]
    exact fsRecord_spec k st s.dev
  · rw [answers_of (i := .fsStateDeferred k) rfl hs, fsDeferred_some hk, if_neg (by simpa using hst)]

end Sys2Proof.Machine
end

section
/-!
SUPPORT. Module hardware without power, the sampled position, and the checked settings: O4, O58, O24.
-/
namespace Sys2Proof.Machine

/-! ## Without power (R52, R76) -/

/-- What a command on a powered module answers without power. -/
theorem powered_off {s : State} (h : s.dev.hm.rails = false) (t : State) :
    (Host.Outcome.next (if s.dev.hm.rails then t else s) : Host.Outcome State Fault Refusal) = .next s := by
  rw [if_neg (by simp [h])]

/-- Settles O4: the two commands that need no power are excepted, every other one acts on a powered module alone. -/
theorem unpoweredModuleStays : Obligations.UnpoweredModuleStays := by
  unfold Obligations.UnpoweredModuleStays
  intro c s hs hr hv
  cases c
  case powerOnReset => exact absurd rfl hr
  case vin9vThreshold above => exact absurd rfl (hv above)
  all_goals exact powered_off hs _

/-! ## The sampled position (R59) -/

theorem record_regsBut (c l d) : regsBut evCounts d (record c l d) := recordFrom_regsBut (srcOf c) c l d
theorem record_reportsOnly (c l d) : reportsOnly d (record c l d) := by
  unfold reportsOnly
  rw [record_shape]
theorem posChanged_recorded {d : Dev} (h : modeOf d ≠ mBOOT) (now) :
    posChanged now d = record Ev.DX_POS_CHANGED [.w (rd d Reg.MCTL_PINS_POS), .w (b2n now)] d := by
  simp [posChanged, modeIs, h]

/-- Settles O58: outside BOOT the command is the record of the event, which writes no pin. -/
theorem positionKeptAfterBoot : Obligations.PositionKeptAfterBoot := by
  unfold Obligations.PositionKeptAfterBoot
  intro s now hs hm
  rw [answers_of (i := .dxPosChanged now) rfl hs, posChanged_recorded hm]
  have hr := record_regsBut Ev.DX_POS_CHANGED [.w (rd s.dev Reg.MCTL_PINS_POS), .w (b2n now)] s.dev
  exact ⟨hr _ (by decide), hr, record_reportsOnly _ _ _, record_entered _ _ _⟩

/-! ## Words checked against ranges (R68, R164, R251, R253, R259) -/

theorem trunc_of_lt {w v : Nat} (h : v < 2 ^ w) : trunc w v = v := Nat.mod_eq_of_lt h
theorem trunc_bitField (v lo w) : trunc w (bitField v lo w) = bitField v lo w := Nat.mod_mod _ _
theorem regsBut_wr (d f v) : regsBut [f] d (wr d f v) := fun _ hg => rd_wr_ne d v (hg f (List.mem_singleton_self f))
theorem regsBut.mono {l m : List Fld} {d t : Dev} (h : regsBut l d t) (hl : ∀ f ∈ l, f ∈ m) : regsBut m d t :=
  fun g hg => h g fun f hf => hg f (hl f hf)
theorem regsBut.trans {l m : List Fld} {d e t : Dev} (h1 : regsBut l d e) (h2 : regsBut m e t) : regsBut (l ++ m) d t := by
  intro g hg
  rw [h2 g fun f hf => hg f (List.mem_append_right l hf), h1 g fun f hf => hg f (List.mem_append_left m hf)]

/-- The fields of a word lie in their ranges. -/
def wordFits (l : List Fld) (word : Nat) : Bool := l.all fun f => inRange f.w f.rng (bitField word f.lo f.w)
/-- A refused word sets THR_REJ alone. -/
theorem limitWrite_refused {l : List Fld} {word : Nat} (h : wordFits l word = false) (d) :
    limitWrite l word d = wrB d Reg.HM_STATUS_THR_REJ true := if_neg (ne_true_of_eq_false h)
theorem limitWrite_fits {l : List Fld} {word : Nat} (h : wordFits l word = true) (d) :
    limitWrite l word d = l.foldl (fun d f => wr d f (bitField word f.lo f.w)) d := if_pos h
theorem limitWrite_refused_spec {l : List Fld} {word : Nat} (h : wordFits l word = false) (d) :
    flag (limitWrite l word d) Reg.HM_STATUS_THR_REJ = true ∧ regsBut [Reg.HM_STATUS_THR_REJ] d (limitWrite l word d) := by
  rw [limitWrite_refused h]
  exact ⟨flag_wrB_same _ _ _ (by decide), regsBut_wr _ _ _⟩
theorem limitWrite_regsOnly (l word d) : regsOnly d (limitWrite l word d) := by
  unfold limitWrite
  split
  · exact forEach_regsOnly l (f := fun f d => wr d f (bitField word f.lo f.w)) (fun f d => wr_regsOnly d f _) d
  · exact wr_regsOnly _ _ _
/-- A threshold register of two fields takes a word that fits. -/
theorem limitWrite_two {f g : Fld} (hfg : fldKey f ≠ fldKey g) {word : Nat} (h : wordFits [f, g] word = true) (d) :
    let t := limitWrite [f, g] word d
    rd t f = bitField word f.lo f.w ∧ rd t g = bitField word g.lo g.w ∧ regsBut [f, g] d t := by
  rw [limitWrite_fits h]
  refine ⟨?_, ?_, (regsBut_wr d f _).trans (regsBut_wr _ g _)⟩
  · exact (rd_wr_ne _ _ hfg.symm).trans ((rd_wr_same _ _ _).trans (trunc_bitField _ _ _))
  · exact (rd_wr_same _ _ _).trans (trunc_bitField _ _ _)

theorem copyShareWrite_taken {v : Nat} (h : 5 ≤ v ∧ v ≤ 40) (d) : copyShareWrite v d = wr d Reg.KS_RESYNC_CFG_COPY_SHARE v := if_pos h
theorem copyShareWrite_refused {v : Nat} (h : v < 5 ∨ 40 < v) (d) : copyShareWrite v d = wrB d Reg.KS_RESYNC_STATUS_SHARE_REJ true :=
  if_neg (by omega)

theorem tuField_taken {f : Fld} {v : Nat} (h : inRange f.w f.rng v = true) (d) : tuField f v d = wr d f v := if_pos h
theorem tuField_refused {f : Fld} {v : Nat} (h : inRange f.w f.rng v = false) (d) : tuField f v d = wrB d Reg.TU_STATUS_THR_REJ true :=
  if_neg (ne_true_of_eq_false h)
theorem tuField_regsOnly (f v d) : regsOnly d (tuField f v d) := by
  unfold tuField
  split
  · exact wr_regsOnly _ _ _
  · exact wr_regsOnly _ _ _
theorem tuField_regsBut (f v d) : regsBut [f, Reg.TU_STATUS_THR_REJ] d (tuField f v d) := by
  unfold tuField
  split
  · exact (regsBut_wr _ _ _).mono (by simp)
  · exact (regsBut_wr _ _ _).mono (by simp)
/-- A setting of one field. -/
theorem tuField_spec (f v d) :
    (inRange f.w f.rng v = true → rd (tuField f v d) f = trunc f.w v ∧ regsBut [f] d (tuField f v d)) ∧
    (inRange f.w f.rng v = false → flag (tuField f v d) Reg.TU_STATUS_THR_REJ = true ∧ regsBut [Reg.TU_STATUS_THR_REJ] d (tuField f v d)) ∧
    regsOnly d (tuField f v d) := by
  refine ⟨fun h => ?_, fun h => ?_, tuField_regsOnly f v d⟩
  · rw [tuField_taken h]
    exact ⟨rd_wr_same _ _ _, regsBut_wr _ _ _⟩
  · rw [tuField_refused h]
    exact ⟨flag_wrB_same _ _ _ (by decide), regsBut_wr _ _ _⟩
theorem rd_tuField_same {f : Fld} (hf : fldKey Reg.TU_STATUS_THR_REJ ≠ fldKey f) (v d) :
    rd (tuField f v d) f = if inRange f.w f.rng v then trunc f.w v else rd d f := by
  unfold tuField
  split
  · exact rd_wr_same _ _ _
  · exact rd_wrB_ne _ _ hf
theorem flag_tuField_refused {f : Fld} (hf : fldKey f ≠ fldKey Reg.TU_STATUS_THR_REJ) {v : Nat} {d : Dev}
    (h : inRange f.w f.rng v = false ∨ flag d Reg.TU_STATUS_THR_REJ = true) : flag (tuField f v d) Reg.TU_STATUS_THR_REJ = true := by
  cases hv : inRange f.w f.rng v with
  | false => rw [tuField_refused hv, flag_wrB_same _ _ _ (by decide)]
  | true => rw [tuField_taken hv, flag_wr_ne _ _ hf, h.resolve_left (by simp [hv])]
/-- A setting of two fields, each judged by itself (R259). -/
theorem tuField_two {f g : Fld} (hfg : fldKey f ≠ fldKey g) (hf : fldKey f ≠ fldKey Reg.TU_STATUS_THR_REJ)
    (hg : fldKey g ≠ fldKey Reg.TU_STATUS_THR_REJ) (w d) :
    let t := tuField f (bitField w f.lo f.w) (tuField g (bitField w g.lo g.w) d)
    rd t f = (if inRange f.w f.rng (bitField w f.lo f.w) then bitField w f.lo f.w else rd d f) ∧
      rd t g = (if inRange g.w g.rng (bitField w g.lo g.w) then bitField w g.lo g.w else rd d g) ∧
      (wordFits [f, g] w = false → flag t Reg.TU_STATUS_THR_REJ = true) ∧ regsBut [f, g, Reg.TU_STATUS_THR_REJ] d t ∧ regsOnly d t := by
  intro t
  have hrf : rd (tuField g (bitField w g.lo g.w) d) f = rd d f := tuField_regsBut g _ d f (by simp [hfg.symm, hf.symm])
  have hrg : rd t g = rd (tuField g (bitField w g.lo g.w) d) g := tuField_regsBut f _ _ g (by simp [hfg, hg.symm])
  refine ⟨?_, ?_, fun h => ?_, ?_, (tuField_regsOnly g _ d).trans (tuField_regsOnly f _ _)⟩
  · rw [rd_tuField_same hf.symm, trunc_bitField, hrf]
  · rw [hrg, rd_tuField_same hg.symm, trunc_bitField]
  · refine flag_tuField_refused hf ?_
    have hor : inRange f.w f.rng (bitField w f.lo f.w) = false ∨ inRange g.w g.rng (bitField w g.lo g.w) = false := by
      simpa only [wordFits, List.all_cons, List.all_nil, Bool.and_true, Bool.and_eq_false_iff] using h
    exact hor.imp_right fun hv => flag_tuField_refused hg (.inl hv)
  · exact ((tuField_regsBut g _ d).trans (tuField_regsBut f _ _)).mono (by simp)
theorem tuPort_apart (p) : fldKey (Reg.TU_LAUNCH_POLICY p) ≠ fldKey (Reg.TU_LAUNCH_LATE_TOL p) ∧
    fldKey (Reg.TU_LAUNCH_POLICY p) ≠ fldKey Reg.TU_STATUS_THR_REJ ∧ fldKey (Reg.TU_LAUNCH_LATE_TOL p) ≠ fldKey Reg.TU_STATUS_THR_REJ := by
  simp only [fldKey, Reg.TU_LAUNCH_POLICY, Reg.TU_LAUNCH_LATE_TOL, Reg.TU_STATUS_THR_REJ]
  omega

/-- Settles O24: each write comes down to the write of its fields where they fit, and to its refusal flag where they do not. -/
theorem checkedSettings : Obligations.CheckedSettings := by
  unfold Obligations.CheckedSettings
  intro s hs
  refine ⟨fun kind n word f g hk => ?_, fun n word => ?_, fun kind n word hk => ?_, fun v h5 h40 => ?_, fun v hv => ?_, fun r f w v hr => ?_,
    fun r f g w hr => ?_⟩
  · have hl : thresholdWrite kind n word s.dev = limitWrite [f, g] word s.dev ∧ fldKey f ≠ fldKey g := by
      rcases hk with ⟨rfl, hn, rfl, rfl⟩ | ⟨rfl, hn, rfl, rfl⟩
      · simp [thresholdWrite, hn, fldKey, Reg.HM_TLIM_HYST, Reg.HM_TLIM_WARN]
      · simp [thresholdWrite, hn, fldKey, Reg.HM_VLIM_WARN_HI, Reg.HM_VLIM_WARN_LO]
    obtain ⟨ht, hfg⟩ := hl
    rw [answers_of (i := .hmThresholdWrite kind n word) rfl hs, ht]
    exact ⟨fun h => limitWrite_two hfg h _, fun h => limitWrite_refused_spec h _, limitWrite_regsOnly _ _ _⟩
  · rw [answers_of (i := .hmThresholdWrite 2 n word) rfl hs]
    have hone : wordFits [Reg.HM_PLIM_WARN_PCT] word =
        inRange Reg.HM_PLIM_WARN_PCT.w Reg.HM_PLIM_WARN_PCT.rng (bitField word Reg.HM_PLIM_WARN_PCT.lo Reg.HM_PLIM_WARN_PCT.w) := by
      simp [wordFits]
    rw [← hone]
    refine ⟨fun h => ?_, fun h => limitWrite_refused_spec h _, limitWrite_regsOnly [Reg.HM_PLIM_WARN_PCT] word s.dev⟩
    have ht : thresholdWrite 2 n word s.dev = wr s.dev Reg.HM_PLIM_WARN_PCT
      (bitField word Reg.HM_PLIM_WARN_PCT.lo Reg.HM_PLIM_WARN_PCT.w) := limitWrite_fits h _
    rw [ht, rd_wr_same, trunc_bitField]
    exact ⟨rfl, regsBut_wr _ _ _⟩
  · rw [answers_of (i := .hmThresholdWrite kind n word) rfl hs]
    rcases hk with ⟨rfl, hn⟩ | ⟨rfl, hn⟩
    · simp [thresholdWrite, Nat.not_lt.mpr hn]
    · simp [thresholdWrite, Nat.not_lt.mpr hn]
  · rw [answers_of (i := .copyShareWrite v) rfl hs, copyShareWrite_taken ⟨h5, h40⟩]
    exact ⟨(rd_wr_same _ _ _).trans (trunc_of_lt (by simp only [Reg.KS_RESYNC_CFG_COPY_SHARE]; omega)), regsBut_wr _ _ _, wr_regsOnly _ _ _⟩
  · rw [answers_of (i := .copyShareWrite v) rfl hs, copyShareWrite_refused hv]
    exact ⟨rd_wrB_ne _ _ (by decide), flag_wrB_same _ _ _ (by decide), regsBut_wr _ _ _, wr_regsOnly _ _ _⟩
  · have ht : tuSettingWrite r w s.dev = tuField f v s.dev := by
      rcases hr with ⟨rfl, rfl, rfl⟩ | ⟨rfl, rfl, rfl⟩ | ⟨p, rfl, rfl, rfl⟩ <;> rfl
    rw [answers_of (i := .tuSettingWrite r w) rfl hs, ht]
    exact tuField_spec f v s.dev
  · rw [answers_of (i := .tuSettingWrite r w) rfl hs]
    rcases hr with ⟨rfl, rfl, rfl⟩ | ⟨p, rfl, rfl, rfl⟩
    · exact tuField_two (by decide) (by decide) (by decide) w s.dev
    · obtain ⟨hpt, hp, ht⟩ := tuPort_apart p
      exact tuField_two hpt hp ht w s.dev

end Sys2Proof.Machine
end

section
/-!
SUPPORT. The supply of the module: the hold-up store, its end, the rails and the 9.0 V threshold: O7.
-/
namespace Sys2Proof.Machine

/-! ## What the recorder reads when it takes an event (R453, R456) -/

/-- The fields behind the stamp of an event and the limits of its code. -/
def recorderReads : List Fld :=
  [Reg.MCTL_OP_SECONDS, Reg.MCTL_POWER_CYCLES, Reg.TU_SCHED, Reg.TU_STATUS_VALID, Reg.EV_CFG_BURST] ++
    (List.range 16).flatMap fun k => [Reg.EV_OVR_CODE k, Reg.EV_OVR_NO_LIMIT k, Reg.EV_OVR_BURST k]
/-- The recorder would take an event of the one device as one of the other. -/
def recorderSame (d e : Dev) : Prop := e.ev = d.ev ∧ ∀ f ∈ recorderReads, rd e f = rd d f
theorem recorderSame_of_regsBut {l : List Fld} {d e : Dev} (hev : e.ev = d.ev) (h : regsBut l d e)
    (hl : ∀ f ∈ l, ∀ g ∈ recorderReads, fldKey f ≠ fldKey g) : recorderSame d e :=
  ⟨hev, fun g hg => h g fun f hf => hl f hf g hg⟩
theorem bucketBurst_same {d e : Dev} (h : recorderSame d e) (code) : bucketBurst e code = bucketBurst d code := by
  obtain ⟨-, h⟩ := h
  have hcfg : rd e Reg.EV_CFG_BURST = rd d Reg.EV_CFG_BURST := h _ (by decide)
  have hovr : ∀ k ∈ List.range 16, rd e (Reg.EV_OVR_CODE k) = rd d (Reg.EV_OVR_CODE k) ∧
      rd e (Reg.EV_OVR_NO_LIMIT k) = rd d (Reg.EV_OVR_NO_LIMIT k) ∧ rd e (Reg.EV_OVR_BURST k) = rd d (Reg.EV_OVR_BURST k) := fun k hk => by
    have hm : ∀ f ∈ [Reg.EV_OVR_CODE k, Reg.EV_OVR_NO_LIMIT k, Reg.EV_OVR_BURST k], rd e f = rd d f := fun f hf =>
      h f (List.mem_append_right _ (List.mem_flatMap.mpr ⟨k, hk, hf⟩))
    simp only [List.forall_mem_cons] at hm
    obtain ⟨hc, hn, hb, -⟩ := hm
    exact ⟨hc, hn, hb⟩
  have hfirst : firstOf (fun k => rd e (Reg.EV_OVR_CODE k) == code && code != 0) (List.range 16) =
      firstOf (fun k => rd d (Reg.EV_OVR_CODE k) == code && code != 0) (List.range 16) :=
    List.find?_congr fun k hk => by rw [(hovr k hk).1]
  unfold bucketBurst
  rw [hfirst, hcfg]
  split
  · rfl
  · next k hk =>
    obtain ⟨-, hno, hb⟩ := hovr k (List.mem_of_find?_eq_some hk)
    rw [flag, hno, hb, flag]
theorem stamp_same {d e : Dev} (h : recorderSame d e) (code sev src pier count summary data) :
    stamp e code sev src pier count summary data = stamp d code sev src pier count summary data := by
  obtain ⟨-, h⟩ := h
  have hs : ∀ f ∈ [Reg.MCTL_OP_SECONDS, Reg.MCTL_POWER_CYCLES, Reg.TU_SCHED, Reg.TU_STATUS_VALID], rd e f = rd d f := fun f hf =>
    h f (List.mem_append_left _ (List.mem_append_left [Reg.EV_CFG_BURST] hf))
  simp only [List.forall_mem_cons] at hs
  obtain ⟨hop, hcyc, hsched, hvalid, -⟩ := hs
  simp only [stamp, schedValid, schedTime, flag, hop, hcyc, hsched, hvalid]
  rfl
theorem intakeOpen_same {d e : Dev} (h : recorderSame d e) {code sev : Nat} (ho : intakeOpen d code sev) : intakeOpen e code sev := by
  have hb : ∀ x, limitedBurst e x = limitedBurst d x := fun x => by simp only [limitedBurst, bucketBurst_same h]
  simpa only [intakeOpen, intakeRoom, hb, stamp_same h, h.1] using ho
/-- An event recorded after changes that the recorder does not read enters as it would have before them. -/
theorem record_entered_same {d e : Dev} (h : recorderSame d e) {c : Nat} (ho : intakeOpen d c (sevOf c)) (l) :
    entered d (record c l e) c (sevOf c) (srcOf c) 3 l := by
  have he := record_entered c l e (intakeOpen_same h ho)
  rwa [entered, stamp_same h, h.1] at he

/-! ## The hold-up store (R52, R63, R71) -/

/-- The module runs from its hold-up store, V0 is low. -/
def holdupBegun (d : Dev) : Dev :=
  setBitF (setBitF (wrB (hmSet (fun h => { h with counting := false }) d) Reg.HM_STATUS_HOLDUP true) Reg.HM_ALARM_VOLT 0) Reg.HM_LIVE_VOLT 0
theorem vinLow_again {d : Dev} (h : flag d Reg.HM_STATUS_HOLDUP = true) (mv) : vinLow mv d = d := if_pos h
theorem vinLow_first {d : Dev} (h : flag d Reg.HM_STATUS_HOLDUP = false) (mv) :
    vinLow mv d = msix 10 (record Ev.HOLDUP [.w mv] (holdupBegun d)) := if_neg (ne_true_of_eq_false h)
theorem holdupBegun_regsBut (d) : regsBut [Reg.HM_STATUS_HOLDUP, Reg.HM_ALARM_VOLT, Reg.HM_LIVE_VOLT] d (holdupBegun d) :=
  ((regsBut_wr (hmSet _ d) _ _).trans (regsBut_wr _ _ _)).trans (regsBut_wr _ _ _)
theorem holdupBegun_bits (d) : flag (holdupBegun d) Reg.HM_STATUS_HOLDUP = true ∧ bitF (holdupBegun d) Reg.HM_ALARM_VOLT 0 = true ∧
    bitF (holdupBegun d) Reg.HM_LIVE_VOLT 0 = true := by
  unfold holdupBegun
  refine ⟨?_, ?_, ?_⟩
  · rw [setBitF, flag_wr_ne _ _ (by decide), setBitF, flag_wr_ne _ _ (by decide), flag_wrB_same _ _ _ (by decide)]
  · rw [setBitF, bitF_wr_ne _ _ _ (by decide), bitF_setBitF _ _ _ _ (by decide)]
    rfl
  · rw [bitF_setBitF _ _ _ _ (by decide)]
    rfl
theorem holdupBegun_recorderSame (d) : recorderSame d (holdupBegun d) :=
  recorderSame_of_regsBut rfl (holdupBegun_regsBut d) (by decide)
/-- VIN is low: the bits of the hold-up are set and reported. -/
theorem vinLow_spec {d : Dev} (h : flag d Reg.HM_STATUS_HOLDUP = false) (mv) :
    flag (vinLow mv d) Reg.HM_STATUS_HOLDUP = true ∧ bitF (vinLow mv d) Reg.HM_ALARM_VOLT 0 = true ∧
      bitF (vinLow mv d) Reg.HM_LIVE_VOLT 0 = true ∧
      regsBut ([Reg.HM_STATUS_HOLDUP, Reg.HM_ALARM_VOLT, Reg.HM_LIVE_VOLT] ++ evCounts) d (vinLow mv d) ∧
      reportsOnly (hmSet (fun h => { h with counting := false }) d) (vinLow mv d) ∧ memSame d (vinLow mv d) ∧
      (intakeOpen d Ev.HOLDUP (sevOf Ev.HOLDUP) →
        entered d (vinLow mv d) Ev.HOLDUP (sevOf Ev.HOLDUP) (srcOf Ev.HOLDUP) 3 [.w mv]) := by
  rw [vinLow_first h]
  obtain ⟨hup, halarm, hlive⟩ := holdupBegun_bits d
  have hrec := record_regsBut Ev.HOLDUP [.w mv] (holdupBegun d)
  refine ⟨?_, ?_, ?_, fun g hg => ?_, ?_, memSame_of_memories (by simp [holdupBegun, hmSet]), fun ho => ?_⟩
  · rw [flag_msix, flag, hrec _ (by decide), ← flag, hup]
  · rw [bitF_msix, bitF, hrec _ (by decide), ← bitF, halarm]
  · rw [bitF_msix, bitF, hrec _ (by decide), ← bitF, hlive]
  · rw [rd_msix]
    exact ((holdupBegun_regsBut d).trans hrec) g hg
  · rw [reportsOnly, msix_shape, record_shape]
    rfl
  · have he := record_entered_same (holdupBegun_recorderSame d) ho [.w mv]
    rwa [entered, msix_shape]
theorem holdupEnd_idle {d : Dev} (h : flag d Reg.HM_STATUS_HOLDUP = false) : holdupEnd d = d := if_neg (ne_true_of_eq_false h)
theorem holdupEnd_regsOnly (d) : regsOnly d (holdupEnd d) := by
  unfold holdupEnd
  split
  · exact (wr_regsOnly _ _ _).trans (wr_regsOnly _ _ _)
  · rfl
theorem bitF_clrBitF_same (d f i) : bitF (clrBitF d f i) f i = false := by
  unfold bitF clrBitF
  rw [rd_wr_same, bitOf_eq_testBit, trunc, Nat.testBit_mod_two_pow, ← bitOf_eq_testBit, bitOf_bitClr]
  simp
/-- VIN is back: the bits of the hold-up are clear, and nothing else changes. -/
theorem holdupEnd_clears {d : Dev} (h : flag d Reg.HM_STATUS_HOLDUP = true) :
    flag (holdupEnd d) Reg.HM_STATUS_HOLDUP = false ∧ bitF (holdupEnd d) Reg.HM_LIVE_VOLT 0 = false ∧
      regsBut [Reg.HM_STATUS_HOLDUP, Reg.HM_LIVE_VOLT] d (holdupEnd d) := by
  rw [holdupEnd, if_pos h]
  refine ⟨?_, bitF_clrBitF_same _ _ _, (regsBut_wr _ _ _).trans (regsBut_wr _ _ _)⟩
  rw [clrBitF, flag_wr_ne _ _ (by decide), flag_wrB_same _ _ _ (by decide)]

/-! ## What an entry into SAFE leaves of the supply, after step 3 of R52 -/

@[simp] theorem hm_ite (c : Prop) [Decidable c] (a b : Dev) : (if c then a else b).hm = if c then a.hm else b.hm := apply_ite Dev.hm c a b
@[simp] theorem forEach_hm {α : Type} (l : List α) (f : α → Dev → Dev) (d : Dev) (h : ∀ x d, (f x d).hm = d.hm) : (forEach l f d).hm = d.hm :=
  forEach_keeps (v := Dev.hm) (fun x _ d => h x d) d
@[simp] theorem wrB_hm (d f b) : (wrB d f b).hm = d.hm := (rfl)
@[simp] theorem inc_hm (d f) : (inc d f).hm = d.hm := (rfl)
@[simp] theorem incBy_hm (d f k) : (incBy d f k).hm = d.hm := (rfl)
@[simp] theorem msix_hm (v d) : (msix v d).hm = d.hm := by rw [msix_shape]
@[simp] theorem intake_hm (e d) : (intake e d).hm = d.hm := by rw [intake_shape]
@[simp] theorem record_hm (c l d) : (record c l d).hm = d.hm := intake_hm _ _
@[simp] theorem intakeAdd_hm (e d) : (intakeAdd e d).hm = d.hm := by simp [intakeAdd, intakeDrop]
@[simp] theorem summarizeAll_hm (d) : (summarizeAll d).hm = d.hm := by
  refine forEach_hm _ _ d fun code d => ?_
  unfold summarize
  split <;> simp
@[simp] theorem modeWrite_hm (m d) : (modeWrite m d).hm = d.hm := by simp [modeWrite, recordSev, incW]
@[simp] theorem legsOff_hm (p d) : (legsOff p d).hm = d.hm := (rfl)
@[simp] theorem allLegsOff_hm (d) : (allLegsOff d).hm = d.hm := (rfl)
@[simp] theorem trigDisarmAll_hm (d) : (trigDisarmAll d).hm = d.hm := by
  have h : ∀ p k d, (trigDisarm p k d).hm = d.hm := fun _ _ _ => rfl
  simp [trigDisarmAll, h]
@[simp] theorem switchPins_hm (closed d) : (switchPins closed d).hm = d.hm := (rfl)
@[simp] theorem pinReview_hm (d) : (pinReview d).hm = d.hm := (rfl)
@[simp] theorem allStop_hm (d) : (resyncEnd (ksStop (cyclesStop d))).hm = d.hm := (rfl)
@[simp] theorem gbQueue_hm (q d) : (gbQueue q d).hm = d.hm := (rfl)
@[simp] theorem gbIdle_hm (d) : (gbIdle d).hm = d.hm := by simp [gbIdle, gbOpenPut]
@[simp] theorem gbReissue_hm (l d) : (gbReissue l d).hm = d.hm := by
  unfold gbReissue
  repeat' split
  all_goals simp
@[simp] theorem gbCountFail_hm (st d) : (gbCountFail st d).hm = d.hm := by simp [gbCountFail]
@[simp] theorem gbReportFail_hm (r cycle cls seg st posted d) : (gbReportFail r cycle cls seg st posted d).hm = d.hm := by
  simp [gbReportFail, incW]
@[simp] theorem gbRecord_hm (r d) : (gbRecord r d).hm = d.hm := by simp [gbRecord]
@[simp] theorem gbScanSet_hm (cls f d) : (gbScanSet cls f d).hm = d.hm := by
  unfold gbScanSet
  split <;> simp
@[simp] theorem gbSafeDone_hm (d) : (gbSafeDone d).hm = d.hm := by simp [gbSafeDone]
@[simp] theorem gbFinish_hm (r st data d) : (gbFinish r st data d).hm = d.hm := by
  unfold gbFinish
  repeat' split
  all_goals simp
theorem gbDropQueued_hm (f d) : (gbDropQueued f d).hm = d.hm := by
  unfold gbDropQueued gbUnstart
  dsimp only
  repeat' split
  all_goals simp [gbOpenPut]
theorem gbSafeRun_hm (m d) : (gbSafeRun m d).hm = d.hm := by simp [gbSafeRun]
theorem cwClearAll_hm (d) : (cwClearAll d).hm = d.hm := by
  have h : ∀ n d, (cwClear n d).hm = d.hm := fun n d => by
    unfold cwClear
    split <;> simp [cwSetHo]
  simp [cwClearAll, h]
theorem inhibitReview_hm (d) : (inhibitReview d).hm = d.hm := by simp [inhibitReview]
theorem canHeartbeats_hm (d) : (canHeartbeats d).hm = d.hm := by simp [canHeartbeats]
/-- After step 3 of R52 the commands are not ended any more, and the rest of SAFE does not touch the supply. -/
theorem safeEffects_hm {d : Dev} (h : d.hm.powerFail = true) : (safeEffects d).hm = d.hm := by
  have hp : ∀ e : Dev, e.hm = d.hm → (summarizeAll (if e.hm.powerFail then e else safeCommands e)).hm = d.hm := fun e he => by
    rw [he, if_pos h, summarizeAll_hm, he]
  unfold safeEffects
  refine hp _ ?_
  simp only [inhibitReview_hm, canHeartbeats_hm, cwClearAll_hm, hm_ite, gbSafeRun_hm, gbDropQueued_hm, allStop_hm, pinReview_hm,
    trigDisarmAll_hm, allLegsOff_hm, modeWrite_hm, ite_self]
theorem safeNow_hm {d : Dev} (h : d.hm.powerFail = true) : (safeNow d).hm = d.hm := by
  unfold safeNow
  extract_lets e
  have he : e.hm = d.hm := by simp [e, cursorOldest]
  rw [safeEffects_hm (by simpa [he] using h), modeSet_hm, he]
theorem modeOf_safeNow (d) : modeOf (safeNow d) = mSAFE := modeOf_safeEffects _

/-- The loss of the supply is never put off (R524), so the module is in SAFE whatever its mode was. -/
theorem safeEnter_powerFail {d : Dev} (h : d.hm.powerFail = true) (x) :
    modeOf (safeEnter scPOWER_FAIL x d) = mSAFE ∧ (safeEnter scPOWER_FAIL x d).hm = d.hm := by
  have hd : ∀ e, safeDefers scPOWER_FAIL x e = false := fun e => by simp [safeDefers]
  have hr : ∀ c l e, modeOf (record c l e) = modeOf e := fun c l e => rd_of_control (record_control c l e) (by decide)
  unfold safeEnter
  simp only [hd]
  split
  · next hs => exact ⟨(hr _ _ _).trans (by simpa [modeIs] using hs), record_hm _ _ _⟩
  · split
    · exact ⟨modeOf_safeNow _, (safeNow_hm (by simpa using h)).trans (record_hm _ _ _)⟩
    · exact ⟨(hr _ _ _).trans (modeOf_safeNow _), (record_hm _ _ _).trans (safeNow_hm (by simpa using h))⟩

/-! ## The power-fail record (R461) -/

theorem evFloor_shape (r d) : evFloor r d = { d with bp := (evFloor r d).bp } := by
  unfold evFloor
  split <;> rfl
@[simp] theorem evWrite_hm (e d) : (evWrite e d).hm = d.hm := by simp [evWrite, evFloor]
@[simp] theorem evNotify_hm (sev d) : (evNotify sev d).hm = d.hm := by simp [evNotify, evMessage]
@[simp] theorem evWrite_control (e d) : control (evWrite e d) = control d := by
  have hf : ∀ r d, control (evFloor r d) = control d := fun r d => by rw [evFloor_shape]; rfl
  simp [evWrite, hf, Reg.EV_NEXT, Reg.EV_OLDEST]
@[simp] theorem evNotify_control (sev d) : control (evNotify sev d) = control d := by simp [evNotify, evMessage]
theorem evPowerFail_hm (vin d) : (evPowerFail vin d).hm = d.hm := by
  simp only [evPowerFail]
  repeat' split
  all_goals simp
theorem evPowerFail_control (vin d) : control (evPowerFail vin d) = control d := by
  simp only [evPowerFail]
  repeat' split
  all_goals simp [Reg.EV_LOST]

/-- Step 3 of R52 has been reached. -/
def powerFailed (d : Dev) : Dev := hmSet (fun h => { h with powerFail := true }) d
theorem powerFailed_powerFail (d) : (powerFailed d).hm.powerFail = true := rfl
theorem safeOpen_powerFailed {d : Dev} (h : safeOpen d) : safeOpen (powerFailed d) := h
/-- Step 3 of R52: SAFE for the loss of power, then the record of it. -/
def powerFailSafe (mv : Nat) (d : Dev) : Dev := evPowerFail mv (safeEnter scPOWER_FAIL 0 (powerFailed d))
theorem holdupTimeout_due {d : Dev} (hd : flag d Reg.HM_STATUS_HOLDUP = true ∧ d.hm.powerFail = false) (mv) :
    holdupTimeout mv d = powerFailSafe mv d := if_pos ⟨hd.1, by simp [hd.2]⟩
theorem holdupTimeout_idle {d : Dev} (hd : ¬ (flag d Reg.HM_STATUS_HOLDUP = true ∧ d.hm.powerFail = false)) (mv) :
    holdupTimeout mv d = d := if_neg (by simpa using hd)
theorem powerFailSafe_hm (mv d) : (powerFailSafe mv d).hm.powerFail = true := by
  obtain ⟨-, hhm⟩ := safeEnter_powerFail (powerFailed_powerFail d) 0
  rw [powerFailSafe, evPowerFail_hm, hhm, powerFailed_powerFail]
theorem powerFailSafe_mode (mv d) : modeOf (powerFailSafe mv d) = mSAFE := by
  obtain ⟨hm, -⟩ := safeEnter_powerFail (powerFailed_powerFail d) 0
  exact (rd_of_control (evPowerFail_control _ _) (by decide)).trans hm
theorem powerFailSafe_enteredSafe {d : Dev} (h : safeOpen d) (mv) : enteredSafe (powerFailSafe mv d) scPOWER_FAIL 0 :=
  enteredSafe_of_control (evPowerFail_control _ _) (safeEnter_enteredSafe (safeOpen_powerFailed h) _ _)

/-! ## The rails go off (R52) -/

theorem legsOff_key (p q) : (p ≠ q → fldKey (Reg.FIO_LEG_STATE_APPLIED (sl p)) ≠ fldKey (Reg.FIO_LEG_STATE_APPLIED (sl q))) ∧
    fldKey (Reg.FIO_LEG_STATE_PENDING (sl p)) ≠ fldKey (Reg.FIO_LEG_STATE_APPLIED (sl q)) := by
  cases p <;> cases q <;> decide
theorem rd_legsOff_same (p d) : rd (legsOff p d) (Reg.FIO_LEG_STATE_APPLIED (sl p)) = 0 := by
  rw [legsOff, legPendingBits, rd_wr_ne _ _ (legsOff_key p p).2, rd_fioSet, rd_wr_same]
  rfl
theorem rd_legsOff_other {p q : Pier} (h : p ≠ q) (d) :
    rd (legsOff p d) (Reg.FIO_LEG_STATE_APPLIED (sl q)) = rd d (Reg.FIO_LEG_STATE_APPLIED (sl q)) := by
  rw [legsOff, legPendingBits, rd_wr_ne _ _ (legsOff_key p q).2, rd_fioSet, rd_wr_ne _ _ ((legsOff_key p q).1 h)]
theorem rd_allLegsOff (p d) : rd (allLegsOff d) (Reg.FIO_LEG_STATE_APPLIED (sl p)) = 0 := by
  obtain ⟨e, -, he⟩ := forEach_view (v := fun d => rd d (Reg.FIO_LEG_STATE_APPLIED (sl p))) (f := legsOff) (l := allPiers) (x := p) (by decide)
    (by cases p <;> decide) (fun q hq d => rd_legsOff_other hq d) d
  exact he.trans (rd_legsOff_same p e)
/-- Legs off, pins no longer driven. -/
def undriven (d : Dev) : Dev := wrB (switchPins 0 (allLegsOff d)) Reg.MCTL_PINS_STANDBY false
/-- The rails are off: nothing drives the pins and the legs. -/
def railsDown (d : Dev) : Dev := hmSet (fun h => { h with rails := false, counting := false }) (undriven d)
theorem railsDown_pins (d) : flag (railsDown d) Reg.MCTL_PINS_SAFE_OUT = false ∧ flag (railsDown d) Reg.MCTL_PINS_ALIVE = false ∧
    flag (railsDown d) Reg.MCTL_PINS_STANDBY = false := by
  simp only [railsDown, flag_hmSet, undriven, switchPins]
  refine ⟨?_, ?_, flag_wrB_same _ _ _ (by decide)⟩
  · rw [flag_wrB_ne _ _ (by decide), flag_wrB_ne _ _ (by decide), flag_wrB_same _ _ _ (by decide)]
    rfl
  · rw [flag_wrB_ne _ _ (by decide), flag_wrB_same _ _ _ (by decide)]
    rfl
theorem railsDown_legs (p d) : rd (railsDown d) (Reg.FIO_LEG_STATE_APPLIED (pierIdx p)) = 0 := by
  have hk : ∀ f ∈ [Reg.MCTL_PINS_SAFE_OUT, Reg.MCTL_PINS_ALIVE, Reg.MCTL_PINS_STANDBY],
      fldKey f ≠ fldKey (Reg.FIO_LEG_STATE_APPLIED (pierIdx p)) := by cases p <;> decide
  simp only [List.forall_mem_cons] at hk
  obtain ⟨hs, ha, hst, -⟩ := hk
  rw [railsDown, rd_hmSet, undriven, rd_wrB_ne _ _ hst, switchPins, rd_wrB_ne _ _ ha, rd_wrB_ne _ _ hs]
  exact rd_allLegsOff p d
theorem railsOff_due {d : Dev} (h : flag d Reg.HM_STATUS_HOLDUP = true ∨ d.hm.powerFail = true) : railsOff d = railsDown d := if_pos h
theorem railsOff_idle {d : Dev} (h : ¬ (flag d Reg.HM_STATUS_HOLDUP = true ∨ d.hm.powerFail = true)) : railsOff d = d := if_neg h

/-! ## The 9.0 V threshold (R52) -/

theorem vinThreshold_idle {d : Dev} (h : ¬ (d.hm.rails = false ∨ d.hm.powerFail = true)) (above) : vinThreshold above d = d := by
  have hc : (d.hm.rails && !d.hm.powerFail) = true := by simpa using h
  exact if_pos hc
theorem vinThreshold_counts {d : Dev} (h : d.hm.rails = false ∨ d.hm.powerFail = true) (above) :
    vinThreshold above d = hmSet (fun h => { h with counting := above }) (if above && d.hm.rails then holdupEnd d else d) := by
  have hc : (d.hm.rails && !d.hm.powerFail) = false := by
    rcases h with h | h <;> simp [h]
  exact if_neg (ne_true_of_eq_false hc)
theorem vinThreshold_ends {d : Dev} (hr : d.hm.rails = true) (hp : d.hm.powerFail = true) :
    vinThreshold true d = hmSet (fun h => { h with counting := true }) (holdupEnd d) := by
  rw [vinThreshold_counts (.inr hp), hr]
  rfl
theorem vinThreshold_regsOnly {d : Dev} (h : d.hm.rails = false ∨ d.hm.powerFail = true) (above) :
    regsOnly (hmSet (fun h => { h with counting := above }) d) (vinThreshold above d) := by
  rw [vinThreshold_counts h]
  split
  · have he := holdupEnd_regsOnly d
    unfold regsOnly hmSet at *
    rw [he]
  · rfl

/-- Settles O7: each of the five commands acts where its condition holds as the sections above say of its effect, and else leaves the
module alone. -/
theorem supplyLossRunsFromHoldUp : Obligations.SupplyLossRunsFromHoldUp := by
  unfold Obligations.SupplyLossRunsFromHoldUp
  refine ⟨fun s hs => ⟨fun mv hh => ?_, fun mv hh => ?_, ?_, fun mv => ?_, ?_⟩, fun s above => ?_⟩
  · rw [answers_of (i := .vinLow mv) rfl hs]
    exact vinLow_spec hh mv
  · rw [answers_of (i := .vinLow mv) rfl hs]
    exact vinLow_again hh mv
  · rw [answers_of (i := .holdupVinRestored) (f := holdupEnd) rfl hs]
    split
    · next hh =>
      obtain ⟨hup, hlive, hregs⟩ := holdupEnd_clears hh
      exact ⟨hup, hlive, hregs, holdupEnd_regsOnly _⟩
    · next hh => exact if_neg hh
  · rw [answers_of (i := .holdupTimeout mv) rfl hs]
    split
    · next hd =>
      rw [holdupTimeout_due hd]
      exact ⟨powerFailSafe_hm _ _, powerFailSafe_mode _ _, fun ho => powerFailSafe_enteredSafe ho _⟩
    · next hd => exact holdupTimeout_idle hd mv
  · rw [answers_of (i := .railsOff) rfl hs]
    split
    · next hd =>
      obtain ⟨hso, ha, hst⟩ := railsDown_pins s.dev
      have hm := memSame_of_memories (railsOff_memories s.dev)
      rw [railsOff_due hd] at hm ⊢
      exact ⟨rfl, rfl, hso, ha, hst, fun p => railsDown_legs p s.dev, hm⟩
    · next hd => exact railsOff_idle hd
  · rw [answers_always (i := .vin9vThreshold above) rfl]
    split
    · next hd =>
      have hr := vinThreshold_regsOnly hd above
      refine ⟨by rw [hr]; rfl, hr, ?_⟩
      split
      · next hc =>
        obtain ⟨rfl, hrails, hup⟩ := hc
        rw [vinThreshold_ends hrails (hd.resolve_left (by simp [hrails]))]
        exact holdupEnd_clears hup
      · next hc =>
        rw [vinThreshold_counts hd]
        split
        · next ha =>
          obtain ⟨rfl, hrails⟩ := Bool.and_eq_true_iff.mp ha
          rw [holdupEnd_idle (by simpa [hrails] using hc)]
          rfl
        · rfl
    · next hd => exact vinThreshold_idle hd above

end Sys2Proof.Machine
end

section
/-!
SUPPORT. The rounds of the health monitor, the process monitors, the end of a condition: O11.
-/
namespace Sys2Proof.Machine

/-! ## A warning (R69) -/

/-- The fields that a warning can write. -/
def warnWrites : List Fld := [Reg.HM_WARN_TEMP, Reg.HM_WARN_VOLT, Reg.HM_WARN_PROC] ++ evCounts
/-- Where the keys of the readings begin. -/
def readingsKey : Nat := fldKey (Reg.HM_TEMP_NOW 0)
theorem warnWrites_below : ∀ f ∈ warnWrites, fldKey f < readingsKey := by decide
/-- The readings lie above all that a warning writes. -/
theorem warnWrites_apart {g : Fld} (hg : readingsKey ≤ fldKey g) : ∀ f ∈ warnWrites, fldKey f ≠ fldKey g :=
  fun f hf => Nat.ne_of_lt (Nat.lt_of_lt_of_le (warnWrites_below f hf) hg)
/-- The bit of HM_WARN set. -/
def warnMarked (bit : Nat) (d : Dev) : Dev :=
  if bit < 8 then setBitF d Reg.HM_WARN_TEMP bit
  else if bit < 22 then setBitF d Reg.HM_WARN_VOLT (bit - 8) else setBitF d Reg.HM_WARN_PROC (bit - 22)
theorem warnMarked_regsBut (bit d) : regsBut [Reg.HM_WARN_TEMP, Reg.HM_WARN_VOLT, Reg.HM_WARN_PROC] d (warnMarked bit d) := by
  unfold warnMarked
  split
  · exact (regsBut_wr _ _ _).mono (by decide)
  · split
    · exact (regsBut_wr _ _ _).mono (by decide)
    · exact (regsBut_wr _ _ _).mono (by decide)
/-- A warning that is met sets its bit, and is recorded where its mark is not set yet. -/
theorem warnOne_met (bit mark reading inside d) : warnOne bit mark reading true inside d =
    (if bitOf (warnMarked bit d).hm.warned mark then warnMarked bit d else
      let e := record Ev.HM_WARNING [.w bit, .w reading] (hmSet (fun h => { h with warned := bitSet h.warned mark }) (warnMarked bit d))
      if flag e Reg.HM_CTRL_WARN_NOTIFY then msix 10 e else e) := if_pos rfl
theorem warnOne_unmet (bit mark reading inside d) : warnOne bit mark reading false inside d =
    (if inside then hmSet (fun h => { h with warned := bitClr h.warned mark }) d else d) := if_neg Bool.false_ne_true
theorem warnOne_regsBut (bit mark reading met inside d) : regsBut warnWrites d (warnOne bit mark reading met inside d) := by
  cases met with
  | false =>
    rw [warnOne_unmet]
    split
    · exact fun _ _ => rd_hmSet _ _ _
    · exact fun _ _ => rfl
  | true =>
    rw [warnOne_met]
    have hm := warnMarked_regsBut bit d
    split
    · exact hm.mono (by decide)
    · extract_lets e
      have he : regsBut warnWrites d e := hm.trans (record_regsBut Ev.HM_WARNING [.w bit, .w reading] (hmSet _ (warnMarked bit d)))
      split
      · exact fun g hg => (rd_msix 10 e g).trans (he g hg)
      · exact he
theorem rd_warnOne {g : Fld} (hg : readingsKey ≤ fldKey g) (bit mark reading met inside d) :
    rd (warnOne bit mark reading met inside d) g = rd d g := warnOne_regsBut _ _ _ _ _ _ g (warnWrites_apart hg)
theorem procWarn_regsBut (n d) : regsBut warnWrites d (procWarn n d) := warnOne_regsBut _ _ _ _ _ d
theorem rd_procWarn {g : Fld} (hg : readingsKey ≤ fldKey g) (n d) : rd (procWarn n d) g = rd d g :=
  procWarn_regsBut n d g (warnWrites_apart hg)

/-! ## A reading (R65) -/

/-- The readings by their distance from that key. -/
theorem readings_key (n) : fldKey (Reg.HM_TEMP_NOW n) = readingsKey + 128 * n ∧ fldKey (Reg.HM_TEMP_PEAK n) = readingsKey + 128 * n + 16 ∧
    fldKey (Reg.HM_VOLT_NOW n) = readingsKey + 128 * n + 8192 ∧ fldKey (Reg.HM_VOLT_MIN n) = readingsKey + 128 * n + 8208 ∧
    fldKey (Reg.HM_PROC_COUNT n) = readingsKey + 128 * n + 16384 := by
  simp only [readingsKey, fldKey, Reg.HM_TEMP_NOW, Reg.HM_TEMP_PEAK, Reg.HM_VOLT_NOW, Reg.HM_VOLT_MIN, Reg.HM_PROC_COUNT]
  omega
/-- A reading with its extreme and its warnings leaves a field apart from them. -/
theorem rd_of_reading {a b g : Fld} {d t : Dev} (h : regsBut ([a, b] ++ warnWrites) d t) (ha : fldKey a ≠ fldKey g) (hb : fldKey b ≠ fldKey g)
    (hw : ∀ f ∈ warnWrites, fldKey f ≠ fldKey g) : rd t g = rd d g := by
  refine h g fun f hf => ?_
  simp only [List.mem_append, List.mem_cons, List.not_mem_nil, or_false] at hf
  rcases hf with (rfl | rfl) | hf
  · exact ha
  · exact hb
  · exact hw f hf
theorem tempRead_regsBut (n v d) : regsBut ([Reg.HM_TEMP_NOW n, Reg.HM_TEMP_PEAK n] ++ warnWrites) d (tempRead n v d) :=
  ((regsBut_wr _ _ _).trans (regsBut_wr _ _ _)).trans (warnOne_regsBut _ _ _ _ _ _)
theorem railRead_regsBut (n v d) : regsBut ([Reg.HM_VOLT_NOW n, Reg.HM_VOLT_MIN n] ++ warnWrites) d (railRead n v d) :=
  (((regsBut_wr _ _ _).trans (regsBut_wr _ _ _)).trans ((warnOne_regsBut _ _ _ _ _ _).trans (warnOne_regsBut _ _ _ _ _ _))).mono (by simp)
theorem rd_tempRead_now (n v d) : rd (tempRead n v d) (Reg.HM_TEMP_NOW n) = trunc 16 v := by
  obtain ⟨hn, hp, -⟩ := readings_key n
  unfold tempRead
  rw [rd_warnOne (by omega), rd_wr_ne _ _ (by omega), rd_wr_same]
  rfl
theorem rd_railRead_now (n v d) : rd (railRead n v d) (Reg.HM_VOLT_NOW n) = trunc 16 v := by
  obtain ⟨-, -, hn, hm, -⟩ := readings_key n
  unfold railRead
  rw [rd_warnOne (by omega), rd_warnOne (by omega), rd_wr_ne _ _ (by omega), rd_wr_same]
  rfl
theorem rd_tempRead_other {m n : Nat} (h : n ≠ m) (v d) : rd (tempRead n v d) (Reg.HM_TEMP_NOW m) = rd d (Reg.HM_TEMP_NOW m) := by
  obtain ⟨hn, hp, -⟩ := readings_key n
  obtain ⟨hm, -⟩ := readings_key m
  exact rd_of_reading (tempRead_regsBut n v d) (by omega) (by omega) (warnWrites_apart (by omega))
theorem rd_railRead_other {m n : Nat} (h : n ≠ m) (v d) : rd (railRead n v d) (Reg.HM_VOLT_NOW m) = rd d (Reg.HM_VOLT_NOW m) := by
  obtain ⟨-, -, hn, hx, -⟩ := readings_key n
  obtain ⟨-, -, hm, -⟩ := readings_key m
  exact rd_of_reading (railRead_regsBut n v d) (by omega) (by omega) (warnWrites_apart (by omega))
/-- A rail's reading leaves the first eight sensors', whose keys lie below the rails'. -/
theorem rd_railRead_temp {m : Nat} (h : m < 8) (n v d) : rd (railRead n v d) (Reg.HM_TEMP_NOW m) = rd d (Reg.HM_TEMP_NOW m) := by
  obtain ⟨-, -, hn, hx, -⟩ := readings_key n
  obtain ⟨hm, -⟩ := readings_key m
  exact rd_of_reading (railRead_regsBut n v d) (by omega) (by omega) (warnWrites_apart (by omega))
/-- A field below the readings that no warning writes. -/
def warnKept (g : Fld) : Prop := fldKey g < readingsKey ∧ ∀ f ∈ warnWrites, fldKey f ≠ fldKey g
theorem rd_tempRead_kept {g : Fld} (hg : warnKept g) (n v d) : rd (tempRead n v d) g = rd d g := by
  obtain ⟨hlt, hw⟩ := hg
  obtain ⟨hn, hp, -⟩ := readings_key n
  exact rd_of_reading (tempRead_regsBut n v d) (by omega) (by omega) hw
theorem rd_railRead_kept {g : Fld} (hg : warnKept g) (n v d) : rd (railRead n v d) g = rd d g := by
  obtain ⟨hlt, hw⟩ := hg
  obtain ⟨-, -, hn, hm, -⟩ := readings_key n
  exact rd_of_reading (railRead_regsBut n v d) (by omega) (by omega) hw

/-! ## A round (R65, R70) -/

/-- The readings of a round with a good reference. -/
def roundRead (temps volts : List Nat) (d : Dev) : Dev :=
  let d := forEach (List.range 14) (fun n d => railRead n (volts.getD n 0) d)
    (forEach (List.range 8) (fun n d => tempRead n (temps.getD n 0) d) d)
  if flag d Reg.HM_CTRL_PROC_EN then forEach (List.range 6) procWarn d else d
theorem hmRound_good (ref temps volts d) :
    hmRound true ref temps volts d = roundRead temps volts (wrB (incW d Reg.HM_STATUS_ROUND) Reg.HM_STATUS_SELF_FAIL false) := rfl
theorem hmRound_bad (ref temps volts d) : hmRound false ref temps volts d =
    (let e := incW d Reg.HM_STATUS_ROUND
     if flag e Reg.HM_STATUS_SELF_FAIL then e else msix 10 (record Ev.HM_SELF_FAIL [.w ref] (wrB e Reg.HM_STATUS_SELF_FAIL true))) := rfl
/-- The monitors at the end of a round write warnings alone. -/
theorem rd_roundRead {g : Fld} (hw : ∀ f ∈ warnWrites, fldKey f ≠ fldKey g) (temps volts d) : rd (roundRead temps volts d) g =
    rd (forEach (List.range 14) (fun n d => railRead n (volts.getD n 0) d)
      (forEach (List.range 8) (fun n d => tempRead n (temps.getD n 0) d) d)) g := by
  unfold roundRead
  extract_lets e
  split
  · exact rd_forEach (fun n _ d => procWarn_regsBut n d g hw) e
  · rfl
theorem rd_roundRead_kept {g : Fld} (hg : warnKept g) (temps volts d) : rd (roundRead temps volts d) g = rd d g := by
  rw [rd_roundRead hg.2, rd_forEach fun n _ d => rd_railRead_kept hg n _ d, rd_forEach fun n _ d => rd_tempRead_kept hg n _ d]
theorem rd_roundRead_temp {n : Nat} (hn : n < 8) (temps volts d) :
    rd (roundRead temps volts d) (Reg.HM_TEMP_NOW n) = trunc 16 (temps.getD n 0) := by
  obtain ⟨hk, -⟩ := readings_key n
  obtain ⟨e, -, he⟩ := forEach_view (v := fun d => rd d (Reg.HM_TEMP_NOW n)) (f := fun n d => tempRead n (temps.getD n 0) d)
    List.nodup_range (List.mem_range.mpr hn) (fun m hm d => rd_tempRead_other hm _ d) d
  rw [rd_roundRead (warnWrites_apart (by omega)), rd_forEach fun m _ d => rd_railRead_temp hn m _ d]
  exact he.trans (rd_tempRead_now _ _ _)
theorem rd_roundRead_volt {n : Nat} (hn : n < 14) (temps volts d) :
    rd (roundRead temps volts d) (Reg.HM_VOLT_NOW n) = trunc 16 (volts.getD n 0) := by
  obtain ⟨-, -, hk, -⟩ := readings_key n
  obtain ⟨e, -, he⟩ := forEach_view (v := fun d => rd d (Reg.HM_VOLT_NOW n)) (f := fun n d => railRead n (volts.getD n 0) d)
    List.nodup_range (List.mem_range.mpr hn) (fun m hm d => rd_railRead_other hm _ d)
    (forEach (List.range 8) (fun n d => tempRead n (temps.getD n 0) d) d)
  rw [rd_roundRead (warnWrites_apart (by omega))]
  exact he.trans (rd_railRead_now _ _ _)
theorem hmRound_good_spec (ref temps volts d) :
    rd (hmRound true ref temps volts d) Reg.HM_STATUS_ROUND = trunc Reg.HM_STATUS_ROUND.w (rd d Reg.HM_STATUS_ROUND + 1) ∧
      flag (hmRound true ref temps volts d) Reg.HM_STATUS_SELF_FAIL = false ∧
      (∀ n < 8, rd (hmRound true ref temps volts d) (Reg.HM_TEMP_NOW n) = trunc 16 (temps.getD n 0)) ∧
      ∀ n < 14, rd (hmRound true ref temps volts d) (Reg.HM_VOLT_NOW n) = trunc 16 (volts.getD n 0) := by
  have hround : warnKept Reg.HM_STATUS_ROUND := ⟨by decide, by decide⟩
  have hself : warnKept Reg.HM_STATUS_SELF_FAIL := ⟨by decide, by decide⟩
  rw [hmRound_good]
  refine ⟨?_, ?_, fun n hn => rd_roundRead_temp hn _ _ _, fun n hn => rd_roundRead_volt hn _ _ _⟩
  · rw [rd_roundRead_kept hround, rd_wrB_ne _ _ (by decide), incW, rd_wr_same]
  · rw [flag, rd_roundRead_kept hself, ← flag, flag_wrB_same _ _ _ (by decide)]
/-- A bad reference is reported once, and the readings stay. -/
theorem hmRound_bad_spec (ref temps volts d) :
    rd (hmRound false ref temps volts d) Reg.HM_STATUS_ROUND = trunc Reg.HM_STATUS_ROUND.w (rd d Reg.HM_STATUS_ROUND + 1) ∧
      flag (hmRound false ref temps volts d) Reg.HM_STATUS_SELF_FAIL = true ∧
      regsBut ([Reg.HM_STATUS_ROUND, Reg.HM_STATUS_SELF_FAIL] ++ evCounts) d (hmRound false ref temps volts d) ∧
      reportsOnly d (hmRound false ref temps volts d) := by
  rw [hmRound_bad]
  extract_lets e
  have hround : rd e Reg.HM_STATUS_ROUND = trunc Reg.HM_STATUS_ROUND.w (rd d Reg.HM_STATUS_ROUND + 1) := rd_wr_same _ _ _
  have hregs : regsBut [Reg.HM_STATUS_ROUND] d e := regsBut_wr _ _ _
  split
  · next hs => exact ⟨hround, hs, hregs.mono (by simp), rfl⟩
  · have hrec := record_regsBut Ev.HM_SELF_FAIL [.w ref] (wrB e Reg.HM_STATUS_SELF_FAIL true)
    refine ⟨?_, ?_, fun g hg => ?_, ?_⟩
    · rw [rd_msix, hrec _ (by decide), rd_wrB_ne _ _ (by decide), hround]
    · rw [flag_msix, flag, hrec _ (by decide), ← flag, flag_wrB_same _ _ _ (by decide)]
    · rw [rd_msix]
      exact ((hregs.trans (regsBut_wr e Reg.HM_STATUS_SELF_FAIL _)).trans hrec) g hg
    · rw [reportsOnly, msix_shape, record_shape]
      rfl

/-! ## The process monitors (R65, R69) -/

/-- A monitor counted and compared. -/
def procEval (counts : List Nat) (n : Nat) (d : Dev) : Dev :=
  let c := counts.getD n 0
  let d := wr d (Reg.HM_PROC_COUNT n) c
  let below := decide (c * 100 < rd d (Reg.HM_PROC_BASE n) * rd d Reg.HM_PLIM_WARN_PCT)
  let runs := if below then min 10 (mgetD d.hm.procRuns n 0 + 1) else 0
  procWarn n (hmSet (fun h => { h with procRuns := mput h.procRuns n runs }) d)
theorem hmProcEval_enabled {d : Dev} (h : flag d Reg.HM_CTRL_PROC_EN = true) (counts) :
    hmProcEval counts d = forEach (List.range 6) (procEval counts) d := if_pos h
theorem hmProcEval_disabled {d : Dev} (h : ¬ flag d Reg.HM_CTRL_PROC_EN = true) (counts) : hmProcEval counts d = d := if_neg h
theorem rd_procEval {g : Fld} (hg : readingsKey ≤ fldKey g) (counts n d) :
    rd (procEval counts n d) g = rd (wr d (Reg.HM_PROC_COUNT n) (counts.getD n 0)) g := (rd_procWarn hg n _).trans (rd_hmSet _ _ _)
theorem rd_procEval_same (counts n d) :
    rd (procEval counts n d) (Reg.HM_PROC_COUNT n) = trunc (Reg.HM_PROC_COUNT n).w (counts.getD n 0) := by
  obtain ⟨-, -, -, -, hn⟩ := readings_key n
  rw [rd_procEval (by omega), rd_wr_same]
theorem rd_procEval_other {m n : Nat} (h : n ≠ m) (counts d) :
    rd (procEval counts n d) (Reg.HM_PROC_COUNT m) = rd d (Reg.HM_PROC_COUNT m) := by
  obtain ⟨-, -, -, -, hn⟩ := readings_key n
  obtain ⟨-, -, -, -, hm⟩ := readings_key m
  rw [rd_procEval (by omega), rd_wr_ne _ _ (by omega)]
theorem rd_procEvals {n : Nat} (hn : n < 6) (counts d) :
    rd (forEach (List.range 6) (procEval counts) d) (Reg.HM_PROC_COUNT n) = trunc (Reg.HM_PROC_COUNT n).w (counts.getD n 0) := by
  obtain ⟨e, -, he⟩ := forEach_view (v := fun d => rd d (Reg.HM_PROC_COUNT n)) (f := procEval counts)
    List.nodup_range (List.mem_range.mpr hn) (fun m hm d => rd_procEval_other hm counts d) d
  exact he.trans (rd_procEval_same _ _ _)

/-! ## The end of a condition (R63, R71) -/

theorem liveCleared_temp {bit : Nat} (h : bit < 8) (d) : liveCleared bit d = clrBitF d Reg.HM_LIVE_TEMP bit := if_pos h
theorem liveCleared_volt (n d) : liveCleared (8 + n) d =
    if n = 0 ∧ flag d Reg.HM_STATUS_HOLDUP = true then d else clrBitF d Reg.HM_LIVE_VOLT n := by
  simp [liveCleared]
/-- A live bit cleared, and nothing else. -/
theorem clrBitF_spec (d f i) : bitF (clrBitF d f i) f i = false ∧ regsBut [f] d (clrBitF d f i) ∧ regsOnly d (clrBitF d f i) :=
  ⟨bitF_clrBitF_same d f i, regsBut_wr _ _ _, wr_regsOnly _ _ _⟩

/-- Settles O11: each command by the section above on its effect. -/
theorem healthMonitorReadings : Obligations.HealthMonitorReadings := by
  unfold Obligations.HealthMonitorReadings
  intro s hs
  refine ⟨fun ref temps volts => ?_, fun ref temps volts => ?_, fun counts => ?_, fun bit hb => ?_, fun n => ?_⟩
  · rw [answers_of (i := .hmRound true ref temps volts) rfl hs]
    exact hmRound_good_spec ref temps volts s.dev
  · rw [answers_of (i := .hmRound false ref temps volts) rfl hs]
    exact hmRound_bad_spec ref temps volts s.dev
  · rw [answers_of (i := .hmProcEval counts) rfl hs]
    split
    · next he =>
      rw [hmProcEval_enabled he]
      exact fun n hn => rd_procEvals hn counts s.dev
    · next he => exact hmProcEval_disabled he counts
  · rw [answers_of (i := .hmLiveCleared bit) rfl hs, liveCleared_temp hb]
    exact clrBitF_spec _ _ _
  · rw [answers_of (i := .hmLiveCleared (8 + n)) rfl hs, liveCleared_volt]
    split
    · rfl
    · exact clrBitF_spec _ _ _

end Sys2Proof.Machine
end

section
/-!
SUPPORT. The endpoint starts again, D3hot, Bus Master Enable: O15.
-/
namespace Sys2Proof.Machine

/-! ## Fields set to their Reset values -/

theorem foldl_rst_regsBut (l : List Fld) (d) : regsBut l d (l.foldl (fun d f => wr d f f.rst) d) := by
  intro g hg
  induction l generalizing d with
  | nil => rfl
  | cons f r ih =>
    exact (ih (wr d f f.rst) fun x hx => hg x (List.mem_cons_of_mem f hx)).trans (rd_wr_ne _ _ (hg f List.mem_cons_self))
/-- A field of the list reads its Reset value where no other field of the list has its place. -/
theorem rd_foldl_rst {l : List Fld} {g : Fld} (hg : g ∈ l) (hl : ∀ f ∈ l, fldKey f = fldKey g → f = g) (d) :
    rd (l.foldl (fun d f => wr d f f.rst) d) g = trunc g.w g.rst := by
  induction l generalizing d with
  | nil => cases hg
  | cons f r ih =>
    by_cases hr : g ∈ r
    · exact ih hr (fun x hx => hl x (List.mem_cons_of_mem f hx)) _
    · obtain rfl : g = f := (List.mem_cons.mp hg).resolve_right hr
      have hap : ∀ x ∈ r, fldKey x ≠ fldKey g := fun x hx he => hr (hl x (List.mem_cons_of_mem g hx) he ▸ hx)
      exact (foldl_rst_regsBut r (wr d g g.rst) g hap).trans (rd_wr_same _ _ _)
/-- What one element of a list establishes and the others keep holds after all of them. -/
theorem forEach_reaches {α β : Type} {v : Dev → β} {b : β} {f : α → Dev → Dev} {l : List α} {x : α} (hx : x ∈ l) (hf : ∀ d, v (f x d) = b)
    (h : ∀ y ∈ l, y ≠ x → ∀ d, v (f y d) = v d) (d) : v (forEach l f d) = b := by
  induction l generalizing d with
  | nil => cases hx
  | cons y r ih =>
    have hr : ∀ z ∈ r, z ≠ x → ∀ d, v (f z d) = v d := fun z hz => h z (List.mem_cons_of_mem y hz)
    by_cases hm : x ∈ r
    · exact ih hm hr (f y d)
    · obtain rfl : x = y := (List.mem_cons.mp hx).resolve_right hm
      have hk : v (forEach r f (f x d)) = v (f x d) := forEach_keeps (fun z hz => hr z hz fun hzx => hm (hzx ▸ hz)) _
      exact hk.trans (hf d)
theorem mget_filter {α : Type} {p : Nat → Bool} {k : Nat} (h : p k = true) (m : NMap α) : mget (m.filter fun e => p e.1) k = mget m k := by
  induction m with
  | nil => rfl
  | cons e r ih =>
    by_cases hk : e.1 = k
    · simp [mget, hk, h]
    · by_cases hp : p e.1 = true
      · simp [mget, hp, hk, ih]
      · simp [mget, hp, hk, ih]

/-! ## A ring pair (R334) -/

/-- The set-up fields of a submission ring and of a completion ring. -/
def sqFlds (n : Nat) : List Fld :=
  [Reg.HI_SQ_BASE_LO_BASE n, Reg.HI_SQ_BASE_HI n, Reg.HI_SQ_CFG_EN n, Reg.HI_SQ_CFG_CQ n, Reg.HI_SQ_CFG_SIZE n, Reg.HI_SQ_BUF_LO_BASE n,
    Reg.HI_SQ_BUF_HI n, Reg.HI_SQ_BUF_SIZE n, Reg.HI_SQ_STATE_STOPPED n, Reg.HI_SQ_STATE_TAIL n, Reg.HI_SQ_STATE_HEAD n]
def cqFlds (n : Nat) : List Fld :=
  [Reg.HI_CQ_BASE_LO_BASE n, Reg.HI_CQ_BASE_HI n, Reg.HI_CQ_CFG_EN n, Reg.HI_CQ_CFG_IMOD n, Reg.HI_CQ_CFG_SIZE n, Reg.HI_CQ_STATE_PHASE n,
    Reg.HI_CQ_STATE_HEAD n, Reg.HI_CQ_STATE_TAIL n]
def ringFlds (n : Nat) : List Fld := sqFlds n ++ cqFlds n
/-- A ring pair as the endpoint's reset leaves it. -/
def ringDown (n : Nat) (d : Dev) : Dev := ringRest n (sqDisable n d)
theorem ringDown_eq (n d) : ringDown n d = (ringFlds n).foldl (fun d f => wr d f f.rst) (sqDisable n d) := by
  unfold ringDown ringRest ringFlds
  rw [List.foldl_append]
  rfl
theorem ringDown_regsBut (n d) : regsBut (ringFlds n) d (ringDown n d) := by
  rw [ringDown_eq]
  have hs : regsBut [Reg.HI_SQ_CFG_EN n] d (sqDisable n d) := fun g hg => (rd_hiSet _ _ _).trans (regsBut_wr d _ _ g hg)
  exact (hs.trans (foldl_rst_regsBut (ringFlds n) _)).mono (by simp [ringFlds, sqFlds])
/-- The two enables of a ring pair. -/
def ringEns (k : Nat) : List Fld := [Reg.HI_SQ_CFG_EN k, Reg.HI_CQ_CFG_EN k]
theorem ringEns_own : ∀ k < 8, ∀ g ∈ ringEns k, g ∈ ringFlds k ∧ trunc g.w g.rst = 0 ∧ ∀ f ∈ ringFlds k, fldKey f = fldKey g → f = g := by
  decide
theorem ringEns_apart : ∀ n < 8, ∀ k < 8, n ≠ k → ∀ g ∈ ringEns k, ∀ f ∈ ringFlds n, fldKey f ≠ fldKey g := by decide
/-- The fields of HI_CTRL and HI_LINK that the reset of the endpoint returns to their Reset values. -/
def linkFlds : List Fld := [Reg.HI_CTRL_NOTICE_EN, Reg.HI_CTRL_NOTICE_CQ, Reg.HI_LINK_BME, Reg.HI_LINK_WIDTH, Reg.HI_LINK_SPEED]
/-- A field that the reset of the rings and the link leaves. -/
def endpointKept (g : Fld) : Prop := (∀ n < 8, ∀ f ∈ ringFlds n, fldKey f ≠ fldKey g) ∧ ∀ f ∈ linkFlds, fldKey f ≠ fldKey g

/-! ## The endpoint (R331, R332) -/

/-- All rings down. -/
def ringsDown (d : Dev) : Dev := forEach (List.range 8) ringDown d
/-- Nothing waits for the rings, and no vector is set up. -/
def waitsNone (d : Dev) : Dev :=
  { hiSet (fun h => { h with
      held := [], unread := [], rejects := [], writes := [], rr := 7, imodAt := [], imodHeld := 0, rung := [], timed := [], d3 := false }) d with
    msix := Msix.rest }
theorem rd_waitsNone (d g) : rd (waitsNone d) g = rd d g := (rfl)
/-- Rings and link down. -/
def endpointDown (d : Dev) : Dev := waitsNone (linkFlds.foldl (fun d f => wr d f f.rst) (ringsDown d))
theorem pcieRest_eq (d) : pcieRest d = windowsRest (endpointDown d) := rfl
theorem rd_regs_filter {p : Nat → Bool} {g : Fld} (hp : p (fldKey g) = true) (d : Dev) :
    rd { d with regs := d.regs.filter fun e => p e.1 } g = rd d g := by
  rw [rd, mgetD, mget_filter hp]
  rfl
theorem rd_windowsRest {g : Fld} (hb : blockOf (fldKey g / 32) ≠ 18) (hc : fldKey Reg.HI_EVW_CURSOR ≠ fldKey g) (d) :
    rd (windowsRest d) g = rd d g := by
  unfold windowsRest
  rw [rd_wr_ne _ _ hc, rd_hiSet]
  exact rd_regs_filter (p := fun k => blockOf (k / 32) != 18) (by simpa using hb) d
theorem rd_ringDown_en {k : Nat} (hk : k < 8) {g : Fld} (hg : g ∈ ringEns k) (d) : rd (ringDown k d) g = 0 := by
  obtain ⟨hm, hz, hown⟩ := ringEns_own k hk g hg
  rw [ringDown_eq, rd_foldl_rst hm hown, hz]
theorem rd_ringsDown_en {k : Nat} (hk : k < 8) {g : Fld} (hg : g ∈ ringEns k) (d) : rd (ringsDown d) g = 0 :=
  forEach_reaches (v := fun d => rd d g) (f := ringDown) (List.mem_range.mpr hk) (rd_ringDown_en hk hg)
    (fun n hn hne d => ringDown_regsBut n d g (ringEns_apart n (List.mem_range.mp hn) k hk hne g hg)) d
theorem rd_ringsDown_kept {g : Fld} (hg : endpointKept g) (d) : rd (ringsDown d) g = rd d g :=
  rd_forEach (fun n hn d => ringDown_regsBut n d g (hg.1 n (List.mem_range.mp hn))) d
theorem ringEns_link : ∀ k < 8, ∀ g ∈ ringEns k, ∀ f ∈ linkFlds, fldKey f ≠ fldKey g := by decide
theorem ringEns_window : ∀ k < 8, ∀ g ∈ ringEns k, blockOf (fldKey g / 32) ≠ 18 ∧ fldKey Reg.HI_EVW_CURSOR ≠ fldKey g := by decide
theorem rd_pcieRest_en {k : Nat} (hk : k < 8) {g : Fld} (hg : g ∈ ringEns k) (d) : rd (pcieRest d) g = 0 := by
  obtain ⟨hb, hc⟩ := ringEns_window k hk g hg
  rw [pcieRest_eq, rd_windowsRest hb hc, endpointDown, rd_waitsNone, foldl_rst_regsBut linkFlds _ g (ringEns_link k hk g hg), rd_ringsDown_en hk hg]
theorem rd_pcieRest_kept {g : Fld} (hg : endpointKept g) (hb : blockOf (fldKey g / 32) ≠ 18) (hc : fldKey Reg.HI_EVW_CURSOR ≠ fldKey g) (d) :
    rd (pcieRest d) g = rd d g := by
  rw [pcieRest_eq, rd_windowsRest hb hc, endpointDown, rd_waitsNone, foldl_rst_regsBut linkFlds _ g hg.2, rd_ringsDown_kept hg]
theorem ringDown_hi (n d) : (ringDown n d).hi.journal = d.hi.journal ∧ (ringDown n d).hi.cmds = d.hi.cmds := ⟨rfl, rfl⟩
theorem pcieRest_hi (d) : (pcieRest d).hi.journal = d.hi.journal ∧ (pcieRest d).hi.cmds = d.hi.cmds := by
  have hj : (ringsDown d).hi.journal = d.hi.journal := forEach_keeps (v := fun d => d.hi.journal) (fun n _ d => (ringDown_hi n d).1) d
  have hc : (ringsDown d).hi.cmds = d.hi.cmds := forEach_keeps (v := fun d => d.hi.cmds) (fun n _ d => (ringDown_hi n d).2) d
  exact ⟨hj, hc⟩
theorem pcieRest_rests (d) : (pcieRest d).msix = Msix.rest ∧ (pcieRest d).hi.held = [] ∧ (pcieRest d).hi.d3 = false := ⟨rfl, rfl, rfl⟩

/-! ## The handshake of a crossing (R514, R515) -/

theorem crossingResync_shape (c side n d) :
    crossingResync c side n d = { d with regs := (crossingResync c side n d).regs, ev := (crossingResync c side n d).ev } := by
  unfold crossingResync
  rw [record_shape]
  rfl
theorem crossingResync_regsBut (c side n d) :
    regsBut ([Reg.CKR_RST_CNT_HANDSHAKES, Reg.CKR_RST_CNT_DROPPED] ++ evCounts) d (crossingResync c side n d) :=
  ((regsBut_wr _ _ _).trans (regsBut_wr _ _ _)).trans (record_regsBut _ _ _)
theorem rd_crossingResync_handshakes (c side n d) : rd (crossingResync c side n d) Reg.CKR_RST_CNT_HANDSHAKES =
    satAdd Reg.CKR_RST_CNT_HANDSHAKES.w (rd d Reg.CKR_RST_CNT_HANDSHAKES) 1 := by
  unfold crossingResync
  rw [record_regsBut _ _ _ _ (by decide), rd_incBy_ne _ _ (by decide), rd_inc_same]
theorem ringEns_crossing : ∀ k < 8, ∀ g ∈ ringEns k,
    ∀ f ∈ [Reg.CKR_RST_CNT_HANDSHAKES, Reg.CKR_RST_CNT_DROPPED] ++ evCounts, fldKey f ≠ fldKey g := by decide
theorem flag_pcieReset_en {k : Nat} (hk : k < 8) {g : Fld} (hg : g ∈ ringEns k) (n d) : flag (pcieReset n d) g = false := by
  rw [flag, pcieReset, crossingResync_regsBut _ _ _ _ g (ringEns_crossing k hk g hg), rd_pcieRest_en hk hg]
  rfl
theorem endpointKept_mode : endpointKept Reg.MCTL_MODE_MODE := ⟨by decide, by decide⟩
theorem endpointKept_handshakes : endpointKept Reg.CKR_RST_CNT_HANDSHAKES := ⟨by decide, by decide⟩
theorem pcieReset_endpointRests (n d) : endpointRests d (pcieReset n d) := by
  obtain ⟨hmsix, hheld, hd3⟩ := pcieRest_rests d
  obtain ⟨hj, hc⟩ := pcieRest_hi d
  refine ⟨fun k hk => ⟨flag_pcieReset_en hk (by simp [ringEns]) n d, flag_pcieReset_en hk (by simp [ringEns]) n d⟩, ?_, ?_, ?_, ?_, ?_, ?_, ?_,
    memSame_of_memories (pcieReset_memories n d)⟩
  · rw [pcieReset, crossingResync_shape]
    exact hmsix
  · rw [pcieReset, crossingResync_shape]
    exact hheld
  · rw [pcieReset, crossingResync_shape]
    exact hd3
  · rw [pcieReset, rd_crossingResync_handshakes, rd_pcieRest_kept endpointKept_handshakes (by decide) (by decide)]
  · rw [modeOf, pcieReset, crossingResync_regsBut _ _ _ _ _ (by decide), rd_pcieRest_kept endpointKept_mode (by decide) (by decide), modeOf]
  · rw [pcieReset, crossingResync_shape]
    exact hj
  · rw [pcieReset, crossingResync_shape]
    exact hc
theorem d3Return_d3 {d : Dev} (h : d.hi.d3 = true) (n) : d3Return n d = pcieReset n d := if_pos h
theorem d3Return_awake {d : Dev} (h : d.hi.d3 = false) (n) : d3Return n d = d := if_neg (ne_true_of_eq_false h)

/-! ## Bus Master Enable (R331) -/

/-- A field below the completion rings. -/
def belowRings (g : Fld) : Prop := fldKey g < fldKey (Reg.HI_CQ_BASE_LO_BASE 0)
theorem cqState_apart {g : Fld} (hg : belowRings g) (q) :
    fldKey (Reg.HI_CQ_STATE_TAIL q) ≠ fldKey g ∧ fldKey (Reg.HI_CQ_STATE_PHASE q) ≠ fldKey g := by
  simp only [belowRings, fldKey, Reg.HI_CQ_BASE_LO_BASE, Reg.HI_CQ_STATE_TAIL, Reg.HI_CQ_STATE_PHASE] at *
  omega
theorem rd_cqMessage (q d g) : rd (cqMessage q d) g = rd d g := by
  unfold cqMessage
  extract_lets imod due
  split <;> simp
theorem rd_cqWrite {g : Fld} (hg : belowRings g) (q c d) : rd (cqWrite q c d) g = rd d g := by
  obtain ⟨ht, hp⟩ := cqState_apart hg q
  unfold cqWrite
  extract_lets i ph next c1 d1 d2 d3
  have h1 : rd d1 g = rd d g := (rd_wr_ne _ _ ht).trans (rd_emit _ _ _)
  have h2 : rd d2 g = rd d1 g := by
    unfold d2
    split
    · exact rd_wr_ne _ _ hp
    · rfl
  have h3 : rd d3 g = rd d g := (rd_hiSet _ _ _).trans (h2.trans h1)
  split
  · exact h3
  · exact (rd_cqMessage _ _ _).trans h3
theorem rd_cqFlushList {g : Fld} (hg : belowRings g) (l kept d) : rd (cqFlushList l kept d) g = rd d g := by
  induction l generalizing kept d with
  | nil => exact rd_hiSet _ _ _
  | cons e r ih =>
    rw [cqFlushList]
    split
    · exact (ih _ _).trans (rd_cqWrite hg _ _ _)
    · exact ih _ _
theorem rd_cqFlush {g : Fld} (hg : belowRings g) (d) : rd (cqFlush d) g = rd d g := by
  unfold cqFlush
  extract_lets e
  refine (rd_cqFlushList hg _ _ e).trans ?_
  unfold e
  split
  · exact (rd_forEach (fun w _ d => rd_emit _ _ _) _).trans (rd_hiSet _ _ _)
  · rfl
theorem bmeChange_spec (v d) : flag (bmeChange v d) Reg.HI_LINK_BME = v ∧ modeOf (bmeChange v d) = modeOf d ∧ memSame d (bmeChange v d) := by
  have hb : fldKey Reg.HI_LINK_BME < fldKey (Reg.HI_CQ_BASE_LO_BASE 0) := by decide
  have hm : fldKey Reg.MCTL_MODE_MODE < fldKey (Reg.HI_CQ_BASE_LO_BASE 0) := by decide
  refine ⟨?_, ?_, memSame_of_memories (bmeChange_memories v d)⟩
  · rw [bmeChange, flag, rd_cqFlush hb, ← flag, flag_wrB_same _ _ _ (by decide)]
  · rw [bmeChange, modeOf, rd_cqFlush hm, rd_wrB_ne _ _ (by decide), modeOf]

/-- Settles O15: the three resets are one, and the other two commands write one flag. -/
theorem endpointRestarts : Obligations.EndpointRestarts := by
  unfold Obligations.EndpointRestarts
  intro s hs
  refine ⟨fun n => ?_, fun n => ?_, fun n hd => ?_, fun n hd => ?_, ?_, fun v => ?_⟩
  · rw [answers_of (i := .pcieReset n) rfl hs]
    exact pcieReset_endpointRests n s.dev
  · rw [answers_of (i := .functionLevelReset n) rfl hs]
    exact pcieReset_endpointRests n s.dev
  · rw [answers_of (i := .d3hotReturn n) rfl hs, d3Return_d3 hd]
    exact pcieReset_endpointRests n s.dev
  · rw [answers_of (i := .d3hotReturn n) rfl hs]
    exact d3Return_awake hd n
  · rw [answers_of (i := .d3hotEntry) (f := d3Entry) rfl hs]
    rfl
  · rw [answers_of (i := .busMasterEnableChange v) rfl hs]
    exact bmeChange_spec v s.dev

end Sys2Proof.Machine
end

section
/-!
SUPPORT. An alarm whose reaction writes a ring that no module has: the refutation of O12.
-/
namespace Sys2Proof.Machine

/-! ## Registers are kept by address, and no hypothesis of O12 bounds a ring's number -/

/-- The number of a completion ring whose tail would lie on HM_LIVE.TEMP. -/
def aliasRing : Nat := 0x47E0
theorem aliasRing_tail : fldKey (Reg.HI_CQ_STATE_TAIL aliasRing) = fldKey Reg.HM_LIVE_TEMP := by decide
/-- The registers of a module in RUN with Bus Master Enable, a recovered journal, submission ring 0 with its completion ring, and sensors
0, 1 and 2 over their alarm thresholds. -/
def aliasRegs : List (Fld × Nat) :=
  [(Reg.MCTL_MODE_MODE, mRUN), (Reg.MCTL_BOOT_STEP, 11), (Reg.HI_STATUS_RECOVERED, 1), (Reg.HI_LINK_BME, 1), (Reg.HI_SQ_CFG_EN 0, 1),
    (Reg.HI_CQ_CFG_EN 0, 1), (Reg.HI_CQ_CFG_EN aliasRing, 1), (Reg.HM_LIVE_TEMP, 7)]
/-- A command of ring 0 that the entry into SAFE ends. -/
def aliasCmd : HiCmd :=
  { seq := 5, ring := 0, desc := ⟨7, 1, 0, 0, 0, 0, 0, []⟩, payload := [], partner := false, accepted := true, phase := .waiting, status := 0
    result := [], again := false, lost := false }
/-- A completion of no submission ring, which asks for no message. -/
def aliasCpl : Completion := ⟨0, 0, 1, 0, 0, 0xFF, 0, 0, true⟩
/-- A completion waits for the ring that does not exist; the end of the command writes out what waits. -/
def aliasDev : Dev :=
  { aliasRegs.foldl (fun d x => wr d x.1 x.2) Dev.rest with
    hi := { HiUnit.rest with cmds := [aliasCmd], held := [(aliasRing, aliasCpl)] } }
theorem aliasDev_running : Running ⟨aliasDev, []⟩ := rfl
theorem aliasDev_safeOpen : safeOpen aliasDev := ⟨by decide, by decide, rfl⟩
/-- The entry into SAFE for sensor 3 ends the command and writes the completion that waits: HM_LIVE.TEMP, 15 with bit 3, goes on as a tail to 16. -/
theorem tempAlarm_aliasDev : bitF (settle (tempAlarm 3 aliasDev)) Reg.HM_LIVE_TEMP 3 = false := by decide +kernel

/-- Refutes O12: it bounds neither the rings of the completions held nor those of the commands, and a completion held for ring 0x47E0, whose
tail lies on HM_LIVE.TEMP, clears the live bit in the entry into SAFE. A bound of 8 on the rings would exclude the counterexample. -/
theorem not_alarmReactions : ¬ Obligations.AlarmReactions := by
  unfold Obligations.AlarmReactions
  rintro ⟨h, -⟩
  obtain ⟨htemp, -, -⟩ := h ⟨aliasDev, []⟩ aliasDev_running aliasDev_safeOpen
  have ha := htemp 3 (by decide) (by decide) (by decide)
  rw [answers_of (i := .tempAlarm 3) (f := fun d => settle (tempAlarm 3 d)) rfl aliasDev_running] at ha
  obtain ⟨-, hlive, -⟩ := ha
  exact Bool.false_ne_true (tempAlarm_aliasDev.symm.trans hlive)

end Sys2Proof.Machine
end

section
/-!
SUPPORT. The boot parameters, the pin of SVC_PERMIT and the module resets: what a reset keeps and what starts again.
-/
namespace Sys2Proof.Machine

/-! ## Writes of the boot parameters (R78) -/

theorem bpSet_stopped {d : Dev} (h : d.hm.powerFail = true) (f) : bpSet f d = d := by rw [bpSet, if_pos h]
theorem bpSet_open {d : Dev} (h : d.hm.powerFail = false) (f) : bpSet f d = { d with bp := f d.bp } := by rw [bpSet, if_neg (by simp [h])]
theorem opSecondsSave_spec (d : Dev) : if d.hm.powerFail = true then opSecondsSave d = d
    else opSecondsSave d = { d with bp := { d.bp with opSeconds := rd d Reg.MCTL_OP_SECONDS } } := by
  split
  · next h => exact bpSet_stopped h _
  · next h => exact bpSet_open (by simpa using h) _

/-! ## SVC_PERMIT (R90, R91) -/

theorem permitChange_regs (v d) : (permitChange v d).regs = (wrB d Reg.MCTL_PINS_SVC_PERMIT v).regs := by
  unfold permitChange
  dsimp only
  split <;> rfl
theorem modeOf_permitPin (v d) : modeOf (wrB d Reg.MCTL_PINS_SVC_PERMIT v) = modeOf d := rd_wrB_ne d v (by decide)
theorem permitChange_lost {d : Dev} {v : Bool} (h : v = false ∧ modeOf d = mHOLD) : (permitChange v d).mode.permitLost = true := by
  obtain ⟨rfl, hm⟩ := h
  simp [permitChange, modeIs, modeOf_permitPin, hm]
theorem permitChange_kept {d : Dev} {v : Bool} (h : ¬ (v = false ∧ modeOf d = mHOLD)) : (permitChange v d).mode = d.mode := by
  unfold permitChange
  dsimp only
  rw [if_neg (by simpa [modeIs, modeOf_permitPin] using h)]
  rfl

/-- Settles O10: the pin's write and the mark of its loss in HOLD, and the one write of the boot parameters. -/
theorem permitAndOperatingSeconds : Obligations.PermitAndOperatingSeconds := by
  unfold Obligations.PermitAndOperatingSeconds
  intro s hs
  refine ⟨fun v => ?_, ?_⟩
  · rw [answers_of (i := .svcPermitChange v) rfl hs]
    refine ⟨?_, fun g hg => ?_, permitChange_lost, permitChange_kept, memSame_of_memories (permitChange_memories v s.dev)⟩
    · rw [flag, rd_regs (permitChange_regs v s.dev)]
      exact flag_wrB_same s.dev Reg.MCTL_PINS_SVC_PERMIT v (by decide)
    · rw [rd_regs (permitChange_regs v s.dev)]
      exact rd_wrB_ne s.dev v (hg _ (List.mem_singleton_self _))
  · rw [answers_of (i := .opSecondsSave) rfl hs]
    exact opSecondsSave_spec s.dev

/-! ## What a module reset leaves of the registers (R76, R77) -/

theorem mget_filter_out {α : Type} {p : Nat → Bool} {k : Nat} (h : p k = false) (m : NMap α) : mget (m.filter fun e => p e.1) k = none := by
  induction m with
  | nil => rfl
  | cons e r ih =>
    by_cases hp : p e.1 = true
    · have hk : e.1 ≠ k := fun hk => by simp [hk, h] at hp
      simp [mget, hp, hk, ih]
    · simp [hp, ih]
/-- A reset counted by its kind. -/
def resetCount (kind : Nat) (d : Dev) : Dev :=
  if kind = 1 then inc d Reg.MCTL_RESET_CAUSE_EXT_COUNT else if kind = 2 then inc d Reg.MCTL_RESET_CAUSE_CMD_COUNT else d
/-- A hold-up that goes on, shown again. -/
def holdupShown (d : Dev) : Dev :=
  if flag d Reg.HM_STATUS_HOLDUP then setBitF (setBitF d Reg.HM_LIVE_VOLT 0) Reg.HM_ALARM_VOLT 0 else d
/-- What a module reset starts from: the registers and the stores that it keeps (R77). -/
structure ResetBase (kind : Nat) (d n : Dev) : Prop where
  regs : n.regs = d.regs.filter fun e => keptOver (kind != 0) e.1
  keeps : resetKeeps d n
  bp : n.bp = d.bp
  posrst : n.mode.posrst = !(kind != 0)
  rails : kind = 0 → n.hm.rails = true
  cmds : n.hi.cmds = []
/-- A module reset is that, with the reset's kind and count and a hold-up that goes on. -/
theorem moduleReset_eq (kind d) :
    ∃ n, ResetBase kind d n ∧ moduleReset kind d = holdupShown (resetCount kind (wr n Reg.MCTL_RESET_CAUSE_KIND kind)) := by
  refine ⟨_, ?_, rfl⟩
  exact ⟨rfl, ⟨rfl, rfl, rfl, rfl, rfl, rfl⟩, rfl, rfl, fun h => by subst h; rfl, rfl⟩
theorem holdupShown_regsOnly (d) : regsOnly d (holdupShown d) := by
  unfold holdupShown
  split <;> rfl
theorem resetCount_regsOnly (kind d) : regsOnly d (resetCount kind d) := by
  unfold resetCount
  split_ifs <;> rfl
/-- What is no register is as the reset's base has it. -/
theorem ResetBase.of_regsOnly {kind : Nat} {d n t : Dev} (h : ResetBase kind d n) (ht : regsOnly n t) :
    resetKeeps d t ∧ t.bp = d.bp ∧ t.mode.posrst = !(kind != 0) ∧ (kind = 0 → t.hm.rails = true) ∧ t.hi.cmds = [] := by
  obtain ⟨-, hk, hb, hp, hr, hc⟩ := h
  rw [ht]
  exact ⟨hk, hb, hp, hr, hc⟩
theorem moduleReset_keeps (kind d) : resetKeeps d (moduleReset kind d) ∧ (moduleReset kind d).bp = d.bp ∧
    (moduleReset kind d).mode.posrst = !(kind != 0) ∧ (kind = 0 → (moduleReset kind d).hm.rails = true) ∧
    (moduleReset kind d).hi.cmds = [] := by
  obtain ⟨n, hn, he⟩ := moduleReset_eq kind d
  rw [he]
  exact hn.of_regsOnly (((wr_regsOnly n _ kind).trans (resetCount_regsOnly kind _)).trans (holdupShown_regsOnly _))
theorem rd_holdupShown {g : Fld} (hl : fldKey Reg.HM_LIVE_VOLT ≠ fldKey g) (ha : fldKey Reg.HM_ALARM_VOLT ≠ fldKey g) (d) :
    rd (holdupShown d) g = rd d g := by
  unfold holdupShown
  split
  · simp only [setBitF, rd_wr_ne _ _ hl, rd_wr_ne _ _ ha]
  · rfl
theorem rd_resetCount {g : Fld} (he : fldKey Reg.MCTL_RESET_CAUSE_EXT_COUNT ≠ fldKey g) (hc : fldKey Reg.MCTL_RESET_CAUSE_CMD_COUNT ≠ fldKey g)
    (kind d) : rd (resetCount kind d) g = rd d g := by
  unfold resetCount
  split_ifs
  · exact rd_inc_ne _ he
  · exact rd_inc_ne _ hc
  · rfl
theorem rd_base_kept {kind : Nat} {d n : Dev} (h : ResetBase kind d n) {g : Fld} (hk : keptOver (kind != 0) (fldKey g) = true) :
    rd n g = rd d g := (rd_regs h.regs g).trans (rd_regs_filter (p := keptOver (kind != 0)) hk d)
theorem rd_base_lost {kind : Nat} {d n : Dev} (h : ResetBase kind d n) {g : Fld} (hk : keptOver (kind != 0) (fldKey g) = false) :
    rd n g = g.rst := by
  rw [rd, h.regs, mgetD, mget_filter_out hk]
  rfl
/-- The fields that a module reset writes besides those that it restores. -/
def resetWrites : List Fld :=
  [Reg.HM_LIVE_VOLT, Reg.HM_ALARM_VOLT, Reg.MCTL_RESET_CAUSE_EXT_COUNT, Reg.MCTL_RESET_CAUSE_CMD_COUNT, Reg.MCTL_RESET_CAUSE_KIND]
theorem rd_moduleReset {g : Fld} (hg : ∀ f ∈ resetWrites, fldKey f ≠ fldKey g) (kind d) :
    rd (moduleReset kind d) g = if keptOver (kind != 0) (fldKey g) = true then rd d g else g.rst := by
  obtain ⟨n, hn, he⟩ := moduleReset_eq kind d
  simp only [resetWrites, List.forall_mem_cons] at hg
  obtain ⟨hl, ha, hx, hc, hk, -⟩ := hg
  rw [he, rd_holdupShown hl ha, rd_resetCount hx hc, rd_wr_ne _ _ hk]
  split
  · next h => exact rd_base_kept hn h
  · next h => exact rd_base_lost hn (by simpa using h)
theorem rd_moduleReset_kind {kind : Nat} (hk : kind < 4) (d) : rd (moduleReset kind d) Reg.MCTL_RESET_CAUSE_KIND = kind := by
  obtain ⟨n, -, he⟩ := moduleReset_eq kind d
  rw [he, rd_holdupShown (by decide) (by decide), rd_resetCount (by decide) (by decide), rd_wr_same]
  exact trunc_of_lt hk
theorem modeOf_moduleReset (kind d) : modeOf (moduleReset kind d) = mBOOT := by
  rw [modeOf, rd_moduleReset (by decide)]
  have hk : keptOver (kind != 0) (fldKey Reg.MCTL_MODE_MODE) = false := by
    cases kind != 0 <;> decide +kernel
  rw [hk]
  rfl
theorem resetCounts_kept : ∀ g ∈ [Reg.MCTL_RESET_CAUSE_EXT_COUNT, Reg.MCTL_RESET_CAUSE_CMD_COUNT, Reg.MCTL_SAFE_CAUSE_CAUSE,
    Reg.MCTL_SAFE_CAUSE_DETAIL], keptOver true (fldKey g) = true := by decide +kernel
theorem rd_moduleReset_extCount (d) : rd (moduleReset 1 d) Reg.MCTL_RESET_CAUSE_EXT_COUNT =
    satAdd 8 (rd d Reg.MCTL_RESET_CAUSE_EXT_COUNT) 1 ∧
    rd (moduleReset 1 d) Reg.MCTL_RESET_CAUSE_CMD_COUNT = rd d Reg.MCTL_RESET_CAUSE_CMD_COUNT := by
  obtain ⟨n, hn, he⟩ := moduleReset_eq 1 d
  have hcount : ∀ x, resetCount 1 x = inc x Reg.MCTL_RESET_CAUSE_EXT_COUNT := fun _ => rfl
  rw [he, rd_holdupShown (by decide) (by decide), rd_holdupShown (by decide) (by decide), hcount]
  refine ⟨?_, ?_⟩
  · rw [rd_inc_same, rd_wr_ne _ _ (by decide), rd_base_kept hn (resetCounts_kept _ (by simp))]
    rfl
  · rw [rd_inc_ne _ (by decide), rd_wr_ne _ _ (by decide), rd_base_kept hn (resetCounts_kept _ (by simp))]
theorem rd_moduleReset_cmdCount (d) : rd (moduleReset 2 d) Reg.MCTL_RESET_CAUSE_CMD_COUNT =
    satAdd 8 (rd d Reg.MCTL_RESET_CAUSE_CMD_COUNT) 1 := by
  obtain ⟨n, hn, he⟩ := moduleReset_eq 2 d
  have hcount : ∀ x, resetCount 2 x = inc x Reg.MCTL_RESET_CAUSE_CMD_COUNT := fun _ => rfl
  rw [he, rd_holdupShown (by decide) (by decide), hcount, rd_inc_same, rd_wr_ne _ _ (by decide),
    rd_base_kept hn (resetCounts_kept _ (by simp))]
  rfl

/-! ## What the resets keep (R77) -/

theorem byte_filter_sdram (m : Memory) (a) :
    Memory.byte (m.filter fun c => decide (deckSdram ≤ c.1)) a = if deckSdram ≤ a then Memory.byte m a else 0 := by
  split
  · next h => rw [Memory.byte, mgetD, mget_filter (p := fun k => decide (deckSdram ≤ k)) (by simpa using h)]; rfl
  · next h => rw [Memory.byte, mgetD, mget_filter_out (p := fun k => decide (deckSdram ≤ k)) (by simpa using h)]; rfl
theorem moduleReset_mem (kind d) : (moduleReset kind d).mem = if kind = 0 then [] else d.mem.filter fun c => decide (deckSdram ≤ c.1) :=
  congrArg Prod.fst (moduleReset_memories kind d)
/-- EXT and CMD keep the SAFE cause and Deck SDRAM. -/
theorem moduleReset_warm {kind : Nat} (h : kind ≠ 0) (d) : warmKeeps d (moduleReset kind d) := by
  have hw : (kind != 0) = true := by simpa using h
  refine ⟨?_, ?_, fun a => ?_⟩
  · rw [rd_moduleReset (by decide), if_pos (hw ▸ resetCounts_kept _ (by simp))]
  · rw [rd_moduleReset (by decide), if_pos (hw ▸ resetCounts_kept _ (by simp))]
  · rw [moduleReset_mem, if_neg h, byte_filter_sdram]
theorem powerOnReset_spec {d : Dev} (h : d.hm.counting = true) :
    modeOf (powerOnReset d) = mBOOT ∧ rd (powerOnReset d) Reg.MCTL_BOOT_STEP = 1 ∧ rd (powerOnReset d) Reg.MCTL_RESET_CAUSE_KIND = 0 ∧
      (powerOnReset d).hm.rails = true ∧ (powerOnReset d).mem = [] ∧ (powerOnReset d).mode.posrst = true ∧ (powerOnReset d).bp = d.bp ∧
      resetKeeps d (powerOnReset d) := by
  obtain ⟨hk, hb, hp, hr, -⟩ := moduleReset_keeps 0 d
  rw [powerOnReset, if_pos h]
  refine ⟨?_, rd_wr_same _ _ _, ?_, hr rfl, moduleReset_mem 0 d, hp, hb, hk⟩
  · rw [modeOf, rd_wr_ne _ _ (by decide)]
    exact modeOf_moduleReset 0 d
  · rw [rd_wr_ne _ _ (by decide), rd_moduleReset_kind (by decide)]
theorem externalReset_spec {d : Dev} (h : d.mode.posrst = false) :
    modeOf (externalReset d) = mBOOT ∧ rd (externalReset d) Reg.MCTL_RESET_CAUSE_KIND = 1 ∧
      rd (externalReset d) Reg.MCTL_RESET_CAUSE_EXT_COUNT = satAdd 8 (rd d Reg.MCTL_RESET_CAUSE_EXT_COUNT) 1 ∧
      rd (externalReset d) Reg.MCTL_RESET_CAUSE_CMD_COUNT = rd d Reg.MCTL_RESET_CAUSE_CMD_COUNT ∧ (externalReset d).bp = d.bp ∧
      resetKeeps d (externalReset d) ∧ warmKeeps d (externalReset d) := by
  obtain ⟨hk, hb, -, -, -⟩ := moduleReset_keeps 1 d
  obtain ⟨hx, hc⟩ := rd_moduleReset_extCount d
  rw [externalReset, if_neg (by simp [h])]
  exact ⟨modeOf_moduleReset 1 d, rd_moduleReset_kind (by decide) d, hx, hc, hb, hk, moduleReset_warm (by decide) d⟩
/-- A command reset notes what it asks of the next boot, then resets. -/
theorem commandReset_eq {d : Dev} (hp : d.mode.posrst = false) (hf : d.hm.powerFail = false) (service) :
    commandReset service d = moduleReset 2 { d with bp := { d.bp with serviceNext := d.bp.serviceNext || service } } := by
  rw [commandReset, if_neg (by simp [hp, hf]), bpSet_open hf]
theorem commandReset_held {d : Dev} (h : d.mode.posrst = true ∨ d.hm.powerFail = true) (service) : commandReset service d = d := by
  rw [commandReset, if_pos h]
theorem commandReset_spec {d : Dev} (hp : d.mode.posrst = false) (hf : d.hm.powerFail = false) (service) :
    modeOf (commandReset service d) = mBOOT ∧ rd (commandReset service d) Reg.MCTL_RESET_CAUSE_KIND = 2 ∧
      rd (commandReset service d) Reg.MCTL_RESET_CAUSE_CMD_COUNT = satAdd 8 (rd d Reg.MCTL_RESET_CAUSE_CMD_COUNT) 1 ∧
      (commandReset service d).bp = { d.bp with serviceNext := d.bp.serviceNext || service } ∧
      resetKeeps d (commandReset service d) ∧ warmKeeps d (commandReset service d) := by
  rw [commandReset_eq hp hf]
  generalize hb : { d.bp with serviceNext := d.bp.serviceNext || service } = b
  obtain ⟨hk, hbp, -, -, -⟩ := moduleReset_keeps 2 { d with bp := b }
  exact ⟨modeOf_moduleReset 2 _, rd_moduleReset_kind (by decide) _, rd_moduleReset_cmdCount _, hbp, hk,
    moduleReset_warm (by decide) { d with bp := b }⟩

/-- Settles O8: the four commands are one reset of three kinds, of which the registers and stores kept are said once. -/
theorem moduleResets : Obligations.ModuleResets := by
  unfold Obligations.ModuleResets
  intro s
  refine ⟨fun hc => ?_, fun hc => ?_, fun hs hp => ?_, fun hs hp => ⟨?_, ?_⟩, fun hs hp => ⟨?_, fun hf => ⟨?_, ?_⟩⟩⟩
  · rw [answers_always (i := .powerOnReset) rfl]
    exact powerOnReset_spec hc
  · rw [answers_always (i := .powerOnReset) rfl, powerOnReset, if_neg (by simp [hc])]
  · rw [answers_of (i := .externalReset) rfl hs, externalReset, if_pos hp]
  · rw [answers_of (i := .mctlResetCmd) rfl hs, commandReset_held hp]
  · rw [answers_of (i := .mctlResetService) rfl hs, commandReset_held hp]
  · rw [answers_of (i := .externalReset) rfl hs]
    exact externalReset_spec hp
  · rw [answers_of (i := .mctlResetCmd) rfl hs]
    simpa only [Bool.or_false] using commandReset_spec hp hf false
  · rw [answers_of (i := .mctlResetService) rfl hs]
    simpa only [Bool.or_true] using commandReset_spec hp hf true

end Sys2Proof.Machine
end

section
/-!
SUPPORT. The end of a host command: what the journal and the commands hold after it, and what it leaves alone.
-/
namespace Sys2Proof.Machine

/-! ## What a completion leaves (R342, R343, R360) -/

/-- All but registers, recorder, messages and rings: of the host interface the commands and the journal alone. -/
def answerView (d : Dev) : Dev :=
  { d with regs := [], ev := EvUnit.rest, out := [], msix := Msix.rest, once := []
           hi := { HiUnit.rest with cmds := d.hi.cmds, journal := d.hi.journal } }
theorem answerView_cmds {d t : Dev} (h : answerView t = answerView d) : t.hi.cmds = d.hi.cmds := congrArg (·.hi.cmds) h
theorem answerView_journal {d t : Dev} (h : answerView t = answerView d) : t.hi.journal = d.hi.journal := congrArg (·.hi.journal) h
@[simp] theorem answerView_ite (c : Prop) [Decidable c] (a b : Dev) :
    answerView (if c then a else b) = if c then answerView a else answerView b := apply_ite answerView c a b
@[simp] theorem forEach_answerView {α : Type} (l : List α) (f : α → Dev → Dev) (d : Dev) (h : ∀ x d, answerView (f x d) = answerView d) :
    answerView (forEach l f d) = answerView d := forEach_keeps (v := answerView) (fun x _ d => h x d) d
@[simp] theorem wr_answerView (d f v) : answerView (wr d f v) = answerView d := (rfl)
@[simp] theorem wrB_answerView (d f b) : answerView (wrB d f b) = answerView d := (rfl)
@[simp] theorem wrSat_answerView (d f v) : answerView (wrSat d f v) = answerView d := (rfl)
@[simp] theorem emit_answerView (o d) : answerView (emit o d) = answerView d := (rfl)
@[simp] theorem msix_answerView (v d) : answerView (msix v d) = answerView d := by rw [msix_shape]; rfl
@[simp] theorem record_answerView (c l d) : answerView (record c l d) = answerView d := by rw [record_shape]; rfl
@[simp] theorem openReview_answerView (d) : answerView (openReview d) = answerView d := (rfl)
theorem hiSet_answerView {f : HiUnit → HiUnit} (hc : ∀ h, (f h).cmds = h.cmds) (hj : ∀ h, (f h).journal = h.journal) (d) :
    answerView (hiSet f d) = answerView d := by simp [answerView, hiSet, hc, hj]
@[simp] theorem cqMessage_answerView (q d) : answerView (cqMessage q d) = answerView d := by
  simp [cqMessage, hiSet_answerView]
@[simp] theorem cqWrite_answerView (q c d) : answerView (cqWrite q c d) = answerView d := by
  simp [cqWrite, hiSet_answerView]
@[simp] theorem cqFlushList_answerView (l kept d) : answerView (cqFlushList l kept d) = answerView d := by
  induction l generalizing kept d with
  | nil => simp [cqFlushList, hiSet_answerView]
  | cons e r ih => simp [cqFlushList, ih]
@[simp] theorem resultWrite_answerView (addr out d) : answerView (resultWrite addr out d) = answerView d := by
  simp [resultWrite, hiSet_answerView]
@[simp] theorem cqFlush_answerView (d) : answerView (cqFlush d) = answerView d := by simp [cqFlush, hiSet_answerView]
@[simp] theorem cqPut_answerView (c d) : answerView (cqPut c d) = answerView d := by simp [cqPut, hiSet_answerView]
@[simp] theorem rejectsFlush_answerView (d) : answerView (rejectsFlush d) = answerView d := by simp [rejectsFlush, hiSet_answerView]
@[simp] theorem jReview_answerView (d) : answerView (jReview d) = answerView d := by simp [jReview]
@[simp] theorem resultStore_answerView (s r d) : answerView (resultStore s r d) = answerView d := by
  simp [resultStore, hiSet_answerView]
@[simp] theorem cmdDone_answerView (c status r d) : answerView (cmdDone c status r d) = answerView d := by simp [cmdDone]
@[simp] theorem acceptPut_answerView (v d) : answerView (acceptPut v d) = answerView d := by simp [acceptPut]
@[simp] theorem hiRoleReview_answerView (d) : answerView (hiRoleReview d) = answerView d := by simp [hiRoleReview]

/-! ## The journal and the commands (R343, R349) -/

/-- All but registers, recorder, messages and the host interface. -/
def hostView (d : Dev) : Dev := { answerView d with hi := HiUnit.rest }
theorem hostView_of_answerView {d t : Dev} (h : answerView t = answerView d) : hostView t = hostView d := by rw [hostView, h]; rfl
theorem answersOnly_of_hostView {d t : Dev} (h : hostView t = hostView d) : answersOnly d t := by
  cases d
  cases t
  simpa [answersOnly, hostView, answerView] using h
/-- The journal with an entry at a sequence number, the slot's old one gone. -/
def jWritten (s : Nat) (e : JEntry) (d : Dev) : Dev :=
  hiSet (fun h => { h with journal := mput (if jSlots ≤ s then mdel h.journal (s - jSlots) else h.journal) s e }) d
theorem jPut_stopped {d : Dev} (h : d.hm.powerFail = true) (s e) : jPut s e d = d := by rw [jPut, if_pos h]
theorem jPut_open {d : Dev} (h : d.hm.powerFail = false) (s e) : answerView (jPut s e d) = answerView (jWritten s e d) := by
  rw [jPut, if_neg (by simp [h]), jReview_answerView, answerView_ite, wr_answerView, ite_self]
  rfl
theorem jPut_entry {d : Dev} (h : d.hm.powerFail = false) (s e) : mget (jPut s e d).hi.journal s = some e :=
  (congrArg (mget · s) (answerView_journal (jPut_open h s e))).trans (mget_mput_same _ _ _)
theorem jPut_cmds (s e d) : (jPut s e d).hi.cmds = d.hi.cmds := by
  by_cases h : d.hm.powerFail = true
  · rw [jPut_stopped h]
  · exact answerView_cmds (d := jWritten s e d) (jPut_open (by simpa using h) s e)
theorem jPut_hostView (s e d) : hostView (jPut s e d) = hostView d := by
  by_cases h : d.hm.powerFail = true
  · rw [jPut_stopped h]
  · exact hostView_of_answerView (d := jWritten s e d) (jPut_open (by simpa using h) s e)
theorem jAppend_answerView (e d) : answerView (jAppend e d) = answerView (jPut (jHead d) e d) := by simp [jAppend]
theorem jAppend_entry {d : Dev} (h : d.hm.powerFail = false) (e) : mget (jAppend e d).hi.journal (jHead d) = some e := by
  rw [answerView_journal (jAppend_answerView e d)]
  exact jPut_entry h _ e
theorem jAppend_cmds (e d) : (jAppend e d).hi.cmds = d.hi.cmds := (answerView_cmds (jAppend_answerView e d)).trans (jPut_cmds _ e d)
theorem jAppend_hostView (e d) : hostView (jAppend e d) = hostView d :=
  (hostView_of_answerView (jAppend_answerView e d)).trans (jPut_hostView _ e d)

/-! ## A command becomes final (R343, R349, R351) -/

theorem cmdLeave_hostView (s d) : hostView (cmdLeave s d) = hostView d := (rfl)
theorem cmdLeave_journal (s d) : (cmdLeave s d).hi.journal = d.hi.journal := (rfl)
theorem cmdLeave_cmds (s d) : (cmdLeave s d).hi.cmds = d.hi.cmds.filter fun x => !(x.seq == s) := (rfl)
theorem cmdOf_cmdLeave (s d) : cmdOf (cmdLeave s d) s = none := by simp [cmdOf, cmdLeave_cmds]
theorem cmdOf_of_cmds {d t : Dev} (h : t.hi.cmds = d.hi.cmds) (s) : cmdOf t s = cmdOf d s := by rw [cmdOf, h]; rfl
/-- The FINAL entry of a command. -/
def finalEntry (c : HiCmd) (status : Nat) (r : List Byte) : JEntry :=
  ⟨2, c.desc.id, status, 0, c.ring, c.partner, c.seq, r.length, r.take 48⟩
theorem cmdFinal_first {d : Dev} {c : HiCmd} (h : cmdOf d c.seq = some c) (hp : d.hm.powerFail = false) (ha : c.again = false) (st r) :
    cmdFinal c.seq st r d = cmdDone c st r (cmdLeave c.seq (resultStore c.seq r (jAppend (finalEntry c st r) d))) := by
  simp only [cmdFinal, h, hp, ha]
  rfl
theorem cmdFinal_finalAt {d : Dev} {c : HiCmd} (h : cmdOf d c.seq = some c) (hp : d.hm.powerFail = false) (ha : c.again = false) (st r) :
    finalAt (cmdFinal c.seq st r d) (jHead d) c st r := by
  rw [cmdFinal_first h hp ha]
  refine ⟨?_, ?_⟩
  · rw [answerView_journal (cmdDone_answerView _ _ _ _), cmdLeave_journal, answerView_journal (resultStore_answerView _ _ _)]
    exact jAppend_entry hp _
  · rw [cmdOf_of_cmds (answerView_cmds (cmdDone_answerView _ _ _ _))]
    exact cmdOf_cmdLeave _ _
theorem cmdFinal_hostView (s st r d) : hostView (cmdFinal s st r d) = hostView d := by
  unfold cmdFinal
  split
  · rfl
  · split_ifs
    · rfl
    · exact cmdLeave_hostView s d
    · exact ((hostView_of_answerView (cmdDone_answerView _ _ _ _)).trans (cmdLeave_hostView s _)).trans
        ((hostView_of_answerView (resultStore_answerView _ _ _)).trans (jAppend_hostView _ d))
theorem cmdFinal_answersOnly (s st r d) : answersOnly d (cmdFinal s st r d) := answersOnly_of_hostView (cmdFinal_hostView s st r d)
/-- While entries can be written, a final command is gone from the commands and the others stay. -/
theorem cmdFinal_cmds {d : Dev} (hp : d.hm.powerFail = false) (s st r) :
    (cmdFinal s st r d).hi.cmds = d.hi.cmds.filter fun x => !(x.seq == s) := by
  unfold cmdFinal
  split
  · next h =>
    refine (List.filter_eq_self.mpr fun x hx => ?_).symm
    simpa using List.find?_eq_none.mp h x hx
  · rw [if_neg (by simp [hp])]
    split
    · rfl
    · rw [answerView_cmds (cmdDone_answerView _ _ _ _), cmdLeave_cmds, answerView_cmds (resultStore_answerView _ _ _), jAppend_cmds]
theorem cmdOf_cmdFinal_same {d : Dev} (hp : d.hm.powerFail = false) (s st r) : cmdOf (cmdFinal s st r d) s = none := by
  simp [cmdOf, cmdFinal_cmds hp]

end Sys2Proof.Machine
end

section
/-!
SUPPORT. Host commands whose turn has come: handed to their class, answered at once, ended in SAFE, or agreed at a control exchange.
-/
namespace Sys2Proof.Machine

/-! ## A command's turn (R347, R348, R352, R354) -/

/-- A command changed in place is found changed. -/
theorem cmdOf_cmdSet {d : Dev} {s : Nat} {c : HiCmd} (h : cmdOf d s = some c) {f : HiCmd → HiCmd} (hf : ∀ c, (f c).seq = c.seq) :
    cmdOf (cmdSet s f d) s = some (f c) := by
  have hp : (fun x : HiCmd => (if x.seq == s then f x else x).seq == s) = fun x => x.seq == s := by
    funext x
    split
    · rw [hf]
    · rfl
  have hs : (c.seq == s) = true := List.find?_some (p := fun x : HiCmd => x.seq == s) h
  have hx : (d.hi.cmds.find? fun x => x.seq == s) = some c := h
  simp only [cmdOf, cmdSet, hiSet, mapIf, List.find?_map, Function.comp_def, hp, hx, Option.map_some, hs, if_true]
theorem cmdToClass_phaseOnly {d : Dev} {c : HiCmd} (h : cmdOf d c.seq = some c) (k) : phaseOnly d c (.toClass k) (cmdToClass c.seq k d) :=
  ⟨cmdOf_cmdSet h (f := fun c => { c with phase := .toClass k }) fun _ => rfl, rfl⟩
theorem dueOf_found {d : Dev} {c : HiCmd} (h : dueOf d c) : cmdOf d c.seq = some c := h.1
theorem dueOf_again {d : Dev} {c : HiCmd} (h : dueOf d c) : c.again = false := h.2.2.1
theorem dueOf_powerFail {d : Dev} {c : HiCmd} (h : dueOf d c) : d.hm.powerFail = false := h.2.2.2.2.1
/-- SAFE ends a command that it does not perform (R93). -/
theorem cmdRun_inSafe {d : Dev} {c : HiCmd} {p : Desc → Bool} (f : HiCmd → Dev → Dev) (h : dueOf d c) (hm : modeOf d = mSAFE)
    (hx : safePermits c.desc = false) (hp : p c.desc = true) : cmdRun c.seq p f d = cmdFinal c.seq St.IN_SAFE [] d := by
  obtain ⟨hc, hr, -, hh, hpf, hl, hpay⟩ := h
  have hsafe : modeIs d mSAFE = true := by simp [modeIs, hm]
  have hmine : (if cmdLocal c.desc = true then !c.partner || c.lost else executing d || true) = true := by
    split at hl
    · next hloc => rcases hl with hl | hl <;> simp [hloc, hl]
    · next hloc => simp [hloc]
  have hp2 : (c.desc.op != 4 && c.payload.length != c.desc.payLen) = false := by
    by_cases h4 : c.desc.op = 4
    · simp [h4]
    · simp [hpay h4]
  simp only [cmdRun, hc, hp, hr, hh, hpf, hp2, hx, hmine, hsafe]
  simp

section
variable {s : State} {c : HiCmd} {i : Instr} {p : Desc → Bool} {f : HiCmd → Dev → Dev}

/-- A command performed by its own function when its turn has come. -/
theorem answers_turn (hx : exec i s = actPowered (cmdRun c.seq p f) s) (hs : Running s) (ht : turnOf s.dev c) (hp : p c.desc = true)
    {P : Dev → Prop} : Answers i s P ↔ P (f c s.dev) := by
  rw [answers_of hx hs, cmdRun_turn f ht hp]
/-- A command that becomes an input of a class. -/
theorem answers_toClass (hx : exec i s = actPowered (cmdRun c.seq p f) s) (hs : Running s) (hd : dueOf s.dev c) (hm : modeOf s.dev ≠ mSAFE)
    {k : Nat} (hf : f c s.dev = cmdToClass c.seq k s.dev) (hp : p c.desc = true) : Answers i s (phaseOnly s.dev c (.toClass k)) := by
  rw [answers_turn hx hs ⟨hd, .inl hm⟩ hp, hf]
  exact cmdToClass_phaseOnly (dueOf_found hd) k
/-- A command that SAFE ends. -/
theorem answers_inSafe (hx : exec i s = actPowered (cmdRun c.seq p f) s) (hs : Running s) (hd : dueOf s.dev c) (hm : modeOf s.dev = mSAFE)
    (hn : safePermits c.desc = false) (hp : p c.desc = true) :
    Answers i s fun t => finalAt t (jHead s.dev) c St.IN_SAFE [] ∧ answersOnly s.dev t := by
  rw [answers_of hx hs, cmdRun_inSafe f hd hm hn hp]
  exact ⟨cmdFinal_finalAt (dueOf_found hd) (dueOf_powerFail hd) (dueOf_again hd) _ _, cmdFinal_answersOnly _ _ _ _⟩
/-- A command that ends at once with a status and a result. -/
theorem answers_final (hx : exec i s = actPowered (cmdRun c.seq p f) s) (hs : Running s) (ht : turnOf s.dev c) (hp : p c.desc = true)
    {st : Nat} {r : List Byte} (hf : f c s.dev = cmdFinal c.seq st r s.dev) :
    Answers i s fun t => finalAt t (jHead s.dev) c st r ∧ answersOnly s.dev t := by
  obtain ⟨hd, -⟩ := id ht
  rw [answers_turn hx hs ht hp, hf]
  exact ⟨cmdFinal_finalAt (dueOf_found hd) (dueOf_powerFail hd) (dueOf_again hd) _ _, cmdFinal_answersOnly _ _ _ _⟩

end

/-! ## Commands of a class (R90, R93) -/

theorem safePermits_op {x : Desc} {n : Nat} (h : x.op = n) (hn : n ∉ [0x0E, 0x08, 0x0D, 0x0B, 0x0C, 0x0F, 0x01]) : safePermits x = false := by
  simp only [List.mem_cons, not_or] at hn
  simp [safePermits, h, hn]
theorem safePermits_mode {x : Desc} {n : Nat} (h : isOp 1 n x = true) (hn : n ≠ 6 ∧ n ≠ 7) : safePermits x = false := by
  simp only [isOp, Bool.and_eq_true, beq_iff_eq] at h
  simp [safePermits, h, hn]

/-- Settles O36: twelve commands of three rows, each handed to its class, and each ended by SAFE. -/
theorem commandsReachTheirClass : Obligations.CommandsReachTheirClass := by
  unfold Obligations.CommandsReachTheirClass
  intro s c hs hd
  refine ⟨fun hm => ?_, fun hm => ?_⟩
  · refine ⟨fun h => ?_, fun h => ?_, fun h => ?_, fun h => ?_, fun h => ?_, fun h => ?_, fun h => ?_, fun h => ?_, fun h => ?_, fun h => ?_,
      fun h => ?_, fun h => ?_⟩
    · exact answers_toClass (f := varsToClass) rfl hs hd hm rfl (by simp [h])
    · exact answers_toClass (f := varsToClass) rfl hs hd hm rfl (by simp [h])
    · exact answers_toClass (f := varsToClass) rfl hs hd hm rfl (by simp [h])
    · exact answers_toClass (f := varsToClass) rfl hs hd hm rfl (by simp [h])
    · exact answers_toClass (f := modeToClass) rfl hs hd hm rfl h
    · exact answers_toClass (f := modeToClass) rfl hs hd hm rfl h
    · exact answers_toClass (f := modeToClass) rfl hs hd hm rfl h
    · exact answers_toClass (f := modeToClass) rfl hs hd hm rfl h
    · exact answers_toClass (f := modeToClass) rfl hs hd hm rfl h
    · exact answers_toClass (f := modeToClass) rfl hs hd hm rfl h
    · exact answers_toClass (f := modeToClass) rfl hs hd hm rfl h
    · exact answers_toClass (f := armToClass) rfl hs hd hm rfl (by simp [h])
  · refine ⟨fun h => ?_, fun h => ?_, fun h => ?_, fun h => ?_, fun h => ?_, fun h => ?_, fun h => ?_, fun h => ?_, fun h => ?_, fun h => ?_,
      fun h => ?_, fun h => ?_⟩
    · exact answers_inSafe (f := varsToClass) rfl hs hd hm (safePermits_op h (by decide)) (by simp [h])
    · exact answers_inSafe (f := varsToClass) rfl hs hd hm (safePermits_op h (by decide)) (by simp [h])
    · exact answers_inSafe (f := varsToClass) rfl hs hd hm (safePermits_op h (by decide)) (by simp [h])
    · exact answers_inSafe (f := varsToClass) rfl hs hd hm (safePermits_op h (by decide)) (by simp [h])
    · exact answers_inSafe (f := modeToClass) rfl hs hd hm (safePermits_mode h (by decide)) h
    · exact answers_inSafe (f := modeToClass) rfl hs hd hm (safePermits_mode h (by decide)) h
    · exact answers_inSafe (f := modeToClass) rfl hs hd hm (safePermits_mode h (by decide)) h
    · exact answers_inSafe (f := modeToClass) rfl hs hd hm (safePermits_mode h (by decide)) h
    · exact answers_inSafe (f := modeToClass) rfl hs hd hm (safePermits_mode h (by decide)) h
    · exact answers_inSafe (f := modeToClass) rfl hs hd hm (safePermits_mode h (by decide)) h
    · exact answers_inSafe (f := modeToClass) rfl hs hd hm (safePermits_mode h (by decide)) h
    · exact answers_inSafe (f := armToClass) rfl hs hd hm (safePermits_op h (by decide)) (by simp [h])

/-! ## Commands that answer at once (R76, R77, R89, R349, R352, R476) -/

/-- The START entry of a command. -/
def startEntry (c : HiCmd) : JEntry := ⟨1, c.desc.id, c.desc.op, 0, c.ring, c.partner, c.seq, 0, []⟩
theorem cmdStart_found {d : Dev} {c : HiCmd} (h : cmdOf d c.seq = some c) : cmdStart c.seq d = jAppend (startEntry c) d := by
  simp only [cmdStart, h, startEntry]
theorem rd_moduleReset_bootStep (kind d) : rd (moduleReset kind d) Reg.MCTL_BOOT_STEP = 0 := by
  have hk : keptOver (kind != 0) (fldKey Reg.MCTL_BOOT_STEP) = false := by
    cases kind != 0 <;> decide +kernel
  rw [rd_moduleReset (by decide), hk]
  rfl
/-- A reset that a host command asks for, with the journal it leaves. -/
theorem resetRun_spec {d : Dev} {c : HiCmd} (hc : cmdOf d c.seq = some c) (hp : d.mode.posrst = false) (hf : d.hm.powerFail = false) (service) :
    modeOf (resetRun service c d) = mBOOT ∧ rd (resetRun service c d) Reg.MCTL_BOOT_STEP = 0 ∧
      rd (resetRun service c d) Reg.MCTL_RESET_CAUSE_KIND = 2 ∧
      rd (resetRun service c d) Reg.MCTL_RESET_CAUSE_CMD_COUNT =
        satAdd Reg.MCTL_RESET_CAUSE_CMD_COUNT.w (rd d Reg.MCTL_RESET_CAUSE_CMD_COUNT) 1 ∧
      startAt (resetRun service c d) (jHead d) c ∧ (resetRun service c d).hi.cmds = [] ∧
      (resetRun service c d).bp.serviceNext = (d.bp.serviceNext || service) ∧ (resetRun service c d).store = d.store := by
  rw [resetRun, cmdStart_found hc]
  have hv : hostView (jAppend (startEntry c) d) = hostView d := jAppend_hostView _ d
  have hj : mget (jAppend (startEntry c) d).hi.journal (jHead d) = some (startEntry c) := jAppend_entry hf _
  have hcount : rd (jAppend (startEntry c) d) Reg.MCTL_RESET_CAUSE_CMD_COUNT = rd d Reg.MCTL_RESET_CAUSE_CMD_COUNT :=
    rd_of_control (jAppend_control _ d) (by decide)
  have hp' : (jAppend (startEntry c) d).mode.posrst = false := (congrArg (·.mode.posrst) hv).trans hp
  have hf' : (jAppend (startEntry c) d).hm.powerFail = false := (congrArg (·.hm.powerFail) hv).trans hf
  have hb : (jAppend (startEntry c) d).bp = d.bp := congrArg (·.bp) hv
  have hst : (jAppend (startEntry c) d).store = d.store := congrArg (·.store) hv
  generalize jAppend (startEntry c) d = x at *
  obtain ⟨hm, hk, hn, hbp, ⟨hs, hjr, -⟩, -⟩ := commandReset_spec hp' hf' service
  refine ⟨hm, ?_, hk, by rw [hn, hcount]; rfl, ?_, ?_, by rw [hbp, hb], by rw [hs, hst]⟩
  · rw [commandReset_eq hp' hf', rd_moduleReset_bootStep]
  · rw [startAt, hjr, hj]
    rfl
  · obtain ⟨-, -, -, -, hcmds⟩ := moduleReset_keeps 2 { x with bp := { x.bp with serviceNext := x.bp.serviceNext || service } }
    rw [commandReset_eq hp' hf', hcmds]
theorem journalQuery_eq (c d) : journalQuery c d = cmdFinal c.seq St.OK ((List.range (argN c.desc 8 2)).flatMap fun i =>
    ((jEntry d (argN c.desc 0 8 + i)).map jBytes).getD (List.replicate 64 0)) d := by
  have h : ∀ s, (match jEntry d s with
      | none => List.replicate 64 0
      | some e => jBytes e) = ((jEntry d s).map jBytes).getD (List.replicate 64 0) := fun s => by cases jEntry d s <;> rfl
  simp only [← h]
  rfl
theorem checkpointRead_eq (c d) :
    checkpointRead c d = cmdFinal c.seq St.OK (((cpNamed d).map cpHeader).getD (List.replicate 32 0)) d := by
  unfold checkpointRead
  cases cpNamed d <;> rfl
theorem leBytes_length (n v) : (leBytes n v).length = n := by
  induction n generalizing v with
  | zero => rfl
  | succ n ih => simp [leBytes, ih]
theorem settingsResult_length (lo hi n free bad) : (settingsResult lo hi n free bad).length = 24 := by
  simp [settingsResult, leBytes_length]
/-- A STORE_SETTINGS that only validates takes three free values for its result and ends. -/
theorem settingsRun_validate {c : HiCmd} (h : bitOf (argB c.desc 0) 0 = false) (d) : ∃ r, r.length = 24 ∧
    settingsRun c d = cmdFinal c.seq (if firstBad (cmdRecords c) = 0xFFFFFFFF then St.OK else St.SETTINGS_RANGE) r
      { d with free := (nextFree (nextFree (nextFree d))).free } := by
  refine ⟨_, settingsResult_length (freeNat d) (freeNat (nextFree d)) (cmdRecords c).length (freeNat (nextFree (nextFree d)))
    (firstBad (cmdRecords c)), ?_⟩
  unfold settingsRun settingsNone
  by_cases hb : firstBad (cmdRecords c) = 0xFFFFFFFF
  · simp only [hb, h]
    rfl
  · simp only [ne_eq, hb, not_false_eq_true, if_true, if_false]
    rfl

/-- Settles O38: the resets through the journal entry that they keep, the other commands as ends with their result. -/
theorem commandsAnswerAtOnce : Obligations.CommandsAnswerAtOnce := by
  unfold Obligations.CommandsAnswerAtOnce
  refine ⟨fun s c hs ht hp => ⟨fun h => ?_, fun h => ?_⟩, fun s c hs ht => ⟨fun h => ?_, fun h => ?_, fun h => ?_, fun h hv => ?_⟩⟩
  · obtain ⟨hd, -⟩ := id ht
    rw [answers_turn (f := resetRun false) rfl hs ht h]
    simpa only [Bool.or_false] using resetRun_spec (dueOf_found hd) hp (dueOf_powerFail hd) false
  · obtain ⟨hd, -⟩ := id ht
    rw [answers_turn (f := resetRun true) rfl hs ht h]
    simpa only [Bool.or_true] using resetRun_spec (dueOf_found hd) hp (dueOf_powerFail hd) true
  · exact answers_final (f := readVars) rfl hs ht (by simp [h]) rfl
  · exact answers_final (f := journalQuery) rfl hs ht (by simp [h]) (journalQuery_eq c s.dev)
  · exact answers_final (f := checkpointRead) rfl hs ht h (checkpointRead_eq c s.dev)
  · obtain ⟨hd, -⟩ := id ht
    obtain ⟨r, hr, he⟩ := settingsRun_validate hv s.dev
    rw [answers_turn (f := settingsRun) rfl hs ht (by simp [h, hv]), he]
    generalize hx : ({ s.dev with free := (nextFree (nextFree (nextFree s.dev))).free } : Dev) = x
    have hf : ∀ st, (cmdFinal c.seq st r x).free = x.free := fun st => congrArg (·.free) (cmdFinal_hostView c.seq st r x)
    refine ⟨⟨r, hr, ?_⟩, ?_⟩
    · have hc : cmdOf x c.seq = some c := by
        rw [← hx]
        exact dueOf_found hd
      have hp : x.hm.powerFail = false := by
        rw [← hx]
        exact dueOf_powerFail hd
      have hh : jHead s.dev = jHead x := by
        rw [← hx]
        rfl
      rw [hh]
      exact cmdFinal_finalAt hc hp (dueOf_again hd) _ _
    · rw [hf, ← show x = { s.dev with free := x.free } by rw [← hx]]
      exact cmdFinal_answersOnly _ _ _ _
end Sys2Proof.Machine
end

section
/-!
SUPPORT. CONTROL_EXCHANGE with one open command: what it hands on, what completes at once, and an entry into SAFE that it asks for.
-/
namespace Sys2Proof.Machine

/-! ## What the first effects of SAFE leave of commands, mode and supply (R92, R93) -/

/-- The host interface, module control and the supply. -/
def waitView (d : Dev) : HiUnit × ModeUnit × HmUnit := (d.hi, d.mode, d.hm)
@[simp] theorem waitView_ite (c : Prop) [Decidable c] (a b : Dev) : waitView (if c then a else b) = if c then waitView a else waitView b :=
  apply_ite waitView c a b
@[simp] theorem forEach_waitView {α : Type} (l : List α) (f : α → Dev → Dev) (d : Dev) (h : ∀ x d, waitView (f x d) = waitView d) :
    waitView (forEach l f d) = waitView d := forEach_keeps (v := waitView) (fun x _ d => h x d) d
@[simp] theorem wr_waitView (d f v) : waitView (wr d f v) = waitView d := (rfl)
@[simp] theorem wrB_waitView (d f b) : waitView (wrB d f b) = waitView d := (rfl)
@[simp] theorem inc_waitView (d f) : waitView (inc d f) = waitView d := (rfl)
@[simp] theorem incBy_waitView (d f k) : waitView (incBy d f k) = waitView d := (rfl)
@[simp] theorem emit_waitView (o d) : waitView (emit o d) = waitView d := (rfl)
@[simp] theorem gbSet_waitView (f d) : waitView (gbSet f d) = waitView d := (rfl)
@[simp] theorem teSet_waitView (f d) : waitView (teSet f d) = waitView d := (rfl)
@[simp] theorem cwSet_waitView (n f d) : waitView (cwSet n f d) = waitView d := (rfl)
@[simp] theorem evSet_waitView (f d) : waitView (evSet f d) = waitView d := (rfl)
@[simp] theorem ev_waitView (d : Dev) (e) : waitView { d with ev := e } = waitView d := (rfl)
@[simp] theorem msix_waitView (v d) : waitView (msix v d) = waitView d := by rw [msix_shape]; rfl
@[simp] theorem intake_waitView (e d) : waitView (intake e d) = waitView d := by rw [intake_shape]; rfl
@[simp] theorem record_waitView (c l d) : waitView (record c l d) = waitView d := intake_waitView _ _
@[simp] theorem intakeAdd_waitView (e d) : waitView (intakeAdd e d) = waitView d := by
  unfold intakeAdd intakeDrop intakePush
  split <;> rfl
@[simp] theorem summarizeAll_waitView (d) : waitView (summarizeAll d) = waitView d := by
  refine forEach_waitView _ _ d fun code d => ?_
  unfold summarize
  split <;> simp
@[simp] theorem modeWrite_waitView (m d) : waitView (modeWrite m d) = waitView d := by simp [modeWrite, recordSev, incW]
@[simp] theorem legsOff_waitView (p d) : waitView (legsOff p d) = waitView d := (rfl)
@[simp] theorem allLegsOff_waitView (d) : waitView (allLegsOff d) = waitView d := (rfl)
@[simp] theorem trigDisarmAll_waitView (d) : waitView (trigDisarmAll d) = waitView d := by
  have h : ∀ p k d, waitView (trigDisarm p k d) = waitView d := fun _ _ _ => rfl
  simp [trigDisarmAll, h]
@[simp] theorem pinReview_waitView (d) : waitView (pinReview d) = waitView d := (rfl)
@[simp] theorem allStop_waitView (d) : waitView (resyncEnd (ksStop (cyclesStop d))) = waitView d := (rfl)
@[simp] theorem gbQueue_waitView (q d) : waitView (gbQueue q d) = waitView d := (rfl)
@[simp] theorem gbIdle_waitView (d) : waitView (gbIdle d) = waitView d := by simp [gbIdle, gbOpenPut]
@[simp] theorem gbReissue_waitView (l d) : waitView (gbReissue l d) = waitView d := by
  unfold gbReissue
  repeat' split
  all_goals simp
@[simp] theorem gbCountFail_waitView (st d) : waitView (gbCountFail st d) = waitView d := by simp [gbCountFail]
@[simp] theorem gbReportFail_waitView (r cycle cls seg st posted d) : waitView (gbReportFail r cycle cls seg st posted d) = waitView d := by
  simp [gbReportFail, incW]
@[simp] theorem gbRecord_waitView (r d) : waitView (gbRecord r d) = waitView d := by simp [gbRecord]
@[simp] theorem gbScanSet_waitView (cls f d) : waitView (gbScanSet cls f d) = waitView d := by
  unfold gbScanSet
  split <;> simp
@[simp] theorem gbSafeDone_waitView (d) : waitView (gbSafeDone d) = waitView d := by simp [gbSafeDone]
@[simp] theorem gbFinish_waitView (r st data d) : waitView (gbFinish r st data d) = waitView d := by
  unfold gbFinish
  repeat' split
  all_goals simp
@[simp] theorem gbDropQueued_waitView (f d) : waitView (gbDropQueued f d) = waitView d := by
  unfold gbDropQueued gbUnstart
  dsimp only
  repeat' split
  all_goals simp [gbOpenPut]
@[simp] theorem gbSafeRun_waitView (m d) : waitView (gbSafeRun m d) = waitView d := by simp [gbSafeRun]
@[simp] theorem cwClearAll_waitView (d) : waitView (cwClearAll d) = waitView d := by
  have h : ∀ n d, waitView (cwClear n d) = waitView d := fun n d => by
    unfold cwClear
    split <;> simp [cwSetHo]
  simp [cwClearAll, h]
@[simp] theorem inhibitReview_waitView (d) : waitView (inhibitReview d) = waitView d := by simp [inhibitReview]
@[simp] theorem canHeartbeats_waitView (d) : waitView (canHeartbeats d) = waitView d := by simp [canHeartbeats]
/-- Up to its last step, the end of the commands, SAFE leaves the commands, module control and the supply. -/
theorem safeEffects_ends (d) : ∃ x, waitView x = waitView d ∧ safeEffects d = summarizeAll (if x.hm.powerFail then x else safeCommands x) := by
  refine ⟨_, ?_, rfl⟩
  simp

theorem waitView_hi {d t : Dev} (h : waitView t = waitView d) : t.hi = d.hi := congrArg (·.1) h
theorem waitView_mode {d t : Dev} (h : waitView t = waitView d) : t.mode = d.mode := congrArg (·.2.1) h
theorem waitView_hm {d t : Dev} (h : waitView t = waitView d) : t.hm = d.hm := congrArg (·.2.2) h

/-! ## An entry into SAFE that a MODE_REQUEST asks for (R92, R93) -/

/-- The one open command is an agreed MODE_REQUEST SAFE, and no other waits for the boundary. -/
def safeAsked (c : HiCmd) (d : Dev) : Prop :=
  d.hi.cmds = [c] ∧ c.phase = .waiting ∧ c.desc.op = 1 ∧ argB c.desc 0 = 5 ∧ d.mode.reqs = [] ∧ d.hm.powerFail = false
theorem safeAsked_of_waitView {c : HiCmd} {d t : Dev} (h : waitView t = waitView d) (hd : safeAsked c d) : safeAsked c t := by
  simpa only [safeAsked, waitView_hi h, waitView_mode h, waitView_hm h] using hd
/-- SAFE ends no such command: it is completed by its own. -/
theorem safeCommands_asked {c : HiCmd} {d : Dev} (h : safeAsked c d) : (safeCommands d).hi = d.hi ∧ (safeCommands d).hm = d.hm := by
  obtain ⟨hc, hw, ho, ha, hr, -⟩ := h
  have hl : (d.hi.cmds.filter fun x => x.phase != .queued && !safePermits x.desc && !((x.desc.op == 1 && x.phase == .waiting) &&
      argB x.desc 0 == 5) && !(d.cs.queue.any fun q => q.cmd == some x.seq)) = [] := by
    simp [hc, hw, ho, ha]
  simp only [safeCommands, hr, forEach, List.foldl_nil, modeSet_hi, modeSet_hm, hl, and_self]
theorem safeEffects_asked {c : HiCmd} {d : Dev} (h : safeAsked c d) :
    (safeEffects d).hi = d.hi ∧ (safeEffects d).hm = d.hm := by
  obtain ⟨x, hx, he⟩ := safeEffects_ends d
  have ha : safeAsked c x := safeAsked_of_waitView hx h
  obtain ⟨hhi, hhm⟩ := safeCommands_asked ha
  obtain ⟨-, -, -, -, -, hp⟩ := ha
  rw [he, if_neg (by simp [hp])]
  exact ⟨((waitView_hi (summarizeAll_waitView _)).trans hhi).trans (waitView_hi hx),
    ((waitView_hm (summarizeAll_waitView _)).trans hhm).trans (waitView_hm hx)⟩
theorem safeNow_open {d : Dev} (h : modeOf d ≠ mBOOT) :
    safeNow d = safeEffects (modeSet (fun m => { m with bootSafe := none, waiting := false, halted := m.halted || false }) d) := by
  have hi : modeIs d mBOOT = false := by simp [modeIs, h]
  simp only [safeNow, hi, Bool.false_eq_true, if_false]
theorem safeEnter_asked {c : HiCmd} {d : Dev} (ho : safeOpen d) (h : safeAsked c d) (cause x) :
    (safeEnter cause x d).hi = d.hi ∧ (safeEnter cause x d).hm = d.hm := by
  obtain ⟨hs, hb, hd⟩ := ho
  generalize he : wr (wr d Reg.MCTL_SAFE_CAUSE_CAUSE cause) Reg.MCTL_SAFE_CAUSE_DETAIL x = e
  have hm : modeOf e ≠ mBOOT := by
    rw [← he, modeOf, rd_wr_ne _ _ (by decide), rd_wr_ne _ _ (by decide)]
    exact hb
  have hp : safeDefers cause x e = false := by simp [safeDefers, modeIs, hm]
  have hk : safeAsked c e := by
    rw [← he]
    exact h
  obtain ⟨hhi, hhm⟩ := safeEffects_asked (d := modeSet (fun m => { m with bootSafe := none, waiting := false, halted := m.halted || false }) e) hk
  rw [safeEnter, if_neg (by simp [modeIs, hs]), if_neg (by simp [hd])]
  simp only [he, hp, safeNow_open hm]
  refine ⟨(waitView_hi (record_waitView _ _ _)).trans (hhi.trans ?_), (waitView_hm (record_waitView _ _ _)).trans (hhm.trans ?_)⟩
  · rw [← he]
    rfl
  · rw [← he]
    rfl

end Sys2Proof.Machine
end

section
/-!
SUPPORT. CONTROL_EXCHANGE with one open command (R211, R352, R476): what is agreed takes effect, and completes or waits.
-/
namespace Sys2Proof.Machine

/-! ## The exchange with nothing to agree, and with one command -/

theorem forEach_filter_none {α : Type} {p : α → Bool} {l : List α} (h : ∀ x ∈ l, p x = false) (f : α → Dev → Dev) (d : Dev) :
    forEach (l.filter p) f d = d := by
  rw [List.filter_eq_nil_iff.mpr fun x hx => by simp [h x hx]]
  rfl
theorem exchangeAgree_none {kind : HiCmd → Bool} {d : Dev} (h : ∀ c ∈ d.hi.cmds, kind c = false) : exchangeAgree kind d = d :=
  forEach_filter_none (fun c hc => by simp [h c hc]) _ d
theorem cmdsAgain_none {d : Dev} (h : ∀ c ∈ d.hi.cmds, c.again = false) : cmdsAgain d = d :=
  forEach_filter_none (fun c hc => by simp [h c hc]) _ d
theorem settingsExchange_none {d : Dev} (h : ∀ c ∈ d.hi.cmds, c.desc.op ≠ 0x0A) : settingsExchange d = d :=
  forEach_filter_none (fun c hc => by simp [h c hc]) _ d
theorem controlExchange_none {d : Dev} (h : chgCs d = none) (vals) : controlExchange vals d = d := by
  unfold controlExchange
  split
  · rfl
  · simp only [h]
/-- No exchange takes place: cycles run, or the module is in BOOT or SAFE. -/
theorem exchange_closed {d : Dev} (h : cyclesRun d = true ∨ modeOf d = mBOOT ∨ modeOf d = mSAFE) (vals) : exchange vals d = d := by
  rw [exchange, if_pos (by simpa [modeIs] using h)]
theorem exchange_idle {d : Dev} (hc : chgCs d = none) (h : d.hi.cmds = []) (vals) : exchange vals d = d := by
  have hn : ∀ {p : HiCmd → Prop}, ∀ c ∈ d.hi.cmds, p c := fun c hm => by simp [h] at hm
  unfold exchange
  split
  · rfl
  · simp only [cmdsAgain_none hn, exchangeAgree_none hn, controlExchange_none hc, settingsExchange_none hn, ite_self]

/-- An exchange takes place, and one command has been handed to a class. -/
def exchangeDue (c : HiCmd) (k : Nat) (d : Dev) : Prop :=
  cyclesRun d = false ∧ modeOf d ≠ mBOOT ∧ modeOf d ≠ mSAFE ∧ d.hm.powerFail = false ∧ chgCs d = none ∧ d.hi.cmds = [c] ∧
    c.phase = .toClass k ∧ c.again = false
/-- Such a command, which is neither a change of the program nor the Caisson's, is agreed, and completes if it holds its result. -/
theorem exchange_one {d : Dev} {c : HiCmd} {k : Nat} (h : exchangeDue c k d) (h4 : c.desc.op ≠ 4) (h10 : c.desc.op ≠ 10) (h17 : c.desc.op ≠ 17)
    (vals) : exchange vals d =
      let t := hostReleased k (nextCycle d k) (cmdAgreed k (nextCycle d k) c d)
      if modeIs t mSTOP ∨ modeIs t mHOLD ∨ modeIs t mSERVICE then settingsExchange t else t := by
  obtain ⟨hr, hb, hs, -, hchg, hc, hk, ha⟩ := h
  have hl : (d.hi.cmds.filter fun c => awaitsClass c && c.desc.op != 0x0A && (fun _ => true) c) = [c] := by
    simp [hc, awaitsClass, hk, h10]
  have hone : exchangeAgree (fun _ => true) d = hostReleased k (nextCycle d k) (cmdAgreed k (nextCycle d k) c d) := by
    have hm : modeIs d mSAFE = false := by simp [modeIs, hs]
    rw [exchangeAgree, hl]
    simp only [forEach, List.foldl_cons, List.foldl_nil, hm, hk, h17, Bool.false_eq_true, if_false]
  rw [exchange, if_neg (by simp [modeIs, hr, hb, hs]), cmdsAgain_none (by simp [hc, ha]), exchangeAgree_none (by simp [hc, h4]),
    controlExchange_none hchg]
  dsimp only
  rw [hone]

/-! ## What is agreed and completes at once -/

/-- The command with its status, its result and its phase. -/
def heldCmd (c : HiCmd) (k n : Nat) (r : List Byte) : HiCmd := { c with status := St.OK, result := r, phase := .agreed k n }
theorem cmdHold_one {e : Dev} {c : HiCmd} (he : e.hi.cmds = [c]) (k n r) :
    (cmdHold c.seq St.OK r (.agreed k n) e).hi.cmds = [heldCmd c k n r] := by
  simp [cmdHold, cmdSet, hiSet, mapIf, he, heldCmd]
/-- A held command completes with its release. -/
theorem hostReleased_one {e : Dev} {c : HiCmd} (he : e.hi.cmds = [c]) (k n r) :
    hostReleased k n (cmdHold c.seq St.OK r (.agreed k n) e) = cmdFinal c.seq St.OK r (cmdHold c.seq St.OK r (.agreed k n) e) := by
  rw [hostReleased, cmdHold_one he]
  simp [heldCmd, forEach]
/-- An exchange whose command holds its result: the command is final, and beyond the host interface only its effect remains. -/
theorem exchange_held {d e : Dev} {c : HiCmd} {k : Nat} (h : exchangeDue c k d) (h4 : c.desc.op ≠ 4) (h10 : c.desc.op ≠ 10)
    (h17 : c.desc.op ≠ 17) {r : List Byte} (hx : cmdAgreed k (nextCycle d k) c d = cmdHold c.seq St.OK r (.agreed k (nextCycle d k)) e)
    (he : e.hi.cmds = [c]) (hp : e.hm.powerFail = false) (vals) :
    finalAt (exchange vals d) (jHead e) c St.OK r ∧ hostView (exchange vals d) = hostView e := by
  obtain ⟨-, -, -, -, -, -, -, ha⟩ := id h
  have hc := cmdHold_one he k (nextCycle d k) r
  have hx2 := (congrArg (hostReleased k (nextCycle d k)) hx).trans (hostReleased_one he k (nextCycle d k) r)
  have hview : hostView (cmdHold c.seq St.OK r (.agreed k (nextCycle d k)) e) = hostView e := rfl
  have hhead : jHead e = jHead (cmdHold c.seq St.OK r (.agreed k (nextCycle d k)) e) := rfl
  have hpow : (cmdHold c.seq St.OK r (.agreed k (nextCycle d k)) e).hm.powerFail = false := hp
  rw [exchange_one h h4 h10 h17, hx2, hhead, ← hview]
  generalize cmdHold c.seq St.OK r (.agreed k (nextCycle d k)) e = x at hc hpow
  have hf : cmdOf x (heldCmd c k (nextCycle d k) r).seq = some (heldCmd c k (nextCycle d k) r) := by simp [cmdOf, hc]
  have hn : (cmdFinal c.seq St.OK r x).hi.cmds = [] := by
    rw [cmdFinal_cmds hpow, hc]
    simp [heldCmd]
  dsimp only
  rw [settingsExchange_none (by simp [hn]), ite_self]
  exact ⟨cmdFinal_finalAt hf hpow ha St.OK r, cmdFinal_hostView _ _ _ _⟩

/-! ## Forces, edits and writes of variables (R217, R219, R352) -/

/-- All but the Piers. -/
def pierless (d : Dev) : Dev := { d with prs := Dev.rest.prs }
theorem prSet_pierless (p f d) : pierless (prSet p f d) = pierless d := (rfl)
theorem itemsWrite_prsOnly (items d) : itemsWrite items d = { d with prs := (itemsWrite items d).prs } := by
  have h : pierless (itemsWrite items d) = pierless d := forEach_keeps (v := pierless) (fun p _ e => prSet_pierless p _ e) d
  exact congrArg (fun x : Dev => { x with prs := (itemsWrite items d).prs }) h
/-- An edit notes its event once its generation is recorded; before that it has changed the generation, the Piers and the image store. -/
theorem editAgreed_eq (k c d) : ∃ l x, editAgreed k c d = record Ev.VALUE_EDITED l (generationSave x) ∧
    x.mode = { d.mode with generation := d.mode.generation + 1 } ∧ x.hi = d.hi ∧ x.hm = d.hm ∧ x.regs = d.regs := by
  refine ⟨_, _, rfl, ?_⟩
  rw [itemsWrite_prsOnly]
  exact ⟨rfl, rfl, rfl, rfl⟩
theorem editAgreed_spec {d : Dev} (hp : d.hm.powerFail = false) (k c) :
    (editAgreed k c d).mode.generation = d.mode.generation + 1 ∧ (editAgreed k c d).bp.generation = d.mode.generation + 1 ∧
      (editAgreed k c d).hi = d.hi ∧ (editAgreed k c d).hm = d.hm ∧ jHead (editAgreed k c d) = jHead d := by
  obtain ⟨l, x, he, hm, hhi, hhm, hr⟩ := editAgreed_eq k c d
  have hhead : jHead (record Ev.VALUE_EDITED l (generationSave x)) = jHead d :=
    (rd_record _ _ _ _ (by decide) (by decide)).trans (rd_regs hr _)
  rw [he, hhead, record_shape]
  refine ⟨?_, ?_, hhi, hhm, rfl⟩
  · simp [generationSave, hm]
  · simp [generationSave, hm, hhm, hp]

section
variable {d : Dev} {c : HiCmd} {k : Nat} (h : exchangeDue c k d)
include h
theorem exchange_forces (ho : c.desc.op = 6 ∨ c.desc.op = 7) (vals) :
    (exchange vals d).mode.forces = forceApply c.desc c.payload d.mode.forces ∧ finalAt (exchange vals d) (jHead d) c St.OK
      (leBytes 4 (exchange vals d).mode.forces.length ++ leBytes 4 0 ++ leBytes 8 (nextCycle d k)) := by
  obtain ⟨-, -, -, hp, -, hc, -, ha⟩ := id h
  generalize hx : modeSet (fun m => { m with forces := forceApply c.desc c.payload m.forces }) d = e
  have hag : cmdAgreed k (nextCycle d k) c d = cmdHold c.seq St.OK (forceResult e (nextCycle d k)) (.agreed k (nextCycle d k)) e := by
    rcases ho with ho | ho <;> simp [cmdAgreed, ho, ha, hx]
  obtain ⟨hf, hv⟩ := exchange_held h (by omega) (by omega) (by omega) hag (by rw [← hx]; exact hc) (by rw [← hx]; exact hp) vals
  have hm : (exchange vals d).mode = e.mode := congrArg (·.mode) hv
  rw [hm]
  subst hx
  exact ⟨rfl, hf⟩
theorem exchange_writes (ho : c.desc.op = 9) (vals) :
    (exchange vals d).prs = (itemsWrite (items16 (argN c.desc 0 2) c.payload) d).prs ∧ (exchange vals d).mode = d.mode ∧
      finalAt (exchange vals d) (jHead d) c St.OK (leBytes 4 d.mode.forces.length ++ leBytes 4 0 ++ leBytes 8 (nextCycle d k)) := by
  obtain ⟨-, -, -, hp, -, hc, -, ha⟩ := id h
  have hw := itemsWrite_prsOnly (items16 (argN c.desc 0 2) c.payload) d
  generalize he : itemsWrite (items16 (argN c.desc 0 2) c.payload) d = e at hw
  have hm : e.mode = d.mode := by rw [hw]
  have hhi : e.hi = d.hi := by rw [hw]
  have hhm : e.hm = d.hm := by rw [hw]
  have hhead : jHead e = jHead d := by
    rw [hw]
    rfl
  have hag : cmdAgreed k (nextCycle d k) c d = cmdHold c.seq St.OK (forceResult d (nextCycle d k)) (.agreed k (nextCycle d k)) e := by
    simp [cmdAgreed, ho, ha, he]
  obtain ⟨hf, hv⟩ := exchange_held h (by omega) (by omega) (by omega) hag (by rw [hhi]; exact hc) (by rw [hhm]; exact hp) vals
  exact ⟨congrArg (·.prs) hv, (congrArg (·.mode) hv).trans hm, hhead ▸ hf⟩
theorem exchange_edit (ho : c.desc.op = 5) (vals) :
    (exchange vals d).mode.generation = d.mode.generation + 1 ∧ (exchange vals d).bp.generation = d.mode.generation + 1 ∧
      finalAt (exchange vals d) (jHead d) c St.OK (leBytes 4 (d.mode.generation + 1) ++ leBytes 4 0 ++ leBytes 8 (nextCycle d k)) := by
  obtain ⟨-, -, -, hp, -, hc, -, ha⟩ := id h
  obtain ⟨hg, hb, hhi, hhm, hhead⟩ := editAgreed_spec hp k c
  have hag : cmdAgreed k (nextCycle d k) c d = cmdHold c.seq St.OK
      (leBytes 4 (d.mode.generation + 1) ++ leBytes 4 0 ++ leBytes 8 (nextCycle d k)) (.agreed k (nextCycle d k)) (editAgreed k c d) := by
    simp [cmdAgreed, ho, ha, hg]
  obtain ⟨hf, hv⟩ := exchange_held h (by omega) (by omega) (by omega) hag (by rw [hhi]; exact hc) (by rw [hhm]; exact hp) vals
  exact ⟨(congrArg (·.mode.generation) hv).trans hg, (congrArg (·.bp.generation) hv).trans hb, hhead ▸ hf⟩

/-! ## What is agreed and waits (R90, R93, R476) -/

theorem exchange_settings (ho : c.desc.op = 10) (hm : modeOf d = mSTOP ∨ modeOf d = mHOLD ∨ modeOf d = mSERVICE) (vals) :
    exchange vals d = csArrive ⟨0, cmdRecords c, some c.seq, none, 0⟩ (cmdSet c.seq (fun c => { c with phase := .waiting }) d) := by
  obtain ⟨hr, hb, hs, -, hchg, hc, hk, ha⟩ := h
  have hn : exchangeAgree (fun _ => true) d = d := forEach_filter_none (by simp [hc, ho]) _ d
  rw [exchange, if_neg (by simp [modeIs, hr, hb, hs]), cmdsAgain_none (by simp [hc, ha]), exchangeAgree_none (by simp [hc, ho]),
    controlExchange_none hchg]
  dsimp only
  rw [hn, if_pos (by simpa [modeIs] using hm), settingsExchange, hc]
  simp [ho, hk, forEach]
theorem exchange_mode (ho : c.desc.op = 1) (hx : argB c.desc 0 ≠ 5) (vals) :
    exchange vals d = modeSet (fun m => { m with reqs := m.reqs ++ [c.seq] }) (cmdWait c.seq d) := by
  obtain ⟨-, -, -, -, -, hc, -, -⟩ := id h
  have hag : cmdAgreed k (nextCycle d k) c d = modeSet (fun m => { m with reqs := m.reqs ++ [c.seq] }) (cmdWait c.seq d) := by
    simp [cmdAgreed, ho, modeAgreed, hx]
  have hw : (cmdWait c.seq d).hi.cmds = [{ c with phase := .waiting }] := by simp [cmdWait, cmdSet, mapIf, hc]
  rw [exchange_one h (by omega) (by omega) (by omega), hag, hostReleased, forEach_filter_none (by simp [hw])]
  dsimp only
  rw [settingsExchange_none (by simp [hw, ho]), ite_self]
theorem exchange_safe (ho : c.desc.op = 1) (hx : argB c.desc 0 = 5) (hs : safeOpen d) (hr : d.mode.reqs = []) (vals) :
    ∃ r, exchange vals d = cmdFinal c.seq St.OK r (safeEnter scREQUESTED 0 (cmdWait c.seq d)) ∧
      (safeEnter scREQUESTED 0 (cmdWait c.seq d)).hm.powerFail = false := by
  obtain ⟨-, -, -, hp, -, hc, -, -⟩ := id h
  have hw : (cmdWait c.seq d).hi.cmds = [{ c with phase := .waiting }] := by simp [cmdWait, cmdSet, mapIf, hc]
  have hask : safeAsked { c with phase := .waiting } (cmdWait c.seq d) := ⟨hw, rfl, ho, hx, hr, hp⟩
  obtain ⟨hhi, hhm⟩ := safeEnter_asked (d := cmdWait c.seq d) hs hask scREQUESTED 0
  have hag : cmdAgreed k (nextCycle d k) c d = cmdFinal c.seq St.OK (modeResult (safeEnter scREQUESTED 0 (cmdWait c.seq d)))
      (safeEnter scREQUESTED 0 (cmdWait c.seq d)) := by
    simp [cmdAgreed, ho, modeAgreed, hx]
  have hp2 : (safeEnter scREQUESTED 0 (cmdWait c.seq d)).hm.powerFail = false := by
    rw [hhm]
    exact hp
  have hn : (cmdFinal c.seq St.OK (modeResult (safeEnter scREQUESTED 0 (cmdWait c.seq d)))
      (safeEnter scREQUESTED 0 (cmdWait c.seq d))).hi.cmds = [] := by
    rw [cmdFinal_cmds hp2, hhi, hw]
    simp
  refine ⟨modeResult (safeEnter scREQUESTED 0 (cmdWait c.seq d)), ?_, hp2⟩
  rw [exchange_one h (by omega) (by omega) (by omega), hag, hostReleased, forEach_filter_none (by simp [hn])]
  dsimp only
  rw [settingsExchange_none (by simp [hn]), ite_self]
end

/-- Settles O37: the exchange with one command, by what its agreement does. -/
theorem controlExchangeAgrees : Obligations.ControlExchangeAgrees := by
  unfold Obligations.ControlExchangeAgrees
  intro s vals hs
  simp only [answers_of (i := .controlExchange vals) (f := exchange vals) rfl hs]
  refine ⟨fun h => exchange_closed h vals, fun hc h => exchange_idle hc h vals, fun c k hr hb hsf hp hchg hc hk ha => ?_⟩
  have h : exchangeDue c k s.dev := ⟨hr, hb, hsf, hp, hchg, hc, hk, ha⟩
  have hfound : cmdOf s.dev c.seq = some c := by simp [cmdOf, hc]
  refine ⟨fun ho => exchange_forces h ho vals, fun ho => exchange_writes h ho vals, fun ho => exchange_edit h ho vals, fun ho hm => ?_,
    fun ho hx => ?_, fun ho hx hso hreq => ?_⟩
  · rw [exchange_settings h ho hm]
    exact ⟨rfl, cmdOf_cmdSet hfound (f := fun c => { c with phase := .waiting }) fun _ => rfl, rfl⟩
  · rw [exchange_mode h ho hx]
    exact ⟨rfl, cmdOf_cmdSet hfound (f := fun c => { c with phase := .waiting }) fun _ => rfl, rfl⟩
  · obtain ⟨r, he, hp2⟩ := exchange_safe h ho hx hso hreq vals
    rw [he]
    exact ⟨enteredSafe_of_control (cmdFinal_control _ _ _ _) (safeEnter_enteredSafe (d := cmdWait c.seq s.dev) hso _ _),
      cmdOf_cmdFinal_same hp2 _ _ _⟩

end Sys2Proof.Machine
end

section
/-!
SUPPORT. What keeps a standby level: checkpoints named and confirmed, the synchronised image, the journal, the declarations (R378 to R384).
-/
namespace Sys2Proof.Machine

/-! ## Checkpoints (R79, R378, R380) -/

theorem cpNamed_cpName {d : Dev} (h : d.hm.powerFail = false) (c) : cpNamed (cpName c d) = some c := by
  have hb : (cpName c d).bp.cpNamed = some (1 - d.bp.cpNamed.getD 1) := by simp [cpName, h]
  rw [cpNamed, hb]
  exact mget_mput_same _ _ _
theorem cpName_regs (c d) : (cpName c d).regs = (wr (wr d Reg.DX_CP_LAST c.cycle) Reg.DX_CP_GEN c.generation).regs := rfl
theorem rd_cpName_last (c d) : rd (cpName c d) Reg.DX_CP_LAST = trunc 64 c.cycle := by
  rw [rd_regs (cpName_regs c d), rd_wr_ne _ _ (by decide), rd_wr_same]
  rfl
theorem rd_cpName_gen (c d) : rd (cpName c d) Reg.DX_CP_GEN = trunc 32 c.generation := by
  rw [rd_regs (cpName_regs c d), rd_wr_same]
  rfl
theorem cpName_regsBut (c d) : regsBut [Reg.DX_CP_LAST, Reg.DX_CP_GEN] d (cpName c d) :=
  fun g hg => (rd_regs (cpName_regs c d) g).trans (((regsBut_wr _ _ _).trans (regsBut_wr _ _ _)) g hg)
/-- A message to the partner is sent or not; nothing else changes. -/
theorem loenpa_out (m d) : loenpa m d = { d with out := d.out ++ if linkUp d then [.loenpa m] else [] } := by
  unfold loenpa
  split
  · rfl
  · simp

/-- Commands that become final one after the other are gone, while entries can be written. -/
theorem cmdsFinal_cmds {d : Dev} (hp : d.hm.powerFail = false) (l : List HiCmd) (st r) :
    (forEach l (fun x d => cmdFinal x.seq st r d) d).hi.cmds = d.hi.cmds.filter fun y => !(l.any fun x => y.seq == x.seq) := by
  induction l generalizing d with
  | nil => simp [forEach]
  | cons x l ih =>
    have hx : (cmdFinal x.seq st r d).hm.powerFail = false := (congrArg (·.hm.powerFail) (cmdFinal_hostView x.seq st r d)).trans hp
    have hi := ih hx
    rw [cmdFinal_cmds hp, List.filter_filter] at hi
    rw [show forEach (x :: l) (fun x d => cmdFinal x.seq st r d) d = forEach l (fun x d => cmdFinal x.seq st r d) (cmdFinal x.seq st r d) from rfl,
      hi]
    congr 1
    funext y
    simp [Bool.and_comm]
theorem cmdsFinal_hostView (l : List HiCmd) (st r d) : hostView (forEach l (fun x d => cmdFinal x.seq st r d) d) = hostView d :=
  forEach_keeps (v := hostView) (fun x _ d => cmdFinal_hostView x.seq st r d) d

/-- The commands that a complete checkpoint ends. -/
def cpWaiters (d : Dev) : List HiCmd := d.hi.cmds.filter fun x => x.phase == .waiting && x.desc.op == 0x000F
/-- What holds once the checkpoint that was being taken is named, and sent to a partner in STANDBY. -/
structure CpEnded (c : Checkpoint) (d e : Dev) : Prop where
  named : d.hm.powerFail = false → cpNamed e = some c
  regs : e.regs = (cpName c d).regs
  taking : e.dx.taking = none
  hi : e.hi = d.hi
  hm : e.hm = d.hm
theorem cpEnded_cpName (c d) : CpEnded c d (cpName c (dxSet (fun x => { x with taking := none }) d)) :=
  ⟨fun h => cpNamed_cpName (d := dxSet (fun x => { x with taking := none }) d) h c, rfl, rfl, rfl, rfl⟩
theorem CpEnded.sent {c : Checkpoint} {d e : Dev} (h : CpEnded c d e) (m n) :
    CpEnded c d (loenpa m (dxSet (fun x => { x with sending := n }) e)) := by
  obtain ⟨hn, hr, ht, hhi, hhm⟩ := h
  rw [loenpa_out]
  exact ⟨hn, hr, ht, hhi, hhm⟩
/-- A checkpoint with the schedule time of its end. -/
def cpTimed (c : Checkpoint) (d : Dev) : Checkpoint := { c with time := schedTime d }
theorem checkpointComplete_eq {d : Dev} {c : Checkpoint} (h : d.dx.taking = some c) : ∃ e, CpEnded (cpTimed c d) d e ∧
    checkpointComplete d = forEach (cpWaiters e) (fun x y => cmdFinal x.seq St.OK (cpHeader (cpTimed c d)) y) e := by
  unfold checkpointComplete
  rw [h]
  refine ⟨_, ?_, rfl⟩
  split
  · exact (cpEnded_cpName (cpTimed c d) d).sent _ _
  · exact cpEnded_cpName (cpTimed c d) d
theorem cpNamed_of_hostView {d t : Dev} (h : hostView t = hostView d) : cpNamed t = cpNamed d := by
  have hc := congrArg cpNamed h
  exact hc
theorem taking_of_hostView {d t : Dev} (h : hostView t = hostView d) : t.dx.taking = d.dx.taking := congrArg (·.dx.taking) h
theorem checkpointComplete_named {d : Dev} {c : Checkpoint} (h : d.dx.taking = some c) (hp : d.hm.powerFail = false) :
    cpNamed (checkpointComplete d) = some (cpTimed c d) ∧ (checkpointComplete d).dx.taking = none ∧
      ∀ x ∈ d.hi.cmds, x.phase = .waiting → x.desc.op = 0x0F → cmdOf (checkpointComplete d) x.seq = none := by
  obtain ⟨e, ⟨hn, -, ht, hhi, hhm⟩, he⟩ := checkpointComplete_eq h
  have hv := cmdsFinal_hostView (cpWaiters e) St.OK (cpHeader (cpTimed c d)) e
  rw [he]
  refine ⟨(cpNamed_of_hostView hv).trans (hn hp), (taking_of_hostView hv).trans ht, fun x hx hw ho => ?_⟩
  have hm : x ∈ cpWaiters e := List.mem_filter.mpr ⟨hhi ▸ hx, by simp [hw, ho]⟩
  rw [cmdOf, cmdsFinal_cmds (by rw [hhm]; exact hp), List.find?_eq_none]
  intro y hy hs
  simp only [List.mem_filter, Bool.not_eq_true', List.any_eq_false, beq_iff_eq] at hy hs
  exact hy.2 x hm hs
theorem checkpointComplete_idle {d : Dev} {c : Checkpoint} (h : d.dx.taking = some c)
    (hw : ∀ x ∈ d.hi.cmds, x.phase = .waiting → x.desc.op ≠ 0x0F) : CpEnded (cpTimed c d) d (checkpointComplete d) := by
  obtain ⟨e, hends, he⟩ := checkpointComplete_eq h
  rw [he, cpWaiters, forEach_filter_none (by simpa [hends.hi] using hw)]
  exact hends

/-! ## A checkpoint received (R222, R224, R380, R381) -/

theorem linkUp_of_regsBut {l : List Fld} {d t : Dev} (h : regsBut l d t)
    (hl : ∀ f ∈ l, fldKey f ≠ fldKey Reg.DX_STATUS_LK_A_UP ∧ fldKey f ≠ fldKey Reg.DX_STATUS_LK_B_UP) : linkUp t = linkUp d := by
  simp only [linkUp, flag, h _ fun f hf => (hl f hf).1, h _ fun f hf => (hl f hf).2]
/-- With no entry in the image log, a checkpoint is named, shown and confirmed. -/
def cpShown (c : Checkpoint) (d : Dev) : Dev := wrB (cpName c d) Reg.DX_STATUS_CP_VALID true
theorem cpConfirm_empty {d : Dev} (h : d.store.log = []) (c) : cpConfirm c d = loenpa (.confirm c.cycle) (cpShown c d) := by
  rw [cpConfirm, h]
  rfl
theorem cpShown_regsBut (c d) : regsBut ([Reg.DX_CP_LAST, Reg.DX_CP_GEN] ++ [Reg.DX_STATUS_CP_VALID]) d (cpShown c d) :=
  (cpName_regsBut c d).trans (regsBut_wr _ _ _)
theorem cpConfirm_spec {d : Dev} (hl : d.store.log = []) (hp : d.hm.powerFail = false) (c) :
    cpNamed (cpConfirm c d) = some c ∧ flag (cpConfirm c d) Reg.DX_STATUS_CP_VALID = true ∧
      rd (cpConfirm c d) Reg.DX_CP_LAST = trunc 64 c.cycle ∧
      (cpConfirm c d).out = d.out ++ if linkUp d then [.loenpa (.confirm c.cycle)] else [] := by
  have hlink : linkUp (cpShown c d) = linkUp d := linkUp_of_regsBut (cpShown_regsBut c d) (by decide)
  rw [cpConfirm_empty hl, loenpa_out, hlink]
  refine ⟨cpNamed_cpName hp c, flag_wrB_same (cpName c d) Reg.DX_STATUS_CP_VALID true (by decide), ?_, rfl⟩
  exact (rd_wrB_ne (f := Reg.DX_STATUS_CP_VALID) (cpName c d) true (by decide)).trans (rd_cpName_last c d)
/-- A checkpoint is taken up: the module is in STANDBY outside a takeover. -/
def cpOpen (d : Dev) : Prop := modeOf d = mSTANDBY ∧ rd d Reg.DX_STATUS_TK_PHASE = 0
theorem checkpointData_closed {d : Dev} {ok : Bool} (h : ok = false ∨ modeOf d ≠ mSTANDBY ∨ rd d Reg.DX_STATUS_TK_PHASE ≠ 0) (c) :
    checkpointData c ok d = d := by
  rw [checkpointData, if_pos]
  rcases h with h | h | h
  · simp [h]
  · simp [modeIs, h]
  · simp [h]
theorem checkpointData_match {d : Dev} {c : Checkpoint} (h : cpOpen d) (hm : imageMatches c.imageId c.generation d = true) :
    checkpointData c true d = cpConfirm c (wrB d Reg.DX_STATUS_IMAGE_MATCH true) := by
  obtain ⟨hs, ht⟩ := h
  have hf : flag (wrB d Reg.DX_STATUS_IMAGE_MATCH true) Reg.DX_STATUS_IMAGE_MATCH = true := flag_wrB_same _ _ _ (by decide)
  rw [checkpointData, if_neg (by simp [modeIs, hs, ht])]
  simp only [hm, Bool.or_true, if_true, imageReview, hf]
theorem checkpointData_other {d : Dev} {c : Checkpoint} (h : cpOpen d) (hf : flag d Reg.DX_STATUS_IMAGE_MATCH = false)
    (hm : imageMatches c.imageId c.generation d = false) : checkpointData c true d = dxSet (fun x => { x with assembled := some c }) d := by
  obtain ⟨hs, ht⟩ := h
  rw [checkpointData, if_neg (by simp [modeIs, hs, ht])]
  simp only [hm, hf, Bool.or_false, Bool.false_eq_true, if_false]


/-! ## The synchronised image (R381) -/

/-- The image of the active module stored and taken over. -/
def imageTaken (image gen : Nat) (img : Image) (d : Dev) : Dev :=
  let d := storeSet (fun s => { s with log := [], consts := [], current := some img, images := mput s.images image img }) { d with img := img }
  modeSet (fun m => { m with imageId := image, generation := gen, imageValid := true })
    (bpSet (fun b => { b with imageId := image, generation := gen }) d)
/-- The same, shown and recorded. -/
def imageLevel (image gen : Nat) (img : Image) (seconds : Nat) (d : Dev) : Dev :=
  dxSet (fun x => { x with assembled := none })
    (record Ev.IMAGE_SYNCED [.w image, .w gen, .w seconds] (wrB (imageTaken image gen img d) Reg.DX_STATUS_IMAGE_MATCH true))
/-- What a module with the synchronised image shows. -/
def imageHeld (image gen : Nat) (img : Image) (t : Dev) : Prop :=
  t.mode.imageId = image ∧ t.mode.generation = gen ∧ t.img = img ∧ t.store.current = some img ∧ t.store.log = [] ∧
    flag t Reg.DX_STATUS_IMAGE_MATCH = true ∧ t.dx.assembled = none
theorem imageLevel_held (image gen img secs d) : imageHeld image gen img (imageLevel image gen img secs d) := by
  have hf : flag (imageLevel image gen img secs d) Reg.DX_STATUS_IMAGE_MATCH = true := by
    rw [imageLevel, flag, rd_dxSet, rd_record _ _ _ _ (by decide) (by decide)]
    exact flag_wrB_same _ _ _ (by decide)
  refine ⟨?_, ?_, ?_, ?_, ?_, hf, rfl⟩
  all_goals
    rw [imageLevel, record_shape]
    rfl
theorem imageLevel_regsBut (image gen img secs d) :
    regsBut ([Reg.DX_STATUS_IMAGE_MATCH] ++ evCounts) d (imageLevel image gen img secs d) := fun g hg => by
  rw [imageLevel, rd_dxSet]
  exact ((regsBut_wr (imageTaken image gen img d) _ _).trans (record_regsBut _ _ _)) g hg
theorem cpConfirm_held {d : Dev} {image gen : Nat} {img : Image} (h : imageHeld image gen img d) (c) :
    imageHeld image gen img (cpConfirm c d) ∧ regsBut ([Reg.DX_CP_LAST, Reg.DX_CP_GEN] ++ [Reg.DX_STATUS_CP_VALID]) d (cpConfirm c d) := by
  obtain ⟨hi, hg, him, hc, hl, hf, ha⟩ := h
  have hr : ∀ g, rd (cpConfirm c d) g = rd (cpShown c d) g := fun g => by
    rw [cpConfirm_empty hl, loenpa_out]
    rfl
  refine ⟨⟨?_, ?_, ?_, ?_, ?_, ?_, ?_⟩, fun g hg => (hr g).trans (cpShown_regsBut c d g hg)⟩
  case refine_6 =>
    rw [flag, hr, cpShown_regsBut c d _ (by decide)]
    exact hf
  all_goals
    rw [cpConfirm_empty hl, loenpa_out]
    assumption
theorem imageSynced_other {d : Dev} (h : rd d Reg.MCTL_MODE_ROLE ≠ 2) (image gen img secs) : imageSynced image gen img secs d = d := by
  rw [imageSynced, if_pos h]
theorem imageSynced_eq {d : Dev} (h : rd d Reg.MCTL_MODE_ROLE = 2) (image gen img secs) :
    imageSynced image gen img secs d = imageLevel image gen img secs d ∨
      ∃ c, imageSynced image gen img secs d = cpConfirm c (imageLevel image gen img secs d) := by
  rw [imageSynced, if_neg (by simp [h])]
  dsimp only
  split
  · exact .inl rfl
  · exact .inr ⟨_, rfl⟩
theorem imageSynced_spec {d : Dev} (h : rd d Reg.MCTL_MODE_ROLE = 2) (image gen img secs) :
    imageHeld image gen img (imageSynced image gen img secs d) ∧
      regsBut ([Reg.DX_STATUS_IMAGE_MATCH, Reg.DX_STATUS_CP_VALID, Reg.DX_CP_LAST, Reg.DX_CP_GEN] ++ evCounts) d
        (imageSynced image gen img secs d) := by
  have hl := imageLevel_held image gen img secs d
  have hb := imageLevel_regsBut image gen img secs d
  rcases imageSynced_eq h image gen img secs with he | ⟨c, he⟩
  · rw [he]
    exact ⟨hl, hb.mono (by decide)⟩
  · obtain ⟨hh, hr⟩ := cpConfirm_held hl c
    rw [he]
    exact ⟨hh, (hb.trans hr).mono (by decide)⟩

/-! ## The journal made level (R382) -/

theorem rd_acceptPut {g : Fld} (h : ∀ f ∈ Reg.HI_STATUS_ACCEPT :: evCounts, fldKey f ≠ fldKey g) (v d) : rd (acceptPut v d) g = rd d g := by
  simp only [evCounts, List.forall_mem_cons] at h
  obtain ⟨ha, h1, h2, -⟩ := h
  unfold acceptPut
  dsimp only
  split_ifs
  · rw [rd_msix, rd_record _ _ _ _ h1 h2, rd_wr_ne _ _ ha]
  · rw [rd_msix, rd_record _ _ _ _ h1 h2, rd_wr_ne _ _ ha]
  · exact rd_wr_ne _ _ ha
theorem rd_hiRoleReview {g : Fld} (h : ∀ f ∈ Reg.HI_STATUS_EXECUTING :: Reg.HI_STATUS_ACCEPT :: evCounts, fldKey f ≠ fldKey g) (d) :
    rd (hiRoleReview d) g = rd d g := by
  simp only [List.forall_mem_cons (a := Reg.HI_STATUS_EXECUTING)] at h
  obtain ⟨he, h⟩ := h
  unfold hiRoleReview
  dsimp only
  split_ifs
  · exact rd_wrB_ne _ _ he
  all_goals rw [rd_acceptPut h, rd_wrB_ne _ _ he]
/-- The level journal noted, and the module's part in the acceptance of commands reviewed. -/
def journalNoted (n : Nat) (d : Dev) : Dev :=
  hiRoleReview (record Ev.JOURNAL_LEVELLED [.w n] (wrB d Reg.DX_STATUS_JOURNAL_LEVEL true))
theorem journalNoted_level (n d) : flag (journalNoted n d) Reg.DX_STATUS_JOURNAL_LEVEL = true := by
  rw [journalNoted, flag, rd_hiRoleReview (by decide), rd_record _ _ _ _ (by decide) (by decide)]
  exact flag_wrB_same _ _ _ (by decide)
theorem journalNoted_journal (n d) : (journalNoted n d).hi.journal = d.hi.journal :=
  answerView_journal (by simp [journalNoted])
theorem jHead_journalNoted (n d) : jHead (journalNoted n d) = jHead d := by
  rw [journalNoted, jHead, rd_hiRoleReview (by decide), rd_record _ _ _ _ (by decide) (by decide), rd_wrB_ne _ _ (by decide)]
  rfl
theorem journalLevelled_executing {d : Dev} (h : executing d = true) (dv entries) :
    journalLevelled dv entries d = journalNoted entries.length d := by
  simp only [journalLevelled, h, if_true, journalNoted]
theorem journalLevelled_one {d : Dev} (h : executing d = false) (q e) :
    journalLevelled none [(q, e)] d = journalNoted 1 (jPut q { e with partner := !e.partner } d) := by
  simp only [journalLevelled, h, Bool.false_eq_true, if_false]
  rfl
/-- The entries from a point on, discarded with their commands. -/
def journalCut (s : Nat) (d : Dev) : Dev :=
  wr (openReview (hiSet (fun h => { h with
    journal := h.journal.filter (fun e => decide (e.1 < s))
    cmds := h.cmds.filter fun c => decide (c.seq < s) }) d)) Reg.HI_JOURNAL_HEAD (min s (jHead d))
theorem journalLevelled_cut {d : Dev} (h : executing d = false) (s) :
    ∃ l, journalLevelled (some s) [] d = journalNoted 0 (journalCut s (record Ev.JOURNAL_DIVERGED l d)) := by
  simp only [journalLevelled, h, Bool.false_eq_true, if_false]
  exact ⟨_, rfl⟩
theorem journalLevelled_cut_spec {d : Dev} (h : executing d = false) (s) :
    flag (journalLevelled (some s) [] d) Reg.DX_STATUS_JOURNAL_LEVEL = true ∧
      (journalLevelled (some s) [] d).hi.journal = d.hi.journal.filter (fun e => decide (e.1 < s)) ∧
      jHead (journalLevelled (some s) [] d) = trunc 64 (min s (jHead d)) := by
  obtain ⟨l, he⟩ := journalLevelled_cut h s
  have hj : (record Ev.JOURNAL_DIVERGED l d).hi.journal = d.hi.journal := answerView_journal (by simp)
  have hh : jHead (record Ev.JOURNAL_DIVERGED l d) = jHead d := rd_record _ _ _ _ (by decide) (by decide)
  rw [he]
  refine ⟨journalNoted_level _ _, ?_, ?_⟩
  · rw [journalNoted_journal, ← hj]
    rfl
  · rw [jHead_journalNoted, ← hh]
    exact rd_wr_same _ _ _

/-! ## Declarations (R383) -/

theorem outputDeclaration_standby {d : Dev} (h : modeOf d = mSTANDBY) (x) :
    outputDeclaration x d = dxSet (fun u => { u with decls := mput u.decls x.cycle x }) d := by
  rw [outputDeclaration, if_pos (by simp [modeIs, h])]
theorem outputDeclaration_other {d : Dev} (h : modeOf d ≠ mSTANDBY) (x) : outputDeclaration x d = d := by
  rw [outputDeclaration, if_neg (by simp [modeIs, h])]

/-- Settles O50: each of the five commands by the one thing that it brings to its module. -/
theorem standbyKeepsUp : Obligations.StandbyKeepsUp := by
  unfold Obligations.StandbyKeepsUp
  intro s hs
  refine ⟨fun c h hp => ?_, fun c h hp hw => ?_, fun h => ?_, fun c hm ht hp hl hi => ?_, fun c hm ht hf hi => ?_, fun c ok h => ?_,
    fun image gen img secs h => ?_, fun image gen img secs h => ?_, fun dv l h => ?_, fun dv h => ?_, fun q e h hp => ?_, fun x h => ?_,
    fun x h => ?_⟩
  · rw [answers_of (i := .checkpointComplete) rfl hs]
    exact checkpointComplete_named h hp
  · rw [answers_of (i := .checkpointComplete) rfl hs]
    obtain ⟨hn, hr, ht, hhi, -⟩ := checkpointComplete_idle h hw
    exact ⟨hn hp, (rd_regs hr _).trans (rd_cpName_last _ _), (rd_regs hr _).trans (rd_cpName_gen _ _), ht, congrArg (·.cmds) hhi,
      fun g hg => (rd_regs hr g).trans (cpName_regsBut _ _ g hg)⟩
  · rw [answers_of (i := .checkpointComplete) rfl hs, checkpointComplete, h]
  · have hlink : linkUp (wrB s.dev Reg.DX_STATUS_IMAGE_MATCH true) = linkUp s.dev := linkUp_of_regsBut (regsBut_wr _ _ _) (by decide)
    rw [answers_of (i := .checkpointData c true) rfl hs, checkpointData_match ⟨hm, ht⟩ hi, ← hlink]
    exact cpConfirm_spec (d := wrB s.dev Reg.DX_STATUS_IMAGE_MATCH true) hl hp c
  · rw [answers_of (i := .checkpointData c true) rfl hs]
    exact checkpointData_other ⟨hm, ht⟩ hf hi
  · rw [answers_of (i := .checkpointData c ok) rfl hs]
    exact checkpointData_closed h c
  · rw [answers_of (i := .imageSynced image gen img secs) rfl hs]
    obtain ⟨⟨h1, h2, h3, h4, h5, h6, h7⟩, hb⟩ := imageSynced_spec h image gen img secs
    exact ⟨h1, h2, h3, h4, h5, h6, h7, hb⟩
  · rw [answers_of (i := .imageSynced image gen img secs) rfl hs]
    exact imageSynced_other h image gen img secs
  · rw [answers_of (i := .journalLevelled dv l) rfl hs, journalLevelled_executing h]
    exact ⟨journalNoted_level _ _, journalNoted_journal _ _⟩
  · rw [answers_of (i := .journalLevelled (some dv) []) rfl hs]
    exact journalLevelled_cut_spec h dv
  · rw [answers_of (i := .journalLevelled none [(q, e)]) rfl hs, journalLevelled_one h]
    exact ⟨journalNoted_level _ _, by rw [journalNoted_journal]; exact jPut_entry hp _ _⟩
  · rw [answers_of (i := .outputDeclaration x) rfl hs, outputDeclaration_standby h]
    exact ⟨mget_mput_same _ _ _, rfl⟩
  · rw [answers_of (i := .outputDeclaration x) rfl hs]
    exact outputDeclaration_other h x

end Sys2Proof.Machine
end

section
/-!
SUPPORT. The drive legs and output stages of the slices: what a leg write, a leg held for a launch and a stage's flag do (R175, R268, R427 to R432).
-/
namespace Sys2Proof.Machine

/-! ## What decides on a leg write (R75, R144, R175, R268) -/

/-- What a leg write asks of the device: the outputs held by triggers, the override of the slice, the outputs driven by a class. -/
def legGate (p : Pier) (d : Dev) : (Nat → Bool) × Bool × (Nat → Bool) := (triggerHolds d p, legOverride d p, outputDriven d)
theorem legGate_trigger {p : Pier} {d t : Dev} (h : legGate p t = legGate p d) (n) : triggerHolds t p n = triggerHolds d p n :=
  congrFun (congrArg Prod.fst h) n
theorem legGate_override {p : Pier} {d t : Dev} (h : legGate p t = legGate p d) : legOverride t p = legOverride d p := congrArg (·.2.1) h
theorem legGate_driven {p : Pier} {d t : Dev} (h : legGate p t = legGate p d) (n) : outputDriven t n = outputDriven d n :=
  congrFun (congrArg (·.2.2) h) n
/-- A field that none of these reads. -/
def notGate (p : Pier) (f : Fld) : Prop :=
  (∀ k, fldKey f ≠ fldKey (Reg.PT_TRIG_CTL_STATE (sl p) k) ∧ fldKey f ≠ fldKey (Reg.PT_TRIG_CTL_ACTION (sl p) k) ∧
    fldKey f ≠ fldKey (Reg.PT_TRIG_CTL_OUTPUT (sl p) k)) ∧
  fldKey f ≠ fldKey Reg.MCTL_MODE_MODE ∧ fldKey f ≠ fldKey Reg.FIO_STATUS_LEASE_OK ∧ fldKey f ≠ fldKey Reg.KS_STATUS_ISOLATED
theorem wr_legGate {p : Pier} {f : Fld} (h : notGate p f) (d v) : legGate p (wr d f v) = legGate p d := by
  obtain ⟨ht, hm, hl, hi⟩ := h
  have h1 : triggerHolds (wr d f v) p = triggerHolds d p := by
    funext n
    have hk : ∀ k, rd (wr d f v) (Reg.PT_TRIG_CTL_STATE (sl p) k) = rd d (Reg.PT_TRIG_CTL_STATE (sl p) k) ∧
        rd (wr d f v) (Reg.PT_TRIG_CTL_ACTION (sl p) k) = rd d (Reg.PT_TRIG_CTL_ACTION (sl p) k) ∧
        rd (wr d f v) (Reg.PT_TRIG_CTL_OUTPUT (sl p) k) = rd d (Reg.PT_TRIG_CTL_OUTPUT (sl p) k) := fun k =>
      ⟨rd_wr_ne _ _ (ht k).1, rd_wr_ne _ _ (ht k).2.1, rd_wr_ne _ _ (ht k).2.2⟩
    simp only [triggerHolds, hk]
  have h2 : legOverride (wr d f v) p = legOverride d p := by
    simp only [legOverride, inRun, modeIs, modeOf, sliceLease, isolated, bitF, rd_wr_ne _ _ hm, rd_wr_ne _ _ hl, rd_wr_ne _ _ hi]
  simp only [legGate, h1, h2]
  rfl
theorem legFlds_notGate (p) : ∀ f ∈ [Reg.PT_REF_STAT_LEG_IGNORED (sl p) 0, Reg.FIO_LEG_STATE_APPLIED (sl p), Reg.FIO_LEG_STATE_PENDING (sl p)],
    notGate p f := by
  simp only [List.forall_mem_cons, notGate, fldKey, Reg.PT_REF_STAT_LEG_IGNORED, Reg.FIO_LEG_STATE_APPLIED, Reg.FIO_LEG_STATE_PENDING,
    Reg.PT_TRIG_CTL_STATE, Reg.PT_TRIG_CTL_ACTION, Reg.PT_TRIG_CTL_OUTPUT, Reg.MCTL_MODE_MODE, Reg.FIO_STATUS_LEASE_OK, Reg.KS_STATUS_ISOLATED]
  refine ⟨?_, ?_, ?_, by simp⟩ <;> refine ⟨fun k => ⟨by omega, by omega, by omega⟩, by omega, by omega, by omega⟩
theorem legFlds_apart (p) : fldKey (Reg.PT_REF_STAT_LEG_IGNORED (sl p) 0) ≠ fldKey (Reg.FIO_LEG_STATE_APPLIED (sl p)) ∧
    fldKey (Reg.FIO_LEG_STATE_PENDING (sl p)) ≠ fldKey (Reg.FIO_LEG_STATE_APPLIED (sl p)) := by
  simp only [fldKey, Reg.PT_REF_STAT_LEG_IGNORED, Reg.FIO_LEG_STATE_APPLIED, Reg.FIO_LEG_STATE_PENDING]
  omega
/-- A write ignored while a trigger holds the leg, counted. -/
def legIgnored (p : Pier) (d : Dev) : Dev := inc d (Reg.PT_REF_STAT_LEG_IGNORED (sl p) 0)
theorem legIgnored_gate (p d) : legGate p (legIgnored p d) = legGate p d := wr_legGate (legFlds_notGate p _ (by simp)) _ _
theorem rd_legIgnored (p d) : rd (legIgnored p d) (Reg.FIO_LEG_STATE_APPLIED (sl p)) = rd d (Reg.FIO_LEG_STATE_APPLIED (sl p)) :=
  rd_inc_ne d (legFlds_apart p).1

/-! ## FIO_LEG_WR (R268, R427) -/

/-- The level that a class write gives a leg. -/
def legLevel (d : Dev) (p : Pier) (out : Nat) (on : Bool) : Bool := on && !legOverride d p && outputDriven d out
theorem legWrite_held {d : Dev} {p : Pier} {m : Nat} (h : triggerHolds d p m = true) (on) : legWrite p m on d = legIgnored p d := by
  rw [legWrite, if_pos h]
  rfl
theorem legWrite_free {d : Dev} {p : Pier} {m : Nat} (h : triggerHolds d p m = false) (on) :
    legWrite p m on d = putBitF d (Reg.FIO_LEG_STATE_APPLIED (sl p)) m (legLevel d p m on) := by
  rw [legWrite, if_neg (by simp [h])]
  rfl
theorem legWrite_gate (p m on d) : legGate p (legWrite p m on d) = legGate p d := by
  cases h : triggerHolds d p m
  · rw [legWrite_free h]
    exact wr_legGate (legFlds_notGate p _ (by simp)) _ _
  · rw [legWrite_held h, legIgnored_gate]
theorem legWrite_regsOnly (p m on d) : regsOnly d (legWrite p m on d) := by
  unfold legWrite
  split <;> rfl
theorem legWrite_bit {n : Nat} (hn : n < 16) (p m on d) : bitF (legWrite p m on d) (Reg.FIO_LEG_STATE_APPLIED (sl p)) n =
    if m = n ∧ triggerHolds d p m = false then legLevel d p m on else bitF d (Reg.FIO_LEG_STATE_APPLIED (sl p)) n := by
  cases h : triggerHolds d p m
  · rw [legWrite_free h, bitF_putBitF _ _ _ _ _ hn]
    simp
  · rw [legWrite_held h, bitF, rd_legIgnored]
    simp [bitF]
/-- Legs written one after the other: each as what decides on it says, which no write changes. -/
theorem legWrites_bit {n : Nat} (hn : n < 16) (p : Pier) (v : Nat) (l : List Nat) (d : Dev) :
    bitF (forEach l (fun m d => legWrite p m (bitOf v m) d) d) (Reg.FIO_LEG_STATE_APPLIED (sl p)) n =
      if n ∈ l ∧ triggerHolds d p n = false then legLevel d p n (bitOf v n) else bitF d (Reg.FIO_LEG_STATE_APPLIED (sl p)) n := by
  induction l generalizing d with
  | nil => simp [forEach]
  | cons m l ih =>
    have hg := legWrite_gate p m (bitOf v m) d
    have hs : forEach (m :: l) (fun m d => legWrite p m (bitOf v m) d) d =
        forEach l (fun m d => legWrite p m (bitOf v m) d) (legWrite p m (bitOf v m) d) := rfl
    have hlevel : legLevel (legWrite p m (bitOf v m) d) p n (bitOf v n) = legLevel d p n (bitOf v n) := by
      rw [legLevel, legGate_override hg, legGate_driven hg]
      rfl
    rw [hs, ih, legGate_trigger hg, hlevel, legWrite_bit hn]
    by_cases hm : m = n
    · subst hm
      cases triggerHolds d p m <;> simp
    · have hm' : n ≠ m := Ne.symm hm
      simp [hm, hm']
theorem fioLegWr_bit {n : Nat} (hn : n < 16) (p v d) : bitF (fioLegWr p v d) (Reg.FIO_LEG_STATE_APPLIED (sl p)) n =
    if bitF d (Reg.FIO_LEG_MASK_MASK (sl p)) n = true ∧ triggerHolds d p n = false then
      bitOf v n && !legOverride d p && outputDriven d n
    else bitF d (Reg.FIO_LEG_STATE_APPLIED (sl p)) n := by
  have hm : n ∈ bitsOf 16 (rd d (Reg.FIO_LEG_MASK_MASK (sl p))) ↔ bitF d (Reg.FIO_LEG_MASK_MASK (sl p)) n = true := by
    rw [mem_bitsOf]
    simp [hn, bitF]
  rw [fioLegWr, legWrites_bit hn]
  simp only [hm]
  rfl
theorem fioLegWr_regsOnly (p v d) : regsOnly d (fioLegWr p v d) := forEach_regsOnly _ (fun m d => legWrite_regsOnly p m _ d) d

/-! ## FIO_LEG_WR at launch (R175, R427) -/

theorem fioLegWrAtLaunch_missed {d : Dev} {p : Pier} {cls : Nat} (h : launchMissed d p cls = true) (v) :
    fioLegWrAtLaunch p cls v d = fioLegWr p v d := by rw [fioLegWrAtLaunch, if_pos h]
theorem fioLegWrAtLaunch_waits {d : Dev} {p : Pier} {cls : Nat} (h : launchMissed d p cls = false) (v) : fioLegWrAtLaunch p cls v d =
    forEach (bitsOf 16 (rd d (Reg.FIO_LEG_MASK_MASK (sl p)))) (fun m d => legHold p cls m (bitOf v m) d) d := by
  rw [fioLegWrAtLaunch, if_neg (by simp [h])]
/-- A leg held for the launch of a class. -/
def legWaits (p : Pier) (cls m : Nat) (on : Bool) (d : Dev) : Dev :=
  legPendingBits p (fioSet p (fun s => { s with pending := mput s.pending m (cls, on) }) d)
theorem legHold_cases (p cls m on d) : legHold p cls m on d = legIgnored p d ∧ triggerHolds d p m = true ∨
    legHold p cls m on d = d ∧ legOverride d p = true ∨
    legHold p cls m on d = legWaits p cls m on d ∧ triggerHolds d p m = false ∧ legOverride d p = false := by
  unfold legHold
  split
  · next h => exact .inl ⟨rfl, h⟩
  · next h =>
    split
    · next ho => exact .inr (.inl ⟨rfl, ho⟩)
    · next ho => exact .inr (.inr ⟨rfl, by simpa using h, by simpa using ho⟩)
theorem legWaits_gate (p cls m on d) : legGate p (legWaits p cls m on d) = legGate p d := wr_legGate (legFlds_notGate p _ (by simp)) _ _
theorem legHold_gate (p cls m on d) : legGate p (legHold p cls m on d) = legGate p d := by
  rcases legHold_cases p cls m on d with ⟨h, -⟩ | ⟨h, -⟩ | ⟨h, -, -⟩
  · rw [h, legIgnored_gate]
  · rw [h]
  · rw [h, legWaits_gate]
theorem rd_legHold (p cls m on d) :
    rd (legHold p cls m on d) (Reg.FIO_LEG_STATE_APPLIED (sl p)) = rd d (Reg.FIO_LEG_STATE_APPLIED (sl p)) := by
  rcases legHold_cases p cls m on d with ⟨h, -⟩ | ⟨h, -⟩ | ⟨h, -, -⟩
  · rw [h, rd_legIgnored]
  · rw [h]
  · rw [h]
    exact rd_wr_ne _ _ (legFlds_apart p).2
theorem legHold_pending {n : Nat} (p cls m on d) : mget (triGet (legHold p cls m on d).fio p).pending n =
    if m = n ∧ triggerHolds d p m = false ∧ legOverride d p = false then some (cls, on) else mget (triGet d.fio p).pending n := by
  rcases legHold_cases p cls m on d with ⟨h, ht⟩ | ⟨h, ho⟩ | ⟨h, ht, ho⟩
  · rw [h, if_neg (by simp [ht])]
    rfl
  · rw [h, if_neg (by simp [ho])]
  · rw [h, legWaits, legPendingBits, wr_fio, triGet_fioSet, mget_mput]
    simp [ht, ho]
/-- Legs held one after the other. -/
theorem legHolds_pending (p : Pier) (cls v n : Nat) (l : List Nat) (d : Dev) :
    mget (triGet (forEach l (fun m d => legHold p cls m (bitOf v m) d) d).fio p).pending n =
      if n ∈ l ∧ triggerHolds d p n = false ∧ legOverride d p = false then some (cls, bitOf v n) else mget (triGet d.fio p).pending n := by
  induction l generalizing d with
  | nil => simp [forEach]
  | cons m l ih =>
    have hg := legHold_gate p cls m (bitOf v m) d
    have hs : forEach (m :: l) (fun m d => legHold p cls m (bitOf v m) d) d =
        forEach l (fun m d => legHold p cls m (bitOf v m) d) (legHold p cls m (bitOf v m) d) := rfl
    rw [hs, ih, legGate_trigger hg, legGate_override hg, legHold_pending]
    by_cases hm : m = n
    · subst hm
      by_cases hc : triggerHolds d p m = false ∧ legOverride d p = false <;> simp [hc]
    · have hm' : n ≠ m := Ne.symm hm
      simp [hm, hm']
theorem rd_legHolds (p : Pier) (cls v : Nat) (l : List Nat) (d : Dev) :
    rd (forEach l (fun m d => legHold p cls m (bitOf v m) d) d) (Reg.FIO_LEG_STATE_APPLIED (sl p)) = rd d (Reg.FIO_LEG_STATE_APPLIED (sl p)) :=
  rd_forEach (fun m _ d => rd_legHold p cls m (bitOf v m) d) d
/-- Under an override no leg is held. -/
theorem legHolds_override {p : Pier} {d : Dev} (h : legOverride d p = true) (cls v : Nat) (l : List Nat) :
    regsOnly d (forEach l (fun m d => legHold p cls m (bitOf v m) d) d) := by
  induction l generalizing d with
  | nil => rfl
  | cons m l ih =>
    have hg := legGate_override (legHold_gate p cls m (bitOf v m) d)
    have h1 : regsOnly d (legHold p cls m (bitOf v m) d) := by
      rcases legHold_cases p cls m (bitOf v m) d with ⟨he, -⟩ | ⟨he, -⟩ | ⟨-, -, ho⟩
      · rw [he]
        rfl
      · rw [he]
        rfl
      · rw [h] at ho
        cases ho
    exact h1.trans (ih (hg.trans h))

/-! ## The flags of an output (R429, R431, R432) -/

theorem inSlice_faults (p) : inSlice p (Reg.FIO_DO_FAULT_EXT_DRIVEN (sl p)) ∧ inSlice p (Reg.FIO_DO_FAULT_OVERLOAD (sl p)) ∧
    inSlice p (Reg.FIO_DO_THERM_THERMAL (sl p)) ∧ inSlice p (Reg.FIO_DO_THERM_LOCKED (sl p)) := by
  simp only [inSlice, fldKey, Reg.FIO_DO_FAULT_EXT_DRIVEN, Reg.FIO_DO_FAULT_OVERLOAD, Reg.FIO_DO_THERM_THERMAL, Reg.FIO_DO_THERM_LOCKED]
  omega
theorem bitF_of_slice {p : Pier} {d t : Dev} (h : sliceView p t = sliceView p d) {g : Fld} (hg : inSlice p g) (i) : bitF t g i = bitF d g i := by
  rw [bitF, rd_of_slice h hg]
  rfl
/-- A bit of a field of every slice written, seen in one of them. -/
theorem slices_bit {g : Nat → Fld} (hg : ∀ p, inSlice p (g (sl p))) {f : Pier → Dev → Dev} (hf : ∀ p q, q ≠ p → ∀ d, sliceView p (f q d) = sliceView p d)
    (p i d) : ∃ e, sliceView p e = sliceView p d ∧ bitF (forEach allPiers f d) (g (sl p)) i = bitF (f p e) (g (sl p)) i := by
  obtain ⟨e, he, hv⟩ := forEach_slice hf p d
  exact ⟨e, he, bitF_of_slice hv (hg p) i⟩
theorem fioThermReview_slice (p n d) : sliceView p (fioThermReview n d) = sliceView p d := by
  have hw : ¬ inSlice p Reg.FIO_SUMMARY_THERMAL := by
    cases p <;> simp [inSlice, fldKey, Reg.FIO_SUMMARY_THERMAL, pierIdx]
  unfold fioThermReview
  dsimp only
  split
  · rw [recordOnce_slice]
    exact wr_slice hw _ _
  · rfl
theorem fioReview_fio (n d) : (fioReview n d).fio = d.fio := by
  unfold fioReview
  extract_lets ext ovl a b c
  have hb : b.fio = d.fio := by
    simp only [b]
    split <;> rfl
  have hc : c.fio = d.fio := by
    simp only [c]
    split
    · split
      · exact hb
      · rw [recordOnce_shape]
        exact hb
    · rfl
  split
  · rw [recordOnce_shape]
    exact hc
  · exact hc
theorem extTimeout_set {d : Dev} {p : Pier} {n : Nat} (hn : n < 16) (hs : bitF d (Reg.FIO_DO_SW_SW_ON (sl p)) n = false)
    (hr : bitF d (Reg.FIO_RB_STATE_DEB (sl p)) n = true) : bitF (extTimeout p n d) (Reg.FIO_DO_FAULT_EXT_DRIVEN (sl p)) n = true := by
  rw [extTimeout, if_pos (by simp [hs, hr]), bitF_of_slice (fioReview_slice p n _) (inSlice_faults p).1, bitF_setBitF _ _ _ _ hn]
  simp
theorem extTimeout_none {d : Dev} {p : Pier} {n : Nat}
    (h : bitF d (Reg.FIO_DO_SW_SW_ON (sl p)) n = true ∨ bitF d (Reg.FIO_RB_STATE_DEB (sl p)) n = false) : extTimeout p n d = d := by
  rw [extTimeout, if_neg]
  rcases h with h | h <;> simp [h]
theorem overloadSet_bit {n : Nat} (hn : n < 16) (p d) : bitF (overloadSet n d) (Reg.FIO_DO_FAULT_OVERLOAD (sl p)) n = true := by
  obtain ⟨e, -, he⟩ := slices_bit (g := Reg.FIO_DO_FAULT_OVERLOAD) (fun p => (inSlice_faults p).2.1)
    (f := fun p d => setBitF d (Reg.FIO_DO_FAULT_OVERLOAD (sl p)) n) (fun p q hq d => wr_otherSlice hq (inSlice_faults q).2.1 _ _) p n d
  rw [overloadSet, bitF_of_slice (fioReview_slice p n _) (inSlice_faults p).2.1, he, bitF_setBitF _ _ _ _ hn]
  simp
theorem overloadClear_bit {n : Nat} (hn : n < 16) (p d) : bitF (overloadClear n d) (Reg.FIO_DO_FAULT_OVERLOAD (sl p)) n = false := by
  obtain ⟨e, -, he⟩ := slices_bit (g := Reg.FIO_DO_FAULT_OVERLOAD) (fun p => (inSlice_faults p).2.1)
    (f := fun p d => clrBitF d (Reg.FIO_DO_FAULT_OVERLOAD (sl p)) n) (fun p q hq d => wr_otherSlice hq (inSlice_faults q).2.1 _ _) p n d
  rw [overloadClear, bitF_of_slice (fioReview_slice p n _) (inSlice_faults p).2.1, he, bitF_clrBitF _ _ _ _ hn]
  simp
theorem overload_fio (n d) : (overloadSet n d).fio = d.fio ∧ (overloadClear n d).fio = d.fio := by
  refine ⟨(fioReview_fio n _).trans ?_, (fioReview_fio n _).trans ?_⟩
  · exact forEach_keeps (v := Dev.fio) (f := fun p d => setBitF d (Reg.FIO_DO_FAULT_OVERLOAD (sl p)) n) (fun _ _ _ => rfl) d
  · exact forEach_keeps (v := Dev.fio) (f := fun p d => clrBitF d (Reg.FIO_DO_FAULT_OVERLOAD (sl p)) n) (fun _ _ _ => rfl) d

/-! ## Output stages (R432) -/

/-- A stage that has shut down, in one slice: the eighth time within 60 s locks it. -/
def stageDown (n times : Nat) (p : Pier) (d : Dev) : Dev :=
  let d := setBitF d (Reg.FIO_DO_THERM_THERMAL (sl p)) n
  if 8 ≤ times then setBitF d (Reg.FIO_DO_THERM_LOCKED (sl p)) n else d
/-- A shutdown noted and counted. -/
def stageCounted (n : Nat) (d : Dev) : Dev :=
  inc { d with io := { d.io with shutdowns := mput d.io.shutdowns n (shutdownsOf d n ++ [d.clk]) } } Reg.FIO_EVT_CNT_THERMAL
theorem thermalShutdown_eq (n d) : thermalShutdown n d =
    fioThermReview n (forEach allPiers (stageDown n (shutdownsOf d n ++ [d.clk]).length) (stageCounted n d)) := rfl
theorem therm_apart (p) : fldKey (Reg.FIO_DO_THERM_LOCKED (sl p)) ≠ fldKey (Reg.FIO_DO_THERM_THERMAL (sl p)) ∧
    fldKey (Reg.FIO_DO_THERM_THERMAL (sl p)) ≠ fldKey Reg.FIO_EVT_CNT_THERMAL ∧
    fldKey (Reg.FIO_DO_THERM_LOCKED (sl p)) ≠ fldKey Reg.FIO_EVT_CNT_THERMAL := by
  simp only [fldKey, Reg.FIO_DO_THERM_LOCKED, Reg.FIO_DO_THERM_THERMAL, Reg.FIO_EVT_CNT_THERMAL]
  omega
theorem stageDown_otherSlice {p q : Pier} (hq : q ≠ p) (n times d) : sliceView p (stageDown n times q d) = sliceView p d := by
  obtain ⟨-, -, ht, hl⟩ := inSlice_faults q
  unfold stageDown
  dsimp only
  split
  · rw [setBitF, wr_otherSlice hq hl, setBitF, wr_otherSlice hq ht]
  · exact wr_otherSlice hq ht _ _
theorem stageDown_thermal {n : Nat} (hn : n < 16) (times p d) : bitF (stageDown n times p d) (Reg.FIO_DO_THERM_THERMAL (sl p)) n = true := by
  have hs : bitF (setBitF d (Reg.FIO_DO_THERM_THERMAL (sl p)) n) (Reg.FIO_DO_THERM_THERMAL (sl p)) n = true := by
    rw [bitF_setBitF _ _ _ _ hn]
    simp
  unfold stageDown
  dsimp only
  split
  · exact (bitF_wr_ne _ _ _ (therm_apart p).1).trans hs
  · exact hs
theorem stageDown_locked {n : Nat} (hn : n < 16) (times p d) : bitF (stageDown n times p d) (Reg.FIO_DO_THERM_LOCKED (sl p)) n =
    (decide (8 ≤ times) || bitF d (Reg.FIO_DO_THERM_LOCKED (sl p)) n) := by
  have hs : bitF (setBitF d (Reg.FIO_DO_THERM_THERMAL (sl p)) n) (Reg.FIO_DO_THERM_LOCKED (sl p)) n =
      bitF d (Reg.FIO_DO_THERM_LOCKED (sl p)) n := bitF_wr_ne _ _ _ (therm_apart p).1.symm
  unfold stageDown
  dsimp only
  split
  · next h =>
    rw [bitF_setBitF _ _ _ _ hn]
    simp [h]
  · next h =>
    rw [hs]
    simp [h]
theorem rd_stageDown_count (n times p d) : rd (stageDown n times p d) Reg.FIO_EVT_CNT_THERMAL = rd d Reg.FIO_EVT_CNT_THERMAL := by
  obtain ⟨-, ht, hl⟩ := therm_apart p
  unfold stageDown
  dsimp only
  split
  · rw [setBitF, rd_wr_ne _ _ hl, setBitF, rd_wr_ne _ _ ht]
  · exact rd_wr_ne _ _ ht
theorem rd_fioThermReview_count (n d) : rd (fioThermReview n d) Reg.FIO_EVT_CNT_THERMAL = rd d Reg.FIO_EVT_CNT_THERMAL := by
  unfold fioThermReview
  dsimp only
  split
  · rw [rd_recordOnce _ _ _ _ _ (by decide) (by decide)]
    exact rd_wr_ne _ _ (by decide)
  · rfl
theorem stageCounted_slice (p n d) : sliceView p (stageCounted n d) = sliceView p d := by
  have hw : ¬ inSlice p Reg.FIO_EVT_CNT_THERMAL := by
    cases p <;> simp [inSlice, fldKey, Reg.FIO_EVT_CNT_THERMAL, pierIdx]
  exact wr_slice hw { d with io := _ } _
/-- A shutdown: shown in every slice, counted, and the stage locked with the eighth. -/
theorem thermalShutdown_spec {n : Nat} (hn : n < 16) (p d) :
    bitF (thermalShutdown n d) (Reg.FIO_DO_THERM_THERMAL (sl p)) n = true ∧
      rd (thermalShutdown n d) Reg.FIO_EVT_CNT_THERMAL = satAdd Reg.FIO_EVT_CNT_THERMAL.w (rd d Reg.FIO_EVT_CNT_THERMAL) 1 ∧
      bitF (thermalShutdown n d) (Reg.FIO_DO_THERM_LOCKED (sl p)) n =
        (decide (7 ≤ (shutdownsOf d n).length) || bitF d (Reg.FIO_DO_THERM_LOCKED (sl p)) n) := by
  obtain ⟨-, -, ht, hl⟩ := inSlice_faults p
  have h8 : (8 ≤ (shutdownsOf d n ++ [d.clk]).length) ↔ 7 ≤ (shutdownsOf d n).length := by
    rw [List.length_append, List.length_singleton]
    omega
  rw [thermalShutdown_eq]
  simp only [← h8]
  generalize (shutdownsOf d n ++ [d.clk]).length = times
  obtain ⟨e, he, hv⟩ := forEach_slice (f := stageDown n times) (fun p q hq d => stageDown_otherSlice hq n times d) p (stageCounted n d)
  refine ⟨?_, ?_, ?_⟩
  · rw [bitF_of_slice (fioThermReview_slice p n _) ht, bitF_of_slice hv ht, stageDown_thermal hn]
  · rw [rd_fioThermReview_count, rd_forEach fun p _ d => rd_stageDown_count n times p d]
    exact rd_inc_same { d with io := _ } Reg.FIO_EVT_CNT_THERMAL
  · rw [bitF_of_slice (fioThermReview_slice p n _) hl, bitF_of_slice hv hl, stageDown_locked hn,
      bitF_of_slice (he.trans (stageCounted_slice p n d)) hl]
theorem thermalRearm_clear {d : Dev} {n : Nat} (hn : n < 16) (h2 : twoLegsOn d n = false) (hl : bitF d (Reg.FIO_DO_THERM_LOCKED 0) n = false) (p) :
    bitF (thermalRearm n d) (Reg.FIO_DO_THERM_THERMAL (sl p)) n = false := by
  obtain ⟨e, -, he⟩ := slices_bit (g := Reg.FIO_DO_THERM_THERMAL) (fun p => (inSlice_faults p).2.2.1)
    (f := fun p d => clrBitF d (Reg.FIO_DO_THERM_THERMAL (sl p)) n) (fun p q hq d => wr_otherSlice hq (inSlice_faults q).2.2.1 _ _) p n d
  rw [thermalRearm, if_neg (by simp [h2, hl]), bitF_of_slice (fioThermReview_slice p n _) (inSlice_faults p).2.2.1, he, bitF_clrBitF _ _ _ _ hn]
  simp
theorem thermalRearm_none {d : Dev} {n : Nat} (h : twoLegsOn d n = true ∨ bitF d (Reg.FIO_DO_THERM_LOCKED 0) n = true) : thermalRearm n d = d := by
  rw [thermalRearm, if_pos (by simpa using h)]

/-! ## A stopped slice clock (R507) -/

theorem legsOff_pending (p d) : (triGet (legsOff p d).fio p).pending = [] := by
  rw [legsOff, legPendingBits, wr_fio, triGet_fioSet]
theorem legsOff_regsBut (p d) : regsBut [Reg.FIO_LEG_STATE_APPLIED (sl p), Reg.FIO_LEG_STATE_PENDING (sl p)] d (legsOff p d) := fun g hg => by
  simp only [List.forall_mem_cons] at hg
  obtain ⟨ha, hp, -⟩ := hg
  rw [legsOff, legPendingBits, rd_wr_ne _ _ hp, rd_fioSet, rd_wr_ne _ _ ha]

/-- Settles O44: leg writes by what decides on them, stages slice by slice. -/
theorem legsAndStages : Obligations.LegsAndStages := by
  unfold Obligations.LegsAndStages
  intro s p n hs hn
  refine ⟨fun v ht => ?_, fun v ht => ?_, fun cls v hl => ?_, fun cls v hl ho => ?_, fun cls v hl ht ho hm => ?_, fun hsw hr => ?_, fun h => ?_,
    ?_, ?_, ?_, fun h2 hl => ?_, fun h => ?_, ?_⟩
  · rw [answers_of (i := .fioLegWr p v) rfl hs]
    refine ⟨?_, fioLegWr_regsOnly p v s.dev⟩
    rw [fioLegWr_bit hn]
    simp only [ht, and_true]
  · rw [answers_of (i := .fioLegWr p v) rfl hs, fioLegWr_bit hn, if_neg (by simp [ht])]
  · rw [answers_of (i := .fioLegWrAtLaunch p cls v) rfl hs, fioLegWrAtLaunch_missed hl]
    exact ⟨fioLegWr_bit hn p v s.dev, fioLegWr_regsOnly p v s.dev⟩
  · rw [answers_of (i := .fioLegWrAtLaunch p cls v) rfl hs, fioLegWrAtLaunch_waits hl]
    exact ⟨rd_legHolds _ _ _ _ _, legHolds_override ho _ _ _⟩
  · rw [answers_of (i := .fioLegWrAtLaunch p cls v) rfl hs, fioLegWrAtLaunch_waits hl]
    exact ⟨(legHolds_pending _ _ _ _ _ _).trans (if_pos ⟨mem_bitsOf.mpr ⟨hn, hm⟩, ht, ho⟩), rd_legHolds _ _ _ _ _⟩
  · rw [answers_of (i := .extDrivenTimeout p n) rfl hs]
    exact extTimeout_set hn hsw hr
  · rw [answers_of (i := .extDrivenTimeout p n) rfl hs]
    exact extTimeout_none h
  · rw [answers_of (i := .overloadSet n) rfl hs]
    exact ⟨overloadSet_bit hn p s.dev, (overload_fio n s.dev).1⟩
  · rw [answers_of (i := .overloadClear n) rfl hs]
    exact ⟨overloadClear_bit hn p s.dev, (overload_fio n s.dev).2⟩
  · rw [answers_of (i := .thermalShutdown n) rfl hs]
    exact thermalShutdown_spec hn p s.dev
  · rw [answers_of (i := .thermalRearm n) rfl hs]
    exact thermalRearm_clear hn h2 hl p
  · rw [answers_of (i := .thermalRearm n) rfl hs]
    exact thermalRearm_none h
  · rw [answers_of (i := .sliceClockStop p) (f := legsOff p) rfl hs]
    exact ⟨rd_legsOff_same p s.dev, legsOff_pending p s.dev, legsOff_regsBut p s.dev⟩

end Sys2Proof.Machine
end

section
/-!
SUPPORT. The words of the mode, MODE, PREV and MODE_SEQ, across everything that follows a mode change in its boundary; then the changes at a
boundary and AUTORUN.
-/
namespace Sys2Proof.Machine

/-! ## The words of the mode -/

/-- The register of MODE, PREV and MODE_SEQ, and the boot step, which a mode change leaves. -/
def modeKey (k : Nat) : Bool := k / 32 == 0x40000004 || k == fldKey Reg.MCTL_BOOT_STEP
/-- The register of the mode, the boot step, and whether AUTORUN waits. -/
def modeWords (d : Dev) : (Nat → Option Nat) × Bool := (regsIn modeKey d, d.mode.autorun)
theorem rd_of_modeWords {d t : Dev} (h : modeWords t = modeWords d) {g : Fld} (hg : modeKey (fldKey g) = true) : rd t g = rd d g :=
  rd_of_regsIn (congrArg Prod.fst h) hg
theorem autorun_of_modeWords {d t : Dev} (h : modeWords t = modeWords d) : t.mode.autorun = d.mode.autorun := congrArg Prod.snd h
theorem controlKey_of_modeKey {k : Nat} (h : modeKey k = true) : controlKey k = true := by
  simp only [modeKey, Bool.or_eq_true, beq_iff_eq, fldKey, Reg.MCTL_BOOT_STEP] at h
  simp only [controlKey, Bool.and_eq_true, decide_eq_true_eq, bne_iff_ne]
  omega
theorem modeWords_of_control {d t : Dev} (h : control t = control d) (hm : t.mode.autorun = d.mode.autorun) : modeWords t = modeWords d := by
  refine Prod.ext (funext fun k => ?_) hm
  have hk : regsIn controlKey t k = regsIn controlKey d k := congrFun (congrArg Prod.fst h) k
  by_cases hc : modeKey k = true
  · simpa [modeWords, regsIn, hc, controlKey_of_modeKey hc] using hk
  · simp [modeWords, regsIn, hc]
@[simp] theorem modeWords_ite (c : Prop) [Decidable c] (a b : Dev) : modeWords (if c then a else b) = if c then modeWords a else modeWords b :=
  apply_ite modeWords c a b
@[simp] theorem forEach_modeWords {α : Type} (l : List α) (f : α → Dev → Dev) (d : Dev) (h : ∀ x d, modeWords (f x d) = modeWords d) :
    modeWords (forEach l f d) = modeWords d := forEach_keeps (v := modeWords) (fun x _ d => h x d) d
theorem wr_modeWords {f : Fld} (h : modeKey (fldKey f) = false) (d v) : modeWords (wr d f v) = modeWords d :=
  congrArg (·, d.mode.autorun) (regsIn_wr h d v)
theorem modeKey_outer {f : Fld} (h : outer f) : modeKey (fldKey f) = false :=
  Bool.eq_false_iff.mpr fun hc => Bool.noConfusion ((controlKey_of_modeKey hc).symm.trans (controlKey_outer h))
@[simp] theorem wr_outer_modeWords {f : Fld} (h : outer f) (d v) : modeWords (wr d f v) = modeWords d := wr_modeWords (modeKey_outer h) d v
@[simp] theorem wrB_outer_modeWords {f : Fld} (h : outer f) (d b) : modeWords (wrB d f b) = modeWords d := wr_outer_modeWords h d _

/-! ### The operations of a boundary leave them -/

theorem mode_of_hostView {d t : Dev} (h : hostView t = hostView d) : t.mode = d.mode := congrArg (·.mode) h
theorem mode_of_answerView {d t : Dev} (h : answerView t = answerView d) : t.mode = d.mode := congrArg (·.mode) h
@[simp] theorem cmdFinal_modeWords (s st r d) : modeWords (cmdFinal s st r d) = modeWords d :=
  modeWords_of_control (cmdFinal_control s st r d) (congrArg (·.autorun) (mode_of_hostView (cmdFinal_hostView s st r d)))
@[simp] theorem hiRoleReview_modeWords (d) : modeWords (hiRoleReview d) = modeWords d := by
  refine modeWords_of_control ?_ (congrArg (·.autorun) (mode_of_answerView (hiRoleReview_answerView d)))
  simp [hiRoleReview, acceptPut, Reg.HI_STATUS_EXECUTING, Reg.HI_STATUS_ACCEPT]
theorem modeWords_of_waitView {d t : Dev} (hc : control t = control d) (h : waitView t = waitView d) : modeWords t = modeWords d :=
  modeWords_of_control hc (congrArg (·.autorun) (waitView_mode h))
@[simp] theorem trigDisarmAll_modeWords (d) : modeWords (trigDisarmAll d) = modeWords d := modeWords_of_waitView (by simp) (by simp)
@[simp] theorem allLegsOff_modeWords (d) : modeWords (allLegsOff d) = modeWords d := modeWords_of_waitView (by simp) (by simp)
@[simp] theorem gbSafeRun_modeWords (m d) : modeWords (gbSafeRun m d) = modeWords d := modeWords_of_waitView (by simp) (by simp)
@[simp] theorem pinReview_modeWords (d) : modeWords (pinReview d) = modeWords d := modeWords_of_waitView (by simp) (by simp)
@[simp] theorem canHeartbeats_modeWords (d) : modeWords (canHeartbeats d) = modeWords d := modeWords_of_waitView (by simp) (by simp)
@[simp] theorem inhibitReview_modeWords (d) : modeWords (inhibitReview d) = modeWords d := modeWords_of_waitView (by simp) (by simp)
@[simp] theorem claimReview_modeWords (d) : modeWords (claimReview d) = modeWords d :=
  modeWords_of_control (by simp [claimReview, Reg.DX_CLAIM_OWN, Reg.DX_CLAIM_HIGHER]) rfl
@[simp] theorem launchesDrop_modeWords (d) : modeWords (launchesDrop d) = modeWords d := modeWords_of_control (runsReview_control _) rfl
@[simp] theorem resyncEnd_modeWords (d) : modeWords (resyncEnd d) = modeWords d :=
  (wr_modeWords (f := Reg.KS_RESYNC_STATUS_PHASE) (by decide) _ 0).trans (wr_modeWords (f := Reg.KS_STATUS_RESYNC_PHASE) (by decide) d 0)
@[simp] theorem dxSet_modeWords (f d) : modeWords (dxSet f d) = modeWords d := (rfl)
@[simp] theorem cycSet_modeWords (f d) : modeWords (cycSet f d) = modeWords d := (rfl)
@[simp] theorem cwSet_modeWords (n f d) : modeWords (cwSet n f d) = modeWords d := (rfl)
theorem modeSet_modeWords {f : ModeUnit → ModeUnit} {d : Dev} (h : (f d.mode).autorun = d.mode.autorun) : modeWords (modeSet f d) = modeWords d :=
  congrArg (regsIn modeKey d, ·) h
theorem outer_clsCyc (c) : outer (Reg.CYC_CLS_CYC c) := by simp [Reg.CYC_CLS_CYC, Nat.le_add_right_of_le]
@[simp] theorem cwFlush_modeWords (n d) : modeWords (cwFlush n d) = modeWords d := by
  have ho : outer (Reg.CW_STATUS_HO n) ∧ outer (Reg.CW_HOLD_HO_COUNT n) := by
    simp [Reg.CW_STATUS_HO, Reg.CW_HOLD_HO_COUNT, Nat.le_add_right_of_le]
  obtain ⟨hs, hc⟩ := ho
  simp [cwFlush, cwHold, cwSetHo, inc, incBy, hs, hc]
@[simp] theorem stepPreempt_modeWords (d) : modeWords (stepPreempt d) = modeWords d := by
  unfold stepPreempt
  split
  · rfl
  · exact (modeSet_modeWords rfl).trans (by simp [Reg.CYC_STEP_REMAIN])

/-! ### The start of the application (R88, R99) -/

@[simp] theorem coldStart_modeWords (d) : modeWords (coldStart d) = modeWords d := by
  have hp : modeWords (piersInit d) = modeWords d := forEach_modeWords _ _ d fun _ _ => rfl
  refine (modeSet_modeWords rfl).trans ?_
  simp [outer_clsCyc, wrB, wr_modeWords (f := Reg.MCTL_BOOT_WARM) (by decide), hp]
@[simp] theorem cpRestore_modeWords (c d) : modeWords (cpRestore c d) = modeWords d :=
  (forEach_modeWords c.cycles _ _ fun e d => wr_outer_modeWords (outer_clsCyc e.1) d e.2)
@[simp] theorem forcesReplay_modeWords (p d) : modeWords (forcesReplay p d) = modeWords d := forEach_modeWords _ _ d fun _ _ => rfl
@[simp] theorem appStart_modeWords (d) : modeWords (appStart d) = modeWords d := by
  unfold appStart
  split
  · rfl
  · split
    · exact coldStart_modeWords d
    · rw [forcesReplay_modeWords, modeSet_modeWords rfl, cpRestore_modeWords, wrB, wr_modeWords (by decide)]

/-- After a mode change no operation of the boundary touches the mode, and AUTORUN no longer waits. -/
theorem modeEnter_modeWords (m d) : modeWords (modeEnter m d) = modeWords (modeSet (fun x => { x with autorun := false }) (modeWrite m d)) := by
  have hr : ∀ d v, modeWords (wr d Reg.MCTL_BOOT_TIME_TO_RUN_MS v) = modeWords d := wr_modeWords (by decide)
  have hl : modeWords (modeSet (fun x => { x with autorun := false }) (launchesDrop (modeWrite m d))) =
      modeWords (modeSet (fun x => { x with autorun := false }) (modeWrite m d)) :=
    congrArg (·.1, false) (launchesDrop_modeWords (modeWrite m d))
  have hc : ∀ d v, modeWords (wr d Reg.CYC_STATUS_STATE v) = modeWords d := wr_modeWords (by decide)
  have hv : ∀ d v, modeWords (wr d Reg.CYC_VTICK v) = modeWords d := wr_modeWords (by decide)
  simp only [modeEnter, hiRoleReview_modeWords, inhibitReview_modeWords, canHeartbeats_modeWords, claimReview_modeWords, pinReview_modeWords,
    modeWords_ite, stepPreempt_modeWords, hr, cwFlush_modeWords, appStart_modeWords, hc, hv, dxSet_modeWords, resyncEnd_modeWords, gbSafeRun_modeWords,
    trigDisarmAll_modeWords, allLegsOff_modeWords, hl, ite_self]

/-! ## The changes at a boundary (R90, R91, R94) -/

/-- A mode entered: MODE, PREV and MODE_SEQ (R90). -/
def modeEntered (m : Nat) (d t : Dev) : Prop :=
  modeOf t = m ∧ rd t Reg.MCTL_MODE_PREV = modeOf d ∧ rd t Reg.MCTL_MODE_MODE_SEQ = trunc 16 (rd d Reg.MCTL_MODE_MODE_SEQ + 1)
theorem modeOf_of_modeWords {d t : Dev} (h : modeWords t = modeWords d) : modeOf t = modeOf d := rd_of_modeWords h (by decide)
theorem modeEntered_of_modeWords {m : Nat} {d d' t t' : Dev} (hd : modeWords d' = modeWords d) (ht : modeWords t' = modeWords t)
    (h : modeEntered m d' t') : modeEntered m d t := by
  obtain ⟨hm, hp, hq⟩ := h
  exact ⟨(modeOf_of_modeWords ht).symm.trans hm, (rd_of_modeWords ht (by decide)).symm.trans (hp.trans (modeOf_of_modeWords hd)),
    (rd_of_modeWords ht (by decide)).symm.trans (hq.trans (by rw [rd_of_modeWords hd (by decide)]))⟩
theorem modeEnter_entered {m : Nat} {d : Dev} (hm : m < 16) (hd : modeOf d < 16) : modeEntered m d (modeEnter m d) := by
  have hw : ∀ {g : Fld}, modeKey (fldKey g) = true → rd (modeEnter m d) g = rd (wr (incW (wr d Reg.MCTL_MODE_PREV (modeOf d))
      Reg.MCTL_MODE_MODE_SEQ) Reg.MCTL_MODE_MODE m) g := fun hg => by
    rw [rd_of_modeWords (modeEnter_modeWords m d) hg, rd_modeSet, rd_of_control (modeWrite_control m d) (controlKey_of_modeKey hg)]
  refine ⟨?_, ?_, ?_⟩
  · rw [modeOf, hw (by decide), rd_wr_same]
    exact Nat.mod_eq_of_lt hm
  · rw [hw (by decide), rd_wr_ne _ _ (by decide), incW, rd_wr_ne _ _ (by decide), rd_wr_same]
    exact Nat.mod_eq_of_lt hd
  · rw [hw (by decide), rd_wr_ne _ _ (by decide), incW, rd_wr_same, rd_wr_ne _ _ (by decide)]
    rfl
theorem modeEnter_autorun (m d) : (modeEnter m d).mode.autorun = false := autorun_of_modeWords (modeEnter_modeWords m d)

/-- A trigger that outranks the requests takes effect (R91). -/
theorem modeBoundary_trigger {m : Nat} {d : Dev} (h : boundaryTrigger d = some m) (hm : m < 16) (hd : modeOf d < 16) :
    modeEntered m d (modeBoundary d) := by
  have hf : ∀ st (l : List Nat) d, modeWords (forEach l (fun s d => cmdFinal s st (modeResult d) d) d) = modeWords d :=
    fun st l d => forEach_modeWords l _ d fun s d => cmdFinal_modeWords s st _ d
  simp only [modeBoundary, h]
  generalize he : forEach (d.mode.reqs.filter fun s => !(requestsOvertaken d d.mode.reqs).contains s)
    (fun s d => cmdFinal s St.MODE_CONDITION (modeResult d) d) d = e
  have hw : modeWords e = modeWords d := by rw [← he, hf]
  have ht : modeEntered m e (modeEnter m e) := modeEnter_entered hm ((modeOf_of_modeWords hw).trans_lt hd)
  generalize modeEnter m e = t at ht
  have hc : modeWords (modeSet (fun m => { m with reqs := [], leaseLost := false, permitLost := false }) t) = modeWords t := modeSet_modeWords rfl
  exact modeEntered_of_modeWords hw ((hf _ _ _).trans hc).symm ht

/-- The arguments of a request for STOP, HOLD or SERVICE whose condition holds, and the mode it asks for (R90). -/
def requestsMode (d : Dev) (x : Desc) (m : Nat) : Prop :=
  (argB x 0 = 0 ∧ m = mSTOP ∧ (modeOf d = mRUN ∨ modeOf d = mHOLD)) ∨
    (argB x 0 = 2 ∧ bitOf (argB x 3) 0 = false ∧ m = mHOLD ∧ modeOf d = mSTOP ∧ holdAllowed d = true) ∨
    (argB x 0 = 4 ∧ m = mSERVICE ∧ modeOf d = mSTOP ∧ flag d Reg.MCTL_PINS_SVC_PERMIT = true)
/-- Such a request takes effect: its mode, then its completion. -/
theorem requestApply_mode {d x : Dev} {c : HiCmd} {m : Nat} (h : requestsMode x c.desc m) :
    ∃ r, requestApply c d = cmdFinal c.seq St.OK r (modeEnter m d) := by
  refine ⟨modeResult (modeEnter m d), ?_⟩
  obtain ⟨ha, rfl, -⟩ | ⟨ha, -, rfl, -⟩ | ⟨ha, rfl, -⟩ := h <;> simp [requestApply, ha]
theorem requestsMode_holds {d : Dev} {x : Desc} {m : Nat} (h : requestsMode d x m) :
    requestHolds d x = true ∧ isBreak x = false ∧ m < 16 ∧ modeOf d < 16 := by
  obtain ⟨ha, rfl, hm | hm⟩ | ⟨ha, hb, rfl, hm, hp⟩ | ⟨ha, rfl, hm, hp⟩ := h
  · simp [requestHolds, isBreak, requestAllowed, ha, hm, mRUN, mSTOP]
  · simp [requestHolds, isBreak, requestAllowed, ha, hm, mHOLD, mSTOP]
  · simp [requestHolds, isBreak, requestAllowed, ha, hb, hm, hp, mHOLD, mSTOP]
  · simp [requestHolds, isBreak, requestAllowed, ha, hm, hp, mSERVICE, mSTOP]
/-- A write of the breakpoint and the waiting triggers leave what a request's condition reads. -/
theorem requestsMode_of_rd {d t : Dev} {x : Desc} {m : Nat} (hm : modeOf t = modeOf d)
    (hp : flag t Reg.MCTL_PINS_SVC_PERMIT = flag d Reg.MCTL_PINS_SVC_PERMIT) (hc : flag t Reg.MCTL_CFG_COMMISSION_EN = flag d Reg.MCTL_CFG_COMMISSION_EN)
    (h : requestsMode d x m) : requestsMode t x m := by
  simpa only [requestsMode, holdAllowed, hm, hp, hc] using h

/-- The breakpoint that a request names STOP for is cleared before its condition is asked (R188). -/
def breakCleared (c : HiCmd) (d : Dev) : Dev := if c.desc.op = 1 ∧ argB c.desc 0 = 0 then wrB d Reg.CYC_BRK_EN false else d
theorem rd_breakCleared {g : Fld} (hg : fldKey Reg.CYC_BRK_EN ≠ fldKey g) (c d) : rd (breakCleared c d) g = rd d g := by
  unfold breakCleared
  split
  · exact rd_wrB_ne _ _ hg
  · rfl
theorem breakCleared_modeWords (c d) : modeWords (breakCleared c d) = modeWords d := by
  rw [breakCleared, modeWords_ite, wrB_outer_modeWords (by simp [Reg.CYC_BRK_EN]), ite_self]
theorem requestsMode_breakCleared {d : Dev} {x : Desc} {m : Nat} (h : requestsMode d x m) (c) : requestsMode (breakCleared c d) x m :=
  requestsMode_of_rd (rd_breakCleared (by decide) c d) (by rw [flag, rd_breakCleared (by decide)]; rfl)
    (by rw [flag, rd_breakCleared (by decide)]; rfl) h

/-- The one waiting request, its condition met: its mode is entered and it completes. -/
theorem requestsTake_mode {c : HiCmd} {d : Dev} {m : Nat} (hc : cmdOf d c.seq = some c) (h : requestsMode d c.desc m) :
    ∃ r, requestsTake [c.seq] d = cmdFinal c.seq St.OK r (modeEnter m (modeSet (fun m => { m with autorun := false }) (breakCleared c d))) := by
  have hf := requestsMode_breakCleared h c
  obtain ⟨hh, hb, -⟩ := requestsMode_holds hf
  obtain ⟨r, hq⟩ := requestApply_mode (d := modeSet (fun m => { m with autorun := false }) (breakCleared c d)) hf
  refine ⟨r, ?_⟩
  rw [← hq]
  unfold breakCleared at hh ⊢
  simp only [requestsTake, hc, hh, hb, Bool.not_true, Bool.false_eq_true, if_false, forEach, List.foldl_nil]
theorem modeEntered_modeSet {m : Nat} {f : ModeUnit → ModeUnit} {d t : Dev} (h : modeEntered m (modeSet f d) t) : modeEntered m d t := by
  simpa only [modeEntered, modeOf, rd_modeSet] using h
/-- A single request whose condition holds takes effect at its boundary, and AUTORUN waits no more (R90, R91). -/
theorem modeBoundary_request {c : HiCmd} {d : Dev} {m : Nat} (ht : boundaryTrigger d = none) (hr : d.mode.reqs = [c.seq])
    (hc : cmdOf d c.seq = some c) (h : requestsMode d c.desc m) : modeEntered m d (modeBoundary d) := by
  simp only [modeBoundary, ht, hr]
  generalize he : modeSet (fun m => { m with reqs := [], leaseLost := false, permitLost := false }) d = e
  have hew : modeWords e = modeWords d := by rw [← he, modeSet_modeWords rfl]
  have hec : cmdOf e c.seq = some c := by rw [← he]; exact hc
  have heh : requestsMode e c.desc m := by rw [← he]; exact requestsMode_of_rd rfl rfl rfl h
  obtain ⟨-, -, hm, hd⟩ := requestsMode_holds (requestsMode_breakCleared heh c)
  obtain ⟨r, hq⟩ := requestsTake_mode hec heh
  have hg : modeEntered m (breakCleared c e) (modeEnter m (modeSet (fun m => { m with autorun := false }) (breakCleared c e))) :=
    modeEntered_modeSet (modeEnter_entered hm (by simpa only [modeOf, rd_modeSet] using hd))
  have ha := modeEnter_autorun m (modeSet (fun m => { m with autorun := false }) (breakCleared c e))
  generalize modeEnter m (modeSet (fun m => { m with autorun := false }) (breakCleared c e)) = t at hq hg ha
  have hn : autorunReady (cmdFinal c.seq St.OK r t) = false := by
    rw [autorunReady, autorun_of_modeWords (cmdFinal_modeWords _ _ _ t), ha, Bool.false_and, Bool.false_and]
  rw [hq, hn]
  exact modeEntered_of_modeWords ((breakCleared_modeWords c e).trans hew) (cmdFinal_modeWords _ _ _ t).symm hg

/-- Settles O32: the trigger of the boundary enters its mode, then the one request, then AUTORUN; nothing that follows in the boundary writes
the mode again. -/
theorem modesChangeAtBoundaries : Obligations.ModesChangeAtBoundaries := by
  intro s hs
  refine ⟨fun hl hm => ?_, fun hl hp hm hf => ?_, fun c m ht hr hc _ h => ?_, fun ha hm hl hr hrun => ?_⟩
  · rw [answers_of (i := .modeChange) rfl hs]
    exact modeBoundary_trigger (by simp [boundaryTrigger, hl, hm]) (by decide) (by obtain h | h | h := hm <;> rw [h] <;> decide)
  · rw [answers_of (i := .modeChange) rfl hs, ← hm]
    exact modeBoundary_trigger (by simp [boundaryTrigger, hl, hp, hm, hf]) (by decide) (by rw [hm]; decide)
  · rw [answers_of (i := .modeChange) rfl hs]
    exact modeBoundary_request ht hr hc h
  · have hready : autorunReady s.dev = true := by simp [autorunReady, ha, modeIs, hm, hrun]
    have hnone : boundaryTrigger s.dev = none := by simp [boundaryTrigger, hl, hm, mSTOP, mHOLD]
    rw [answers_of (i := .autorunStart) rfl hs, ← hm, autorunStart, if_pos (by simp [hready, hnone, hr, requestsOvertaken])]
    exact modeEnter_entered (by decide) (by rw [hm]; decide)

end Sys2Proof.Machine
end

section
/-!
SUPPORT. What the boot sequence reads and shows of the register table, with module control, across the host interface, the recorder and the
units that boot starts.
-/
namespace Sys2Proof.Machine

/-! ## The fields of the boot sequence (R80, R85) -/

/-- The fields on which the role and the first mode are decided, and those that show the sequence. -/
def bootFields : List Fld :=
  [Reg.MCTL_BOOT_STEP, Reg.MCTL_MODE_MODE, Reg.MCTL_MODE_ROLE, Reg.MCTL_PINS_POS, Reg.MCTL_PINS_PEER_ALIVE, Reg.MCTL_PINS_PEER_STANDBY,
    Reg.MCTL_CFG_DUPLEX, Reg.KS_STATUS_IN_SERVICE, Reg.KS_STATUS_ISOLATED, Reg.HI_STATUS_READY, Reg.HI_STATUS_RECOVERED,
    Reg.DX_STATUS_POS_CONFLICT, Reg.DX_STATUS_LK_A_UP, Reg.DX_STATUS_LK_B_UP, Reg.DX_PEER_VALID, Reg.DX_PEER_MODE, Reg.DX_PEER_ROLE]
/-- Their numbers in the register table. -/
def bootKey (k : Nat) : Bool := bootFields.any fun f => fldKey f == k
/-- Those fields, and module control. -/
def bootView (d : Dev) : (Nat → Option Nat) × ModeUnit := (regsIn bootKey d, d.mode)
theorem rd_of_bootView {d t : Dev} (h : bootView t = bootView d) {g : Fld} (hg : bootKey (fldKey g) = true) : rd t g = rd d g :=
  rd_of_regsIn (congrArg Prod.fst h) hg
theorem flag_of_bootView {d t : Dev} (h : bootView t = bootView d) {g : Fld} (hg : bootKey (fldKey g) = true) : flag t g = flag d g := by
  rw [flag, flag, rd_of_bootView h hg]
theorem mode_of_bootView {d t : Dev} (h : bootView t = bootView d) : t.mode = d.mode := congrArg Prod.snd h
theorem modeOf_of_bootView {d t : Dev} (h : bootView t = bootView d) : modeOf t = modeOf d := rd_of_bootView h (by decide)
@[simp] theorem bootView_ite (c : Prop) [Decidable c] (a b : Dev) : bootView (if c then a else b) = if c then bootView a else bootView b :=
  apply_ite bootView c a b
@[simp] theorem forEach_bootView {α : Type} (l : List α) (f : α → Dev → Dev) (d : Dev) (h : ∀ x d, bootView (f x d) = bootView d) :
    bootView (forEach l f d) = bootView d := forEach_keeps (v := bootView) (fun x _ d => h x d) d
@[simp] theorem wr_bootView {f : Fld} (h : bootKey (fldKey f) = false) (d v) : bootView (wr d f v) = bootView d :=
  congrArg (·, d.mode) (regsIn_wr h d v)
@[simp] theorem wrB_bootView {f : Fld} (h : bootKey (fldKey f) = false) (d b) : bootView (wrB d f b) = bootView d := wr_bootView h d _
@[simp] theorem inc_bootView {f : Fld} (h : bootKey (fldKey f) = false) (d) : bootView (inc d f) = bootView d := wr_bootView h d _
@[simp] theorem wrSat_bootView {f : Fld} (h : bootKey (fldKey f) = false) (d v) : bootView (wrSat d f v) = bootView d := wr_bootView h d _
/-- What a write leaves at its own number depends on the write alone. -/
theorem mget_regPut_of_eq {m m' : NMap Nat} {k : Nat} (h : mget m k = mget m' k) (f v) : mget (regPut m f v) k = mget (regPut m' f v) k := by
  unfold regPut
  split
  · rw [mget_mdel, mget_mdel, h]
  · rw [mget_mput, mget_mput, h]
theorem wr_bootView_congr {d t : Dev} (h : bootView t = bootView d) (f v) : bootView (wr t f v) = bootView (wr d f v) := by
  have hm : t.mode = d.mode := mode_of_bootView h
  refine Prod.ext (funext fun k => ?_) hm
  have hk : regsIn bootKey t k = regsIn bootKey d k := congrFun (congrArg Prod.fst h) k
  by_cases hb : bootKey k = true
  · simp only [regsIn, hb, if_true] at hk
    simp only [bootView, regsIn, hb, if_true, wr_regs, mget_regPut_of_eq hk]
  · simp [bootView, regsIn, hb]
theorem modeSet_bootView_congr {d t : Dev} (h : bootView t = bootView d) (f) : bootView (modeSet f t) = bootView (modeSet f d) :=
  congrArg (fun v => (v.1, f v.2)) h
/-- No field of the boot sequence lies beyond the Duplex link's registers. -/
theorem bootKey_far {f : Fld} (h : 0x40090000 ≤ f.addr) : bootKey (fldKey f) = false := by
  have hk : ∀ g ∈ bootFields, fldKey g < 0x40090000 * 32 := by decide
  have hf : 0x40090000 * 32 ≤ fldKey f := by
    unfold fldKey
    omega
  refine List.any_eq_false.mpr fun g hg hc => ?_
  have := hk g hg
  rw [beq_iff_eq] at hc
  omega
/-- No field of the boot sequence is taken for the state of a completion ring, whatever the number of the ring. -/
theorem bootKey_ring (q) : bootKey (fldKey (Reg.HI_CQ_STATE_TAIL q)) = false ∧ bootKey (fldKey (Reg.HI_CQ_STATE_PHASE q)) = false := by
  have hk : ∀ g ∈ bootFields, fldKey g < 0x4007040C * 32 ∨ (fldKey g / 32) % 32 ≠ 12 := by decide
  have hn : ∀ f : Fld, 0x4007040C * 32 ≤ fldKey f → (fldKey f / 32) % 32 = 12 → bootKey (fldKey f) = false := fun f hf hm =>
    List.any_eq_false.mpr fun g hg hc => by
      have := hk g hg
      rw [beq_iff_eq] at hc
      rw [hc] at this
      omega
  refine ⟨hn _ ?_ ?_, hn _ ?_ ?_⟩ <;> simp only [fldKey, Reg.HI_CQ_STATE_TAIL, Reg.HI_CQ_STATE_PHASE] <;> omega

/-! ### Messages and events -/

@[simp] theorem emit_bootView (o d) : bootView (emit o d) = bootView d := (rfl)
@[simp] theorem hiSet_bootView (f d) : bootView (hiSet f d) = bootView d := (rfl)
@[simp] theorem bpSet_bootView (f d) : bootView (bpSet f d) = bootView d := (rfl)
@[simp] theorem updSet_bootView (f d) : bootView (updSet f d) = bootView d := (rfl)
@[simp] theorem csSet_bootView (f d) : bootView (csSet f d) = bootView d := (rfl)
@[simp] theorem tuSet_bootView (f d) : bootView (tuSet f d) = bootView d := (rfl)
@[simp] theorem lbSet_bootView (n f d) : bootView (lbSet n f d) = bootView d := (rfl)
@[simp] theorem cwSet_bootView (n f d) : bootView (cwSet n f d) = bootView d := (rfl)
@[simp] theorem dxSet_bootView (f d) : bootView (dxSet f d) = bootView d := (rfl)
@[simp] theorem msix_bootView (v d) : bootView (msix v d) = bootView d := by rw [msix_shape]; rfl
theorem intakeDrop_bootView (e d) : bootView (intakeDrop e d) = bootView d := inc_bootView (f := Reg.EV_COUNT_DROPPED) (by decide) _
theorem intakeAdd_bootView (e d) : bootView (intakeAdd e d) = bootView d := by
  unfold intakeAdd
  split
  · rfl
  · exact intakeDrop_bootView e d
theorem intakeOverflow_bootView (d) : bootView (intakeOverflow d) = bootView d := by
  unfold intakeOverflow
  split <;> rfl
theorem suppress_bootView (e d) : bootView (suppress e d) = bootView d := inc_bootView (f := Reg.EV_COUNT_SUPPRESSED) (by decide) _
@[simp] theorem intake_bootView (e d) : bootView (intake e d) = bootView d := by
  have ho := intakeOverflow_bootView d
  simp only [intake]
  generalize intakeOverflow d = x at ho ⊢
  rw [← ho]
  split
  · exact intakeAdd_bootView e x
  · split_ifs
    · exact suppress_bootView e x
    · rfl
    · exact intakeDrop_bootView e x
@[simp] theorem record_bootView (c l d) : bootView (record c l d) = bootView d := intake_bootView _ _
@[simp] theorem recordP_bootView (c p l d) : bootView (recordP c p l d) = bootView d := intake_bootView _ _
@[simp] theorem updEvent_bootView (c l d) : bootView (updEvent c l d) = bootView d := by simp [updEvent]
@[simp] theorem loenpa_bootView (m d) : bootView (loenpa m d) = bootView d := by simp [loenpa]

/-! ### The host interface -/

@[simp] theorem cqMessage_bootView (q d) : bootView (cqMessage q d) = bootView d := by simp [cqMessage]
@[simp] theorem cqWrite_bootView (q c d) : bootView (cqWrite q c d) = bootView d := by
  obtain ⟨ht, hp⟩ := bootKey_ring q
  simp [cqWrite, wr_bootView ht, wr_bootView hp]
@[simp] theorem cqFlushList_bootView (l kept d) : bootView (cqFlushList l kept d) = bootView d := by
  induction l generalizing kept d with
  | nil => simp [cqFlushList]
  | cons e r ih => simp [cqFlushList, ih]
@[simp] theorem resultWrite_bootView (addr out d) : bootView (resultWrite addr out d) = bootView d := by simp [resultWrite]
@[simp] theorem cqFlush_bootView (d) : bootView (cqFlush d) = bootView d := by simp [cqFlush]
@[simp] theorem cqPut_bootView (c d) : bootView (cqPut c d) = bootView d := by simp [cqPut]
@[simp] theorem rejectsFlush_bootView (d) : bootView (rejectsFlush d) = bootView d := by simp [rejectsFlush]
@[simp] theorem jReview_bootView (d) : bootView (jReview d) = bootView d := by simp (disch := decide) [jReview]
@[simp] theorem jPut_bootView (s e d) : bootView (jPut s e d) = bootView d := by simp (disch := decide) [jPut]
@[simp] theorem jAppend_bootView (e d) : bootView (jAppend e d) = bootView d := by simp [jAppend]
@[simp] theorem openReview_bootView (d) : bootView (openReview d) = bootView d := wrSat_bootView (by decide) _ _
@[simp] theorem cmdLeave_bootView (s d) : bootView (cmdLeave s d) = bootView d := by simp [cmdLeave]
@[simp] theorem resultStore_bootView (s r d) : bootView (resultStore s r d) = bootView d := by simp [resultStore]
@[simp] theorem cmdDone_bootView (c st r d) : bootView (cmdDone c st r d) = bootView d := by simp [cmdDone]
@[simp] theorem cmdFinal_bootView (s st r d) : bootView (cmdFinal s st r d) = bootView d := by
  unfold cmdFinal
  split <;> simp
@[simp] theorem acceptPut_bootView (v d) : bootView (acceptPut v d) = bootView d := by simp (disch := decide) [acceptPut]
@[simp] theorem hiRoleReview_bootView (d) : bootView (hiRoleReview d) = bootView d := by simp (disch := decide) [hiRoleReview]

/-! ### The journal at boot (R334, R355) -/

@[simp] theorem cmdPut_bootView (c d) : bootView (cmdPut c d) = bootView d := by simp [cmdPut]
@[simp] theorem cmdEnd_bootView (s e l st r d) : bootView (cmdEnd s e l st r d) = bootView d := by simp [cmdEnd, cmdSet]
@[simp] theorem cmdEndLate_bootView (s e st r d) : bootView (cmdEndLate s e st r d) = bootView d := by simp [cmdEndLate]
@[simp] theorem recoverOne_bootView (s e d) : bootView (recoverOne s e d) = bootView d := by
  unfold recoverOne
  dsimp only
  repeat' split
  all_goals simp
@[simp] theorem activeRecover_bootView (d) : bootView (activeRecover d) = bootView d := by simp [activeRecover]
@[simp] theorem journalReport_bootView (d) : bootView (journalReport d) = bootView d := by simp [journalReport]

/-! ### The units that boot starts (R233, R281, R312, R486) -/

@[simp] theorem canHeartbeats_bootView (d) : bootView (canHeartbeats d) = bootView d := by simp [canHeartbeats]
@[simp] theorem pinReview_bootView (d) : bootView (pinReview d) = bootView d := by
  have hs : ∀ n d, bootView (switchPins n d) = bootView d := fun n d => by simp (disch := decide) only [switchPins, wrB_bootView]; rfl
  simp (disch := decide) [pinReview, hs]
theorem wr_far_bootView {f : Fld} (h : 0x40090000 ≤ f.addr) (d v) : bootView (wr d f v) = bootView d := wr_bootView (bootKey_far h) d v
@[simp] theorem pkgShow_bootView (k d) : bootView (pkgShow k d) = bootView d := by
  have h : ∀ {a n : Nat} {lo w rst acc src rng}, 0x40090000 ≤ a → ∀ d v,
      bootView (wr d ⟨a + n * k, lo, w, rst, acc, src, rng⟩ v) = bootView d := fun ha => wr_far_bootView (Nat.le_add_right_of_le ha)
  unfold pkgShow
  dsimp only
  split <;> simp (disch := decide) only [Reg.UP_PKG_STATE_STATE, Reg.UP_PKG_STATE_DIR, Reg.UP_PKG_STATE_INSTALL, Reg.UP_PKG_STATE_ORIGIN,
    Reg.UP_PKG_STATE_CHUNKS, Reg.UP_PKG_TAG, Reg.UP_PKG_PROG_FWD, Reg.UP_PKG_PROG_HELD, Reg.UP_PKG_NEXT_NEXT_DONE,
    Reg.UP_PKG_NEXT_PARTNER_DONE, Reg.UP_PKG_NEXT_WAITING, Reg.UP_PKG_NEXT_FROM_POS, Reg.UP_PKG_NEXT_NEXT_POS, Reg.UP_PKG_REL, h]
@[simp] theorem slotPut_bootView (s x d) : bootView (slotPut s x d) = bootView d := by
  have h : ∀ {a n : Nat} {lo w rst acc src rng}, 0x40090000 ≤ a → ∀ d v,
      bootView (wr d ⟨a + n * s, lo, w, rst, acc, src, rng⟩ v) = bootView d := fun ha => wr_far_bootView (Nat.le_add_right_of_le ha)
  simp (disch := decide) only [slotPut, wrB, Reg.UP_SLOT_REL, Reg.UP_SLOT_INFO_VALID, Reg.UP_SLOT_INFO_PROTO, Reg.UP_SLOT_INFO_REFUSED,
    Reg.UP_SLOT_INFO_KEY, Reg.UP_SLOT_INFO_SEC, h, updSet_bootView]
@[simp] theorem slotRefuse_bootView (s r d) : bootView (slotRefuse s r d) = bootView d := by
  have h : ∀ d, bootView (wr d (Reg.UP_SLOT_INFO_REASON s) r) = bootView d := fun d =>
    wr_far_bootView (Nat.le_add_right_of_le (by decide)) d r
  simp [slotRefuse, h]
@[simp] theorem cwHold_bootView (n d) : bootView (cwHold n d) = bootView d := by
  have h : ∀ b d, bootView (cwSetHo n b d) = bootView d := fun b d => by
    have hs : bootKey (fldKey (Reg.CW_STATUS_HO n)) = false := bootKey_far (Nat.le_add_right_of_le (by decide))
    have hc : bootKey (fldKey (Reg.CW_HOLD_HO_COUNT n)) = false := bootKey_far (Nat.le_add_right_of_le (by decide))
    simp [cwSetHo, hs, hc]
  simp [cwHold, h]
theorem lbLease_bootView (d) : bootView (lbLease d) = bootView d := by
  have h : ∀ n ∈ [3, 4, 5, 6], bootKey (fldKey (Reg.LB_CAN_STAT_STATE (n - 3))) = false ∧ bootKey (fldKey (Reg.LB_CAN_STAT_ADDR (n - 3))) = false := by
    decide
  simp only [lbLease, canHeartbeats_bootView]
  generalize he : forEach [3, 4, 5, 6] _ d = e
  have hd : bootView e = bootView d := by
    rw [← he]
    refine forEach_keeps (v := bootView) (fun n hn d => ?_) d
    obtain ⟨hs, ha⟩ := h n hn
    simp only [bootView_ite, emit_bootView, wr_bootView hs, wr_bootView ha, lbSet_bootView, ite_self]
  rw [← hd]
  simp (disch := decide) only [bootView_ite, lbSet_bootView, wrB_bootView, wr_bootView, ite_self]
@[simp] theorem lbStart_bootView (d) : bootView (lbStart d) = bootView d := by
  have hm : ∀ m ∈ [0, 1], bootKey (fldKey (Reg.LB_MVB_STAT_MASTER m)) = false := by decide
  have hc : ∀ c ∈ [0, 1, 2, 3], bootKey (fldKey (Reg.LB_CAN_STAT_ADDR c)) = false := by decide
  rw [lbStart, lbLease_bootView, forEach_keeps (v := bootView) fun c h d => ?_, forEach_keeps (v := bootView) fun m h d => ?_,
    wr_bootView (by decide)]
  · simp [wr_bootView (hm m h)]
  · simp [wr_bootView (hc c h)]

/-! ### Schedule time (R233, R241) -/

@[simp] theorem timeStart_bootView (st s d) : bootView (timeStart st s d) = bootView d := by
  simp (disch := decide) [timeStart, macsRealign]
theorem ptpPortStates_bootView (s p d) : bootView (ptpPortStates s p d) = bootView d := by
  have h : ∀ p ∈ List.range 6, bootKey (fldKey (Reg.TU_PORT_STATE_PORT_STATE p)) = false := by decide
  exact forEach_keeps (v := bootView) (fun p hp d => wr_bootView (h p hp) d _) d
@[simp] theorem becomeGm_bootView (p d) : bootView (becomeGm p d) = bootView d := by
  simp (disch := decide) [becomeGm, gmShow, holdoverLeft, ptpPortStates_bootView]

/-! ### The end of BOOT (R17, R381, R486, R496) -/

@[simp] theorem cursorOldest_bootView (d) : bootView (cursorOldest d) = bootView d := wr_bootView (by decide) _ _
@[simp] theorem imageReview_bootView (i g d) : bootView (imageReview i g d) = bootView d := by simp (disch := decide) [imageReview]
@[simp] theorem leaseAcquire_bootView (d) : bootView (leaseAcquire d) = bootView d := by
  simp (disch := decide) [leaseAcquire, leaseRequest]
@[simp] theorem pkgSet_bootView (k f d) : bootView (pkgSet k f d) = bootView d := by
  unfold pkgSet
  split <;> simp [pkgPut]
@[simp] theorem installCmd_bootView (c st d) : bootView (installCmd c st d) = bootView d := by
  unfold installCmd
  split <;> simp
@[simp] theorem installDecide_bootView (k c a d) : bootView (installDecide k c a d) = bootView d := by
  unfold installDecide
  split <;> simp (disch := decide) [installBegin]
theorem csArrive_bootView (s d) : bootView (csArrive s d) = bootView d := (rfl)
@[simp] theorem upAfterBoot_bootView (d) : bootView (upAfterBoot d) = bootView d := by
  have hi : ∀ d, bootView (installResume d) = bootView d := fun d => by simp [installResume, pkgDrop]
  simp only [upAfterBoot, hi]
  split <;> simp only [bootView_ite, installDecide_bootView, updSet_bootView, csArrive_bootView, bpSet_bootView, ite_self]
/-- Removing and setting entries leaves the entry of a key that is not among them. -/
theorem mget_foldl_mdel {l : List (Nat × Nat)} {k : Nat} (h : ∀ e ∈ l, e.1 ≠ k) (m : NMap Nat) :
    mget (l.foldl (fun m e => mdel m e.1) m) k = mget m k := by
  induction l generalizing m with
  | nil => rfl
  | cons e r ih =>
    obtain ⟨he, hr⟩ := List.forall_mem_cons.mp h
    exact (ih hr _).trans (mget_mdel_ne m he)
theorem mget_foldl_mput {l : List (Nat × Nat)} {k : Nat} (h : ∀ e ∈ l, e.1 ≠ k) (m : NMap Nat) :
    mget (l.foldl (fun m e => if e.2 = 0 then m else mput m e.1 e.2) m) k = mget m k := by
  induction l generalizing m with
  | nil => rfl
  | cons e r ih =>
    obtain ⟨he, hr⟩ := List.forall_mem_cons.mp h
    refine (ih hr _).trans ?_
    dsimp only
    split
    · rfl
    · exact mget_mput_ne m _ he
/-- No field of the boot sequence takes its value from the image (R17). -/
theorem imageField_bootKey {k : Nat} (h : bootKey k = true) : imageField k = false := by
  have hk : ∀ g ∈ bootFields, imageField (fldKey g) = false := by decide
  obtain ⟨g, hg, he⟩ := List.any_eq_true.mp h
  rw [← beq_iff_eq.mp he]
  exact hk g hg
@[simp] theorem imageTake_bootView (i d) : bootView (imageTake i d) = bootView d := by
  refine congrArg (·, d.mode) (funext fun k => ?_)
  by_cases hk : bootKey k = true
  · have hl : ∀ i : Image, ∀ e ∈ i.regs.filter fun e => imageField e.1, e.1 ≠ k := fun i e he hek => by
      have hi := (List.mem_filter.mp he).2
      rw [hek, imageField_bootKey hk] at hi
      exact Bool.noConfusion hi
    simp only [regsIn, hk, if_true, imageTake, mget_foldl_mput (hl i), mget_foldl_mdel (hl d.img)]
  · simp [regsIn, hk]

end Sys2Proof.Machine
end

section
/-!
SUPPORT. The boot sequence: what each step shows, and where a SAFE cause halts it.
-/
namespace Sys2Proof.Machine

/-! ## A step that is due (R80, R524) -/

/-- What is shown once the work of a step is done: the step itself, unless the sequence has ended; steps 9 and 11 show theirs in their work. -/
def stepShown (n : Nat) (d : Dev) : Dev :=
  if d.mode.halted ∨ n = 9 ∨ n = 11 then d
  else if n = 8 then cwHold 1 (cwHold 0 (wr d Reg.MCTL_BOOT_STEP n)) else wr d Reg.MCTL_BOOT_STEP n
theorem bootStep_due {r : BootResult} {d : Dev} (h : bootDue d r) : bootStep r d = stepShown (bootStepOf r) (bootWork r d) := by
  obtain ⟨hm, hh, hp, hs, hn⟩ := h
  rw [bootStep, if_neg (by simp [modeIs, hm, hh, hp, hs, hn])]
  rfl
theorem bootStep_idle {r : BootResult} {d : Dev} (h : ¬ bootDue d r) : bootStep r d = d := by
  rw [bootStep, if_pos]
  by_contra hc
  refine h ?_
  simpa [modeIs, bootDue, not_or] using hc
theorem stepShown_open {n : Nat} {d : Dev} (h : d.mode.halted = false) (h8 : n ≠ 8) (h9 : n ≠ 9) (h11 : n ≠ 11) :
    stepShown n d = wr d Reg.MCTL_BOOT_STEP n := by
  rw [stepShown, if_neg (by simp [h, h9, h11]), if_neg h8]
theorem stepShown_halted {n : Nat} {d : Dev} (h : d.mode.halted = true) : stepShown n d = d := by rw [stepShown, if_pos (.inl h)]
theorem rd_bootStep_wr {n : Nat} (h : n < 16) (d) : rd (wr d Reg.MCTL_BOOT_STEP n) Reg.MCTL_BOOT_STEP = n := by
  rw [rd_wr_same]
  exact Nat.mod_eq_of_lt h

/-! ## SAFE ends the sequence (R92, R524) -/

/-- A boot sequence is halted in SAFE alone. -/
def haltedSafe (d : Dev) : Prop := d.mode.halted = true → modeOf d = mSAFE
theorem haltedSafe_of_eq {d t : Dev} (hm : t.mode = d.mode) (ho : modeOf t = modeOf d) (h : haltedSafe d) : haltedSafe t := by
  rw [haltedSafe, hm, ho]
  exact h
theorem haltedSafe_of_bootView {d t : Dev} (hv : bootView t = bootView d) (h : haltedSafe d) : haltedSafe t :=
  haltedSafe_of_eq (mode_of_bootView hv) (modeOf_of_bootView hv) h
theorem haltedSafe_safeNow (d) : haltedSafe (safeNow d) := fun _ => modeOf_safeNow d
/-- A cause put off is only noted in module control. -/
theorem haltedSafe_deferred {d : Dev} (h : haltedSafe d) (v) : haltedSafe (modeSet (fun m => { m with bootSafe := v }) d) := h
theorem haltedSafe_record {d : Dev} (h : haltedSafe d) (c l) : haltedSafe (record c l d) := haltedSafe_of_bootView (record_bootView c l d) h
theorem haltedSafe_safeEnter {d : Dev} (h : haltedSafe d) (c x) : haltedSafe (safeEnter c x d) := by
  unfold safeEnter
  split
  · exact haltedSafe_record h _ _
  split
  · dsimp only
    split
    · exact haltedSafe_record h _ _
    · exact haltedSafe_safeNow _
  · refine haltedSafe_record ?_ _ _
    split
    · refine haltedSafe_deferred (haltedSafe_of_bootView ?_ h) _
      rw [wr_bootView (by decide), wr_bootView (by decide)]
    · exact haltedSafe_safeNow _
theorem bootShown_stepShown {n : Nat} {d : Dev} (h : haltedSafe d) (hn : n < 16) (h8 : n ≠ 8) (h9 : n ≠ 9) (h11 : n ≠ 11) :
    bootShown n (stepShown n d) := by
  rw [bootShown]
  cases hh : d.mode.halted with
  | true => rw [stepShown_halted hh, if_pos hh]; exact h hh
  | false =>
    rw [stepShown_open hh h8 h9 h11, if_neg (by rw [wr_mode, hh]; decide)]
    exact rd_bootStep_wr hn d

/-! ## Steps 4 and 5 (R82, R83, R162) -/

theorem forEach_haltedSafe {α : Type} {l : List α} {f : α → Dev → Dev} (hf : ∀ x ∈ l, ∀ d, haltedSafe d → haltedSafe (f x d)) {d : Dev}
    (h : haltedSafe d) : haltedSafe (forEach l f d) := by
  induction l generalizing d with
  | nil => exact h
  | cons x r ih => exact ih (fun y hy => hf y (List.mem_cons_of_mem x hy)) (hf x List.mem_cons_self d h)
theorem haltedSafe_pierOut {d : Dev} (h : haltedSafe d) (p r) : haltedSafe (pierOut p r d) := by
  refine haltedSafe_of_eq (pierOut_mode p r d) ?_ h
  rw [modeOf, rd_pierOut (by decide) (by decide), rd_serviceLeft (by decide) (by decide)]
  rfl
theorem haltedSafe_pierFailed {d : Dev} (h : haltedSafe d) (p) :
    haltedSafe (pierOut p 0 (setBitF d Reg.MCTL_BOOT_PIER_FAIL (pierIdx p))) :=
  haltedSafe_pierOut (haltedSafe_of_bootView (wr_bootView (by decide) d _) h) p 0
theorem haltedSafe_bootPiers {d : Dev} (h : haltedSafe d) (l) : haltedSafe (bootPiers l d) := by
  have hn : haltedSafe (forEach allPiers (fun p d =>
      forEach ((triGet l p).take 2) (fun b d => recordP Ev.PIER_SELFTEST_FAIL p [.w (pierIdx p), .w b] d) d) d) := by
    refine haltedSafe_of_bootView ?_ h
    simp
  have ho := forEach_haltedSafe (l := allPiers.filter fun p => decide (2 ≤ (triGet l p).length) &&
    !bitF (forEach allPiers (fun p d =>
      forEach ((triGet l p).take 2) (fun b d => recordP Ev.PIER_SELFTEST_FAIL p [.w (pierIdx p), .w b] d) d) d) Reg.MCTL_BOOT_PIER_FAIL
        (pierIdx p)) (fun p _ d hd => haltedSafe_pierFailed hd p) hn
  unfold bootPiers
  dsimp only
  split
  · exact haltedSafe_safeEnter ho _ _
  · exact ho
theorem haltedSafe_halfBroken {d : Dev} (h : haltedSafe d) (m) : haltedSafe (halfBroken m d) := by
  refine haltedSafe_safeEnter (forEach_haltedSafe (fun i hi d hd => haltedSafe_of_bootView ?_ hd) h) _ _
  have hb : ∀ i < 2, bootKey (fldKey (Reg.KS_HALF_BROKEN i)) = false := by decide
  rw [clrBitF, wr_bootView (by decide), wrB_bootView (hb i (mem_bitsOf.mp hi).1)]
theorem haltedSafe_bootPair {d : Dev} (h : haltedSafe d) (u m) : haltedSafe (bootPair u m d) := by
  have hp : ∀ st c l, bootView (record c l (pairPut u st d)) = bootView d := fun st c l => by
    rw [record_bootView, pairPut, wr_bootView (by decide)]
  unfold bootPair
  split_ifs
  · exact haltedSafe_safeEnter (haltedSafe_of_bootView (hp _ _ _) h) _ _
  · refine haltedSafe_of_bootView ?_ h
    rw [degradedReview, wrB_bootView (by decide), hp]
  · exact h
theorem haltedSafe_bootTests {d : Dev} (h : haltedSafe d) (t) : haltedSafe (bootTests t d) := by
  have h1 := haltedSafe_bootPiers h t.piers
  have h2 : haltedSafe (if t.halves % 4 = 0 then bootPiers t.piers d else halfBroken (t.halves % 4) (bootPiers t.piers d)) := by
    split
    · exact h1
    · exact haltedSafe_halfBroken h1 _
  have h3 := forEach_haltedSafe (l := t.pairs.filter fun e => 1 ≤ e.1 && decide (e.1 ≤ 6)) (fun e _ d hd => haltedSafe_bootPair hd e.1 e.2) h2
  unfold bootTests
  dsimp only
  generalize forEach _ _ _ = e at h3 ⊢
  have h4 : haltedSafe (if t.deckSdram then safeEnter scBOOT_SELFTEST 7 e else e) := by
    split
    · exact haltedSafe_safeEnter h3 _ _
    · exact h3
  split
  · exact h4
  · exact haltedSafe_safeEnter h4 _ _
/-- Tests without a failure change nothing. -/
theorem bootTests_passed (d) : bootTests ⟨triAll [], 0, [], false, none⟩ d = d := by
  have hf : (allPiers.filter fun p => decide (2 ≤ (triGet (triAll ([] : List Nat)) p).length) && !bitF d Reg.MCTL_BOOT_PIER_FAIL (pierIdx p)) = [] := by
    refine List.filter_eq_nil_iff.mpr fun p _ => ?_
    cases p <;> simp [triGet, triAll]
  have hn : forEach allPiers (fun p d => forEach ((triGet (triAll ([] : List Nat)) p).take 2)
      (fun b d => recordP Ev.PIER_SELFTEST_FAIL p [.w (pierIdx p), .w b] d) d) d = d := rfl
  simp only [bootTests, bootPiers, hn, hf]
  simp [forEach]

/-! ## Step 3 (R57, R458, R486) -/

theorem rd_trialCount {g : Fld} (h1 : fldKey Reg.EV_COUNT_DROPPED ≠ fldKey g) (h2 : fldKey Reg.EV_COUNT_SUPPRESSED ≠ fldKey g) (d) :
    rd (trialCount d) g = rd d g := by
  unfold trialCount
  split
  · rfl
  · split
    · rfl
    · rw [updEvent, rd_msix, rd_record _ _ _ _ h1 h2]
      rfl
@[simp] theorem trialCount_bootView (d) : bootView (trialCount d) = bootView d := by
  unfold trialCount
  split
  · rfl
  · split
    · rfl
    · simp
@[simp] theorem evRecover_bootView (c u d) : bootView (evRecover c u d) = bootView d := by
  have hs : ∀ f d, bootView (evSet f d) = bootView d := fun _ _ => rfl
  simp (disch := decide) only [evRecover, wrB_bootView, record_bootView, wr_bootView, hs]
theorem flag_evRecover (c u d) : flag (evRecover c u d) Reg.EV_STATUS_RECOVERED = true := flag_wrB_same _ _ true (by decide)
/-- The clocks all run. -/
def clocksShown (d : Dev) : Dev := forEach (List.range 16) (fun n d => wrB d (Reg.CKR_DOM_OK n) true) (wr d Reg.CKR_STATUS_CLK_OK 0xFFFF)
theorem clocksShown_bootView (d) : bootView (clocksShown d) = bootView d := by
  have h : ∀ n ∈ List.range 16, bootKey (fldKey (Reg.CKR_DOM_OK n)) = false := by decide
  exact (forEach_keeps (v := bootView) (fun n hn d => wrB_bootView (h n hn) d true) _).trans (wr_bootView (by decide) d _)
theorem rd_clocksShown (d) : rd (clocksShown d) Reg.CKR_STATUS_CLK_OK = 0xFFFF := by
  have h : ∀ n ∈ List.range 16, fldKey (Reg.CKR_DOM_OK n) ≠ fldKey Reg.CKR_STATUS_CLK_OK := by decide
  rw [clocksShown, forEach_keeps (v := fun d => rd d Reg.CKR_STATUS_CLK_OK) (fun n hn d => rd_wrB_ne d true (h n hn)), rd_wr_same]
  rfl
theorem rd_clocksShown_recovered (d) : rd (clocksShown d) Reg.EV_STATUS_RECOVERED = rd d Reg.EV_STATUS_RECOVERED := by
  have h : ∀ n ∈ List.range 16, fldKey (Reg.CKR_DOM_OK n) ≠ fldKey Reg.EV_STATUS_RECOVERED := by decide
  rw [clocksShown, forEach_keeps (v := fun d => rd d Reg.EV_STATUS_RECOVERED) (fun n hn d => rd_wrB_ne d true (h n hn)), rd_wr_ne _ _ (by decide)]
theorem bootParams_bootView (pos c u d) : bootView (bootParams pos c u d) = bootView (wrB d Reg.MCTL_PINS_POS pos) := by
  rw [bootParams, trialCount_bootView]
  exact (clocksShown_bootView _).trans (evRecover_bootView c u _)
theorem bootParams_shown (pos c u d) :
    flag (bootParams pos c u d) Reg.EV_STATUS_RECOVERED = true ∧ rd (bootParams pos c u d) Reg.CKR_STATUS_CLK_OK = 0xFFFF := by
  refine ⟨?_, ?_⟩
  · rw [flag, bootParams, rd_trialCount (by decide) (by decide), ← clocksShown, rd_clocksShown_recovered]
    exact flag_evRecover c u _
  · rw [bootParams, rd_trialCount (by decide) (by decide)]
    exact rd_clocksShown _
theorem bootParams_stepShown {d : Dev} (hm : modeOf d = mBOOT) (hh : d.mode.halted = false) (pos c u) :
    rd (stepShown 3 (bootParams pos c u d)) Reg.MCTL_BOOT_STEP = 3 ∧ flag (stepShown 3 (bootParams pos c u d)) Reg.MCTL_PINS_POS = pos ∧
    flag (stepShown 3 (bootParams pos c u d)) Reg.EV_STATUS_RECOVERED = true ∧
    rd (stepShown 3 (bootParams pos c u d)) Reg.CKR_STATUS_CLK_OK = 0xFFFF ∧ modeOf (stepShown 3 (bootParams pos c u d)) = mBOOT := by
  have hv := bootParams_bootView pos c u d
  obtain ⟨hr, hc⟩ := bootParams_shown pos c u d
  have hp : flag (bootParams pos c u d) Reg.MCTL_PINS_POS = pos := (flag_of_bootView hv (by decide)).trans (flag_wrB_same _ _ pos (by decide))
  have ho : modeOf (bootParams pos c u d) = mBOOT :=
    (modeOf_of_bootView hv).trans ((rd_wrB_ne (g := Reg.MCTL_MODE_MODE) d pos (by decide)).trans hm)
  rw [stepShown_open ((congrArg (·.halted) (mode_of_bootView hv)).trans hh) (by decide) (by decide) (by decide)]
  generalize bootParams pos c u d = e at hr hc hp ho
  exact ⟨rd_bootStep_wr (by decide) e, (flag_wr_ne _ _ (by decide)).trans hp, (flag_wr_ne _ _ (by decide)).trans hr,
    (rd_wr_ne _ _ (by decide)).trans hc, (rd_wr_ne _ _ (by decide)).trans ho⟩

/-! ## Step 6 (R369, R478) -/

theorem forEach_mode {α : Type} (l : List α) (f : α → Dev → Dev) (d : Dev) (h : ∀ x d, (f x d).mode = d.mode) :
    (forEach l f d).mode = d.mode := forEach_keeps (v := Dev.mode) (fun x _ d => h x d) d
theorem record_mode (c l d) : (record c l d).mode = d.mode := recordSev_mode _ _ _ _ _
theorem csInvalid_mode (k r d) : (csInvalid k r d).mode = d.mode := record_mode _ _ _
theorem csLoadField_mode (k w f d) : (csLoadField k w f d).mode = d.mode := by
  unfold csLoadField
  dsimp only
  split
  · rfl
  · exact record_mode Ev.CS_VALUE_DEFAULT [.w k, .w w] (wr d f f.rst)
theorem csTake_mode (k d) : (csTake k d).mode = d.mode := by
  refine (forEach_mode _ _ _ fun e d => ?_).trans rfl
  split
  · rfl
  · exact forEach_mode _ _ _ fun f d => csLoadField_mode _ _ f d
theorem csChoose_mode (d) : (csChoose d).mode = d.mode := by
  unfold csChoose
  dsimp only
  split
  · split
    · exact (csTake_mode _ _).trans (csInvalid_mode _ _ _)
    · exact csTake_mode _ _
  · split
    · refine (csTake_mode _ _).trans ?_
      split
      · exact csInvalid_mode _ _ _
      · rfl
    · split
      · refine (csTake_mode _ _).trans ?_
        split
        · exact csInvalid_mode _ _ _
        · rfl
      · exact record_mode _ _ _
theorem bootSettings_shown {d : Dev} (h : d.mode.halted = false) :
    rd (stepShown 6 (bootSettings d)) Reg.MCTL_BOOT_STEP = 6 ∧
    (stepShown 6 (bootSettings d)).dx.leaseMs = rd (stepShown 6 (bootSettings d)) Reg.DX_LEASE_CFG_LEASE_MS ∧
    (stepShown 6 (bootSettings d)).dx.guardMs = rd (stepShown 6 (bootSettings d)) Reg.DX_LEASE_CFG_GUARD_MS := by
  have hm : (bootSettings d).mode.halted = false := (congrArg (·.halted) (csChoose_mode d)).trans h
  have hl : (bootSettings d).dx.leaseMs = rd (bootSettings d) Reg.DX_LEASE_CFG_LEASE_MS := rfl
  have hg : (bootSettings d).dx.guardMs = rd (bootSettings d) Reg.DX_LEASE_CFG_GUARD_MS := rfl
  rw [stepShown_open hm (by decide) (by decide) (by decide), rd_bootStep_wr (by decide), rd_wr_ne _ _ (by decide), rd_wr_ne _ _ (by decide)]
  exact ⟨rfl, hl, hg⟩

/-! ## Step 7 (R483, R484, R485) -/

theorem safeEffects_halted (d) : (safeEffects d).mode.halted = d.mode.halted := by
  obtain ⟨x, hx, he⟩ := safeEffects_ends d
  have hc : (safeCommands x).mode.halted = x.mode.halted := by
    have hf : ∀ s st r d, (cmdFinal s st r d).mode = d.mode := fun s st r d => mode_of_bootView (cmdFinal_bootView s st r d)
    unfold safeCommands
    dsimp only
    refine (congrArg (·.halted) (forEach_mode _ _ _ fun c d => ?_)).trans (congrArg (·.halted) (forEach_mode _ _ _ fun s d => hf _ _ _ d))
    split <;> exact hf _ _ _ d
  rw [he, waitView_mode (summarizeAll_waitView _), ← waitView_mode hx]
  split
  · rfl
  · exact hc
/-- In BOOT a SAFE that is not put off halts the sequence. -/
theorem safeNow_halts {d : Dev} (h : modeOf d = mBOOT) : (safeNow d).mode.halted = true := by
  have hi : modeIs d mBOOT = true := by simp [modeIs, h]
  have hc : modeIs (cursorOldest d) mBOOT = true := by rw [modeIs, modeOf_of_bootView (cursorOldest_bootView d), h]; rfl
  simp only [safeNow, hi, if_true, hc]
  rw [safeEffects_halted]
  exact Bool.or_true _
theorem safeEnter_noFirmware {d : Dev} (h : modeOf d = mBOOT) (x) :
    (safeEnter scNO_FIRMWARE x d).mode.halted = true ∧ modeOf (safeEnter scNO_FIRMWARE x d) = mSAFE := by
  have hp : ∀ d, safeDefers scNO_FIRMWARE x d = false := fun d => by simp [safeDefers]
  have hr : ∀ c l d, (safeNow d).mode.halted = true → (record c l (safeNow d)).mode.halted = true ∧ modeOf (record c l (safeNow d)) = mSAFE :=
    fun c l d hd => ⟨by rw [record_mode]; exact hd, (modeOf_of_bootView (record_bootView _ _ _)).trans (modeOf_safeNow d)⟩
  rw [safeEnter, if_neg (by simp [modeIs, h, mBOOT, mSAFE])]
  dsimp only
  simp only [hp, Bool.false_eq_true, if_false]
  split
  · exact ⟨safeNow_halts ((modeOf_of_bootView (record_bootView _ _ _)).trans h), modeOf_safeNow _⟩
  · refine hr _ _ _ (safeNow_halts ?_)
    rw [modeOf, rd_wr_ne _ _ (by decide), rd_wr_ne _ _ (by decide)]
    exact h
theorem slotBoot_bootView (s d) : bootView (slotBoot s d) = bootView d := by
  rw [slotBoot, wr_bootView (by decide), wr_bootView (by decide)]
/-- The slot booted from is shown in both registers. -/
def slotAgrees (d : Dev) : Prop := rd d Reg.UP_STATUS_BOOTED = rd d Reg.MCTL_BOOT_SLOT
theorem slotAgrees_slotBoot (s d) : slotAgrees (slotBoot s d) := by
  rw [slotAgrees, slotBoot, rd_wr_same, rd_wr_ne _ _ (by decide), rd_wr_same]
  rfl
/-- The firmware step ends with a slot booted from, or halted in SAFE. -/
theorem bootFirmware_ends {d : Dev} (hm : modeOf d = mBOOT) (hh : d.mode.halted = false) (a b) :
    ((bootFirmware a b d).mode.halted = false ∧ slotAgrees (bootFirmware a b d)) ∨
    ((bootFirmware a b d).mode.halted = true ∧ modeOf (bootFirmware a b d) = mSAFE) := by
  have hv : ∀ n, bootView (if d.cs.inForce then fuseBurn n d else d) = bootView d := fun n => by
    simp (disch := decide) only [bootView_ite, fuseBurn, wr_bootView, ite_self]
  unfold bootFirmware
  dsimp only
  generalize hd : (if d.cs.inForce then fuseBurn (min 64 (rd d Reg.UP_ROLLBACK_COPY)) d else d) = e
  generalize he : slotPut 1 (upSlot (wr e Reg.UP_ROLLBACK_EFFECTIVE (rd e Reg.UP_ROLLBACK_FUSES)) 1)
    (slotPut 0 (upSlot (wr e Reg.UP_ROLLBACK_EFFECTIVE (rd e Reg.UP_ROLLBACK_FUSES)) 0)
      (wr e Reg.UP_ROLLBACK_EFFECTIVE (rd e Reg.UP_ROLLBACK_FUSES))) = f
  have hf : bootView f = bootView d := by
    rw [← he, slotPut_bootView, slotPut_bootView, wr_bootView (by decide), ← hd]
    exact hv _
  have ho : ∀ t, bootView t = bootView f → t.mode.halted = false := fun t ht => by rw [mode_of_bootView (ht.trans hf)]; exact hh
  generalize slotReason f f.bp.slotPref _ = r
  generalize slotReason (slotRefuse f.bp.slotPref r f) (1 - f.bp.slotPref) _ = r'
  split
  · exact .inl ⟨ho _ (slotBoot_bootView _ f), slotAgrees_slotBoot _ f⟩
  split
  · refine .inl ⟨ho _ ?_, slotAgrees_slotBoot _ _⟩
    rw [bpSet_bootView, slotBoot_bootView, wrB_bootView (by decide), wrB_bootView (by decide), slotRefuse_bootView]
  · refine .inr (safeEnter_noFirmware ?_ 0)
    rw [modeOf_of_bootView (slotRefuse_bootView _ _ _), modeOf_of_bootView (slotRefuse_bootView _ _ _), modeOf_of_bootView hf]
    exact hm
theorem bootFirmware_shown {d : Dev} (hm : modeOf d = mBOOT) (hh : d.mode.halted = false) (a b) :
    bootShown 7 (stepShown 7 (bootFirmware a b d)) ∧
    ((stepShown 7 (bootFirmware a b d)).mode.halted = false → slotAgrees (stepShown 7 (bootFirmware a b d))) := by
  obtain ⟨ho, hs⟩ | ⟨ho, hs⟩ := bootFirmware_ends hm hh a b
  · refine ⟨bootShown_stepShown (fun hc => Bool.noConfusion (hc.symm.trans ho)) (by decide) (by decide) (by decide) (by decide), fun _ => ?_⟩
    rw [stepShown_open ho (by decide) (by decide) (by decide), slotAgrees, rd_wr_ne _ _ (by decide), rd_wr_ne _ _ (by decide)]
    exact hs
  · refine ⟨bootShown_stepShown (fun _ => hs) (by decide) (by decide) (by decide) (by decide), fun hc => ?_⟩
    rw [stepShown_halted ho] at hc
    exact absurd (ho.symm.trans hc) (by decide)

/-! ## Step 8 (R233, R281, R334) -/

theorem bootUnits_bootView (d) : bootView (bootUnits d) = bootView (wrB d Reg.HI_STATUS_READY true) := by
  simp [bootUnits]
theorem bootUnits_shown {d : Dev} (h : d.mode.halted = false) :
    rd (stepShown 8 (bootUnits d)) Reg.MCTL_BOOT_STEP = 8 ∧ flag (stepShown 8 (bootUnits d)) Reg.HI_STATUS_READY = true := by
  have hh : (bootUnits d).mode.halted = false := (congrArg (·.halted) (mode_of_bootView (bootUnits_bootView d))).trans h
  have hs : bootView (stepShown 8 (bootUnits d)) = bootView (wr (bootUnits d) Reg.MCTL_BOOT_STEP 8) := by
    rw [stepShown, if_neg (by simp [hh]), if_pos rfl, cwHold_bootView, cwHold_bootView]
  refine ⟨(rd_of_bootView hs (by decide)).trans (rd_bootStep_wr (by decide) _), (flag_of_bootView hs (by decide)).trans ?_⟩
  rw [flag_wr_ne _ _ (by decide), flag_of_bootView (bootUnits_bootView d) (by decide)]
  exact flag_wrB_same _ _ true (by decide)

/-! ## Step 9 and the role (R85, R334) -/

theorem journalRecover_bootView (d) : bootView (journalRecover d) = bootView (wrB d Reg.HI_STATUS_RECOVERED true) := by
  have hj : ∀ l : List (Nat × JEntry), bootView (jReview (forEach l (fun e d => recoverOne e.1 e.2 d) d)) = bootView d := fun l => by simp
  rw [journalRecover, cqFlush_bootView, hiRoleReview_bootView, record_bootView]
  exact wr_bootView_congr (hj _) _ _
/-- The fields that the role is decided on. -/
def roleFields : List Fld :=
  [Reg.MCTL_PINS_POS, Reg.MCTL_PINS_PEER_ALIVE, Reg.MCTL_PINS_PEER_STANDBY, Reg.MCTL_CFG_DUPLEX, Reg.DX_STATUS_POS_CONFLICT,
    Reg.DX_STATUS_LK_A_UP, Reg.DX_STATUS_LK_B_UP, Reg.DX_PEER_VALID, Reg.DX_PEER_MODE, Reg.DX_PEER_ROLE]
theorem roleDecide_of_rd {d t : Dev} (h : ∀ g ∈ roleFields, rd t g = rd d g) (x) : roleDecide x t = roleDecide x d := by
  simp only [roleFields, List.forall_mem_cons] at h
  obtain ⟨h1, h2, h3, h4, h5, h6, h7, h8, h9, h10, -⟩ := h
  have hf : ∀ {g : Fld}, rd t g = rd d g → flag t g = flag d g := fun hg => by rw [flag, hg]; rfl
  have hs : simplex t = simplex d := by rw [simplex, simplex, hf h4]
  have hl : linkUp t = linkUp d := by rw [linkUp, linkUp, hf h6, hf h7]
  simp only [roleDecide, hs, hl, hf h1, hf h2, hf h3, hf h5, hf h8, h9, h10]
theorem roleDecide_lt {x : Bool} {d : Dev} {r : Nat} (h : roleDecide x d = some r) : r < 8 := by
  unfold roleDecide at h
  dsimp only at h
  split_ifs at h <;> cases h <;> decide
/-- After the wait the role is decided in any case. -/
theorem roleDecide_expired (d) : ∃ r, roleDecide true d = some r := by
  unfold roleDecide
  dsimp only
  rw [if_pos (Bool.or_true _)]
  split_ifs <;> exact ⟨_, rfl⟩
theorem roleTake_bootView (r d) :
    bootView (roleTake r d) = bootView (wr (modeSet (fun m => { m with waiting := false }) (wr d Reg.MCTL_MODE_ROLE r)) Reg.MCTL_BOOT_STEP 9) := by
  unfold roleTake
  dsimp only
  refine wr_bootView_congr ?_ _ _
  have hl : bootView (if r = 1 then wr (wr d Reg.MCTL_MODE_ROLE r) Reg.FIO_STATUS_LEASE_OK 7 else wr d Reg.MCTL_MODE_ROLE r) =
      bootView (wr d Reg.MCTL_MODE_ROLE r) := by
    rw [bootView_ite, wr_bootView (by decide), ite_self]
  rw [hiRoleReview_bootView, bootView_ite, journalReport_bootView, activeRecover_bootView, ite_self]
  exact modeSet_bootView_congr hl _
theorem roleTake_shown {r : Nat} (h : r < 8) (d) : (roleTake r d).mode.waiting = false ∧ rd (roleTake r d) Reg.MCTL_BOOT_STEP = 9 ∧
    rd (roleTake r d) Reg.MCTL_MODE_ROLE = r ∧ flag (roleTake r d) Reg.HI_STATUS_RECOVERED = flag d Reg.HI_STATUS_RECOVERED := by
  have hv := roleTake_bootView r d
  refine ⟨congrArg (·.waiting) (mode_of_bootView hv), ?_, ?_, ?_⟩
  · rw [rd_of_bootView hv (by decide)]
    exact rd_bootStep_wr (by decide) _
  · rw [rd_of_bootView hv (by decide), rd_wr_ne _ _ (by decide), rd_modeSet, rd_wr_same]
    exact Nat.mod_eq_of_lt h
  · rw [flag_of_bootView hv (by decide), flag_wr_ne _ _ (by decide), flag_modeSet, flag_wr_ne _ _ (by decide)]

/-! ## Step 10 (R86, R102, R212) -/

theorem bootImage_halted (check d) : (bootImage check d).mode.halted = d.mode.halted := by
  have hk : ∀ f : LogEntry → Bool, (if rd d Reg.MCTL_MODE_ROLE = 2 then d else storeSet (fun s => { s with log := s.log.filter f }) d).mode = d.mode :=
    fun f => by split <;> rfl
  unfold bootImage
  dsimp only
  generalize hd : (if rd d Reg.MCTL_MODE_ROLE = 2 then d else storeSet _ d) = e
  have he : e.mode.halted = d.mode.halted := by rw [← hd, hk]
  split
  · exact he
  split
  · exact he
  split <;> exact he
/-- What step 10 makes of a stored image. -/
theorem bootImage_stored {d : Dev} {img : Image} (hs : d.store.current = some img) (check) :
    if d.bp.generation ≠ 0 ∧ check = 0 then
      (bootImage check d).mode.imageValid = true ∧ (bootImage check d).img = img ∧ (bootImage check d).mode.generation = d.bp.generation ∧
        (bootImage check d).mode.imageId = d.bp.imageId
    else (bootImage check d).mode.imageValid = d.mode.imageValid ∧ (bootImage check d).img = d.img ∧
      (bootImage check d).mode.noImage.isSome = true := by
  have hk : ∀ f : LogEntry → Bool, ∀ e, (if rd d Reg.MCTL_MODE_ROLE = 2 then d else storeSet (fun s => { s with log := s.log.filter f }) d) = e →
      e.mode = d.mode ∧ e.bp = d.bp ∧ e.img = d.img ∧ e.store.current = d.store.current := fun f e he => by
    rw [← he]
    split <;> exact ⟨rfl, rfl, rfl, rfl⟩
  unfold bootImage
  dsimp only
  generalize hd : (if rd d Reg.MCTL_MODE_ROLE = 2 then d else storeSet _ d) = e
  obtain ⟨hm, hb, hi, hc⟩ := hk _ e hd
  rw [hb, hc, hs]
  by_cases hg : d.bp.generation = 0
  · rw [if_neg (by simp [hg]), if_pos hg]
    exact ⟨congrArg (·.imageValid) hm, hi, rfl⟩
  · by_cases hz : check = 0
    · rw [if_pos ⟨hg, hz⟩, if_neg hg]
      dsimp only
      rw [if_neg (not_not.mpr hz)]
      exact ⟨rfl, rfl, rfl, rfl⟩
    · rw [if_neg (by simp [hz]), if_neg hg]
      dsimp only
      rw [if_pos hz]
      exact ⟨congrArg (·.imageValid) hm, hi, rfl⟩

/-! ## Step 11 (R81, R86, R87, R90) -/

/-- The boot step stays shown. -/
def stepKept (d t : Dev) : Prop := rd t Reg.MCTL_BOOT_STEP = rd d Reg.MCTL_BOOT_STEP
theorem stepKept_of_bootView {d t : Dev} (h : bootView t = bootView d) : stepKept d t := rd_of_bootView h (by decide)
theorem stepKept_safeNow (d) : stepKept d (safeNow d) := by
  have hc : stepKept d (if modeIs d mBOOT = true then cursorOldest d else d) := stepKept_of_bootView (by rw [bootView_ite, cursorOldest_bootView, ite_self])
  rw [stepKept, safeNow, rd_safeEffects (by decide) (by decide), rd_modeWrite (by decide) (by decide), rd_modeSet]
  exact hc
theorem stepKept_safeEnter (c x d) : stepKept d (safeEnter c x d) := by
  have hr : ∀ {c l e}, stepKept d e → stepKept d (record c l e) := fun h => (stepKept_of_bootView (record_bootView _ _ _)).trans h
  have hn : ∀ {e}, stepKept d e → stepKept d (safeNow e) := fun {e} h => (stepKept_safeNow e).trans h
  have hw : stepKept d (wr (wr d Reg.MCTL_SAFE_CAUSE_CAUSE c) Reg.MCTL_SAFE_CAUSE_DETAIL x) := by
    rw [stepKept, rd_wr_ne _ _ (by decide), rd_wr_ne _ _ (by decide)]
  unfold safeEnter
  split
  · exact hr rfl
  split
  · dsimp only
    split
    · exact hr rfl
    · exact hn (hr rfl)
  · refine hr ?_
    split
    · exact hw
    · exact hn hw
theorem stepKept_pierName (k p w n d) : stepKept d (pierName k p w n d) := by
  obtain ⟨hour, he⟩ := pierName_eq k p w n d
  have hn : stepKept d (pierNamedHour k p w n d) := rd_pierNamedHour (by decide) (by decide) k p w n d
  have hl : stepKept d (pierLeft hour p (pierNamedHour k p w n d)) :=
    (rd_pierLeft (by decide) (by decide) (by decide) (by decide) hour p _).trans hn
  rw [he]
  split
  · split
    · exact (stepKept_safeEnter _ _ _).trans hl
    · exact hl
  · exact hn
theorem stepKept_verdictNone (d) : stepKept d (verdictNone none d) := by
  refine (stepKept_safeEnter _ _ _).trans ?_
  rw [rd_of_control (recordSev_control _ _ _ _ _) (by decide), verdictNote, incW, rd_wr_ne _ _ (by decide), rd_wr_ne _ _ (by decide),
    rd_wr_ne _ _ (by decide), rd_wr_ne _ _ (by decide), rd_wrB_ne _ _ (by decide), rd_wr_ne _ _ (by decide), rd_wr_ne _ _ (by decide)]
theorem stepKept_loadSignatures (sigs d) : stepKept d (loadSignatures sigs d) := by
  unfold loadSignatures
  split
  · split_ifs
    · rfl
    · exact stepKept_pierName _ _ _ _ d
    · exact stepKept_pierName _ _ _ _ d
    · exact stepKept_pierName _ _ _ _ d
    · exact stepKept_verdictNone d
  · split
    · rfl
    · exact stepKept_verdictNone d
  · exact stepKept_verdictNone d
theorem stepKept_modeEnter (m d) : stepKept d (modeEnter m d) := by
  rw [stepKept, rd_of_modeWords (modeEnter_modeWords m d) (by decide), rd_modeSet, rd_modeWrite (by decide) (by decide)]
/-- The load signatures compared, where they are. -/
def signaturesJudged (sigs : Tri Nat) (d : Dev) : Dev :=
  if d.mode.imageValid && (!(d.bp.serviceNext || !d.mode.imageValid) || sigMajority d sigs) then loadSignatures sigs d else d
theorem bootMode_eq (sigs d) : bootMode sigs d =
    if modeIs (signaturesJudged sigs d) mSAFE then signaturesJudged sigs d
    else if d.bp.serviceNext || !d.mode.imageValid then modeEnter mSERVICE (bpSet (fun b => { b with serviceNext := false }) (signaturesJudged sigs d))
    else if rd (signaturesJudged sigs d) Reg.MCTL_MODE_ROLE = 2 then modeEnter mSTANDBY (signaturesJudged sigs d)
    else modeSet (fun m => { m with autorun := flag (signaturesJudged sigs d) Reg.MCTL_CFG_AUTORUN }) (modeEnter mSTOP (signaturesJudged sigs d)) :=
  rfl
theorem stepKept_bootMode (sigs d) : stepKept d (bootMode sigs d) := by
  have hs : stepKept d (signaturesJudged sigs d) := by
    unfold signaturesJudged
    split
    · exact stepKept_loadSignatures sigs d
    · rfl
  rw [bootMode_eq]
  generalize signaturesJudged sigs d = e at hs
  split
  · exact hs
  split
  · exact (stepKept_modeEnter mSERVICE (bpSet (fun b => { b with serviceNext := false }) e)).trans hs
  split
  · exact (stepKept_modeEnter mSTANDBY e).trans hs
  · rw [stepKept, rd_modeSet]
    exact (stepKept_modeEnter mSTOP e).trans hs

/-- Equal load signatures of two voting Piers or more leave the vote as it is. -/
theorem loadSignatures_equal {sigs : Tri Nat} {d : Dev} (h2 : 2 ≤ (votingPiers d).length)
    (he : ∀ p ∈ votingPiers d, ∀ q ∈ votingPiers d, triGet sigs p = triGet sigs q) : loadSignatures sigs d = d := by
  have h3 : (votingPiers d).length ≤ 3 := List.length_filter_le _ allPiers
  unfold loadSignatures
  generalize votingPiers d = l at h2 h3 he
  match l, h2, h3 with
  | [a, b], _, _ =>
    have hab : triGet sigs a = triGet sigs b := he a (by simp) b (by simp)
    simp only [List.map_cons, List.map_nil, hab, if_true]
  | [a, b, c], _, _ =>
    have hab : triGet sigs a = triGet sigs b := he a (by simp) b (by simp)
    have hbc : triGet sigs b = triGet sigs c := he b (by simp) c (by simp)
    simp only [List.map_cons, List.map_nil, hab, hbc, and_self, if_true]
theorem modeOf_modeEnter {m : Nat} (h : m < 16) (d) : modeOf (modeEnter m d) = m := by
  rw [modeOf, rd_of_modeWords (modeEnter_modeWords m d) (by decide), rd_modeSet]
  exact (modeOf_modeWrite m d).trans (Nat.mod_eq_of_lt h)
/-- Without a valid image the first mode is SERVICE. -/
theorem bootMode_noImage {d : Dev} (hm : modeOf d = mBOOT) (hi : d.mode.imageValid = false) (sigs) : modeOf (bootMode sigs d) = mSERVICE := by
  have hj : signaturesJudged sigs d = d := by rw [signaturesJudged, if_neg (by simp [hi])]
  rw [bootMode_eq, hj, if_neg (by simp [modeIs, hm, mBOOT, mSAFE]), if_pos (by simp [hi])]
  exact modeOf_modeEnter (by decide) _
/-- With equal load signatures the role decides between STANDBY and STOP. -/
theorem bootMode_image {sigs : Tri Nat} {d : Dev} (hm : modeOf d = mBOOT) (hi : d.mode.imageValid = true) (hn : d.bp.serviceNext = false)
    (h2 : 2 ≤ (votingPiers d).length) (he : ∀ p ∈ votingPiers d, ∀ q ∈ votingPiers d, triGet sigs p = triGet sigs q) :
    modeOf (bootMode sigs d) = if rd d Reg.MCTL_MODE_ROLE = 2 then mSTANDBY else mSTOP := by
  have hj : signaturesJudged sigs d = d := by rw [signaturesJudged, loadSignatures_equal h2 he, ite_self]
  rw [bootMode_eq, hj, if_neg (by simp [modeIs, hm, mBOOT, mSAFE]), if_neg (by simp [hi, hn])]
  split
  · exact modeOf_modeEnter (by decide) d
  · rw [modeOf, rd_modeSet]
    exact modeOf_modeEnter (by decide) d

/-- Step 11 shown with its time, the image's fields taken, the want of an image recorded (R81, R86). -/
def bootImageShown (d : Dev) : Dev :=
  let d := wrSat (wr d Reg.MCTL_BOOT_STEP 11) Reg.MCTL_BOOT_TIME_TO_READY_MS ((d.clk - d.mode.resetAt) / msec)
  let d := if d.mode.imageValid && d.mode.bootSafe.isNone then imageTake d.img d else d
  match d.mode.noImage with
  | none => d
  | some (i, g, r) => record Ev.BOOT_NO_IMAGE [.w i, .w g, .w r] d
/-- What follows the first mode: the comparison of a standby-bound module's image, updates and the lease (R372, R381, R496). -/
def bootLast (d : Dev) : Dev :=
  let d := if rd d Reg.MCTL_MODE_ROLE = 2 && linkUp d then imageReview (rd d Reg.DX_PEER_IMAGE) (rd d Reg.DX_PEER_GEN) d else d
  let d := upAfterBoot d
  if modeIs d mSAFE then d else leaseAcquire d
theorem bootEnd_eq (sigs d) : bootEnd sigs d = bootLast (if (bootImageShown d).mode.bootSafe.isSome then safeNow (bootImageShown d)
    else cursorOldest (bootMode sigs (bootImageShown d))) := rfl
theorem bootLast_bootView (d) : bootView (bootLast d) = bootView d := by
  simp only [bootLast, bootView_ite, imageReview_bootView, upAfterBoot_bootView, leaseAcquire_bootView, ite_self]
theorem bootImageShown_bootView (d) : bootView (bootImageShown d) = bootView (wr d Reg.MCTL_BOOT_STEP 11) := by
  unfold bootImageShown
  dsimp only
  split
  · rw [bootView_ite, imageTake_bootView, ite_self, wrSat_bootView (by decide)]
  · rw [record_bootView, bootView_ite, imageTake_bootView, ite_self, wrSat_bootView (by decide)]
theorem bootImageShown_mode (d) : (bootImageShown d).mode = d.mode :=
  (mode_of_bootView (bootImageShown_bootView d)).trans (wr_mode d Reg.MCTL_BOOT_STEP 11)
theorem bootImageShown_bp (d) : (bootImageShown d).bp = d.bp := by
  have hr : ∀ c l (d : Dev), (record c l d).bp = d.bp := fun c l d => by rw [record_shape]
  unfold bootImageShown
  dsimp only
  split
  · split <;> rfl
  · rw [hr]
    split <;> rfl
/-- The mode and the step at the end of the sequence are those of SAFE or of the first mode. -/
theorem bootEnd_bootView {sigs : Tri Nat} {d : Dev} : bootView (bootEnd sigs d) =
    bootView (if d.mode.bootSafe.isSome then safeNow (bootImageShown d) else bootMode sigs (bootImageShown d)) := by
  rw [bootEnd_eq, bootLast_bootView, bootImageShown_mode, bootView_ite, bootView_ite, cursorOldest_bootView]
theorem rd_bootImageShown {g : Fld} (hg : bootKey (fldKey g) = true) (hs : fldKey Reg.MCTL_BOOT_STEP ≠ fldKey g) (d) :
    rd (bootImageShown d) g = rd d g := (rd_of_bootView (bootImageShown_bootView d) hg).trans (rd_wr_ne _ _ hs)
theorem votingPiers_bootImageShown (d) : votingPiers (bootImageShown d) = votingPiers d := by
  simp only [votingPiers, inService, isolated, bitF, rd_bootImageShown (show bootKey (fldKey Reg.KS_STATUS_IN_SERVICE) = true by decide) (by decide),
    rd_bootImageShown (show bootKey (fldKey Reg.KS_STATUS_ISOLATED) = true by decide) (by decide)]
theorem bootEnd_step (sigs d) : rd (bootEnd sigs d) Reg.MCTL_BOOT_STEP = 11 := by
  have hs : rd (bootImageShown d) Reg.MCTL_BOOT_STEP = 11 :=
    (rd_of_bootView (bootImageShown_bootView d) (by decide)).trans (rd_bootStep_wr (by decide) d)
  rw [rd_of_bootView bootEnd_bootView (by decide)]
  split
  · exact (stepKept_safeNow _).trans hs
  · exact (stepKept_bootMode sigs _).trans hs
theorem bootEnd_modes {sigs : Tri Nat} {d : Dev} (hm : modeOf d = mBOOT) :
    (d.mode.bootSafe.isSome = true → modeOf (bootEnd sigs d) = mSAFE) ∧
    (d.mode.bootSafe = none → d.mode.imageValid = false → modeOf (bootEnd sigs d) = mSERVICE) ∧
    (d.mode.bootSafe = none → d.mode.imageValid = true → d.bp.serviceNext = false → 2 ≤ (votingPiers d).length →
      (∀ p ∈ votingPiers d, ∀ q ∈ votingPiers d, triGet sigs p = triGet sigs q) →
      modeOf (bootEnd sigs d) = if rd d Reg.MCTL_MODE_ROLE = 2 then mSTANDBY else mSTOP) := by
  have hv := bootEnd_bootView (sigs := sigs) (d := d)
  have he : modeOf (bootImageShown d) = mBOOT := (rd_bootImageShown (by decide) (by decide) d).trans hm
  refine ⟨fun hs => ?_, fun hs hi => ?_, fun hs hi hn h2 heq => ?_⟩
  · rw [modeOf_of_bootView hv, if_pos hs]
    exact modeOf_safeNow _
  · rw [modeOf_of_bootView hv, if_neg (by simp [hs])]
    exact bootMode_noImage he (by rw [bootImageShown_mode]; exact hi) sigs
  · rw [modeOf_of_bootView hv, if_neg (by simp [hs]), bootMode_image he (by rw [bootImageShown_mode]; exact hi) (by rw [bootImageShown_bp]; exact hn)
      (by rw [votingPiers_bootImageShown]; exact h2) (by rw [votingPiers_bootImageShown]; exact heq), rd_bootImageShown (by decide) (by decide)]

/-! ## The release of POR (R78, R80) -/

/-- Power cycles and operating seconds at the release. -/
def releaseCounted (d : Dev) : Dev := wr (incW d Reg.MCTL_POWER_CYCLES) Reg.MCTL_OP_SECONDS (max d.bp.opSeconds (powerFailSeconds d))
theorem porRelease_eq {d : Dev} (h : d.mode.posrst = true) : porRelease true d =
    wr (modeSet (fun m => { m with posrst := false }) (bpSet (fun b => { b with powerCycles := rd (releaseCounted d) Reg.MCTL_POWER_CYCLES })
      (releaseCounted d))) Reg.MCTL_BOOT_STEP 2 := by
  rw [porRelease, if_pos (by simp [h])]
  rfl
theorem rd_porRelease {d : Dev} {g : Fld} (h : d.mode.posrst = true) (hg : fldKey Reg.MCTL_BOOT_STEP ≠ fldKey g) :
    rd (porRelease true d) g = rd (releaseCounted d) g := by rw [porRelease_eq h, rd_wr_ne _ _ hg, rd_modeSet, rd_bpSet]
theorem porRelease_held {d : Dev} (h : d.mode.posrst = true) :
    (porRelease true d).mode.posrst = false ∧ rd (porRelease true d) Reg.MCTL_BOOT_STEP = 2 ∧
    rd (porRelease true d) Reg.MCTL_POWER_CYCLES = trunc 32 (rd d Reg.MCTL_POWER_CYCLES + 1) ∧
    rd (porRelease true d) Reg.MCTL_OP_SECONDS = trunc 32 (max d.bp.opSeconds (powerFailSeconds d)) ∧
    (porRelease true d).bp = (if d.hm.powerFail = true then d.bp else { d.bp with powerCycles := rd (porRelease true d) Reg.MCTL_POWER_CYCLES }) ∧
    regsBut [Reg.MCTL_BOOT_STEP, Reg.MCTL_POWER_CYCLES, Reg.MCTL_OP_SECONDS] d (porRelease true d) ∧ memSame d (porRelease true d) := by
  refine ⟨?_, ?_, ?_, ?_, ?_, fun g hg => ?_, fun a => ?_⟩
  · rw [porRelease_eq h]
    rfl
  · rw [porRelease_eq h]
    exact rd_bootStep_wr (by decide) _
  · rw [rd_porRelease h (by decide), releaseCounted, rd_wr_ne _ _ (by decide), incW, rd_wr_same]
    rfl
  · rw [rd_porRelease h (by decide), releaseCounted, rd_wr_same]
    rfl
  · rw [rd_porRelease h (by decide), porRelease_eq h]
    rfl
  · simp only [List.forall_mem_cons] at hg
    obtain ⟨hb, hp, ho, -⟩ := hg
    rw [rd_porRelease h hb, releaseCounted, rd_wr_ne _ _ ho, incW, rd_wr_ne _ _ hp]
  · rw [porRelease_eq h]
    rfl

/-! ## The obligation -/

theorem bootNext_nine {d : Dev} (h : bootNext d = 9) : rd d Reg.MCTL_BOOT_STEP = 8 := by
  unfold bootNext at h
  dsimp only at h
  split_ifs at h <;> omega
/-- Step 9: the journal recovered, and the role taken or waited for. -/
theorem bootStep9_shown {d : Dev} (hb : rd d Reg.MCTL_BOOT_STEP = 8) : flag (bootStep9 d) Reg.HI_STATUS_RECOVERED = true ∧
    match roleDecide false d with
    | none => (bootStep9 d).mode.waiting = true ∧ rd (bootStep9 d) Reg.MCTL_BOOT_STEP = 8
    | some role => (bootStep9 d).mode.waiting = false ∧ rd (bootStep9 d) Reg.MCTL_BOOT_STEP = 9 ∧ rd (bootStep9 d) Reg.MCTL_MODE_ROLE = role := by
  unfold bootStep9
  generalize he : (if flag d Reg.HI_STATUS_RECOVERED then d else journalRecover d) = e
  have hr : flag e Reg.HI_STATUS_RECOVERED = true := by
    rw [← he]
    split
    · assumption
    · rw [flag_of_bootView (journalRecover_bootView d) (by decide)]
      exact flag_wrB_same _ _ true (by decide)
  have hk : ∀ {g : Fld}, bootKey (fldKey g) = true → fldKey Reg.HI_STATUS_RECOVERED ≠ fldKey g → rd e g = rd d g := fun hg hn => by
    rw [← he]
    split
    · rfl
    · rw [rd_of_bootView (journalRecover_bootView d) hg, rd_wrB_ne _ _ hn]
  have hrole : roleDecide false e = roleDecide false d := by
    have hf : ∀ g ∈ roleFields, bootKey (fldKey g) = true ∧ fldKey Reg.HI_STATUS_RECOVERED ≠ fldKey g := by decide
    exact roleDecide_of_rd (fun g hg => hk (hf g hg).1 (hf g hg).2) false
  unfold bootRole
  rw [hrole]
  cases hd : roleDecide false d with
  | none => exact ⟨hr, rfl, (hk (by decide) (by decide)).trans hb⟩
  | some r =>
    obtain ⟨hw, hs, ho, hf⟩ := roleTake_shown (roleDecide_lt hd) e
    exact ⟨hf.trans hr, hw, hs, ho⟩
theorem roleWaitExpiry_due {d : Dev} (h : d.mode.waiting = true ∧ modeOf d = mBOOT ∧ d.mode.halted = false) :
    rd (roleWaitExpiry d) Reg.MCTL_BOOT_STEP = 9 ∧ (roleWaitExpiry d).mode.waiting = false ∧
    roleDecide true d = some (rd (roleWaitExpiry d) Reg.MCTL_MODE_ROLE) := by
  obtain ⟨hw, hm, hh⟩ := h
  obtain ⟨r, hr⟩ := roleDecide_expired d
  have he : roleWaitExpiry d = roleTake r d := by
    rw [roleWaitExpiry, if_pos (by simp [hw, hh, modeIs, hm]), bootRole, hr]
  obtain ⟨hwait, hs, ho, -⟩ := roleTake_shown (roleDecide_lt hr) d
  rw [he, ho]
  exact ⟨hs, hwait, hr⟩
theorem roleWaitExpiry_idle {d : Dev} (h : ¬ (d.mode.waiting = true ∧ modeOf d = mBOOT ∧ d.mode.halted = false)) : roleWaitExpiry d = d := by
  rw [roleWaitExpiry, if_neg]
  rintro ⟨hw, hh, hm⟩
  exact h ⟨hw, by simpa [modeIs] using hm, by simpa using hh⟩

/-- Settles O9: a step that is due does its work and is shown, but where SAFE halts the sequence. What the host interface, the recorder and
the units write leaves the fields that the sequence goes by. -/
theorem bootSequenceSteps : Obligations.BootSequenceSteps := by
  intro s hs
  have hstep : ∀ {r : BootResult} {P : Dev → Prop}, bootDue s.dev r → P (stepShown (bootStepOf r) (bootWork r s.dev)) →
      Answers (.bootStepDone r) s P := fun {r P} hd hp => by
    rw [answers_of (i := .bootStepDone r) rfl hs, bootStep_due hd]
    exact hp
  have hsafe : ∀ {r}, bootDue s.dev r → haltedSafe s.dev := fun {r} ⟨_, hh, _⟩ hc => Bool.noConfusion (hh.symm.trans hc)
  refine ⟨?_, ?_, fun r hr => ?_, fun pos c u hd => hstep hd ?_, fun x hd => hstep hd ?_, fun x hd => hstep hd ?_, ?_, fun hd => hstep hd ?_,
    fun a b hd => hstep hd ?_, fun hd => hstep hd ?_, fun hd => hstep hd ?_, fun check hd => hstep hd ?_, fun sigs hd => hstep hd ?_, ?_⟩
  · rw [answers_of (i := .porReleaseRetry true) rfl hs]
    split
    · next h => exact porRelease_held h
    · next h => rw [porRelease, if_neg (by simp [h])]
  · rw [answers_of (i := .porReleaseRetry false) rfl hs, porRelease, if_neg (by simp)]
  · rw [answers_of (i := .bootStepDone r) rfl hs]
    exact bootStep_idle hr
  · obtain ⟨hm, hh, -⟩ := hd
    dsimp only [bootWork, bootStepOf]
    exact bootParams_stepShown hm hh pos c u
  · exact bootShown_stepShown (haltedSafe_bootTests (hsafe hd) x) (by decide) (by decide) (by decide) (by decide)
  · exact bootShown_stepShown (haltedSafe_bootTests (hsafe hd) x) (by decide) (by decide) (by decide) (by decide)
  · rintro x rfl
    refine ⟨fun hd => hstep hd ?_, fun hd => hstep hd ?_⟩
    · rw [bootWork, bootTests_passed]
      exact stepShown_open hd.2.1 (by decide) (by decide) (by decide)
    · rw [bootWork, bootTests_passed]
      exact stepShown_open hd.2.1 (by decide) (by decide) (by decide)
  · obtain ⟨-, hh, -⟩ := hd
    dsimp only [bootWork, bootStepOf]
    exact bootSettings_shown hh
  · obtain ⟨hm, hh, -⟩ := hd
    dsimp only [bootWork, bootStepOf]
    exact bootFirmware_shown hm hh a b
  · obtain ⟨-, hh, -⟩ := hd
    dsimp only [bootWork, bootStepOf]
    exact bootUnits_shown hh
  · obtain ⟨-, -, -, -, hn⟩ := hd
    dsimp only [bootWork, bootStepOf]
    rw [stepShown, if_pos (.inr (.inl rfl))]
    exact bootStep9_shown (bootNext_nine hn)
  · obtain ⟨-, hh, -⟩ := hd
    dsimp only [bootWork, bootStepOf]
    rw [stepShown_open ((bootImage_halted check s.dev).trans hh) (by decide) (by decide) (by decide)]
    exact ⟨rd_bootStep_wr (by decide) _, fun img hi => bootImage_stored hi check⟩
  · obtain ⟨hm, -⟩ := hd
    dsimp only [bootWork, bootStepOf]
    rw [stepShown, if_pos (.inr (.inr rfl))]
    exact ⟨bootEnd_step sigs s.dev, bootEnd_modes hm⟩
  · split
    · next h => rw [answers_of (i := .duplexRoleWaitExpiry) rfl hs]; exact roleWaitExpiry_due h
    · next h => rw [answers_of (i := .duplexRoleWaitExpiry) rfl hs]; exact roleWaitExpiry_idle h

end Sys2Proof.Machine
end

section
/-!
SUPPORT. LOAD_IMAGE and ACTIVATE_IMAGE: the parts of an image taken, the image stored, put in force, or refused.
-/
namespace Sys2Proof.Machine

/-! ## A command ends on a device that holds what it found of the host interface (R349) -/

/-- A command becomes final on a device whose commands are those it was due with, at that device's journal head. -/
theorem cmdFinal_finalAt_of_cmds {d : Dev} {c : HiCmd} (h : dueOf d c) (x : Dev) (hc : x.hi.cmds = d.hi.cmds) (hp : x.hm.powerFail = d.hm.powerFail)
    (st r) : finalAt (cmdFinal c.seq st r x) (jHead x) c st r :=
  cmdFinal_finalAt ((cmdOf_of_cmds hc _).trans (dueOf_found h)) (hp.trans (dueOf_powerFail h)) (dueOf_again h) st r
theorem cmdFinal_store (s st r d) : (cmdFinal s st r d).store = d.store := congrArg (·.store) (cmdFinal_hostView s st r d)

/-! ## LOAD_IMAGE (R102, R352) -/

/-- A part relayed to the partner, where there is one. -/
def partRelayed (c : HiCmd) (d : Dev) : Dev := if linkUp d && !simplex d then emit (.imagePart c.desc c.payload) d else d
theorem partRelayed_eq (c d) : ∃ o, partRelayed c d = { d with out := o } := by
  unfold partRelayed
  split
  · exact ⟨_, rfl⟩
  · exact ⟨d.out, rfl⟩
theorem loadImage_part {c : HiCmd} (h : argB c.desc 20 ≠ 1) (check img d) :
    loadImage check img c d = cmdFinal c.seq St.OK [] (partRelayed c d) := if_pos h
theorem loadImage_last {c : HiCmd} (h : argB c.desc 20 = 1) (img d) :
    loadImage 0 img c d = cmdFinal c.seq St.OK (leBytes 4 (argN c.desc 0 4) ++ leBytes 4 0 ++ leBytes 8 (argN c.desc 12 8))
      (storeSet (fun s => { s with images := mput s.images (argN c.desc 0 4) img }) (partRelayed c d)) :=
  (if_neg (not_not.mpr h)).trans (if_pos rfl)
theorem loadImage_bad {c : HiCmd} (h : argB c.desc 20 = 1) {check} (hk : check ≠ 0) (img d) :
    loadImage check img c d = cmdFinal c.seq St.IMAGE_HASH [] (partRelayed c d) :=
  (if_neg (not_not.mpr h)).trans (if_neg hk)
/-- A part that stores nothing ends its command with a status. -/
theorem cmdFinal_partRelayed {d : Dev} {c : HiCmd} (h : dueOf d c) (st r) :
    finalAt (cmdFinal c.seq st r (partRelayed c d)) (jHead d) c st r ∧ (cmdFinal c.seq st r (partRelayed c d)).store = d.store := by
  obtain ⟨o, ho⟩ := partRelayed_eq c d
  rw [ho]
  exact ⟨cmdFinal_finalAt_of_cmds h { d with out := o } rfl rfl st r, cmdFinal_store _ _ _ _⟩
/-- The last part stores the image under its identity and ends its command. -/
theorem loadImage_last_spec {d : Dev} {c : HiCmd} (h : dueOf d c) (hl : argB c.desc 20 = 1) (img) :
    mget (loadImage 0 img c d).store.images (argN c.desc 0 4) = some img ∧
      finalAt (loadImage 0 img c d) (jHead d) c St.OK (leBytes 4 (argN c.desc 0 4) ++ leBytes 4 0 ++ leBytes 8 (argN c.desc 12 8)) := by
  obtain ⟨o, ho⟩ := partRelayed_eq c d
  rw [loadImage_last hl, ho]
  refine ⟨?_, cmdFinal_finalAt_of_cmds h (storeSet _ { d with out := o }) rfl rfl _ _⟩
  rw [cmdFinal_store]
  exact mget_mput_same _ _ _

/-! ## ACTIVATE_IMAGE (R187, R221, R352) -/

/-- A stored image in force at the next generation, nothing revertible, recorded in the boot parameters. -/
def imageActivated (ident : Nat) (img : Image) (d : Dev) : Dev :=
  let d' := modeSet (fun m => { m with
    imageValid := true, generation := d.mode.generation + 1, imageId := ident, started := false, coldOnly := false }) (imageTake img d)
  generationSave (chgSet (fun u => { u with switched := none }) (storeSet (fun s => { s with log := [], consts := [] }) d'))
/-- STOP and SERVICE are the modes in which an image is put in force. -/
theorem activates_iff (d : Dev) : (modeIs d mSTOP || modeIs d mSERVICE) = true ↔ modeOf d = mSTOP ∨ modeOf d = mSERVICE := by
  simp [modeIs]
theorem activateImage_mode {d : Dev} (h : ¬(modeOf d = mSTOP ∨ modeOf d = mSERVICE)) (c) :
    activateImage c d = cmdFinal c.seq St.MODE_CONDITION [] d := by
  rw [← activates_iff, Bool.not_eq_true] at h
  rw [activateImage, if_pos (by rw [h]; rfl)]
section
variable {d : Dev} (h : modeOf d = mSTOP ∨ modeOf d = mSERVICE)
include h
theorem activateImage_exhausted (hg : 0xFFFFFFFF ≤ d.mode.generation) (c) :
    activateImage c d = cmdFinal c.seq St.GENERATION_EXHAUSTED [] d := by
  rw [activateImage, if_neg (by rw [(activates_iff d).mpr h]; decide), if_pos hg]
theorem activateImage_unknown (hg : d.mode.generation < 0xFFFFFFFF) {c : HiCmd} (hi : mget d.store.images (argN c.desc 0 4) = none) :
    activateImage c d = cmdFinal c.seq St.IMAGE_HASH [] d := by
  rw [activateImage, if_neg (by rw [(activates_iff d).mpr h]; decide), if_neg (Nat.not_le.mpr hg)]
  simp only [hi]
theorem activateImage_stored (hg : d.mode.generation < 0xFFFFFFFF) {c : HiCmd} {img} (hi : mget d.store.images (argN c.desc 0 4) = some img) :
    activateImage c d = cmdFinal c.seq St.OK (leBytes 4 (argN c.desc 0 4) ++ leBytes 4 (d.mode.generation + 1))
      (imageActivated (argN c.desc 0 4) img d) := by
  rw [activateImage, if_neg (by rw [(activates_iff d).mpr h]; decide), if_neg (Nat.not_le.mpr hg)]
  simp only [hi]
  rfl
end
/-- An image is in force and recorded, its application not started and nothing revertible. -/
def imageInForce (ident gen : Nat) (img : Image) (t : Dev) : Prop :=
  t.img = img ∧ t.mode.imageId = ident ∧ t.mode.generation = gen ∧ t.mode.imageValid = true ∧ t.mode.started = false ∧
    t.chg.switched = none ∧ t.store.current = some img
theorem imageActivated_inForce (ident img d) : imageInForce ident (d.mode.generation + 1) img (imageActivated ident img d) :=
  ⟨rfl, rfl, rfl, rfl, rfl, rfl, rfl⟩
/-- The image in force is one of the parts that an answer leaves alone. -/
theorem imageInForce_of_answersOnly {d t : Dev} (h : answersOnly d t) {ident gen img} (hd : imageInForce ident gen img d) :
    imageInForce ident gen img t := by
  rw [h]
  exact hd

/-- Settles O39: each part and each activation is one end of the command, on the device with the part relayed or the image in force. -/
theorem images : Obligations.Images := by
  unfold Obligations.Images
  intro s c hs ht
  obtain ⟨hd, -⟩ := id ht
  refine ⟨fun check img ho hl => ?_, fun img ho hl => ?_, fun check img ho hl hk => ?_, fun img ho hm hg hi => ?_, fun ho hm hg hi => ?_,
    fun ho hm hg => ?_, fun ho hm hm' => ?_⟩
  · rw [answers_turn (f := loadImage check img) rfl hs ht (by simp [ho]), loadImage_part hl]
    exact cmdFinal_partRelayed hd _ _
  · rw [answers_turn (f := loadImage 0 img) rfl hs ht (by simp [ho])]
    exact loadImage_last_spec hd hl img
  · rw [answers_turn (f := loadImage check img) rfl hs ht (by simp [ho]), loadImage_bad hl hk]
    exact cmdFinal_partRelayed hd _ _
  · rw [answers_turn (f := activateImage) rfl hs ht (by simp [ho]), activateImage_stored hm hg hi]
    obtain ⟨himg, hid, hgen, hvalid, hstart, hrev, hcur⟩ :=
      imageInForce_of_answersOnly (cmdFinal_answersOnly _ _ _ _) (imageActivated_inForce (argN c.desc 0 4) img s.dev)
    exact ⟨himg, hid, hgen, hvalid, hstart, hrev, hcur, _, cmdFinal_finalAt_of_cmds hd (imageActivated _ _ _) rfl rfl _ _⟩
  · exact answers_final (f := activateImage) rfl hs ht (by simp [ho]) (activateImage_unknown hm hg hi)
  · exact answers_final (f := activateImage) rfl hs ht (by simp [ho]) (activateImage_exhausted hm hg c)
  · exact answers_final (f := activateImage) rfl hs ht (by simp [ho]) (activateImage_mode (not_or.mpr ⟨hm, hm'⟩) c)
end Sys2Proof.Machine
end

section
/-!
SUPPORT. What a Pier posts of a running cycle: its start mark, its requests, the outputs and the end of the cycle.
-/
namespace Sys2Proof.Machine

/-! ## The element that a change in place is aimed at -/

/-- The first element found is found changed, where the change keeps what it is found by. -/
theorem find?_mapIf {α : Type} {p : α → Bool} {g : α → α} (h : ∀ x, p x = true → p (g x) = true) (l : List α) :
    (mapIf p g l).find? p = (l.find? p).map g := by
  have hp : (p ∘ fun x => if p x then g x else x) = p := by
    funext x
    by_cases hx : p x = true
    · simp [hx, h x hx]
    · simp [hx]
  rw [mapIf, List.find?_map, hp]
  cases hf : l.find? p with
  | none => rfl
  | some x => simp [List.find?_some hf]
/-- What a filter keeps is found in it. -/
theorem find?_filter_of_kept {α : Type} {p q : α → Bool} {l : List α} {x : α} (h : l.find? p = some x) (hq : q x = true) :
    (l.filter q).find? p = some x := by
  induction l with
  | nil => simp at h
  | cons y r ih =>
    by_cases hy : p y = true
    · obtain rfl : y = x := by simpa [hy] using h
      simp [hq, hy]
    · rw [List.find?_cons_of_neg hy] at h
      by_cases hqy : q y = true
      · rw [List.filter_cons_of_pos hqy, List.find?_cons_of_neg hy, ih h]
      · rw [List.filter_cons_of_neg hqy, ih h]

theorem runOf_key {d : Dev} {c n : Nat} {r : CycleRun} (h : runOf d c n = some r) : r.cls = c ∧ r.cycle = n := by
  simpa using List.find?_some h
theorem runOf_runSet {f : CycleRun → CycleRun} (h : ∀ r, (f r).cls = r.cls ∧ (f r).cycle = r.cycle) (c n d) :
    runOf (runSet c n f d) c n = (runOf d c n).map f :=
  find?_mapIf (fun r hr => by simpa only [h r] using hr) d.cyc.runs
theorem runOf_of_cyc {d t : Dev} (h : t.cyc = d.cyc) (c n) : runOf t c n = runOf d c n := by rw [runOf, h, runOf]
/-- A run that is not released stays when the runs that are over leave. -/
theorem runOf_runsReview {d : Dev} {c n : Nat} {r : CycleRun} (h : runOf d c n = some r) (hr : r.released = false) :
    runOf (runsReview d) c n = some r :=
  find?_filter_of_kept h (by simp [runOver, hr])
theorem streamOf_key {u : PierUnit} {cls cycle : Nat} {x : OutStream} (h : streamOf u cls cycle = some x) : x.cls = cls ∧ x.cycle = cycle := by
  simpa using List.find?_some h
theorem streamOf_streamPut {u : PierUnit} {s x : OutStream} (h : streamOf u s.cls s.cycle = some x) :
    streamOf (streamPut s u) s.cls s.cycle = some s := by
  refine (find?_mapIf (fun _ _ => ?_) u.streams).trans (congrArg (Option.map fun _ => s) h)
  simp
theorem triGet_prSet_same (p f d) : triGet (prSet p f d).prs p = f (triGet d.prs p) := by
  rw [prSet, triGet_triSet, if_pos rfl]

/-! ## START_MARK (R105) -/

/-- The skew of some marks, one of them at `t`. -/
def markSkew (marks : NMap Nat) (t : Nat) : Nat := marks.foldl (fun m e => max m e.2) t - marks.foldl (fun m e => min m e.2) t
/-- The marks of a cycle noted, and their skew shown. -/
def markNoted (marks : NMap Nat) (t c n : Nat) (d : Dev) : Dev :=
  maxTo (wrSat (runSet c n (fun r => { r with marks := marks }) d) (Reg.KS_START_SKEW_LAST c) (markSkew marks t)) (Reg.KS_START_SKEW_MAX c)
    (markSkew marks t)
/-- A first mark is noted; one far behind the earliest is recorded besides. -/
theorem startMark_first {p : Pier} {d : Dev} {c n : Nat} {r : CycleRun} (hr : runOf d c n = some r) (hm : mget r.marks (pierIdx p) = none)
    (hs : inService d p = true) (t) : startMark p c n t d = markNoted (mput r.marks (pierIdx p) t) t c n d ∨
      ∃ l, startMark p c n t d = recordP Ev.START_SKEW p l (markNoted (mput r.marks (pierIdx p) t) t c n d) := by
  simp only [startMark, hr, hm, hs, Option.isSome_none, Bool.not_true, Bool.or_self, Bool.false_eq_true, if_false]
  split
  · exact .inr ⟨_, rfl⟩
  · exact .inl rfl
theorem startMark_other {p : Pier} {d : Dev} {c n : Nat}
    (h : runOf d c n = none ∨ ∃ r, runOf d c n = some r ∧ (mget r.marks (pierIdx p)).isSome = true) (t) : startMark p c n t d = d := by
  rcases h with h | ⟨r, hr, hm⟩
  · simp only [startMark, h]
  · simp only [startMark, hr, hm, Bool.true_or, if_true]
theorem runOf_markNoted {d : Dev} {c n : Nat} {r : CycleRun} (h : runOf d c n = some r) (marks t) :
    runOf (markNoted marks t c n d) c n = some { r with marks := marks } :=
  (runOf_runSet (f := fun r => { r with marks := marks }) (fun _ => ⟨rfl, rfl⟩) c n d).trans (congrArg _ h)
theorem rd_markNoted (marks t c n d) :
    rd (markNoted marks t c n d) (Reg.KS_START_SKEW_LAST c) = min (markSkew marks t) (2 ^ (Reg.KS_START_SKEW_LAST c).w - 1) := by
  have hk : fldKey (Reg.KS_START_SKEW_MAX c) ≠ fldKey (Reg.KS_START_SKEW_LAST c) := by
    simp only [fldKey, Reg.KS_START_SKEW_MAX, Reg.KS_START_SKEW_LAST]
    omega
  rw [markNoted, maxTo, rd_wr_ne _ _ hk, rd_wrSat_same]
theorem skewKey_ne_evCounts {c : Nat} (h : c < 16) : ∀ f ∈ evCounts, fldKey f ≠ fldKey (Reg.KS_START_SKEW_LAST c) := by
  revert c
  decide
/-- The first mark of a running cycle is kept and its skew shown. -/
theorem startMark_first_spec {p : Pier} {d : Dev} {c n : Nat} {r : CycleRun} (hr : runOf d c n = some r)
    (hm : mget r.marks (pierIdx p) = none) (hs : inService d p = true) (t) :
    ((runOf (startMark p c n t d) c n).bind fun x => mget x.marks (pierIdx p)) = some t ∧
      (c < 16 → rd (startMark p c n t d) (Reg.KS_START_SKEW_LAST c) =
        min (markSkew (mput r.marks (pierIdx p) t) t) (2 ^ (Reg.KS_START_SKEW_LAST c).w - 1)) := by
  have hkept : (runOf (markNoted (mput r.marks (pierIdx p) t) t c n d) c n).bind (fun x => mget x.marks (pierIdx p)) = some t := by
    rw [runOf_markNoted hr]
    exact mget_mput_same _ _ _
  rcases startMark_first hr hm hs t with hx | ⟨l, hx⟩
  · rw [hx]
    exact ⟨hkept, fun _ => rd_markNoted _ _ _ _ _⟩
  · rw [hx]
    refine ⟨?_, fun hc => ?_⟩
    · rwa [runOf_of_cyc (congrArg (·.cyc) (recordP_shape _ _ _ _))]
    · have hk := skewKey_ne_evCounts hc
      simp only [evCounts, List.forall_mem_cons] at hk
      obtain ⟨h1, h2, -⟩ := hk
      rw [rd_recordP _ _ _ _ _ h1 h2, rd_markNoted]

/-! ## OUTBOUND_REQUEST (R120, R123, R125) -/

/-- A request of the same key. -/
def sameReq (q : OutReq) (r : KsReq) : Bool := r.cls == q.cls && r.cycle == q.cycle && r.seq == q.seq
/-- A new request of a Pier. -/
def reqNew (p : Pier) (q : OutReq) (d : Dev) : Dev :=
  ksSet (fun k => { k with reqs := k.reqs ++ [⟨q.cls, q.cycle, q.seq, [(pierIdx p, q)], none, false⟩] }) d
/-- The first copy of a request with room for it is a new request. -/
theorem reqPost_new {p : Pier} {q : OutReq} {d : Dev} (hs : inService d p = true) (hr : reqRoom d p q = true)
    (hn : d.ks.reqs.find? (sameReq q) = none) :
    reqPost p q d = reqNew p q d := by
  have hn' : (d.ks.reqs.find? fun r => r.cls == q.cls && r.cycle == q.cycle && r.seq == q.seq) = none := hn
  simp only [reqPost, hs, hr, hn', Bool.not_true, Bool.or_self, Bool.false_eq_true, if_false]
  rfl
/-- The content that a further copy of a request is compared with: what was performed, or what two copies agree on. -/
def reqStanding (r : KsReq) : Option OutReq :=
  if r.closed then r.performed else match r.copies.map (·.2) with
    | [a, b] => if a = b then some a else none
    | _ => none
/-- A copy put to those of its request. -/
def copyPut (p : Pier) (q : OutReq) (d : Dev) : Dev :=
  ksSet (fun k => { k with reqs := mapIf (sameReq q) (fun x => { x with copies := mput x.copies (pierIdx p) q }) k.reqs }) d
/-- A copy that departs from the standing content is a minority. -/
def copyJudge (p : Pier) (q : OutReq) (standing : Option OutReq) (d : Dev) : Dev :=
  match standing with
  | none => d
  | some x =>
    if x = q then d else recordP Ev.OUTBOUND_MINORITY p [.q q.cycle, .w q.cls, .w q.seq, .w (pierIdx p)] (inc d Reg.KS_MINORITY_COUNT_OUTBOUND)
theorem reqPost_copy {p : Pier} {q : OutReq} {d : Dev} {r : KsReq} (hs : inService d p = true) (hr : reqRoom d p q = true)
    (hf : d.ks.reqs.find? (sameReq q) = some r) (hm : mget r.copies (pierIdx p) = none) :
    reqPost p q d = copyJudge p q (reqStanding r) (copyPut p q d) := by
  have hf' : (d.ks.reqs.find? fun r => r.cls == q.cls && r.cycle == q.cycle && r.seq == q.seq) = some r := hf
  simp only [reqPost, hs, hr, hf', hm, Bool.not_true, Bool.or_self, Bool.false_eq_true, if_false, Option.isSome_none]
  rfl
theorem copyJudge_ks (p q st d) : (copyJudge p q st d).ks = d.ks := by
  unfold copyJudge
  split
  · rfl
  · split
    · rfl
    · rw [recordP_shape]
      rfl
theorem rd_copyJudge (p q st d) : rd (copyJudge p q st d) Reg.KS_MINORITY_COUNT_OUTBOUND =
    if st.isSome = true ∧ st ≠ some q then satAdd Reg.KS_MINORITY_COUNT_OUTBOUND.w (rd d Reg.KS_MINORITY_COUNT_OUTBOUND) 1
    else rd d Reg.KS_MINORITY_COUNT_OUTBOUND := by
  cases st with
  | none => rfl
  | some x =>
    by_cases hx : x = q
    · simp [copyJudge, hx]
    · rw [copyJudge, if_neg hx, rd_recordP _ _ _ _ _ (by decide) (by decide), rd_inc_same, if_pos (by simp [hx])]
/-- Two copies that agree, in the words of the statement. -/
theorem reqStanding_open {r : KsReq} (h : r.closed = false) (q : OutReq) : ((reqStanding r).isSome = true ∧ reqStanding r ≠ some q) ↔
    (r.copies.length = 2 ∧ (r.copies.map (·.2)).head? = (r.copies.map (·.2)).getLast? ∧ (r.copies.map (·.2)).head? ≠ some q) := by
  simp only [reqStanding, h, Bool.false_eq_true, if_false]
  rcases r.copies with _ | ⟨a, _ | ⟨b, _ | ⟨c, l⟩⟩⟩
  · simp
  · simp
  · by_cases hab : a.2 = b.2
    · simp [hab]
    · simp [hab]
  · simp
theorem find?_copyPut {p : Pier} {q : OutReq} {d : Dev} {r : KsReq} (hf : d.ks.reqs.find? (sameReq q) = some r) :
    (copyPut p q d).ks.reqs.find? (sameReq q) = some { r with copies := mput r.copies (pierIdx p) q } :=
  (find?_mapIf (p := sameReq q) (g := fun x => { x with copies := mput x.copies (pierIdx p) q }) (fun _ h => h) d.ks.reqs).trans
    (congrArg _ hf)

/-- The words of a request put into the stream of its cycle, where one is open. -/
def wordsPut (p : Pier) (q : OutReq) (d : Dev) : Dev :=
  match streamOf (triGet d.prs p) q.cls q.cycle with
  | none => d
  | some s => prSet p (streamFeed (reqFeed q) s) d
theorem wordsPut_prsOnly (p q d) : wordsPut p q d = { d with prs := (wordsPut p q d).prs } := by
  unfold wordsPut
  split <;> rfl
theorem outboundPost_waits {p : Pier} {q : OutReq} {d : Dev} (hs : inService d p = true) (hr : reqRoom d p q = false) :
    outboundPost p q d = prSet p (fun u => { u with waiting := u.waiting ++ [q] }) d := by
  simp [outboundPost, hs, hr]
theorem outboundPost_room {p : Pier} {q : OutReq} {d : Dev} (hs : inService d p = true) (hr : reqRoom d p q = true) :
    outboundPost p q d = reqPost p q (wordsPut p q d) := by
  unfold outboundPost wordsPut
  rw [if_neg (by simp [hs]), if_neg (by simp [hr])]
  cases streamOf (triGet d.prs p) q.cls q.cycle <;> rfl
section
variable {p : Pier} {q : OutReq} {d : Dev} (hs : inService d p = true) (hr : reqRoom d p q = true)
include hs hr
theorem outboundPost_new (hn : d.ks.reqs.find? (sameReq q) = none) : outboundPost p q d = reqNew p q (wordsPut p q d) := by
  rw [outboundPost_room hs hr, wordsPut_prsOnly]
  exact reqPost_new (d := { d with prs := (wordsPut p q d).prs }) hs hr hn
theorem outboundPost_copy {r : KsReq} (hf : d.ks.reqs.find? (sameReq q) = some r) (hm : mget r.copies (pierIdx p) = none) :
    outboundPost p q d = copyJudge p q (reqStanding r) (copyPut p q (wordsPut p q d)) := by
  rw [outboundPost_room hs hr, wordsPut_prsOnly]
  exact reqPost_copy (d := { d with prs := (wordsPut p q d).prs }) hs hr hf hm
/-- A first copy is a new request, its words in the stream. -/
theorem outboundPost_new_spec (hn : d.ks.reqs.find? (sameReq q) = none) :
    outboundPost p q d = { d with
      prs := (outboundPost p q d).prs
      ks := { d.ks with reqs := d.ks.reqs ++ [⟨q.cls, q.cycle, q.seq, [(pierIdx p, q)], none, false⟩] } } ∧
    (streamOf (triGet d.prs p) q.cls q.cycle = none → (outboundPost p q d).prs = d.prs) ∧
    (∀ x, streamOf (triGet d.prs p) q.cls q.cycle = some x → (outboundPost p q d).prs = (prSet p (streamFeed (reqFeed q) x) d).prs) := by
  rw [outboundPost_new hs hr hn]
  refine ⟨?_, fun h => ?_, fun x h => ?_⟩
  · rw [wordsPut_prsOnly]
    rfl
  · rw [wordsPut, h]
    rfl
  · rw [wordsPut, h]
    rfl
/-- A further copy is held with the others, and judged. -/
theorem outboundPost_copy_spec {r : KsReq} (hf : d.ks.reqs.find? (sameReq q) = some r) (hm : mget r.copies (pierIdx p) = none) :
    (outboundPost p q d).ks.reqs.find? (sameReq q) = some { r with copies := mput r.copies (pierIdx p) q } ∧
      rd (outboundPost p q d) Reg.KS_MINORITY_COUNT_OUTBOUND = (if (reqStanding r).isSome = true ∧ reqStanding r ≠ some q then
        satAdd Reg.KS_MINORITY_COUNT_OUTBOUND.w (rd d Reg.KS_MINORITY_COUNT_OUTBOUND) 1 else rd d Reg.KS_MINORITY_COUNT_OUTBOUND) := by
  rw [outboundPost_copy hs hr hf hm, copyJudge_ks, rd_copyJudge, wordsPut_prsOnly]
  exact ⟨find?_copyPut (d := { d with prs := (wordsPut p q d).prs }) hf, rfl⟩
end

/-! ## Words and windows of a stream (R125, R128) -/

/-- A feed leaves the stream's cycle, what it has yet to post, and the Pier's streams. -/
def FeedKeeps (x y : OutStream × PierUnit) : Prop :=
  y.1.cls = x.1.cls ∧ y.1.cycle = x.1.cycle ∧ y.1.todo = x.1.todo ∧ y.2.streams = x.2.streams ∧ y.2.waiting = x.2.waiting ∧
    y.2.stalled = x.2.stalled
theorem FeedKeeps.trans {x y z : OutStream × PierUnit} (h : FeedKeeps x y) (g : FeedKeeps y z) : FeedKeeps x z := by
  obtain ⟨h1, h2, h3, h4, h5, h6⟩ := h
  obtain ⟨g1, g2, g3, g4, g5, g6⟩ := g
  exact ⟨g1.trans h1, g2.trans h2, g3.trans h3, g4.trans h4, g5.trans h5, g6.trans h6⟩
theorem wordFeed_keeps (x w) : FeedKeeps x (wordFeed x w) := by
  unfold wordFeed
  dsimp only
  split <;> exact ⟨rfl, rfl, rfl, rfl, rfl, rfl⟩
theorem wordsFeed_keeps (l : List Nat) (x) : FeedKeeps x (l.foldl wordFeed x) := by
  induction l generalizing x with
  | nil => exact ⟨rfl, rfl, rfl, rfl, rfl, rfl⟩
  | cons w r ih => exact (wordFeed_keeps x w).trans (ih _)
theorem reqFeed_keeps (q x) : FeedKeeps x (reqFeed q x) := by
  unfold reqFeed
  exact (wordsFeed_keeps _ x).trans (FeedKeeps.trans (y := (_, _)) ⟨rfl, rfl, rfl, rfl, rfl, rfl⟩ (wordFeed_keeps _ _))
/-- After a feed the stream of a cycle stands as the feed leaves it, with the same left to post. -/
theorem streamOf_streamFeed {f : OutStream × PierUnit → OutStream × PierUnit} {s : OutStream} {u : PierUnit} (hf : FeedKeeps (s, u) (f (s, u)))
    (h : (streamOf u s.cls s.cycle).isSome = true) : ∃ y, streamOf (streamFeed f s u) s.cls s.cycle = some y ∧ y.todo = s.todo := by
  obtain ⟨x, hx⟩ := Option.isSome_iff_exists.mp h
  obtain ⟨hc, hn, ht, hs, -, -⟩ := hf
  refine ⟨(f (s, u)).1, ?_, ht⟩
  have hc' : (f (s, u)).1.cls = s.cls := hc
  have hn' : (f (s, u)).1.cycle = s.cycle := hn
  have hu : streamOf (f (s, u)).2 (f (s, u)).1.cls (f (s, u)).1.cycle = some x := by rw [hc', hn', streamOf, hs, ← hx, streamOf]
  rw [← hc', ← hn']
  exact streamOf_streamPut hu
theorem closedOf_append (u : PierUnit) (w : ClosedWin) {l : List ClosedWin} (h : l = u.closed ++ [w]) :
    (l.find? fun x => x.cls == w.cls && x.cycle == w.cycle && x.part == w.part) =
      match closedOf u w.cls w.cycle w.part with
      | some x => some x
      | none => some w := by
  rw [h, List.find?_append, closedOf]
  cases u.closed.find? fun x => x.cls == w.cls && x.cycle == w.cycle && x.part == w.part with
  | none => simp
  | some x => rfl

/-! ## CYCLE_OUTPUT_PHASE (R125, R128, R173) -/

/-- The final window of a stream as its end word closes it. -/
def lastWin (s : OutStream) : ClosedWin := ⟨s.cls, s.cycle, s.part, sigWord s.crc (endWord s.words), s.reqs, true, false⟩
/-- A Pier whose cycle has ended: the end word put out, its values waiting for the end of the period, its cores gone on. -/
def pierEnded (p : Pier) (s : OutStream) (r : CycleRun) (d : Dev) : Dev :=
  let e := prSet p (streamFeed endFeed { s with todo := [] }) d
  prSet p (fun u => workEnd s.cls s.cycle (exchangePost e.img e.mode.forces s.cls (r.due + period e s.cls) u)) e
/-- All but the host interface. -/
def hostless (d : Dev) : Dev := { d with hi := HiUnit.rest }
/-- The ARM_POSITION commands of a cycle hold their results. -/
def armsHeld (p : Pier) (cls cycle : Nat) (d : Dev) : Dev :=
  forEach (armCmds d cls cycle) (fun c d => cmdHold c.seq St.OK (armResult d p (argB c.desc 0)) (.agreed cls cycle) d) d
theorem cmdHold_hostless (s st r ph d) : hostless (cmdHold s st r ph d) = hostless d := rfl
theorem armsHeld_hiOnly (p cls cycle d) : armsHeld p cls cycle d = { d with hi := (armsHeld p cls cycle d).hi } := by
  have h : hostless (armsHeld p cls cycle d) = hostless d := forEach_keeps (v := hostless) (fun _ _ _ => cmdHold_hostless _ _ _ _ _) d
  exact congrArg (fun e : Dev => { e with hi := (armsHeld p cls cycle d).hi }) h
/-- The Pier has ended its cycle. -/
def endNoted (p : Pier) (cls cycle : Nat) (d : Dev) : Dev := runSet cls cycle (fun x => { x with ended := bitSet x.ended (pierIdx p) }) d
theorem outEnd_eq {d : Dev} {s : OutStream} {r : CycleRun} (h : runOf d s.cls s.cycle = some r) (p) :
    outEnd p s d = runsReview (endNoted p s.cls s.cycle (armsHeld p s.cls s.cycle (pierEnded p s r d))) := by
  simp only [outEnd, h]
  rfl
/-- The end of a cycle that is not released: noted with the run, its final window closed, requests and memory as they were. -/
theorem outEnd_spec {d : Dev} {s : OutStream} {r : CycleRun} (h : runOf d s.cls s.cycle = some r) (hr : r.released = false) (p) :
    ((runOf (outEnd p s d) s.cls s.cycle).map fun x => bitOf x.ended (pierIdx p)) = some true ∧ (outEnd p s d).ks = d.ks ∧
      memSame d (outEnd p s d) ∧
      (triGet (outEnd p s d).prs p).closed = (triGet d.prs p).closed ++ [lastWin s] := by
  rw [outEnd_eq h, armsHeld_hiOnly]
  refine ⟨?_, rfl, fun _ => rfl, ?_⟩
  · rw [runOf_runsReview (r := { r with ended := bitSet r.ended (pierIdx p) }) _ hr]
    · exact congrArg some (bitOf_bitSet_same _ _)
    · exact (runOf_runSet (f := fun x => { x with ended := bitSet x.ended (pierIdx p) }) (fun _ => ⟨rfl, rfl⟩) _ _ _).trans (congrArg _ h)
  · show (triGet (pierEnded p s r d).prs p).closed = _
    rw [pierEnded, triGet_prSet_same, workEnd, exchangePost, triGet_prSet_same]
    rfl

/-- The words of a request put into its stream, which has the rest to post. -/
def reqFed (p : Pier) (q : OutReq) (s : OutStream) (rest : List PierOut) (d : Dev) : Dev :=
  prSet p (streamFeed (reqFeed q) { s with todo := rest }) d
/-- The outputs of a class cycle that waits to post them. -/
def outsPut (p : Pier) (s : OutStream) (l : List PierOut) (d : Dev) : Dev := prSet p (streamPut { s with todo := l }) d
theorem streamOf_outsPut {p : Pier} {d : Dev} {cls cycle : Nat} {s : OutStream} (h : streamOf (triGet d.prs p) cls cycle = some s) (l) :
    streamOf (triGet (outsPut p s l d).prs p) cls cycle = some { s with todo := l } := by
  obtain ⟨rfl, rfl⟩ := streamOf_key h
  rw [outsPut, triGet_prSet_same]
  exact streamOf_streamPut (s := { s with todo := l }) h
/-- After a request's words the stream has the rest to post. -/
theorem streamOf_reqFed {p : Pier} {d : Dev} {cls cycle : Nat} {s : OutStream} (h : streamOf (triGet d.prs p) cls cycle = some s) (l q rest) :
    ∃ y, streamOf (triGet (reqFed p q s rest (outsPut p s l d)).prs p) cls cycle = some y ∧ y.todo = rest := by
  have hp := streamOf_outsPut h l
  obtain ⟨rfl, rfl⟩ := streamOf_key h
  rw [reqFed, triGet_prSet_same]
  exact streamOf_streamFeed (s := { s with todo := rest }) (reqFeed_keeps q _) (by simp [hp])
theorem streamOf_reqNew {p : Pier} {q : OutReq} {d : Dev} {cls cycle : Nat} {s : OutStream}
    (h : streamOf (triGet d.prs p) cls cycle = some s) : streamOf (triGet (reqNew p q d).prs p) cls cycle = some s := h
section
variable {p : Pier} {d : Dev} {cls cycle : Nat} {s : OutStream} (hs : streamOf (triGet d.prs p) cls cycle = some s)
include hs
theorem outPost_done {rest : List PierOut} (ht : s.todo = .done :: rest) (n) : outPost p cls cycle (n + 1) d = outEnd p s d := by
  simp only [outPost, hs, ht]
theorem outPost_full {u target attr : Nat} {l : List Byte} (hr : reqRoom d p ⟨cycle, cls, u, s.reqs, target, attr, l⟩ = false) (rest n) :
    outPost p cls cycle (n + 1) (outsPut p s (.req u target attr l :: rest) d) = outsPut p s (.req u target attr l :: rest) d := by
  have hr' : reqRoom (outsPut p s (.req u target attr l :: rest) d) p ⟨cycle, cls, u, s.reqs, target, attr, l⟩ = false := hr
  simp only [outPost, streamOf_outsPut hs, hr', Bool.false_eq_true, if_false]
/-- A write for which the buffer has room is posted as a request, and the rest follows. -/
theorem outPost_req {u target attr : Nat} {l : List Byte} (hi : inService d p = true)
    (hr : reqRoom d p ⟨cycle, cls, u, s.reqs, target, attr, l⟩ = true)
    (hn : d.ks.reqs.find? (sameReq ⟨cycle, cls, u, s.reqs, target, attr, l⟩) = none) (rest n) :
    outPost p cls cycle (n + 1) (outsPut p s (.req u target attr l :: rest) d) =
      outPost p cls cycle n (reqNew p ⟨cycle, cls, u, s.reqs, target, attr, l⟩
        (reqFed p ⟨cycle, cls, u, s.reqs, target, attr, l⟩ s rest (outsPut p s (.req u target attr l :: rest) d))) := by
  have hr' : reqRoom (outsPut p s (.req u target attr l :: rest) d) p ⟨cycle, cls, u, s.reqs, target, attr, l⟩ = true := hr
  simp only [outPost, streamOf_outsPut hs, hr', if_true]
  exact congrArg (outPost p cls cycle n)
    (reqPost_new (d := reqFed p ⟨cycle, cls, u, s.reqs, target, attr, l⟩ s rest (outsPut p s (.req u target attr l :: rest) d)) hi hr hn)
end
/-- A cycle that has no segment to run puts its writes and the end word out. -/
theorem outputPhase_ready {p : Pier} {d : Dev} {cls cycle : Nat} {r : CycleRun} {s : OutStream} (hi : inService d p = true)
    (hr : runOf d cls cycle = some r) (he : bitOf r.ended (pierIdx p) = false) (hm : modeOf d ≠ mSAFE)
    (hs : streamOf (triGet d.prs p) cls cycle = some s) (ht : s.todo = [])
    (hw : workRuns (rd d (Reg.CYC_CLS_CFG_CORES cls)) cls cycle (triGet d.prs p) = true) (hseg : classSegs d cls = []) (runs drive legs) :
    outputPhase p cls cycle runs drive legs d = outPost p cls cycle ((classOuts d p cls cycle drive legs).length + 1)
      (outsPut p s (classOuts d p cls cycle drive legs ++ [.done]) d) := by
  have hsafe : modeIs d mSAFE = false := by simp [modeIs, hm]
  simp only [outputPhase, hr, hs, hi, he, ht, hsafe, hw, hseg, segsRun]
  simp [outsPut]
section
variable {p : Pier} {d : Dev} {cls cycle : Nat} {r : CycleRun} {s : OutStream} (hi : inService d p = true) (hr : runOf d cls cycle = some r)
  (he : bitOf r.ended (pierIdx p) = false) (hl : r.released = false) (hm : modeOf d ≠ mSAFE)
  (hs : streamOf (triGet d.prs p) cls cycle = some s) (ht : s.todo = [])
  (hw : workRuns (rd d (Reg.CYC_CLS_CFG_CORES cls)) cls cycle (triGet d.prs p) = true) (hseg : classSegs d cls = [])
  {drive : Bool} {legs : Nat}
include hi hr he hl hm hs ht hw hseg
/-- With nothing to write the cycle ends for the Pier, and its window closes. -/
theorem outputPhase_none (ho : classOuts d p cls cycle drive legs = []) (runs) :
    ((runOf (outputPhase p cls cycle runs drive legs d) cls cycle).map fun x => bitOf x.ended (pierIdx p)) = some true ∧
      memSame d (outputPhase p cls cycle runs drive legs d) ∧
      closedOf (triGet (outputPhase p cls cycle runs drive legs d).prs p) cls cycle s.part =
        match closedOf (triGet d.prs p) cls cycle s.part with
        | some w => some w
        | none => some ⟨cls, cycle, s.part, sigWord s.crc (endWord s.words), s.reqs, true, false⟩ := by
  obtain ⟨rfl, rfl⟩ := streamOf_key hs
  rw [outputPhase_ready hi hr he hm hs ht hw hseg, ho, List.nil_append, outPost_done (streamOf_outsPut hs _) rfl]
  obtain ⟨hend, -, hmem, hclosed⟩ := outEnd_spec (d := outsPut p s [.done] d) (s := { s with todo := [.done] }) hr hl p
  refine ⟨hend, hmem, ?_⟩
  rw [outsPut, triGet_prSet_same] at hclosed
  exact closedOf_append (triGet d.prs p) (lastWin s) hclosed
section
variable {u target attr : Nat} {l : List Byte} (ho : classOuts d p cls cycle drive legs = [.req u target attr l])
include ho
/-- One write for which the buffer has room is held as a new request, and the cycle ends for the Pier. -/
theorem outputPhase_req (hq : reqRoom d p ⟨cycle, cls, u, s.reqs, target, attr, l⟩ = true)
    (hn : d.ks.reqs.find? (sameReq ⟨cycle, cls, u, s.reqs, target, attr, l⟩) = none) (runs) :
    (outputPhase p cls cycle runs drive legs d).ks.reqs =
        d.ks.reqs ++ [⟨cls, cycle, s.reqs, [(pierIdx p, ⟨cycle, cls, u, s.reqs, target, attr, l⟩)], none, false⟩] ∧
      ((runOf (outputPhase p cls cycle runs drive legs d) cls cycle).map fun x => bitOf x.ended (pierIdx p)) = some true ∧
      memSame d (outputPhase p cls cycle runs drive legs d) := by
  obtain ⟨y, hy, hyt⟩ := streamOf_reqFed hs [.req u target attr l, .done] ⟨cycle, cls, u, s.reqs, target, attr, l⟩ [.done]
  obtain ⟨hyc, hyn⟩ := streamOf_key hy
  rw [outputPhase_ready hi hr he hm hs ht hw hseg, ho, List.cons_append, List.nil_append, outPost_req hs hi hq hn,
    List.length_singleton, outPost_done (streamOf_reqNew hy) hyt]
  obtain ⟨hend, hks, hmem, -⟩ := outEnd_spec (s := y) (r := r) (d := reqNew p ⟨cycle, cls, u, s.reqs, target, attr, l⟩
    (reqFed p ⟨cycle, cls, u, s.reqs, target, attr, l⟩ s [.done] (outsPut p s [.req u target attr l, .done] d))) (by rw [hyc, hyn]; exact hr) hl p
  rw [hyc, hyn] at hend
  exact ⟨congrArg (·.reqs) hks, hend, hmem⟩
omit hl in
/-- One write for which the buffer has no room stalls with the end word. -/
theorem outputPhase_full (hq : reqRoom d p ⟨cycle, cls, u, s.reqs, target, attr, l⟩ = false) (runs) :
    outputPhase p cls cycle runs drive legs d = prSet p (streamPut { s with todo := [.req u target attr l, .done] }) d := by
  rw [outputPhase_ready hi hr he hm hs ht hw hseg, ho]
  exact outPost_full hs hq _ _
end
end

/-- Settles O25: a mark noted, a copy held or waiting, and the outputs of a cycle with at most one write. -/
theorem marksRequestsAndOutputs : Obligations.MarksRequestsAndOutputs := by
  unfold Obligations.MarksRequestsAndOutputs
  intro s p hs hi
  refine ⟨fun cls cycle t0 => ⟨fun r hr hm => ?_, fun h => ?_⟩, fun q => ⟨fun hr => ?_, fun hr hn => ?_, fun r hr hf hm => ?_⟩,
    fun cls cycle runs drive legs r x hr he hl hm hx ht hw hseg => ⟨fun ho => ?_, fun u target attr l ho => ⟨fun hq hn => ?_, fun hq => ?_⟩⟩⟩
  · rw [answers_of (i := .startMark p cls cycle t0) (f := startMark p cls cycle t0) rfl hs]
    obtain ⟨hkept, hskew⟩ := startMark_first_spec hr hm hi t0
    exact ⟨hkept, hskew, memSame_of_memories (by simp)⟩
  · rw [answers_of (i := .startMark p cls cycle t0) (f := startMark p cls cycle t0) rfl hs]
    exact startMark_other h t0
  · rw [answers_of (i := .outboundRequest p q) (f := outboundPost p q) rfl hs]
    exact outboundPost_waits hi hr
  · rw [answers_of (i := .outboundRequest p q) (f := outboundPost p q) rfl hs]
    exact outboundPost_new_spec hi hr hn
  · rw [answers_of (i := .outboundRequest p q) (f := outboundPost p q) rfl hs]
    obtain ⟨hc, hk⟩ := outboundPost_copy_spec hi hr hf hm
    refine ⟨hc, hk.trans ?_⟩
    cases hcl : r.closed
    · simp only [reqStanding_open hcl, Bool.false_eq_true, false_and, if_false, true_and]
    · simp [reqStanding, hcl]
  · rw [answers_of (i := .cycleOutputPhase p cls cycle runs drive legs) (f := outputPhase p cls cycle runs drive legs) rfl hs]
    exact outputPhase_none hi hr he hl hm hx ht hw hseg ho runs
  · rw [answers_of (i := .cycleOutputPhase p cls cycle runs drive legs) (f := outputPhase p cls cycle runs drive legs) rfl hs]
    exact outputPhase_req hi hr he hl hm hx ht hw hseg ho hq hn runs
  · rw [answers_of (i := .cycleOutputPhase p cls cycle runs drive legs) (f := outputPhase p cls cycle runs drive legs) rfl hs]
    exact outputPhase_full hi hr he hm hx ht hw hseg ho hq runs

end Sys2Proof.Machine
end

section
/-!
SUPPORT. What a step does to the mailbox slots while no window is held: most leave them, the closure of a slot turns few of them over.
-/
namespace Sys2Proof.Machine

/-! ## Steps that leave mailbox, windows and Piers alone -/

/-- What the Keystone holds of windows, releases and mailbox, and the Piers. -/
def heldView (d : Dev) : List KsWindow × List RelItem × NMap MbSlot × List (Nat × Nat) × Tri PierUnit :=
  (d.ks.windows, d.ks.releasing, d.ks.slots, d.ks.closedSlots, d.prs)
theorem heldView_of_control {d t : Dev} (h : control t = control d) : heldView t = heldView d :=
  congrArg (fun x => (x.2.1.windows, x.2.1.releasing, x.2.1.slots, x.2.1.closedSlots, x.2.2)) h
@[simp] theorem heldView_ite (c : Prop) [Decidable c] (a b : Dev) : heldView (if c then a else b) = if c then heldView a else heldView b :=
  apply_ite heldView c a b
@[simp] theorem forEach_heldView {α : Type} (l : List α) (f : α → Dev → Dev) (d : Dev) (h : ∀ x d, heldView (f x d) = heldView d) :
    heldView (forEach l f d) = heldView d := forEach_keeps (v := heldView) (fun x _ d => h x d) d
@[simp] theorem wr_heldView (d f v) : heldView (wr d f v) = heldView d := (rfl)
@[simp] theorem wrB_heldView (d f b) : heldView (wrB d f b) = heldView d := (rfl)
@[simp] theorem inc_heldView (d f) : heldView (inc d f) = heldView d := (rfl)
@[simp] theorem putBitF_heldView (d f i b) : heldView (putBitF d f i b) = heldView d := (rfl)
@[simp] theorem modeSet_heldView (f d) : heldView (modeSet f d) = heldView d := (rfl)
@[simp] theorem cycSet_heldView (f d) : heldView (cycSet f d) = heldView d := (rfl)
@[simp] theorem chgSet_heldView (f d) : heldView (chgSet f d) = heldView d := (rfl)
@[simp] theorem record_heldView (c l d) : heldView (record c l d) = heldView d := heldView_of_control (record_control _ _ _)
@[simp] theorem recordP_heldView (c p l d) : heldView (recordP c p l d) = heldView d := heldView_of_control (recordP_control _ _ _ _)
@[simp] theorem recordOnce_heldView (c i l d) : heldView (recordOnce c i l d) = heldView d := heldView_of_control (recordOnce_control _ _ _ _)
@[simp] theorem cmdFinal_heldView (s st r d) : heldView (cmdFinal s st r d) = heldView d := heldView_of_control (cmdFinal_control _ _ _ _)
@[simp] theorem cmdLeave_heldView (s d) : heldView (cmdLeave s d) = heldView d := heldView_of_control (cmdLeave_control _ _)
@[simp] theorem cmdWait_heldView (s d) : heldView (cmdWait s d) = heldView d := (rfl)
@[simp] theorem cmdHold_heldView (s st r ph d) : heldView (cmdHold s st r ph d) = heldView d := (rfl)
@[simp] theorem cmdsReturn_heldView (cls n d) : heldView (cmdsReturn cls n d) = heldView d := (rfl)

/-! ### Stations and agreed inputs (R112, R116, R182) -/

@[simp] theorem stationJudge_heldView (c cycle n im x fresh d) : heldView (stationJudge c cycle n im x fresh d) = heldView d := by
  simp [stationJudge]
@[simp] theorem stationsUnfresh_heldView (c cycle d) : heldView (stationsUnfresh c cycle d) = heldView d := by
  simp [stationsUnfresh, stationCount]
@[simp] theorem minorityCount_heldView (key limit i items odd p d) : heldView (minorityCount key limit i items odd p d) = heldView d := by
  have hput : ∀ f : KsUnit → NMap Nat, ∀ d, heldView (ksSet (fun k => { k with minority := f k }) d) = heldView d := fun _ _ => rfl
  simp [minorityCount, hput]
@[simp] theorem itemAgree_heldView (cls i it prev l done d) : heldView (itemAgree cls i it prev l done d).2 = heldView d := by simp [itemAgree]
@[simp] theorem itemsAgree_heldView (cls l prev items i done d) : heldView (itemsAgree cls l prev items i done d).2 = heldView d := by
  induction items generalizing i done d with
  | nil => rfl
  | cons it r ih => exact (ih _ _ _).trans (itemAgree_heldView _ _ _ _ _ _ _)
@[simp] theorem inputsAgree_heldView (cls l d) : heldView (inputsAgree cls l d) = heldView d :=
  itemsAgree_heldView cls l (mgetD d.ks.agreed cls []) (imgClass d cls).items 0 [] d

/-! ### The change of the program (R207, R213 to R215) -/

@[simp] theorem logPut_heldView (e d) : heldView (logPut e d) = heldView d := (rfl)
@[simp] theorem constsEdit_heldView (items d) : heldView (constsEdit items d) = heldView d := (rfl)
@[simp] theorem generationSave_heldView (d) : heldView (generationSave d) = heldView d := (rfl)
@[simp] theorem chgDrop_heldView (d) : heldView (chgDrop d) = heldView d := (rfl)
@[simp] theorem chgFail_heldView (st r d) : heldView (chgFail st r d) = heldView d := by simp [chgFail]
@[simp] theorem chgArm_heldView (ns d) : heldView (chgArm ns d) = heldView d := by
  unfold chgArm
  split <;> simp
@[simp] theorem commitFinal_heldView (d) : heldView (commitFinal d) = heldView d := by
  unfold commitFinal
  split <;> rfl
@[simp] theorem chgCommit_heldView (d) : heldView (chgCommit d) = heldView d := by simp [chgCommit]
@[simp] theorem revertLost_heldView (d) : heldView (revertLost d) = heldView d := by simp [revertLost]
@[simp] theorem chgCancel_heldView (d) : heldView (chgCancel d).2 = heldView d := by
  unfold chgCancel
  split <;> simp
@[simp] theorem chgAct_heldView (c d) : heldView (chgAct c d) = heldView d := by simp [chgAct]

/-! ### A Pier leaves the vote (R136 to R138) -/

@[simp] theorem verdictNote_heldView (kind odd win d) : heldView (verdictNote kind odd win d) = heldView d := (rfl)
@[simp] theorem stampAdd_heldView (k d) : heldView (stampAdd k d) = heldView d := by
  unfold stampAdd
  extract_lets l
  split <;> rfl
@[simp] theorem pierNamedHour_heldView (kind p win skew d) : heldView (pierNamedHour kind p win skew d) = heldView d := by
  simp [pierNamedHour, pierNamed]
@[simp] theorem pierOut_heldView (p reason d) : heldView (pierOut p reason d) = heldView d := by
  rw [pierOut, recordP_heldView]
  rfl

/-! ## Steps that turn slots over -/

/-- From a device with no window held, at most `n` mailbox slots are closed or opened, and no window comes to be held: what was closed lies at
most `n` places further back. -/
def SlotTurns (n : Nat) (d t : Dev) : Prop :=
  noWindows d → noWindows t ∧ t.ks.slots.length ≤ d.ks.slots.length + n ∧
    ∀ x k, x ∈ d.ks.closedSlots.take k → k + n ≤ 64 → x ∈ t.ks.closedSlots.take (k + n)
theorem SlotTurns.trans {m n : Nat} {d e t : Dev} (h : SlotTurns m d e) (g : SlotTurns n e t) : SlotTurns (m + n) d t := by
  intro hd
  obtain ⟨he, hl, hc⟩ := h hd
  obtain ⟨ht, gl, gc⟩ := g he
  refine ⟨ht, by omega, fun x k hx hk => ?_⟩
  rw [← Nat.add_assoc]
  exact gc x (k + m) (hc x k hx (by omega)) (by omega)
theorem SlotTurns.mono {m n : Nat} {d t : Dev} (h : SlotTurns m d t) (hn : m ≤ n) : SlotTurns n d t := by
  intro hd
  obtain ⟨ht, hl, hc⟩ := h hd
  exact ⟨ht, by omega, fun x k hx hk => List.take_subset_take_left _ (by omega) (hc x k hx (by omega))⟩
theorem noWindows_of_heldView {d t : Dev} (h : heldView t = heldView d) (hd : noWindows d) : noWindows t := by
  have hw : t.ks.windows = d.ks.windows := congrArg (·.1) h
  have hr : t.ks.releasing = d.ks.releasing := congrArg (·.2.1) h
  have hp : t.prs = d.prs := congrArg (·.2.2.2.2) h
  simpa only [noWindows, piersIdle, hw, hr, hp] using hd

theorem SlotTurns.of_parts {d t : Dev} (h : noWindows d → noWindows t) (hl : t.ks.slots.length ≤ d.ks.slots.length)
    (hc : t.ks.closedSlots = d.ks.closedSlots) : SlotTurns 0 d t :=
  fun hd => ⟨h hd, hl, fun x k hx _ => by rwa [hc]⟩
/-- A step that leaves mailbox, windows and Piers alone turns no slot over. -/
theorem SlotTurns.of_view {d t : Dev} (h : heldView t = heldView d) : SlotTurns 0 d t :=
  .of_parts (noWindows_of_heldView h) (le_of_eq (congrArg (·.2.2.1.length) h)) (congrArg (·.2.2.2.1) h)
theorem SlotTurns.refl (d : Dev) : SlotTurns 0 d d := .of_view rfl
/-- What follows a step that turns no slot over. -/
theorem SlotTurns.then {n : Nat} {d e t : Dev} (h : SlotTurns 0 d e) (g : SlotTurns n e t) : SlotTurns n d t := Nat.zero_add n ▸ h.trans g
theorem SlotTurns.ite {n : Nat} {c : Prop} [Decidable c] {d a b : Dev} (ha : SlotTurns n d a) (hb : SlotTurns n d b) :
    SlotTurns n d (if c then a else b) := by
  split
  · exact ha
  · exact hb
/-- The turns of a list are those of its elements. -/
theorem SlotTurns.forEach {α : Type} {n : Nat} {f : α → Dev → Dev} (h : ∀ x d, SlotTurns n d (f x d)) (l : List α) (d : Dev) :
    SlotTurns (l.length * n) d (Machine.forEach l f d) := by
  induction l generalizing d with
  | nil => exact (SlotTurns.refl d).mono (Nat.zero_le _)
  | cons x r ih =>
    rw [List.length_cons, Nat.succ_mul, Nat.add_comm]
    exact (h x d).trans (ih (f x d))
theorem SlotTurns.forEach_stay {α : Type} {f : α → Dev → Dev} (h : ∀ x d, SlotTurns 0 d (f x d)) (l : List α) (d : Dev) :
    SlotTurns 0 d (Machine.forEach l f d) := SlotTurns.forEach h l d
theorem SlotTurns.prSet {f : PierUnit → PierUnit} {d : Dev} (h : ∀ u, pierIdle u = true → pierIdle (f u) = true) (p) :
    SlotTurns 0 d (prSet p f d) := by
  refine .of_parts (fun hd => ?_) (Nat.le_refl _) rfl
  obtain ⟨hw, hr, hp⟩ := hd
  refine ⟨hw, hr, fun q => ?_⟩
  show pierIdle (triGet (triSet d.prs p (f (triGet d.prs p))) q) = true
  rw [triGet_triSet]
  split
  · exact h _ (hp p)
  · exact hp q

/-! ### SAFE (R93) -/

theorem safeEffects_slots (d) : SlotTurns 0 d (safeEffects d) := by
  have hv : heldView (pinReview (trigDisarmAll (allLegsOff (modeWrite mSAFE d)))) = heldView d :=
    heldView_of_control (by simp) |>.trans ((heldView_of_control (modeWrite_control mSAFE d)).trans rfl)
  have hs : heldView (safeEffects d) = heldView (allStop (pinReview (trigDisarmAll (allLegsOff (modeWrite mSAFE d))))) :=
    heldView_of_control (safeEffects_control d)
  have hstop : ∀ e, SlotTurns 0 e (allStop e) := fun e => .of_parts (fun _ => (allStop_nothingHeld e).1) (Nat.zero_le _) rfl
  exact ((SlotTurns.of_view hv).then (hstop _)).then (.of_view hs)
theorem safeNow_slots (d) : SlotTurns 0 d (safeNow d) := by
  unfold safeNow
  exact SlotTurns.then (.of_view (by simp [cursorOldest])) (safeEffects_slots _)
theorem safeEnter_slots (cause detail d) : SlotTurns 0 d (safeEnter cause detail d) := by
  unfold safeEnter
  split
  · exact .of_view (by simp)
  split
  · exact SlotTurns.then (.of_view (record_heldView _ _ _)) (.ite (.refl _) (safeNow_slots _))
  · refine SlotTurns.then (SlotTurns.then (.of_view ?_) (.ite (.of_view (modeSet_heldView _ _)) (safeNow_slots _))) (.of_view (record_heldView _ _ _))
    rfl
theorem safeNoMajority_slots (d) : SlotTurns 0 d (safeNoMajority d) := safeEnter_slots _ _ d

/-! ### A Pier isolated (R136, R137, R144) -/

theorem pierIsolate_slots (p d) : SlotTurns 0 d (pierIsolate p d) := by
  refine .of_parts (fun hd => ?_) (le_of_eq (List.length_map _)) rfl
  obtain ⟨hw, hr, hp⟩ := hd
  refine ⟨?_, hr, fun q => ?_⟩
  · show d.ks.windows.map (winWithout (pierIdx p)) = []
    simp [hw]
  · show pierIdle (triGet (triSet d.prs p (pierStop (triGet d.prs p))) q) = true
    rw [triGet_triSet]
    split
    · exact pierIdle_pierStop _
    · exact hp q
theorem pierLeft_slots (hour p d) : SlotTurns 0 d (pierLeft hour p d) := by
  unfold pierLeft
  exact .ite ((pierIsolate_slots p d).then (.of_view (pierOut_heldView p 1 _))) (pierIsolate_slots p d)
theorem pierName_slots (kind p win skew d) : SlotTurns 0 d (pierName kind p win skew d) := by
  have hn : SlotTurns 0 d (pierNamedHour kind p win skew d) := .of_view (pierNamedHour_heldView _ _ _ _ _)
  obtain ⟨hour, hh⟩ := pierName_eq kind p win skew d
  rw [hh]
  have hleft := hn.then (pierLeft_slots hour p _)
  exact .ite (.ite (hleft.then (safeNoMajority_slots _)) hleft) hn
theorem winRejudge_slots (d) : SlotTurns 0 d (winRejudge d) := fun hd => by
  rw [winRejudge_idle hd.1]
  exact SlotTurns.refl d hd
theorem pierError_slots (p d) : SlotTurns 0 d (pierError p d) := by
  unfold pierError
  exact .ite ((pierName_slots _ p _ _ d).then (.ite (.refl _) (winRejudge_slots _))) (.refl d)
theorem chgAgree_slots (n partner vals d) : SlotTurns 0 d (chgAgree n partner vals d) := by
  have harm : ∀ ns e, SlotTurns 0 e (chgArm ns e) := fun ns e => .of_view (chgArm_heldView ns e)
  have hfail : ∀ st r e, SlotTurns 0 e (chgFail st r e) := fun st r e => .of_view (chgFail_heldView st r e)
  unfold chgAgree
  refine .ite (.refl d) (.ite (harm _ d) ?_)
  refine SlotTurns.then (SlotTurns.of_view (chgSet_heldView _ d)) (.ite ?_ (.ite (hfail _ _ _) (.ite (harm _ _) (.refl _))))
  exact SlotTurns.forEach (fun e d => SlotTurns.then (.of_view (recordP_heldView _ _ _ d)) (pierError_slots _ _)) _ _

end Sys2Proof.Machine
end

section
/-!
SUPPORT. MAILBOX_CONTRIBUTION, MAILBOX_WAIT_EXPIRY and MAILBOX_DEADLINE: postings kept or late, the closure of a slot.
-/
namespace Sys2Proof.Machine

/-! ## What a Pier has yet to post (R123, R129) -/

/-- What of a Pier may wait: stalled signatures, requests, and the outputs of its streams. -/
def waitsView (u : PierUnit) : List StalledSig × List OutReq × List OutStream := (u.stalled, u.waiting, u.streams)
theorem pierIdle_of_waitsView {u v : PierUnit} (h : waitsView v = waitsView u) (hu : pierIdle u = true) : pierIdle v = true := by
  have hs : v.stalled = u.stalled := congrArg (·.1) h
  have hw : v.waiting = u.waiting := congrArg (·.2.1) h
  have hx : v.streams = u.streams := congrArg (·.2.2) h
  rwa [pierIdle, hs, hw, hx]
theorem foldl_waitsView {α : Type} {f : PierUnit → α → PierUnit} (h : ∀ u x, waitsView (f u x) = waitsView u) (l : List α) (u) :
    waitsView (l.foldl f u) = waitsView u := by
  induction l generalizing u with
  | nil => rfl
  | cons x r ih => exact (ih _).trans (h u x)
theorem pageMark_waitsView (u n) : waitsView (pageMark u n) = waitsView u := by
  unfold pageMark
  split <;> rfl
theorem pierStore_waitsView (core a l u) : waitsView (pierStore core a l u) = waitsView u := by
  unfold pierStore
  refine (foldl_waitsView pageMark_waitsView _ _).trans ?_
  split <;> rfl
theorem varPut_waitsView (v l u) : waitsView (varPut v l u) = waitsView u := pierStore_waitsView _ _ _ u
theorem streamOpen_idle (cls cycle digest) {u : PierUnit} (h : pierIdle u = true) : pierIdle (streamOpen cls cycle digest u) = true := by
  obtain ⟨-, -, htodo, hstreams, hwait, hstall⟩ := wordFeed_keeps (⟨cls, cycle, 0, 0, 0, winId cls cycle 0, 0, []⟩, u) digest
  unfold streamOpen
  split
  · exact h
  · simp only [pierIdle, Bool.and_eq_true, List.all_eq_true] at h ⊢
    obtain ⟨⟨hs, hw⟩, hx⟩ := h
    refine ⟨⟨by rwa [hstall], by rwa [hwait]⟩, fun s hm => ?_⟩
    have hm' := List.mem_of_mem_take (List.mem_reverse.mp hm)
    rw [List.mem_reverse, List.mem_append, hstreams, List.mem_singleton] at hm'
    rcases hm' with hm' | rfl
    · exact hx s hm'
    · rw [htodo]
      rfl

/-! ## An accepted frame (R112, R117, R352) -/

theorem inputsStore_slots (cls cycle d) : SlotTurns 0 d (inputsStore cls cycle d) :=
  SlotTurns.forEach_stay (fun _ _ => .prSet (fun _ hu => pierIdle_of_waitsView
    (foldl_waitsView (fun u (e : ImgVar × List Byte) => varPut_waitsView e.1 e.2 u) _ _) hu) _) _ d
theorem streamsOpen_slots (cls cycle d) : SlotTurns 0 d (streamsOpen cls cycle d) :=
  SlotTurns.forEach_stay (fun _ _ => .prSet (fun _ hu => streamOpen_idle _ _ _ hu) _) _ d
theorem mbInputs_slots (cls cycle status d) : SlotTurns 0 d (mbInputs cls cycle status d) := by
  have hv : heldView (ksSet (fun k => { k with frameStatus := mput k.frameStatus cls status }) d) = heldView d := rfl
  exact ((SlotTurns.of_view hv).then (inputsStore_slots cls cycle _)).then (streamsOpen_slots cls cycle _)
theorem itemsWrite_slots (items d) : SlotTurns 0 d (itemsWrite items d) := by
  refine SlotTurns.forEach_stay (fun _ _ => .prSet (fun _ hu => pierIdle_of_waitsView (foldl_waitsView (fun u e => ?_) _ _) hu) _) _ d
  split
  · rfl
  · exact varPut_waitsView _ _ u
theorem modeAgreed_slots (c d) : SlotTurns 0 d (modeAgreed c d) := by
  have hw : SlotTurns 0 d (cmdWait c.seq d) := .of_view (cmdWait_heldView _ d)
  unfold modeAgreed
  exact .ite ((hw.then (safeEnter_slots _ _ _)).then (.of_view (cmdFinal_heldView _ _ _ _))) (hw.then (.of_view (modeSet_heldView _ _)))
theorem editAgreed_slots (cls c d) : SlotTurns 0 d (editAgreed cls c d) := by
  have hm : SlotTurns 0 d (modeSet (fun m => { m with generation := m.generation + 1 }) d) := .of_view (modeSet_heldView _ d)
  exact (hm.then (itemsWrite_slots _ _)).then (.of_view ((record_heldView _ _ _).trans
    ((generationSave_heldView _).trans ((logPut_heldView _ _).trans (constsEdit_heldView _ _)))))
theorem cmdAgreed_slots (cls n c d) : SlotTurns 0 d (cmdAgreed cls n c d) := by
  have hhold : ∀ r e, SlotTurns 0 e (if c.again then cmdLeave c.seq e else cmdHold c.seq St.OK r (.agreed cls n) e) := fun r e =>
    .ite (.of_view (cmdLeave_heldView _ e)) (.of_view (cmdHold_heldView _ _ _ _ e))
  have hmode : ∀ f, SlotTurns 0 d (modeSet f d) := fun f => .of_view (modeSet_heldView f d)
  unfold cmdAgreed
  extract_lets hold
  split
  · exact modeAgreed_slots c d
  · exact .of_view (chgAct_heldView c d)
  · exact (editAgreed_slots cls c d).then (hhold _ _)
  · exact (hmode _).then (hhold _ _)
  · exact (hmode _).then (hhold _ _)
  · exact (itemsWrite_slots _ d).then (hhold _ _)
  · exact .of_view (cmdWait_heldView _ d)
  · exact .of_view (cmdHold_heldView _ _ _ _ d)
  · exact .refl d
theorem cmdsAgree_slots (cls n d) : SlotTurns 0 d (cmdsAgree cls n d) :=
  SlotTurns.forEach_stay (fun c d => .ite (.refl d) (cmdAgreed_slots cls n c d)) _ d
theorem mbChange_slots (cls cycle partner changes d) : SlotTurns 0 d (mbChange cls cycle partner changes d) :=
  .ite (chgAgree_slots _ _ _ d) (.refl d)
theorem mbAccept_slots (cls cycle status changes d) : SlotTurns 0 d (mbAccept cls cycle status changes d) := by
  unfold mbAccept
  generalize (if pairHalted d 1 then asNONE else status) = st
  refine SlotTurns.then (((mbInputs_slots cls cycle st d).then (cmdsAgree_slots cls cycle _)).then ?_) (.ite (.refl _) (mbChange_slots _ _ _ _ _))
  split
  · exact .refl _
  · exact .of_view (chgSet_heldView _ _)
theorem mbSplit_slots (cls cycle changes d) : SlotTurns 0 d (mbSplit cls cycle changes d) := by
  have hr : SlotTurns 0 d (record Ev.FRAME_DIGEST_SPLIT [.w cls, .q cycle] (stationsUnfresh cls cycle d)) := .of_view (by simp)
  exact ((hr.then (mbInputs_slots _ _ _ _)).then (.of_view (cmdsReturn_heldView cls cycle _))).then (mbChange_slots _ _ _ _ _)

/-! ## A slot closes (R110 to R112, R117) -/

theorem mput_length {α : Type} (m : NMap α) (i v) : (mput m i v).length ≤ m.length + 1 := by
  induction m with
  | nil => simp [mput]
  | cons e r ih =>
    obtain ⟨k, w⟩ := e
    unfold mput
    split_ifs
    · simp
    · simp
    · simpa using ih
theorem mbPut_slots (cls s d) : SlotTurns 1 d (mbPut cls s d) := fun hd =>
  ⟨hd, mput_length _ _ _, fun _ k hx _ => List.take_subset_take_left _ (Nat.le_succ k) hx⟩
theorem slotClose_closed (cls s d) : (cls, s.cycle) ∈ (slotClose cls s d).ks.closedSlots.take 1 := by
  simp [slotClose, ksSet]
theorem slotClose_slots (cls s d) : SlotTurns 1 d (slotClose cls s d) := fun hd => by
  refine ⟨hd, (List.length_filter_le _ _).trans (Nat.le_succ _), fun x k hx hk => ?_⟩
  show x ∈ (((cls, s.cycle) :: d.ks.closedSlots).take 64).take (k + 1)
  rw [List.take_take, Nat.min_eq_left hk, List.take_succ_cons]
  exact List.mem_cons_of_mem _ hx
theorem slotAbsent_slots (cls s l d) : SlotTurns 0 d (slotAbsent cls s l d) := .of_view rfl
/-- After the first exchange of a slot has closed, at most the second opens. -/
theorem mbFirst_slots (cls s d) : SlotTurns 1 (slotClose cls s d) (mbFirst cls s d) := by
  have ha := slotAbsent_slots cls s (slotPresent s) (slotClose cls s d)
  have hi := ha.then (.of_view (inputsAgree_heldView cls (slotPresent s) _))
  simp only [mbFirst]
  refine .ite ((ha.then (safeNoMajority_slots _)).mono (Nat.zero_le 1)) ?_
  split
  · exact hi.then (mbPut_slots _ _ _)
  · exact .ite ((hi.then (mbAccept_slots _ _ _ _ _)).mono (Nat.zero_le 1)) (hi.then (mbPut_slots _ _ _))
theorem mbSecond_slots (cls s d) : SlotTurns 0 (slotClose cls s d) (mbSecond cls s d) := by
  simp only [mbSecond]
  split
  · exact mbSplit_slots _ _ _ _
  · exact (SlotTurns.forEach_stay (fun i d => pierError_slots (pierOf i) d) _ _).then (.ite (.refl _) (mbAccept_slots _ _ _ _ _))
/-- A slot whose release the halves agree on closes, and at most one opens. -/
theorem mbClose_slots (cls s d) : SlotTurns 1 (slotClose cls s d) (mbClose cls true s d) := by
  simp only [mbClose, Bool.not_true, Bool.false_eq_true, if_false]
  exact .ite ((mbSecond_slots cls s d).mono (Nat.zero_le 1)) (mbFirst_slots cls s d)
theorem mbClose_turns (cls s d) : SlotTurns 2 d (mbClose cls true s d) := (slotClose_slots cls s d).trans (mbClose_slots cls s d)
/-- The closure of a slot of a cycle is noted with the first. -/
theorem mbClose_closed {d : Dev} (h : noWindows d) (cls s) : (cls, s.cycle) ∈ (mbClose cls true s d).ks.closedSlots.take 2 := by
  obtain ⟨hn, -, -⟩ := slotClose_slots cls s d h
  obtain ⟨-, -, hc⟩ := mbClose_slots cls s d hn
  exact hc _ 1 (slotClose_closed cls s d) (by decide)

/-! ## What is evaluated after a posting (R111, R123, R156) -/

theorem mem_of_mget {α : Type} {m : NMap α} {i : Nat} {v : α} (h : mget m i = some v) : (i, v) ∈ m := by
  induction m with
  | nil => simp [mget] at h
  | cons e r ih =>
    obtain ⟨k, w⟩ := e
    unfold mget at h
    split at h
    · next hk =>
      cases h
      exact hk ▸ List.mem_cons_self
    · exact List.mem_cons_of_mem _ (ih h)
theorem forEach_id {α : Type} {f : α → Dev → Dev} {d : Dev} (h : ∀ x, f x d = d) (l : List α) : forEach l f d = d := by
  induction l with
  | nil => rfl
  | cons x r ih => exact (congrArg (forEach r f) (h x)).trans ih
/-- Slots that wait for postings stay. -/
theorem slotsReview_waits {d : Dev} (h : slotsWait d) : slotsReview d = d := by
  refine forEach_id (fun cls => ?_) _
  split
  · rfl
  · next s hs =>
    obtain ⟨hh, hp⟩ := h _ (mem_of_mget hs)
    have hn : ¬ mbCount s.expect ≤ s.posts.length := Nat.not_le.mpr hp
    have hheld : s.held = false := hh
    simp [hheld, hn]
theorem slotsReview_turns (d) : SlotTurns (d.ks.slots.length * 2) d (slotsReview d) := by
  have hstay : ∀ e, SlotTurns 2 e e := fun e => (SlotTurns.refl e).mono (Nat.zero_le 2)
  rw [← List.length_map (f := (·.1)) (as := d.ks.slots)]
  refine SlotTurns.forEach (fun cls e => ?_) _ d
  split
  · exact hstay e
  · exact .ite (hstay e) (.ite (.ite (hstay e) (mbClose_turns _ _ e)) (.ite (mbClose_turns _ _ e) (hstay e)))
/-- With no window held, only slots are evaluated, and not while releases are frozen. -/
theorem settle_slots {d : Dev} (h : noWindows d) : settle d = if flag d Reg.KS_STATUS_FROZEN then d else slotsReview d := by
  obtain ⟨⟨hw, hr, hp⟩, -, -⟩ := slotsReview_turns d h
  obtain ⟨-, -, hp0⟩ := h
  have ho : settleOnce d = if flag d Reg.KS_STATUS_FROZEN then d else slotsReview d := by
    unfold settleOnce
    split
    · rfl
    · simp only [winOrder_idle hw, hr, List.length_nil, relRun]
  have hi : (allPiers.all fun p => pierIdle (triGet (settleOnce d).prs p)) = true := by
    rw [ho]
    split
    · simp [allPiers, hp0 _]
    · simp [allPiers, hp _]
  unfold settle
  generalize (allPiers.map fun p => (triGet d.prs p).stalled.length).foldl max 1 = n
  cases n with
  | zero => exact ho
  | succ n => rw [settleN, if_pos hi, ho]
theorem settle_waits {d : Dev} (h : noWindows d) (hs : slotsWait d) : settle d = d := by
  rw [settle_slots h, slotsReview_waits hs, ite_self]
/-- What was closed among the first stays closed while other slots are evaluated. -/
theorem settle_closed {d : Dev} (h : noWindows d) {x : Nat × Nat} {k : Nat} (hx : x ∈ d.ks.closedSlots.take k)
    (hk : k + d.ks.slots.length * 2 ≤ 64) : x ∈ (settle d).ks.closedSlots := by
  rw [settle_slots h]
  split
  · exact List.mem_of_mem_take hx
  · obtain ⟨-, -, hc⟩ := slotsReview_turns d h
    exact List.mem_of_mem_take (hc x k hx hk)

end Sys2Proof.Machine
end

section
/-!
SUPPORT. The statement of the mailbox: each of its clauses from the device before the posting, and their assembly.
-/
namespace Sys2Proof.Machine

/-! ## A contribution is kept or late (R106 to R108, R117) -/

/-- The slot that the first contribution to a cycle opens. -/
def firstSlot (d : Dev) (p : Pier) (cls : Nat) (c : Contribution) : MbSlot :=
  let expect := mbExpect d cls c.cycle
  ⟨c.cycle, false, expect, [(pierIdx p, contribution d p cls c)], decide (mbCount expect ≤ 2), none, [], false⟩
theorem mbCycle_running {d : Dev} {cls cycle : Nat} {r : CycleRun} (hr : runOf d cls cycle = some r)
    (hc : (cls, cycle) ∉ d.ks.closedSlots) : mbCycle d cls cycle = some cycle := by
  obtain ⟨hcls, hcyc⟩ := runOf_key hr
  have hany : ((d.cyc.runs.filter fun r => r.cls == cls && !d.ks.closedSlots.contains (cls, r.cycle)).any fun r => r.cycle == cycle) = true :=
    List.any_eq_true.mpr ⟨r, List.mem_filter.mpr ⟨List.mem_of_find?_eq_some hr, by simp [hcls, hcyc, hc]⟩, by simp [hcyc]⟩
  simp only [mbCycle, hany, if_true]
theorem mailboxPost_first {d : Dev} {p : Pier} {cls : Nat} {c : Contribution} {r : CycleRun} (hi : inService d p = true)
    (hm : modeOf d ≠ mSAFE) (hx : mget d.ks.slots cls = none) (hc : (cls, c.cycle) ∉ d.ks.closedSlots)
    (hr : runOf d cls c.cycle = some r) (he : bitOf (mbExpect d cls c.cycle) (pierIdx p) = true)
    (h2 : 2 ≤ mbCount (mbExpect d cls c.cycle)) (crcOk) : mailboxPost p cls c crcOk d = mbPut cls (firstSlot d p cls c) d := by
  have ht : mbTakes ⟨c.cycle, false, mbExpect d cls c.cycle, [], false, none, [], false⟩ p c = true := by simp [mbTakes, he, mget]
  have h1 : ¬ mbCount (mbExpect d cls c.cycle) ≤ 1 := Nat.not_le.mpr h2
  simp only [mailboxPost, modeIs, hi, hx, hc, mbCycle_running hr hc, ht]
  simp [hm, mbEnter, mput, h1, firstSlot]
theorem mbPut_waits {d : Dev} {s : MbSlot} (h : slotsWait d) (hh : s.held = false) (hp : s.posts.length < mbCount s.expect) (cls) :
    slotsWait (mbPut cls s d) := fun e he => by
  rcases mem_of_mput he with rfl | he
  · exact ⟨hh, hp⟩
  · exact h e he
theorem mailboxPost_closed {d : Dev} {p : Pier} {cls : Nat} {c : Contribution} (hi : inService d p = true) (hm : modeOf d ≠ mSAFE)
    (hx : mget d.ks.slots cls = none) (hc : (cls, c.cycle) ∈ d.ks.closedSlots) (crcOk) :
    mailboxPost p cls c crcOk d =
      recordP Ev.MAILBOX_LATE p [.w cls, .q c.cycle, .w (pierIdx p)] (inc d Reg.KS_MINORITY_COUNT_MAILBOX_LATE) := by
  simp only [mailboxPost, mbLate, modeIs, hi, hx, hc]
  simp [hm]
theorem recordP_regsBut (c p l d) : regsBut evCounts d (recordP c p l d) := fun g hg =>
  rd_recordP c p l d g (hg _ (by simp [evCounts])) (hg _ (by simp [evCounts]))
theorem recordP_reportsOnly (c p l d) : reportsOnly d (recordP c p l d) := by
  rw [recordP_shape]
  rfl
theorem recordP_ks (c p l d) : (recordP c p l d).ks = d.ks := by rw [recordP_shape]
/-- A late posting is counted and reported; the Keystone's state stays. -/
theorem late_spec (f : Fld) (h1 : fldKey Reg.EV_COUNT_DROPPED ≠ fldKey f) (h2 : fldKey Reg.EV_COUNT_SUPPRESSED ≠ fldKey f) (c p l d) :
    rd (recordP c p l (inc d f)) f = satAdd f.w (rd d f) 1 ∧ regsBut ([f] ++ evCounts) d (recordP c p l (inc d f)) ∧
      (recordP c p l (inc d f)).ks = d.ks ∧ reportsOnly d (recordP c p l (inc d f)) :=
  ⟨(rd_recordP c p l _ f h1 h2).trans (rd_inc_same d f), (regsBut_wr d f _).trans (recordP_regsBut c p l _),
    recordP_ks c p l _, (recordP_reportsOnly c p l (inc d f)).trans rfl⟩

theorem contribution_kept {d : Dev} {p : Pier} {cls : Nat} {c : Contribution} {r : CycleRun} (hw : noWindows d) (hsw : slotsWait d)
    (hi : inService d p = true) (hm : modeOf d ≠ mSAFE) (hx : mget d.ks.slots cls = none) (hc : (cls, c.cycle) ∉ d.ks.closedSlots)
    (hr : runOf d cls c.cycle = some r) (he : bitOf (mbExpect d cls c.cycle) (pierIdx p) = true)
    (h2 : 2 ≤ mbCount (mbExpect d cls c.cycle)) (crcOk) :
    settle (mailboxPost p cls c crcOk d) = mbPut cls (firstSlot d p cls c) d := by
  obtain ⟨hw', -, -⟩ := mbPut_slots cls (firstSlot d p cls c) d hw
  rw [mailboxPost_first hi hm hx hc hr he h2]
  exact settle_waits hw' (mbPut_waits (s := firstSlot d p cls c) hsw rfl h2 cls)
theorem contribution_late {d : Dev} {p : Pier} {cls : Nat} {c : Contribution} (hw : noWindows d) (hsw : slotsWait d)
    (hi : inService d p = true) (hm : modeOf d ≠ mSAFE) (hx : mget d.ks.slots cls = none) (hc : (cls, c.cycle) ∈ d.ks.closedSlots) (crcOk) :
    settle (mailboxPost p cls c crcOk d) =
      recordP Ev.MAILBOX_LATE p [.w cls, .q c.cycle, .w (pierIdx p)] (inc d Reg.KS_MINORITY_COUNT_MAILBOX_LATE) := by
  have hv := (recordP_heldView Ev.MAILBOX_LATE p [.w cls, .q c.cycle, .w (pierIdx p)] (inc d Reg.KS_MINORITY_COUNT_MAILBOX_LATE)).trans
    (inc_heldView d _)
  rw [mailboxPost_closed hi hm hx hc]
  refine settle_waits (noWindows_of_heldView hv hw) ?_
  rw [slotsWait, recordP_ks]
  exact hsw

/-! ## The wait timer of a slot (R110, R155) -/

theorem mailboxWait_running {d : Dev} {cls : Nat} {x : MbSlot} (hx : mget d.ks.slots cls = some x) (ht : x.timer = true)
    (hsw : slotsWait d) (crcOk) : mailboxWait cls crcOk d = mbClose cls crcOk x d := by
  obtain ⟨hh, -⟩ := hsw _ (mem_of_mget hx)
  have hheld : x.held = false := hh
  simp [mailboxWait, hx, ht, hheld]
theorem mailboxWait_idle {d : Dev} {cls : Nat} (h : mget d.ks.slots cls = none ∨ ∃ x, mget d.ks.slots cls = some x ∧ x.timer = false) (crcOk) :
    mailboxWait cls crcOk d = d := by
  rcases h with h | ⟨x, h, ht⟩
  · simp [mailboxWait, h]
  · simp [mailboxWait, h, ht]
/-- A slot that closes is noted as closed also when the slots left have been evaluated. -/
theorem settle_mbClose_closed {d : Dev} (hw : noWindows d) (hl : d.ks.slots.length ≤ 16) (cls s) :
    (cls, s.cycle) ∈ (settle (mbClose cls true s d)).ks.closedSlots := by
  obtain ⟨hn, hlen, -⟩ := mbClose_turns cls s d hw
  exact settle_closed hn (mbClose_closed hw cls s) (by omega)
theorem halvesDisagree_frozen (what d) : flag (halvesDisagree what d) Reg.KS_STATUS_FROZEN = true := by
  unfold halvesDisagree
  split
  · assumption
  · rw [flag_wrB_ne _ _ (by decide), flag_wrB_ne _ _ (by decide)]
    exact flag_wrB_same _ _ true (by decide)
@[simp] theorem halvesDisagree_heldView (what d) : heldView (halvesDisagree what d) = heldView d := by simp [halvesDisagree]
/-- A slot whose release the halves' CRCs differ over is held while releases freeze. -/
theorem mbClose_disagree {d : Dev} (hw : noWindows d) (cls s) :
    flag (settle (mbClose cls false s d)) Reg.KS_STATUS_FROZEN = true ∧
      mget (settle (mbClose cls false s d)).ks.slots cls = some { s with held := true } ∧ memSame d (settle (mbClose cls false s d)) := by
  have he : mbClose cls false s d = halvesDisagree 2 (mbPut cls { s with held := true } d) := rfl
  have hv := halvesDisagree_heldView 2 (mbPut cls { s with held := true } d)
  have hf := halvesDisagree_frozen 2 (mbPut cls { s with held := true } d)
  have hp : noWindows (mbPut cls { s with held := true } d) := hw
  rw [he, settle_slots (noWindows_of_heldView hv hp), if_pos hf]
  have hs : (halvesDisagree 2 (mbPut cls { s with held := true } d)).ks.slots = mput d.ks.slots cls { s with held := true } :=
    congrArg (·.2.2.1) hv
  exact ⟨hf, by rw [hs, mget_mput_same], memSame_of_memories (halvesDisagree_memories _ _)⟩

/-! ## The deadline of a cycle (R111, R117) -/

theorem mailboxDeadline_slot {d : Dev} {cls : Nat} {x : MbSlot} (hx : mget d.ks.slots cls = some x) (hp : x.posts.length < 2)
    (h2 : x.second = false) (hj : x.majority = none) (hsw : slotsWait d) : mailboxDeadline cls x.cycle d = mbFirst cls x d := by
  obtain ⟨hh, -⟩ := hsw _ (mem_of_mget hx)
  have hheld : x.held = false := hh
  simp [mailboxDeadline, hx, hp, hj, hheld, mbClose, h2]
/-- The slot of a cycle to which nothing was posted. -/
def emptySlot (d : Dev) (cls cycle : Nat) : MbSlot := ⟨cycle, false, mbExpect d cls cycle, [], false, none, [], false⟩
theorem mailboxDeadline_empty {d : Dev} {cls cycle : Nat} (hx : mget d.ks.slots cls = none) (hr : (runOf d cls cycle).isSome = true)
    (hc : (cls, cycle) ∉ d.ks.closedSlots) : mailboxDeadline cls cycle d = mbFirst cls (emptySlot d cls cycle) d := by
  simp [mailboxDeadline, hx, hr, hc, emptySlot]
theorem mailboxDeadline_stays {d : Dev} {cls cycle : Nat}
    (h : (∃ x, mget d.ks.slots cls = some x ∧ (x.cycle ≠ cycle ∨ 2 ≤ x.posts.length ∨ x.majority.isSome = true)) ∨
      (mget d.ks.slots cls = none ∧ ((runOf d cls cycle).isSome = false ∨ (cls, cycle) ∈ d.ks.closedSlots))) :
    mailboxDeadline cls cycle d = d := by
  rcases h with ⟨x, hx, h⟩ | ⟨hx, h⟩
  · simp only [mailboxDeadline, hx]
    refine if_neg ?_
    rintro ⟨hc, hp, hj, -⟩
    rcases h with h | h | h
    · exact h hc
    · exact absurd hp (Nat.not_lt.mpr h)
    · rw [hj] at h
      cases h
  · simp only [mailboxDeadline, hx]
    refine if_neg ?_
    rintro ⟨hr, hc⟩
    rcases h with h | h
    · rw [h] at hr
      cases hr
    · exact hc h
/-- The first exchange of fewer than two postings has no majority. -/
theorem mbFirst_few {s : MbSlot} (hp : s.posts.length < 2) (cls d) :
    mbFirst cls s d = safeNoMajority (slotAbsent cls s (slotPresent s) (slotClose cls s d)) := by
  have hl : (slotPresent s).length < 2 := (List.length_filter_le _ _).trans_lt hp
  simp only [mbFirst, hl, if_true]
theorem settle_mbFirst_few {d : Dev} {s : MbSlot} (hp : s.posts.length < 2) (hw : noWindows d) (ho : safeOpen d) (cls) :
    (cls, s.cycle) ∈ (settle (mbFirst cls s d)).ks.closedSlots ∧
      enteredSafe (settle (mbFirst cls s d)) scNO_MAJORITY (rd d Reg.KS_STATUS_IN_SERVICE) := by
  have ho' : safeOpen (slotAbsent cls s (slotPresent s) (slotClose cls s d)) := ho
  have hw' : noWindows (slotAbsent cls s (slotPresent s) (slotClose cls s d)) := hw
  rw [mbFirst_few hp, safeNoMajority, settle_idle (safeEnter_nothingHeld ho' _ _)]
  obtain ⟨-, -, hc⟩ := safeEnter_slots scNO_MAJORITY (rd (slotAbsent cls s (slotPresent s) (slotClose cls s d)) Reg.KS_STATUS_IN_SERVICE) _ hw'
  exact ⟨List.mem_of_mem_take (hc _ 1 (slotClose_closed cls s d) (by decide)), safeEnter_enteredSafe ho' _ _⟩

/-- Settles O26: a first contribution opens a slot that waits for the others, a posting to a closed cycle is late; the closure by timer or
deadline leaves its note among the last 64 whatever slots are evaluated after it. -/
theorem mailboxSlotsTakeAndClose : Obligations.MailboxSlotsTakeAndClose := by
  unfold Obligations.MailboxSlotsTakeAndClose
  intro s hs hw hsw hlen
  have hstay : settle s.dev = s.dev := settle_waits hw hsw
  refine ⟨fun p cls c crcOk hi hm hx => ⟨fun r hc hr he h2 => ?_, fun hc => ?_⟩, fun cls x hx ht => ⟨?_, ?_⟩, fun cls crcOk h => ?_,
    fun cls cycle => ⟨fun ho h => ?_, fun h => ?_⟩⟩
  · rw [answers_of (i := .mailboxContribution p cls c crcOk) (f := fun d => settle (mailboxPost p cls c crcOk d)) rfl hs,
      contribution_kept hw hsw hi hm hx hc hr he h2]
    refine ⟨?_, rfl, fun a => rfl⟩
    simp [mbPut, ksSet, firstSlot, mget]
  · rw [answers_of (i := .mailboxContribution p cls c crcOk) (f := fun d => settle (mailboxPost p cls c crcOk d)) rfl hs,
      contribution_late hw hsw hi hm hx hc]
    exact late_spec _ (by decide) (by decide) _ _ _ _
  · rw [answers_of (i := .mailboxWaitExpiry cls true) (f := fun d => settle (mailboxWait cls true d)) rfl hs, mailboxWait_running hx ht hsw]
    exact settle_mbClose_closed hw hlen cls x
  · rw [answers_of (i := .mailboxWaitExpiry cls false) (f := fun d => settle (mailboxWait cls false d)) rfl hs, mailboxWait_running hx ht hsw]
    exact mbClose_disagree hw cls x
  · rw [answers_of (i := .mailboxWaitExpiry cls crcOk) (f := fun d => settle (mailboxWait cls crcOk d)) rfl hs, mailboxWait_idle h]
    exact hstay
  · rw [answers_of (i := .mailboxDeadline cls cycle) (f := fun d => settle (mailboxDeadline cls cycle d)) rfl hs]
    rcases h with ⟨x, hx, rfl, hp, h2, hj⟩ | ⟨hx, hr, hc⟩
    · rw [mailboxDeadline_slot hx hp h2 hj hsw]
      exact settle_mbFirst_few hp hw ho cls
    · rw [mailboxDeadline_empty hx hr hc]
      exact settle_mbFirst_few (s := emptySlot s.dev cls cycle) Nat.zero_lt_two hw ho cls
  · rw [answers_of (i := .mailboxDeadline cls cycle) (f := fun d => settle (mailboxDeadline cls cycle d)) rfl hs, mailboxDeadline_stays h]
    exact hstay

end Sys2Proof.Machine
end

section
/-!
SUPPORT. The third transient of a Keystone half within an operating hour: O60.
-/
namespace Sys2Proof.Machine

/-! ## What an entry into SAFE leaves of the Keystone in any mode (R92, R524) -/

theorem rd_safeNow {g : Fld} (hg : safeKeeps g) (d) : rd (safeNow d) g = rd d g := by
  obtain ⟨hk, hg⟩ := hg
  simp only [safeWrites, List.forall_mem_append, List.forall_mem_cons] at hg
  obtain ⟨⟨h1, h2, h3, -⟩, hs⟩ := hg
  have hc : control (if modeIs d mBOOT then cursorOldest d else d) = control d := by simp [cursorOldest, Reg.HI_EVW_CURSOR]
  rw [safeNow, rd_safeEffects hk hs, rd_modeWrite hk (by simp [h1, h2, h3]), rd_modeSet]
  exact rd_of_control hc hk
/-- Whether it takes effect at once, is put off or only recorded, an entry into SAFE leaves the diagnoses of the Keystone. -/
theorem rd_safeEnter_kept {g : Fld} (hg : safeKeeps g) (c x d) : rd (safeEnter c x d) g = rd d g := by
  have hr : ∀ code l e, rd (record code l e) g = rd e g := fun code l e => rd_of_control (record_control code l e) hg.1
  have hw : rd (wr (wr d Reg.MCTL_SAFE_CAUSE_CAUSE c) Reg.MCTL_SAFE_CAUSE_DETAIL x) g = rd d g := by
    rw [rd_wr_ne _ _ (hg.2 _ (by simp [safeWrites])), rd_wr_ne _ _ (hg.2 _ (by simp [safeWrites]))]
  unfold safeEnter
  split
  · exact hr _ _ d
  split
  · dsimp only
    split
    · exact hr _ _ d
    · exact (rd_safeNow hg _).trans (hr _ _ d)
  · refine (hr _ _ _).trans ?_
    split
    · exact hw
    · exact (rd_safeNow hg _).trans hw

/-! ## The third transient (R158, R162) -/

theorem flag_halfBroken_kept {h m : Nat} (hm : h ∈ bitsOf 2 m) (d) : flag (halfBroken m d) (Reg.KS_HALF_BROKEN h) = true := by
  rw [halfBroken_eq, flag, rd_safeEnter_kept (safeKeeps_broken (mem_bitsOf.mp hm).1)]
  exact flag_halvesMarked hm d
/-- A stamp of now is at least the third where the last operating hour has two (R162). -/
theorem hourStamps_stampAdd_third {k : Nat} {d : Dev} (hp : d.hm.powerFail = false) (h : 2 ≤ (hourStamps d k).length) :
    3 ≤ (hourStamps (stampAdd k d) k).length := by
  unfold stampAdd
  extract_lets l
  have hl : ∀ x ∈ l, rd d Reg.MCTL_OP_SECONDS < x + 3600 := fun x hx => by
    rcases List.mem_append.mp (List.mem_reverse.mp (List.mem_of_mem_take hx)) with hx | hx
    · exact of_decide_eq_true (List.mem_filter.mp hx).2
    · rw [List.mem_singleton.mp hx]
      omega
  have hlen : l.length = 3 := by simp [l]; omega
  have hs : hourStamps (ksSet (fun x => { x with stamps := mput x.stamps k l.reverse }) d) k =
      l.reverse.filter fun t => decide (rd d Reg.MCTL_OP_SECONDS < t + 3600) := by
    rw [hourStamps, ksSet_ks, mgetD, mget_mput_same]
    rfl
  rw [if_neg (ne_true_of_eq_false hp), hs, List.filter_eq_self.mpr (by simpa using hl), List.length_reverse, hlen]
theorem hourStamps_transientsAdd_third {h m : Nat} (hm : h ∈ bitsOf 2 m) {d : Dev} (hp : d.hm.powerFail = false)
    (h2 : 2 ≤ (hourStamps d (3 + h)).length) : 3 ≤ (hourStamps (transientsAdd m d) (3 + h)).length := by
  have hhm : ∀ x d, (transientAdd x d).hm = d.hm := fun x d => by
    rw [transientAdd, wr_hm, stampAdd]
    split <;> rfl
  obtain ⟨e, he, hv⟩ := forEach_view (v := fun d => (hourStamps d (3 + h), d.hm)) (f := transientAdd) (bitsOf_nodup 2 m) hm
    (fun x hx d => by rw [hourStamps_transientAdd, hourStamps_stampAdd_ne (by omega), hhm]) d
  obtain ⟨hes, heh⟩ := Prod.mk.inj he
  rw [transientsAdd, (Prod.mk.inj hv).1, hourStamps_transientAdd]
  exact hourStamps_stampAdd_third (by rw [heh, hp]) (by rwa [hes])
theorem bitOf_foldl_bitSet_mem {l : List Nat} {i : Nat} (v) (h : i ∈ l ∨ bitOf v i = true) : bitOf (l.foldl bitSet v) i = true := by
  induction l generalizing v with
  | nil => simpa using h
  | cons x r ih =>
    refine ih (bitSet v x) ?_
    rcases h with h | h
    · rcases List.mem_cons.mp h with rfl | h
      · exact .inr (bitOf_bitSet_same v i)
      · exact .inl h
    · exact .inr (by rw [bitOf_bitSet, h, Bool.or_true])
/-- The third transient of a half within an operating hour is recorded as the cause of an entry into SAFE that finds the half broken. -/
theorem halfTransient_third {h m : Nat} (hm : h ∈ bitsOf 2 m) {d : Dev} (hp : d.hm.powerFail = false)
    (h2 : 2 ≤ (hourStamps d (3 + h)).length) : ∃ broken l, h ∈ bitsOf 2 broken ∧
      halfTransient m d = halfBroken broken (recordSev 4 Ev.KS_TRANSIENT 3 l (transientsAdd m d)) := by
  have hmem : h ∈ bitsOf 2 (maskOf ((bitsOf 2 m).filter fun x => decide (3 ≤ (hourStamps (transientsAdd m d) (3 + x)).length))) :=
    mem_bitsOf.mpr ⟨(mem_bitsOf.mp hm).1, bitOf_foldl_bitSet_mem 0
      (.inl (List.mem_filter.mpr ⟨hm, decide_eq_true (hourStamps_transientsAdd_third hm hp h2)⟩))⟩
  have hne : maskOf ((bitsOf 2 m).filter fun x => decide (3 ≤ (hourStamps (transientsAdd m d) (3 + x)).length)) ≠ 0 := fun h0 => by
    rw [h0] at hmem
    simp [bitsOf, bitOf] at hmem
  refine ⟨_, [.w m, .w (((bitsOf 2 m).map fun x => (hourStamps (transientsAdd m d) (3 + x)).length).foldl max 0)], hmem, ?_⟩
  unfold halfTransient
  extract_lets e worst third t
  have h3 : third ≠ 0 := hne
  rw [if_neg h3]
  simp only [t, if_neg h3]
  rfl

theorem stageParity_third {h : Nat} {d : Dev} (hp : d.hm.powerFail = false) (hh : h < 2) (h2 : 2 ≤ (hourStamps d (3 + h)).length) (p) :
    flag (stageParity h p false d) (Reg.KS_HALF_BROKEN h) = true := by
  have hn : (parityNoted h p d).hm = d.hm := by
    rw [parityNoted, recordP_shape]
    rfl
  obtain ⟨broken, l, hb, he⟩ := halfTransient_third (h := h) (m := 2 ^ h) (d := parityNoted h p d) (by simp [bitsOf_half hh]) (by rw [hn, hp])
    (by rwa [hourStamps_parityNoted hh])
  rw [stageParity_first, he]
  exact flag_halfBroken_kept hb _
/-- Where nothing is held, the end of a freeze leaves the diagnoses of the halves. -/
theorem flag_freezeEnds {h : Nat} (hh : h < 2) {d : Dev} (hn : nothingHeld d) :
    flag (settle (winsAgain (tokensAgain (wrB d Reg.KS_STATUS_FROZEN false)))) (Reg.KS_HALF_BROKEN h) = flag d (Reg.KS_HALF_BROKEN h) := by
  have hap : (∀ f ∈ [Reg.KS_OPEN_A, Reg.KS_OPEN_B, Reg.KS_OPEN_C, Reg.KS_STATUS_OPEN_MAX], fldKey f ≠ fldKey (Reg.KS_HALF_BROKEN h)) ∧
      fldKey Reg.KS_STATUS_FROZEN ≠ fldKey (Reg.KS_HALF_BROKEN h) := by
    revert h
    decide
  have ht : nothingHeld (tokensAgain (wrB d Reg.KS_STATUS_FROZEN false)) :=
    tokensAgain_nothingHeld (nothingHeld_of_fields (d := d) rfl rfl rfl rfl hn)
  rw [winsAgain_idle ht.1.1, settle_idle (openWindows_nothingHeld ht), flag, rd_openWindows hap.1, tokensAgain, rd_ksSet, rd_wrB_ne _ _ hap.2, flag]
theorem selftest_third {h : Nat} {d : Dev} (hp : d.hm.powerFail = false) (hh : h < 2) (h2 : 2 ≤ (hourStamps d (3 + h)).length)
    (hf : flag d Reg.KS_STATUS_FROZEN = true) (ho : safeOpen d) (dur) :
    flag (settle (selftestDone true true dur true d)) (Reg.KS_HALF_BROKEN h) = true := by
  have hs : hourStamps (freezeExtra dur (selftestNoted true true d)) (3 + h) = hourStamps d (3 + h) :=
    hourStamps_of (d := d) (t := freezeExtra dur (selftestNoted true true d)) rfl
      (show rd (selftestNoted true true d) Reg.MCTL_OP_SECONDS = rd d Reg.MCTL_OP_SECONDS from rd_selftestNoted (by decide) _ _ _) _
  have hboth : ∀ x < 2, x ∈ bitsOf 2 3 := by decide
  obtain ⟨broken, l, hb, he⟩ := halfTransient_third (h := h) (m := 3) (d := freezeExtra dur (selftestNoted true true d))
    (hboth h hh) hp (by rwa [hs])
  have hopen : safeOpen (recordSev 4 Ev.KS_TRANSIENT 3 l (selftestPassed dur d)) :=
    safeOpen_of_control (recordSev_control _ _ _ _ _) (recordSev_mode _ _ _ _ _) (selftestPassed_safeOpen ho dur)
  rw [selftestDone_passes hf, if_pos rfl, he, ← selftestPassed, flag_freezeEnds hh (halfBroken_nothingHeld hopen broken)]
  exact flag_halfBroken_kept hb _

/-- Settles O60: a transient of a half with two in the last operating hour is its third, and what follows leaves the diagnosis. -/
theorem thirdTransientBreaksHalf : Obligations.ThirdTransientBreaksHalf := by
  unfold Obligations.ThirdTransientBreaksHalf
  intro s h hs hp hh h2
  refine ⟨fun p => ?_, fun dur hf _ ho => ?_⟩
  · rw [answers_of (i := .ksStageParity h p false) rfl hs]
    exact stageParity_third hp hh h2 p
  · rw [answers_of (i := .ksSelftestDone true true dur true) (f := fun d => settle (selftestDone true true dur true d)) rfl hs]
    exact selftest_third hp hh h2 hf ho dur

end Sys2Proof.Machine
end

section
/-!
SUPPORT. Release tokens: what waits, what is released, and what freezes the releases: O28.
-/
namespace Sys2Proof.Machine

/-! ## One pass settles what no stalled Pier goes on with (R123, R129) -/

theorem settle_once {d : Dev} (h : piersIdle (settleOnce d)) : settle d = settleOnce d := by
  have hi : (allPiers.all fun p => pierIdle (triGet (settleOnce d).prs p)) = true := by simp [allPiers, h _]
  unfold settle
  generalize (allPiers.map fun p => (triGet d.prs p).stalled.length).foldl max 1 = n
  cases n with
  | zero => rfl
  | succ n => rw [settleN, if_pos hi]
/-- With no window and no slot held, a pass releases what it can. -/
theorem settleOnce_releases {d : Dev} (hf : flag d Reg.KS_STATUS_FROZEN = false) (hw : d.ks.windows = []) (hs : d.ks.slots = []) :
    settleOnce d = relRun d.ks.releasing.length d := by
  simp only [settleOnce, hf, slotsReview_idle hs, winOrder_idle hw]
  rfl

/-! ## The front of release order (R141, R142) -/

section
variable {d : Dev} {q : OutReq} {part : Nat} {r : List RelItem} (hf : flag d Reg.KS_STATUS_FROZEN = false)
include hf

/-- A request that lacks a token waits. -/
theorem relRun_waits {t1 t2 : Option (Nat × Nat)} (h : d.ks.releasing = .req q part t1 t2 :: r) (ht : t1 = none ∨ t2 = none) (n) :
    relRun n d = d := by
  cases n with
  | zero => rfl
  | succ n =>
    simp only [relRun, hf, h]
    rcases ht with rfl | rfl
    · rfl
    · cases t1 <;> rfl
/-- Two tokens that differ freeze the releases. -/
theorem relRun_differ {a b : Nat × Nat} (h : d.ks.releasing = .req q part (some a) (some b) :: r) (hab : a ≠ b) (n) :
    relRun (n + 1) d = halvesDisagree 1 d := by
  simp only [relRun, hf, h, if_pos hab]
  rfl
/-- Two equal tokens release a request that its unit has room for. -/
theorem relRun_equal {a : Nat × Nat} {e : Dev} (h : d.ks.releasing = .req q part (some a) (some a) :: r)
    (he : relPerform part q (relPop d) = some e) (n) : relRun (n + 1) d = relRun n e := by
  simp only [relRun, hf, h, he]
  simp
end

/-- The token that a half posts of a request, its CRC departed from. -/
def tokenPosted (q : OutReq) (part err : Nat) : Nat × Nat := ((tokenOf q part).1, (tokenOf q part).2 ^^^ err)
/-- Release order with another front. -/
def relFront (x : RelItem) (r : List RelItem) (d : Dev) : Dev := ksSet (fun k => { k with releasing := x :: r }) d
theorem releaseToken_front {d : Dev} {q : OutReq} {part : Nat} {t1 t2 : Option (Nat × Nat)} {r : List RelItem}
    (h : d.ks.releasing = .req q part t1 t2 :: r) (second err) : releaseToken second q.cls q.cycle q.seq err d =
      settle (relFront (if second then .req q part t1 (some (t2.getD (tokenPosted q part err)))
        else .req q part (some (t1.getD (tokenPosted q part err))) t2) r d) := by
  simp only [releaseToken, relFront, ksSet, h, tokenPut, and_self, if_true]
  cases second <;> rfl
/-- A pass over release order with another front is all, where it leaves the Piers idle. -/
theorem settle_front {d e : Dev} {x : RelItem} {r : List RelItem} (hf : flag d Reg.KS_STATUS_FROZEN = false) (hw : d.ks.windows = [])
    (hs : d.ks.slots = []) (h : relRun (r.length + 1) (relFront x r d) = e) (he : piersIdle e) : settle (relFront x r d) = e := by
  have ho : settleOnce (relFront x r d) = e := (settleOnce_releases (d := relFront x r d) hf hw hs).trans h
  rw [settle_once (ho ▸ he), ho]

/-! ## Halves that disagree (R155, R156) -/

/-- The registers of a disagreement. -/
def disagreeWrites : List Fld :=
  [Reg.KS_STATUS_FROZEN, Reg.KS_HALF_SELFTEST_RUN 0, Reg.KS_HALF_SELFTEST_RUN 1, Reg.KS_HALF_DISAGREE_COUNT]
theorem halvesDisagree_spec {d : Dev} (hf : flag d Reg.KS_STATUS_FROZEN = false) (what) :
    flag (halvesDisagree what d) Reg.KS_STATUS_FROZEN = true ∧ flag (halvesDisagree what d) (Reg.KS_HALF_SELFTEST_RUN 0) = true ∧
      flag (halvesDisagree what d) (Reg.KS_HALF_SELFTEST_RUN 1) = true ∧
      rd (halvesDisagree what d) Reg.KS_HALF_DISAGREE_COUNT =
        satAdd Reg.KS_HALF_DISAGREE_COUNT.w (rd d Reg.KS_HALF_DISAGREE_COUNT) 1 ∧
      (halvesDisagree what d).ks = d.ks ∧ reportsOnly d (halvesDisagree what d) ∧
      regsBut (disagreeWrites ++ evCounts) d (halvesDisagree what d) := by
  have he : halvesDisagree what d = wrB (wrB (wrB (record Ev.KS_HALF_DISAGREE [.w what] (inc d Reg.KS_HALF_DISAGREE_COUNT))
      Reg.KS_STATUS_FROZEN true) (Reg.KS_HALF_SELFTEST_RUN 0) true) (Reg.KS_HALF_SELFTEST_RUN 1) true :=
    if_neg (ne_true_of_eq_false hf)
  refine ⟨halvesDisagree_frozen what d, ?_, ?_, ?_, ?_, ?_, ?_⟩
  · rw [he, flag_wrB_ne _ _ (by decide), flag_wrB_same _ _ _ (by decide)]
  · rw [he, flag_wrB_same _ _ _ (by decide)]
  · rw [he, rd_wrB_ne _ _ (by decide), rd_wrB_ne _ _ (by decide), rd_wrB_ne _ _ (by decide), rd_record _ _ _ _ (by decide) (by decide),
      rd_inc_same]
  · rw [he, record_shape]
    rfl
  · rw [he, record_shape]
    rfl
  · rw [he]
    refine (((((regsBut_wr _ _ _).trans (record_regsBut _ _ _)).trans (regsBut_wr _ _ _)).trans (regsBut_wr _ _ _)).trans
      (regsBut_wr _ _ _)).mono ?_
    decide

/-! ## The token of one half (R142) -/

theorem tokenAlone_front {d : Dev} {q : OutReq} {part : Nat} {a : Nat × Nat} {r : List RelItem}
    (h : d.ks.releasing = .req q part (some a) none :: r) : tokenAlone d q.cls q.cycle q.seq = true := by
  simp [tokenAlone, h]

theorem tokenTimeout_alone {d : Dev} {cls cycle seq : Nat} (h : tokenAlone d cls cycle seq = true) :
    tokenTimeout cls cycle seq d = halvesDisagree 1 d := if_pos h
theorem tokenTimeout_stays {d : Dev} {cls cycle seq : Nat} (h : tokenAlone d cls cycle seq = false) :
    tokenTimeout cls cycle seq d = d := if_neg (ne_true_of_eq_false h)

/-! ## RELEASE_TOKEN (R142, R155, R177) -/

section
variable {d : Dev} {q : OutReq} {part : Nat} {r : List RelItem} (hf : flag d Reg.KS_STATUS_FROZEN = false) (hw : d.ks.windows = [])
  (hs : d.ks.slots = []) (hp : piersIdle d)
include hf hw hs hp

/-- The first token of the first request is kept with it. -/
theorem releaseToken_first (h : d.ks.releasing = .req q part none none :: r) (second err) :
    releaseToken second q.cls q.cycle q.seq err d = relFront (if second then .req q part none (some (tokenPosted q part err))
      else .req q part (some (tokenPosted q part err)) none) r d := by
  rw [releaseToken_front h]
  cases second
  · exact settle_front hf hw hs (relRun_waits (d := relFront _ r d) hf rfl (.inr rfl) _) hp
  · exact settle_front hf hw hs (relRun_waits (d := relFront _ r d) hf rfl (.inl rfl) _) hp
/-- A second token that differs freezes the releases with the request held. -/
theorem releaseToken_differs {a : Nat × Nat} (h : d.ks.releasing = .req q part (some a) none :: r) {err : Nat} (ha : a ≠ tokenPosted q part err) :
    releaseToken true q.cls q.cycle q.seq err d =
      halvesDisagree 1 (relFront (.req q part (some a) (some (tokenPosted q part err))) r d) := by
  rw [releaseToken_front h]
  refine settle_front hf hw hs (relRun_differ (d := relFront _ r d) hf rfl ha _) ?_
  obtain ⟨-, -, -, -, -, hreports, -⟩ := halvesDisagree_spec (d := relFront (.req q part (some a) (some (tokenPosted q part err))) r d) hf 1
  rw [hreports]
  exact hp
/-- A second token that equals the first releases a process-image write, which is staged for its class. -/
theorem releaseToken_stages (h : d.ks.releasing = [.req q part (some (tokenOf q part)) none]) (hu : q.unit = 7) (hlo : imageBase ≤ q.target)
    (hhi : q.target + q.payload.length ≤ deckSramEnd) : releaseToken true q.cls q.cycle q.seq 0 d =
      stageWrite q.cls q.target q.payload (relPop (relFront (.req q part (some (tokenOf q part)) (some (tokenOf q part))) [] d)) := by
  have ht : tokenPosted q part 0 = tokenOf q part := by simp [tokenPosted]
  have hperf : ∀ e, relPerform part q e = some (stageWrite q.cls q.target q.payload e) := fun e => by simp [relPerform, hu, hlo, hhi]
  rw [releaseToken_front h, ht]
  exact settle_front hf hw hs (relRun_equal (d := relFront _ [] d) hf rfl (hperf _) 0) hp
end

/-- Settles O28: every clause is one pass over release order, whose front decides: a lacking token ends it, two that differ freeze it, two
that are equal release the request. -/
theorem tokensRelease : Obligations.TokensRelease := by
  unfold Obligations.TokensRelease
  intro s q part r hs hf hw hsl hp
  refine ⟨fun second err h => ?_, fun h hu hlo hhi => ?_, fun a err h ha => ?_, fun a h => ?_, fun cls cycle seq h => ?_⟩
  · rw [answers_of (i := .releaseToken second q.cls q.cycle q.seq err) rfl hs, releaseToken_first hf hw hsl hp h]
    exact ⟨rfl, rfl, fun _ => rfl⟩
  · rw [answers_of (i := .releaseToken true q.cls q.cycle q.seq 0) rfl hs, releaseToken_stages hf hw hsl hp h hu hlo hhi]
    exact ⟨rfl, mget_mput_same _ _ _, rfl, fun _ => rfl⟩
  · rw [answers_of (i := .releaseToken true q.cls q.cycle q.seq err) rfl hs, releaseToken_differs hf hw hsl hp h ha]
    obtain ⟨hz, -, -, hc, hks, -, -⟩ := halvesDisagree_spec
      (d := relFront (.req q part (some a) (some (tokenPosted q part err))) r s.dev) hf 1
    exact ⟨by rw [hks]; rfl, hz, hc, memSame_of_memories (halvesDisagree_memories _ _)⟩
  · rw [answers_of (i := .releaseTokenTimeout q.cls q.cycle q.seq) rfl hs, tokenTimeout_alone (tokenAlone_front h)]
    exact halvesDisagree_spec hf 1
  · rw [answers_of (i := .releaseTokenTimeout cls cycle seq) rfl hs]
    exact tokenTimeout_stays h

end Sys2Proof.Machine
end

section
/-!
SUPPORT. The windows of the holding stages: the first signature of a window, and the expiry of its skew timer: O27.
-/
namespace Sys2Proof.Machine

/-! ## Windows that are not ready for release order (R141) -/

/-- Windows without a release point neither enter release order nor leave the stages. -/
theorem winOrder_unready {d : Dev} (h : ∀ w ∈ d.ks.windows, w.majority = 0 ∧ w.resolved = false) : winOrder d = d := by
  have hready : winReady d = [] := List.filter_eq_nil_iff.mpr fun w hw => by simp [h w hw]
  have hqueue : ∀ n, winQueue n d = d := fun n => by
    cases n with
    | zero => rfl
    | succ n => simp only [winQueue, winNext, hready, List.foldl_nil]
  have hold : (d.ks.windows.filter fun w => w.resolved && w.queued) = [] := List.filter_eq_nil_iff.mpr fun w hw => by simp [h w hw]
  simp [winOrder, hqueue, winPrune, ksSet, hold]
theorem settle_unready {d : Dev} (hw : ∀ w ∈ d.ks.windows, w.majority = 0 ∧ w.resolved = false) (hr : d.ks.releasing = [])
    (hs : d.ks.slots = []) (hp : piersIdle d) : settle d = d := by
  have h1 : settleOnce d = d := by
    simp only [settleOnce, slotsReview_idle hs, winOrder_unready hw, hr, List.length_nil, relRun, ite_self]
  rw [settle_once (h1.symm ▸ hp), h1]

/-! ## Windows of which only the ends enter release order -/

/-- No window is final and no request is held, so that release order takes in ends of parts alone. -/
def partsOnly (d : Dev) : Prop :=
  (∀ w ∈ d.ks.windows, w.final = false) ∧ d.ks.reqs = [] ∧ d.ks.slots = [] ∧ ∀ x ∈ d.ks.releasing, ∃ c y n, x = .window c y n false
theorem partsOnly_of_ks {d t : Dev} (h : t.ks = d.ks) (hd : partsOnly d) : partsOnly t := by rwa [partsOnly, h]
/-- A step among ends of parts: it leaves the registers and the Piers, and brings nothing else in. -/
def partsStep (d t : Dev) : Prop := partsOnly d → partsOnly t ∧ t.regs = d.regs ∧ t.prs = d.prs
theorem partsStep.trans {d e t : Dev} (h : partsStep d e) (g : partsStep e t) : partsStep d t := fun hd => by
  obtain ⟨he, hr, hp⟩ := h hd
  obtain ⟨ht, gr, gp⟩ := g he
  exact ⟨ht, gr.trans hr, gp.trans hp⟩
theorem partsStep_refl (d) : partsStep d d := fun hd => ⟨hd, rfl, rfl⟩

theorem winNext_mem {d : Dev} {w : KsWindow} (h : winNext d = some w) : w ∈ d.ks.windows := by
  have key : ∀ (l : List KsWindow) (m : Option KsWindow), (∀ x, m = some x → x ∈ d.ks.windows) → (∀ x ∈ l, x ∈ d.ks.windows) →
      ∀ x, (l.foldl (fun m w => match m with
        | none => some w
        | some x => if w.point < x.point then some w else some x) m) = some x → x ∈ d.ks.windows := by
    intro l
    induction l with
    | nil => exact fun m hm _ => hm
    | cons y r ih =>
      refine fun m hm hl => ih _ (fun x hx => ?_) fun x hx => hl x (List.mem_cons_of_mem y hx)
      cases m with
      | none => exact Option.some.inj hx ▸ hl y List.mem_cons_self
      | some z =>
        dsimp only at hx
        split at hx
        · exact Option.some.inj hx ▸ hl y List.mem_cons_self
        · exact hm x hx
  exact key (winReady d) none (fun x hx => nomatch hx) (fun x hx => List.mem_of_mem_filter hx) w h
theorem mem_winPut {w x : KsWindow} {d : Dev} (h : x ∈ (winPut w d).ks.windows) : x = w ∨ x ∈ d.ks.windows := by
  simp only [winPut, ksSet] at h
  split at h
  · obtain ⟨y, hy, rfl⟩ := List.mem_map.mp h
    split
    · exact .inl rfl
    · exact .inr hy
  · exact (List.mem_append.mp h).symm.imp_left List.mem_singleton.mp
theorem winQueue_parts (n d) : partsStep d (winQueue n d) := by
  induction n generalizing d with
  | zero => exact partsStep_refl d
  | succ n ih =>
    unfold winQueue
    split
    · exact partsStep_refl d
    · next w hw =>
      refine partsStep.trans (fun hd => ?_) (ih _)
      obtain ⟨hf, hq, hs, hr⟩ := hd
      have hreqs : winReqs d w = [] := by simp [winReqs, hq]
      have hwf := hf w (winNext_mem hw)
      rw [hreqs]
      refine ⟨⟨fun x hx => ?_, hq, hs, fun x hx => ?_⟩, rfl, rfl⟩
      · rcases mem_winPut hx with rfl | hx
        · exact hwf
        · exact hf x hx
      · rcases List.mem_append.mp hx with hx | hx
        · exact hr x hx
        · exact ⟨w.cls, w.cycle, w.part, by rw [List.mem_singleton.mp hx, hwf]⟩
theorem winPrune_parts (d) : partsStep d (winPrune d) := fun hd => by
  obtain ⟨hf, hq, hs, hr⟩ := hd
  exact ⟨⟨fun w hw => hf w (List.mem_of_mem_filter hw), by simp [winPrune, ksSet, hq], hs, hr⟩, rfl, rfl⟩
theorem relRun_parts (n d) : partsStep d (relRun n d) := by
  induction n generalizing d with
  | zero => exact partsStep_refl d
  | succ n ih =>
    intro hd
    obtain ⟨hf, hq, hs, hr⟩ := hd
    unfold relRun
    split
    · exact partsStep_refl d ⟨hf, hq, hs, hr⟩
    · split
      · exact partsStep_refl d ⟨hf, hq, hs, hr⟩
      · next c y part final r hrel =>
        obtain ⟨_, _, _, hx⟩ := hr (.window c y part final) (by rw [hrel]; exact List.mem_cons_self)
        obtain rfl : final = false := (RelItem.window.inj hx).2.2.2
        have hpop : partsStep d (relPop d) := fun hd => by
          obtain ⟨hf, hq, hs, hr⟩ := hd
          exact ⟨⟨hf, hq, hs, fun x hx => hr x (List.mem_of_mem_drop hx)⟩, rfl, rfl⟩
        exact hpop.trans (ih _) ⟨hf, hq, hs, hr⟩
      · next q part t1 t2 r hrel =>
        obtain ⟨_, _, _, hx⟩ := hr (.req q part t1 t2) (by rw [hrel]; exact List.mem_cons_self)
        cases hx
theorem settle_parts {d : Dev} (hd : partsOnly d) (hp : piersIdle d) : (settle d).regs = d.regs := by
  have ho : (settleOnce d).regs = d.regs ∧ (settleOnce d).prs = d.prs := by
    unfold settleOnce
    split
    · exact ⟨rfl, rfl⟩
    · dsimp only
      rw [slotsReview_idle hd.2.2.1]
      exact (((winQueue_parts _ d).trans (winPrune_parts _)).trans (relRun_parts _ _) hd).2
  rw [settle_once (by rw [piersIdle, ho.2]; exact hp), ho.1]

/-! ## Three Piers in service (R131, R146) -/

section
variable {d : Dev} (hs : servicePiers d = allPiers)
include hs

theorem inService_all (p) : inService d p = true := List.filter_eq_self.mp hs p (by cases p <;> decide)
theorem winExpects_all (hu : d.ks.unexpected = []) (cls cycle i) : winExpects d cls cycle i = true := by
  simp [winExpects, inService_all hs, hu]
theorem winCount_all (hu : d.ks.unexpected = []) (w) : winCount d w = 3 := by
  simp [winCount, winExpects_all hs hu]
end

/-! ## SIGNATURE_POSTED (R128, R131, R155) -/

/-- The window that a first signature opens. -/
def openedWindow (d : Dev) (p : Pier) (cls cycle part sig t upto : Nat) (final : Bool) : KsWindow :=
  ⟨cls, cycle, part, ((runOf d cls cycle).map fun r => r.realDue).getD 0, [(pierIdx p, sig, t)], [(pierIdx p, upto)], final, none, false, false,
    0, 0, 0, false, false⟩
/-- One signature alone gives no verdict. -/
theorem winVerdict_lone {d : Dev} {w : KsWindow} {x : Nat × Nat × Nat} (hr : w.resolved = false) (ha : winArrivals d w = [x])
    (hc : winCount d w = 3) : winVerdict w d = winPut w d := by
  have hj : winJudge w d = winPut w d := by simp [winJudge, hr, hc, winJudge3, ha]
  have hn : ¬ ((servicePiers (winPut w d)).length < (servicePiers d).length ∧ (!modeIs (winPut w d) mSAFE) = true) :=
    fun h => Nat.lt_irrefl _ h.1
  rw [winVerdict, hj]
  exact if_neg hn
section
variable {d : Dev} (hs : servicePiers d = allPiers) (hu : d.ks.unexpected = []) (hm : d.ks.missed = [])
include hs hu hm

/-- The first signature of a window, with none held, opens it unresolved, whether the halves agree or not. -/
theorem sigPost_opens (hw : d.ks.windows = []) (p cls cycle part sig t upto final agree) :
    sigPost p cls cycle part sig t upto final agree d = openWindows (winPut (openedWindow d p cls cycle part sig t upto final) d) := by
  have hv : winVerdict (openedWindow d p cls cycle part sig t upto final) d = winPut (openedWindow d p cls cycle part sig t upto final) d :=
    winVerdict_lone (x := (pierIdx p, sig, t)) rfl (by simp [winArrivals, winExpects_all hs hu, openedWindow, arrInsert]) (winCount_all hs hu _)
  simp only [sigPost, winExpects_all hs hu, hm, winExpected, winOf, hw, List.find?_nil]
  cases agree
  · rfl
  · exact congrArg openWindows hv
/-- It stays open; releases freeze where the halves do not agree. -/
theorem sigPost_settled (hf : flag d Reg.KS_STATUS_FROZEN = false) (hn : nothingHeld d) (p cls cycle part sig t upto final agree) :
    let e := sigPost p cls cycle part sig t upto final agree d
    let x := settle (if !agree then halvesDisagree 0 e else e)
    x.ks.windows = [openedWindow d p cls cycle part sig t upto final] ∧ flag x Reg.KS_STATUS_FROZEN = !agree ∧ memSame d x := by
  obtain ⟨⟨hw, hr, hp⟩, hsl⟩ := hn
  have hwin : (winPut (openedWindow d p cls cycle part sig t upto final) d).ks.windows = [openedWindow d p cls cycle part sig t upto final] := by
    simp [winPut, ksSet, hw]
  have hstay : ∀ x, heldView x = heldView (winPut (openedWindow d p cls cycle part sig t upto final) d) → settle x = x ∧
      x.ks.windows = [openedWindow d p cls cycle part sig t upto final] := fun x hx => by
    have hxw : x.ks.windows = [openedWindow d p cls cycle part sig t upto final] := (congrArg (·.1) hx).trans hwin
    have hxp : x.prs = d.prs := congrArg (·.2.2.2.2) hx
    refine ⟨settle_unready (fun w hw => ?_) ((congrArg (·.2.1) hx).trans hr) ((congrArg (·.2.2.1) hx).trans hsl) (by rw [piersIdle, hxp]; exact hp), hxw⟩
    rw [hxw, List.mem_singleton] at hw
    exact hw ▸ ⟨rfl, rfl⟩
  dsimp only
  rw [sigPost_opens hs hu hm hw]
  cases agree
  · obtain ⟨h1, h2⟩ := hstay (halvesDisagree 0 (openWindows (winPut (openedWindow d p cls cycle part sig t upto final) d))) (halvesDisagree_heldView 0 _)
    simp only [Bool.not_false, if_true, h1]
    exact ⟨h2, halvesDisagree_frozen 0 _, memSame_of_memories (by simp)⟩
  · obtain ⟨h1, h2⟩ := hstay (openWindows (winPut (openedWindow d p cls cycle part sig t upto final) d)) rfl
    simp only [Bool.not_true, Bool.false_eq_true, if_false, h1]
    exact ⟨h2, by rw [flag, rd_openWindows (by decide), rd_winPut, ← flag, hf], memSame_of_memories (by simp)⟩
end

/-- A window that a Pier has closed is marked as posted. -/
def windowMarked (cls cycle part : Nat) (u : PierUnit) : PierUnit :=
  { u with closed := mapIf (fun w : ClosedWin => w.cls == cls && w.cycle == cycle && w.part == part) (fun w => { w with posted := true }) u.closed }
theorem sigTake_unclosed {d : Dev} {p : Pier} {cls cycle part : Nat} (h : closedOf (triGet d.prs p) cls cycle part = none) (flip t upto final agree) :
    sigTake p cls cycle part flip t upto final agree d = sigPost p cls cycle part flip t upto final agree d := by
  simp only [sigTake, h]
/-- The signature of a closed window is the Pier's, departed from by the operand (R128). -/
theorem sigTake_closed {d : Dev} {p : Pier} {cls cycle part : Nat} {x : ClosedWin} (h : closedOf (triGet d.prs p) cls cycle part = some x)
    (flip t upto final agree) : sigTake p cls cycle part flip t upto final agree d =
      sigPost p cls cycle part (x.sig ^^^ flip) t x.upto x.final agree (prSet p (windowMarked cls cycle part) d) := by
  simp only [sigTake, h]
  rfl
/-- The signature that a posting brings. -/
def postedSig (d : Dev) (p : Pier) (cls cycle part flip : Nat) : Nat :=
  match closedOf (triGet d.prs p) cls cycle part with
  | none => flip
  | some x => x.sig ^^^ flip
/-- A posting enters a signature into the stages of a device that differs by the mark on the Pier's window alone. -/
theorem sigTake_posts {d : Dev} (hn : nothingHeld d) (p cls cycle part flip t upto final agree) : ∃ e n fin, nothingHeld e ∧ e.regs = d.regs ∧
    e.ks = d.ks ∧ e.mem = d.mem ∧
    sigTake p cls cycle part flip t upto final agree d = sigPost p cls cycle part (postedSig d p cls cycle part flip) t n fin agree e := by
  cases hc : closedOf (triGet d.prs p) cls cycle part with
  | none => exact ⟨d, upto, final, hn, rfl, rfl, rfl, by rw [sigTake_unclosed hc, postedSig, hc]⟩
  | some x =>
    obtain ⟨hm, -, -⟩ := SlotTurns.prSet (d := d) (f := windowMarked cls cycle part) (fun _ hu => hu) p hn.1
    exact ⟨prSet p (windowMarked cls cycle part) d, x.upto, x.final, ⟨hm, hn.2⟩, rfl, rfl, rfl, by rw [sigTake_closed hc, postedSig, hc]⟩
/-- The first signature of a window, posted with nothing held, opens the window. -/
theorem signaturePosted_opens {d : Dev} (hf : flag d Reg.KS_STATUS_FROZEN = false) (hs : servicePiers d = allPiers) (hu : d.ks.unexpected = [])
    (hn : nothingHeld d) (hm : d.ks.missed = []) (p cls cycle part flip t0 upto final agree) :
    let t := signaturePosted p cls cycle part flip t0 upto final agree d
    (∃ w ∈ t.ks.windows, w.cls = cls ∧ w.cycle = cycle ∧ w.part = part ∧ w.resolved = false ∧
      mget w.sigs (pierIdx p) = some (postedSig d p cls cycle part flip, t0)) ∧ flag t Reg.KS_STATUS_FROZEN = !agree ∧ memSame d t := by
  have hfull : stageFull d p = false := by simp [stageFull, hn.1.1]
  have he : signaturePosted p cls cycle part flip t0 upto final agree d =
      settle (if !agree then halvesDisagree 0 (sigTake p cls cycle part flip t0 upto final agree d)
        else sigTake p cls cycle part flip t0 upto final agree d) := by
    simp only [signaturePosted, winExpects_all hs hu, hfull]
    rfl
  obtain ⟨e, n, fin, hne, hregs, hks, hmem, hx⟩ := sigTake_posts hn p cls cycle part flip t0 upto final agree
  have hse : servicePiers e = allPiers := (servicePiers_of (rd_regs hregs _)).trans hs
  obtain ⟨hw, hz, hm'⟩ := sigPost_settled (d := e) hse (hks ▸ hu) (hks ▸ hm) (by rw [flag, rd_regs hregs, ← flag, hf]) hne p cls cycle part
    (postedSig d p cls cycle part flip) t0 n fin agree
  dsimp only
  rw [he, hx]
  refine ⟨⟨_, hw ▸ List.mem_singleton_self _, rfl, rfl, rfl, rfl, ?_⟩, hz, fun a => (hm' a).trans (by rw [hmem])⟩
  simp [openedWindow, mget]

/-! ## SKEW_TIMER_EXPIRY (R130 to R132) -/

theorem skewExpire_none {d : Dev} (h : d.ks.windows = []) (cls cycle part) : skewExpire cls cycle part d = d := by
  simp [skewExpire, winOf, h]
/-- The timer of the only window, unresolved, expires: it is judged with the signatures it has. -/
theorem skewExpire_running {d : Dev} {w : KsWindow} (hf : flag d Reg.KS_STATUS_FROZEN = false) (hw : d.ks.windows = [w])
    (hr : w.resolved = false) (he : w.expiry.isSome = true) :
    skewExpire w.cls w.cycle w.part d = openWindows (winExpired { w with expired := true } d) := by
  have hn : w.expiry.isNone = false := by rw [← Option.not_isSome, he]; rfl
  simp [skewExpire, winOf, hw, hr, hf, hn]
/-- With three Piers in service, the naming of one isolates it and leaves the other two. -/
theorem pierName_three {d : Dev} (h : servicePiers d = allPiers) (kind p win skew) :
    ∃ hour, pierName kind p win skew d = pierLeft hour p (pierNamedHour kind p win skew d) := by
  obtain ⟨hour, hh⟩ := pierName_eq kind p win skew d
  have hsv : servicePiers (pierNamedHour kind p win skew d) = allPiers :=
    (servicePiers_of (rd_pierNamedHour (by decide) (by decide) kind p win skew d)).trans h
  rw [if_pos (inService_all hsv p), hsv, if_neg (by decide)] at hh
  exact ⟨hour, hh⟩

/-! ## What the naming of a Pier leaves of windows and requests -/

theorem pierLeft_heldView (hour p d) : heldView (pierLeft hour p d) = heldView (pierForget p d) := by
  have hone : heldView (pierIsolate p d) = heldView (pierForget p d) := rfl
  unfold pierLeft
  split
  · exact (pierOut_heldView p 1 (pierIsolate p d)).trans hone
  · exact hone
theorem pierLeft_reqs {d : Dev} (h : d.ks.reqs = []) (hour p) : (pierLeft hour p d).ks.reqs = [] := by
  have hone : (pierIsolate p d).ks.reqs = [] := by
    show List.filter _ (mapIf _ _ d.ks.reqs) = []
    rw [h]
    rfl
  have hout : (pierOut p 1 (pierIsolate p d)).ks.reqs = (pierIsolate p d).ks.reqs := by
    rw [pierOut, recordP_ks]
    rfl
  unfold pierLeft
  split
  · exact hout.trans hone
  · exact hone
theorem pierNamedHour_reqs (kind p win skew d) : (pierNamedHour kind p win skew d).ks.reqs = d.ks.reqs := by
  have hs : ∀ k e, (stampAdd k e).ks.reqs = e.ks.reqs := fun k e => by
    unfold stampAdd
    extract_lets l
    split <;> rfl
  rw [pierNamedHour, wr_ks, pierNamed, hs, inc, incBy, wr_ks, recordP_ks]
  rfl
/-- Windows that are resolved and not final, no request, no slot: what is left to evaluate once a verdict is given. -/
def partsResolved (d : Dev) : Prop :=
  (∀ w ∈ d.ks.windows, w.resolved = true ∧ w.final = false) ∧ d.ks.releasing = [] ∧ d.ks.slots = [] ∧ d.ks.reqs = [] ∧ piersIdle d
/-- A Pier named and isolated leaves it so. -/
theorem pierLeft_partsResolved {d : Dev} (h : partsResolved d) (hour kind p win skew) :
    partsResolved (pierLeft hour p (pierNamedHour kind p win skew d)) := by
  obtain ⟨hw, hr, hs, hq, hp⟩ := h
  have hv := pierLeft_heldView hour p (pierNamedHour kind p win skew d)
  have hn := pierNamedHour_heldView kind p win skew d
  have hnw : (pierNamedHour kind p win skew d).ks.windows = d.ks.windows := congrArg (·.1) hn
  have hns : (pierNamedHour kind p win skew d).ks.slots = d.ks.slots := congrArg (·.2.2.1) hn
  have hnp : (pierNamedHour kind p win skew d).prs = d.prs := congrArg (·.2.2.2.2) hn
  refine ⟨fun w hm => ?_, ?_, ?_, pierLeft_reqs ((pierNamedHour_reqs kind p win skew d).trans hq) hour p, fun x => ?_⟩
  · have hlw : (pierLeft hour p (pierNamedHour kind p win skew d)).ks.windows = d.ks.windows.map (winWithout (pierIdx p)) :=
      (congrArg (·.1) hv).trans (congrArg (List.map _) hnw)
    rw [hlw] at hm
    obtain ⟨x, hx, rfl⟩ := List.mem_map.mp hm
    rw [winWithout, if_pos (hw x hx).1]
    exact hw x hx
  · exact (congrArg (·.2.1) hv).trans ((congrArg (·.2.1) hn).trans hr)
  · refine (congrArg (·.2.2.1) hv).trans (List.map_eq_nil_iff.mpr (hns.trans hs))
  · have hprs : (pierLeft hour p (pierNamedHour kind p win skew d)).prs = triSet d.prs p (pierStop (triGet d.prs p)) :=
      (congrArg (·.2.2.2.2) hv).trans (congrArg (fun t => triSet t p (pierStop (triGet t p))) hnp)
    rw [hprs, triGet_triSet]
    split
    · exact pierIdle_pierStop _
    · exact hp x
theorem winRejudge_resolved {d : Dev} (h : ∀ w ∈ d.ks.windows, w.resolved = true) : winRejudge d = d := by
  have hn : (d.ks.windows.filter fun w => !w.resolved) = [] := List.filter_eq_nil_iff.mpr fun w hw => by simp [h w hw]
  simp [winRejudge, hn, forEach]
/-- What follows in order of release changes no register. -/
theorem rd_settle_partsResolved {d : Dev} (h : partsResolved d) (g) : rd (settle (openWindows d)) g = rd (openWindows d) g := by
  obtain ⟨hw, hr, hs, hq, hp⟩ := h
  exact rd_regs (settle_parts (d := openWindows d) ⟨fun w hm => (hw w hm).2, hq, hs, by simp [show (openWindows d).ks.releasing = [] from hr]⟩ hp) g

/-! ## The verdict of an expired window with two signatures (R131, R136) -/

theorem rd_winResolve {g : Fld} (hg : ∀ f ∈ [Reg.KS_OPEN_A, Reg.KS_OPEN_B, Reg.KS_OPEN_C, Reg.KS_STATUS_OPEN_MAX, Reg.KS_WIN_COUNT],
    fldKey f ≠ fldKey g) (w d) : rd (winResolve w d) g = rd d g := by
  simp only [List.forall_mem_cons] at hg
  obtain ⟨h1, h2, h3, h4, h5, -⟩ := hg
  rw [winResolve, rd_openWindows (by simp [h1, h2, h3, h4]), rd_wr_ne _ _ h5, rd_winPut]
theorem winResolve_safeOpen {d : Dev} (h : safeOpen d) (w) : safeOpen (winResolve w d) :=
  safeOpen_of_mode (d := d) (rd_winResolve (by decide) w d) rfl h
theorem winResolve_servicePiers {d : Dev} (h : servicePiers d = allPiers) (w) : servicePiers (winResolve w d) = allPiers :=
  (servicePiers_of (rd_winResolve (by decide) w d)).trans h
/-- The only window resolved, in whatever form its verdict gives it. -/
theorem winResolve_partsResolved {d : Dev} {w x : KsWindow} (hwin : d.ks.windows = [w])
    (hkey : (x.cls, x.cycle, x.part) = (w.cls, w.cycle, w.part)) (hfin : x.final = false) (hr : d.ks.releasing = []) (hq : d.ks.reqs = [])
    (hs : d.ks.slots = []) (hp : piersIdle d) : partsResolved (winResolve x d) := by
  obtain ⟨hc, hy, hn⟩ : w.cls = x.cls ∧ w.cycle = x.cycle ∧ w.part = x.part := by simpa [eq_comm] using hkey
  have hput : (winPut { x with resolved := true } d).ks.windows = [{ x with resolved := true }] := by
    simp [winPut, ksSet, hwin, mapIf, hc, hy, hn]
  have hw : (winResolve x d).ks.windows = [{ x with resolved := true }] := hput
  refine ⟨fun y hy => ?_, hr, hs, hq, hp⟩
  rw [hw, List.mem_singleton] at hy
  exact hy ▸ ⟨rfl, hfin⟩

/-- The fields that the note of a verdict writes. -/
def verdictWrites : List Fld :=
  [Reg.KS_VERDICT_LAST_KIND, Reg.KS_VERDICT_LAST_ODD, Reg.KS_VERDICT_LAST_NO_WINDOW, Reg.KS_VERDICT_LAST_CLASS, Reg.KS_VERDICT_LAST_PART,
    Reg.KS_VERDICT_CYC, Reg.KS_VERDICT_SEQ]
theorem rd_verdictNote {g : Fld} (hg : ∀ f ∈ verdictWrites, fldKey f ≠ fldKey g) (kind odd win d) : rd (verdictNote kind odd win d) g = rd d g := by
  simp only [verdictWrites, List.forall_mem_cons] at hg
  obtain ⟨h1, h2, h3, h4, h5, h6, h7, -⟩ := hg
  simp only [verdictNote, incW, rd_wr_ne _ _ h7, rd_wr_ne _ _ h6, rd_wr_ne _ _ h5, rd_wr_ne _ _ h4, rd_wrB_ne _ _ h3, rd_wr_ne _ _ h2,
    rd_wr_ne _ _ h1]
theorem enteredSafe_openWindows {d : Dev} {c x : Nat} (h : enteredSafe d c x) : enteredSafe (openWindows d) c x := by
  rwa [enteredSafe, modeOf, rd_openWindows (by decide), rd_openWindows (by decide), rd_openWindows (by decide)]

section
variable {d : Dev} {w : KsWindow} {a b : Nat × Nat × Nat} (hsv : servicePiers d = allPiers) (hu : d.ks.unexpected = []) (ho : safeOpen d)
  (harr : winArrivals d w = [a, b])
include hsv hu ho harr

/-- Two equal signatures name the Pier whose signature is missing LATE, which isolates it. -/
theorem winExpired_late (hab : a.2.1 = b.2.1) (hfin : w.final = false) (hres : partsResolved (winResolve (winRelease w a b) d)) :
    ∃ hour win skew e, safeOpen e ∧
      winExpired w d = pierLeft hour (pierOf (3 - a.1 - b.1)) (pierNamedHour 2 (pierOf (3 - a.1 - b.1)) win skew e) ∧
      partsResolved (winExpired w d) := by
  have hodd : winOdd 2 (3 - a.1 - b.1) (winRelease w a b) (skewUnits d) d =
      pierName 2 (pierOf (3 - a.1 - b.1)) (some (w.cls, w.cycle, w.part)) (skewUnits d) (winResolve (winRelease w a b) d) := by
    rw [winOdd, if_neg (by simp [winRelease, hfin])]
    rfl
  generalize pierOf (3 - a.1 - b.1) = p at hodd ⊢
  generalize some (w.cls, w.cycle, w.part) = win at hodd
  have hopen := winResolve_safeOpen ho (winRelease w a b)
  obtain ⟨hour, hh⟩ := pierName_three (winResolve_servicePiers hsv (winRelease w a b)) 2 p win (skewUnits d)
  have hleft := pierLeft_partsResolved hres hour 2 p win (skewUnits d)
  have hm := (pierLeft_safeOpen (pierNamedHour_safeOpen hopen 2 p win (skewUnits d)) hour p).1
  have he : winExpired w d = pierLeft hour p (pierNamedHour 2 p win (skewUnits d) (winResolve (winRelease w a b) d)) := by
    simp only [winExpired, winCount_all hsv hu, harr, if_true, if_pos hab, hodd, hh]
    rw [if_neg (by simpa [modeIs] using hm), winRejudge_resolved fun x hx => (hleft.1 x hx).1]
  exact ⟨hour, win, skewUnits d, _, hopen, he, he ▸ hleft⟩
/-- Two signatures that differ leave no majority, and SAFE drops what is held. -/
theorem winExpired_none (hab : a.2.1 ≠ b.2.1) :
    nothingHeld (winExpired w d) ∧ enteredSafe (winExpired w d) scNO_MAJORITY (rd d Reg.KS_STATUS_IN_SERVICE) := by
  obtain ⟨l, he⟩ : ∃ l, winExpired w d = safeNoMajority
      (recordSev 4 Ev.NO_MAJORITY 3 l (verdictNote 3 3 (some (w.cls, w.cycle, w.part)) (winResolve w d))) := by
    simp only [winExpired, winCount_all hsv hu, harr, if_true, if_neg hab]
    exact ⟨_, rfl⟩
  have hrd : ∀ g, controlKey (fldKey g) = true → (∀ f ∈ [Reg.KS_OPEN_A, Reg.KS_OPEN_B, Reg.KS_OPEN_C, Reg.KS_STATUS_OPEN_MAX, Reg.KS_WIN_COUNT],
      fldKey f ≠ fldKey g) → (∀ f ∈ verdictWrites, fldKey f ≠ fldKey g) →
      rd (recordSev 4 Ev.NO_MAJORITY 3 l (verdictNote 3 3 (some (w.cls, w.cycle, w.part)) (winResolve w d))) g = rd d g := fun g hk hg hv => by
    rw [rd_recordSev_control hk, rd_verdictNote hv, rd_winResolve hg]
  have hopen : safeOpen (recordSev 4 Ev.NO_MAJORITY 3 l (verdictNote 3 3 (some (w.cls, w.cycle, w.part)) (winResolve w d))) :=
    safeOpen_of_mode (hrd Reg.MCTL_MODE_MODE (by decide) (by decide) (by decide)) (recordSev_mode _ _ _ _ _) ho
  rw [he, safeNoMajority, hrd Reg.KS_STATUS_IN_SERVICE (by decide) (by decide) (by decide)]
  exact ⟨safeEnter_nothingHeld hopen _ _, safeEnter_enteredSafe hopen _ _⟩
end

/-- The verdict of an expired window shows when what is left has been evaluated: the third Pier is LATE and out of the vote. -/
theorem skewExpire_late {d : Dev} {w : KsWindow} {a b : Nat × Nat × Nat} (hf : flag d Reg.KS_STATUS_FROZEN = false)
    (hsv : servicePiers d = allPiers) (hu : d.ks.unexpected = []) (ho : safeOpen d) (hwin : d.ks.windows = [w]) (hr : d.ks.releasing = [])
    (hq : d.ks.reqs = []) (hs : d.ks.slots = []) (hp : piersIdle d) (hres : w.resolved = false) (hexp : w.expiry.isSome = true)
    (hfin : w.final = false) (harr : winArrivals d w = [a, b]) (hodd : 3 - a.1 - b.1 < 3) (hab : a.2.1 = b.2.1) :
    let t := settle (skewExpire w.cls w.cycle w.part d)
    rd t Reg.KS_VERDICT_LAST_KIND = 2 ∧ rd t Reg.KS_VERDICT_LAST_ODD = 3 - a.1 - b.1 ∧ isolated t (pierOf (3 - a.1 - b.1)) = true ∧
      inService t (pierOf (3 - a.1 - b.1)) = false := by
  obtain ⟨hour, win, skew, e, hopen, he, hparts⟩ := winExpired_late (w := { w with expired := true }) hsv hu ho harr hab hfin
    (winResolve_partsResolved (x := winRelease { w with expired := true } a b) hwin rfl hfin hr hq hs hp)
  have hidx : pierIdx (pierOf (3 - a.1 - b.1)) = 3 - a.1 - b.1 := by
    generalize 3 - a.1 - b.1 = n at hodd
    revert n
    decide
  have hrd : ∀ g, (∀ f ∈ [Reg.KS_OPEN_A, Reg.KS_OPEN_B, Reg.KS_OPEN_C, Reg.KS_STATUS_OPEN_MAX], fldKey f ≠ fldKey g) →
      rd (settle (openWindows (winExpired { w with expired := true } d))) g = rd (winExpired { w with expired := true } d) g := fun g hg => by
    rw [rd_settle_partsResolved hparts, rd_openWindows hg]
  rw [skewExpire_running hf hwin hres hexp]
  refine ⟨?_, ?_, ?_, ?_⟩
  · rw [hrd _ (by decide), he, rd_pierLeft (by decide) (by decide) (by decide) (by decide), pierNamedHour_kind]
    rfl
  · rw [hrd _ (by decide), he, rd_pierLeft (by decide) (by decide) (by decide) (by decide), pierNamedHour_odd, hidx]
  · rw [isolated, bitF, hrd _ (by decide), he]
    exact isolated_pierLeft _ _ _
  · rw [inService, bitF, hrd _ (by decide), he]
    exact inService_pierLeft _ _ _

/-- Settles O27: a first signature opens its window and waits for the others; an expired window with two signatures is judged by them. -/
theorem windowsAreJudged : Obligations.WindowsAreJudged := by
  unfold Obligations.WindowsAreJudged
  intro s hs hf hsv hu
  refine ⟨fun p cls cycle part flip t0 upto final agree hn hm => ?_, fun w a b ho hwin hr hq hsl hp hres hexp hfin harr ha hb hne =>
    ⟨fun hab => ?_, fun hab => ?_⟩, fun cls cycle part hr hsl hp hwin => ?_⟩
  · rw [answers_of (i := .signaturePosted p cls cycle part flip t0 upto final agree) rfl hs]
    exact signaturePosted_opens hf hsv hu hn hm p cls cycle part flip t0 upto final agree
  · rw [answers_of (i := .skewTimerExpiry w.cls w.cycle w.part) (f := fun d => settle (skewExpire w.cls w.cycle w.part d)) rfl hs]
    exact skewExpire_late hf hsv hu ho hwin hr hq hsl hp hres hexp hfin harr (by omega) hab
  · rw [answers_of (i := .skewTimerExpiry w.cls w.cycle w.part) (f := fun d => settle (skewExpire w.cls w.cycle w.part d)) rfl hs,
      skewExpire_running hf hwin hres hexp]
    obtain ⟨hn, he⟩ := winExpired_none (w := { w with expired := true }) hsv hu ho harr hab
    rw [settle_idle (openWindows_nothingHeld hn)]
    exact enteredSafe_openWindows he
  · rw [answers_of (i := .skewTimerExpiry cls cycle part) (f := fun d => settle (skewExpire cls cycle part d)) rfl hs, skewExpire_none hwin]
    exact settle_idle ⟨⟨hwin, hr, hp⟩, hsl⟩

end Sys2Proof.Machine
end

section
/-!
SUPPORT. The phases of a resynchronisation: O30.
-/
namespace Sys2Proof.Machine

/-! ## The phase and the target of a resynchronisation (R145, R146) -/

theorem resyncTarget_of {d : Dev} {p : Pier} (h : d.ks.odd = some (pierIdx p)) : resyncTarget d = some p := by
  rw [resyncTarget, h]
  cases p <;> rfl
theorem rd_resyncPhase {g : Fld} (hs : fldKey Reg.KS_STATUS_RESYNC_PHASE ≠ fldKey g) (hr : fldKey Reg.KS_RESYNC_STATUS_PHASE ≠ fldKey g) (ph d) :
    rd (resyncPhase ph d) g = rd d g := by rw [resyncPhase, rd_wr_ne _ _ hr, rd_wr_ne _ _ hs]
theorem resyncPh_resyncPhase (ph d) : resyncPh (resyncPhase ph d) = trunc 4 ph := by
  rw [resyncPh, resyncPhase, rd_wr_ne _ _ (by decide), rd_wr_same]
  rfl

/-! ## A Pier out of service, an attempt aborted (R145, R151) -/

/-- A Pier out of service: of the Keystone's registers only its service bits change. -/
theorem rd_pierOut_service {g : Fld} (hk : controlKey (fldKey g) = true) (hg : fldKey Reg.MCTL_MODE_DEGRADED ≠ fldKey g) (p r d) :
    rd (pierOut p r d) g = rd (serviceLeft p d) g := by
  simp only [pierOut, rd_of_control (recordP_control _ _ _ _) hk, degradedReview, rd_wrB_ne _ _ hg, rd_of_control (legsOff_control _ _) hk, rd_ksSet]
  rfl
theorem pierOut_odd (p r d) : (pierOut p r d).ks.odd = d.ks.odd := by
  rw [pierOut, recordP_ks]
  rfl
/-- The resynchronisation is over and its Pier out of the vote. -/
theorem resyncOut_spec (p result reason d) :
    let t := resyncOut p result reason d
    resyncPh t = 0 ∧ rd t Reg.KS_RESYNC_STATUS_RESULT = trunc 4 result ∧ inService t p = false ∧ isolated t p = true ∧ t.ks.odd = none := by
  refine ⟨?_, ?_, ?_, ?_, pierOut_odd _ _ _⟩
  · rw [resyncPh, resyncOut, rd_pierOut_service (by decide) (by decide), rd_serviceLeft (by decide) (by decide), resyncOver, rd_ksSet,
      rd_wr_ne _ _ (by decide), rd_wr_ne _ _ (by decide)]
    exact resyncPh_resyncPhase 0 d
  · rw [resyncOut, rd_pierOut_service (by decide) (by decide), rd_serviceLeft (by decide) (by decide), resyncOver, rd_ksSet,
      rd_wr_ne _ _ (by decide), rd_wr_same]
    rfl
  · rw [inService, bitF, resyncOut, rd_pierOut_service (by decide) (by decide), rd_serviceLeft_inService]
    exact bitOf_serviceLess _ p
  · rw [isolated, bitF, resyncOut, rd_pierOut_service (by decide) (by decide)]
    exact isolated_serviceLeft p _

/-- The abort of an attempt noted, counted and recorded. -/
def abortNoted (p : Pier) (result : Nat) (d : Dev) : Dev :=
  recordP Ev.RESYNC_ABORT p [.w (pierIdx p), .w result]
    (ksSet (fun k => { k with aborts := k.aborts + 1 }) (wr (wr d Reg.KS_RESYNC_STATUS_RESULT result) Reg.KS_RESYNC_TIME (resyncMs d)))
theorem abortNoted_ks (p result d) : (abortNoted p result d).ks = { d.ks with aborts := d.ks.aborts + 1 } := by
  rw [abortNoted, recordP_ks]
  rfl
theorem resyncAbort_eq {d : Dev} {p : Pier} (h : d.ks.odd = some (pierIdx p)) (result) : resyncAbort result d =
    if 3 ≤ d.ks.aborts + 1 then resyncOut p 7 4 (abortNoted p result d) else resyncPhase 9 (abortNoted p result d) := by
  have hk : (abortNoted p result d).ks.aborts = d.ks.aborts + 1 := by rw [abortNoted_ks]
  rw [← hk]
  simp only [resyncAbort, resyncTarget_of h]
  rfl
/-- An attempt aborted with a result: another one is waited for, and the third abort takes the Pier out of service. -/
def attemptAborted (aborts : Nat) (p : Pier) (result : Nat) (t : Dev) : Prop :=
  if aborts < 2 then resyncPh t = 9 ∧ rd t Reg.KS_RESYNC_STATUS_RESULT = result ∧ t.ks.odd = some (pierIdx p)
  else resyncPh t = 0 ∧ rd t Reg.KS_RESYNC_STATUS_RESULT = 7 ∧ inService t p = false
theorem resyncAbort_aborted {d : Dev} {p : Pier} (h : d.ks.odd = some (pierIdx p)) {result : Nat} (hr : result < 16) :
    attemptAborted d.ks.aborts p result (resyncAbort result d) := by
  rw [attemptAborted, resyncAbort_eq h]
  split
  · rw [if_neg (by omega)]
    refine ⟨resyncPh_resyncPhase 9 _, ?_, ?_⟩
    · rw [rd_resyncPhase (by decide) (by decide), abortNoted, rd_of_control (recordP_control _ _ _ _) (by decide), rd_ksSet,
        rd_wr_ne _ _ (by decide), rd_wr_same]
      exact Nat.mod_eq_of_lt hr
    · show (abortNoted p result d).ks.odd = _
      rw [abortNoted_ks]
      exact h
  · rw [if_pos (by omega)]
    obtain ⟨hp, hres, hs, -, -⟩ := resyncOut_spec p 7 4 (abortNoted p result d)
    exact ⟨hp, hres, hs⟩

/-! ## RESYNC_START and RESYNC_RETRY_WAIT_EXPIRY (R145, R147, R151) -/

/-- A start out of an attempt's wait marks the attempt's begin. -/
def resyncStamped (d : Dev) : Dev := if resyncPh d = 0 then ksSet (fun k => { k with attemptAt := d.clk }) d else d
theorem resyncStamped_regs (d) : (resyncStamped d).regs = d.regs := by
  unfold resyncStamped
  split <;> rfl
theorem resyncStamped_outOfService (d) : (resyncStamped d).ks.outOfService = d.ks.outOfService := by
  unfold resyncStamped
  split <;> rfl
/-- An attempt begins, from a donor. -/
def resyncBegun (p o : Pier) (d : Dev) : Dev :=
  let d := incBy (wr (resyncPhase 3 d) Reg.KS_RESYNC_STATUS_DONOR (pierIdx o)) Reg.KS_RESYNC_STATUS_ATTEMPT 1
  let d := wr (wr (wr d Reg.KS_RESYNC_COPIED 0) Reg.KS_RESYNC_STATUS_PASS 0) Reg.KS_RESYNC_DIRTY_PAGES 0
  let d := ksSet (fun k => { k with copied := 0, passBytes := 0, badPasses := 0 }) d
  recordP Ev.RESYNC_START p [.w (pierIdx p), .w (pierIdx o), .w (rd d Reg.KS_RESYNC_STATUS_ATTEMPT)] d
theorem resyncPh_resyncBegun (p o d) : resyncPh (resyncBegun p o d) = 3 := by
  rw [resyncPh, resyncBegun, rd_of_control (recordP_control _ _ _ _) (by decide), rd_ksSet, rd_wr_ne _ _ (by decide), rd_wr_ne _ _ (by decide),
    rd_wr_ne _ _ (by decide), rd_incBy_ne _ _ (by decide), rd_wr_ne _ _ (by decide)]
  exact resyncPh_resyncPhase 3 d
/-- What lets a resynchronisation start: enabled, the Pier not out of service, the module in RUN, STOP or HOLD. -/
def resyncMay (d : Dev) (p : Pier) : Bool :=
  flag d Reg.KS_CFG_RESYNC_EN && !bitOf d.ks.outOfService (pierIdx p) && (inRun d || modeIs d mSTOP || modeIs d mHOLD)
theorem resyncMay_iff (d p) : resyncMay d p = true ↔ flag d Reg.KS_CFG_RESYNC_EN = true ∧ bitOf d.ks.outOfService (pierIdx p) = false ∧
    (modeOf d = mRUN ∨ modeOf d = mSTOP ∨ modeOf d = mHOLD) := by
  simp [resyncMay, inRun, modeIs, and_assoc, or_assoc]
theorem resyncMay_refused {d : Dev} {p : Pier} (h : flag d Reg.KS_CFG_RESYNC_EN = false ∨ bitOf d.ks.outOfService (pierIdx p) = true ∨
    ¬(modeOf d = mRUN ∨ modeOf d = mSTOP ∨ modeOf d = mHOLD)) : resyncMay d p = false := by
  rw [← Bool.not_eq_true, resyncMay_iff]
  rintro ⟨hen, hout, hm⟩
  rcases h with h | h | h
  · exact absurd (h.symm.trans hen) (by decide)
  · exact absurd (h.symm.trans hout) (by decide)
  · exact h hm
theorem resyncMay_of {d t : Dev} (hr : t.regs = d.regs) (ho : t.ks.outOfService = d.ks.outOfService) (p) : resyncMay t p = resyncMay d p := by
  simp only [resyncMay, flag, inRun, modeIs, modeOf, rd_regs hr, ho]
theorem pierHealth_of {d t : Dev} (hr : t.regs = d.regs) (p) : pierHealth t p = pierHealth d p := by simp only [pierHealth, bitF, rd_regs hr]
theorem resyncStart_eq {d : Dev} {p o : Pier} (h : d.ks.odd = some (pierIdx p)) (ho : resyncDonor d = some o) (hph : resyncPh d ≤ 2) :
    resyncStart d = if resyncMay d p then (if pierHealth d p then resyncPhase 2 (resyncStamped d) else resyncBegun p o (resyncStamped d))
      else resyncStamped d := by
  have hph' : resyncPh (resyncStamped d) ≤ 2 := by rwa [resyncPh, rd_regs (resyncStamped_regs d)]
  have hgo : ∀ e, resyncPh e ≤ 2 → (if resyncPh e ≤ 2 ∧ flag e Reg.KS_CFG_RESYNC_EN = true ∧ (!bitOf e.ks.outOfService (pierIdx p)) = true ∧
      (inRun e = true ∨ modeIs e mSTOP = true ∨ modeIs e mHOLD = true) then
        (if pierHealth e p = true then resyncPhase 2 e else resyncBegun p o e) else e) =
      if resyncMay e p = true then (if pierHealth e p = true then resyncPhase 2 e else resyncBegun p o e) else e := fun e he =>
    if_congr (by simp [he, resyncMay, and_assoc, or_assoc]) rfl rfl
  rw [← resyncMay_of (resyncStamped_regs d) (resyncStamped_outOfService d), ← pierHealth_of (resyncStamped_regs d), ← hgo _ hph']
  simp only [resyncStart, resyncTarget_of h, ho]
  rfl
theorem resyncStart_phase {d : Dev} {p : Pier} (h : d.ks.odd = some (pierIdx p)) (ho : (resyncDonor d).isSome = true) (hph : resyncPh d ≤ 2)
    (hm : resyncMay d p = true) : resyncPh (resyncStart d) = if pierHealth d p then 2 else 3 := by
  obtain ⟨o, ho⟩ := Option.isSome_iff_exists.mp ho
  rw [resyncStart_eq h ho hph, if_pos hm]
  split
  · exact resyncPh_resyncPhase 2 _
  · exact resyncPh_resyncBegun _ _ _
theorem resyncStart_refused {d : Dev} {p : Pier} (h : d.ks.odd = some (pierIdx p)) (ho : (resyncDonor d).isSome = true) (hph : resyncPh d ≤ 2)
    (hm : resyncMay d p = false) : (resyncStart d).regs = d.regs := by
  obtain ⟨o, ho⟩ := Option.isSome_iff_exists.mp ho
  rw [resyncStart_eq h ho hph, if_neg (ne_true_of_eq_false hm)]
  exact resyncStamped_regs d
/-- The wait for another attempt over, as its start finds it. -/
def retryBegun (d : Dev) : Dev := resyncPhase 2 (ksSet (fun k => { k with attemptAt := d.clk }) d)
theorem rd_retryBegun {g : Fld} (hs : fldKey Reg.KS_STATUS_RESYNC_PHASE ≠ fldKey g) (hr : fldKey Reg.KS_RESYNC_STATUS_PHASE ≠ fldKey g) (d) :
    rd (retryBegun d) g = rd d g := rd_resyncPhase hs hr 2 _
theorem resyncDonor_retryBegun (d) : resyncDonor (retryBegun d) = resyncDonor d := by
  have hsv : inService (retryBegun d) = inService d :=
    funext fun q => by rw [inService, bitF, rd_retryBegun (by decide) (by decide), ← bitF, ← inService]
  simp only [resyncDonor, servicePiers, hsv, rd_retryBegun (g := Reg.KS_CFG_DONOR_PREF) (by decide) (by decide)]
theorem resyncMay_retryBegun (d p) : resyncMay (retryBegun d) p = resyncMay d p := by
  simp only [resyncMay, flag, inRun, modeIs, modeOf, rd_retryBegun (g := Reg.KS_CFG_RESYNC_EN) (by decide) (by decide),
    rd_retryBegun (g := Reg.MCTL_MODE_MODE) (by decide) (by decide)]
  rfl
theorem pierHealth_retryBegun (d p) : pierHealth (retryBegun d) p = pierHealth d p := by
  simp only [pierHealth, bitF, rd_retryBegun (g := Reg.HM_LIVE_TEMP) (by decide) (by decide),
    rd_retryBegun (g := Reg.HM_LIVE_VOLT) (by decide) (by decide)]
/-- The end of the wait for another attempt starts it as RESYNC_START does. -/
theorem retryEnd_phase {d : Dev} {p : Pier} (h : d.ks.odd = some (pierIdx p)) (ho : (resyncDonor d).isSome = true) (hph : resyncPh d = 9)
    (hm : resyncMay d p = true) : resyncPh (retryEnd d) = if pierHealth d p then 2 else 3 := by
  have he : retryEnd d = resyncStart (retryBegun d) := if_neg (not_not_intro hph)
  rw [he, resyncStart_phase (d := retryBegun d) (p := p) h (by rwa [resyncDonor_retryBegun]) (resyncPh_resyncPhase 2 _).le
    ((resyncMay_retryBegun d p).trans hm), pierHealth_retryBegun]
theorem retryEnd_idle {d : Dev} (h : resyncPh d ≠ 9) : retryEnd d = d := if_pos h

/-! ## RESYNC_HEALTH_WAIT_EXPIRY and RESYNC_SELFTEST_DONE (R145, R146, R515) -/

theorem healthWaitExpiry_eq {d : Dev} {p : Pier} (h : d.ks.odd = some (pierIdx p)) :
    healthWaitExpiry d = if resyncPh d = 2 ∧ pierHealth d p = true then resyncOut p 8 3 d else d := by
  simp only [healthWaitExpiry, resyncTarget_of h]
theorem crossingsResync_control (l dropped d) : control (crossingsResync l dropped d) = control d := by
  refine forEach_control _ _ d fun x d => ?_
  simp [crossingResync, clrBitF, Reg.CKR_RST_HS_BUSY, Reg.CKR_RST_CNT_HANDSHAKES, Reg.CKR_RST_CNT_DROPPED]
/-- The self-test of the odd Pier ends on a device of which only its crossings' registers and events have changed. -/
theorem resyncSelftestDone_eq {d : Dev} {p : Pier} (h : d.ks.odd = some (pierIdx p)) (hph : resyncPh d = 3) (fail dropped) :
    ∃ e, e.ks.odd = some (pierIdx p) ∧ resyncPh e = 3 ∧ resyncSelftestDone fail dropped d = resyncSelftest fail e := by
  have hc := crossingsResync_control (domainCrossings 0) dropped d
  exact ⟨_, (congrArg (·.2.1.odd) hc).trans h, (rd_of_control hc (by decide)).trans hph, if_pos hph⟩
theorem resyncSelftest_passes {d : Dev} {p : Pier} (h : d.ks.odd = some (pierIdx p)) (hph : resyncPh d = 3) :
    resyncSelftest none d = resyncPhase 4 d := by
  simp only [resyncSelftest, resyncTarget_of h, if_neg (not_not_intro hph)]
theorem resyncSelftest_fails {d : Dev} {p : Pier} (h : d.ks.odd = some (pierIdx p)) (hph : resyncPh d = 3) (block) :
    resyncSelftest (some block) d = resyncOut p 2 2 (recordP Ev.PIER_SELFTEST_FAIL p [.w (pierIdx p), .w block] d) := by
  simp only [resyncSelftest, resyncTarget_of h, if_neg (not_not_intro hph)]
theorem resyncSelftestDone_passes {d : Dev} {p : Pier} (h : d.ks.odd = some (pierIdx p)) (hph : resyncPh d = 3) (dropped) :
    resyncPh (resyncSelftestDone none dropped d) = 4 := by
  obtain ⟨e, ho, h3, he⟩ := resyncSelftestDone_eq h hph none dropped
  rw [he, resyncSelftest_passes ho h3]
  exact resyncPh_resyncPhase 4 e
theorem resyncSelftestDone_fails {d : Dev} {p : Pier} (h : d.ks.odd = some (pierIdx p)) (hph : resyncPh d = 3) (block dropped) :
    let t := resyncSelftestDone (some block) dropped d
    resyncPh t = 0 ∧ rd t Reg.KS_RESYNC_STATUS_RESULT = 2 ∧ inService t p = false ∧ isolated t p = true ∧ t.ks.odd = none := by
  obtain ⟨e, ho, h3, he⟩ := resyncSelftestDone_eq h hph (some block) dropped
  rw [he, resyncSelftest_fails ho h3]
  exact resyncOut_spec p 2 2 _
theorem resyncSelftestDone_idle {d : Dev} (h : resyncPh d ≠ 3) (fail dropped) : resyncSelftestDone fail dropped d = d := if_neg h

/-! ## RESYNC_CODE_CHECK_DONE (R146, R149) -/

/-- The blocks of code and constants that join the copy list. -/
def blocksJoined (p : Pier) (upset ecc : List Nat) (d : Dev) : List Nat :=
  (List.range (ceilDiv d.img.codeBytes 1048576)).filter fun b =>
    (blocksDiffer d.img d.store.consts (triGet d.prs p)).contains b || upset.contains b || ecc.contains b
/-- The copy list noted, and the bytes of the first pass: the writable state and the blocks of the list. -/
def passSized (joined : List Nat) (d : Dev) : Dev :=
  ksSet (fun k => { k with copyList := joined, passPages := [], passBytes := 0, passLeft := d.img.stateBytes + 1048576 * joined.length }) d
/-- The first pass begins, `n` blocks checked. -/
def passOne (n : Nat) (joined : List Nat) (d : Dev) : Dev :=
  wr (resyncPhase 5 (donorClear (passSized joined
    (wrSat (wrSat d Reg.KS_RESYNC_BLOCKS_CHECKED n) Reg.KS_RESYNC_BLOCKS_COPIED joined.length)))) Reg.KS_RESYNC_STATUS_PASS 1
theorem passSized_ks (joined d) : (passSized joined d).ks =
    { d.ks with copyList := joined, passPages := [], passBytes := 0, passLeft := d.img.stateBytes + 1048576 * joined.length } := rfl
theorem passOne_ks (n joined d) : (passOne n joined d).ks =
    { d.ks with copyList := joined, passPages := [], passBytes := 0, passLeft := d.img.stateBytes + 1048576 * joined.length } := by
  show (passSized joined _).ks = _
  rw [passSized_ks]
  rfl
theorem passOne_spec (n joined d) :
    let t := passOne n joined d
    resyncPh t = 5 ∧ rd t Reg.KS_RESYNC_STATUS_PASS = 1 ∧ t.ks.passLeft = d.img.stateBytes + 1048576 * joined.length ∧ t.ks.copyList = joined ∧
      memSame d t := by
  refine ⟨?_, rd_wr_same _ _ _, by rw [passOne_ks], by rw [passOne_ks], fun _ => rfl⟩
  rw [resyncPh, passOne, rd_wr_ne _ _ (by decide)]
  exact resyncPh_resyncPhase 5 _
theorem codeCheckDone_eq {d : Dev} {p : Pier} (h : d.ks.odd = some (pierIdx p)) (hph : resyncPh d = 4) (upset ecc) :
    codeCheckDone upset ecc d = passOne (ceilDiv d.img.codeBytes 1048576) (blocksJoined p upset ecc d) d := by
  unfold codeCheckDone
  rw [resyncTarget_of h]
  dsimp only
  rw [if_neg (not_not_intro hph), ← blocksJoined, passOne, passSized]
theorem codeCheckDone_spec {d : Dev} {p : Pier} (h : d.ks.odd = some (pierIdx p)) (hph : resyncPh d = 4) (upset ecc) :
    let t := codeCheckDone upset ecc d
    resyncPh t = 5 ∧ rd t Reg.KS_RESYNC_STATUS_PASS = 1 ∧ t.ks.passLeft = d.img.stateBytes + 1048576 * t.ks.copyList.length ∧
      (∀ b, b < ceilDiv d.img.codeBytes 1048576 → (b ∈ upset ∨ b ∈ ecc) → b ∈ t.ks.copyList) ∧ memSame d t := by
  rw [codeCheckDone_eq h hph]
  obtain ⟨hp, hpass, hleft, hlist, hmem⟩ := passOne_spec (ceilDiv d.img.codeBytes 1048576) (blocksJoined p upset ecc d) d
  refine ⟨hp, hpass, by rw [hleft, hlist], fun b hb hu => ?_, hmem⟩
  rw [hlist, blocksJoined, List.mem_filter, List.mem_range]
  rcases hu with hu | hu <;> simp [hb, hu]
theorem codeCheckDone_idle {d : Dev} {p : Pier} (h : d.ks.odd = some (pierIdx p)) (hph : resyncPh d ≠ 4) (upset ecc) :
    codeCheckDone upset ecc d = d := by
  simp only [codeCheckDone, resyncTarget_of h, if_pos hph]

/-! ## RESYNC_COPY_TICK (R148, R151) -/

theorem copyTick_aborts {d : Dev} (h3 : 3 ≤ resyncPh d) (h7 : resyncPh d ≤ 7) (slack written) : copyTick slack written true d = resyncAbort 6 d :=
  if_pos ⟨rfl, h3, h7⟩
theorem copyTick_idle {d : Dev} {ecc : Bool} (hph : resyncPh d ≠ 5) (h : ecc = false ∨ resyncPh d < 3 ∨ 7 < resyncPh d) (slack written) :
    copyTick slack written ecc d = d := by
  have hn : ¬ (ecc = true ∧ 3 ≤ resyncPh d ∧ resyncPh d ≤ 7) := fun ⟨he, h3, h7⟩ => by
    rcases h with h | h | h
    · simp [he] at h
    · omega
    · omega
  rw [copyTick, if_neg hn, if_pos hph]
/-- The bytes that a tick copies: the donor's slack by the copy share, at most what is left of the pass. -/
def tickBytes (slack : Nat) (d : Dev) : Nat :=
  min d.ks.passLeft ((if modeOf d = mSTOP ∨ modeOf d = mHOLD then 125000 else min slack 125000) * rd d Reg.KS_RESYNC_CFG_COPY_SHARE / 100 * 4)
theorem copyTick_copies {d : Dev} (hph : resyncPh d = 5) (slack written) :
    copyTick slack written false d = copyBytes (tickBytes slack d) (writtenMark written d) := by
  have hs : (if (modeIs d mSTOP || modeIs d mHOLD) = true then 125000 else min slack 125000) =
      if modeOf d = mSTOP ∨ modeOf d = mHOLD then 125000 else min slack 125000 := if_congr (by simp [modeIs]) rfl rfl
  rw [tickBytes, ← hs]
  simp only [copyTick, hph]
  rfl
theorem copyBytes_regsBut (n d) : regsBut [Reg.KS_RESYNC_COPIED] d (copyBytes n d) := fun _ hg => rd_wr_ne _ _ (hg _ (List.mem_singleton_self _))
theorem copyTick_spec {d : Dev} (hph : resyncPh d = 5) (slack written) :
    let t := copyTick slack written false d
    t.ks.copied = d.ks.copied + tickBytes slack d ∧ rd t Reg.KS_RESYNC_COPIED = trunc Reg.KS_RESYNC_COPIED.w (t.ks.copied / 1024) ∧
      regsBut [Reg.KS_RESYNC_COPIED] d t := by
  rw [copyTick_copies hph]
  refine ⟨rfl, rd_wr_same _ _ _, fun g hg => ?_⟩
  rw [copyBytes_regsBut _ _ g hg]
  rfl

/-! ## RESYNC_PASS_END and RESYNC_FINAL_WAIT_EXPIRY (R146, R149, R150) -/

/-- A pass over what the pages marked say and what of it is copied. -/
def passCopied (p : Pier) (written : List Nat) (d : Dev) : Dev := passCopy p (writtenMark written d)
theorem passCopied_shape (p written d) : passCopied p written d = { d with prs := (passCopied p written d).prs } := by
  unfold passCopied passCopy
  extract_lets o only blocks
  split <;> rfl
/-- The copy leaves the donor, whose marks count the dirty pages. -/
theorem donorDirty_passCopied {d : Dev} {p : Pier} (h : donorNow d ≠ p) (written) :
    (triGet (passCopied p written d).prs (donorNow d)).dirty.length = donorDirty d written := by
  have hset : ∀ (f : PierUnit → PierUnit) e, triGet (prSet p f e).prs (donorNow d) = triGet e.prs (donorNow d) := fun f e => by
    rw [prSet, triGet_triSet, if_neg (Ne.symm h)]
  have hcopy : triGet (passCopied p written d).prs (donorNow d) = triGet (writtenMark written d).prs (donorNow d) := by
    unfold passCopied passCopy
    extract_lets o only blocks
    split
    · exact hset _ _
    · exact hset _ _
  rw [hcopy, writtenMark, triGet_prSet_same, donorDirty]
/-- The passes in a row that left more than half of what they copied dirty. -/
def passBad (written : List Nat) (d : Dev) : Nat :=
  if ceilDiv d.ks.passBytes 4096 < 2 * donorDirty d written then d.ks.badPasses + 1 else 0
/-- The end of a pass with its dirty pages noted. -/
def passNoted (p : Pier) (written : List Nat) (d : Dev) : Dev :=
  wrSat (ksSet (fun k => { k with badPasses := passBad written d, pages := donorDirty d written }) (passCopied p written d))
    Reg.KS_RESYNC_DIRTY_PAGES (donorDirty d written)
theorem passNoted_ks (p written d) : (passNoted p written d).ks = { d.ks with badPasses := passBad written d, pages := donorDirty d written } := by
  rw [passNoted, passCopied_shape]
  rfl
theorem rd_passNoted {g : Fld} (hg : fldKey Reg.KS_RESYNC_DIRTY_PAGES ≠ fldKey g) (p written d) : rd (passNoted p written d) g = rd d g := by
  rw [passNoted, wrSat, rd_wr_ne _ _ hg, rd_ksSet, passCopied_shape]
  rfl
theorem passNoted_memSame (p written d) : memSame d (passNoted p written d) := fun a => by
  rw [passNoted, passCopied_shape]
  rfl
theorem passNoted_dirty {d : Dev} {p : Pier} (h : donorNow d ≠ p) (written) :
    (triGet (passNoted p written d).prs (donorNow (passNoted p written d))).dirty.length = donorDirty d written := by
  have hn : donorNow (passNoted p written d) = donorNow d := by rw [donorNow, rd_passNoted (by decide), donorNow]
  rw [hn]
  exact donorDirty_passCopied h written
theorem passEnd_eq {d : Dev} {p : Pier} (h : d.ks.odd = some (pierIdx p)) (hph : resyncPh d = 5) (hl : d.ks.passLeft = 0) (hd : donorNow d ≠ p)
    (written) : passEnd written d = if 3 ≤ passBad written d then resyncAbort 3 (passNoted p written d)
      else if donorDirty d written ≤ rd d Reg.KS_RESYNC_CFG_FINAL_PAGES then resyncPhase 6 (passNoted p written d)
      else nextPass 0 (passNoted p written d) := by
  have hshape := passCopied_shape p written d
  have hn : donorNow (passCopied p written d) = donorNow d := by
    rw [hshape]
    rfl
  have hcopy : passCopy p (writtenMark written d) = passCopied p written d := rfl
  have hdirty := hn ▸ donorDirty_passCopied hd written
  have hbad : (if ceilDiv (passCopied p written d).ks.passBytes 4096 < 2 * donorDirty d written then (passCopied p written d).ks.badPasses + 1 else 0) =
      passBad written d := by
    rw [hshape]
    rfl
  rw [← rd_passNoted (by decide) p written d]
  simp only [passEnd, resyncTarget_of h, hph, hl, hcopy, hdirty, hbad]
  rfl
theorem passEnd_idle {d : Dev} {p : Pier} (h : d.ks.odd = some (pierIdx p)) (hn : resyncPh d ≠ 5 ∨ d.ks.passLeft ≠ 0) (written) :
    passEnd written d = d := by
  simp only [passEnd, resyncTarget_of h, if_pos hn]
/-- A further pass begins over the pages that the donor has marked. -/
theorem nextPass_spec (d) :
    let t := nextPass 0 d
    resyncPh t = 5 ∧ t.ks.passLeft = 4096 * (triGet d.prs (donorNow d)).dirty.length ∧ t.ks.pages = d.ks.pages ∧
      rd t Reg.KS_RESYNC_STATUS_PASS = satAdd Reg.KS_RESYNC_STATUS_PASS.w (rd d Reg.KS_RESYNC_STATUS_PASS) 1 ∧ memSame d t := by
  refine ⟨?_, rfl, rfl, ?_, fun _ => rfl⟩
  · rw [resyncPh, nextPass, rd_incBy_ne _ _ (by decide)]
    exact resyncPh_resyncPhase 5 _
  · rw [nextPass, rd_incBy_same, rd_resyncPhase (by decide) (by decide)]
    rfl
/-- A pass that is all copied ends with few enough dirty pages, or another one begins (R149). -/
theorem passEnd_goes {d : Dev} {p : Pier} (h : d.ks.odd = some (pierIdx p)) (hph : resyncPh d = 5) (hl : d.ks.passLeft = 0) (hd : donorNow d ≠ p)
    {written : List Nat} (hbad : d.ks.badPasses < 2 ∨ 2 * donorDirty d written ≤ ceilDiv d.ks.passBytes 4096) :
    let t := passEnd written d
    t.ks.pages = donorDirty d written ∧ memSame d t ∧
      (if donorDirty d written ≤ rd d Reg.KS_RESYNC_CFG_FINAL_PAGES then resyncPh t = 6
        else resyncPh t = 5 ∧ t.ks.passLeft = 4096 * donorDirty d written ∧
          rd t Reg.KS_RESYNC_STATUS_PASS = satAdd Reg.KS_RESYNC_STATUS_PASS.w (rd d Reg.KS_RESYNC_STATUS_PASS) 1) := by
  have hb : ¬ 3 ≤ passBad written d := by
    unfold passBad
    split <;> omega
  have hpages : (passNoted p written d).ks.pages = donorDirty d written := by rw [passNoted_ks]
  have hmem := passNoted_memSame p written d
  rw [passEnd_eq h hph hl hd, if_neg hb]
  split
  · exact ⟨hpages, hmem, resyncPh_resyncPhase 6 _⟩
  · obtain ⟨h5, hleft, hpg, hpass, hm⟩ := nextPass_spec (passNoted p written d)
    rw [passNoted_dirty hd] at hleft
    rw [rd_passNoted (by decide)] at hpass
    exact ⟨hpg.trans hpages, fun a => (hm a).trans (hmem a), h5, hleft, hpass⟩
/-- The third pass in a row that leaves more than half of what it copied dirty aborts the attempt (R149, R151). -/
theorem passEnd_aborts {d : Dev} {p : Pier} (h : d.ks.odd = some (pierIdx p)) (hph : resyncPh d = 5) (hl : d.ks.passLeft = 0) (hd : donorNow d ≠ p)
    {written : List Nat} (h2 : 2 ≤ d.ks.badPasses) (hbad : ceilDiv d.ks.passBytes 4096 < 2 * donorDirty d written) :
    attemptAborted d.ks.aborts p 3 (passEnd written d) := by
  have hb : 3 ≤ passBad written d := by
    rw [passBad, if_pos hbad]
    omega
  have hks := passNoted_ks p written d
  have ha := resyncAbort_aborted (d := passNoted p written d) (p := p) (result := 3) (by rw [hks]; exact h) (by decide)
  rw [passEnd_eq h hph hl hd, if_pos hb]
  rwa [hks] at ha
theorem finalWaitExpiry_again {d : Dev} (h : resyncPh d = 6) :
    resyncPh (finalWaitExpiry d) = 5 ∧
      rd (finalWaitExpiry d) Reg.KS_RESYNC_STATUS_PASS = satAdd Reg.KS_RESYNC_STATUS_PASS.w (rd d Reg.KS_RESYNC_STATUS_PASS) 1 := by
  have he : finalWaitExpiry d = nextPass 0 d := if_pos h
  obtain ⟨h5, -, -, hpass, -⟩ := nextPass_spec d
  rw [he]
  exact ⟨h5, hpass⟩
theorem finalWaitExpiry_idle {d : Dev} (h : resyncPh d ≠ 6) : finalWaitExpiry d = d := if_neg h

/-! ## RESYNC_FINAL (R146, R150, R152) -/

theorem resyncFinal_idle {d : Dev} {p : Pier} (h : d.ks.odd = some (pierIdx p)) (hph : resyncPh d ≠ 6) (idle gap written) :
    resyncFinal idle gap written d = d := by
  simp only [resyncFinal, resyncTarget_of h, if_pos hph]
/-- A gap that holds what is left of the copy. -/
def gapHolds (idle : Bool) (gap : Nat) (written : List Nat) (d : Dev) : Prop :=
  idle = true ∧ donorDirty d written * 4096 / 4 + 25000 ≤ gap ∧ d.chg.state ≠ 3
theorem donorDirty_writtenMark (d written) : (triGet (writtenMark written d).prs (donorNow d)).dirty.length = donorDirty d written := by
  rw [writtenMark, triGet_prSet_same, donorDirty]
theorem resyncFinal_waits {d : Dev} {p : Pier} (h : d.ks.odd = some (pierIdx p)) (hph : resyncPh d = 6) {idle : Bool} {gap : Nat}
    {written : List Nat} (hg : ¬ gapHolds idle gap written d) : resyncFinal idle gap written d = writtenMark written d := by
  have hn : (!idle) = true ∨ gap < donorDirty d written * 4096 / 4 + 25000 ∨ d.chg.state = 3 := by
    unfold gapHolds at hg
    cases idle
    · exact .inl rfl
    · rw [← Nat.not_le]
      tauto
  simp only [resyncFinal, resyncTarget_of h, donorDirty_writtenMark]
  rw [if_neg (not_not_intro hph), if_pos hn]
/-- The odd Pier is shown in service again and the resynchronisation in REJOIN. -/
def rejoined (p : Pier) (d : Dev) : Dev := setBitF (clrBitF d Reg.KS_STATUS_ISOLATED (pierIdx p)) Reg.KS_STATUS_IN_SERVICE (pierIdx p)
theorem resyncFinal_joins {d : Dev} {p : Pier} (h : d.ks.odd = some (pierIdx p)) (hph : resyncPh d = 6) {idle : Bool} {gap : Nat}
    {written : List Nat} (hg : gapHolds idle gap written d) :
    ∃ e f g, resyncFinal idle gap written d = degradedReview (resyncPhase 8 (cycSet g (ksSet f (rejoined p e)))) := by
  obtain ⟨hi, hgap, hst⟩ := hg
  have hn : ¬ ((!idle) = true ∨ gap < donorDirty d written * 4096 / 4 + 25000 ∨ d.chg.state = 3) := by
    rw [hi, ← Nat.not_le]
    simp [hgap, hst]
  simp only [resyncFinal, resyncTarget_of h, donorDirty_writtenMark]
  rw [if_neg (not_not_intro hph), if_neg hn]
  exact ⟨_, _, _, rfl⟩
theorem rejoined_spec (p e f g) :
    let t := degradedReview (resyncPhase 8 (cycSet g (ksSet f (rejoined p e))))
    inService t p = true ∧ isolated t p = false ∧ resyncPh t = 8 := by
  have hrd : ∀ x, fldKey Reg.MCTL_MODE_DEGRADED ≠ fldKey x → fldKey Reg.KS_STATUS_RESYNC_PHASE ≠ fldKey x →
      fldKey Reg.KS_RESYNC_STATUS_PHASE ≠ fldKey x →
      rd (degradedReview (resyncPhase 8 (cycSet g (ksSet f (rejoined p e))))) x = rd (rejoined p e) x := fun x h1 h2 h3 => by
    rw [degradedReview, rd_wrB_ne _ _ h1, rd_resyncPhase h2 h3]
    rfl
  refine ⟨?_, ?_, ?_⟩
  · rw [inService, bitF, hrd _ (by decide) (by decide) (by decide), ← bitF, rejoined,
      bitF_setBitF _ _ _ _ (show pierIdx p < Reg.KS_STATUS_IN_SERVICE.w from pierIdx_lt p)]
    simp
  · rw [isolated, bitF, hrd _ (by decide) (by decide) (by decide), rejoined, setBitF, rd_wr_ne _ _ (by decide), ← bitF,
      bitF_clrBitF _ _ _ _ (show pierIdx p < Reg.KS_STATUS_ISOLATED.w from pierIdx_lt p)]
    simp
  · rw [resyncPh, degradedReview, rd_wrB_ne _ _ (by decide)]
    exact resyncPh_resyncPhase 8 _

theorem resyncFinal_rejoins {d : Dev} {p : Pier} (h : d.ks.odd = some (pierIdx p)) (hph : resyncPh d = 6) {idle : Bool} {gap : Nat}
    {written : List Nat} (hg : gapHolds idle gap written d) :
    let t := resyncFinal idle gap written d
    inService t p = true ∧ isolated t p = false ∧ resyncPh t = 8 := by
  obtain ⟨e, f, g, he⟩ := resyncFinal_joins h hph hg
  rw [he]
  exact rejoined_spec p e f g

/-! ## RESYNC_TIME_LIMIT (R151) -/

/-- An attempt in progress is older than its limit. -/
def attemptOver (d : Dev) : Prop :=
  1 ≤ resyncPh d ∧ resyncPh d ≤ 7 ∧ d.ks.attemptAt + rd d Reg.KS_RESYNC_CFG_LIMIT_S * second ≤ d.clk
theorem resyncTimeLimit_over {d : Dev} (h : attemptOver d) : resyncTimeLimit d = resyncAbort 4 d := if_pos h
theorem resyncTimeLimit_idle {d : Dev} (h : ¬ attemptOver d) : resyncTimeLimit d = d := if_neg h

end Sys2Proof.Machine
end

section
/-!
SUPPORT. What a mismatch and a self-test do to a lockstep pair, and the settlement of O30.
-/
namespace Sys2Proof.Machine

/-! ## The state of a pair and its counters (R159 to R162) -/

theorem pairState_pairPut {u st : Nat} (h1 : 1 ≤ u) (h6 : u ≤ 6) (hst : st < 16) (d) : pairState (pairPut u st d) u = st := by
  rw [pairState, pairPut, rd_wr_same]
  generalize rd d Reg.KS_PAIR_STATE_UNIT = old
  simp only [bitField, trunc, Reg.KS_PAIR_STATE_UNIT]
  interval_cases u <;> omega
theorem pairState_of_rd {d t : Dev} (h : rd t Reg.KS_PAIR_STATE_UNIT = rd d Reg.KS_PAIR_STATE_UNIT) (u) : pairState t u = pairState d u := by
  rw [pairState, h, pairState]
theorem pairState_of_control {d t : Dev} (h : control t = control d) (u) : pairState t u = pairState d u :=
  pairState_of_rd (rd_of_control h (by decide)) u
/-- The counters of a pair are apart from the state of the pairs, from the mode and from the operating seconds. -/
theorem pairCount_keys {u : Nat} {f : Fld} (hf : f ∈ [Reg.KS_PAIR_MISMATCHES u, Reg.KS_PAIR_TRANSIENTS u, Reg.KS_PAIR_HOUR u]) :
    fldKey f ≠ fldKey Reg.KS_PAIR_STATE_UNIT ∧ fldKey f ≠ fldKey Reg.MCTL_MODE_MODE ∧ fldKey f ≠ fldKey Reg.MCTL_OP_SECONDS := by
  simp only [List.mem_cons, List.not_mem_nil, or_false] at hf
  rcases hf with rfl | rfl | rfl <;>
    (simp only [fldKey, Reg.KS_PAIR_MISMATCHES, Reg.KS_PAIR_TRANSIENTS, Reg.KS_PAIR_HOUR, Reg.KS_PAIR_STATE_UNIT, Reg.MCTL_MODE_MODE,
      Reg.MCTL_OP_SECONDS]; omega)
theorem pairHour_ne_transients (u) : fldKey (Reg.KS_PAIR_HOUR u) ≠ fldKey (Reg.KS_PAIR_TRANSIENTS u) := by
  simp only [fldKey, Reg.KS_PAIR_HOUR, Reg.KS_PAIR_TRANSIENTS]
  omega
theorem pairCount_control {u : Nat} (h6 : u ≤ 6) :
    controlKey (fldKey (Reg.KS_PAIR_MISMATCHES u)) = true ∧ controlKey (fldKey (Reg.KS_PAIR_TRANSIENTS u)) = true := by
  revert u
  decide
theorem safeKeeps_pairState : safeKeeps Reg.KS_PAIR_STATE_UNIT := ⟨by decide, by decide⟩

/-! ## PAIR_MISMATCH (R159, R160, R412) -/

theorem gbKill_control (st d) : control (gbKill st d) = control d := by
  unfold gbKill
  split
  · rfl
  · simp [Reg.GB_STATUS_OWNER]
theorem gbPairHalt_control (d) : control (gbPairHalt d) = control d := (gbKill_control _ _).trans (gbUnstart_control d)
/-- A mismatch halts the pair and is counted; what else it does, module control and the Keystone do not see. -/
theorem pairMismatch_control {u : Nat} {d : Dev} (h : pairState d u = 0) :
    control (pairMismatch u d) = control (inc (pairPut u 3 d) (Reg.KS_PAIR_MISMATCHES u)) := by
  rw [pairMismatch, if_neg (not_not_intro h)]
  dsimp only
  split
  · exact (gbPairHalt_control _).trans (record_control _ _ _)
  · exact record_control _ _ _
theorem pairMismatch_halts {u : Nat} {d : Dev} (h1 : 1 ≤ u) (h6 : u ≤ 6) (h : pairState d u = 0) :
    let t := pairMismatch u d
    pairState t u = 3 ∧ rd t (Reg.KS_PAIR_MISMATCHES u) = satAdd (Reg.KS_PAIR_MISMATCHES u).w (rd d (Reg.KS_PAIR_MISMATCHES u)) 1 ∧
      memSame d t := by
  obtain ⟨hst, -, -⟩ := pairCount_keys (f := Reg.KS_PAIR_MISMATCHES u) (u := u) (by simp)
  have hc := pairMismatch_control h
  refine ⟨?_, ?_, memSame_of_memories (pairMismatch_memories u d)⟩
  · rw [pairState_of_control hc, pairState_of_rd (rd_inc_ne _ hst), pairState_pairPut h1 h6 (by decide)]
  · rw [rd_of_control hc (pairCount_control h6).1, rd_inc_same, pairPut, rd_wr_ne _ _ hst.symm]
theorem pairMismatch_idle {u : Nat} {d : Dev} (h : pairState d u ≠ 0) : pairMismatch u d = d := if_pos h

/-! ## PAIR_SELFTEST_DONE (R159, R161, R162) -/

theorem pairSelftest_idle {u : Nat} {d : Dev} (h : pairState d u ≠ 3) (a b) : pairSelftest u a b d = d := if_pos h
/-- The transient of a pair stamped: the unit compares again. -/
def pairStamped (u : Nat) (d : Dev) : Dev := stampAdd (4 + u) (inc (pairPut u 0 d) (Reg.KS_PAIR_TRANSIENTS u))
/-- The same with the count of the last operating hour. -/
def pairPassed (u : Nat) (d : Dev) : Dev := wr (pairStamped u d) (Reg.KS_PAIR_HOUR u) (min (hourStamps (pairStamped u d) (4 + u)).length 2)
theorem pairSelftest_passes {u : Nat} {d : Dev} (h : pairState d u = 3) : pairSelftest u true true d =
    if 3 ≤ (hourStamps (pairStamped u d) (4 + u)).length then safeEnter scTRANSIENTS u (recordSev 4 Ev.PAIR_TRANSIENT 3 [.w u, .w 0] (pairPassed u d))
    else cqFlush (record Ev.PAIR_TRANSIENT [.w u, .w 0] (pairPassed u d)) := by
  rw [pairSelftest, if_neg (not_not_intro h), if_pos rfl]
  rfl
/-- The transient is stamped as one of now on the stamps that the pair had. -/
theorem hourStamps_pairStamped (u d) : hourStamps (inc (pairPut u 0 d) (Reg.KS_PAIR_TRANSIENTS u)) (4 + u) = hourStamps d (4 + u) := by
  obtain ⟨-, -, ho⟩ := pairCount_keys (f := Reg.KS_PAIR_TRANSIENTS u) (u := u) (by simp)
  refine hourStamps_of (d := d) (t := inc (pairPut u 0 d) (Reg.KS_PAIR_TRANSIENTS u)) rfl ?_ _
  rw [rd_inc_ne _ ho, pairPut, rd_wr_ne _ _ (by decide)]
theorem pairPassed_spec {u : Nat} (h1 : 1 ≤ u) (h6 : u ≤ 6) (d) :
    let t := pairPassed u d
    pairState t u = 0 ∧ rd t (Reg.KS_PAIR_TRANSIENTS u) = satAdd (Reg.KS_PAIR_TRANSIENTS u).w (rd d (Reg.KS_PAIR_TRANSIENTS u)) 1 ∧
      modeOf t = modeOf d ∧ t.mode = d.mode := by
  obtain ⟨hst, hm, -⟩ := pairCount_keys (f := Reg.KS_PAIR_TRANSIENTS u) (u := u) (by simp)
  obtain ⟨hst', hm', -⟩ := pairCount_keys (f := Reg.KS_PAIR_HOUR u) (u := u) (by simp)
  have hrd : ∀ g, fldKey (Reg.KS_PAIR_HOUR u) ≠ fldKey g → rd (pairPassed u d) g = rd (inc (pairPut u 0 d) (Reg.KS_PAIR_TRANSIENTS u)) g :=
    fun g hg => by rw [pairPassed, rd_wr_ne _ _ hg, pairStamped, stampAdd_rd]
  refine ⟨?_, ?_, ?_, ?_⟩
  · rw [pairState_of_rd ((hrd _ hst').trans (rd_inc_ne _ hst)), pairState_pairPut h1 h6 (by decide)]
  · rw [hrd _ (pairHour_ne_transients u), rd_inc_same, pairPut, rd_wr_ne _ _ hst.symm]
  · rw [modeOf, hrd _ hm', rd_inc_ne _ hm, pairPut, rd_wr_ne _ _ (by decide), modeOf]
  · show (pairStamped u d).mode = d.mode
    rw [pairStamped, stampAdd_mode]
    rfl
/-- Both copies pass and the hour has had fewer than two transients: the unit compares again. -/
theorem pairSelftest_resumes {u : Nat} {d : Dev} (h1 : 1 ≤ u) (h6 : u ≤ 6) (h : pairState d u = 3) (h2 : (hourStamps d (4 + u)).length < 2) :
    let t := pairSelftest u true true d
    pairState t u = 0 ∧ rd t (Reg.KS_PAIR_TRANSIENTS u) = satAdd (Reg.KS_PAIR_TRANSIENTS u).w (rd d (Reg.KS_PAIR_TRANSIENTS u)) 1 ∧
      modeOf t = modeOf d := by
  have hn : ¬ 3 ≤ (hourStamps (pairStamped u d) (4 + u)).length := by
    have := hourStamps_stampAdd (4 + u) (inc (pairPut u 0 d) (Reg.KS_PAIR_TRANSIENTS u))
    rw [hourStamps_pairStamped] at this
    rw [pairStamped]
    omega
  have hc : control (cqFlush (record Ev.PAIR_TRANSIENT [.w u, .w 0] (pairPassed u d))) = control (pairPassed u d) :=
    (cqFlush_control _).trans (record_control _ _ _)
  obtain ⟨hst, ht, hm, -⟩ := pairPassed_spec h1 h6 d
  rw [pairSelftest_passes h, if_neg hn]
  exact ⟨(pairState_of_control hc u).trans hst, (rd_of_control hc (pairCount_control h6).2).trans ht, (rd_of_control hc (by decide)).trans hm⟩
/-- An entry into SAFE after an event leaves the pairs and has its cause. -/
theorem safeEnter_pair {d e t : Dev} (hc : control t = control e) (ht : t.mode = e.mode) (he : modeOf e = modeOf d) (hm : e.mode = d.mode)
    (ho : safeOpen d) (c x u) : pairState (safeEnter c x t) u = pairState e u ∧ enteredSafe (safeEnter c x t) c x := by
  have hs : safeOpen t := safeOpen_of_control hc ht (safeOpen_of_mode he hm ho)
  exact ⟨(pairState_of_rd (rd_safeEnter hs safeKeeps_pairState c x) u).trans (pairState_of_control hc u), safeEnter_enteredSafe hs c x⟩
/-- The third transient of a pair within an operating hour enters SAFE. -/
theorem pairSelftest_third {u : Nat} {d : Dev} (h1 : 1 ≤ u) (h6 : u ≤ 6) (h : pairState d u = 3) (h2 : 2 ≤ (hourStamps d (4 + u)).length)
    (hp : d.hm.powerFail = false) (ho : safeOpen d) :
    pairState (pairSelftest u true true d) u = 0 ∧ enteredSafe (pairSelftest u true true d) scTRANSIENTS u := by
  have hn : 3 ≤ (hourStamps (pairStamped u d) (4 + u)).length :=
    hourStamps_stampAdd_third (d := inc (pairPut u 0 d) (Reg.KS_PAIR_TRANSIENTS u)) hp (by rwa [hourStamps_pairStamped])
  obtain ⟨hst, -, hm, hmode⟩ := pairPassed_spec h1 h6 d
  rw [pairSelftest_passes h, if_pos hn]
  obtain ⟨hs, he⟩ := safeEnter_pair (recordSev_control 4 Ev.PAIR_TRANSIENT 3 [.w u, .w 0] _) (recordSev_mode _ _ _ _ _) hm hmode ho scTRANSIENTS u u
  exact ⟨hs.trans hst, he⟩
/-- One copy has passed: the unit runs on it. -/
theorem pairSelftest_degrades {u : Nat} {d : Dev} (h1 : 1 ≤ u) (h6 : u ≤ 6) (h : pairState d u = 3) {a b : Bool} (hab : a ≠ b) :
    pairState (pairSelftest u a b d) u = if a then 1 else 2 := by
  have hd : ∀ c, pairState (cqFlush (degradedReview (record Ev.PAIR_DEGRADED [.w u, .w c] (pairPut u c d)))) u = pairState (pairPut u c d) u :=
    fun c => (pairState_of_control (cqFlush_control _) u).trans ((pairState_of_rd (rd_wrB_ne _ _ (by decide)) u).trans
      (pairState_of_control (record_control _ _ _) u))
  have hb : (a && b) = false ∧ (a || b) = true := by revert a b; decide
  obtain ⟨hboth, hone⟩ := hb
  rw [pairSelftest, if_neg (not_not_intro h), hboth, hone, if_neg (by decide), if_pos rfl, hd, pairState_pairPut h1 h6 (by split <;> decide)]
/-- Neither copy has passed: the unit has failed and the module enters SAFE. -/
theorem pairSelftest_fails {u : Nat} {d : Dev} (h1 : 1 ≤ u) (h6 : u ≤ 6) (h : pairState d u = 3) (ho : safeOpen d) :
    pairState (pairSelftest u false false d) u = 4 ∧ enteredSafe (pairSelftest u false false d) scPAIR_FAIL u := by
  have he : pairSelftest u false false d = safeEnter scPAIR_FAIL u (record Ev.PAIR_FAILED [.w u, .w 0] (pairPut u 4 d)) := by
    rw [pairSelftest, if_neg (not_not_intro h)]
    rfl
  have hm : modeOf (pairPut u 4 d) = modeOf d := rd_wr_ne _ _ (by decide)
  obtain ⟨hs, hsafe⟩ := safeEnter_pair (record_control Ev.PAIR_FAILED [.w u, .w 0] (pairPut u 4 d)) (record_mode _ _ _) hm rfl ho scPAIR_FAIL u u
  rw [he]
  exact ⟨hs.trans (pairState_pairPut h1 h6 (by decide) d), hsafe⟩

/-! ## The settlement -/

/-- Settles O30: each command of a resynchronisation by the lemma of its phase, and those of a pair by the pair's state. -/
theorem resyncAndPairs : Obligations.ResyncAndPairs := by
  unfold Obligations.ResyncAndPairs
  refine ⟨fun s p hs h => ?_, fun s u hs h1 h6 => ?_⟩
  · refine ⟨fun hph ho => ⟨fun hen hout hm => ?_, fun hn => ?_⟩, fun hw => ?_, fun hw => ?_, fun dropped hph => ⟨?_, fun block => ?_⟩,
      fun f dropped hph => ?_, fun upset ecc => ⟨fun hph => ?_, fun hph => ?_⟩, fun slack written hph => ?_, fun slack written h3 h7 => ?_,
      fun slack written ecc hph he => ?_, fun written hph hl hd => ⟨fun hbad => ?_, fun h2 hbad => ?_⟩, fun written hn => ?_, fun hph => ?_,
      fun hph => ?_, fun hover => ?_, fun hover => ?_, fun hph hen hout hm ho => ?_, fun hph => ?_,
      fun idle gap written hph => ⟨fun hg => ?_, fun hg => ?_⟩, fun idle gap written hph => ?_⟩
    -- RESYNC_START
    · rw [answers_of (i := .resyncStart) rfl hs]
      exact resyncStart_phase h ho hph ((resyncMay_iff _ _).mpr ⟨hen, hout, hm⟩)
    · rw [answers_of (i := .resyncStart) rfl hs]
      exact resyncStart_refused h ho hph (resyncMay_refused hn)
    -- RESYNC_HEALTH_WAIT_EXPIRY
    · rw [answers_of (i := .resyncHealthWaitExpiry) rfl hs, healthWaitExpiry_eq h, if_pos hw]
      exact resyncOut_spec p 8 3 s.dev
    · rw [answers_of (i := .resyncHealthWaitExpiry) rfl hs, healthWaitExpiry_eq h, if_neg hw]
    -- RESYNC_SELFTEST_DONE
    · rw [answers_of (i := .resyncSelftestDone none dropped) rfl hs]
      exact resyncSelftestDone_passes h hph dropped
    · rw [answers_of (i := .resyncSelftestDone (some block) dropped) rfl hs]
      exact resyncSelftestDone_fails h hph block dropped
    · rw [answers_of (i := .resyncSelftestDone f dropped) rfl hs]
      exact resyncSelftestDone_idle hph f dropped
    -- RESYNC_CODE_CHECK_DONE
    · rw [answers_of (i := .resyncCodeCheckDone upset ecc) rfl hs]
      exact codeCheckDone_spec h hph upset ecc
    · rw [answers_of (i := .resyncCodeCheckDone upset ecc) rfl hs]
      exact codeCheckDone_idle h hph upset ecc
    -- RESYNC_COPY_TICK
    · rw [answers_of (i := .resyncCopyTick slack written false) rfl hs]
      exact copyTick_spec hph slack written
    · rw [answers_of (i := .resyncCopyTick slack written true) rfl hs, copyTick_aborts h3 h7]
      exact resyncAbort_aborted h (by decide)
    · rw [answers_of (i := .resyncCopyTick slack written ecc) rfl hs]
      exact copyTick_idle hph he slack written
    -- RESYNC_PASS_END
    · rw [answers_of (i := .resyncPassEnd written) rfl hs]
      exact passEnd_goes h hph hl hd hbad
    · rw [answers_of (i := .resyncPassEnd written) rfl hs]
      exact passEnd_aborts h hph hl hd h2 hbad
    · rw [answers_of (i := .resyncPassEnd written) rfl hs]
      exact passEnd_idle h hn written
    -- RESYNC_FINAL_WAIT_EXPIRY
    · rw [answers_of (i := .resyncFinalWaitExpiry) rfl hs]
      exact finalWaitExpiry_again hph
    · rw [answers_of (i := .resyncFinalWaitExpiry) rfl hs]
      exact finalWaitExpiry_idle hph
    -- RESYNC_TIME_LIMIT
    · rw [answers_of (i := .resyncTimeLimit) rfl hs, resyncTimeLimit_over hover]
      exact resyncAbort_aborted h (by decide)
    · rw [answers_of (i := .resyncTimeLimit) rfl hs]
      exact resyncTimeLimit_idle hover
    -- RESYNC_RETRY_WAIT_EXPIRY
    · rw [answers_of (i := .resyncRetryWaitExpiry) rfl hs]
      exact retryEnd_phase h ho hph ((resyncMay_iff _ _).mpr ⟨hen, hout, hm⟩)
    · rw [answers_of (i := .resyncRetryWaitExpiry) rfl hs]
      exact retryEnd_idle hph
    -- RESYNC_FINAL
    · rw [answers_of (i := .resyncFinal idle gap written) rfl hs]
      exact resyncFinal_rejoins h hph hg
    · rw [answers_of (i := .resyncFinal idle gap written) rfl hs, resyncFinal_waits h hph hg]
      exact ⟨rfl, rfl⟩
    · rw [answers_of (i := .resyncFinal idle gap written) rfl hs]
      exact resyncFinal_idle h hph idle gap written
  · refine ⟨fun h => ?_, fun h => ?_, fun a b h => ?_, fun h => ⟨fun h2 => ?_, fun h2 hp ho => ?_, ?_, ?_, fun ho => ?_⟩⟩
    -- PAIR_MISMATCH
    · rw [answers_of (i := .pairMismatch u) rfl hs]
      exact pairMismatch_halts h1 h6 h
    · rw [answers_of (i := .pairMismatch u) rfl hs]
      exact pairMismatch_idle h
    -- PAIR_SELFTEST_DONE
    · rw [answers_of (i := .pairSelftestDone u a b) rfl hs]
      exact pairSelftest_idle h a b
    · rw [answers_of (i := .pairSelftestDone u true true) rfl hs]
      exact pairSelftest_resumes h1 h6 h h2
    · rw [answers_of (i := .pairSelftestDone u true true) rfl hs]
      exact pairSelftest_third h1 h6 h h2 hp ho
    · rw [answers_of (i := .pairSelftestDone u true false) rfl hs]
      exact pairSelftest_degrades h1 h6 h (by decide)
    · rw [answers_of (i := .pairSelftestDone u false true) rfl hs]
      exact pairSelftest_degrades h1 h6 h (by decide)
    · rw [answers_of (i := .pairSelftestDone u false false) rfl hs]
      exact pairSelftest_fails h1 h6 h ho

end Sys2Proof.Machine
end

section
/-!
SUPPORT. A tick that judges a station which no image of R180 has, and so writes schedule time: the refutation of O31.
-/
namespace Sys2Proof.Machine

/-! ## Registers are kept by address, and no hypothesis of O31 bounds a station's number (R180) -/

/-- The number of a station, past the 1023 of R180, whose bit of CYC_STN_AGED would be bit 0 of TU_SCHED. -/
def agedStation : Nat := 32 * 0x3EE8
theorem agedStation_aged : fldKey (Reg.CYC_STN_AGED (agedStation / 32)) = fldKey Reg.TU_SCHED := by decide
/-- The registers of a module in RUN with valid schedule time, cycles running and class 0 due at every tick. -/
def agedRegs : List (Fld × Nat) :=
  [(Reg.MCTL_MODE_MODE, mRUN), (Reg.TU_STATUS_VALID, 1), (Reg.CYC_STATUS_STATE, 1), (Reg.CYC_CLS_CFG_EN 0, 1), (Reg.CYC_CLS_CFG_PERIOD 0, 1)]
/-- The image gives class 0 that station, of which no data has come. -/
def agedDev : Dev :=
  { agedRegs.foldl (fun d x => wr d x.1 x.2) Dev.rest with img := { Image.none with stations := [(agedStation, ⟨0, 3, [], []⟩)] } }
theorem agedDev_running : Running ⟨agedDev, []⟩ := rfl
theorem schedValid_agedDev : schedValid agedDev = true := by decide
/-- The tick is to bring schedule time to the start of tick 1. -/
theorem tickStart_agedDev : max (schedTime agedDev) ((rd agedDev Reg.CYC_TICK + 1) * 125000) = 125000 := by decide
/-- The cycle of class 0 that starts at the tick finds the station aged: the bit it sets makes schedule time a nanosecond more. -/
theorem sched_tick_agedDev : rd (tick agedDev) Reg.TU_SCHED = 125001 := by decide +kernel

/-- Refutes O31: it does not bound the numbers of the image's stations, and at the start of a cycle the AGED bit of station 0x7DD00, which lies
on TU_SCHED, moves schedule time off the boundary. A bound of 1024 on the stations (R180) would exclude the counterexample. -/
theorem not_ticksAndHousekeeping : ¬ Obligations.TicksAndHousekeeping := by
  unfold Obligations.TicksAndHousekeeping
  intro h
  obtain ⟨htick, -⟩ := h ⟨agedDev, []⟩ agedDev_running
  have ha := htick schedValid_agedDev
  rw [answers_of (i := .tick) (f := tick) rfl agedDev_running] at ha
  obtain ⟨-, hsched, -⟩ := ha
  rw [sched_tick_agedDev, tickStart_agedDev] at hsched
  exact absurd hsched (by decide)

end Sys2Proof.Machine
end

section
/-!
SUPPORT. CHANGE_SET_REVERT, COMMIT, CANCEL and STATUS: what each does with and without a change set to act on: O35.
-/
namespace Sys2Proof.Machine

/-! ## The image log (R207, R213) -/

/-- An entry put into the image log stands in it, whether it is a new one or takes an older form's place. -/
theorem mem_logPut (e d) : e ∈ (logPut e d).store.log := by
  have hlog : (logPut e d).store.log = if d.store.log.any fun x => logCmd x == logCmd e then
      mapIf (fun x => logCmd x == logCmd e) (fun _ => e) d.store.log else d.store.log ++ [e] := rfl
  rw [hlog]
  split
  · next h =>
    obtain ⟨x, hx, hxe⟩ := List.any_eq_true.mp h
    exact List.mem_map.mpr ⟨x, hx, if_pos hxe⟩
  · exact List.mem_append_right _ (List.mem_singleton_self e)
theorem cmdOf_cmdWait {d : Dev} {c : HiCmd} (h : cmdOf d c.seq = some c) : cmdOf (cmdWait c.seq d) c.seq = some { c with phase := .waiting } :=
  cmdOf_cmdSet h (f := fun c => { c with phase := .waiting }) fun _ => rfl

/-! ## REVERT (R213) -/

/-- The change in progress once a REVERT has begun: staged already, for the versions that it goes back to are still there. -/
def revertBegun (c : HiCmd) (u : ChgUnit) : ChgUnit :=
  { u with state := 2, cs := none, reverting := true, cmd := c.seq, lead := leadOf c.desc, partner := 0, fetched := true
           ready := 0, failed := 0, stampBad := false, shown := 0 }
theorem changeRevert_unavailable {d : Dev} (h : d.chg.switched = none) (c) :
    changeRevert c d = cmdFinal c.seq St.REVERT_UNAVAILABLE (changeStatus d) d := by
  unfold changeRevert
  rw [h]
/-- A REVERT enters the image log, is told to the partner but by a standby, and waits. -/
theorem changeRevert_begins {d : Dev} {w : Switched} (h : d.chg.switched = some w) (c) : ∃ o, changeRevert c d =
    cmdWait c.seq (chgSet (revertBegun c) { logPut (.change 0 c.seq true false w.cs) d with out := o }) := by
  unfold changeRevert
  rw [h]
  dsimp only
  split
  · exact ⟨d.out, rfl⟩
  · rw [loenpa_out]
    exact ⟨_, rfl⟩

/-! ## COMMIT and CANCEL (R214, R215) -/

theorem isOp_arg {op n : Nat} {x : Desc} (h : isOp op n x = true) : argB x 0 = n := by
  simp only [isOp, Bool.and_eq_true, beq_iff_eq] at h
  exact h.2
theorem changeAct_toClass {d : Dev} {k : Nat} (h : chgClass d = some k) (c) : changeAct c d = cmdToClass c.seq k d := by
  unfold changeAct
  rw [h]
theorem changeAct_atOnce {d : Dev} (h : chgClass d = none) (c) : changeAct c d = chgAct c d := by
  unfold changeAct
  rw [h]
theorem not_revertible_of_chgClass {d : Dev} (h : chgClass d = none) : d.chg.switched = none := by
  unfold chgClass at h
  split at h
  · cases h
  · exact Option.map_eq_none_iff.mp h
theorem revertLost_idle {d : Dev} (h : chgPending d = false) : revertLost d = d :=
  if_neg fun hn => hn.1 (by simpa [chgPending] using h)
theorem chgCommit_idle {d : Dev} (h : d.chg.switched = none) : chgCommit d = d := by simp [chgCommit, h]
theorem chgCancel_idle {d : Dev} (h : chgPending d = false) : chgCancel d = (St.CANCEL_TOO_LATE, d) := by simp [chgCancel, h]
section
variable {d : Dev} {c : HiCmd} (hk : chgClass d = none) (hp : chgPending d = false)
include hk hp
/-- With nothing pending and nothing revertible a COMMIT has nothing to do. -/
theorem changeAct_commit_idle (hc : isOp 4 2 c.desc = true) : changeAct c d = cmdFinal c.seq St.OK (changeStatus d) d := by
  rw [changeAct_atOnce hk, chgAct, if_pos (isOp_arg hc), revertLost_idle hp, chgCommit_idle (not_revertible_of_chgClass hk)]
/-- With nothing pending a CANCEL is too late. -/
theorem changeAct_cancel_idle (hc : isOp 4 3 c.desc = true) : changeAct c d = cmdFinal c.seq St.CANCEL_TOO_LATE (changeStatus d) d := by
  rw [changeAct_atOnce hk, chgAct, if_neg (by rw [isOp_arg hc]; decide), chgCancel_idle hp]
end

/-- Settles O35: a REVERT by what is revertible, COMMIT and CANCEL by the switch class, STATUS as an end with the record. -/
theorem changeSetEnds : Obligations.ChangeSetEnds := by
  unfold Obligations.ChangeSetEnds
  intro s c hs ht
  obtain ⟨hd, -⟩ := id ht
  refine ⟨fun h hn => ?_, fun w h hw => ?_, fun hk hp => ⟨fun h => ?_, fun h => ?_⟩, fun k hk => ⟨fun h => ?_, fun h => ?_⟩, fun h => ?_⟩
  · exact answers_final (f := changeRevert) rfl hs ht h (changeRevert_unavailable hn c)
  · obtain ⟨o, ho⟩ := changeRevert_begins hw c
    rw [answers_turn (f := changeRevert) rfl hs ht h, ho]
    exact ⟨rfl, rfl, rfl, rfl, hw, mem_logPut _ s.dev, cmdOf_cmdWait (dueOf_found hd), rfl, rfl, rfl, fun _ => rfl⟩
  · exact answers_final (f := changeAct) rfl hs ht h (changeAct_commit_idle hk hp h)
  · exact answers_final (f := changeAct) rfl hs ht h (changeAct_cancel_idle hk hp h)
  · rw [answers_turn (f := changeAct) rfl hs ht h, changeAct_toClass hk]
    exact cmdToClass_phaseOnly (dueOf_found hd) k
  · rw [answers_turn (f := changeAct) rfl hs ht h, changeAct_toClass hk]
    exact cmdToClass_phaseOnly (dueOf_found hd) k
  · exact answers_final (f := changeStatusRun) rfl hs ht h rfl

end Sys2Proof.Machine
end

section
/-!
SUPPORT. CHANGE_SET_LOAD to CARRYOVER_DONE: a change set begun, fetched, staged by each Pier, stored by the partner, carried over: O34.
-/
namespace Sys2Proof.Machine

/-! ## LOAD (R206, R207) -/

/-- The change in progress once the staging of a LOAD has begun. -/
def loadBegun (c : HiCmd) (cs : ChangeSet) (u : ChgUnit) : ChgUnit :=
  { u with state := 1, cs := some cs, reverting := false, cmd := c.seq, lead := leadOf c.desc, partner := 0, fetched := false
           ready := 0, failed := 0, stampBad := false, shown := 0, agreed := 1, accepted := none }
theorem changeLoad_absent {again : Option ChangeSet} {c : HiCmd} {d : Dev} (h : loadContent d c.seq again = none) : changeLoad again c d = d := by
  unfold changeLoad
  rw [h]
theorem changeLoad_begins {again : Option ChangeSet} {c : HiCmd} {d : Dev} {cs} (h : loadContent d c.seq again = some cs) :
    changeLoad again c d = cmdWait c.seq (chgSet (loadBegun c cs) d) := by
  unfold changeLoad
  rw [h]
  rfl

/-! ## CHANGE_PAYLOAD_FETCHED (R207) -/

theorem changeFetched_there {d : Dev} {c : HiCmd} (h : cmdOf d d.chg.cmd = some c) (hl : c.payload.length = c.desc.payLen) (good) :
    changeFetched good d = chgFetched good d := by
  unfold changeFetched
  rw [h]
  exact if_pos hl
theorem chgFetched_idle {d : Dev} (h : d.chg.state ≠ 1 ∨ d.chg.fetched = true) (good) : chgFetched good d = d := by
  unfold chgFetched
  split
  · rfl
  · exact if_pos h
/-- Nothing waits for a payload: whatever command there is, nothing changes. -/
theorem changeFetched_idle {d : Dev} (h : d.chg.state ≠ 1 ∨ d.chg.fetched = true) (good) : changeFetched good d = d := by
  unfold changeFetched
  split
  · rfl
  · split
    · exact chgFetched_idle h good
    · rfl
section
variable {d : Dev} {cs : ChangeSet} (h : d.chg.state = 1) (hf : d.chg.fetched = false) (hcs : d.chg.cs = some cs)
include h hf hcs
/-- A good payload is noted, with the wait for a partner where there is one, and its change set enters the image log. -/
theorem chgFetched_good : ∃ n o, chgFetched true d =
    { logPut (.change 0 d.chg.cmd false false cs) (chgSet (fun c => { c with fetched := true, partner := n }) d) with out := o } := by
  unfold chgFetched
  rw [hcs]
  refine ⟨b2n (linkUp d && flag d Reg.DX_PEER_VALID && rd d Reg.DX_PEER_MODE == mSTANDBY && !simplex d), ?_⟩
  dsimp only
  rw [if_neg (by simp [h, hf]), if_neg (by decide)]
  split
  · rw [loenpa_out]
    exact ⟨_, rfl⟩
  · exact ⟨d.out, rfl⟩
theorem chgFetched_bad : chgFetched false d = chgFail St.CHANGE_HASH 2 d := by
  unfold chgFetched
  rw [hcs]
  dsimp only
  rw [if_neg (by simp [h, hf]), if_pos (by decide)]
end
/-- A change that fails is noted, dropped, and its command ended with the status. -/
theorem chgFail_eq (st reason d) : ∃ x r, chgFail st reason d = cmdFinal d.chg.cmd st r (chgDrop x) ∧
    answerView x = answerView d ∧ jHead x = jHead d :=
  ⟨record Ev.CHANGE_CANCELLED [.q (chgId d), .w reason] d, _, rfl, record_answerView _ _ _, rd_record _ _ _ _ (by decide) (by decide)⟩
theorem chgFail_finalAt {d : Dev} {c : HiCmd} (h : cmdOf d d.chg.cmd = some c) (ha : c.again = false) (hp : d.hm.powerFail = false) (st reason) :
    ∃ r, finalAt (chgFail st reason d) (jHead d) c st r := by
  obtain ⟨x, r, he, hv, hh⟩ := chgFail_eq st reason d
  have hseq : c.seq = d.chg.cmd := beq_iff_eq.mp (List.find?_some (p := fun x : HiCmd => x.seq == d.chg.cmd) h)
  have hc : cmdOf (chgDrop x) c.seq = some c := (cmdOf_of_cmds (t := chgDrop x) (answerView_cmds (t := x) hv) _).trans (hseq ▸ h)
  have hpx : (chgDrop x).hm.powerFail = false := (congrArg (·.hm.powerFail) hv).trans hp
  rw [he, ← hseq, ← hh]
  exact ⟨r, cmdFinal_finalAt hc hpx ha st r⟩
/-- Of a change that fails nothing stays staged; the image in force stays. -/
theorem chgFail_drops (st reason d) : (chgFail st reason d).chg.state = 0 ∧ (chgFail st reason d).chg.cs = none ∧
    (chgFail st reason d).img = d.img := by
  obtain ⟨x, r, he, hv, -⟩ := chgFail_eq st reason d
  have hf := cmdFinal_hostView d.chg.cmd st r (chgDrop x)
  have hchg : (cmdFinal d.chg.cmd st r (chgDrop x)).chg = (chgDrop x).chg := congrArg (·.chg) hf
  have himg : (cmdFinal d.chg.cmd st r (chgDrop x)).img = x.img := congrArg (·.img) hf
  rw [he, hchg, himg]
  exact ⟨rfl, rfl, congrArg (·.img) hv⟩

/-! ## CHANGE_STAGED (R207) -/

/-- Every Pier in service is among those that are READY. -/
def allReady (ready : Nat) (d : Dev) : Bool := (servicePiers d).all fun q => bitOf ready (pierIdx q)
/-- The change set is staged once every Pier in service is READY. -/
def stagedReview (d : Dev) : Dev := if allReady d.chg.ready d = true then chgSet (fun c => { c with state := 2 }) d else d
theorem stagedReview_eq {d : Dev} (h : d.chg.state = 1) :
    stagedReview d = chgSet (fun c => { c with state := if allReady d.chg.ready d = true then 2 else 1 }) d := by
  unfold stagedReview
  split
  · rfl
  · rw [← h]
    rfl
/-- The memory of a Pier that has staged the new versions; code pages carry no dirty marks (R149). -/
def versionsStaged (cs : Option ChangeSet) (u : PierUnit) : PierUnit := { pierFill ((cs.map (·.init)).getD []) u with dirty := u.dirty }
theorem chgStaged_idle {p : Pier} {d : Dev} (h : ¬(d.chg.state = 1 ∧ d.chg.fetched = true ∧ inService d p = true)) (result) :
    chgStaged p result d = d := by
  refine if_pos ?_
  by_cases hs : d.chg.state = 1
  · by_cases hf : d.chg.fetched = true
    · exact .inr (.inr (by simpa [hs, hf] using h))
    · exact .inr (.inl (by simpa using hf))
  · exact .inl hs
section
variable {p : Pier} {d : Dev} (h : d.chg.state = 1 ∧ d.chg.fetched = true ∧ inService d p = true)
include h
/-- A Pier that is READY holds the new versions beside the old. -/
theorem chgStaged_ready : chgStaged p 0 d =
    chgSet (fun c => { c with state := if allReady (bitSet d.chg.ready (pierIdx p)) d = true then 2 else 1 })
      (prSet p (versionsStaged d.chg.cs) (chgSet (fun c => { c with ready := bitSet c.ready (pierIdx p) }) d)) := by
  obtain ⟨hs, hf, hp⟩ := h
  have he : chgStaged p 0 d =
      stagedReview (prSet p (versionsStaged d.chg.cs) (chgSet (fun c => { c with ready := bitSet c.ready (pierIdx p) }) d)) :=
    if_neg (by simp [hs, hf, hp])
  exact he.trans (stagedReview_eq hs)
/-- A Pier that failed is noted, and whether it failed for its stamp. -/
theorem chgStaged_failed {result : Nat} (hr : result ≠ 0) : chgStaged p result d =
    chgSet (fun c => { c with state := if allReady d.chg.ready d = true then 2 else 1 })
      (chgSet (fun c => { c with failed := bitSet c.failed (pierIdx p), stampBad := c.stampBad || result == 1 }) d) := by
  obtain ⟨hs, hf, hp⟩ := h
  have he : chgStaged p result d =
      stagedReview (chgSet (fun c => { c with failed := bitSet c.failed (pierIdx p), stampBad := c.stampBad || result == 1 }) d) := by
    unfold chgStaged
    rw [if_neg (by simp [hs, hf, hp])]
    simp only [hr, if_false]
    rfl
  exact he.trans (stagedReview_eq hs)
end

/-! ## CARRYOVER_DONE (R205, R210) -/

theorem triGet_prSet_ne {p q : Pier} (h : q ≠ p) (f d) : triGet (prSet p f d).prs q = triGet d.prs q := by
  rw [prSet_prs, triGet_triSet, if_neg h.symm]
theorem carryoverDone_out {p : Pier} {d : Dev} (h : inService d p = false) (cls done) : carryoverDone p cls done d = d :=
  if_pos (by simp [h])
/-- An event that carries a Pier, recorded after changes that the recorder does not read, enters as it would have before them. -/
theorem recordP_entered_same {d e : Dev} (h : recorderSame d e) {c : Nat} (ho : intakeOpen d c (sevOf c)) (p l) :
    entered d (recordP c p l e) c (sevOf c) (srcOf c) (pierIdx p) l := by
  have he : entered e (recordP c p l e) c (sevOf c) (srcOf c) (pierIdx p) l := intake_entered (intakeOpen_same h ho) _ _ _
  rwa [entered, stamp_same h, h.1] at he
/-- The report of a late carry-over: of one that the switch tick found running, with its overrun; of one left open at a control exchange there
is none (R210, R211). -/
def carryLateNoted (p : Pier) (cls : Nat) (since : Option Nat) (d : Dev) : Dev :=
  match since with
  | none => d
  | some t0 => recordP Ev.CARRYOVER_LATE p [.w cls, .w (pierIdx p), .w ((d.clk - t0) / 1000)] d
theorem carryLateNoted_shape (p cls since d) : carryLateNoted p cls since d =
    { d with regs := (carryLateNoted p cls since d).regs, ev := (carryLateNoted p cls since d).ev } := by
  cases since with
  | none => rfl
  | some t0 => exact recordP_shape _ _ _ _
theorem carryLateNoted_regsBut (p cls since d) : regsBut evCounts d (carryLateNoted p cls since d) := by
  cases since with
  | none => exact fun _ _ => rfl
  | some t0 => exact recordP_regsBut _ _ _ _
/-- The change once an open carry-over has ended. -/
def lateEnded (k us : Nat) (c : ChgUnit) : ChgUnit := { c with late := mdel c.late k, lastMeasured := max c.lastMeasured us }
/-- The variables of a class carried over in a Pier after the switch, by the plan that the switch kept (R210). -/
def lateCarried (p : Pier) (cls : Nat) (conv : NMap (List Byte)) (d : Dev) : Dev :=
  match d.chg.carrying with
  | none => d
  | some plan => prSet p (carryClass plan.2.1 plan.2.2 plan.1 cls conv) d
theorem lateCarried_shape (p cls conv d) : lateCarried p cls conv d = { d with prs := (lateCarried p cls conv d).prs } := by
  unfold lateCarried
  split <;> rfl
/-- What a late carry-over does: the change and the Piers move on, and its report follows. -/
theorem carryLateNoted_spec {d x : Dev} {chg : ChgUnit} (hx : x = { d with chg := chg, prs := x.prs }) (p cls since) :
    let t := carryLateNoted p cls since x
    t.chg = chg ∧
      (∀ t0, since = some t0 → intakeOpen d Ev.CARRYOVER_LATE (sevOf Ev.CARRYOVER_LATE) →
        entered d t Ev.CARRYOVER_LATE (sevOf Ev.CARRYOVER_LATE) (srcOf Ev.CARRYOVER_LATE) (pierIdx p)
          [.w cls, .w (pierIdx p), .w ((d.clk - t0) / 1000)]) ∧
      regsBut evCounts d t ∧ reportsOnly { d with chg := t.chg, prs := t.prs } t := by
  have hshape := carryLateNoted_shape p cls since x
  have hchg : (carryLateNoted p cls since x).chg = chg := (congrArg (·.chg) hshape).trans (congrArg (·.chg) hx)
  have hprs : (carryLateNoted p cls since x).prs = x.prs := congrArg (·.prs) hshape
  have hregs : x.regs = d.regs := congrArg (·.regs) hx
  have hclk : x.clk = d.clk := congrArg (·.clk) hx
  refine ⟨hchg, fun t0 ht ho => ?_, fun g hg => ?_, ?_⟩
  · subst ht
    rw [← hclk]
    exact recordP_entered_same ⟨congrArg (·.ev) hx, fun f _ => rd_regs hregs f⟩ ho _ _
  · exact (carryLateNoted_regsBut p cls since x g hg).trans (rd_regs hregs g)
  · rw [hchg, hprs, ← hx, reportsOnly, hshape]
section
variable {p : Pier} {d : Dev} (hp : inService d p = true)
include hp
section
variable {cs : ChangeSet} {plan : List MapEntry × NMap ImgVar × NMap ImgVar} (h : d.chg.state = 3) (hcs : chgCs d = some cs)
  (hplan : carryPlan d = some plan)
include h hcs hplan
/-- While the change is armed: the carry-over of an affected class whose last old cycle has ended, and no other. -/
theorem carryoverDone_armed (cls done) : carryoverDone p cls done d =
    if cls ∈ csAffected cs ∧ lastOldEnded d p (csSwitch d cs) cls = true then
      chgSet (fun c => { c with carried := mput c.carried (cls * 4 + pierIdx p) done.us, measured := max c.measured done.us })
        (prSet p (carryClass plan.2.1 plan.2.2 plan.1 cls done.conv) d)
    else d := by
  unfold carryoverDone
  simp only [hp, h, hcs, hplan, if_true]
  by_cases ha : cls ∈ csAffected cs ∧ lastOldEnded d p (csSwitch d cs) cls = true
  · rw [if_pos ha]
    simp [ha.1, ha.2]
  · rw [if_neg ha]
    refine (if_neg (by decide)).trans (if_pos ?_)
    simpa [Decidable.imp_iff_not_or] using ha
end
section
variable (h : d.chg.state ≠ 3)
include h
theorem carryoverDone_idle {cls : Nat} (hl : mget d.chg.late (cls * 4 + pierIdx p) = none) (done) : carryoverDone p cls done d = d := by
  unfold carryoverDone
  simp [hp, h, hl]
/-- After the switch: the end of a carry-over that the switch left open is noted, and its variables are carried over. -/
theorem carryoverDone_late {cls : Nat} {since : Option Nat} (hl : mget d.chg.late (cls * 4 + pierIdx p) = some since) (done) :
    carryoverDone p cls done d =
      carryLateNoted p cls since (lateCarried p cls done.conv (chgSet (lateEnded (cls * 4 + pierIdx p) done.us) d)) := by
  unfold carryoverDone
  simp only [hp, h, hl, if_false]
  cases since <;> rfl
end
end

/-- Settles O34: each command by what the change in progress waits for. -/
theorem changeSetStages : Obligations.ChangeSetStages := by
  unfold Obligations.ChangeSetStages
  intro s hs
  refine ⟨fun c again ht ho => ?_, fun c cs h hf hcs hc hl => ⟨?_, fun ha hp => ?_⟩, fun h good => ?_, fun p result => ?_, ?_,
    fun p cls done hp => ?_, fun p cls done cs plan hp h hcs hplan => ?_, fun p cls done hp h => ?_⟩
  -- CHANGE_SET_LOAD
  · obtain ⟨hd, -⟩ := id ht
    split
    · next hn =>
      rw [answers_turn (f := changeLoad again) rfl hs ht ho]
      exact changeLoad_absent hn
    · next cs hcs =>
      rw [answers_turn (f := changeLoad again) rfl hs ht ho, changeLoad_begins hcs]
      exact ⟨rfl, rfl, rfl, rfl, rfl, rfl, rfl, cmdOf_cmdWait (dueOf_found hd), rfl⟩
  -- CHANGE_PAYLOAD_FETCHED
  · obtain ⟨n, o, he⟩ := chgFetched_good h hf hcs
    rw [answers_of (i := .changePayloadFetched true) rfl hs, changeFetched_there hc hl, he]
    exact ⟨rfl, h, hcs, mem_logPut _ (chgSet (fun c => { c with fetched := true, partner := n }) s.dev), rfl, rfl⟩
  · rw [answers_of (i := .changePayloadFetched false) rfl hs, changeFetched_there hc hl, chgFetched_bad h hf hcs]
    obtain ⟨hstate, hnone, himg⟩ := chgFail_drops St.CHANGE_HASH 2 s.dev
    exact ⟨hstate, hnone, himg, chgFail_finalAt hc ha hp _ _⟩
  · rw [answers_of (i := .changePayloadFetched good) rfl hs]
    exact changeFetched_idle h good
  -- CHANGE_STAGED
  · split
    · next h =>
      split
      · next hr =>
        subst hr
        rw [answers_of (i := .changeStaged p 0) rfl hs, chgStaged_ready h]
        exact ⟨rfl, rfl, fun q hq => triGet_prSet_ne hq _ _⟩
      · next hr =>
        rw [answers_of (i := .changeStaged p result) rfl hs, chgStaged_failed h hr]
        rfl
    · next h =>
      rw [answers_of (i := .changeStaged p result) rfl hs]
      exact chgStaged_idle h result
  -- CHANGE_PARTNER_STORED and CHANGE_PARTNER_TIMEOUT
  · split
    · next h =>
      rw [answers_of (i := .changePartnerStored) rfl hs, answers_of (i := .changePartnerTimeout) rfl hs]
      exact ⟨if_pos h, if_pos h⟩
    · next h =>
      rw [answers_of (i := .changePartnerStored) rfl hs, answers_of (i := .changePartnerTimeout) rfl hs]
      exact ⟨if_neg h, if_neg h⟩
  -- CARRYOVER_DONE
  · rw [answers_of (i := .carryoverDone p cls done) rfl hs]
    exact carryoverDone_out hp cls done
  · simp only [answers_of (i := .carryoverDone p cls done) (f := carryoverDone p cls done) rfl hs]
    rw [carryoverDone_armed hp h hcs hplan]
    split
    · exact ⟨rfl, triGet_prSet_same _ _ _, rfl, fun q hq => triGet_prSet_ne hq _ s.dev⟩
    · rfl
  · split
    · next hl =>
      rw [answers_of (i := .carryoverDone p cls done) rfl hs]
      exact carryoverDone_idle hp h hl done
    · next since hl =>
      rw [answers_of (i := .carryoverDone p cls done) rfl hs, carryoverDone_late hp h hl]
      exact carryLateNoted_spec (lateCarried_shape _ _ _ _) p cls since

end Sys2Proof.Machine
end

section
/-!
SUPPORT. The journal's registers, the START entry of a host command, and what ends or waits behind that entry (R349 to R351).
-/
namespace Sys2Proof.Machine

/-! ## What a journal entry writes (R349, R350) -/

/-- The fields that a journal entry may write. -/
def journalFields : List Fld :=
  [Reg.HI_JOURNAL_HEAD, Reg.HI_JOURNAL_TAIL, Reg.HI_JOURNAL_FREE_ENTRIES, Reg.HI_STATUS_JOURNAL_LOW] ++ evCounts
theorem jReview_regsBut (d) : regsBut ([Reg.HI_JOURNAL_TAIL, Reg.HI_JOURNAL_FREE_ENTRIES, Reg.HI_STATUS_JOURNAL_LOW] ++ evCounts) d
    (jReview d) := by
  intro g hg
  simp only [List.cons_append, List.nil_append, List.forall_mem_cons] at hg
  obtain ⟨htail, hfree, hlow, hev⟩ := hg
  dsimp only [jReview]
  rw [rd_wrB_ne _ _ hlow, rd_wr_ne _ _ hfree, rd_wr_ne _ _ htail]
  split
  · exact record_regsBut _ _ _ g hev
  · rfl
theorem jHead_jReview (d) : jHead (jReview d) = jHead d := jReview_regsBut d _ (by decide)
theorem jPut_running {d : Dev} (h : d.hm.powerFail = false) (s e) :
    jPut s e d = jReview (if jHead d ≤ s then wr (jWritten s e d) Reg.HI_JOURNAL_HEAD (s + 1) else jWritten s e d) := by
  rw [jPut, if_neg (by simp [h])]
  rfl
theorem jPut_regsBut (s e d) : regsBut journalFields d (jPut s e d) := by
  intro g hg
  obtain ⟨hhead, hrest⟩ := List.forall_mem_cons.mp hg
  by_cases h : d.hm.powerFail = true
  · rw [jPut_stopped h]
  · rw [jPut_running (by simpa using h)]
    refine (jReview_regsBut _ g hrest).trans ?_
    split
    · exact rd_wr_ne _ _ hhead
    · rfl
theorem jAppend_regs (e d) : (jAppend e d).regs = (jPut (jHead d) e d).regs := by
  unfold jAppend
  dsimp only
  split <;> rfl
theorem jAppend_regsBut (e d) : regsBut journalFields d (jAppend e d) := fun g hg =>
  (rd_regs (jAppend_regs e d) g).trans (jPut_regsBut _ e d g hg)
/-- An entry at the head moves the head on, while its number does not wrap. -/
theorem jHead_jAppend {d : Dev} (hp : d.hm.powerFail = false) (hj : jHead d + 1 < 2 ^ 64) (e) : jHead (jAppend e d) = jHead d + 1 := by
  rw [jHead, rd_regs (jAppend_regs e d), jPut_running hp, if_pos (le_refl _)]
  exact (jHead_jReview _).trans ((rd_wr_same _ _ _).trans (trunc_of_lt hj))
/-- An entry takes the place of no other but the one a whole journal behind it. -/
theorem jAppend_keeps {d : Dev} {s : Nat} (hs : s ≠ jHead d) (hold : s + jSlots ≠ jHead d) (e) :
    mget (jAppend e d).hi.journal s = mget d.hi.journal s := by
  rw [answerView_journal (jAppend_answerView e d)]
  by_cases h : d.hm.powerFail = true
  · rw [jPut_stopped h]
  · rw [answerView_journal (d := jWritten (jHead d) e d) (jPut_open (by simpa using h) _ e)]
    refine (mget_mput_ne _ _ (Ne.symm hs)).trans ?_
    split
    · exact mget_mdel_ne _ (by omega)
    · rfl

/-! ## What the end of a command leaves of the registers (R342, R343, R349) -/

theorem rd_ite (p : Prop) [Decidable p] (a b : Dev) (g) : rd (if p then a else b) g = if p then rd a g else rd b g := apply_ite (rd · g) p a b
/-- A field that the end of a command does not write: none of the journal, of the commands' count, or of a completion ring's state. -/
def endFree (g : Fld) : Prop :=
  (∀ f ∈ Reg.HI_STATUS_OPEN :: journalFields, fldKey f ≠ fldKey g) ∧
    ∀ q, fldKey (Reg.HI_CQ_STATE_TAIL q) ≠ fldKey g ∧ fldKey (Reg.HI_CQ_STATE_PHASE q) ≠ fldKey g
section
variable {g : Fld} (hg : endFree g)
include hg
theorem rd_cqWrite_free (q c d) : rd (cqWrite q c d) g = rd d g := by
  obtain ⟨-, hr⟩ := hg
  obtain ⟨ht, hp⟩ := hr q
  simp [cqWrite, cqMessage, rd_ite, rd_wr_ne _ _ ht, rd_wr_ne _ _ hp]
theorem rd_cqFlushList_free (l kept d) : rd (cqFlushList l kept d) g = rd d g := by
  induction l generalizing kept d with
  | nil => rfl
  | cons e r ih =>
    unfold cqFlushList
    split
    · rw [ih, rd_cqWrite_free hg]
    · exact ih _ d
theorem rd_cqFlush_free (d) : rd (cqFlush d) g = rd d g := by
  rw [cqFlush, rd_cqFlushList_free hg, rd_ite, rd_forEach fun _ _ _ => rd_emit _ _ _, rd_hiSet, ite_self]
theorem rd_cqPut_free (c d) : rd (cqPut c d) g = rd d g := by simp only [cqPut, rd_ite, rd_cqFlush_free hg, rd_hiSet, ite_self]
theorem rd_cmdDone_free (c st r d) : rd (cmdDone c st r d) g = rd d g := by
  simp only [cmdDone, rejectsFlush, resultWrite, rd_ite, rd_forEach fun _ _ _ => rd_cqPut_free hg _ _, rd_cqPut_free hg, rd_hiSet, rd_emit,
    ite_self]
theorem rd_cmdLeave_free (s d) : rd (cmdLeave s d) g = rd d g := by
  obtain ⟨hf, -⟩ := hg
  exact rd_wr_ne _ _ (hf _ List.mem_cons_self)
theorem rd_cmdFinal_free (s st r d) : rd (cmdFinal s st r d) g = rd d g := by
  obtain ⟨hf, -⟩ := id hg
  have hj : ∀ e, rd (jAppend e d) g = rd d g := fun e => jAppend_regsBut e d g fun f h => hf f (List.mem_cons_of_mem _ h)
  unfold cmdFinal
  split
  · rfl
  · simp only [rd_ite, resultStore, rd_cmdDone_free hg, rd_cmdLeave_free hg, rd_hiSet, hj, ite_self]
end
/-- The security version in force is none of the fields that the end of a command writes. -/
theorem rollbackEffective_endFree : endFree Reg.UP_ROLLBACK_EFFECTIVE := by
  refine ⟨by decide, fun q => ⟨?_, ?_⟩⟩ <;>
    simp only [fldKey, Reg.HI_CQ_STATE_TAIL, Reg.HI_CQ_STATE_PHASE, Reg.UP_ROLLBACK_EFFECTIVE] <;> omega

/-! ## The START entry (R351) -/

/-- What the end of a command needs of a device after the command's START entry. -/
def startView (d : Dev) : HiUnit × HmUnit × Nat := (d.hi, d.hm, jHead d)
section
variable {d : Dev} {c : HiCmd} (hd : dueOf d c)
include hd
theorem cmdStart_hostView : hostView (cmdStart c.seq d) = hostView d := by
  rw [cmdStart_found (dueOf_found hd)]
  exact jAppend_hostView _ d
theorem cmdStart_regsBut : regsBut journalFields d (cmdStart c.seq d) := by
  rw [cmdStart_found (dueOf_found hd)]
  exact jAppend_regsBut _ d
theorem cmdStart_cmds : (cmdStart c.seq d).hi.cmds = d.hi.cmds := by
  rw [cmdStart_found (dueOf_found hd)]
  exact jAppend_cmds _ d
theorem cmdStart_entry : mget (cmdStart c.seq d).hi.journal (jHead d) = some (startEntry c) := by
  rw [cmdStart_found (dueOf_found hd)]
  exact jAppend_entry (dueOf_powerFail hd) _
/-- A device that holds what the START entry left of the host interface shows that entry. -/
theorem startAt_of_hi {x : Dev} (hx : x.hi.journal = (cmdStart c.seq d).hi.journal) : startAt x (jHead d) c := by
  rw [startAt, hx]
  exact cmdStart_entry hd
/-- A command that ends after its START entry shows START and FINAL in the next two entries. -/
theorem cmdFinal_started (hj : jOpen d) {x : Dev} (hx : startView x = startView (cmdStart c.seq d)) (st r) :
    startAt (cmdFinal c.seq st r x) (jHead d) c ∧ finalAt (cmdFinal c.seq st r x) (jHead d + 1) c st r := by
  have hhi : x.hi = (cmdStart c.seq d).hi := congrArg (·.1) hx
  have hhm : x.hm = d.hm := (congrArg (·.2.1) hx).trans (congrArg (·.hm) (cmdStart_hostView hd))
  have hhead : jHead x = jHead d + 1 := by
    refine (congrArg (·.2.2) hx).trans ?_
    rw [cmdStart_found (dueOf_found hd)]
    exact jHead_jAppend (dueOf_powerFail hd) (Nat.lt_of_succ_lt hj) _
  have hcmds : x.hi.cmds = d.hi.cmds := (congrArg (·.cmds) hhi).trans (cmdStart_cmds hd)
  have hpf : x.hm.powerFail = d.hm.powerFail := congrArg (·.powerFail) hhm
  refine ⟨?_, hhead ▸ cmdFinal_finalAt_of_cmds hd x hcmds hpf st r⟩
  rw [cmdFinal_first ((cmdOf_of_cmds hcmds _).trans (dueOf_found hd)) (hpf.trans (dueOf_powerFail hd)) (dueOf_again hd), startAt,
    answerView_journal (cmdDone_answerView _ _ _ _), cmdLeave_journal, answerView_journal (resultStore_answerView _ _ _),
    jAppend_keeps (by omega) (by rw [jSlots]; omega), hhi]
  exact cmdStart_entry hd
end

end Sys2Proof.Machine
end

section
/-!
SUPPORT. What RELAY_CONTROL does to packages, slots and installs behind its START entry (R486, R497, R501, R502).
-/
namespace Sys2Proof.Machine

/-! ## Registers and packages of an entry (R490, R501) -/

/-- What the end of a command needs, and which packages are held. -/
def relayView (d : Dev) : (HiUnit × HmUnit × Nat) × (Nat → Bool) := (startView d, fun k => (pkgOf d k).isSome)
theorem startView_of_relayView {d t : Dev} (h : relayView t = relayView d) : startView t = startView d := congrArg Prod.fst h
theorem pkgOf_isSome_of_relayView {d t : Dev} (h : relayView t = relayView d) (k) : (pkgOf t k).isSome = (pkgOf d k).isSome :=
  congrFun (congrArg Prod.snd h) k
theorem wr_startView {f : Fld} (h : fldKey f ≠ fldKey Reg.HI_JOURNAL_HEAD) (d v) : startView (wr d f v) = startView d :=
  congrArg (fun n => (d.hi, d.hm, n)) (rd_wr_ne d v h)
theorem record_startView (code items d) : startView (record code items d) = startView d := by
  have hh : jHead (record code items d) = jHead d := record_regsBut _ _ d _ (by decide)
  rw [startView, hh, record_shape]
  rfl
theorem updEvent_startView (code items d) : startView (updEvent code items d) = startView d := by
  rw [updEvent, startView, jHead, rd_msix, msix_shape]
  exact record_startView code items d
/-- All of a device but its registers. -/
def offRegs (d : Dev) : Dev := { d with regs := [] }
theorem wr_offRegs (d f v) : offRegs (wr d f v) = offRegs d := rfl
theorem regsOnly_of_offRegs {d t : Dev} (h : offRegs t = offRegs d) : regsOnly d t := by
  cases d
  cases t
  simpa [regsOnly, offRegs] using h
theorem pkgShow_regsOnly (k d) : regsOnly d (pkgShow k d) := by
  refine regsOnly_of_offRegs ?_
  unfold pkgShow
  dsimp only
  split <;> simp only [wr_offRegs]
/-- The registers of the entries lie beyond the journal's. -/
theorem jHead_pkgShow (k d) : jHead (pkgShow k d) = jHead d := by
  have h : ∀ {a n : Nat} {lo w rst acc src rng}, 0x400F0000 ≤ a →
      ∀ d v, jHead (wr d ⟨a + n * k, lo, w, rst, acc, src, rng⟩ v) = jHead d :=
    fun ha d v => rd_wr_ne d v (by
      have : fldKey Reg.HI_JOURNAL_HEAD < 0x400F0000 * 32 := by decide
      dsimp only [fldKey] at *
      omega)
  unfold pkgShow
  dsimp only
  split <;> simp (disch := decide) only [Reg.UP_PKG_STATE_STATE, Reg.UP_PKG_STATE_DIR, Reg.UP_PKG_STATE_INSTALL, Reg.UP_PKG_STATE_ORIGIN,
    Reg.UP_PKG_STATE_CHUNKS, Reg.UP_PKG_TAG, Reg.UP_PKG_PROG_FWD, Reg.UP_PKG_PROG_HELD, Reg.UP_PKG_NEXT_NEXT_DONE,
    Reg.UP_PKG_NEXT_PARTNER_DONE, Reg.UP_PKG_NEXT_WAITING, Reg.UP_PKG_NEXT_FROM_POS, Reg.UP_PKG_NEXT_NEXT_POS, Reg.UP_PKG_REL, h]
theorem pkgShow_upd (k d) : (pkgShow k d).upd = d.upd := congrArg (·.upd) (pkgShow_regsOnly k d)
theorem pkgShow_startView (k d) : startView (pkgShow k d) = startView d := by
  rw [startView, jHead_pkgShow, pkgShow_regsOnly k d]
  rfl
theorem pkgSet_startView (k f d) : startView (pkgSet k f d) = startView d := by
  unfold pkgSet
  split
  · rfl
  · exact pkgShow_startView k _
theorem pkgDrop_startView (k d) : startView (pkgDrop k d) = startView d := pkgShow_startView k _
theorem pkgOf_pkgDrop (k d) : pkgOf (pkgDrop k d) k = none := by
  rw [pkgOf, pkgDrop, pkgShow_upd]
  exact mget_mdel_same _ k
/-- An entry that is held is changed in place, and no other. -/
theorem pkgOf_pkgSet (k f d j) : pkgOf (pkgSet k f d) j = if k = j then (pkgOf d k).map f else pkgOf d j := by
  unfold pkgSet
  split
  · next h =>
    split
    · next hj => rw [← hj, h]; rfl
    · rfl
  · next p h =>
    rw [h, pkgOf, pkgPut, pkgShow_upd]
    exact mget_mput _ k j _

@[simp] theorem pkgSet_relayView (k f d) : relayView (pkgSet k f d) = relayView d := by
  refine Prod.ext (pkgSet_startView k f d) (funext fun j => ?_)
  dsimp only [relayView]
  rw [pkgOf_pkgSet]
  split
  · next h => rw [Option.isSome_map, h]
  · rfl
@[simp] theorem emit_relayView (o d) : relayView (emit o d) = relayView d := (rfl)
@[simp] theorem updEvent_relayView (code items d) : relayView (updEvent code items d) = relayView d := by
  refine Prod.ext (updEvent_startView code items d) (funext fun k => ?_)
  have hu : (updEvent code items d).upd = d.upd := by
    rw [updEvent, msix_shape, record_shape]
  dsimp only [relayView]
  rw [pkgOf, pkgOf, hu]
@[simp] theorem relayView_ite (p : Prop) [Decidable p] (a b : Dev) : relayView (if p then a else b) = if p then relayView a else relayView b :=
  apply_ite relayView p a b
@[simp] theorem hopSet_relayView (k h f d) : relayView (hopSet k h f d) = relayView d := pkgSet_relayView _ _ _
@[simp] theorem hopOffer_relayView (k h d) : relayView (hopOffer k h d) = relayView d := by
  unfold hopOffer
  split <;> simp
@[simp] theorem hopStart_relayView (k h d) : relayView (hopStart k h d) = relayView d := by
  unfold hopStart
  split
  · rfl
  · dsimp only
    split
    · rfl
    · split <;> simp
@[simp] theorem hopPartner_relayView (k d) : relayView (hopPartner k d) = relayView d := by
  unfold hopPartner
  split
  · rfl
  · split
    · rfl
    · simp
@[simp] theorem pkgForward_relayView (k dir d) : relayView (pkgForward k dir d) = relayView d := by simp [pkgForward]

theorem cmdFinal_upd (s st r d) : (cmdFinal s st r d).upd = d.upd := congrArg (·.upd) (cmdFinal_hostView s st r d)
theorem cmdFinal_bp (s st r d) : (cmdFinal s st r d).bp = d.bp := congrArg (·.bp) (cmdFinal_hostView s st r d)
theorem cmdFinal_cs (s st r d) : (cmdFinal s st r d).cs = d.cs := congrArg (·.cs) (cmdFinal_hostView s st r d)
theorem cmdWait_cs (s d) : (cmdWait s d).cs = d.cs := rfl
theorem csArrive_queue (x d) : (csArrive x d).cs.queue = d.cs.queue ++ [x] := rfl
theorem pkgOf_cmdFinal (s st r d k) : pkgOf (cmdFinal s st r d) k = pkgOf d k := 
  congrArg (fun u : UpdUnit => mget u.pkgs k) (cmdFinal_upd s st r d)

/-! ## The actions on a package (R497, R501) -/

section
variable {d : Dev} {c : HiCmd}
theorem withPackage_absent (h : pkgFind d (cmdIdentity c) = none) (f) : withPackage c f d = cmdFinal c.seq St.UPDATE_NO_PACKAGE [] d := by
  unfold withPackage
  rw [h]
variable {k : Nat} (h : pkgFind d (cmdIdentity c) = some k)
include h
theorem withPackage_held (f) : withPackage c f d = f k d := by
  unfold withPackage
  rw [h]
theorem relayStart_held : ∃ x, relayStart c d = cmdFinal c.seq St.OK [] x ∧ relayView x = relayView d := by
  refine ⟨_, withPackage_held h _, ?_⟩
  simp
theorem relayStop_held : ∃ f : UpPkg → UpPkg, (∀ p, (f p).state = 3) ∧ relayStop c d = cmdFinal c.seq St.OK [] (pkgSet k f d) :=
  ⟨_, fun _ => rfl, withPackage_held h _⟩
theorem relayDelete_held (hi : d.upd.installing = none) : relayDelete c d = cmdFinal c.seq St.OK [] (pkgDrop k d) := by
  rw [relayDelete, withPackage_held h, hi]
  rfl
theorem relayInstall_held {p : UpPkg} (hp : pkgOf d k = some p) (hc : installChoice p false (cmdWait c.seq d) = 3) :
    relayInstall c d = installBegin k (some c.seq) (cmdWait c.seq d) := by
  rw [relayInstall, withPackage_held h]
  change installDecide k (some c.seq) false (cmdWait c.seq d) = _
  rw [installDecide, show pkgOf (cmdWait c.seq d) k = some p from hp]
  simp only [hc]
  rfl
end

/-! ## Slots, the security version in force, and the records (R486, R501, R502) -/

/-- The records that STATUS returns. -/
def relayRecords (d : Dev) : List Byte := slotRecord d 0 ++ slotRecord d 1 ++ d.upd.pkgs.flatMap fun e => pkgRecord d e.2
/-- What RELAY_CONTROL reads beside the packages is as before the START entry: units, and registers that no entry writes. -/
structure RelayReads (d e : Dev) : Prop where
  upd : e.upd = d.upd
  bp : e.bp = d.bp
  cs : e.cs = d.cs
  hm : e.hm = d.hm
  clk : e.clk = d.clk
  regs : regsBut journalFields d e
theorem relayReads_cmdStart {d : Dev} {c : HiCmd} (hd : dueOf d c) : RelayReads d (cmdStart c.seq d) :=
  have hv : hostView (cmdStart c.seq d) = hostView d := cmdStart_hostView hd
  ⟨congrArg (·.upd) hv, congrArg (·.bp) hv, congrArg (·.cs) hv, congrArg (·.hm) hv, congrArg (·.clk) hv, cmdStart_regsBut hd⟩
section
variable {d e : Dev} (h : RelayReads d e)
include h
theorem RelayReads.pkgFind (i) : pkgFind e i = pkgFind d i := by rw [Machine.pkgFind, Machine.pkgFind, h.upd]
theorem RelayReads.pkgOf (k) : pkgOf e k = pkgOf d k := by rw [Machine.pkgOf, Machine.pkgOf, h.upd]
theorem RelayReads.upSlot (n) : upSlot e n = upSlot d n := by rw [Machine.upSlot, Machine.upSlot, h.upd]
theorem RelayReads.slotBooted : slotBooted e = slotBooted d := h.regs _ (by decide)
theorem RelayReads.effective : rd e Reg.UP_ROLLBACK_EFFECTIVE = rd d Reg.UP_ROLLBACK_EFFECTIVE := h.regs _ (by decide)
theorem RelayReads.frozen : flag e Reg.CS_STATUS_FROZEN = flag d Reg.CS_STATUS_FROZEN := congrArg (· != 0) (h.regs _ (by decide))
theorem RelayReads.installChoice (p a) : installChoice p a e = installChoice p a d := by
  have ho : slotOther e = slotOther d := congrArg (1 - ·) h.slotBooted
  have hb : bootDone e = bootDone d := congrArg (fun n => decide (11 ≤ n)) (h.regs Reg.MCTL_BOOT_STEP (by decide))
  rw [Machine.installChoice, Machine.installChoice, ho, hb, h.slotBooted, h.upSlot, h.upSlot, h.bp, h.upd]
theorem RelayReads.slotRecord (n) : slotRecord e n = slotRecord d n := by
  simp only [Machine.slotRecord, h.slotBooted, h.upSlot, h.bp]
theorem RelayReads.pkgRecord (p) : pkgRecord e p = pkgRecord d p := by
  have hs : flag e Reg.MCTL_CFG_DUPLEX = flag d Reg.MCTL_CFG_DUPLEX := congrArg (· != 0) (h.regs _ (by decide))
  simp only [Machine.pkgRecord, partnerDone, simplex, hs]
theorem RelayReads.relayStatus (c) : relayStatus c e = cmdFinal c.seq St.OK (relayRecords d) e := by
  simp only [Machine.relayStatus, relayRecords, h.slotRecord, h.pkgRecord, h.upd]
end

section
variable {d : Dev} {c : HiCmd}
/-- The slot of an ACTIVATE is preferred from now on, on trial or not, and the event tells it. -/
theorem slotPreferred_spec (hp : d.hm.powerFail = false) (n t code items) :
    startView (updEvent code items (bpSet (fun b => { b with slotPref := n, trial := t }) d)) = startView d ∧
      (updEvent code items (bpSet (fun b => { b with slotPref := n, trial := t }) d)).bp = { d.bp with slotPref := n, trial := t } := by
  refine ⟨updEvent_startView _ _ _, ?_⟩
  rw [updEvent, msix_shape, record_shape]
  exact if_neg (by simp [hp])
theorem relayActivate_booted (hb : argB c.desc 1 = slotBooted d) (hp : d.hm.powerFail = false) :
    ∃ x, relayActivate c d = cmdFinal c.seq St.OK [] x ∧ startView x = startView d ∧
      x.bp = { d.bp with slotPref := argB c.desc 1, trial := none } :=
  ⟨_, if_pos hb, slotPreferred_spec hp _ _ _ _⟩
section
variable (hb : argB c.desc 1 ≠ slotBooted d)
include hb
theorem relayActivate_busy (hi : d.upd.installing.isSome = true) : relayActivate c d = cmdFinal c.seq St.UPDATE_SLOT_BUSY [] d :=
  (if_neg hb).trans (if_pos hi)
variable (hi : d.upd.installing = none)
include hi
theorem relayActivate_bad (hs : (upSlot d (argB c.desc 1)).valid = false ∨ (upSlot d (argB c.desc 1)).refused = true) :
    relayActivate c d = cmdFinal c.seq St.UPDATE_NOT_INSTALLED [] d :=
  (if_neg hb).trans ((if_neg (by simp [hi])).trans (if_pos (by simpa using hs)))
theorem relayActivate_trial (hv : (upSlot d (argB c.desc 1)).valid = true) (hr : (upSlot d (argB c.desc 1)).refused = false)
    (hp : d.hm.powerFail = false) : ∃ x, relayActivate c d = cmdFinal c.seq St.OK [] x ∧ startView x = startView d ∧
      x.bp = { d.bp with slotPref := argB c.desc 1, trial := some 0 } :=
  ⟨_, (if_neg hb).trans ((if_neg (by simp [hi])).trans (if_neg (by simp [hv, hr]))), slotPreferred_spec hp _ _ _ _⟩
end
theorem relayCommit_below (h : (upSlot d (slotBooted d)).hdr.sec ≤ rd d Reg.UP_ROLLBACK_EFFECTIVE) :
    relayCommit c d = cmdFinal c.seq St.OK [] d := if_pos h
section
variable (h : rd d Reg.UP_ROLLBACK_EFFECTIVE < (upSlot d (slotBooted d)).hdr.sec)
include h
theorem relayCommit_waits (hf : flag d Reg.CS_STATUS_FROZEN = false) : relayCommit c d =
    csArrive ⟨2, [], some c.seq, some (upSlot d (slotBooted d)).hdr.sec, 0⟩ (cmdWait c.seq d) :=
  (if_neg (Nat.not_le.mpr h)).trans (if_neg (by simp [hf]))
/-- While stores are frozen only the fuses are burned. -/
theorem relayCommit_frozen (hf : flag d Reg.CS_STATUS_FROZEN = true) :
    ∃ x, relayCommit c d = cmdFinal c.seq St.OK [] x ∧ startView x = startView d ∧ x.cs = d.cs := by
  refine ⟨_, (if_neg (Nat.not_le.mpr h)).trans (if_pos hf), ?_, ?_⟩
  · rw [record_startView, fuseBurn, wr_startView (by decide), wr_startView (by decide)]
  · rw [record_shape]
    rfl
end
end

end Sys2Proof.Machine
end

section
/-!
SUPPORT. Commands that wait for another unit, the parts of a staged update, and the settlement of O40.
-/
namespace Sys2Proof.Machine

/-! ## CHECKPOINT_NOW and STORE_SETTINGS (R349, R378, R475, R476) -/

theorem checkpointNow_disabled {d : Dev} (h : flag d (Reg.CYC_CLS_CFG_EN (rd d Reg.DX_CP_CFG_CLASS)) = false) (c) :
    checkpointNow c d = cmdFinal c.seq St.OK (List.replicate 32 0) d := if_neg (by simp [h])
/-- A checkpoint of the class is begun while none is in transfer. -/
theorem checkpointNow_begins {d : Dev} (h : flag d (Reg.CYC_CLS_CFG_EN (rd d Reg.DX_CP_CFG_CLASS)) = true) (ht : d.dx.taking = none)
    (hs : d.dx.sending = none) (c) : checkpointNow c d = dxSet (fun x => { x with
      taking := some (cpBuild (rd d Reg.DX_CP_CFG_CLASS) (rd d (Reg.CYC_CLS_CYC (rd d Reg.DX_CP_CFG_CLASS))) (cmdWait c.seq d)) })
        (cmdWait c.seq d) := by
  refine (if_pos h).trans (if_neg ?_)
  change ¬(d.dx.taking.isSome || d.dx.sending.isSome) = true
  simp [ht, hs]
/-- A command put to wait moves no journal position: the first active command has the number it had. -/
theorem journalPos_cmdWait (s d) : journalPos (cmdWait s d) = journalPos d := by
  have hf : ∀ l : List HiCmd,
      ((mapIf (fun c => c.seq == s) (fun c => { c with phase := .waiting }) l).find? fun c => !cmdLocal c.desc).map (·.seq) =
      (l.find? fun c => !cmdLocal c.desc).map (·.seq) := fun l => by
    have hp : ((fun c : HiCmd => !cmdLocal c.desc) ∘ fun x => if (x.seq == s) = true then { x with phase := .waiting } else x) =
        fun c => !cmdLocal c.desc := by
      funext x
      dsimp only [Function.comp]
      split <;> rfl
    rw [mapIf, List.find?_map, hp, Option.map_map]
    congr 1
    funext x
    dsimp only [Function.comp]
    split <;> rfl
  have hm : ∀ x : Dev, journalPos x = ((x.hi.cmds.find? fun c => !cmdLocal c.desc).map (·.seq)).elim (jHead x - 1) (· - 1) := fun x => by
    unfold journalPos
    split <;> next hx => rw [hx]; rfl
  rw [hm, hm]
  exact congrArg (Option.elim · (jHead d - 1) (· - 1)) (hf d.hi.cmds)
/-- A STORE_SETTINGS with a value out of range takes three free values for its result and ends. -/
theorem settingsRun_range {c : HiCmd} (h : firstBad (cmdRecords c) ≠ 0xFFFFFFFF) (d) : ∃ r, r.length = 24 ∧
    settingsRun c d = cmdFinal c.seq St.SETTINGS_RANGE r { d with free := (nextFree (nextFree (nextFree d))).free } :=
  ⟨_, settingsResult_length _ _ _ _ _, if_pos h⟩
section
variable {c : HiCmd} (h : firstBad (cmdRecords c) = 0xFFFFFFFF) (hs : bitOf (argB c.desc 0) 0 = true)
include h hs
theorem settingsRun_caisson (hv : ((cmdRecords c).any fun e => recordVoted e.1) = false) (d) :
    settingsRun c d = csArrive ⟨0, cmdRecords c, some c.seq, none, 0⟩ (cmdWait c.seq d) :=
  (if_neg (by simp [h])).trans ((if_neg (by simp [hs])).trans (if_neg (by simp [hv])))
theorem settingsRun_voted (hv : ((cmdRecords c).any fun e => recordVoted e.1) = true) (d) :
    settingsRun c d = cmdToClass c.seq (anyClass d) d :=
  (if_neg (by simp [h])).trans ((if_neg (by simp [hs])).trans (if_pos hv))
end

/-! ## SEND_MD (R298, R351) -/

theorem sendMd_inactive {d : Dev} (h : netActive d = false) (c) : sendMd c d = d := if_pos (by simp [h])
/-- The message of a command that has written its START entry. -/
def mdSent (c : HiCmd) (d : Dev) : Dev :=
  emit (.mdSent (if argB c.desc 8 = 0 then 3 else if argB c.desc 8 = 1 then 4 else 6) (argN c.desc 0 4) (argN c.desc 4 4) c.seq c.payload)
    (cmdStart c.seq d)
section
variable {d : Dev} (h : netActive d = true)
include h
theorem sendMd_notification {c : HiCmd} (ht : argB c.desc 8 = 0) : sendMd c d = cmdFinal c.seq St.OK [] (mdSent c d) :=
  (if_neg (by simp [h])).trans (if_pos ht)
theorem sendMd_waits {c : HiCmd} (ht : argB c.desc 8 ≠ 0) :
    sendMd c d = cmdWait c.seq (teSet (fun x => { x with sessions := mput x.sessions c.seq c.seq }) (mdSent c d)) :=
  (if_neg (by simp [h])).trans (if_neg ht)
end

/-! ## STAGE_UPDATE (R487, R491) -/

/-- A staging at a state. -/
def staging (st : Option UpStage) (d : Dev) : Dev := updSet (fun u => { u with stage := st }) d
/-- A staging that has no entry yet fails and leaves none. -/
theorem stageFail_staging {st : UpStage} (h : st.entry = none) (s status d) :
    stageFail s status (staging (some st) d) = cmdFinal s status [] (staging none d) := by
  have he : (staging (some st) d).upd.stage.bind (·.entry) = none := h
  unfold stageFail
  rw [he]
  rfl
/-- A new staging, or the one in progress, at the offset 0 of its first part. -/
def stageAnew (c : HiCmd) (d : Dev) : UpStage :=
  { d.upd.stage.getD ⟨argN c.desc 4 8 + c.desc.payLen, argN c.desc 12 8, argN c.desc 0 4, none, 0, []⟩ with
    tag := argN c.desc 0 4, entry := none, taken := 0, bytes := [] }
/-- The first part of a file, before the manifest is whole. -/
theorem stageUpdate_first {c : HiCmd} (h0 : argN c.desc 4 8 = 0) (hl : bitOf (argB c.desc 20) 0 = false) (hp : c.desc.payLen < 33792) (bad d) :
    stageUpdate none bad c d =
      cmdFinal c.seq St.OK [] (staging (some { stageAnew c d with taken := c.desc.payLen, bytes := c.payload }) d) := by
  have hl' : ¬(false = true ∨ 33792 ≤ c.desc.payLen) := by simp [hp]
  simp only [stageUpdate, stageRun, h0, hl, if_true, ne_eq, not_true_eq_false, if_false, hl', Nat.zero_add, List.nil_append, stageAnew]
  rfl
/-- A manifest that is not as R487 asks ends the staging. -/
theorem stageUpdate_manifest {c : HiCmd} (h0 : argN c.desc 4 8 = 0) {m : Manifest} (hm : manifestOk m = false) (bad d) :
    stageUpdate (some m) bad c d = cmdFinal c.seq St.UPDATE_FORM [] (staging none d) := by
  rw [← stageFail_staging (st := stageAnew c d) rfl]
  simp only [stageUpdate, stageRun, h0, hm, if_true, ne_eq, not_true_eq_false, if_false, Bool.not_false, true_or, stageAnew]
  rfl
/-- So does a part at another offset than the next. -/
theorem stageUpdate_offset {c : HiCmd} {d : Dev} {st : UpStage} (hs : d.upd.stage = some st) (he : st.entry = none)
    (h0 : argN c.desc 4 8 ≠ 0) (ht : st.taken ≠ argN c.desc 4 8) (man bad) :
    stageUpdate man bad c d = cmdFinal c.seq St.UPDATE_FORM [] (staging none d) := by
  rw [← stageFail_staging he]
  simp only [stageUpdate, stageRun, hs, Option.getD_some, h0, if_false, ne_eq, ht, not_false_eq_true, if_true]
  rfl
/-- A staged part that ends its command leaves the update unit as it has set it. -/
theorem cmdFinal_staging {d : Dev} {c : HiCmd} (hd : dueOf d c) (st status r) :
    (cmdFinal c.seq status r (staging st d)).upd = { d.upd with stage := st } ∧
      finalAt (cmdFinal c.seq status r (staging st d)) (jHead d) c status r :=
  ⟨cmdFinal_upd c.seq status r (staging st d), cmdFinal_finalAt_of_cmds hd (staging st d) rfl rfl status r⟩

/-! ## The settlement -/

section
variable {s : State} {c : HiCmd} {i : Instr} {n : Nat} {f : HiCmd → Dev → Dev}
/-- An action of RELAY_CONTROL runs behind its START entry. -/
theorem answers_relay (hx : exec i s = actPowered (cmdRun c.seq (isOp 12 n) (relayRun f)) s) (hs : Running s) (ht : turnOf s.dev c)
    (ho : isOp 12 n c.desc = true) {P : Dev → Prop} : Answers i s P ↔ P (f c (cmdStart c.seq s.dev)) := answers_turn hx hs ht ho
/-- An action on a package that is not held ends, and the update unit stays. -/
theorem answers_relay_absent {g : Nat → Dev → Dev} (hx : exec i s = actPowered (cmdRun c.seq (isOp 12 n) (relayRun f)) s) (hs : Running s)
    (ht : turnOf s.dev c) (ho : isOp 12 n c.desc = true) (hj : jOpen s.dev) (hk : pkgFind s.dev (cmdIdentity c) = none)
    (hf : f c (cmdStart c.seq s.dev) = withPackage c g (cmdStart c.seq s.dev)) : Answers i s fun t =>
      startAt t (jHead s.dev) c ∧ finalAt t (jHead s.dev + 1) c St.UPDATE_NO_PACKAGE [] ∧ t.upd = s.dev.upd := by
  obtain ⟨hd, -⟩ := id ht
  have hr := relayReads_cmdStart hd
  rw [answers_relay hx hs ht ho, hf, withPackage_absent ((hr.pkgFind _).trans hk)]
  obtain ⟨hst, hfin⟩ := cmdFinal_started hd hj rfl St.UPDATE_NO_PACKAGE []
  exact ⟨hst, hfin, (cmdFinal_upd _ _ _ _).trans hr.upd⟩
end

/-- Settles O40: each command by the unit it waits for, RELAY_CONTROL by its action behind the START entry. -/
theorem waitingAndRelayCommands : Obligations.WaitingAndRelayCommands := by
  unfold Obligations.WaitingAndRelayCommands
  refine ⟨fun s c hs ht => ?_, fun s c hs ht => ?_⟩
  · obtain ⟨hd, -⟩ := id ht
    have hc : cmdOf s.dev c.seq = some c := dueOf_found hd
    refine ⟨fun ho he => ?_, fun ho he htk hsn => ?_, fun ho => ?_, fun ho => ?_, fun ho hn => ?_, fun ho hn hj => ⟨fun h0 => ?_, fun h0 => ?_⟩,
      fun ho hv => ⟨fun hb hn => ?_, fun hb hn => ?_, fun hb => ?_⟩⟩
    -- CHECKPOINT_NOW
    · exact answers_final (f := checkpointNow) rfl hs ht ho (checkpointNow_disabled he c)
    · rw [answers_turn (f := checkpointNow) rfl hs ht ho, checkpointNow_begins he htk hsn]
      exact ⟨⟨_, rfl, rfl, rfl, rfl, rfl, journalPos_cmdWait c.seq s.dev⟩, cmdOf_cmdWait hc, rfl, fun _ => rfl⟩
    -- SET_TIME_EPOCH
    · rw [answers_turn (f := setEpoch) rfl hs ht ho]
      refine ⟨?_, cmdOf_cmdWait (d := tuSet _ s.dev) hc, rfl⟩
      rw [setEpoch, isOp_arg ho]
      rfl
    · rw [answers_turn (f := setEpoch) rfl hs ht ho]
      refine ⟨?_, cmdOf_cmdWait (d := tuSet _ s.dev) hc, rfl⟩
      rw [setEpoch, isOp_arg ho]
      rfl
    -- SEND_MD
    · rw [answers_turn (f := sendMd) rfl hs ht (by simp [ho])]
      exact sendMd_inactive hn c
    · rw [answers_turn (f := sendMd) rfl hs ht (by simp [ho]), sendMd_notification hn h0]
      obtain ⟨hst, hfin⟩ := cmdFinal_started hd hj (x := mdSent c s.dev) rfl St.OK []
      exact ⟨hst, hfin, answersOnly_of_hostView ((cmdFinal_hostView _ _ _ _).trans (cmdStart_hostView hd))⟩
    · rw [answers_turn (f := sendMd) rfl hs ht (by simp [ho]), sendMd_waits hn h0]
      refine ⟨startAt_of_hi hd rfl, mget_mput_same _ _ _, cmdOf_cmdWait (d := teSet _ (mdSent c s.dev)) ?_, ?_⟩
      · exact (cmdOf_of_cmds (cmdStart_cmds hd) _).trans hc
      · refine List.getLast?_concat.trans ?_
        rw [if_neg h0]
    -- STORE_SETTINGS
    · rw [answers_turn (f := settingsRun) rfl hs ht (by simp [ho, hv]), settingsRun_caisson hb hv hn]
      exact ⟨rfl, cmdOf_cmdWait hc, rfl⟩
    · rw [answers_turn (f := settingsRun) rfl hs ht (by simp [ho, hv]), settingsRun_voted hb hv hn]
      exact cmdToClass_phaseOnly hc _
    · rw [answers_turn (f := settingsRun) rfl hs ht (by simp [ho, hv])]
      obtain ⟨r, hr, he⟩ := settingsRun_range hb s.dev
      rw [he]
      refine ⟨⟨r, hr, cmdFinal_finalAt_of_cmds hd { s.dev with free := (nextFree (nextFree (nextFree s.dev))).free } rfl rfl _ _⟩, ?_⟩
      exact cmdFinal_cs _ _ _ _
  · obtain ⟨hd, -⟩ := id ht
    have hr := relayReads_cmdStart hd
    refine ⟨fun bad ho h0 hl hp => ?_, fun m bad ho h0 hm => ?_, fun st man bad ho hst he h0 hk => ?_, fun hj => ?_⟩
    -- STAGE_UPDATE
    · rw [answers_turn (f := stageUpdate none bad) rfl hs ht (by simp [ho]), stageUpdate_first h0 hl hp]
      obtain ⟨hu, hf⟩ := cmdFinal_staging hd _ _ _
      exact ⟨⟨_, hu, rfl, rfl, rfl, rfl⟩, hf⟩
    · rw [answers_turn (f := stageUpdate (some m) bad) rfl hs ht (by simp [ho]), stageUpdate_manifest h0 hm]
      exact cmdFinal_staging hd _ _ _
    · rw [answers_turn (f := stageUpdate man bad) rfl hs ht (by simp [ho]), stageUpdate_offset hst he h0 hk]
      exact cmdFinal_staging hd _ _ _
    refine ⟨fun k p hk hp => ⟨fun ho => ?_, fun ho => ?_, fun ho hi => ?_, fun ho hi => ?_⟩,
      fun hk => ⟨fun ho => ?_, fun ho => ?_, fun ho => ?_, fun ho => ?_⟩, fun ho hb => ?_, fun ho hb hi => ?_, fun ho hb hi hx => ?_,
      fun ho hb hi hv hf => ?_, fun ho hle => ?_, fun ho hlt => ⟨fun hf => ?_, fun hf => ?_⟩, fun ho => ?_⟩
    -- a package held
    · obtain ⟨x, he, hx⟩ := relayStart_held ((hr.pkgFind _).trans hk)
      rw [answers_relay (f := relayStart) rfl hs ht ho, he]
      obtain ⟨hst, hfin⟩ := cmdFinal_started hd hj (startView_of_relayView hx) St.OK []
      refine ⟨hst, hfin, ?_⟩
      rw [pkgOf_cmdFinal, pkgOf_isSome_of_relayView hx, hr.pkgOf, hp]
      rfl
    · obtain ⟨f, hf, he⟩ := relayStop_held ((hr.pkgFind _).trans hk)
      rw [answers_relay (f := relayStop) rfl hs ht ho, he]
      obtain ⟨hst, hfin⟩ := cmdFinal_started hd hj (pkgSet_startView k f _) St.OK []
      refine ⟨hst, hfin, ?_⟩
      rw [pkgOf_cmdFinal, pkgOf_pkgSet, if_pos rfl, hr.pkgOf, hp]
      exact congrArg some (hf p)
    · rw [answers_relay (f := relayInstall) rfl hs ht ho,
        relayInstall_held ((hr.pkgFind _).trans hk) ((hr.pkgOf k).trans hp) ((hr.installChoice p false).trans hi)]
      refine ⟨startAt_of_hi hd rfl, ?_, ?_⟩
      · exact congrArg (fun t => some (k, t, some c.seq)) hr.clk
      · exact cmdOf_cmdWait (d := cmdStart c.seq s.dev) ((cmdOf_of_cmds (cmdStart_cmds hd) _).trans (dueOf_found hd))
    · rw [answers_relay (f := relayDelete) rfl hs ht ho,
        relayDelete_held ((hr.pkgFind _).trans hk) ((congrArg (·.installing) hr.upd).trans hi)]
      obtain ⟨hst, hfin⟩ := cmdFinal_started hd hj (pkgDrop_startView k _) St.OK []
      exact ⟨hst, hfin, (pkgOf_cmdFinal _ _ _ _ k).trans (pkgOf_pkgDrop k _)⟩
    -- a package not held
    · exact answers_relay_absent (f := relayStart) rfl hs ht ho hj hk rfl
    · exact answers_relay_absent (f := relayStop) rfl hs ht ho hj hk rfl
    · exact answers_relay_absent (f := relayInstall) rfl hs ht ho hj hk rfl
    · exact answers_relay_absent (f := relayDelete) rfl hs ht ho hj hk rfl
    -- ACTIVATE
    · obtain ⟨x, he, hx, hbp⟩ := relayActivate_booted (hb.trans hr.slotBooted.symm) ((congrArg (·.powerFail) hr.hm).trans (dueOf_powerFail hd))
      rw [answers_relay (f := relayActivate) rfl hs ht ho, he]
      obtain ⟨hst, hfin⟩ := cmdFinal_started hd hj hx St.OK []
      exact ⟨hst, hfin, (cmdFinal_bp _ _ _ _).trans (hbp.trans (by rw [hr.bp]))⟩
    · rw [answers_relay (f := relayActivate) rfl hs ht ho,
        relayActivate_busy (hr.slotBooted ▸ hb) ((congrArg (·.installing.isSome) hr.upd).trans hi)]
      obtain ⟨hst, hfin⟩ := cmdFinal_started hd hj rfl St.UPDATE_SLOT_BUSY []
      exact ⟨hst, hfin, (cmdFinal_bp _ _ _ _).trans hr.bp⟩
    · rw [answers_relay (f := relayActivate) rfl hs ht ho,
        relayActivate_bad (hr.slotBooted ▸ hb) ((congrArg (·.installing) hr.upd).trans hi) (by rw [hr.upSlot]; exact hx)]
      obtain ⟨hst, hfin⟩ := cmdFinal_started hd hj rfl St.UPDATE_NOT_INSTALLED []
      exact ⟨hst, hfin, (cmdFinal_bp _ _ _ _).trans hr.bp⟩
    · obtain ⟨x, he, hx, hbp⟩ := relayActivate_trial (hr.slotBooted ▸ hb) ((congrArg (·.installing) hr.upd).trans hi)
        (by rw [hr.upSlot]; exact hv) (by rw [hr.upSlot]; exact hf) ((congrArg (·.powerFail) hr.hm).trans (dueOf_powerFail hd))
      rw [answers_relay (f := relayActivate) rfl hs ht ho, he]
      obtain ⟨hst, hfin⟩ := cmdFinal_started hd hj hx St.OK []
      exact ⟨hst, hfin, (cmdFinal_bp _ _ _ _).trans (hbp.trans (by rw [hr.bp]))⟩
    -- COMMIT
    · rw [answers_relay (f := relayCommit) rfl hs ht ho, relayCommit_below (by rw [hr.slotBooted, hr.upSlot, hr.effective]; exact hle)]
      obtain ⟨hst, hfin⟩ := cmdFinal_started hd hj rfl St.OK []
      exact ⟨hst, hfin, (rd_cmdFinal_free rollbackEffective_endFree _ _ _ _).trans hr.effective⟩
    · rw [answers_relay (f := relayCommit) rfl hs ht ho,
        relayCommit_waits (by rw [hr.slotBooted, hr.upSlot, hr.effective]; exact hlt) (hr.frozen.trans hf)]
      refine ⟨startAt_of_hi hd rfl, ?_, ?_⟩
      · exact cmdOf_cmdWait (d := cmdStart c.seq s.dev) ((cmdOf_of_cmds (cmdStart_cmds hd) _).trans (dueOf_found hd))
      · rw [hr.slotBooted, hr.upSlot, csArrive_queue, cmdWait_cs, hr.cs]
    · obtain ⟨x, he, hx, hcs⟩ := relayCommit_frozen (c := c) (d := cmdStart c.seq s.dev)
        (by rw [hr.slotBooted, hr.upSlot, hr.effective]; exact hlt) (hr.frozen.trans hf)
      rw [answers_relay (f := relayCommit) rfl hs ht ho, he]
      obtain ⟨hst, hfin⟩ := cmdFinal_started hd hj hx St.OK []
      exact ⟨hst, hfin, congrArg (·.queue) ((cmdFinal_cs _ _ _ _).trans (hcs.trans hr.cs))⟩
    -- STATUS
    · rw [answers_relay (f := relayStatus) rfl hs ht ho, hr.relayStatus]
      obtain ⟨hst, hfin⟩ := cmdFinal_started hd hj (x := cmdStart c.seq s.dev) rfl St.OK (relayRecords s.dev)
      exact ⟨hst, (cmdFinal_upd _ _ _ _).trans hr.upd, hfin⟩

end Sys2Proof.Machine
end

section
/-!
SUPPORT. What the operations of the servo write: schedule time set, discontinuities, holdover, the grandmaster shown, the update of f and s
(R229, R232, R239 to R243, R258).
-/
namespace Sys2Proof.Machine

/-! ## Registers read after several writes -/

theorem flag_of_regsBut {l : List Fld} {d t : Dev} (h : regsBut l d t) {g : Fld} (hg : ∀ f ∈ l, fldKey f ≠ fldKey g) : flag t g = flag d g :=
  congrArg (· != 0) (h g hg)
theorem wrB_regsBut (d f b) : regsBut [f] d (wrB d f b) := regsBut_wr d f _
theorem inc_regsBut (d f) : regsBut [f] d (inc d f) := regsBut_wr d f _
theorem regsBut_of_regs {d t : Dev} (h : t.regs = d.regs) (l) : regsBut l d t := fun g _ => rd_regs h g
theorem regsBut_refl (l d) : regsBut l d d := fun _ _ => rfl
theorem msix_regsBut (v l d) : regsBut l d (msix v d) := regsBut_of_regs (msix_regs v d) l
theorem tuSet_regsBut (f l d) : regsBut l d (tuSet f d) := fun _ _ => rfl
theorem recordOnce_regsBut (c i l d) : regsBut evCounts d (recordOnce c i l d) := fun g hg =>
  rd_recordOnce c i l d g (hg _ (by decide)) (hg _ (by decide))
/-- Two steps that write within the same fields. -/
theorem regsBut.both {l : List Fld} {d e t : Dev} (h1 : regsBut l d e) (h2 : regsBut l e t) : regsBut l d t := fun g hg =>
  (h2 g hg).trans (h1 g hg)
theorem record_tu (c l d) : (record c l d).tu = d.tu := by rw [record_shape]
theorem recordOnce_tu (c i l d) : (recordOnce c i l d).tu = d.tu := by rw [recordOnce_shape]
theorem inc_tu (d f) : (inc d f).tu = d.tu := (rfl)
theorem msix_tu (v d) : (msix v d).tu = d.tu := by rw [msix_shape]

/-! ## Schedule time set (R231 to R233) -/

/-- The fields that a start of schedule time writes. -/
def startFields : List Fld :=
  [Reg.TU_SCHED, Reg.TU_STATUS_STATE, Reg.TU_STATUS_VALID, Reg.CYC_TICK, Reg.CYC_STATUS_TICK_VALID, Reg.CYC_VTICK] ++ evCounts
/-- Schedule time written with the servo's state. -/
def startTime (st s : Nat) (d : Dev) : Dev := wrB (wr (wr d Reg.TU_SCHED s) Reg.TU_STATUS_STATE st) Reg.TU_STATUS_VALID true
/-- The ticks that follow schedule time. -/
def startTicks (s : Nat) (d : Dev) : Dev :=
  let d := wrB (wr d Reg.CYC_TICK (s / 125000)) Reg.CYC_STATUS_TICK_VALID true
  if modeIs d mSTOP then wr d Reg.CYC_VTICK (s / 125000) else d
theorem timeStart_eq (st s d) : timeStart st s d = record Ev.TIME_VALID [.w st, .q s, .q (rd (startTicks s (startTime st s d)) Reg.TU_EPOCH)]
    (macsRealign (tuSet (fun t => { t with frac := 0 }) (startTicks s (startTime st s d)))) := (rfl)
theorem startTime_regsBut (st s d) : regsBut [Reg.TU_SCHED, Reg.TU_STATUS_STATE, Reg.TU_STATUS_VALID] d (startTime st s d) :=
  ((regsBut_wr d Reg.TU_SCHED s).trans (regsBut_wr _ Reg.TU_STATUS_STATE st)).trans (wrB_regsBut _ Reg.TU_STATUS_VALID true)
theorem startTicks_regsBut (s d) : regsBut [Reg.CYC_TICK, Reg.CYC_STATUS_TICK_VALID, Reg.CYC_VTICK] d (startTicks s d) := by
  intro g hg
  simp only [List.forall_mem_cons, List.not_mem_nil, false_imp_iff, implies_true, and_true] at hg
  obtain ⟨ht, hv, hvt⟩ := hg
  unfold startTicks
  dsimp only
  split <;> simp only [rd_wr_ne _ _ hvt, rd_wrB_ne _ _ hv, rd_wr_ne _ _ ht]
theorem startTicks_tu (s d) : (startTicks s d).tu = d.tu := by
  unfold startTicks
  dsimp only
  split <;> rfl
/-- A start of schedule time writes the time and the state, then ticks and the event alone. -/
theorem timeStart_after (st s d) : regsBut ([Reg.CYC_TICK, Reg.CYC_STATUS_TICK_VALID, Reg.CYC_VTICK] ++ evCounts) (startTime st s d)
    (timeStart st s d) := by
  rw [timeStart_eq]
  exact ((startTicks_regsBut s _).both (tuSet_regsBut _ _ _)).both (tuSet_regsBut _ _ _) |>.trans (record_regsBut _ _ _)
theorem timeStart_regsBut (st s d) : regsBut startFields d (timeStart st s d) :=
  (startTime_regsBut st s d).trans (timeStart_after st s d)
/-- Schedule time is set and valid in a state of the servo. -/
theorem timeStart_spec {st : Nat} (hst : st < 16) (s d) :
    tuState (timeStart st s d) = st ∧ schedTime (timeStart st s d) = trunc 64 s ∧ schedValid (timeStart st s d) = true := by
  have hw := timeStart_after st s d
  refine ⟨?_, ?_, ?_⟩
  · rw [tuState, hw _ (by decide), startTime, rd_wrB_ne _ _ (by decide), rd_wr_same]
    exact trunc_of_lt hst
  · rw [schedTime, hw _ (by decide), startTime, rd_wrB_ne _ _ (by decide), rd_wr_ne _ _ (by decide), rd_wr_same]
    rfl
  · rw [schedValid, flag_of_regsBut hw (by decide), startTime, flag_wrB_same _ _ _ (by decide)]
/-- A start of schedule time keeps the Syncs counted and the steps held. -/
theorem timeStart_holds (st s d) : (timeStart st s d).tu.holds = d.tu.holds := by
  rw [timeStart_eq, record_tu]
  change (startTicks s (startTime st s d)).tu.holds = d.tu.holds
  rw [startTicks_tu]
  rfl

/-! ## Discontinuity and holdover (R241 to R243, R258) -/

/-- The discontinuity shown, before it is reported. -/
def discontinuityShown (d : Dev) : Dev :=
  tuSet (fun t => { t with judging := false, outliers := 0 }) (wr (wr d Reg.TU_STATUS_STATE tsDISCONTINUITY) Reg.TU_SLEW_NOW 0)
theorem timeDiscontinuity_eq (d) : timeDiscontinuity d = msix 14 (record Ev.TIME_DISCONTINUITY
    [.sq (discontinuityShown d).tu.theta, .q (rd (discontinuityShown d) Reg.TU_GM_ID)] (discontinuityShown d)) := (rfl)
theorem timeDiscontinuity_after (d) : regsBut evCounts (discontinuityShown d) (timeDiscontinuity d) := by
  rw [timeDiscontinuity_eq]
  exact (record_regsBut _ _ _).both (msix_regsBut _ _ _)
theorem timeDiscontinuity_regsBut (d) : regsBut ([Reg.TU_STATUS_STATE, Reg.TU_SLEW_NOW] ++ evCounts) d (timeDiscontinuity d) :=
  (((regsBut_wr d Reg.TU_STATUS_STATE _).trans (regsBut_wr _ Reg.TU_SLEW_NOW 0)).both (tuSet_regsBut _ _ _)).trans (timeDiscontinuity_after d)
theorem timeDiscontinuity_spec (d) : tuState (timeDiscontinuity d) = tsDISCONTINUITY ∧ rd (timeDiscontinuity d) Reg.TU_SLEW_NOW = 0 := by
  refine ⟨?_, ?_⟩
  · rw [tuState, timeDiscontinuity_after d _ (by decide), discontinuityShown, rd_tuSet, rd_wr_ne _ _ (by decide), rd_wr_same]
    rfl
  · rw [timeDiscontinuity_after d _ (by decide), discontinuityShown, rd_tuSet, rd_wr_same]
    rfl
theorem timeDiscontinuity_tu (d) : (timeDiscontinuity d).tu = { d.tu with judging := false, outliers := 0 } := by
  rw [timeDiscontinuity_eq, msix_tu, record_tu]
  rfl
theorem timeDiscontinuity_holds (d) : (timeDiscontinuity d).tu.holds = d.tu.holds := by rw [timeDiscontinuity_tu]
theorem holdoverLeft_regsBut (d) : regsBut evCounts d (holdoverLeft d) := (record_regsBut _ _ _).both (msix_regsBut _ _ _)
theorem holdoverLeft_tu (d) : (holdoverLeft d).tu = d.tu := by rw [holdoverLeft, msix_tu, record_tu]
/-- Holdover shown, before it is reported. -/
def holdoverShown (d : Dev) : Dev :=
  tuSet (fun t => { t with outliers := 0, judging := false }) (wr (wrB (wr (wr (wr d Reg.TU_STATUS_STATE tsHOLDOVER) Reg.TU_SLEW_NOW 0)
    Reg.TU_HOLDOVER 0) Reg.TU_STATUS_OFFSET_VALID false) Reg.TU_STATUS_SLAVE_PORT 7)
theorem holdoverEnter_eq (d) : holdoverEnter d = msix 14 (record Ev.HOLDOVER_ENTERED
    [.sq (holdoverShown d).tu.theta, .w (rd (holdoverShown d) Reg.TU_FREQ)] (holdoverShown d)) := (rfl)
theorem holdoverEnter_after (d) : regsBut evCounts (holdoverShown d) (holdoverEnter d) := by
  rw [holdoverEnter_eq]
  exact (record_regsBut _ _ _).both (msix_regsBut _ _ _)
theorem holdoverEnter_regsBut (d) :
    regsBut ([Reg.TU_STATUS_STATE, Reg.TU_SLEW_NOW, Reg.TU_HOLDOVER, Reg.TU_STATUS_OFFSET_VALID, Reg.TU_STATUS_SLAVE_PORT] ++ evCounts) d
      (holdoverEnter d) :=
  ((((((regsBut_wr d Reg.TU_STATUS_STATE _).trans (regsBut_wr _ Reg.TU_SLEW_NOW 0)).trans (regsBut_wr _ Reg.TU_HOLDOVER 0)).trans
    (wrB_regsBut _ Reg.TU_STATUS_OFFSET_VALID false)).trans (regsBut_wr _ Reg.TU_STATUS_SLAVE_PORT 7)).both (tuSet_regsBut _ _ _)).trans
    (holdoverEnter_after d)
/-- Holdover shows no offset, counts its seconds from 0, and slews no more. -/
theorem holdoverEnter_spec (d) : tuState (holdoverEnter d) = tsHOLDOVER ∧ rd (holdoverEnter d) Reg.TU_SLEW_NOW = 0 ∧
    rd (holdoverEnter d) Reg.TU_HOLDOVER = 0 ∧ flag (holdoverEnter d) Reg.TU_STATUS_OFFSET_VALID = false := by
  have ht := holdoverEnter_after d
  refine ⟨?_, ?_, ?_, ?_⟩
  · rw [tuState, ht _ (by decide)]
    simp (disch := decide) only [holdoverShown, rd_tuSet, rd_wr_ne, rd_wrB_ne, rd_wr_same]
    rfl
  · rw [ht _ (by decide)]
    simp (disch := decide) only [holdoverShown, rd_tuSet, rd_wr_ne, rd_wrB_ne, rd_wr_same]
    rfl
  · rw [ht _ (by decide)]
    simp (disch := decide) only [holdoverShown, rd_tuSet, rd_wr_ne, rd_wrB_ne, rd_wr_same]
    rfl
  · rw [flag_of_regsBut ht (by decide), holdoverShown, flag_tuSet, flag_wr_ne _ _ (by decide), flag_wrB_same _ _ _ (by decide)]

/-! ## The grandmaster shown (R258, R259) -/

theorem gmShow_spec (gm port d) : rd (gmShow gm port d) Reg.TU_GM_ID = trunc 64 gm ∧ regsBut ([Reg.TU_GM_ID] ++ evCounts) d (gmShow gm port d) := by
  refine ⟨?_, (regsBut_wr d Reg.TU_GM_ID gm).trans (record_regsBut _ _ _)⟩
  rw [gmShow, record_regsBut _ _ _ _ (by decide), rd_wr_same]
  rfl
theorem gmShow_tu (gm port d) : (gmShow gm port d).tu = d.tu := by rw [gmShow, record_tu, wr_tu]
theorem gmChange_own {d : Dev} (h : flag d Reg.TU_STATUS_GM = true) (gm port) : gmChange gm port d = d := if_pos (.inl h)
/-- While the module is not grandmaster, GM_ID is the grandmaster given from now on. -/
theorem rd_gmChange {d : Dev} (h : flag d Reg.TU_STATUS_GM = false) (gm port) : rd (gmChange gm port d) Reg.TU_GM_ID = trunc 64 gm := by
  unfold gmChange
  split
  · next hc => exact hc.resolve_left (by simp [h])
  · exact (gmShow_spec gm port d).1
theorem gmChange_regsBut (gm port d) : regsBut ([Reg.TU_GM_ID] ++ evCounts) d (gmChange gm port d) := by
  unfold gmChange
  split
  · exact regsBut_refl _ d
  · exact (gmShow_spec gm port d).2
theorem gmChange_tu (gm port d) : (gmChange gm port d).tu = d.tu := by
  unfold gmChange
  split
  · rfl
  · exact gmShow_tu _ _ d
/-- A judged sample ends the module's own grandmaster role. -/
theorem gmEnd_spec (d) : flag (gmEnd d) Reg.TU_STATUS_GM = false ∧ regsBut ([Reg.TU_STATUS_GM, Reg.TU_GM_ID] ++ evCounts) d (gmEnd d) ∧
    (gmEnd d).tu = d.tu := by
  unfold gmEnd
  split
  · refine ⟨?_, (wrB_regsBut d Reg.TU_STATUS_GM false).trans (gmChange_regsBut _ _ _), gmChange_tu _ _ _⟩
    rw [flag_of_regsBut (gmChange_regsBut _ _ _) (by decide), flag_wrB_same _ _ _ (by decide)]
  · next h => exact ⟨by simpa using h, regsBut_refl _ d, rfl⟩

/-! ## The servo (R229, R239, R240) -/

theorem showTheta_regsBut (theta d) : regsBut [Reg.TU_OFFSET, Reg.TU_STATUS_OFFSET_VALID] d (showTheta theta d) :=
  ((regsBut_wr d Reg.TU_OFFSET _).trans (wrB_regsBut _ _ _)).both (tuSet_regsBut _ _ _)
theorem showTheta_tu (theta d) : (showTheta theta d).tu = { d.tu with theta := theta } := (rfl)
theorem showTheta_holds (theta d) : (showTheta theta d).tu.holds = d.tu.holds := (rfl)
/-- A signed number of 32 bits is read back from its pattern. -/
theorem toSigned_ofSigned {i : Int} (hlo : -2 ^ 31 ≤ i) (hhi : i < 2 ^ 31) : toSigned 32 (ofSigned 32 i) = i := by
  simp only [toSigned, ofSigned]
  norm_num at hlo hhi ⊢
  split <;> omega
theorem clampInt_within {lo hi : Int} (h : lo ≤ hi) (i) : lo ≤ clampInt lo hi i ∧ clampInt lo hi i ≤ hi := by
  unfold clampInt
  split_ifs <;> omega
/-- The frequency stays within 200 ppm. -/
theorem servoUpdate_spec (theta d) : (toSigned 32 (rd (servoUpdate theta d) Reg.TU_FREQ)).natAbs ≤ 200000000 ∧
    regsBut [Reg.TU_FREQ, Reg.TU_SLEW_NOW] d (servoUpdate theta d) ∧ (servoUpdate theta d).tu = d.tu := by
  refine ⟨?_, fun g hg => ?_, rfl⟩
  · obtain ⟨hlo, hhi⟩ := clampInt_within (lo := -200000000) (hi := 200000000) (by decide) (toSigned 32 (freeNat d))
    have hf : rd (servoUpdate theta d) Reg.TU_FREQ = ofSigned 32 (clampInt (-200000000) 200000000 (toSigned 32 (freeNat d))) := by
      refine (rd_wr_ne _ _ (by decide)).trans ((rd_wr_same _ _ _).trans (trunc_of_lt ?_))
      unfold ofSigned
      have : (Reg.TU_FREQ).w = 32 := rfl
      rw [this]
      norm_num
      omega
    rw [hf, toSigned_ofSigned (by omega) (by omega)]
    omega
  · simp only [List.forall_mem_cons, List.not_mem_nil, false_imp_iff, implies_true, and_true] at hg
    obtain ⟨hf, hs⟩ := hg
    exact (rd_wr_ne _ _ hs).trans (rd_wr_ne _ _ hf)

/-- Everything but registers, the recorder, messages, the Time unit and the free values. -/
def servoView (d : Dev) : Dev := { d with regs := [], ev := EvUnit.rest, out := [], msix := Msix.rest, once := [], tu := TuUnit.rest, free := 0 }
theorem reportsOnly_of_servoView {d t : Dev} (h : servoView t = servoView d) : reportsOnly { d with tu := t.tu, free := t.free } t := by
  cases d
  cases t
  simpa [reportsOnly, servoView] using h
@[simp] theorem servoView_ite (p : Prop) [Decidable p] (a b : Dev) : servoView (if p then a else b) = if p then servoView a else servoView b :=
  apply_ite servoView p a b
@[simp] theorem wr_servoView (d f v) : servoView (wr d f v) = servoView d := (rfl)
@[simp] theorem wrB_servoView (d f b) : servoView (wrB d f b) = servoView d := (rfl)
@[simp] theorem tuSet_servoView (f d) : servoView (tuSet f d) = servoView d := (rfl)
@[simp] theorem msix_servoView (v d) : servoView (msix v d) = servoView d := by rw [msix_shape]; rfl
@[simp] theorem record_servoView (c l d) : servoView (record c l d) = servoView d := by rw [record_shape]; rfl

end Sys2Proof.Machine
end

section
/-!
SUPPORT. What a Sync does: the initial set of schedule time, a sample within JUMP_THRESH or outside it (R232, R239 to R243).
-/
namespace Sys2Proof.Machine

/-! ## The initial set (R231, R232) -/

/-- The fields that a review of ACQUIRE can write. -/
def acquireFields : List Fld := startFields ++ [Reg.TU_OFFSET, Reg.TU_STATUS_OFFSET_VALID, Reg.TU_SLEW_NOW]
/-- The master's time less E that the initial set aims at: that of the last Sync, run on since, with the path delay. -/
def initialTime (port : Nat) (d : Dev) : Int := (d.tu.acqAt.1 + (d.clk - d.tu.acqAt.2) : Nat) + (rd d (Reg.TU_PORT_PD port) : Int) - epochE d
/-- The floor reported and the offset to it shown, before schedule time starts at the floor. -/
def floorShown (port : Nat) (d : Dev) : Dev :=
  let d' := record Ev.TIME_FLOOR [.q d.bp.savedS, .sq (initialTime port d)] d
  showTheta (initialTime port d + toSigned 32 (rd d' (Reg.TU_ASYM port)) - (timeFloor d : Int)) d'
theorem initialSet_floor {port : Nat} {d : Dev} (h : initialTime port d < (timeFloor d : Int)) :
    initialSet port d = timeDiscontinuity (timeStart tsDISCONTINUITY (timeFloor d) (floorShown port d)) := if_pos h
theorem initialSet_above {port : Nat} {d : Dev} (h : ¬ initialTime port d < (timeFloor d : Int)) :
    initialSet port d = timeStart tsTRACKING (initialTime port d).toNat d := if_neg h
theorem floorShown_regsBut (port d) : regsBut (evCounts ++ [Reg.TU_OFFSET, Reg.TU_STATUS_OFFSET_VALID]) d (floorShown port d) :=
  (record_regsBut _ _ _).trans (showTheta_regsBut _ _)
theorem floorShown_holds (port d) : (floorShown port d).tu.holds = d.tu.holds := by
  rw [floorShown, showTheta_holds, record_tu]
theorem initialSet_regsBut (port d) : regsBut acquireFields d (initialSet port d) := by
  by_cases h : initialTime port d < (timeFloor d : Int)
  · rw [initialSet_floor h]
    exact (((floorShown_regsBut port d).trans (timeStart_regsBut _ _ _)).trans (timeDiscontinuity_regsBut _)).mono (by decide)
  · rw [initialSet_above h]
    exact (timeStart_regsBut _ _ _).mono (by decide)
theorem initialSet_holds (port d) : (initialSet port d).tu.holds = d.tu.holds := by
  by_cases h : initialTime port d < (timeFloor d : Int)
  · rw [initialSet_floor h, timeDiscontinuity_holds, timeStart_holds, floorShown_holds]
  · rw [initialSet_above h, timeStart_holds]
/-- Neither way of setting schedule time slews. -/
theorem initialSet_slew {d : Dev} (h : rd d Reg.TU_SLEW_NOW = 0) (port) : rd (initialSet port d) Reg.TU_SLEW_NOW = 0 := by
  by_cases hv : initialTime port d < (timeFloor d : Int)
  · rw [initialSet_floor hv]
    exact (timeDiscontinuity_spec _).2
  · rw [initialSet_above hv, timeStart_regsBut _ _ _ _ (by decide), h]
/-- Schedule time starts at the time aimed at, and never below the floor. -/
theorem initialSet_spec (port d) : schedValid (initialSet port d) = true ∧
    if (timeFloor d : Int) ≤ initialTime port d then
      tuState (initialSet port d) = tsTRACKING ∧ schedTime (initialSet port d) = trunc 64 (initialTime port d).toNat
    else tuState (initialSet port d) = tsDISCONTINUITY ∧ schedTime (initialSet port d) = trunc 64 (timeFloor d) := by
  by_cases h : initialTime port d < (timeFloor d : Int)
  · obtain ⟨-, hs, hv⟩ := timeStart_spec (st := tsDISCONTINUITY) (by decide) (timeFloor d) (floorShown port d)
    have ht := timeDiscontinuity_regsBut (timeStart tsDISCONTINUITY (timeFloor d) (floorShown port d))
    rw [if_neg (by omega), initialSet_floor h]
    exact ⟨(flag_of_regsBut ht (by decide)).trans hv, (timeDiscontinuity_spec _).1, (ht _ (by decide)).trans hs⟩
  · obtain ⟨hst, hs, hv⟩ := timeStart_spec (st := tsTRACKING) (by decide) (initialTime port d).toNat d
    rw [if_pos (by omega), initialSet_above h]
    exact ⟨hv, hst, hs⟩

/-- Four Syncs of the selected master and a path delay are there. -/
def acquireReady (d : Dev) : Prop :=
  tuState d = tsACQUIRE ∧ 4 ≤ d.tu.acqSyncs ∧ rd d Reg.TU_STATUS_SLAVE_PORT < 6 ∧
    flag d (Reg.TU_PORT_STATE_PD_VALID (rd d Reg.TU_STATUS_SLAVE_PORT)) = true
theorem acquireReview_sets {d : Dev} (h : acquireReady d) : acquireReview d = initialSet (rd d Reg.TU_STATUS_SLAVE_PORT) d := if_pos h
theorem acquireReview_waits {d : Dev} (h : ¬ acquireReady d) : acquireReview d = d := if_neg h
theorem acquireReview_other {d : Dev} (h : tuState d ≠ tsACQUIRE) : acquireReview d = d := acquireReview_waits fun hr => h hr.1
theorem acquireReview_regsBut (d) : regsBut acquireFields d (acquireReview d) := by
  by_cases h : acquireReady d
  · rw [acquireReview_sets h]
    exact initialSet_regsBut _ d
  · rw [acquireReview_waits h]
    exact regsBut_refl _ d
theorem acquireReview_holds (d) : (acquireReview d).tu.holds = d.tu.holds := by
  by_cases h : acquireReady d
  · rw [acquireReview_sets h, initialSet_holds]
  · rw [acquireReview_waits h]
theorem acquireReview_slew {d : Dev} (h : rd d Reg.TU_SLEW_NOW = 0) : rd (acquireReview d) Reg.TU_SLEW_NOW = 0 := by
  by_cases hr : acquireReady d
  · rw [acquireReview_sets hr]
    exact initialSet_slew h _
  · rw [acquireReview_waits hr, h]

/-! ## A sample of the servo (R239 to R241, R259) -/

/-- Holdover left by the sample that ends it. -/
def leftHoldover (d : Dev) : Dev := if tuState d = tsHOLDOVER then holdoverLeft d else d
/-- A sample within JUMP_THRESH. -/
def servoInside (theta : Int) (d : Dev) : Dev :=
  servoUpdate theta (gmEnd (tuSet (fun t => { t with outliers := 0, judging := false }) (wr (leftHoldover d) Reg.TU_STATUS_STATE tsTRACKING)))
/-- A sample outside JUMP_THRESH counted. -/
def outlierCounted (d : Dev) : Dev := tuSet (fun t => { t with outliers := t.outliers + 1 }) (inc d Reg.TU_SAMPLES_OUTLIERS)
theorem servoSample_inside {theta : Int} {d : Dev} (hp : flag d Reg.TU_STATUS_HOLD_PD = false) (h : thetaSmall d theta = true) :
    servoSample theta d = servoInside theta d := (if_neg (by simp [hp])).trans (if_pos h)
theorem servoSample_held {d : Dev} (hp : flag d Reg.TU_STATUS_HOLD_PD = true) (theta) : servoSample theta d = d := if_pos hp
theorem servoSample_outside {theta : Int} {d : Dev} (hp : flag d Reg.TU_STATUS_HOLD_PD = false) (h : thetaSmall d theta = false) :
    servoSample theta d = if d.tu.outliers + 1 < 3 then outlierCounted d else timeDiscontinuity (gmEnd (leftHoldover (outlierCounted d))) :=
  (if_neg (by simp [hp])).trans (if_neg (by simp [h]))
theorem leftHoldover_regsBut (d) : regsBut evCounts d (leftHoldover d) := by
  unfold leftHoldover
  split
  · exact holdoverLeft_regsBut d
  · exact regsBut_refl _ d
theorem leftHoldover_tu (d) : (leftHoldover d).tu = d.tu := by
  unfold leftHoldover
  split
  · exact holdoverLeft_tu d
  · rfl
/-- The fields that a sample within JUMP_THRESH writes. -/
def insideFields : List Fld := [Reg.TU_STATUS_STATE, Reg.TU_STATUS_GM, Reg.TU_GM_ID, Reg.TU_FREQ, Reg.TU_SLEW_NOW] ++ evCounts
theorem servoInside_regsBut (theta d) : regsBut insideFields d (servoInside theta d) :=
  ((((leftHoldover_regsBut d).trans (regsBut_wr _ Reg.TU_STATUS_STATE _)).both (tuSet_regsBut _ _ _)).trans (gmEnd_spec _).2.1).trans
    (servoUpdate_spec theta _).2.1 |>.mono (by decide)
theorem servoInside_tu (theta d) : (servoInside theta d).tu = { d.tu with outliers := 0, judging := false } := by
  rw [servoInside, (servoUpdate_spec theta _).2.2, (gmEnd_spec _).2.2, tuSet_tu, wr_tu, leftHoldover_tu]
theorem tuState_servoInside (theta d) : tuState (servoInside theta d) = tsTRACKING := by
  rw [servoInside, tuState, (servoUpdate_spec theta _).2.1 _ (by decide), (gmEnd_spec _).2.1 _ (by decide), rd_tuSet, rd_wr_same]
  rfl
/-- The module that judges another master's sample is no longer grandmaster. -/
theorem flag_gm_servoInside (theta d) : flag (servoInside theta d) Reg.TU_STATUS_GM = false := by
  rw [servoInside, flag_of_regsBut (servoUpdate_spec theta _).2.1 (by decide), (gmEnd_spec _).1]

/-! ### What a sample leaves alone -/

@[simp] theorem inc_servoView (d f) : servoView (inc d f) = servoView d := (rfl)
@[simp] theorem showTheta_servoView (theta d) : servoView (showTheta theta d) = servoView d := (rfl)
@[simp] theorem gmShow_servoView (gm port d) : servoView (gmShow gm port d) = servoView d := by rw [gmShow, record_servoView, wr_servoView]
@[simp] theorem gmChange_servoView (gm port d) : servoView (gmChange gm port d) = servoView d := by
  rw [gmChange, servoView_ite, gmShow_servoView, ite_self]
@[simp] theorem gmEnd_servoView (d) : servoView (gmEnd d) = servoView d := by
  rw [gmEnd, servoView_ite, gmChange_servoView, wrB_servoView, ite_self]
@[simp] theorem holdoverLeft_servoView (d) : servoView (holdoverLeft d) = servoView d := by
  rw [holdoverLeft, msix_servoView, record_servoView]
@[simp] theorem leftHoldover_servoView (d) : servoView (leftHoldover d) = servoView d := by
  rw [leftHoldover, servoView_ite, holdoverLeft_servoView, ite_self]
@[simp] theorem servoUpdate_servoView (theta d) : servoView (servoUpdate theta d) = servoView d := (rfl)
theorem servoInside_servoView (theta d) : servoView (servoInside theta d) = servoView d := by simp [servoInside]

/-! ## The Sync -/

/-- A Sync that counts: of the slave port, which takes part, while SOURCE allows a master (R235, R237). -/
def syncHeard (d : Dev) (port : Nat) : Prop := ptpPort d port = true ∧ rd d Reg.TU_STATUS_SLAVE_PORT = port ∧ tuSource d ≠ 3
theorem syncReceived_ignored {d : Dev} {port : Nat} (h : ¬ syncHeard d port) (origin rxS) : syncReceived port origin rxS d = d := by
  refine if_pos ?_
  by_contra hc
  simp only [not_or, Bool.not_eq_true', Bool.not_eq_false, not_not] at hc
  exact h ⟨by simpa using hc.1, hc.2.1, hc.2.2⟩
section
variable {d : Dev} {port : Nat} (h : syncHeard d port) (origin rxS : Nat)
include h
theorem syncHeard_guard : ¬ (!ptpPort d port ∨ rd d Reg.TU_STATUS_SLAVE_PORT ≠ port ∨ tuSource d = 3) := by
  obtain ⟨hp, hs, hc⟩ := h
  simp [hp, hs, hc]
theorem syncReceived_unset (hst : tuState d = tsUNSET) : syncReceived port origin rxS d =
    emit (.ptp port (if rd d Reg.TU_CFG_PROFILE = 0 then 2 else 3) (trainTime d))
      (tuSet (fun t => { t with acqSyncs := 1, acqAt := (origin, d.clk) }) (wr d Reg.TU_STATUS_STATE tsACQUIRE)) := by
  refine (if_neg (syncHeard_guard h)).trans ((if_pos hst).trans ?_)
  have hp : rd (wr d Reg.TU_STATUS_STATE tsACQUIRE) Reg.TU_CFG_PROFILE = rd d Reg.TU_CFG_PROFILE := rd_wr_ne _ _ (by decide)
  have ht : trainTime (wr d Reg.TU_STATUS_STATE tsACQUIRE) = trainTime d := by
    simp (disch := decide) only [trainTime, schedTime, epochE, rd_wr_ne]
  change emit (.ptp port (if rd (wr d Reg.TU_STATUS_STATE tsACQUIRE) Reg.TU_CFG_PROFILE = 0 then 2 else 3)
    (trainTime (wr d Reg.TU_STATUS_STATE tsACQUIRE))) _ = _
  rw [hp, ht]
theorem syncReceived_acquire (hst : tuState d = tsACQUIRE) : syncReceived port origin rxS d =
    acquireReview (tuSet (fun t => { t with acqSyncs := t.acqSyncs + 1, acqAt := (origin, d.clk) }) d) :=
  (if_neg (syncHeard_guard h)).trans ((if_neg (by rw [hst]; decide)).trans (if_pos hst))
theorem syncReceived_judged (hst : tuState d = tsTRACKING ∨ tuState d = tsHOLDOVER ∨ (tuState d = tsGRANDMASTER ∧ d.tu.judging = true)) :
    syncReceived port origin rxS d = servoSample (syncTheta d port origin rxS) (showTheta (syncTheta d port origin rxS) d) := by
  have hu : tuState d ≠ tsUNSET := by rcases hst with e | e | ⟨e, -⟩ <;> rw [e] <;> decide
  have ha : tuState d ≠ tsACQUIRE := by rcases hst with e | e | ⟨e, -⟩ <;> rw [e] <;> decide
  exact (if_neg (syncHeard_guard h)).trans ((if_neg hu).trans ((if_neg ha).trans (if_pos hst)))
theorem syncReceived_shown (hu : tuState d ≠ tsUNSET) (ha : tuState d ≠ tsACQUIRE)
    (hst : ¬ (tuState d = tsTRACKING ∨ tuState d = tsHOLDOVER ∨ (tuState d = tsGRANDMASTER ∧ d.tu.judging = true))) :
    syncReceived port origin rxS d = showTheta (syncTheta d port origin rxS) d :=
  (if_neg (syncHeard_guard h)).trans ((if_neg hu).trans ((if_neg ha).trans (if_neg hst)))
end

end Sys2Proof.Machine
end

section
/-!
SUPPORT. What a Sync leaves (R232, R239 to R243, R259).
-/
namespace Sys2Proof.Machine

section
variable {d : Dev} {port : Nat} (h : syncHeard d port) (origin rxS : Nat)
include h

theorem syncReceived_unset_leaves (hst : tuState d = tsUNSET) :
    tuState (syncReceived port origin rxS d) = tsACQUIRE ∧
      (syncReceived port origin rxS d).tu = { d.tu with acqSyncs := 1, acqAt := (origin, d.clk) } ∧
      (syncReceived port origin rxS d).out = d.out ++ [.ptp port (if rd d Reg.TU_CFG_PROFILE = 0 then 2 else 3) (trainTime d)] ∧
      regsBut [Reg.TU_STATUS_STATE] d (syncReceived port origin rxS d) := by
  rw [syncReceived_unset h _ _ hst]
  refine ⟨?_, rfl, rfl, (regsBut_wr d Reg.TU_STATUS_STATE tsACQUIRE).both (regsBut_of_regs rfl _)⟩
  exact (rd_wr_same d Reg.TU_STATUS_STATE tsACQUIRE).trans rfl
theorem syncReceived_acquire_waits (hst : tuState d = tsACQUIRE)
    (hw : d.tu.acqSyncs < 3 ∨ flag d (Reg.TU_PORT_STATE_PD_VALID port) = false) :
    syncReceived port origin rxS d = { d with tu := { d.tu with acqSyncs := d.tu.acqSyncs + 1, acqAt := (origin, d.clk) } } := by
  rw [syncReceived_acquire h _ _ hst]
  refine acquireReview_waits fun ⟨_, h4, _, hv⟩ => ?_
  rw [rd_tuSet, flag_tuSet, h.2.1] at hv
  change 4 ≤ d.tu.acqSyncs + 1 at h4
  rcases hw with hn | hn
  · omega
  · exact absurd (hv.symm.trans hn) (by decide)
theorem syncReceived_acquire_sets (hst : tuState d = tsACQUIRE) (h3 : 3 ≤ d.tu.acqSyncs) (hv : flag d (Reg.TU_PORT_STATE_PD_VALID port) = true)
    (hp : port < 6) : schedValid (syncReceived port origin rxS d) = true ∧
      if (timeFloor d : Int) ≤ (origin : Int) + (rd d (Reg.TU_PORT_PD port) : Int) - epochE d then
        tuState (syncReceived port origin rxS d) = tsTRACKING ∧
        schedTime (syncReceived port origin rxS d) = trunc 64 ((origin : Int) + (rd d (Reg.TU_PORT_PD port) : Int) - epochE d).toNat
      else tuState (syncReceived port origin rxS d) = tsDISCONTINUITY ∧ schedTime (syncReceived port origin rxS d) = trunc 64 (timeFloor d) := by
  rw [syncReceived_acquire h _ _ hst]
  have hs := h.2.1
  have hready : acquireReady (tuSet (fun t => { t with acqSyncs := t.acqSyncs + 1, acqAt := (origin, d.clk) }) d) := by
    refine ⟨hst, ?_, ?_, ?_⟩
    · rw [tuSet_tu]
      exact Nat.add_le_add_right h3 1
    · rw [rd_tuSet, hs]
      exact hp
    · rw [flag_tuSet, rd_tuSet, hs, hv]
  rw [acquireReview_sets hready, rd_tuSet, hs]
  have ht : initialTime port (tuSet (fun t => { t with acqSyncs := t.acqSyncs + 1, acqAt := (origin, d.clk) }) d)
      = (origin : Int) + (rd d (Reg.TU_PORT_PD port) : Int) - epochE d := by
    change ((origin + (d.clk - d.clk) : Nat) : Int) + _ - _ = _
    rw [Nat.sub_self, Nat.add_zero]
    rfl
  have hspec := initialSet_spec port (tuSet (fun t => { t with acqSyncs := t.acqSyncs + 1, acqAt := (origin, d.clk) }) d)
  rw [ht] at hspec
  exact hspec

/-! ## Samples -/

variable (hst : tuState d = tsTRACKING ∨ tuState d = tsHOLDOVER ∨ (tuState d = tsGRANDMASTER ∧ d.tu.judging = true))
  (hp : flag d Reg.TU_STATUS_HOLD_PD = false)
include hst hp

theorem syncReceived_inside (hin : thetaSmall d (syncTheta d port origin rxS) = true) :
    syncReceived port origin rxS d = servoInside (syncTheta d port origin rxS) (showTheta (syncTheta d port origin rxS) d) := by
  have ht := showTheta_regsBut (syncTheta d port origin rxS) d
  rw [syncReceived_judged h _ _ hst]
  refine servoSample_inside ((flag_of_regsBut ht (by decide)).trans hp) ?_
  rw [thetaSmall, ht _ (by decide)]
  exact hin
theorem syncReceived_outside (hout : thetaSmall d (syncTheta d port origin rxS) = false) :
    syncReceived port origin rxS d = if d.tu.outliers + 1 < 3 then outlierCounted (showTheta (syncTheta d port origin rxS) d)
      else timeDiscontinuity (gmEnd (leftHoldover (outlierCounted (showTheta (syncTheta d port origin rxS) d)))) := by
  have ht := showTheta_regsBut (syncTheta d port origin rxS) d
  rw [syncReceived_judged h _ _ hst]
  refine servoSample_outside ((flag_of_regsBut ht (by decide)).trans hp) ?_
  rw [thetaSmall, ht _ (by decide)]
  exact hout
/-- A sample within JUMP_THRESH: TRACKING with a frequency within 200 ppm. -/
theorem syncReceived_inside_leaves (hin : thetaSmall d (syncTheta d port origin rxS) = true) :
    tuState (syncReceived port origin rxS d) = tsTRACKING ∧ (syncReceived port origin rxS d).tu.outliers = 0 ∧
      (syncReceived port origin rxS d).tu.theta = syncTheta d port origin rxS ∧ schedTime (syncReceived port origin rxS d) = schedTime d ∧
      (toSigned 32 (rd (syncReceived port origin rxS d) Reg.TU_FREQ)).natAbs ≤ 200000000 ∧
      flag (syncReceived port origin rxS d) Reg.TU_STATUS_GM = false ∧
      reportsOnly { d with tu := (syncReceived port origin rxS d).tu, free := (syncReceived port origin rxS d).free }
        (syncReceived port origin rxS d) := by
  rw [syncReceived_inside h _ _ hst hp hin]
  generalize syncTheta d port origin rxS = theta
  have ht : regsBut _ d (servoInside theta (showTheta theta d)) := (showTheta_regsBut theta d).trans (servoInside_regsBut theta _)
  refine ⟨tuState_servoInside _ _, ?_, ?_, ht _ (by decide), (servoUpdate_spec theta _).1, flag_gm_servoInside _ _, ?_⟩
  · rw [servoInside_tu]
  · rw [servoInside_tu, showTheta_tu]
  · exact reportsOnly_of_servoView ((servoInside_servoView theta _).trans (showTheta_servoView theta d))
/-- A first or second sample outside JUMP_THRESH is only counted. -/
theorem syncReceived_outlier_leaves (hout : thetaSmall d (syncTheta d port origin rxS) = false) (hn : d.tu.outliers < 2) :
    tuState (syncReceived port origin rxS d) = tuState d ∧ (syncReceived port origin rxS d).tu.outliers = d.tu.outliers + 1 ∧
      schedTime (syncReceived port origin rxS d) = schedTime d ∧ rd (syncReceived port origin rxS d) Reg.TU_FREQ = rd d Reg.TU_FREQ ∧
      rd (syncReceived port origin rxS d) Reg.TU_SAMPLES_OUTLIERS =
        satAdd Reg.TU_SAMPLES_OUTLIERS.w (rd d Reg.TU_SAMPLES_OUTLIERS) 1 := by
  rw [syncReceived_outside h _ _ hst hp hout, if_pos (by omega)]
  generalize syncTheta d port origin rxS = theta
  have hth := showTheta_regsBut theta d
  have ht : regsBut _ d (outlierCounted (showTheta theta d)) := hth.trans ((inc_regsBut _ Reg.TU_SAMPLES_OUTLIERS).both (tuSet_regsBut _ _ _))
  refine ⟨ht _ (by decide), rfl, ht _ (by decide), ht _ (by decide), ?_⟩
  rw [outlierCounted, rd_tuSet, rd_inc_same, hth _ (by decide)]
/-- The third in a row shows DISCONTINUITY. -/
theorem syncReceived_third_leaves (hout : thetaSmall d (syncTheta d port origin rxS) = false) (hn : 2 ≤ d.tu.outliers) :
    tuState (syncReceived port origin rxS d) = tsDISCONTINUITY ∧ rd (syncReceived port origin rxS d) Reg.TU_SLEW_NOW = 0 ∧
      schedTime (syncReceived port origin rxS d) = schedTime d := by
  rw [syncReceived_outside h _ _ hst hp hout, if_neg (by omega)]
  generalize syncTheta d port origin rxS = theta
  have hc : regsBut [Reg.TU_SAMPLES_OUTLIERS] (showTheta theta d) (outlierCounted (showTheta theta d)) :=
    (inc_regsBut _ Reg.TU_SAMPLES_OUTLIERS).both (tuSet_regsBut _ _ _)
  have ht := ((((showTheta_regsBut theta d).trans hc).trans (leftHoldover_regsBut _)).trans (gmEnd_spec _).2.1).trans (timeDiscontinuity_regsBut _)
  exact ⟨(timeDiscontinuity_spec _).1, (timeDiscontinuity_spec _).2, ht _ (by decide)⟩
omit hp hst in
/-- Where a step is held, a sample is only shown. -/
theorem syncReceived_held (hu : tuState d ≠ tsUNSET) (ha : tuState d ≠ tsACQUIRE) (hh : flag d Reg.TU_STATUS_HOLD_PD = true) :
    syncReceived port origin rxS d = showTheta (syncTheta d port origin rxS) d := by
  by_cases hj : tuState d = tsTRACKING ∨ tuState d = tsHOLDOVER ∨ (tuState d = tsGRANDMASTER ∧ d.tu.judging = true)
  · rw [syncReceived_judged h _ _ hj]
    exact servoSample_held ((flag_of_regsBut (showTheta_regsBut _ d) (by decide)).trans hh) _
  · exact syncReceived_shown h _ _ hu ha hj
end

end Sys2Proof.Machine
end

section
/-!
SUPPORT. Path delays of the ports: taken, held as a step, accepted (R240, R252).
-/
namespace Sys2Proof.Machine

/-! ## The fields of a port's path delay -/

/-- The fields that show the path delay of a port. -/
def pdFields (port : Nat) : List Fld := [Reg.TU_PORT_PD port, Reg.TU_PORT_STATE_PD_VALID port, Reg.TU_PATH_DELAY]
theorem acquireFields_pd {port : Nat} (hp : port < 6) : ∀ f ∈ acquireFields, fldKey f ≠ fldKey (Reg.TU_PORT_PD port) := by
  revert port
  decide
theorem acquireFields_pdValid {port : Nat} (hp : port < 6) : ∀ f ∈ acquireFields, fldKey f ≠ fldKey (Reg.TU_PORT_STATE_PD_VALID port) := by
  revert port
  decide
theorem pdFields_state {port : Nat} (hp : port < 6) : ∀ f ∈ pdFields port, fldKey f ≠ fldKey Reg.TU_STATUS_STATE := by
  revert port
  decide

/-- The path delay of a port shown, and that of the slave port. -/
def pdShown (port v : Nat) (d : Dev) : Dev :=
  let d' := wrB (wr d (Reg.TU_PORT_PD port) v) (Reg.TU_PORT_STATE_PD_VALID port) true
  if rd d Reg.TU_STATUS_SLAVE_PORT = port then wr d' Reg.TU_PATH_DELAY v else d'
theorem pdShown_regsBut (port v d) : regsBut (pdFields port) d (pdShown port v d) := by
  have h : regsBut ([Reg.TU_PORT_PD port] ++ [Reg.TU_PORT_STATE_PD_VALID port]) d
      (wrB (wr d (Reg.TU_PORT_PD port) v) (Reg.TU_PORT_STATE_PD_VALID port) true) := (regsBut_wr d _ v).trans (wrB_regsBut _ _ true)
  unfold pdShown
  dsimp only
  split
  · exact h.trans (regsBut_wr _ Reg.TU_PATH_DELAY v)
  · exact h.mono (by simp [pdFields])
theorem pdShown_tu (port v d) : (pdShown port v d).tu = d.tu := by
  unfold pdShown
  dsimp only
  split <;> rfl
theorem pdValid_ne_pd (port : Nat) : fldKey (Reg.TU_PORT_STATE_PD_VALID port) ≠ fldKey (Reg.TU_PORT_PD port) := by
  simp only [fldKey, Reg.TU_PORT_STATE_PD_VALID, Reg.TU_PORT_PD]
  omega
theorem pathDelay_ne_pd {port : Nat} (hp : port < 6) : fldKey Reg.TU_PATH_DELAY ≠ fldKey (Reg.TU_PORT_PD port) := by
  revert port
  decide
theorem pathDelay_ne_pdValid {port : Nat} (hp : port < 6) : fldKey Reg.TU_PATH_DELAY ≠ fldKey (Reg.TU_PORT_STATE_PD_VALID port) := by
  revert port
  decide
theorem pdShown_spec {port : Nat} (hp : port < 6) (v d) : rd (pdShown port v d) (Reg.TU_PORT_PD port) = trunc (Reg.TU_PORT_PD port).w v ∧
    flag (pdShown port v d) (Reg.TU_PORT_STATE_PD_VALID port) = true := by
  have hv := pdValid_ne_pd port
  unfold pdShown
  dsimp only
  split
  · rw [rd_wr_ne _ _ (pathDelay_ne_pd hp), rd_wrB_ne _ _ hv, rd_wr_same, flag_wr_ne _ _ (pathDelay_ne_pdValid hp)]
    exact ⟨rfl, flag_wrB_same _ _ _ (by simp [Reg.TU_PORT_STATE_PD_VALID])⟩
  · rw [rd_wrB_ne _ _ hv, rd_wr_same]
    exact ⟨rfl, flag_wrB_same _ _ _ (by simp [Reg.TU_PORT_STATE_PD_VALID])⟩

/-! ## HOLD_PD (R240) -/

theorem holdShow_regsBut (d) : regsBut [Reg.TU_STATUS_HOLD_PD, Reg.TU_SLEW_NOW] d (holdShow d) := by
  unfold holdShow
  dsimp only
  split
  · exact (wrB_regsBut d Reg.TU_STATUS_HOLD_PD _).mono (by decide)
  · exact (wrB_regsBut d Reg.TU_STATUS_HOLD_PD _).trans (regsBut_wr _ Reg.TU_SLEW_NOW 0)
theorem holdShow_tu (d) : (holdShow d).tu = d.tu := by
  unfold holdShow
  dsimp only
  split <;> rfl
/-- While a step is held, HOLD_PD shows it and nothing slews. -/
theorem holdShow_spec {d : Dev} (h : d.tu.holds ≠ []) : flag (holdShow d) Reg.TU_STATUS_HOLD_PD = true ∧ rd (holdShow d) Reg.TU_SLEW_NOW = 0 := by
  have he : d.tu.holds.isEmpty = false := by simpa using h
  have hs : holdShow d = wr (wrB d Reg.TU_STATUS_HOLD_PD true) Reg.TU_SLEW_NOW 0 := by
    change (if d.tu.holds.isEmpty then wrB d Reg.TU_STATUS_HOLD_PD (!d.tu.holds.isEmpty)
      else wr (wrB d Reg.TU_STATUS_HOLD_PD (!d.tu.holds.isEmpty)) Reg.TU_SLEW_NOW 0) = _
    rw [he]
    rfl
  rw [hs, flag_wr_ne _ _ (by decide), flag_wrB_same _ _ _ (by decide), rd_wr_same]
  exact ⟨rfl, rfl⟩
theorem holdFields_pd {port : Nat} (hp : port < 6) :
    ∀ f ∈ [Reg.TU_STATUS_HOLD_PD, Reg.TU_SLEW_NOW], fldKey f ≠ fldKey (Reg.TU_PORT_PD port) := by
  revert port
  decide

/-! ## What a measurement does (R252) -/

/-- The distance of two path delays. -/
def pdDistance (a b : Nat) : Nat := ((a : Int) - (b : Int)).natAbs
/-- A first step held and counted. -/
def pdStepHeld (port ns : Nat) (d : Dev) : Dev :=
  record Ev.PATH_DELAY_STEP [.w port, .w (rd d (Reg.TU_PORT_PD port)), .w ns]
    (inc (holdShow (tuSet (fun t => { t with holds := mput t.holds port ⟨ns, 1, ns⟩ }) d)) Reg.TU_SAMPLES_PD_STEPS)
/-- A step that ends. -/
def pdStepEnded (port : Nat) (d : Dev) : Dev := holdShow (tuSet (fun t => { t with holds := mdel t.holds port }) d)
/-- The step held after one more measurement: another value starts anew. -/
def pdStepNext (step ns : Nat) (h : PdHold) : PdHold :=
  if step < 4 * ((ns : Int) - (h.first : Int)).natAbs then ⟨ns, 1, ns⟩ else ⟨h.first, h.count + 1, h.sum + ns⟩
/-- A step that HOLD_N measurements agree on, accepted. -/
def pdStepAccepted (port v : Nat) (d : Dev) : Dev :=
  record Ev.PATH_DELAY_ACCEPTED [.w port, .w v] (holdShow (pdShown port v (tuSet (fun t => { t with holds := mdel t.holds port }) d)))
/-- A step held on. -/
def pdStepKept (port : Nat) (h : PdHold) (d : Dev) : Dev := holdShow (tuSet (fun t => { t with holds := mput t.holds port h }) d)

theorem pathDelay_first {port : Nat} {d : Dev} (h : flag d (Reg.TU_PORT_STATE_PD_VALID port) = false) (ns) :
    pathDelay port ns d = pdShown port ns d := if_pos (by simp [h])
theorem pathDelay_none {port : Nat} {d : Dev} (hv : flag d (Reg.TU_PORT_STATE_PD_VALID port) = true) (h : mget d.tu.holds port = none) (ns) :
    pathDelay port ns d = if rd d Reg.TU_PD_STEP_STEP_NS < pdDistance ns (rd d (Reg.TU_PORT_PD port)) then pdStepHeld port ns d
      else nextFree (pdShown port (freeNat d) d) := by
  refine (if_neg (by simp [hv])).trans ?_
  rw [h]
  rfl
theorem pathDelay_some {port : Nat} {d : Dev} {h : PdHold} (hv : flag d (Reg.TU_PORT_STATE_PD_VALID port) = true)
    (hh : mget d.tu.holds port = some h) (ns) : pathDelay port ns d =
      if pdDistance ns (rd d (Reg.TU_PORT_PD port)) ≤ rd d Reg.TU_PD_STEP_STEP_NS then pdStepEnded port d
      else if rd d Reg.TU_PD_STEP_HOLD_N ≤ (pdStepNext (rd d Reg.TU_PD_STEP_STEP_NS) ns h).count then
        pdStepAccepted port ((pdStepNext (rd d Reg.TU_PD_STEP_STEP_NS) ns h).sum / (pdStepNext (rd d Reg.TU_PD_STEP_STEP_NS) ns h).count) d
      else pdStepKept port (pdStepNext (rd d Reg.TU_PD_STEP_STEP_NS) ns h) d := by
  refine (if_neg (by simp [hv])).trans ?_
  rw [hh]
  rfl

/-! ## What it leaves, through the review of ACQUIRE -/

theorem pathDelayMeasured_ignored {d : Dev} {port : Nat} (h : ptpPort d port = false) (ns) : pathDelayMeasured port ns d = d := if_neg (by simp [h])
theorem pathDelayMeasured_counts {d : Dev} {port : Nat} (h : ptpPort d port = true) (ns) :
    pathDelayMeasured port ns d = acquireReview (pathDelay port ns d) := if_pos h
/-- The review keeps the path delay of a port. -/
theorem rd_pd_acquireReview {port : Nat} (hp : port < 6) (d) : rd (acquireReview d) (Reg.TU_PORT_PD port) = rd d (Reg.TU_PORT_PD port) :=
  acquireReview_regsBut d _ (acquireFields_pd hp)
section
variable {port : Nat} (hp : port < 6) (ns : Nat) (d : Dev)
include hp
theorem pdTaken (hst : tuState d ≠ tsACQUIRE) : regsBut (pdFields port) d (acquireReview (pdShown port ns d)) := by
  rw [acquireReview_other]
  · exact pdShown_regsBut port ns d
  · rw [tuState, pdShown_regsBut _ _ _ _ (pdFields_state hp)]
    exact hst
theorem pdTaken_spec : rd (acquireReview (pdShown port ns d)) (Reg.TU_PORT_PD port) = trunc (Reg.TU_PORT_PD port).w ns ∧
    flag (acquireReview (pdShown port ns d)) (Reg.TU_PORT_STATE_PD_VALID port) = true := by
  obtain ⟨hpd, hv⟩ := pdShown_spec hp ns d
  exact ⟨(rd_pd_acquireReview hp _).trans hpd, (flag_of_regsBut (acquireReview_regsBut _) (acquireFields_pdValid hp)).trans hv⟩
theorem pdStepHeld_leaves : mget (acquireReview (pdStepHeld port ns d)).tu.holds port = some ⟨ns, 1, ns⟩ ∧
    rd (acquireReview (pdStepHeld port ns d)) (Reg.TU_PORT_PD port) = rd d (Reg.TU_PORT_PD port) ∧
    flag (acquireReview (pdStepHeld port ns d)) Reg.TU_STATUS_HOLD_PD = true ∧ rd (acquireReview (pdStepHeld port ns d)) Reg.TU_SLEW_NOW = 0 ∧
    rd (acquireReview (pdStepHeld port ns d)) Reg.TU_SAMPLES_PD_STEPS =
      satAdd Reg.TU_SAMPLES_PD_STEPS.w (rd d Reg.TU_SAMPLES_PD_STEPS) 1 := by
  let e : Dev := tuSet (fun t => { t with holds := mput t.holds port ⟨ns, 1, ns⟩ }) d
  have hm : mget e.tu.holds port = some ⟨ns, 1, ns⟩ := mget_mput_same _ _ _
  obtain ⟨hf, hs⟩ := holdShow_spec (d := e) fun h0 => by simp [h0, mget] at hm
  have ht : regsBut ([Reg.TU_SAMPLES_PD_STEPS] ++ evCounts) (holdShow e) (pdStepHeld port ns d) :=
    (inc_regsBut (holdShow e) Reg.TU_SAMPLES_PD_STEPS).trans (record_regsBut _ _ _)
  have hpd : ∀ f ∈ [Reg.TU_SAMPLES_PD_STEPS] ++ evCounts, fldKey f ≠ fldKey (Reg.TU_PORT_PD port) := by
    clear * - hp
    revert port
    decide
  have hr := acquireReview_regsBut (pdStepHeld port ns d)
  refine ⟨?_, ?_, ?_, acquireReview_slew ((ht _ (by decide)).trans hs), ?_⟩
  · rw [acquireReview_holds, pdStepHeld, record_tu, inc_tu, holdShow_tu]
    exact hm
  · rw [rd_pd_acquireReview hp, ht _ hpd, holdShow_regsBut e _ (holdFields_pd hp)]
    rfl
  · rw [flag_of_regsBut hr (by decide), flag_of_regsBut ht (by decide), hf]
  · rw [hr _ (by decide), pdStepHeld, record_regsBut _ _ _ _ (by decide), rd_inc_same, holdShow_regsBut e _ (by decide)]
    rfl
theorem pdFiltered_leaves (h : mget d.tu.holds port = none) :
    rd (acquireReview (nextFree (pdShown port ns d))) (Reg.TU_PORT_PD port) = trunc (Reg.TU_PORT_PD port).w ns ∧
      mget (acquireReview (nextFree (pdShown port ns d))).tu.holds port = none := by
  refine ⟨(rd_pd_acquireReview hp _).trans (pdShown_spec hp ns d).1, ?_⟩
  rw [acquireReview_holds]
  change mget (pdShown port ns d).tu.holds port = none
  rw [pdShown_tu, h]
theorem pdStepEnded_leaves : mget (acquireReview (pdStepEnded port d)).tu.holds port = none ∧
    rd (acquireReview (pdStepEnded port d)) (Reg.TU_PORT_PD port) = rd d (Reg.TU_PORT_PD port) := by
  rw [acquireReview_holds, rd_pd_acquireReview hp, pdStepEnded, holdShow_tu, holdShow_regsBut _ _ (holdFields_pd hp)]
  exact ⟨mget_mdel_same _ _, rfl⟩
theorem pdStepAccepted_leaves : mget (acquireReview (pdStepAccepted port ns d)).tu.holds port = none ∧
    rd (acquireReview (pdStepAccepted port ns d)) (Reg.TU_PORT_PD port) = trunc (Reg.TU_PORT_PD port).w ns := by
  have hev : ∀ f ∈ evCounts, fldKey f ≠ fldKey (Reg.TU_PORT_PD port) := by
    revert port
    decide
  rw [acquireReview_holds, rd_pd_acquireReview hp, pdStepAccepted, record_tu, holdShow_tu, pdShown_tu, record_regsBut _ _ _ _ hev,
    holdShow_regsBut _ _ (holdFields_pd hp)]
  exact ⟨mget_mdel_same _ _, (pdShown_spec hp _ _).1⟩
theorem pdStepKept_leaves (h : PdHold) : mget (acquireReview (pdStepKept port h d)).tu.holds port = some h ∧
    rd (acquireReview (pdStepKept port h d)) (Reg.TU_PORT_PD port) = rd d (Reg.TU_PORT_PD port) := by
  rw [acquireReview_holds, rd_pd_acquireReview hp, pdStepKept, holdShow_tu, holdShow_regsBut _ _ (holdFields_pd hp)]
  exact ⟨mget_mput_same _ _ _, rfl⟩

variable {d : Dev}
theorem pathDelay_first_leaves (hv : flag d (Reg.TU_PORT_STATE_PD_VALID port) = false) (ns) :
    rd (acquireReview (pathDelay port ns d)) (Reg.TU_PORT_PD port) = trunc (Reg.TU_PORT_PD port).w ns ∧
      flag (acquireReview (pathDelay port ns d)) (Reg.TU_PORT_STATE_PD_VALID port) = true ∧
      (tuState d ≠ tsACQUIRE → regsBut (pdFields port) d (acquireReview (pathDelay port ns d))) := by
  rw [pathDelay_first hv]
  obtain ⟨hpd, hval⟩ := pdTaken_spec hp ns d
  exact ⟨hpd, hval, fun hst => pdTaken hp ns d hst⟩
/-- With no step held, a measurement starts one or is filtered. -/
theorem pathDelay_none_leaves (hv : flag d (Reg.TU_PORT_STATE_PD_VALID port) = true) (h : mget d.tu.holds port = none) (ns) :
    if rd d Reg.TU_PD_STEP_STEP_NS < pdDistance ns (rd d (Reg.TU_PORT_PD port)) then
      mget (acquireReview (pathDelay port ns d)).tu.holds port = some ⟨ns, 1, ns⟩ ∧
      rd (acquireReview (pathDelay port ns d)) (Reg.TU_PORT_PD port) = rd d (Reg.TU_PORT_PD port) ∧
      flag (acquireReview (pathDelay port ns d)) Reg.TU_STATUS_HOLD_PD = true ∧
      rd (acquireReview (pathDelay port ns d)) Reg.TU_SLEW_NOW = 0 ∧
      rd (acquireReview (pathDelay port ns d)) Reg.TU_SAMPLES_PD_STEPS =
        satAdd Reg.TU_SAMPLES_PD_STEPS.w (rd d Reg.TU_SAMPLES_PD_STEPS) 1
    else rd (acquireReview (pathDelay port ns d)) (Reg.TU_PORT_PD port) = trunc (Reg.TU_PORT_PD port).w (freeNat d) ∧
      mget (acquireReview (pathDelay port ns d)).tu.holds port = none := by
  rw [pathDelay_none hv h]
  split
  · exact pdStepHeld_leaves hp ns d
  · exact pdFiltered_leaves hp _ d h
/-- With a step held, a measurement ends it, is the last that it takes to accept it, or holds it on. -/
theorem pathDelay_some_leaves {h : PdHold} (hv : flag d (Reg.TU_PORT_STATE_PD_VALID port) = true) (hh : mget d.tu.holds port = some h) (ns) :
    if pdDistance ns (rd d (Reg.TU_PORT_PD port)) ≤ rd d Reg.TU_PD_STEP_STEP_NS then
      mget (acquireReview (pathDelay port ns d)).tu.holds port = none ∧
      rd (acquireReview (pathDelay port ns d)) (Reg.TU_PORT_PD port) = rd d (Reg.TU_PORT_PD port)
    else ∀ h', h' = pdStepNext (rd d Reg.TU_PD_STEP_STEP_NS) ns h →
      if rd d Reg.TU_PD_STEP_HOLD_N ≤ h'.count then
        mget (acquireReview (pathDelay port ns d)).tu.holds port = none ∧
        rd (acquireReview (pathDelay port ns d)) (Reg.TU_PORT_PD port) = trunc (Reg.TU_PORT_PD port).w (h'.sum / h'.count)
      else mget (acquireReview (pathDelay port ns d)).tu.holds port = some h' ∧
        rd (acquireReview (pathDelay port ns d)) (Reg.TU_PORT_PD port) = rd d (Reg.TU_PORT_PD port) := by
  rw [pathDelay_some hv hh]
  split
  · exact pdStepEnded_leaves hp d
  · rintro _ rfl
    by_cases hn : rd d Reg.TU_PD_STEP_HOLD_N ≤ (pdStepNext (rd d Reg.TU_PD_STEP_STEP_NS) ns h).count
    · simp only [if_pos hn]
      exact pdStepAccepted_leaves hp _ d
    · simp only [if_neg hn]
      exact pdStepKept_leaves hp d _
end

end Sys2Proof.Machine
end

section
/-!
SUPPORT. What the best master clock algorithm selects: a slave port and a master, or the module as grandmaster; a master lost
(R233, R236, R237, R241, R242, R258, R259).
-/
namespace Sys2Proof.Machine

/-! ## Port states (R236) -/

/-- The states of the six ports. -/
def portStateFields : List Fld := (List.range 6).map Reg.TU_PORT_STATE_PORT_STATE
theorem ptpPortStates_regsBut (slave passive d) : regsBut portStateFields d (ptpPortStates slave passive d) := fun _ hg =>
  rd_forEach (fun _ hp e => rd_wr_ne e _ (hg _ (List.mem_map_of_mem hp))) d
theorem ptpPortStates_tu (slave passive d) : (ptpPortStates slave passive d).tu = d.tu := by
  unfold ptpPortStates
  exact forEach_keeps (v := Dev.tu) (fun _ _ e => wr_tu e _ _) d
@[simp] theorem ptpPortStates_servoView (slave passive d) : servoView (ptpPortStates slave passive d) = servoView d := by
  unfold ptpPortStates
  exact forEach_keeps (v := servoView) (fun _ _ _ => wr_servoView _ _ _) d
theorem bp_of_servoView {d t : Dev} (h : servoView t = servoView d) : t.bp = d.bp := (congrArg Dev.bp h :)

/-! ## A slave port (R236) -/

/-- The slave port and its master noted, with the states of the ports. -/
def slaveNoted (gm port passive : Nat) (d : Dev) : Dev :=
  ptpPortStates port passive (tuSet (fun t => { t with master := gm }) (wr d Reg.TU_STATUS_SLAVE_PORT port))
/-- The slave port and its master shown. -/
def slaveShown (gm port passive : Nat) (d : Dev) : Dev :=
  let e := gmChange gm port (slaveNoted gm port passive d)
  wr e Reg.TU_PATH_DELAY (rd e (Reg.TU_PORT_PD port))
/-- The fields that show a slave port and its master. -/
def slaveFields : List Fld := [Reg.TU_STATUS_SLAVE_PORT] ++ portStateFields ++ [Reg.TU_GM_ID] ++ evCounts ++ [Reg.TU_PATH_DELAY]
theorem slaveNoted_regsBut (gm port passive d) : regsBut ([Reg.TU_STATUS_SLAVE_PORT] ++ portStateFields) d (slaveNoted gm port passive d) :=
  ((regsBut_wr d Reg.TU_STATUS_SLAVE_PORT port).both (tuSet_regsBut _ _ _)).trans (ptpPortStates_regsBut _ _ _)
theorem slaveShown_after (gm port passive d) :
    regsBut ([Reg.TU_GM_ID] ++ evCounts ++ [Reg.TU_PATH_DELAY]) (slaveNoted gm port passive d) (slaveShown gm port passive d) :=
  (gmChange_regsBut gm port _).trans (regsBut_wr _ Reg.TU_PATH_DELAY _)
theorem slaveShown_regsBut (gm port passive d) : regsBut slaveFields d (slaveShown gm port passive d) :=
  ((slaveNoted_regsBut gm port passive d).trans (slaveShown_after gm port passive d)).mono (by decide)
theorem slaveShown_tu (gm port passive d) : (slaveShown gm port passive d).tu = { d.tu with master := gm } := by
  rw [slaveShown, wr_tu, gmChange_tu, slaveNoted, ptpPortStates_tu]
  rfl
theorem slaveShown_port {port : Nat} (hp : port < 6) (gm passive d) : rd (slaveShown gm port passive d) Reg.TU_STATUS_SLAVE_PORT = port := by
  rw [slaveShown_after _ _ _ _ _ (by decide), slaveNoted, ptpPortStates_regsBut _ _ _ _ (by decide), rd_tuSet, rd_wr_same]
  exact trunc_of_lt (by change port < 8; omega)
/-- While the module is not grandmaster, GM_ID follows the master. -/
theorem slaveShown_gm {d : Dev} (h : flag d Reg.TU_STATUS_GM = false) (gm port passive) :
    rd (slaveShown gm port passive d) Reg.TU_GM_ID = trunc 64 gm := by
  rw [slaveShown, rd_wr_ne _ _ (by decide)]
  exact rd_gmChange ((flag_of_regsBut (slaveNoted_regsBut _ _ _ d) (by decide)).trans h) gm port
theorem slaveShown_own {d : Dev} (h : flag d Reg.TU_STATUS_GM = true) (gm port passive) :
    rd (slaveShown gm port passive d) Reg.TU_GM_ID = rd d Reg.TU_GM_ID := by
  rw [slaveShown, gmChange_own ((flag_of_regsBut (slaveNoted_regsBut _ _ _ d) (by decide)).trans h), rd_wr_ne _ _ (by decide)]
  exact slaveNoted_regsBut _ _ _ d _ (by decide)

/-- Another master or slave port than the one selected so far. -/
abbrev otherMaster (gm port : Nat) (d : Dev) : Prop := d.tu.master ≠ gm ∨ rd d Reg.TU_STATUS_SLAVE_PORT ≠ port
theorem tuState_slaveShown (gm port passive d) : tuState (slaveShown gm port passive d) = tuState d :=
  slaveShown_regsBut gm port passive d _ (by decide)
section
variable {d : Dev} (gm port passive : Nat)
theorem bmcApply_grandmaster (h : tuState d = tsGRANDMASTER) : bmcApply gm (.slave port passive) d =
    tuSet (fun t => { t with judging := true, outliers := 0 }) (slaveShown gm port passive d) :=
  if_pos ((tuState_slaveShown gm port passive d).trans h)
theorem bmcApply_another (h : tuState d = tsACQUIRE) (ho : otherMaster gm port d) :
    bmcApply gm (.slave port passive) d = acquireEnd (slaveShown gm port passive d) := by
  have hs := (tuState_slaveShown gm port passive d).trans h
  exact (if_neg (fun hg => absurd (hs.symm.trans hg) (by decide))).trans (if_pos ⟨hs, ho⟩)
theorem bmcApply_kept (h : tuState d ≠ tsGRANDMASTER) (ho : ¬ (tuState d = tsACQUIRE ∧ otherMaster gm port d)) :
    bmcApply gm (.slave port passive) d = slaveShown gm port passive d := by
  have hs := tuState_slaveShown gm port passive d
  exact (if_neg (fun hg => h (hs.symm.trans hg))).trans (if_neg fun ⟨ha, hb⟩ => ho ⟨hs.symm.trans ha, hb⟩)
theorem bmcApply_regsBut (d : Dev) : regsBut [Reg.TU_STATUS_STATE] (slaveShown gm port passive d) (bmcApply gm (.slave port passive) d) := by
  by_cases hg : tuState d = tsGRANDMASTER
  · rw [bmcApply_grandmaster gm port passive hg]
    exact tuSet_regsBut _ _ _
  by_cases ho : tuState d = tsACQUIRE ∧ otherMaster gm port d
  · rw [bmcApply_another gm port passive ho.1 ho.2]
    exact (regsBut_wr _ Reg.TU_STATUS_STATE tsUNSET).both (tuSet_regsBut _ _ _)
  · rw [bmcApply_kept gm port passive hg ho]
    exact regsBut_refl _ _
theorem bmcApply_master (d : Dev) : (bmcApply gm (.slave port passive) d).tu.master = gm := by
  have hm : (slaveShown gm port passive d).tu.master = gm := by rw [slaveShown_tu]
  by_cases hg : tuState d = tsGRANDMASTER
  · rw [bmcApply_grandmaster gm port passive hg]
    exact hm
  by_cases ho : tuState d = tsACQUIRE ∧ otherMaster gm port d
  · rw [bmcApply_another gm port passive ho.1 ho.2]
    exact hm
  · rw [bmcApply_kept gm port passive hg ho, hm]
/-- The state changes where another master is selected in ACQUIRE alone. -/
theorem tuState_bmcApply (d : Dev) : tuState (bmcApply gm (.slave port passive) d) =
    if tuState d = tsACQUIRE ∧ otherMaster gm port d then tsUNSET else tuState d := by
  have hs := tuState_slaveShown gm port passive d
  by_cases hg : tuState d = tsGRANDMASTER
  · rw [bmcApply_grandmaster gm port passive hg, if_neg (fun hc => absurd (hg.symm.trans hc.1) (by decide))]
    exact hs
  by_cases ho : tuState d = tsACQUIRE ∧ otherMaster gm port d
  · rw [bmcApply_another gm port passive ho.1 ho.2, if_pos ho]
    exact (rd_wr_same _ Reg.TU_STATUS_STATE tsUNSET).trans rfl
  · rw [bmcApply_kept gm port passive hg ho, if_neg ho, hs]
/-- A master selected shows its port and keeps schedule time. -/
theorem bmcApply_slave_shown (d : Dev) (hp : port < 6) : rd (bmcApply gm (.slave port passive) d) Reg.TU_STATUS_SLAVE_PORT = port ∧
    schedTime (bmcApply gm (.slave port passive) d) = schedTime d := by
  have ht := bmcApply_regsBut gm port passive d
  exact ⟨(ht _ (by decide)).trans (slaveShown_port hp gm passive d),
    (ht _ (by decide)).trans (slaveShown_regsBut gm port passive d _ (by decide))⟩
end

/-! ## The module as grandmaster (R233, R237, R242) -/

/-- No slave port, and the ports' states with it. -/
def slaveless (passive : Nat) (d : Dev) : Dev := ptpPortStates 7 passive (wr d Reg.TU_STATUS_SLAVE_PORT 7)
/-- The module shown as grandmaster. -/
def gmTaken (passive : Nat) (d : Dev) : Dev :=
  tuSet (fun t => { t with judging := false, outliers := 0 })
    (if flag (slaveless passive d) Reg.TU_STATUS_GM then slaveless passive d
      else wrB (gmShow (slaveless passive d).bp.clockId 7 (slaveless passive d)) Reg.TU_STATUS_GM true)
theorem becomeGm_unset {d : Dev} (h : tuState d = tsUNSET) (passive) :
    becomeGm passive d = timeStart tsGRANDMASTER (timeFloor (gmTaken passive d)) (gmTaken passive d) := if_pos h
theorem becomeGm_runs {d : Dev} (h : tuState d ≠ tsUNSET) (passive) : becomeGm passive d =
    wr (wr (if tuState d = tsHOLDOVER then holdoverLeft (gmTaken passive d) else gmTaken passive d) Reg.TU_STATUS_STATE tsGRANDMASTER)
      Reg.TU_SLEW_NOW 0 := if_neg h
theorem slaveless_regsBut (passive d) : regsBut ([Reg.TU_STATUS_SLAVE_PORT] ++ portStateFields) d (slaveless passive d) :=
  (regsBut_wr d Reg.TU_STATUS_SLAVE_PORT 7).trans (ptpPortStates_regsBut _ _ _)
theorem slaveless_port (passive d) : rd (slaveless passive d) Reg.TU_STATUS_SLAVE_PORT = 7 := by
  rw [slaveless, ptpPortStates_regsBut _ _ _ _ (by decide), rd_wr_same]
  rfl
theorem gmTaken_after (passive d) : regsBut ([Reg.TU_GM_ID] ++ evCounts ++ [Reg.TU_STATUS_GM]) (slaveless passive d) (gmTaken passive d) := by
  unfold gmTaken
  split
  · exact (regsBut_refl _ _).both (tuSet_regsBut _ _ _)
  · exact ((gmShow_spec _ _ _).2.trans (wrB_regsBut _ Reg.TU_STATUS_GM true)).both (tuSet_regsBut _ _ _)
theorem gmTaken_gm (passive d) : flag (gmTaken passive d) Reg.TU_STATUS_GM = true := by
  rw [gmTaken, flag_tuSet]
  split
  · assumption
  · exact flag_wrB_same _ _ _ (by decide)
theorem gmTaken_servoView (passive d) : servoView (gmTaken passive d) = servoView d := by
  rw [gmTaken, tuSet_servoView, servoView_ite, wrB_servoView, gmShow_servoView, ite_self, slaveless, ptpPortStates_servoView, wr_servoView]
/-- A module that was not grandmaster shows its own clock. -/
theorem gmTaken_id {d : Dev} (h : flag d Reg.TU_STATUS_GM = false) (passive) : rd (gmTaken passive d) Reg.TU_GM_ID = trunc 64 d.bp.clockId := by
  have hf : flag (slaveless passive d) Reg.TU_STATUS_GM = false := (flag_of_regsBut (slaveless_regsBut passive d) (by decide)).trans h
  have hb : (slaveless passive d).bp = d.bp := bp_of_servoView (by simp [slaveless])
  rw [gmTaken, rd_tuSet, if_neg (by simp [hf]), rd_wrB_ne _ _ (by decide), (gmShow_spec _ _ _).1, hb]
/-- From UNSET schedule time starts at the floor. -/
theorem becomeGm_unset_leaves {d : Dev} (h : tuState d = tsUNSET) (passive) :
    tuState (becomeGm passive d) = tsGRANDMASTER ∧ flag (becomeGm passive d) Reg.TU_STATUS_GM = true ∧ schedValid (becomeGm passive d) = true ∧
      schedTime (becomeGm passive d) = trunc 64 (timeFloor d) ∧
      (flag d Reg.TU_STATUS_GM = false → rd (becomeGm passive d) Reg.TU_GM_ID = trunc 64 d.bp.clockId) := by
  have hb : timeFloor (gmTaken passive d) = timeFloor d := congrArg (·.savedS + second) (bp_of_servoView (gmTaken_servoView passive d))
  have ht := timeStart_regsBut tsGRANDMASTER (timeFloor d) (gmTaken passive d)
  obtain ⟨hst, hs, hv⟩ := timeStart_spec (st := tsGRANDMASTER) (by decide) (timeFloor d) (gmTaken passive d)
  rw [becomeGm_unset h, hb]
  exact ⟨hst, (flag_of_regsBut ht (by decide)).trans (gmTaken_gm _ _), hv, hs, fun hf => (ht _ (by decide)).trans (gmTaken_id hf passive)⟩
/-- Else it runs on without slewing. -/
theorem becomeGm_runs_leaves {d : Dev} (h : tuState d ≠ tsUNSET) (passive) :
    tuState (becomeGm passive d) = tsGRANDMASTER ∧ flag (becomeGm passive d) Reg.TU_STATUS_GM = true ∧
      rd (becomeGm passive d) Reg.TU_STATUS_SLAVE_PORT = 7 ∧ rd (becomeGm passive d) Reg.TU_SLEW_NOW = 0 ∧
      schedTime (becomeGm passive d) = schedTime d := by
  rw [becomeGm_runs h]
  have hl : regsBut evCounts (gmTaken passive d) (if tuState d = tsHOLDOVER then holdoverLeft (gmTaken passive d) else gmTaken passive d) := by
    split
    · exact holdoverLeft_regsBut _
    · exact regsBut_refl _ _
  revert hl
  generalize (if tuState d = tsHOLDOVER then holdoverLeft (gmTaken passive d) else gmTaken passive d) = e
  intro hl
  have ht := (hl.trans (regsBut_wr e Reg.TU_STATUS_STATE tsGRANDMASTER)).trans (regsBut_wr _ Reg.TU_SLEW_NOW 0)
  have hg := (gmTaken_after passive d).trans ht
  refine ⟨?_, (flag_of_regsBut ht (by decide)).trans (gmTaken_gm _ _), (hg _ (by decide)).trans (slaveless_port _ _), ?_,
    (hg _ (by decide)).trans (slaveless_regsBut passive d _ (by decide))⟩
  · rw [tuState, rd_wr_ne _ _ (by decide), rd_wr_same]
    rfl
  · rw [rd_wr_same]
    rfl
/-- The states of the servo in which schedule time runs on into grandmaster. -/
def gmStates : List Nat := [tsTRACKING, tsHOLDOVER, tsDISCONTINUITY, tsGRANDMASTER]
theorem gmStates_set {n : Nat} (h : n ∈ gmStates) : n ≠ tsUNSET ∧ n ≠ tsACQUIRE := by
  have hall : ∀ m ∈ gmStates, m ≠ tsUNSET ∧ m ≠ tsACQUIRE := by decide
  exact hall n h
theorem bmcApply_self {d : Dev} (h2 : tuSource d = 2) (hs : tuState d ∈ gmStates) (gm passive) :
    bmcApply gm (.self passive) d = becomeGm passive d := by
  refine if_pos ⟨h2, ?_⟩
  simpa [gmStates] using hs
theorem bmcApply_self_ignored {d : Dev} (h : ¬ (tuSource d = 2 ∧ tuState d ∈ gmStates)) (gm passive) : bmcApply gm (.self passive) d = d := by
  refine if_neg fun hc => h ⟨hc.1, ?_⟩
  simpa [gmStates] using hc.2

end Sys2Proof.Machine
end

section
/-!
SUPPORT. What an Announce and its timeout leave (R233, R236, R237, R241, R242).
-/
namespace Sys2Proof.Machine

theorem announceReceived_ignored {d : Dev} {port : Nat} {r : BmcResult} (h : ptpPort d port = false ∨ tuSource d = 3 ∨ r = .same) (gm) :
    announceReceived port gm r d = d := by
  rcases h with hp | hs | rfl
  · exact if_pos (.inl (by simp [hp]))
  · exact if_pos (.inr hs)
  · exact ite_self d
theorem announceReceived_counts {d : Dev} {port : Nat} (hp : ptpPort d port = true) (hs : tuSource d ≠ 3) (gm r) :
    announceReceived port gm r d = bmcApply gm r d := if_neg (by simp [hp, hs])

/-! ## The timeout: no master any more (R241) -/

/-- The offset shown as not valid. -/
def offsetLost (d : Dev) : Dev := wrB d Reg.TU_STATUS_OFFSET_VALID false
theorem offsetLost_regsBut (d) : regsBut [Reg.TU_STATUS_OFFSET_VALID] d (offsetLost d) := wrB_regsBut d _ false
theorem offsetLost_valid (d) : flag (offsetLost d) Reg.TU_STATUS_OFFSET_VALID = false := flag_wrB_same _ _ _ (by decide)
theorem tuState_offsetLost (d) : tuState (offsetLost d) = tuState d := offsetLost_regsBut d _ (by decide)
theorem tuSource_offsetLost (d) : tuSource (offsetLost d) = tuSource d := offsetLost_regsBut d _ (by decide)
/-- What a master lost leads to. -/
def masterLost (d : Dev) : Dev :=
  if tuState d = tsTRACKING then holdoverEnter d else if tuState d = tsACQUIRE then wr (acquireEnd d) Reg.TU_STATUS_SLAVE_PORT 7 else d
theorem acquireEnd_regsBut (d) : regsBut [Reg.TU_STATUS_STATE] d (acquireEnd d) :=
  (regsBut_wr d Reg.TU_STATUS_STATE tsUNSET).both (tuSet_regsBut _ _ _)
theorem tuState_acquireEnd (d) : tuState (acquireEnd d) = tsUNSET := (rd_wr_same d Reg.TU_STATUS_STATE tsUNSET).trans rfl

theorem announceTimeout_ignored {d : Dev} (h : tuSource d = 0 ∨ tuSource d = 3) (gm r) : announceTimeout gm r d = d := if_pos h
section
variable {d : Dev} (h0 : tuSource d ≠ 0) (h3 : tuSource d ≠ 3)
include h0 h3
theorem announceTimeout_same (gm) : announceTimeout gm .same d = masterLost (offsetLost d) :=
  if_neg (not_or.mpr ⟨h0, h3⟩)
theorem announceTimeout_slave (gm slave passive) : announceTimeout gm (.slave slave passive) d =
    bmcApply gm (.slave slave passive) (if tuState (offsetLost d) = tsACQUIRE then acquireEnd (offsetLost d) else offsetLost d) :=
  if_neg (not_or.mpr ⟨h0, h3⟩)
/-- TRACKING falls to HOLDOVER. -/
theorem announceTimeout_tracking (gm) (hst : tuState d = tsTRACKING) : tuState (announceTimeout gm .same d) = tsHOLDOVER ∧
    rd (announceTimeout gm .same d) Reg.TU_HOLDOVER = 0 ∧ rd (announceTimeout gm .same d) Reg.TU_SLEW_NOW = 0 ∧
    rd (announceTimeout gm .same d) Reg.TU_FREQ = rd d Reg.TU_FREQ ∧
    flag (announceTimeout gm .same d) Reg.TU_STATUS_OFFSET_VALID = false ∧ schedTime (announceTimeout gm .same d) = schedTime d := by
  rw [announceTimeout_same h0 h3, masterLost, if_pos ((tuState_offsetLost d).trans hst)]
  have ht := (offsetLost_regsBut d).trans (holdoverEnter_regsBut (offsetLost d))
  obtain ⟨hs, hw, hh, hv⟩ := holdoverEnter_spec (offsetLost d)
  exact ⟨hs, hh, hw, ht _ (by decide), hv, ht _ (by decide)⟩
/-- ACQUIRE falls back to UNSET. -/
theorem announceTimeout_acquire (gm) (hst : tuState d = tsACQUIRE) : tuState (announceTimeout gm .same d) = tsUNSET ∧
    (announceTimeout gm .same d).tu.acqSyncs = 0 ∧ rd (announceTimeout gm .same d) Reg.TU_STATUS_SLAVE_PORT = 7 ∧
    flag (announceTimeout gm .same d) Reg.TU_STATUS_OFFSET_VALID = false ∧ schedTime (announceTimeout gm .same d) = schedTime d := by
  have hs := (tuState_offsetLost d).trans hst
  rw [announceTimeout_same h0 h3, masterLost, if_neg (by rw [hs]; decide), if_pos hs]
  have ht := (acquireEnd_regsBut (offsetLost d)).trans (regsBut_wr _ Reg.TU_STATUS_SLAVE_PORT 7)
  refine ⟨?_, rfl, (rd_wr_same _ Reg.TU_STATUS_SLAVE_PORT 7).trans rfl, (flag_of_regsBut ht (by decide)).trans (offsetLost_valid d),
    (ht _ (by decide)).trans (offsetLost_regsBut d _ (by decide))⟩
  exact (rd_wr_ne _ _ (by decide)).trans (tuState_acquireEnd _)
theorem announceTimeout_other (gm) (ht : tuState d ≠ tsTRACKING) (ha : tuState d ≠ tsACQUIRE) :
    announceTimeout gm .same d = wrB d Reg.TU_STATUS_OFFSET_VALID false := by
  have hs := tuState_offsetLost d
  rw [announceTimeout_same h0 h3, masterLost, if_neg (by rwa [hs]), if_neg (by rwa [hs])]
  rfl
/-- Another master is selected at the timeout. -/
theorem announceTimeout_slave_leaves (gm passive) {slave : Nat} (hp : slave < 6) :
    rd (announceTimeout gm (.slave slave passive) d) Reg.TU_STATUS_SLAVE_PORT = slave ∧
      (announceTimeout gm (.slave slave passive) d).tu.master = gm ∧
      flag (announceTimeout gm (.slave slave passive) d) Reg.TU_STATUS_OFFSET_VALID = false ∧
      (tuState d = tsACQUIRE → tuState (announceTimeout gm (.slave slave passive) d) = tsUNSET) ∧
      schedTime (announceTimeout gm (.slave slave passive) d) = schedTime d := by
  rw [announceTimeout_slave h0 h3]
  have he : regsBut [Reg.TU_STATUS_STATE] (offsetLost d)
      (if tuState (offsetLost d) = tsACQUIRE then acquireEnd (offsetLost d) else offsetLost d) := by
    split
    · exact acquireEnd_regsBut _
    · exact regsBut_refl _ _
  have hu : tuState d = tsACQUIRE →
      tuState (if tuState (offsetLost d) = tsACQUIRE then acquireEnd (offsetLost d) else offsetLost d) = tsUNSET := fun ha => by
    rw [if_pos ((tuState_offsetLost d).trans ha), tuState_acquireEnd]
  revert he hu
  generalize (if tuState (offsetLost d) = tsACQUIRE then acquireEnd (offsetLost d) else offsetLost d) = e
  intro he hu
  have hb := (slaveShown_regsBut gm slave passive e).trans (bmcApply_regsBut gm slave passive e)
  obtain ⟨hport, htime⟩ := bmcApply_slave_shown gm slave passive e hp
  refine ⟨hport, bmcApply_master gm slave passive e, ?_, fun ha => ?_, ?_⟩
  · rw [flag_of_regsBut hb (by decide), flag_of_regsBut he (by decide), offsetLost_valid]
  · rw [tuState_bmcApply, hu ha]
    rfl
  · exact htime.trans ((he _ (by decide)).trans (offsetLost_regsBut d _ (by decide)))
end

/-! ## The module selected itself (R233, R237) -/

section
variable {d : Dev} (h2 : tuSource d = 2) (gm passive : Nat)
include h2
theorem announceTimeout_self_unset (hst : tuState d = tsUNSET) :
    announceTimeout gm (.self passive) d = becomeGm passive (offsetLost d) := by
  have hs := (tuState_offsetLost d).trans hst
  have hg : ¬ (tuSource (offsetLost d) ≠ 2 ∨ tuState (offsetLost d) = tsACQUIRE) := by
    rw [tuSource_offsetLost, h2, hs]
    decide
  exact (if_neg (by rw [h2]; decide)).trans ((if_neg hg).trans (if_pos hs))
theorem announceTimeout_self_runs (hst : tuState d ∈ gmStates) : announceTimeout gm (.self passive) d = becomeGm passive (offsetLost d) := by
  obtain ⟨hu, ha⟩ := gmStates_set hst
  have hs := tuState_offsetLost d
  have hg : ¬ (tuSource (offsetLost d) ≠ 2 ∨ tuState (offsetLost d) = tsACQUIRE) := by
    rw [tuSource_offsetLost, h2, hs]
    simpa using ha
  exact (if_neg (by rw [h2]; decide)).trans ((if_neg hg).trans ((if_neg fun hc => hu (hs.symm.trans hc)).trans
    (bmcApply_self ((tuSource_offsetLost d).trans h2) (by rwa [hs]) gm passive)))
end

end Sys2Proof.Machine
end

section
/-!
SUPPORT. Messages at the end of an interval, delay requests answered, schedule time saved, timestamp queues
(R231, R235, R236, R238, R242, R249, R250, R255 to R257, R302).
-/
namespace Sys2Proof.Machine

/-! ## PTP_INTERVAL_TIMER (R235 to R238) -/

theorem ptpIntervalTimer_off {d : Dev} {port : Nat} (h : ptpPort d port = false) (kind) : ptpIntervalTimer port kind d = d := if_pos (by simp [h])
section
variable (d : Dev) (port : Nat)
theorem ptpIntervalTimer_sync : ptpIntervalTimer port 0 d =
    if ptpPort d port = true ∧ rd d (Reg.TU_PORT_STATE_PORT_STATE port) = 6 ∧ schedValid d = true then
      emit (.ptp port 6 (txTrain d port)) (emit (.ptp port 0 (trainTime d)) d) else d := by
  by_cases hp : ptpPort d port = true
  · refine ((if_neg (by simp [hp])).trans (if_pos rfl)).trans ?_
    simp only [hp, true_and]
  · rw [ptpIntervalTimer_off (by simpa using hp), if_neg fun hc => hp hc.1]
theorem ptpIntervalTimer_announce : ptpIntervalTimer port 1 d =
    if ptpPort d port = true ∧ rd d (Reg.TU_PORT_STATE_PORT_STATE port) = 6 ∧ schedValid d = true then
      if flag d Reg.TU_STATUS_GM = true then
        emit (.announce port (rd d Reg.TU_GM_ID) (rd d Reg.TU_PRIO_PRIORITY1) (rd d Reg.TU_PRIO_CLOCK_CLASS) (rd d Reg.TU_PRIO_PRIORITY2)
          0xA0 true false) d
      else emit (.ptp port 1 (trainTime d)) d
    else d := by
  by_cases hp : ptpPort d port = true
  · refine ((if_neg (by simp [hp])).trans ((if_neg (by decide)).trans (if_pos rfl))).trans ?_
    simp only [hp, true_and]
  · rw [ptpIntervalTimer_off (by simpa using hp), if_neg fun hc => hp hc.1]
theorem ptpIntervalTimer_delay : ptpIntervalTimer port 2 d =
    if ptpPort d port = true ∧ rd d Reg.TU_STATUS_SLAVE_PORT = port ∧ rd d Reg.TU_CFG_PROFILE = 0 then emit (.ptp port 2 (trainTime d)) d
    else d := by
  by_cases hp : ptpPort d port = true
  · refine ((if_neg (by simp [hp])).trans ((if_neg (by decide)).trans ((if_neg (by decide)).trans (if_pos rfl)))).trans ?_
    simp only [hp, true_and]
  · rw [ptpIntervalTimer_off (by simpa using hp), if_neg fun hc => hp hc.1]
theorem ptpIntervalTimer_peer {kind : Nat} (hk : 3 ≤ kind) : ptpIntervalTimer port kind d =
    if ptpPort d port = true ∧ rd d Reg.TU_CFG_PROFILE ≠ 0 then emit (.ptp port 3 (trainTime d)) d else d := by
  by_cases hp : ptpPort d port = true
  · refine ((if_neg (by simp [hp])).trans ((if_neg (by omega)).trans ((if_neg (by omega)).trans (if_neg (by omega))))).trans ?_
    simp only [hp, true_and, ne_eq, ite_not]
  · rw [ptpIntervalTimer_off (by simpa using hp), if_neg fun hc => hp hc.1]

/-! ## DELAY_REQ_RECEIVED (R235, R236, R250, R302) -/

variable (rxS : Nat)
theorem delayReqReceived_off {d : Dev} {port : Nat} (h : ptpPort d port = false) (kind rxS) : delayReqReceived port kind rxS d = d :=
  if_pos (by simp [h])
theorem delayReqReceived_delay : delayReqReceived port 0 rxS d =
    if ptpPort d port = true ∧ rd d (Reg.TU_PORT_STATE_PORT_STATE port) = 6 ∧ rd d Reg.TU_CFG_PROFILE = 0 then
      emit (.ptp port 4 (ofSigned 64 ((rxStamp d port rxS : Int) + epochE d))) d else d := by
  by_cases hp : ptpPort d port = true
  · refine ((if_neg (by simp [hp])).trans (if_pos rfl)).trans ?_
    simp only [hp, true_and, and_comm]
  · rw [delayReqReceived_off (by simpa using hp), if_neg fun hc => hp hc.1]
theorem delayReqReceived_peer : delayReqReceived port 1 rxS d =
    if ptpPort d port = true ∧ rd d Reg.TU_CFG_PROFILE ≠ 0 then
      emit (.ptp port 7 (txTrain d port)) (emit (.ptp port 5 (ofSigned 64 ((rxStamp d port rxS : Int) + epochE d))) d) else d := by
  by_cases hp : ptpPort d port = true
  · refine ((if_neg (by simp [hp])).trans ((if_neg (by decide)).trans (if_pos rfl))).trans ?_
    simp only [hp, true_and, ne_eq, ite_not]
  · rw [delayReqReceived_off (by simpa using hp), if_neg fun hc => hp hc.1]
/-- A management message counted as malformed. -/
def managementCounted (port : Nat) (d : Dev) : Dev := recordOnce Ev.MALFORMED 3 [.w 3, .w port, .w 0] (inc d (Reg.TE_MALF 3))
theorem delayReqReceived_management {kind : Nat} (hk : 2 ≤ kind) (hp : ptpPort d port = true) :
    delayReqReceived port kind rxS d = managementCounted port d :=
  (if_neg (by simp [hp])).trans ((if_neg (by omega)).trans (if_neg (by omega)))
theorem managementCounted_leaves :
    rd (managementCounted port d) (Reg.TE_MALF 3) = satAdd (Reg.TE_MALF 3).w (rd d (Reg.TE_MALF 3)) 1 ∧
      reportsOnly d (managementCounted port d) ∧ regsBut ([Reg.TE_MALF 3] ++ evCounts) d (managementCounted port d) := by
  refine ⟨?_, ?_, (inc_regsBut d (Reg.TE_MALF 3)).trans (recordOnce_regsBut _ _ _ _)⟩
  · rw [managementCounted, recordOnce_regsBut _ _ _ _ _ (by decide), rd_inc_same]
  · unfold reportsOnly managementCounted
    rw [recordOnce_shape]
    rfl
end

/-! ## SCHED_TIME_SAVE (R231, R242) -/

/-- Schedule time written into the boot parameters. -/
def timeSaved (d : Dev) : Dev := bpSet (fun b => { b with savedS := schedTime d }) d
theorem schedTimeSave_counts {d : Dev} (hv : schedValid d = true) (hh : tuState d = tsHOLDOVER) :
    schedTimeSave d = incW (timeSaved d) Reg.TU_HOLDOVER := (if_pos hv).trans (if_pos hh)
theorem schedTimeSave_saves {d : Dev} (hv : schedValid d = true) (hh : tuState d ≠ tsHOLDOVER) : schedTimeSave d = timeSaved d :=
  (if_pos hv).trans (if_neg hh)
theorem schedTimeSave_unset {d : Dev} (hv : schedValid d = false) : schedTimeSave d = d := if_neg (by simp [hv])
theorem schedTimeSave_leaves {d : Dev} (hv : schedValid d = true) :
    (schedTimeSave d).bp = (if d.hm.powerFail = true then d.bp else { d.bp with savedS := schedTime d }) ∧
      (tuState d = tsHOLDOVER → rd (schedTimeSave d) Reg.TU_HOLDOVER = trunc Reg.TU_HOLDOVER.w (rd d Reg.TU_HOLDOVER + 1)) ∧
      regsBut [Reg.TU_HOLDOVER] d (schedTimeSave d) ∧ (tuState d ≠ tsHOLDOVER → (schedTimeSave d).regs = d.regs) := by
  by_cases hh : tuState d = tsHOLDOVER
  · rw [schedTimeSave_counts hv hh]
    exact ⟨rfl, fun _ => rd_wr_same (timeSaved d) _ _, regsBut_wr (timeSaved d) _ _, fun hn => absurd hh hn⟩
  · rw [schedTimeSave_saves hv hh]
    exact ⟨rfl, fun hc => absurd hc hh, regsBut_of_regs rfl _, fun _ => rfl⟩

/-! ## Timestamp queues (R249, R255 to R257) -/

theorem txtsOf_txtsPut (p q d) : txtsOf (txtsPut p q d) p = q := congrArg (Option.getD · []) (mget_mput_same d.tu.txts p q)
theorem txtsPut_regsBut (p q d) : regsBut [Reg.TU_TXTS_STATUS_COUNT p] d (txtsPut p q d) := regsBut_wr (tuSet _ d) _ _
theorem txtsNote_none (p ts d) : txtsNote p 0 ts d = d := (rfl)
theorem txtsAppend_put {p id : Nat} {d : Dev} (hi : id ≠ 0) (h : (txtsOf d p).length < 16) (ts) :
    txtsAppend p id ts d = txtsPut p (txtsOf d p ++ [(id, ts)]) d := (if_neg hi).trans (if_pos h)
/-- An entry refused by a full queue. -/
def txtsRefused (p : Nat) (d : Dev) : Dev :=
  let d := inc (wrB d (Reg.TU_TXTS_STATUS_OVF p) true) (Reg.TU_TXTS_STATUS_OVF_COUNT p)
  recordOnce Ev.TXTS_OVERFLOW p [.w p, .w (rd d (Reg.TU_TXTS_STATUS_OVF_COUNT p))] d
theorem txtsAppend_refused {p id : Nat} {d : Dev} (hi : id ≠ 0) (h : 16 ≤ (txtsOf d p).length) (ts) :
    txtsAppend p id ts d = txtsRefused p d := (if_neg hi).trans (if_neg (by omega))
theorem txtsNote_put {p id : Nat} {d : Dev} (hi : id ≠ 0) (h : (txtsOf d p).length < 16) (ts) :
    txtsOf (txtsNote p id ts d) p = txtsOf d p ++ [(id, txStamp d p ts)] ∧
      rd (txtsNote p id ts d) (Reg.TU_TXTS_STATUS_COUNT p) = (txtsOf d p).length + 1 ∧
      regsBut [Reg.TU_TXTS_STATUS_COUNT p] d (txtsNote p id ts d) := by
  rw [txtsNote, txtsAppend_put hi h]
  refine ⟨txtsOf_txtsPut _ _ _, (rd_wr_same _ _ _).trans ?_, txtsPut_regsBut _ _ _⟩
  rw [List.length_append]
  exact trunc_of_lt (by change (txtsOf d p).length + 1 < 32; omega)
theorem ovfCount_ne_ovf (p : Nat) : fldKey (Reg.TU_TXTS_STATUS_OVF_COUNT p) ≠ fldKey (Reg.TU_TXTS_STATUS_OVF p) := by
  simp only [fldKey, Reg.TU_TXTS_STATUS_OVF_COUNT, Reg.TU_TXTS_STATUS_OVF]
  omega
theorem evCounts_ovf {p : Nat} (hp : p < 6) : ∀ f ∈ evCounts, fldKey f ≠ fldKey (Reg.TU_TXTS_STATUS_OVF p) := by
  revert p
  decide
theorem evCounts_ovfCount {p : Nat} (hp : p < 6) : ∀ f ∈ evCounts, fldKey f ≠ fldKey (Reg.TU_TXTS_STATUS_OVF_COUNT p) := by
  revert p
  decide
theorem txtsRefused_regsBut (p d) :
    regsBut ([Reg.TU_TXTS_STATUS_OVF p, Reg.TU_TXTS_STATUS_OVF_COUNT p] ++ evCounts) d (txtsRefused p d) :=
  ((wrB_regsBut d (Reg.TU_TXTS_STATUS_OVF p) true).trans (inc_regsBut _ (Reg.TU_TXTS_STATUS_OVF_COUNT p))).trans (recordOnce_regsBut _ _ _ _)
/-- A full queue shows OVF and counts. -/
theorem txtsNote_refused {p id : Nat} {d : Dev} (hp : p < 6) (hi : id ≠ 0) (h : 16 ≤ (txtsOf d p).length) (ts) :
    (txtsNote p id ts d).tu = d.tu ∧ (txtsNote p id ts d).out = d.out ∧ flag (txtsNote p id ts d) (Reg.TU_TXTS_STATUS_OVF p) = true ∧
      rd (txtsNote p id ts d) (Reg.TU_TXTS_STATUS_OVF_COUNT p) =
        satAdd (Reg.TU_TXTS_STATUS_OVF_COUNT p).w (rd d (Reg.TU_TXTS_STATUS_OVF_COUNT p)) 1 ∧
      regsBut ([Reg.TU_TXTS_STATUS_OVF p, Reg.TU_TXTS_STATUS_OVF_COUNT p] ++ evCounts) d (txtsNote p id ts d) := by
  rw [txtsNote, txtsAppend_refused hi h]
  refine ⟨?_, ?_, ?_, ?_, txtsRefused_regsBut p d⟩
  · rw [txtsRefused, recordOnce_tu]
    rfl
  · rw [txtsRefused, recordOnce_shape]
    rfl
  · rw [txtsRefused, flag_of_regsBut (recordOnce_regsBut _ _ _ _) (evCounts_ovf hp), flag_of_regsBut (inc_regsBut _ _),
      flag_wrB_same _ _ _ (by simp [Reg.TU_TXTS_STATUS_OVF])]
    simpa using ovfCount_ne_ovf p
  · rw [txtsRefused, recordOnce_regsBut _ _ _ _ _ (evCounts_ovfCount hp), rd_inc_same, rd_wrB_ne _ _ (ovfCount_ne_ovf p).symm]

/-- A Deck read of an empty queue answers 0. -/
theorem txtsIdRead_empty {p : Nat} {d : Dev} (h : txtsOf d p = []) : txtsIdRead p d = emit (.read (Reg.TU_TXTS_ID_ID p).addr 0) d := by
  unfold txtsIdRead
  rw [h]
theorem txtsIdRead_takes {p : Nat} {d : Dev} {e : Nat × Nat} {r : List (Nat × Nat)} (h : txtsOf d p = e :: r) :
    txtsIdRead p d = wr (txtsPut p r (emit (.read (Reg.TU_TXTS_ID_ID p).addr (2 ^ 31 + e.1)) d)) (Reg.TU_TXTS p) e.2 := by
  unfold txtsIdRead
  rw [h]
/-- A Deck read removes the oldest entry and shows its timestamp. -/
theorem txtsIdRead_leaves {p : Nat} {d : Dev} {e : Nat × Nat} {r : List (Nat × Nat)} (h : txtsOf d p = e :: r) :
    txtsOf (txtsIdRead p d) p = r ∧ rd (txtsIdRead p d) (Reg.TU_TXTS p) = trunc 64 e.2 ∧
      (txtsIdRead p d).out = d.out ++ [.read (Reg.TU_TXTS_ID_ID p).addr (2 ^ 31 + e.1)] ∧
      regsBut [Reg.TU_TXTS_STATUS_COUNT p, Reg.TU_TXTS p] d (txtsIdRead p d) := by
  rw [txtsIdRead_takes h]
  have ht := txtsPut_regsBut p r (emit (.read (Reg.TU_TXTS_ID_ID p).addr (2 ^ 31 + e.1)) d)
  exact ⟨txtsOf_txtsPut _ _ _, rd_wr_same _ (Reg.TU_TXTS p) _, rfl, ht.trans (regsBut_wr _ (Reg.TU_TXTS p) e.2)⟩

end Sys2Proof.Machine
end

section
/-!
SUPPORT. What the slices and the switch leave of the Time unit, and the realignment of schedule time (R229, R248, R262, R510, R513).
-/
namespace Sys2Proof.Machine

/-! ## Outside the switch, the slices and the recorder -/

/-- A field of the switch, the slices or the recorder. -/
def sideField (f : Fld) : Prop := 0x40050000 ≤ f.addr ∧ f.addr < 0x40110000 ∧ f.lo < 32
/-- A register key outside those of the switch, the slices and the recorder. -/
def timeKey (k : Nat) : Bool := decide (k < 0x40050000 * 32) || decide (0x40110000 * 32 ≤ k)
theorem timeKey_side {f g : Fld} (hf : sideField f) (hg : timeKey (fldKey g) = true) : fldKey f ≠ fldKey g := by
  obtain ⟨h1, h2, h3⟩ := hf
  simp only [timeKey, Bool.or_eq_true, decide_eq_true_eq] at hg
  simp only [fldKey] at hg ⊢
  omega
/-- The Time unit with its registers, the crossings' and the module's clock. -/
def timeView (d : Dev) : (Fld → Nat) × TuUnit × Nat := (fun g => if timeKey (fldKey g) then rd d g else 0, d.tu, d.clk)
theorem timeView_of {l : List Fld} {d t : Dev} (h : regsBut l d t) (hl : ∀ f ∈ l, sideField f) (htu : t.tu = d.tu) (hc : t.clk = d.clk) :
    timeView t = timeView d := by
  have hr : (fun g => if timeKey (fldKey g) then rd t g else 0) = fun g => if timeKey (fldKey g) then rd d g else 0 := by
    funext g
    by_cases hg : timeKey (fldKey g) = true
    · rw [if_pos hg, if_pos hg, h g fun f hf => timeKey_side (hl f hf) hg]
    · rw [if_neg hg, if_neg hg]
  rw [timeView, timeView, hr, htu, hc]
theorem rd_of_timeView {d t : Dev} (h : timeView t = timeView d) {g : Fld} (hg : timeKey (fldKey g) = true) : rd t g = rd d g := by
  have hr := congrFun (congrArg Prod.fst h) g
  simpa only [timeView, if_pos hg] using hr
theorem tu_of_timeView {d t : Dev} (h : timeView t = timeView d) : t.tu = d.tu := congrArg (·.2.1) h
theorem clk_of_timeView {d t : Dev} (h : timeView t = timeView d) : t.clk = d.clk := congrArg (·.2.2) h
@[simp] theorem timeView_ite (p : Prop) [Decidable p] (a b : Dev) : timeView (if p then a else b) = if p then timeView a else timeView b :=
  apply_ite timeView p a b
theorem wr_timeView {f : Fld} (h : sideField f) (d v) : timeView (wr d f v) = timeView d :=
  timeView_of (regsBut_wr d f v) (by simpa using h) rfl rfl
theorem evCounts_side : ∀ f ∈ evCounts, sideField f := by
  unfold sideField
  decide
@[simp] theorem recordP_timeView (c p l d) : timeView (recordP c p l d) = timeView d :=
  timeView_of (recordP_regsBut c p l d) evCounts_side (by rw [recordP_shape]) (by rw [recordP_shape])
@[simp] theorem recordOnceP_timeView (c i p l d) : timeView (recordOnceP c i p l d) = timeView d := by
  unfold recordOnceP
  dsimp only
  split
  · exact recordP_timeView _ _ _ _
  · rfl
@[simp] theorem ptSet_timeView (p f d) : timeView (ptSet p f d) = timeView d := (rfl)

/-! ## The filters of the position references (R261, R262, R265 to R269) -/

theorem ptCtl_side (p : Pier) {k : Nat} (hk : k < 64) : sideField (Reg.PT_TRIG_CTL_STATE (sl p) k) := by
  have hp : sl p < 3 := pierIdx_lt p
  simp only [sideField, Reg.PT_TRIG_CTL_STATE]
  omega
theorem ptHit_side (p : Pier) : sideField (Reg.PT_HIT (sl p)) := by
  have hp : sl p < 3 := pierIdx_lt p
  simp only [sideField, Reg.PT_HIT]
  omega
theorem legState_side (p : Pier) : sideField (Reg.FIO_LEG_STATE_APPLIED (sl p)) := by
  have hp : sl p < 3 := pierIdx_lt p
  simp only [sideField, Reg.FIO_LEG_STATE_APPLIED]
  omega
theorem refPos_side (p : Pier) {r : Nat} (hr : r < 4) : sideField (Reg.PT_REF_POS (sl p) r) := by
  have hp : sl p < 3 := pierIdx_lt p
  simp only [sideField, Reg.PT_REF_POS]
  omega
theorem refDir_side (p : Pier) {r : Nat} (hr : r < 4) : sideField (Reg.PT_REF_STAT_DIR (sl p) r) := by
  have hp : sl p < 3 := pierIdx_lt p
  simp only [sideField, Reg.PT_REF_STAT_DIR]
  omega
theorem refQerr_side (p : Pier) {r : Nat} (hr : r < 4) : sideField (Reg.PT_REF_STAT_QERR (sl p) r) := by
  have hp : sl p < 3 := pierIdx_lt p
  simp only [sideField, Reg.PT_REF_STAT_QERR]
  omega
theorem trigState_timeView (p : Pier) {k : Nat} (hk : k < 64) (st d) : timeView (trigState p k st d) = timeView d :=
  (wr_timeView (ptHit_side p) _ _).trans (wr_timeView (ptCtl_side p hk) _ _)
theorem legPut_timeView (p out on d) : timeView (legPut p out on d) = timeView d := wr_timeView (legState_side p) _ _
theorem trigHit_timeView (p : Pier) {k : Nat} (hk : k < 64) (d) : timeView (trigHit p k d) = timeView d := by
  unfold trigHit
  dsimp only
  rw [timeView_ite, timeView_ite, legPut_timeView, ptSet_timeView, ite_self, ite_self, recordP_timeView, ptSet_timeView, trigState_timeView p hk]
theorem ptCount_timeView (p : Pier) {r : Nat} (hr : r < 4) (up d) : timeView (ptCount p r up d) = timeView d :=
  (wr_timeView (refDir_side p hr) _ _).trans (wr_timeView (refPos_side p hr) _ _)
theorem ptMove_timeView (p : Pier) {r : Nat} (hr : r < 4) (up x) : timeView (ptMove p r up x).2 = timeView x.2 := ptCount_timeView p hr up x.2
theorem ptEdge_timeView (p : Pier) {r : Nat} (hr : r < 4) (a0 b0 a b x) : timeView (ptEdge p r a0 b0 a b x).2 = timeView x.2 := by
  unfold ptEdge
  dsimp only
  split_ifs
  · exact (recordOnceP_timeView _ _ _ _ _).trans (wr_timeView (refQerr_side p hr) _ _)
  · exact ptMove_timeView p hr _ x
  · rfl
  · exact ptMove_timeView p hr _ x
  · rfl
  · rfl
theorem refStep_timeView (p : Pier) {r : Nat} (hr : r < 4) (x) : timeView (refStep p r x).2 = timeView x.2 := by
  unfold refStep
  dsimp only
  split_ifs
  · rfl
  all_goals exact (ptEdge_timeView p hr _ _ _ _ _).trans (ptSet_timeView _ _ _)
theorem refSteps_timeView (p : Pier) {l : List Nat} (hl : ∀ r ∈ l, r < 4) (x) :
    timeView (l.foldl (fun x r => refStep p r x) x).2 = timeView x.2 := by
  induction l generalizing x with
  | nil => rfl
  | cons r l ih =>
    exact (ih (fun s hs => hl s (List.mem_cons_of_mem r hs)) _).trans (refStep_timeView p (hl r List.mem_cons_self) x)
theorem hitsAt_timeView (p moves d) : timeView (hitsAt p moves d) = timeView d := by
  unfold hitsAt
  split
  · rfl
  refine forEach_keeps (fun k hk e => ?_) d
  split
  · rfl
  · rw [timeView_ite, trigHit_timeView p (List.mem_range.mp hk), ite_self]
theorem refsStep_timeView (p sel d) : timeView (refsStep p sel d) = timeView d :=
  (hitsAt_timeView p _ _).trans (refSteps_timeView p (fun _ hr => List.mem_range.mp (List.mem_of_mem_filter hr)) _)
/-- What passes the filters leaves the Time unit alone. -/
theorem filtersPass_timeView (d) : timeView (filtersPass d) = timeView d :=
  forEach_keeps (v := timeView) (fun p _ e => (refsStep_timeView p _ _).trans (refsStep_timeView p _ e)) d

/-! ## TIME_REALIGN (R229, R248, R510, R513) -/

theorem clkAdvance_regsBut (ns d) : regsBut [Reg.MCTL_OP_SECONDS] d (clkAdvance ns d) := by
  unfold clkAdvance
  dsimp only
  split
  · exact regsBut_of_regs rfl _
  · exact (regsBut_wr d Reg.MCTL_OP_SECONDS _).both (regsBut_of_regs rfl _)
theorem clkAdvance_tu (ns d) : (clkAdvance ns d).tu = d.tu := by
  unfold clkAdvance
  dsimp only
  split <;> rfl
theorem clkAdvance_clk (ns d) : (clkAdvance ns d).clk = d.clk + ns := by
  unfold clkAdvance
  dsimp only
  split <;> rfl
/-- The module's clock does not change how schedule time runs. -/
theorem schedAfter_clkAdvance (ns k d) : schedAfter ns (clkAdvance k d) = schedAfter ns d := by
  have hr : ∀ g, fldKey Reg.MCTL_OP_SECONDS ≠ fldKey g → rd (clkAdvance k d) g = rd d g := fun g hg =>
    clkAdvance_regsBut k d g (by simpa using hg)
  rw [schedAfter, schedRate, schedTime, hr _ (by decide), hr _ (by decide), hr _ (by decide), clkAdvance_tu]
  rfl
/-- A microsecond passed, with the copies of the MACs realigned. -/
def realigned (d : Dev) : Dev :=
  let e := schedAdvance 1000 (clkAdvance 1000 d)
  if schedValid e then macsRealign e else e
theorem timeRealign_eq (n d) : timeRealign n d = crossingOverruns n (realigned d) := (rfl)
theorem schedAdvance_valid {d : Dev} (h : schedValid d = true) (ns) :
    schedAdvance ns d = wr (tuSet (fun t => { t with frac := (schedAfter ns d).2 }) d) Reg.TU_SCHED (schedAfter ns d).1 := if_pos h
theorem schedAdvance_unset {d : Dev} (h : schedValid d = false) (ns) : schedAdvance ns d = d := if_neg (by simp [h])
theorem schedAdvance_regsBut (ns d) : regsBut [Reg.TU_SCHED] d (schedAdvance ns d) := by
  by_cases h : schedValid d = true
  · rw [schedAdvance_valid h]
    exact regsBut_wr (tuSet _ d) _ _
  · rw [schedAdvance_unset (by simpa using h)]
    exact regsBut_refl _ d
theorem schedAdvance_clk (ns d) : (schedAdvance ns d).clk = d.clk := by
  unfold schedAdvance
  split <;> rfl
theorem realigned_regsBut (d) : regsBut [Reg.MCTL_OP_SECONDS, Reg.TU_SCHED] d (realigned d) := by
  have h : regsBut ([Reg.MCTL_OP_SECONDS] ++ [Reg.TU_SCHED]) d (schedAdvance 1000 (clkAdvance 1000 d)) :=
    (clkAdvance_regsBut 1000 d).trans (schedAdvance_regsBut 1000 _)
  unfold realigned
  dsimp only
  split
  · exact h.both (tuSet_regsBut _ _ _)
  · exact h
theorem realigned_clk (d) : (realigned d).clk = d.clk + 1000 := by
  have h : (schedAdvance 1000 (clkAdvance 1000 d)).clk = d.clk + 1000 := by rw [schedAdvance_clk, clkAdvance_clk]
  unfold realigned
  dsimp only
  split
  · exact h
  · exact h
theorem macTime_macsRealign (d) {p : Nat} (hp : p < 6) : macTime (macsRealign d) p = schedTime (macsRealign d) := by
  interval_cases p <;> rfl
theorem schedValid_advanced (d) : schedValid (schedAdvance 1000 (clkAdvance 1000 d)) = schedValid d := by
  rw [schedValid, flag_of_regsBut (schedAdvance_regsBut _ _) (by decide), flag_of_regsBut (clkAdvance_regsBut _ _) (by decide), schedValid]
/-- Valid schedule time runs on with its rate, and the copies of the MACs show it. -/
theorem realigned_valid {d : Dev} (h : schedValid d = true) :
    schedTime (realigned d) = trunc 64 (schedAfter 1000 d).1 ∧ ∀ p < 6, macTime (realigned d) p = schedTime (realigned d) := by
  have hc : schedValid (clkAdvance 1000 d) = true := (flag_of_regsBut (clkAdvance_regsBut 1000 d) (by decide)).trans h
  have hm : realigned d = macsRealign (schedAdvance 1000 (clkAdvance 1000 d)) := if_pos ((schedValid_advanced d).trans h)
  rw [hm]
  refine ⟨?_, fun p hp => macTime_macsRealign _ hp⟩
  rw [macsRealign, schedTime, rd_tuSet, schedAdvance_valid hc, rd_wr_same, schedAfter_clkAdvance]
  rfl
theorem realigned_unset {d : Dev} (h : schedValid d = false) : schedTime (realigned d) = schedTime d := by
  have hc : schedValid (clkAdvance 1000 d) = false := (flag_of_regsBut (clkAdvance_regsBut 1000 d) (by decide)).trans h
  have hm : realigned d = schedAdvance 1000 (clkAdvance 1000 d) := if_neg (by rw [schedValid_advanced, h]; decide)
  rw [hm, schedAdvance_unset hc]
  exact clkAdvance_regsBut 1000 d _ (by decide)
theorem timeRealign_none (d) : timeRealign 0 d = realigned d := by
  rw [timeRealign_eq, crossingOverruns, show bitsOf 24 0 = [] from by decide]
  rfl
theorem bitsOf_single : ∀ c < 24, bitsOf 24 (2 ^ c) = [c] := by decide
theorem timeRealign_one {c : Nat} (hc : c < 24) (d) : timeRealign (2 ^ c) d = crossingOverrun c (realigned d) := by
  rw [timeRealign_eq, crossingOverruns, bitsOf_single c hc]
  rfl
/-- The crossings that never overrun. -/
def crossingsSafe : List Nat := [0, 1, 2, 3, 4, 5, 6, 9, 11]
theorem crossingOverrun_safe {c : Nat} (h : c ∈ crossingsSafe) (d) : crossingOverrun c d = d := if_pos h
theorem crossingOverrun_noted {c : Nat} (hc : c < 24) (h : c ∉ crossingsSafe) (d) :
    bitF (crossingOverrun c d) Reg.CKR_OVR_OVR c = true ∧
      rd (crossingOverrun c d) (Reg.CKR_OVR_CNT_COUNT c) = satAdd (Reg.CKR_OVR_CNT_COUNT c).w (rd d (Reg.CKR_OVR_CNT_COUNT c)) 1 := by
  have hk : fldKey Reg.CKR_OVR_OVR ≠ fldKey (Reg.CKR_OVR_CNT_COUNT c) := by
    simp only [fldKey, Reg.CKR_OVR_OVR, Reg.CKR_OVR_CNT_COUNT]
    omega
  have he : ∀ f ∈ evCounts, fldKey f ≠ fldKey (Reg.CKR_OVR_CNT_COUNT c) := by
    clear * - hc
    revert c
    decide
  have ho : crossingOverrun c d = recordOnce Ev.CROSSING_OVERRUN c
      [.w c, .w (rd (inc (setBitF d Reg.CKR_OVR_OVR c) (Reg.CKR_OVR_CNT_COUNT c)) (Reg.CKR_OVR_CNT_COUNT c))]
      (inc (setBitF d Reg.CKR_OVR_OVR c) (Reg.CKR_OVR_CNT_COUNT c)) := if_neg h
  rw [ho]
  constructor
  · rw [bitF, recordOnce_regsBut _ _ _ _ _ (by decide), rd_inc_ne _ hk.symm]
    exact (bitF_setBitF d _ c c hc).trans (by simp)
  · rw [recordOnce_regsBut _ _ _ _ _ he, rd_inc_same]
    exact congrArg (satAdd _ · 1) (rd_wr_ne _ _ hk)
theorem ckrCount_timeKey (c : Nat) : timeKey (fldKey (Reg.CKR_OVR_CNT_COUNT c)) = true := by
  refine (Bool.or_eq_true _ _).mpr (.inr (decide_eq_true ?_))
  simp only [fldKey, Reg.CKR_OVR_CNT_COUNT]
  omega
/-- A microsecond without an overrun, to the end of the command. -/
theorem timeRealign_none_leaves (d) : (filtersPass (timeRealign 0 d)).clk = d.clk + 1000 ∧
    (schedValid d = true → schedTime (filtersPass (timeRealign 0 d)) = trunc 64 (schedAfter 1000 d).1 ∧
      ∀ p < 6, macTime (filtersPass (timeRealign 0 d)) p = schedTime (filtersPass (timeRealign 0 d))) ∧
    (schedValid d = false → schedTime (filtersPass (timeRealign 0 d)) = schedTime d) := by
  rw [timeRealign_none]
  have hv := filtersPass_timeView (realigned d)
  have hsched : schedTime (filtersPass (realigned d)) = schedTime (realigned d) := rd_of_timeView hv (by decide)
  refine ⟨(clk_of_timeView hv).trans (realigned_clk d), fun h => ?_, fun h => hsched.trans (realigned_unset h)⟩
  obtain ⟨ht, hm⟩ := realigned_valid h
  refine ⟨hsched.trans ht, fun p hp => ?_⟩
  rw [macTime, tu_of_timeView hv, hsched]
  exact hm p hp
/-- The same with an overrun of one crossing. -/
theorem timeRealign_one_leaves {c : Nat} (hc : c < 24) (d) :
    if c ∈ crossingsSafe then
      bitF (filtersPass (timeRealign (2 ^ c) d)) Reg.CKR_OVR_OVR c = bitF d Reg.CKR_OVR_OVR c ∧
        rd (filtersPass (timeRealign (2 ^ c) d)) (Reg.CKR_OVR_CNT_COUNT c) = rd d (Reg.CKR_OVR_CNT_COUNT c)
    else bitF (filtersPass (timeRealign (2 ^ c) d)) Reg.CKR_OVR_OVR c = true ∧
      rd (filtersPass (timeRealign (2 ^ c) d)) (Reg.CKR_OVR_CNT_COUNT c) =
        satAdd (Reg.CKR_OVR_CNT_COUNT c).w (rd d (Reg.CKR_OVR_CNT_COUNT c)) 1 := by
  have hv := filtersPass_timeView (crossingOverrun c (realigned d))
  have hr := realigned_regsBut d
  have hkey : ∀ f ∈ [Reg.MCTL_OP_SECONDS, Reg.TU_SCHED], fldKey f ≠ fldKey (Reg.CKR_OVR_CNT_COUNT c) := by
    clear * - hc
    revert c
    decide
  rw [timeRealign_one hc, bitF, rd_of_timeView hv (by decide), rd_of_timeView hv (ckrCount_timeKey c)]
  split
  · next h =>
    rw [crossingOverrun_safe h, hr _ (by decide), hr _ hkey]
    exact ⟨rfl, rfl⟩
  · next h =>
    obtain ⟨hbit, hcount⟩ := crossingOverrun_noted hc h (realigned d)
    exact ⟨hbit, by rw [hcount, hr _ hkey]⟩

end Sys2Proof.Machine
end

section
/-!
SUPPORT. Frames with a launch time: sent within their tolerance, left before their time, dropped, or sent late and counted (R253 to R255).
-/
namespace Sys2Proof.Machine

/-! ## Messages only join what was sent -/

/-- What was sent stays sent, in its order. -/
def outGrows (d t : Dev) : Prop := ∃ r, t.out = d.out ++ r
theorem outGrows_of_eq {d t : Dev} (h : t.out = d.out) : outGrows d t := ⟨[], by rw [h, List.append_nil]⟩
theorem outGrows.trans {d e t : Dev} (h1 : outGrows d e) (h2 : outGrows e t) : outGrows d t := by
  obtain ⟨r, hr⟩ := h1
  obtain ⟨s, hs⟩ := h2
  exact ⟨r ++ s, by rw [hs, hr, List.append_assoc]⟩
theorem swSet_outGrows (f d) : outGrows d (swSet f d) := outGrows_of_eq rfl
theorem emit_outGrows (o d) : outGrows d (emit o d) := ⟨[o], rfl⟩
theorem forEach_outGrows {α : Type} {l : List α} {f : α → Dev → Dev} (h : ∀ x d, outGrows d (f x d)) (d) : outGrows d (forEach l f d) := by
  induction l generalizing d with
  | nil => exact outGrows_of_eq rfl
  | cons x r ih => exact (h x d).trans (ih (f x d))

/-! ## What drains from a port (R283, R284) -/

theorem swTx_side {p : Nat} (hp : p < 6) : sideField (Reg.SW_PORT_TX p) := by
  simp only [sideField, Reg.SW_PORT_TX]
  omega
theorem swLevel_timeView (d) : timeView (swLevel d) = timeView d :=
  (wr_timeView (f := Reg.SW_STATUS_BUF_PEAK) (by unfold sideField; decide) _ _).trans
    (wr_timeView (f := Reg.SW_STATUS_BUF_KIB) (by unfold sideField; decide) d _)
/-- One frame of the switch sent. -/
theorem ethSent_timeView {p : Nat} (hp : p < 6) (f d) : timeView (emit (.eth p f) (incW d (Reg.SW_PORT_TX p))) = timeView d :=
  wr_timeView (swTx_side hp) d _
theorem swDrain_timeView {p : Nat} (hp : p < 6) (d) : timeView (swDrain p d) = timeView d := by
  refine (swLevel_timeView _).trans (forEach_keeps (fun tc _ e => ?_) d)
  split
  · exact (forEach_keeps (v := timeView) (fun f _ e => ethSent_timeView hp f e) _).trans rfl
  · rfl
theorem swDrain_outGrows (p d) : outGrows d (swDrain p d) := by
  refine (forEach_outGrows (fun tc e => ?_) d).trans (outGrows_of_eq rfl)
  split
  · refine (swSet_outGrows _ e).trans (forEach_outGrows (fun f e => ?_) _)
    exact (outGrows_of_eq rfl).trans (emit_outGrows (.eth p f) (incW e (Reg.SW_PORT_TX p)))
  · exact outGrows_of_eq rfl
theorem launchNext_timeView {p : Nat} (hp : p < 6) (q d) : timeView (launchNext p q d) = timeView d := (swDrain_timeView hp _).trans rfl
theorem launchNext_outGrows (p q d) : outGrows d (launchNext p q d) := by
  unfold launchNext
  exact (swSet_outGrows _ d).trans (swDrain_outGrows p _)
/-- The launch queue of a port is the Time unit's. -/
theorem launchQ_of_tu {d t : Dev} (h : t.tu = d.tu) (p) : launchQ t p = launchQ d p := by rw [launchQ, h, launchQ]

/-! ## A frame taken, sent or dropped -/

theorem launchQ_launchTake (p f d) : launchQ (launchTake p f d) p = (launchQ d p).erase f :=
  congrArg (Option.getD · []) (mget_mput_same d.tu.launchQ p _)
theorem launchSend_tu (p late f d) : (launchSend p late f d).tu = (launchTake p f d).tu := (rfl)
theorem txtsAppend_launchQ (p id ts d) : (txtsAppend p id ts d).tu.launchQ = d.tu.launchQ := by
  unfold txtsAppend
  dsimp only
  split_ifs
  · rfl
  · rfl
  · rw [recordOnce_tu]
    rfl
/-- The fields that an entry of a timestamp queue writes. -/
def txtsFields (p : Nat) : List Fld := [Reg.TU_TXTS_STATUS_COUNT p, Reg.TU_TXTS_STATUS_OVF p, Reg.TU_TXTS_STATUS_OVF_COUNT p] ++ evCounts
theorem txtsAppend_regsBut (p id ts d) : regsBut (txtsFields p) d (txtsAppend p id ts d) := by
  by_cases hi : id = 0
  · rw [show txtsAppend p id ts d = d from if_pos hi]
    exact regsBut_refl _ d
  by_cases h : (txtsOf d p).length < 16
  · rw [txtsAppend_put hi h]
    exact (txtsPut_regsBut _ _ d).mono (by simp [txtsFields])
  · rw [txtsAppend_refused hi (by omega)]
    refine (txtsRefused_regsBut p d).mono fun f hf => ?_
    simp only [List.mem_append, List.mem_cons, List.not_mem_nil, or_false] at hf
    simp only [txtsFields, List.mem_append, List.mem_cons, List.not_mem_nil, or_false]
    exact hf.imp_left .inr
theorem txtsFields_dropped {p : Nat} (hp : p < 6) : ∀ f ∈ txtsFields p, fldKey f ≠ fldKey (Reg.TU_LAUNCH_CNT_DROPPED p) := by
  revert p
  decide
theorem evCounts_dropped {p : Nat} (hp : p < 6) : ∀ f ∈ evCounts, fldKey f ≠ fldKey (Reg.TU_LAUNCH_CNT_DROPPED p) := by
  revert p
  decide
theorem dropped_timeKey {p : Nat} (hp : p < 6) : timeKey (fldKey (Reg.TU_LAUNCH_CNT_DROPPED p)) = true := by
  revert p
  decide
theorem late_timeKey {p : Nat} (hp : p < 6) : timeKey (fldKey (Reg.TU_LAUNCH_CNT_LATE p)) = true := by
  revert p
  decide
/-- A frame dropped has left its queue and is counted. -/
theorem launchDrop_leaves {p : Nat} (hp : p < 6) (f by_ d) : launchQ (launchDrop p f by_ d) p = (launchQ d p).erase f ∧
    rd (launchDrop p f by_ d) (Reg.TU_LAUNCH_CNT_DROPPED p) =
      satAdd (Reg.TU_LAUNCH_CNT_DROPPED p).w (rd d (Reg.TU_LAUNCH_CNT_DROPPED p)) 1 := by
  constructor
  · rw [launchQ, launchDrop, txtsAppend_launchQ, recordOnce_tu, inc_tu]
    exact launchQ_launchTake p f d
  · rw [launchDrop, txtsAppend_regsBut _ _ _ _ _ (txtsFields_dropped hp), recordOnce_regsBut _ _ _ _ _ (evCounts_dropped hp), rd_inc_same]
    rfl

/-! ## FRAME_LAUNCH (R253, R254) -/

/-- A frame sent after its tolerance: counted and reported. -/
def launchLate (p late : Nat) (f : LaunchFrame) (d : Dev) : Dev :=
  recordOnce Ev.LAUNCH_LATE p [.w p, .w late] (inc (launchSend p late f d) (Reg.TU_LAUNCH_CNT_LATE p))
theorem launchLate_spec {p : Nat} (hp : p < 6) (late f d) : (launchLate p late f d).tu = (launchTake p f d).tu ∧
    (launchLate p late f d).out = d.out ++ [.launched p late f] ∧
    rd (launchLate p late f d) (Reg.TU_LAUNCH_CNT_LATE p) = satAdd (Reg.TU_LAUNCH_CNT_LATE p).w (rd d (Reg.TU_LAUNCH_CNT_LATE p)) 1 := by
  have hev : ∀ f ∈ evCounts, fldKey f ≠ fldKey (Reg.TU_LAUNCH_CNT_LATE p) := by
    clear * - hp
    revert p
    decide
  refine ⟨?_, ?_, ?_⟩
  · rw [launchLate, recordOnce_tu, inc_tu, launchSend_tu]
  · rw [launchLate, recordOnce_shape]
    rfl
  · rw [launchLate, recordOnce_regsBut _ _ _ _ _ hev, rd_inc_same]
    exact congrArg (satAdd _ · 1) (rd_wr_ne _ _ (timeKey_side (swTx_side hp) (late_timeKey hp)))

section
variable {p q now : Nat} {d : Dev}
theorem launchHead_none (h : (launchQ d p).find? (fun x => x.queue == q) = none) : launchHead p q now d = d := by
  unfold launchHead
  rw [h]
variable {f : LaunchFrame} (h : (launchQ d p).find? (fun x => x.queue == q) = some f)
include h
theorem launchHead_some : launchHead p q now d =
    if (swQueue d p q).any (fun e => e.behind == 0) || !gateOpen d p q then d
    else if macNow d p now + second < f.launch then launchNext p q (launchDrop p f (f.launch - macNow d p now) d)
    else if macNow d p now < f.launch then d
    else if macNow d p now - f.launch ≤ rd d (Reg.TU_LAUNCH_LATE_TOL p) then launchNext p q (launchSend p (macNow d p now - f.launch) f d)
    else if flag d (Reg.TU_LAUNCH_POLICY p) then launchNext p q (launchDrop p f (macNow d p now - f.launch) d)
    else launchNext p q (launchLate p (macNow d p now - f.launch) f d) := by
  unfold launchHead
  rw [h]
  rfl
/-- Before its time, behind another frame or with its gate closed, the frame stays. -/
theorem launchHead_waits (hw : ((swQueue d p q).any fun e => e.behind == 0) = true ∨ gateOpen d p q = false ∨
    (macNow d p now < f.launch ∧ f.launch ≤ macNow d p now + second)) : launchHead p q now d = d := by
  rw [launchHead_some h]
  rcases hw with ha | hg | ⟨hlt, hle⟩
  · exact if_pos (by simp [ha])
  · exact if_pos (by simp [hg])
  · rw [if_neg (Nat.not_lt.mpr hle), if_pos hlt, ite_self]
variable (hw : ¬ (((swQueue d p q).any fun e => e.behind == 0) = true ∨ gateOpen d p q = false ∨
    (macNow d p now < f.launch ∧ f.launch ≤ macNow d p now + second)))
include hw
omit h in
theorem launchHead_open : ¬ ((swQueue d p q).any (fun e => e.behind == 0) || !gateOpen d p q) = true := by
  simp only [not_or, Bool.not_eq_true, Bool.not_eq_false] at hw
  simp [hw.1, hw.2.1]
theorem launchHead_drops (hd : macNow d p now + second < f.launch ∨
    (rd d (Reg.TU_LAUNCH_LATE_TOL p) < macNow d p now - f.launch ∧ flag d (Reg.TU_LAUNCH_POLICY p) = true)) :
    ∃ by_, launchHead p q now d = launchNext p q (launchDrop p f by_ d) := by
  rw [launchHead_some h, if_neg (launchHead_open hw)]
  rcases hd with hlt | ⟨hlate, hpol⟩
  · exact ⟨_, if_pos hlt⟩
  · rw [if_neg (by omega), if_neg (by omega), if_neg (by omega), if_pos hpol]
    exact ⟨_, rfl⟩
theorem launchHead_sends (hd : ¬ (macNow d p now + second < f.launch ∨
    (rd d (Reg.TU_LAUNCH_LATE_TOL p) < macNow d p now - f.launch ∧ flag d (Reg.TU_LAUNCH_POLICY p) = true))) :
    launchHead p q now d =
      if macNow d p now - f.launch ≤ rd d (Reg.TU_LAUNCH_LATE_TOL p) then launchNext p q (launchSend p (macNow d p now - f.launch) f d)
      else launchNext p q (launchLate p (macNow d p now - f.launch) f d) := by
  rw [launchHead_some h, if_neg (launchHead_open hw)]
  rw [not_or] at hd hw
  rw [not_or] at hw
  obtain ⟨hnear, hpol⟩ := hd
  rw [if_neg hnear, if_neg (by omega)]
  split
  · rfl
  · exact if_neg fun hp => hpol ⟨by omega, hp⟩
/-- A frame dropped leaves its queue and is counted. -/
theorem launchHead_drops_leaves (hp : p < 6) (hd : macNow d p now + second < f.launch ∨
    (rd d (Reg.TU_LAUNCH_LATE_TOL p) < macNow d p now - f.launch ∧ flag d (Reg.TU_LAUNCH_POLICY p) = true)) :
    launchQ (launchHead p q now d) p = (launchQ d p).erase f ∧ rd (launchHead p q now d) (Reg.TU_LAUNCH_CNT_DROPPED p) =
      satAdd (Reg.TU_LAUNCH_CNT_DROPPED p).w (rd d (Reg.TU_LAUNCH_CNT_DROPPED p)) 1 := by
  obtain ⟨by_, he⟩ := launchHead_drops h hw hd
  obtain ⟨hq, hc⟩ := launchDrop_leaves hp f by_ d
  have hv := launchNext_timeView hp q (launchDrop p f by_ d)
  rw [he]
  exact ⟨(launchQ_of_tu (tu_of_timeView hv) p).trans hq, (rd_of_timeView hv (dropped_timeKey hp)).trans hc⟩
/-- A frame sent leaves its queue; one sent late is counted. -/
theorem launchHead_sends_leaves (hp : p < 6) (hd : ¬ (macNow d p now + second < f.launch ∨
    (rd d (Reg.TU_LAUNCH_LATE_TOL p) < macNow d p now - f.launch ∧ flag d (Reg.TU_LAUNCH_POLICY p) = true))) :
    launchQ (launchHead p q now d) p = (launchQ d p).erase f ∧
      (∃ r, (launchHead p q now d).out = d.out ++ [.launched p (macNow d p now - f.launch) f] ++ r) ∧
      (rd d (Reg.TU_LAUNCH_LATE_TOL p) < macNow d p now - f.launch → rd (launchHead p q now d) (Reg.TU_LAUNCH_CNT_LATE p) =
        satAdd (Reg.TU_LAUNCH_CNT_LATE p).w (rd d (Reg.TU_LAUNCH_CNT_LATE p)) 1) := by
  rw [launchHead_sends h hw hd]
  generalize macNow d p now - f.launch = late
  split
  · next hin =>
    have hv := launchNext_timeView hp q (launchSend p late f d)
    exact ⟨(launchQ_of_tu (tu_of_timeView hv) p).trans (launchQ_launchTake p f d), launchNext_outGrows p q (launchSend p late f d),
      fun hc => absurd hin (by omega)⟩
  · obtain ⟨htu, hout, hc⟩ := launchLate_spec hp late f d
    obtain ⟨r, hr⟩ := launchNext_outGrows p q (launchLate p late f d)
    have hv := launchNext_timeView hp q (launchLate p late f d)
    exact ⟨(launchQ_of_tu ((tu_of_timeView hv).trans htu) p).trans (launchQ_launchTake p f d), ⟨r, by rw [hr, hout]⟩,
      fun _ => (rd_of_timeView hv (late_timeKey hp)).trans hc⟩
end

end Sys2Proof.Machine
end

section
/-!
SETTLES O41: the clock's servo and master rules, messages, launches and timestamp queues.
-/
namespace Sys2Proof.Machine

/-! ## What each command does -/

section
variable {s : State} {P : Dev → Prop} (hs : Running s)
include hs
theorem answers_syncReceived {port origin rxS : Nat} :
    Answers (.syncReceived port origin rxS) s P ↔ P (syncReceived port origin rxS s.dev) := answers_of rfl hs
theorem answers_pathDelayMeasured {port ns : Nat} :
    Answers (.pathDelayMeasured port ns) s P ↔ P (pathDelayMeasured port ns s.dev) := answers_of rfl hs
theorem answers_announceReceived {port gm : Nat} {r : BmcResult} :
    Answers (.announceReceived port gm r) s P ↔ P (announceReceived port gm r s.dev) := answers_of rfl hs
theorem answers_announceTimeout {gm : Nat} {r : BmcResult} :
    Answers (.announceTimeout gm r) s P ↔ P (announceTimeout gm r s.dev) := answers_of rfl hs
theorem answers_ptpIntervalTimer {port kind : Nat} :
    Answers (.ptpIntervalTimer port kind) s P ↔ P (ptpIntervalTimer port kind s.dev) := answers_of rfl hs
theorem answers_delayReqReceived {port kind rxS : Nat} :
    Answers (.delayReqReceived port kind rxS) s P ↔ P (delayReqReceived port kind rxS s.dev) := answers_of rfl hs
theorem answers_schedTimeSave : Answers .schedTimeSave s P ↔ P (schedTimeSave s.dev) := answers_of rfl hs
theorem answers_timeRealign {n : Nat} : Answers (.timeRealign n) s P ↔ P (filtersPass (timeRealign n s.dev)) :=
  answers_of (f := fun d => filtersPass (timeRealign n d)) rfl hs
theorem answers_frameLaunch {port queue now : Nat} :
    Answers (.frameLaunch port queue now) s P ↔ P (launchHead port queue now s.dev) := answers_of rfl hs
theorem answers_txtsAppend {port id ts : Nat} : Answers (.txtsAppend port id ts) s P ↔ P (txtsNote port id ts s.dev) := answers_of rfl hs
theorem answers_txtsIdRead {port : Nat} : Answers (.txtsIdRead port) s P ↔ P (txtsIdRead port s.dev) := answers_of rfl hs
end

/-- Settles O41: each command's outcome is the one its lemma above names, by the branch its rule takes. -/
theorem timeServoAndQueues : Obligations.TimeServoAndQueues := by
  refine ⟨fun s hs => ⟨fun port origin rxS => ?_, fun port ns h => ?_, fun port ns hp h => ?_, fun port gm r h => ?_,
    fun port gm slave passive hpt hsrc hsl => ?_, fun port gm passive hpt hsrc => ?_, fun gm r h => ?_, fun gm h0 h3 => ⟨fun ht => ?_, fun ha => ?_,
    fun ht ha => ?_⟩, fun gm passive h2 => ⟨fun hu => ?_, fun hst => ?_⟩, fun gm slave passive h0 h3 hsl => ?_⟩,
    fun s hs => ⟨fun port => ⟨?_, ?_, ?_, fun kind hk => ?_⟩, fun port rxS => ⟨?_, ?_, fun kind hk => ?_⟩, ?_, ?_, fun c hc => ?_,
      fun port queue now hp => ?_, fun port id ts hp => ⟨fun hi => ?_, fun hi hn => ?_, fun hi hn => ?_⟩,
      fun port hp => ⟨fun e r h => ?_, fun h => ?_⟩⟩⟩
  -- SYNC_RECEIVED
  · simp only [answers_syncReceived hs]
    split
    · next h =>
      refine ⟨fun hst => syncReceived_unset_leaves h origin rxS hst,
        fun hst => ⟨fun hw => syncReceived_acquire_waits h origin rxS hst hw,
          fun h3 hv hp => syncReceived_acquire_sets h origin rxS hst h3 hv hp⟩,
        fun hst hp => ⟨fun hin => syncReceived_inside_leaves h origin rxS hst hp hin,
          fun hout hn => syncReceived_outlier_leaves h origin rxS hst hp hout hn,
          fun hout hn => syncReceived_third_leaves h origin rxS hst hp hout hn⟩, fun hu ha hor => ?_⟩
      rcases hor with hh | ⟨ht, hh, hg⟩
      · exact syncReceived_held h origin rxS hu ha hh
      · refine syncReceived_shown h origin rxS hu ha fun hc => ?_
        rcases hc with ht' | hh' | ⟨hg', hj⟩
        · exact ht ht'
        · exact hh hh'
        · exact hg.elim (absurd hg') fun hn => absurd (hj.symm.trans hn) (by decide)
    · next h => exact syncReceived_ignored h origin rxS
  -- PATH_DELAY_MEASURED
  · exact (answers_pathDelayMeasured hs).mpr (pathDelayMeasured_ignored h ns)
  · simp only [answers_pathDelayMeasured hs]
    rw [pathDelayMeasured_counts h]
    split
    · next hv => exact pathDelay_first_leaves hp hv ns
    next hv =>
    have hv : flag s.dev (Reg.TU_PORT_STATE_PD_VALID port) = true := by simpa using hv
    split
    · next hh => exact pathDelay_none_leaves hp hv hh ns
    · next hh => exact pathDelay_some_leaves hp hv hh ns
  -- ANNOUNCE_RECEIVED
  · exact (answers_announceReceived hs).mpr (announceReceived_ignored h gm)
  · rw [answers_announceReceived hs, announceReceived_counts hpt hsrc]
    have ht := bmcApply_regsBut gm slave passive s.dev
    obtain ⟨hport, htime⟩ := bmcApply_slave_shown gm slave passive s.dev hsl
    refine ⟨hport, bmcApply_master gm slave passive s.dev, fun hg => (ht _ (by decide)).trans (slaveShown_gm hg gm slave passive),
      fun hg => (ht _ (by decide)).trans (slaveShown_own hg gm slave passive), tuState_bmcApply gm slave passive s.dev, fun hg => ?_, htime⟩
    rw [bmcApply_grandmaster gm slave passive hg]
    exact ⟨rfl, rfl⟩
  · rw [answers_announceReceived hs, announceReceived_counts hpt hsrc]
    split
    · next h =>
      rw [bmcApply_self h.1 h.2]
      exact becomeGm_runs_leaves (gmStates_set h.2).1 passive
    · next h => exact bmcApply_self_ignored h gm passive
  -- ANNOUNCE_TIMEOUT
  · exact (answers_announceTimeout hs).mpr (announceTimeout_ignored h gm r)
  · exact (answers_announceTimeout hs).mpr (announceTimeout_tracking h0 h3 gm ht)
  · exact (answers_announceTimeout hs).mpr (announceTimeout_acquire h0 h3 gm ha)
  · exact (answers_announceTimeout hs).mpr (announceTimeout_other h0 h3 gm ht ha)
  · rw [answers_announceTimeout hs, announceTimeout_self_unset h2 gm passive hu]
    obtain ⟨hst, hg, hv, ht, hid⟩ := becomeGm_unset_leaves ((tuState_offsetLost s.dev).trans hu) passive
    exact ⟨hst, hg, hv, ht, fun hf => hid ((flag_of_regsBut (offsetLost_regsBut s.dev) (by decide)).trans hf)⟩
  · rw [answers_announceTimeout hs, announceTimeout_self_runs h2 gm passive hst]
    obtain ⟨hg, hf, -, hw, ht⟩ := becomeGm_runs_leaves (d := offsetLost s.dev) (by rw [tuState_offsetLost]; exact (gmStates_set hst).1) passive
    exact ⟨hg, hf, hw, ht.trans (offsetLost_regsBut s.dev _ (by decide))⟩
  · exact (answers_announceTimeout hs).mpr (announceTimeout_slave_leaves h0 h3 gm passive hsl)
  -- PTP_INTERVAL_TIMER
  · rw [answers_ptpIntervalTimer hs, ptpIntervalTimer_sync]
    split <;> rfl
  · rw [answers_ptpIntervalTimer hs, ptpIntervalTimer_announce]
    split
    · split <;> rfl
    · rfl
  · rw [answers_ptpIntervalTimer hs, ptpIntervalTimer_delay]
    split <;> rfl
  · rw [answers_ptpIntervalTimer hs, ptpIntervalTimer_peer _ _ hk]
    split <;> rfl
  -- DELAY_REQ_RECEIVED
  · rw [answers_delayReqReceived hs, delayReqReceived_delay]
    split <;> rfl
  · rw [answers_delayReqReceived hs, delayReqReceived_peer]
    split <;> rfl
  · rw [answers_delayReqReceived hs]
    split
    · next h =>
      rw [delayReqReceived_management _ _ _ hk h]
      exact managementCounted_leaves s.dev port
    · next h => exact delayReqReceived_off (by simpa using h) kind rxS
  -- SCHED_TIME_SAVE
  · rw [answers_schedTimeSave hs]
    split
    · next h => exact schedTimeSave_leaves h
    · next h => exact schedTimeSave_unset (by simpa using h)
  -- TIME_REALIGN
  · exact (answers_timeRealign hs).mpr (timeRealign_none_leaves s.dev)
  · exact (answers_timeRealign hs).mpr (timeRealign_one_leaves hc s.dev)
  -- FRAME_LAUNCH
  · simp only [answers_frameLaunch hs]
    split
    · next h => exact launchHead_none h
    · next f h =>
      split
      · next hw => exact launchHead_waits h hw
      · next hw =>
        split
        · next hd => exact launchHead_drops_leaves h hw hp hd
        · next hd => exact launchHead_sends_leaves h hw hp hd
  -- TXTS_APPEND
  · subst hi
    exact (answers_txtsAppend hs).mpr (txtsNote_none port ts s.dev)
  · exact (answers_txtsAppend hs).mpr (txtsNote_put hi hn ts)
  · exact (answers_txtsAppend hs).mpr (txtsNote_refused hp hi hn ts)
  -- TXTS_ID_READ
  · exact (answers_txtsIdRead hs).mpr (txtsIdRead_leaves h)
  · exact (answers_txtsIdRead hs).mpr (txtsIdRead_empty h)

end Sys2Proof.Machine
end
